-- ==== Sys2Proof/Word.lean ====
section
/-!
DEFINITION. Words of the LXT-RC1: the widths the manual uses for register contents, memory words and frames, and their
plainest arithmetic (00 Notation, R3, R17 in 01).
-/

namespace Sys2Proof

/-- One byte of an image, a frame or memory. -/
abbrev Byte := BitVec 8
/-- A register word (R3: every register is 32 bits wide). -/
abbrev W32 := BitVec 32
/-- A 64-bit quantity (identities, value fields). -/
abbrev W64 := BitVec 64
/-- A memory word, a token, a point record (01 Memory: words are 128 bits wide). -/
abbrev W128 := BitVec 128
/-- A 32-byte digest, fingerprint or key, byte 0 in bits [7:0]. -/
abbrev W256 := BitVec 256
/-- A granule: 64 bytes, byte 0 in bits [7:0] (01 R18). -/
abbrev Granule := BitVec 512

/-- One more, saturating at a bound. Saturating counts occur in every register block. -/
def satSucc (bound n : Nat) : Nat := if n < bound then n + 1 else bound

/-- Addition saturating at a bound. -/
def satAdd (bound n k : Nat) : Nat := if n + k < bound then n + k else bound

/-- The bound of a 32-bit saturating count. -/
def max32 : Nat := 0xFFFFFFFF

/-- A natural number as a 32-bit register value, saturating. -/
def sat32 (n : Nat) : W32 := BitVec.ofNat 32 (if n < max32 then n else max32)

/-- A natural number as a 16-bit field value, saturating. -/
def sat16 (n : Nat) : Nat := if n < 0xFFFF then n else 0xFFFF

/-- An integer as a 32-bit two's complement value that saturates at the limits of the type (05 R149). -/
def satInt32 (i : Int) : W32 :=
  if i < -2147483648 then BitVec.ofInt 32 (-2147483648)
  else if 2147483647 < i then BitVec.ofInt 32 2147483647
  else BitVec.ofInt 32 i

/-- The little-endian value of a list of bytes (00 Notation: multi-byte fields are little-endian). -/
def leNat : List Byte → Nat
  | [] => 0
  | b :: bs => b.toNat + 256 * leNat bs

/-- The `n` little-endian bytes of a number. -/
def leBytes : Nat → Nat → List Byte
  | 0, _ => []
  | n + 1, v => BitVec.ofNat 8 v :: leBytes n (v / 256)

end Sys2Proof
end

