-- ==== Sys2Proof/Syntax.lean ====
section
/-!
DEFINITION. The commands of the block: one constructor of `Instr` for each row of spec/opcode_table.json, with the data
that the event it stands for brings from outside (a message's fields, a measured quantity, a word of a lane). Indexes are
`Fin` of the ranges of R9.
-/

namespace Sys2Proof

/-- The two lanes (00 R9: lanes are not numbered). -/
inductive Lane where
  | A
  | B
  deriving DecidableEq, Repr

/-- The units, paths and interfaces of the hub whose checks R13 and R14 of 01 describe, with the unit codes 1 to 10 of 07 R202. -/
inductive HubUnit where
  | releaseLogic | deliverySequencer | memoryPath | protection | leaseLogic
  | dataPath
  | memoryDie | linkDie | storageDie | powerDie
  deriving DecidableEq, Repr

/-- What the checks of one command found: nothing; by the memory controller's check of the words read (01 R19), a number of correctable
words, or an uncorrectable word at an address of R511; or a disagreement or check-code failure in the hub (01 R13, R14). -/
inductive MemCheck where
  | clean
  | correctable (n : Nat)
  | uncorrectable (addr : Nat)
  | hub (u : HubUnit)
  deriving DecidableEq, Repr

/-- What a lane's checks of its private state found (01 R23): nothing, corrected words of the lane buffer, or a parity error or an
uncorrectable word. -/
inductive LaneCheck where
  | clean
  | corrected (n : Nat)
  | parity
  deriving DecidableEq, Repr

/-! ### Arithmetic of tiles and cores (03 R57, R72 to R74) -/

/-- Floating-point operations of R72. -/
inductive FpOp where
  | add | sub | mul | div | sqrt | fma | min | max
  deriving DecidableEq, Repr

/-- Integer operations of R73. -/
inductive IntOp where
  | add | sub | mul | div | shl | shr
  deriving DecidableEq, Repr

/-- Boolean operations on whole words (R57). -/
inductive BoolOp where
  | band | bor | bxor | bnot
  deriving DecidableEq, Repr

/-- Comparisons (R72). -/
inductive CmpRel where
  | eq | ne | lt | le | gt | ge
  deriving DecidableEq, Repr

/-- The element widths of R73. -/
inductive IntWidth where
  | w8 | w16 | w32 | w64
  deriving DecidableEq, Repr

/-- The operations of the arithmetic unit: binary32 on four elements, binary64 on two, integer, boolean, compare, select,
conversions, a function of the block library (R57, R72, R73, R74), and the time blocks of 05 R147 and R148: the elapsed time of a
release, and a timer's step. `dbl` selects binary64. -/
inductive AluOp where
  | fp32 (op : FpOp)
  | fp64 (op : FpOp)
  | int (op : IntOp) (w : IntWidth) (signed saturating : Bool)
  | logic (op : BoolOp)
  | cmpFp (rel : CmpRel) (dbl : Bool)
  | cmpInt (rel : CmpRel) (w : IntWidth) (signed : Bool)
  | select
  | f32to64
  | f64to32
  | intToFp (w : IntWidth) (signed dbl : Bool)
  | fpToInt (w : IntWidth) (signed dbl : Bool)
  | lib (fn : Nat) (dbl : Bool)
  | elapsed
  | timer
  deriving DecidableEq, Repr

/-- One instruction of a sequencer core, by what it does; the encoding is not documented (R44, 03 introduction). Registers
are numbered, their number is not stated. -/
inductive CoreOp where
  | alu (op : AluOp) (rd ra rb rc : Nat)
  | token (rd input : Nat)
  | send (output rs : Nat)
  | loadSram (rd addr : Nat)
  | storeSram (addr rs : Nat)
  | loadSpill (rd addr : Nat)
  | storeSpill (addr rs : Nat)
  | loadHub (rd : Nat) (addr : W32)
  | storeHub (addr : W32) (rs : Nat) (bytes : Fin 17)
  | rmwHub (addr : W32) (op : AluOp) (rd rs : Nat)
  | call (svc rd rs : Nat)
  | serviceForbidden
  | undefinedInstr
  | endRoutine
  deriving DecidableEq, Repr

/-! ### Lane words (07 R176, R180) -/

/-- The kind of an outbound word (R180). -/
inductive WordKind where
  | outputRecord
  | persistent
  | varWrite
  | readRequest
  | serviceCall
  | digest
  deriving DecidableEq, Repr

/-- A word that leaves a lane: its tag (kind, target address, byte enables), its data and the task it belongs to. -/
structure LaneWord where
  kind : WordKind
  addr : Nat
  enables : BitVec 16
  data : W128
  task : Fin 128
  deriving DecidableEq, Repr

/-- A fault found by the col's own checks while a word passes (R184 class 2, subclasses 1 to 3). -/
inductive ColFault where
  | checker
  | delayParity
  | delayOccupancy
  deriving DecidableEq, Repr

/-! ### Release records and pair messages (04 R102, R110; 08) -/

/-- The release record of R102. -/
structure RelRec where
  relts : Nat
  cycle : W32
  trigger : Byte
  reason : Byte
  missed : Byte
  flags : Byte
  trigts : Nat
  arg : W32
  info : W32
  deriving DecidableEq, Repr

/-- A station verdict carried by a release notice (R266). -/
structure StnVerdict where
  link : Fin 24
  pos : Fin 32
  out : Bool
  deriving DecidableEq, Repr

/-- A release notice (R110) with the holder's local readings (R220), the islands whose points the standby takes from its own
readings, and the holder's station verdicts (R266). -/
structure Notice where
  task : Fin 128
  record : RelRec
  readings : List (BitVec 16 × W128)
  ownIslands : BitVec 24
  verdicts : List StnVerdict
  deriving DecidableEq, Repr

/-- How a message of the pair has come (08 R204): the saddle link, its sequence number, and how many errors the link has corrected or
detected since the message before it (PAIR_STSAD0ERR, PAIR_STSAD1ERR). -/
structure Via where
  link : Fin 2
  seq : Nat
  errs : Nat
  deriving DecidableEq, Repr

/-- A lease heartbeat with what it carries of the sender: time base and PTP offset (R135), lease (R208, R210, R230), and the
state of the partner (R488). -/
structure Heartbeat where
  timeBase : Nat
  ptpOfs : Int
  delay : Nat
  /-- Of the sender's latest heartbeat that reached this module on this link: its send time, and for how long this module has had it. -/
  echo : Option (Nat × Nat)
  noLease : Bool
  holder : Bool
  epoch : W32
  leaseEnd : Nat
  /-- The renewal round k and the lease duration D in ns of a holder (R208). -/
  round : Nat
  duration : Nat
  ident : W64
  modState : Fin 10
  idleState : BitVec 4
  runId : W256
  idleId : W256
  deriving DecidableEq, Repr

/-- A mirror message: a task's cycle and the granules it wrote; no task for host writes and window writes (R222, R224,
R163). Granules are named by the granule index of CMAP. -/
structure MirrorMsg where
  task : Option (Fin 128)
  cycle : W32
  granules : List (Nat × Granule)
  deriving DecidableEq, Repr

/-- A key slot as a key table holds it (R38). -/
inductive KeySlot where
  | empty
  | active (key : W256)
  | revoked (key : W256)
  deriving DecidableEq, Repr

/-- What the partner's messages tell a starting module (R466 to R468, R475). -/
structure PartnerInfo where
  ident : W64
  modState : Fin 10
  keys : List KeySlot
  runId : W256
  idleId : W256
  idleState : BitVec 4
  pairMin : BitVec 4
  pairMax : BitVec 4
  timeBase : Nat
  ptpOfs : Int
  origin : Nat
  cycles : List (Fin 128 × W32 × W32)
  epoch : W32
  leaseEnd : Nat
  deriving DecidableEq, Repr

/-- The registers a session stages for a command (R485, R487). -/
structure Staging where
  modArg : BitVec 2
  tskHevtVal : W32
  lnkSel : Fin 24
  chSel : Fin 192
  islSel : Fin 24
  chArg : W64
  frcSel : Nat
  frcTgt : W64
  frcVal : W64
  frcCfg : BitVec 6
  evrArg : W32
  lcdSel : Fin 16
  lcdText : BitVec 64
  lcdIcons : W32
  sesSel : Fin 64
  deriving DecidableEq, Repr

/-- What a standby relays to the holder (R396, R397, R117, R150, R41). -/
inductive RelayBody where
  | varWrite (addr : W32) (data : List Byte)
  | regCmd (off : Nat) (value : W32)
  | change (ident : W256)
  | chunk (offset : Nat) (data : List Byte)
  | key (stmt sig : List Byte)
  | claimGone
  deriving DecidableEq, Repr

/-- A relayed write: its number, the writing session, the session's effective masks and staging (R396, R397). -/
structure RelayMsg where
  id : Nat
  session : Fin 64
  readMask : BitVec 16
  writeMask : BitVec 16
  classMask : BitVec 14
  staging : Staging
  body : RelayBody
  deriving DecidableEq, Repr

/-- A force change as it is forwarded (R169). -/
inductive ForceOp where
  | set (entry : Fin 4096) (cfg : BitVec 6) (target value : W64)
  | clear (entry : Fin 4096)
  | clearAll
  deriving DecidableEq, Repr

/-- A channel or island command as it is placed or forwarded (R289, R290). -/
inductive ChanCmd where
  | calIsland (n : Fin 24)
  | urgent (c : Fin 192)
  | owtest (c : Fin 192) (testVoltage : Bool)
  | calload (c : Fin 192) (offset gain : W32)
  | cntpreset (c : Fin 192) (value : W32)
  | cntreset (c : Fin 192)
  | supplyRelease (n : Fin 24)
  | islRestart (n : Fin 24)
  deriving DecidableEq, Repr

/-! ### PTP (05 R130) -/

/-- An announce message: the fields the best master clock algorithm compares. -/
structure PtpAnnounce where
  port : Fin 2
  domain : Byte
  gmId : W64
  priority1 : Byte
  clockClass : Byte
  accuracy : Byte
  variance : BitVec 16
  priority2 : Byte
  stepsRemoved : BitVec 16
  sender : W64
  /-- The base-2 logarithm of the announce interval in s. -/
  logInterval : Int
  deriving DecidableEq, Repr

/-- A sync message: port, domain, sender, sequence, receive instant, origin time, correction, whether a Follow_Up comes, and the base-2
logarithm of the sync interval in s. -/
structure PtpSync where
  port : Fin 2
  domain : Byte
  sender : W64
  seq : BitVec 16
  rx : Nat
  origin : Nat
  correction : Int
  twoStep : Bool
  logInterval : Int
  deriving DecidableEq, Repr

/-- A Follow_Up message: port, domain, sender, sequence, precise origin time, correction. -/
structure PtpFollowUp where
  port : Fin 2
  domain : Byte
  sender : W64
  seq : BitVec 16
  origin : Nat
  correction : Int
  deriving DecidableEq, Repr

/-- A Delay_Resp message: port, domain, sender, sequence, receive instant at the master, correction, and whether it names this module's
port as the requesting one. -/
structure PtpDelayResp where
  port : Fin 2
  domain : Byte
  sender : W64
  seq : BitVec 16
  rx : Nat
  correction : Int
  forUs : Bool
  deriving DecidableEq, Repr

/-! ### Vale frames (09 R242, R243) -/

/-- A witness reply: ACK, GRANT or DENY (R253). -/
structure WitnessMsg where
  link : Fin 24
  pos : Fin 32
  epoch : W32
  seq : W32
  ident : W64
  wait : W32
  cause : Byte
  deriving DecidableEq, Repr

/-- An INPUT frame part as received: the header fields of R242 and its records. `valid` is the frame check of R241, R242. -/
structure InputFrame where
  link : Fin 24
  valid : Bool
  pos : Fin 32
  epoch : W32
  sample : W32
  part : Fin 46
  parts : Fin 47
  hops : Byte
  time : Nat
  first : BitVec 16
  records : List W128
  deriving DecidableEq, Repr

/-- A complete sample as relayed over the saddle links (R239). -/
structure Sample where
  link : Fin 24
  pos : Fin 32
  time : Nat
  records : List W128
  deriving DecidableEq, Repr

/-- IDENT_RESP (R259). -/
structure IdentResp where
  link : Fin 24
  pos : Fin 32
  epoch : W32
  vendor : W32
  device : W32
  serial : W64
  version : BitVec 16
  maxIn : BitVec 16
  maxOut : BitVec 16
  minPeriod : BitVec 16
  maxParam : W32
  witnessCapable : Bool
  hops : Byte
  deriving DecidableEq, Repr

/-- STATUS (R252). -/
structure StationStatus where
  link : Fin 24
  pos : Fin 32
  twin : W32
  stale : W32
  unchecked : W32
  watchdog : W32
  epoch : W32
  fcsP : W32
  fcsQ : W32
  state : Fin 4
  flags : BitVec 2
  hops : Byte
  deriving DecidableEq, Repr

/-- A frame of the partner that has passed the chain (R244). -/
structure PartnerFrame where
  link : Fin 24
  type : Byte
  hops : Byte
  deriving DecidableEq, Repr

/-! ### CAN (14) -/

/-- A CAN frame (R365): identifier, format and kind, and its data bytes. -/
structure CanFrame where
  ident : BitVec 29
  extended : Bool
  fd : Bool
  brs : Bool
  remote : Bool
  data : List Byte
  deriving DecidableEq, Repr

/-- What ended a transmission attempt: lost arbitration, or an error of CAN_STATUS.LEC (R371, R384). -/
inductive CanErr where
  | arbitration
  | stuff
  | form
  | ack
  | bitRecessive
  | bitDominant
  | crc
  | delay
  deriving DecidableEq, Repr

/-! ### Debug port (15 R409) -/

/-- What a debug read names: a granule's word by its address, or a word of lane state with its sealed mark (R195, R409). -/
inductive DebugTarget where
  | memory (addr : W32)
  | tile (lane : Lane) (tile : Fin 16384) (word : Fin 64) (isSealed : Bool)
  | coreReg (lane : Lane) (core : Fin 8) (reg : Nat) (isSealed : Bool)
  | laneBuffer (lane : Lane) (addr : Nat) (isSealed : Bool)
  deriving DecidableEq, Repr

/-- What an analogue input measures in one conversion, in volts (R294, R297, R301, R302): the voltage at the measuring terminals (mode 2:
across the 50 Ω shunt); for modes 3 and 4 that with the excitation reversed, and in three-wire connection the voltage that the matched second
current drops in the third lead. -/
structure AiInput where
  v : W64
  reversed : W64
  lead : W64
  deriving DecidableEq, Repr

/-- The observations of an open-wire test (R312, R313): the voltage of the diagnostic conversion and, where the sense leads of modes 3 and 4
are tested, whether it is at the positive clip; the difference Δ of the test-voltage method in µV; or that only the excitation is judged. -/
inductive OwObs where
  | current (senseAtClip : Bool) (v : W64)
  | testVoltage (deltaMicrovolt : Nat)
  | excitation
  deriving DecidableEq, Repr

/-- **The commands.** One constructor for each row of spec/opcode_table.json, in the table's order. -/
inductive Instr where
  -- memory and persistent store
  | memoryScrub (chk : MemCheck)
  | persistentWriteReadback (ok : Bool)
  -- releases, the Plain, cores
  | taskRelease (t : Fin 64) (chk : MemCheck)
  | eventRelease (chk : MemCheck)
  | slotFiring (lane : Lane) (tile : Fin 16384) (slot : Fin 16) (parity : Bool)
  | tokenHop (lane : Lane) (tile : Fin 16384) (dir : Fin 4)
  | routineStart (lane : Lane) (core : Fin 8)
  | coreInstruction (lane : Lane) (core : Fin 8) (op : CoreOp) (chk : LaneCheck)
  | svcRecorderEntry (core : Fin 8) (code : BitVec 12) (sev : BitVec 2) (data : BitVec 112)
  | svcCanQueue (core : Fin 8) (port : Fin 4) (buf : Fin 32) (frame : CanFrame)
  | svcCanAbort (core : Fin 8) (port : Fin 4) (buf : Fin 32)
  | svcCanRead (core : Fin 8) (port : Fin 4)
  | svcUrgent (core : Fin 8) (c : Fin 192)
  | svcOwtest (core : Fin 8) (c : Fin 192) (testVoltage : Bool)
  | svcCntpreset (core : Fin 8) (c : Fin 192) (value : W32)
  | svcCntreset (core : Fin 8) (c : Fin 192)
  | svcPanelUpdate (core : Fin 8) (region : Nat) (text : BitVec 48) (icons : W32)
  | inboundWordDelivery (stream : Fin 72) (chk : MemCheck)
  | colWordCompare (lane : Lane) (stream : Fin 74) (changed : Option LaneWord) (fault : Option ColFault) (chk : MemCheck)
  | colMissingWord (stream : Fin 74)
  | taskCompletion (t : Fin 128) (chk : MemCheck)
  | mirrorApply (via : Via) (msg : MirrorMsg)
  | releaseNoticeReceive (via : Via) (notice : Notice)
  | noticeTimeout (t : Fin 64)
  | statisticsBoundary
  | healthReportReceive (via : Via) (report : W32)
  | tskHevt (se : Fin 64) (value : W32)
  -- time base
  | oscillatorCompensation (temp : BitVec 16) (plDiffPpm : Nat)
  | ptpSyncReceive (m : PtpSync)
  | ptpAnnounceReceive (m : PtpAnnounce)
  | ptpHoldoverTimeout
  | ptpListeningTimeout
  | timeMappingInterval
  | heartbeatReceive (via : Via) (h : Heartbeat)
  | pairAlignmentLoss
  | valeTimeSend
  -- on-line change and forcing
  | change (se : Fin 64) (tag : W32) (ident : W256)
  | switchCandidateReceive (via : Via) (r : Nat) (swap : Bool)
  | switchInstant
  | switchVerdictReceive (via : Via) (ready : Bool)
  | switchVerdictTimeout
  | switchSearchTimeout
  | switchWindowEnd
  | terraceRecordWrite
  | frcSet (se : Fin 64)
  | frcClear (se : Fin 64)
  | frcClearall (se : Fin 64)
  | forceChangeReceive (via : Via) (id : Nat) (op : ForceOp) (at_ : Nat)
  | forceActivation
  -- structure image
  | imageChunk (se : Fin 64) (tag : W32) (offset : Nat) (data : List Byte)
  | forwardedChunkReceive (via : Via) (offset : Nat) (data : List Byte)
  | verificationComplete
  | imageStoreComplete (ok : Bool)
  | arm (se : Fin 64)
  | armComplete (changedA changedB : Option W128)
  | partnerArmedReport (via : Via) (code : Byte)
  | disarm (se : Fin 64)
  | abort (se : Fin 64)
  | clear (se : Fin 64)
  | archive (se : Fin 64) (arg : BitVec 4)
  | restore (se : Fin 64) (arg : BitVec 4)
  | key (se : Fin 64) (tag : W32) (stmt sig : List Byte)
  | keyOpForwardReceive (via : Via) (id : Nat) (stmt : List Byte)
  | idleSweepPass (changedA changedB : Option W128)
  -- debug port, lanes
  | debugCredential (cred : List Byte) (probeKey : W256)
  | debugHalt (lane : Lane) (relinquish : Bool)
  | debugStep
  | debugResume
  | debugRead (target : DebugTarget) (chk : MemCheck)
  | debugWrite (addr : W32) (data : W128)
  | commissionOn (se : Fin 64)
  | commissionOff (se : Fin 64)
  | recheck (se : Fin 64)
  | recheckInstant
  | recheckTimeout
  -- pair
  | saddleLinkDown (l : Fin 2) (inFlight : Nat)
  | saddleSilenceTimeout (l : Fin 2) (inFlight : Nat)
  | saddleLinkUp (l : Fin 2)
  | leaseRenewalRound (chk : MemCheck)
  | witnessAckReceive (m : WitnessMsg)
  | leaseEnd
  | standbyLeaseExpiry
  | claimRound
  | claimAnnounceReceive (via : Via) (epoch : W32)
  | grantReceive (m : WitnessMsg) (chk : MemCheck)
  | denyReceive (m : WitnessMsg)
  | swap (se : Fin 64)
  | roleSwapDue
  | swapInstant
  | yieldReceive (via : Via) (epoch : W32) (successor : W64)
  | voltageReleaseConfirmReceive (via : Via)
  | swapReclaimTimeout
  | resync (se : Fin 64)
  | resyncComplete (granules : List (Nat × Granule)) (forces : List (Fin 4096 × BitVec 6 × W64 × W64))
  | canTxConfirmReceive (via : Via) (port : Fin 4) (buf : Fin 32) (task : Fin 128) (cycle : W32)
  | standbyConfirmationReceive (via : Via) (id : Nat)
  | relayedWriteReceive (via : Via) (m : RelayMsg)
  | relayVerdictReceive (via : Via) (id : Nat) (status : Fin 13) (result : W32)
  | partnerPresenceChange (present : Bool)
  -- Vale links
  | valeInputReceive (f : InputFrame)
  | relayedSampleReceive (via : Via) (m : Sample)
  | sampleDue (l : Fin 24) (p : Fin 32)
  | identRespReceive (m : IdentResp)
  | paramAckReceive (l : Fin 24) (p : Fin 32) (epoch : W32) (offset : Nat) (result : Fin 4) (reason : Byte)
  | startAckReceive (l : Fin 24) (p : Fin 32) (epoch : W32) (result : Fin 4)
  | stationStatusReceive (m : StationStatus)
  | stationReplyTimeout (l : Fin 24) (p : Fin 32)
  | stationSearchPoll (l : Fin 24)
  | stationRefusedRetry (l : Fin 24) (p : Fin 32)
  | valePortUp (l : Fin 24)
  | valePortDown (l : Fin 24)
  | partnerFrameReceive (m : PartnerFrame)
  | pdelayMeasurement (l : Fin 24)
  | pdelayRespReceive (l : Fin 24) (epoch : W32) (t4 : Nat) (turn : Nat)
  | pdelayReqReceive (l : Fin 24) (epoch : W32) (t2 : Nat)
  | eventOutputRepeat
  | lnkRestart (se : Fin 64) (p : Fin 32)
  | lnkRestartLink (se : Fin 64)
  | lnkRetry (se : Fin 64) (p : Fin 32)
  -- islands and channels
  | fordPeriod
  | fordReturnFrame (n : Fin 24) (crcOk : Bool)
  | islandFrameAccept (n : Fin 24) (crcOk fault : Bool) (arrival : Nat)
  | logicSilenceTimeout (n : Fin 24)
  | islandVbMeasurement (n : Fin 24) (mV : Nat) (temp : BitVec 16)
  | calIsland (se : Fin 64)
  | urgent (se : Fin 64)
  | owtest (se : Fin 64)
  | calload (se : Fin 64)
  | cntpreset (se : Fin 64)
  | cntreset (se : Fin 64)
  | supplyRelease (se : Fin 64)
  | islRestart (se : Fin 64)
  | channelCommandForwardReceive (via : Via) (id : Nat) (cmd : ChanCmd) (at_ : Nat)
  | channelCommandActivation
  | islandRestartPowerOn (n : Fin 24)
  | calibrationComplete (n : Fin 24) (factors : List (Fin 8 × W32 × W32))
  | aiConversionComplete (c : Fin 192) (code : BitVec 24) (m : AiInput)
  | urgentComplete (c : Fin 192) (code : BitVec 24) (m : AiInput)
  | urgentResultReceive (via : Via) (c : Fin 192) (value : W64) (stamp : Nat)
  | urgentResultTimeout (c : Fin 192)
  | openwireTestStart (c : Fin 192)
  | openwireTestComplete (c : Fin 192) (obs : OwObs)
  | cjMeasurement (n : Fin 24) (temp : BitVec 16)
  | cjFaultEnd (n : Fin 24)
  | readbackConversion (c : Fin 192) (value : W64) (ownMicro totalMicro : Nat) (vterm : Nat)
  | aoThermalCrossing (c : Fin 192) (temp : BitVec 16)
  | complianceEntry (c : Fin 192) (vterm : Nat) (deliveredMicro : Nat)
  | complianceClearTimeout (c : Fin 192)
  | aoOpenLoopTimeout (c : Fin 192)
  | voltageOutputLeaseEnd (n : Fin 24)
  | diTerminalSample (c : Fin 192) (vterm : BitVec 16)
  | diFilterExpiry (c : Fin 192)
  | diWirebreakTimeout (c : Fin 192)
  | doComplianceTimeout (c : Fin 192)
  | doThermalShutdown (c : Fin 192) (temp : BitVec 16)
  | doThermalRetry (c : Fin 192)
  | doThermalClear (c : Fin 192) (temp : BitVec 16)
  | doOpenLoadTimeout (c : Fin 192)
  | doExtdriveTimeout (c : Fin 192)
  | gangImbalanceTimeout (c : Fin 192)
  | pwmPeriodStart (c : Fin 192)
  | pwmOff (c : Fin 192)
  | lplusMeasurement (n : Fin 24) (v10 : Nat)
  | lplusRestoreTimeout (n : Fin 24)
  -- CAN
  | canTxStart (p : Fin 4)
  | canTxComplete (p : Fin 4)
  | canTxError (p : Fin 4) (err : CanErr) (dataPhase passiveNoDominant : Bool)
  | canFrameReceive (p : Fin 4) (frame : CanFrame) (stamp : Nat)
  | canRxNoticeReceive (via : Via) (p : Fin 4) (frame : CanFrame) (filter : Fin 32) (stamp completion : Nat)
  | canBusoffRecovery (p : Fin 4)
  -- sessions
  | open_ (conn : Nat) (tag : W32) (cred : List Byte)
  | openTimeout (conn : Nat)
  | close (se : Fin 64) (tag : W32)
  | keepalive (se : Fin 64) (tag : W32)
  | read (se : Fin 64) (tag : W32) (addr len : W32) (chk : MemCheck)
  | write (se : Fin 64) (ack : Bool) (tag : W32) (addr : W32) (data : List Byte) (chk : MemCheck)
  | fence (se : Fin 64) (tag : W32)
  | historyRead (se : Fin 64) (tag : W32) (buffer : W32) (offset : Nat) (len : W32) (chk : MemCheck)
  | firmwareChunk (se : Fin 64) (tag : W32) (offset : Nat) (data : List Byte) (last : Bool)
  | firmwareVerifyComplete (version : BitVec 16) (pairMin pairMax : BitVec 4) (valid : Bool)
  | sessionIdleTimeout (se : Fin 64)
  | tlsAlert (se : Fin 64)
  | wakeKey
  | enrolmentWakeHold
  | enrolmentTimeout
  | enrolmentSessionClose
  | acquire (se : Fin 64)
  | release (se : Fin 64)
  | claimLapseTimeout
  | sesClose (se : Fin 64)
  | breakClaim (se : Fin 64)
  | sesViolclr (se : Fin 64) (value : W32)
  | sesMapsync (se : Fin 64) (value : W32)
  | mapsyncComplete (se : Fin 64)
  | chDiag (se : Fin 64) (value : W32)
  | loRegisterRead (se : Fin 64) (off : Nat)
  | chAiValLoRead (se : Fin 64)
  | chAiUrgvalLoRead (se : Fin 64)
  | evrWin0Read (se : Fin 64)
  | evrWin7Read (se : Fin 64)
  | registerWrite (se : Fin 64) (off : Nat) (value : W32)
  -- power
  | supplyInputMeasurement (inA inB bus : Nat)
  | supplyRecovery
  | inputLossTimeout (b : Bool)
  | inputRestoreTimeout (b : Bool)
  | railPowerGood (rail : Fin 7) (capacitance : Nat)
  | railSequenceTimeout (rail : Fin 7)
  | railSequenceRetry
  | railFault (rail : Fin 7) (mV : Nat)
  | holdupStopLevel
  | holdupRecorderCloseLevel
  | holdupResetLevel
  | holdupPanelEnd
  | holdupRecharged
  | stoppedRecoveryTimeout
  | ceilingHold (se : Fin 64)
  | track (se : Fin 64)
  | holdupTest (se : Fin 64)
  | holdupTestComplete (capacitance : Nat)
  | marginControlPeriod
  | marginlowClearTimeout
  | telemetryMeasurement (temps : List (BitVec 16)) (rails : List Nat) (pin : Nat) (chk : MemCheck)
  | operatingTimeSave
  -- event recorder
  | recordWrite (chk : MemCheck)
  | recordComplete
  | rateBucketFull (code : BitVec 16)
  | evrClear (se : Fin 64)
  | recorderClearComplete
  | setrate (se : Fin 64)
  | ratedefault (se : Fin 64)
  -- panel
  | panelFrameStart
  | update (se : Fin 64)
  | wake (se : Fin 64)
  | panelLowpowerTimeout
  -- state commands and start-up
  | restartWarm (se : Fin 64)
  | restartCold (se : Fin 64)
  | stop (se : Fin 64)
  | fwActivate (se : Fin 64)
  | fwAbort (se : Fin 64)
  | bootComplete (fwOk fwOtherOk : Bool) (selfTest : Option (Lane × Fin 4 × W32)) (slot : Bool)
  | configPartnerListen (partner : Option PartnerInfo)
  | imageFetchComplete (data : List Byte)
  | configComplete
  | joinDecision (partner : Option PartnerInfo)
  | joinWaitTimeout
  | fullMirrorComplete (granules : List (Nat × Granule)) (forces : List (Fin 4096 × BitVec 6 × W64 × W64)) (join : Nat)
  | joinInstant
  -- rows at the end of the table
  | partnerReadingsReceive (via : Via) (t : Fin 128) (cycle : W32) (readings : List (BitVec 16 × W128))
  | partnerReadingsTimeout (t : Fin 128)
  | partnerStationMapReceive (via : Via) (maps : List (Fin 24 × W32))
  | ptpDelayRespReceive (m : PtpDelayResp)
  | ptpFollowUpReceive (m : PtpFollowUp)
  | ringOpenTimeout (l : Fin 24)
  | partnerShareVanished (n : Fin 24) (mask : Byte) (restoreMicros : Nat)
  | canRxError (p : Fin 4) (err : CanErr) (dataPhase dominantAfterFlag : Bool)
  | canIntegrationComplete (p : Fin 4)
  | tlsHandshakeComplete (conn : Nat) (port : Fin 2) (ip : W32) (clientKey : W256)
  | debugCredentialLapse
  | powerApplied (inA inB : Nat)
  | archiveComplete (ok : Bool)
  | restoreCopyComplete
  | partnerArmOrderReceive (via : Via)
  | idleImageFetchComplete (data : List Byte) (arm : Bool)
  deriving DecidableEq, Repr

end Sys2Proof
end

