-- ==== Sys2Proof/Config.lean ====
section
/-!
DEFINITION. What is fixed for one module or one project, and the values the manual leaves open: the parsed form of a
structure image (02), the factory data, and the opaque constants that stand for undocumented content (R44), for
library functions and tables whose numbers the manual does not print, and for free values.
-/

namespace Sys2Proof

/-! ### The structure image (02 R42, R43): one structure for each documented entry -/

/-- A TASK entry (R42). Periods, phases and deadlines are in 10 µs units. -/
structure TaskEntry where
  num : Fin 128
  event : Bool
  priority : Nat
  enable : Bool
  period : Nat
  phase : Nat
  deadline : Nat
  inputs : List (Nat × Nat)
  outputs : List (Nat × Nat)
  ovrLimit : Nat
  policy : Bool
  ovrTask : Option (Fin 128)
  errTask : Option (Fin 128)
  trigger : Nat
  argA : Nat
  argB : Nat
  deriving DecidableEq, Repr

/-- A CHAN island entry (R42). -/
structure IslandEntry where
  lowPower : Bool := false
  latchOff : Bool := false
  silenceUs : Nat := 5000
  deriving DecidableEq, Repr

/-- A CHAN channel entry (R42). `mode` 0 is unused; `params` holds the three CH_PARAM words. -/
structure ChanEntry where
  mode : Nat := 0
  range : Nat := 0
  rate : Nat := 0
  filter : Nat := 0
  safe : Nat := 0
  owDiag : Bool := false
  interleave : Bool := false
  ne43 : Bool := false
  pwm : Bool := false
  gang : Nat := 0
  safeVal : W64 := 0
  inPoint : Option Nat := none
  outPoint : Option Nat := none
  param0 : W32 := 0
  param1 : W32 := 0
  param2 : W32 := 0
  deriving DecidableEq, Repr

/-- A LINK link entry (R42). -/
structure LinkEntry where
  enabled : Bool := false
  ring : Bool := false
  etherType : Nat := 0x88B5
  missLimit : Nat := 3
  count : Nat := 0
  deriving DecidableEq, Repr

/-- A LINK station entry (R42), with its parameter block. -/
structure StationEntry where
  link : Fin 24
  pos : Fin 32
  witness : Bool
  errTask : Option (Fin 128)
  vendor : W32
  device : W32
  inFirst : Nat
  inCount : Nat
  outFirst : Nat
  outCount : Nat
  param : List Byte
  deriving DecidableEq, Repr

/-- A LINK substitute entry (R42): 0 hold, 1 fixed, 2 status only. -/
structure SubstEntry where
  point : Nat
  behaviour : Nat
  value : W64
  deriving DecidableEq, Repr

/-- A LINK plant-port entry (R42). -/
structure PortEntry where
  enabled : Bool := false
  ptp : Bool := false
  domain : Nat := 0
  ip : W32 := 0
  mask : W32 := 0
  gateway : W32 := 0
  mapInterval : Nat := 3600
  deriving DecidableEq, Repr

/-- A CAN filter entry (R42). -/
structure FilterEntry where
  ident : BitVec 29 := 0
  extended : Bool := false
  mask : W32 := 0
  enabled : Bool := false
  task : Option (Fin 128) := none
  deriving DecidableEq, Repr

/-- A CAN port entry (R42) with its 32 filters. Segments are propagation, phase 1, phase 2, jump width. -/
structure CanEntry where
  enabled : Bool := false
  fd : Bool := false
  brs : Bool := false
  presc : Nat := 0
  prop : Nat := 0
  ph1 : Nat := 0
  ph2 : Nat := 0
  sjw : Nat := 0
  dpresc : Nat := 0
  dprop : Nat := 0
  dph1 : Nat := 0
  dph2 : Nat := 0
  dsjw : Nat := 0
  filters : Vector FilterEntry 32 := Vector.replicate 32 {}
  deriving DecidableEq, Repr

/-- A CMAP colour range (R42): granule indexes. -/
structure ColourRange where
  first : Nat
  count : Nat
  colour : BitVec 4
  deriving DecidableEq, Repr

/-- A CMAP role (R42, R402, R403). -/
structure RoleEntry where
  name : List Byte
  readMask : BitVec 16
  writeMask : BitVec 16
  classes : BitVec 14
  deriving DecidableEq, Repr

/-- A CMAP task entry (R42). -/
structure TaskMask where
  task : Fin 128
  readMask : BitVec 16
  writeMask : BitVec 16
  deriving DecidableEq, Repr

/-- A MIRR range (R42). -/
structure MirrRange where
  first : Nat
  count : Nat
  cls : Nat
  deriving DecidableEq, Repr

/-- A VARS entry (R42) with its initial value. -/
structure VarEntry where
  ident : W64
  typ : Nat
  isSealed : Bool
  hasInit : Bool
  declares : Bool
  offset : Nat
  size : Nat
  layoutHash : W64
  prevType : Nat
  conv : Nat
  init : List Byte
  name : List Byte
  deriving DecidableEq, Repr

/-- A PANEL region entry (R42) with its default text. -/
structure RegionEntry where
  num : Nat
  first : Nat
  count : Nat
  program : Bool
  iconMask : W32
  text : List Byte
  deriving DecidableEq, Repr

/-- The PWR section (R42). -/
structure PwrSection where
  target : Nat := 200
  ceiling : Nat := 850
  floor : Nat := 720
  pfTask : Option (Fin 128) := none
  bothInputs : Bool := false
  telemetryMs : Nat := 1000
  deriving DecidableEq, Repr

/-- The sections of a verified image that set clocks, panel, links and power, apart from the entry lists. -/
structure ImageSettings where
  statMs : Nat := 1000
  leaseUs : Nat := 2000
  swapHours : Nat := 720
  frameRate : Nat := 1
  panelLow : Bool := false
  panelTimeout : Nat := 0
  port0 : PortEntry := {}
  port1 : PortEntry := {}
  pwr : PwrSection := {}
  deriving DecidableEq, Repr

/-! ### Undocumented content: PLAIN and SEQ (R44) -/

/-- Where an input port of a slot takes its value from (03 R57). -/
inductive InSrc where
  | unused
  | token
  | memory (word : Fin 64)
  | constant (v : W128)
  deriving DecidableEq, Repr

/-- A destination (03 R57): an input of a slot, a word of a tile's memory, an edge port where an output point record leaves (R63), or a
token input of a routine of the core at the end of the route (R83). A route is a list of mesh directions from where the value starts. -/
inductive Dest where
  | slot (tile : Fin 16384) (slot : Fin 16) (input : Fin 3) (route : List (Fin 4))
  | memory (word : Fin 64) (route : List (Fin 4))
  | edge (port : Fin 64) (point : Fin 65536) (route : List (Fin 4))
  | routine (core : Fin 8) (routine : Nat) (input : Nat) (route : List (Fin 4))
  deriving DecidableEq, Repr

/-- What one slot of the running terrace does (03 R57, R58, R69): its task, its operation, its three input ports, its four
destinations. -/
structure SlotConf where
  tile : Fin 16384
  slot : Fin 16
  task : Fin 128
  op : AluOp
  ins : Vector InSrc 3
  dests : Vector (Option Dest) 4
  deriving DecidableEq, Repr

/-- The class of a word of tile memory (03 R62) with what belongs to it: the value of a constant; of a persistent word its owning task,
the host address of its home and the edge port it leaves by (R63). A word that the image does not name is scratch. -/
inductive WordClass where
  | constant (v : W128)
  | persistent (task : Fin 128) (home : Nat) (port : Fin 64)
  deriving DecidableEq, Repr

/-- A constant or persistent word of a tile. -/
structure WordConf where
  tile : Fin 16384
  word : Fin 64
  cls : WordClass
  deriving DecidableEq, Repr

/-- A word of the injection phase (03 R63): a word of the release record, an input point, an output point or a variable of another
task (R66), or a persistent word from its home; words of variable space by their host address. -/
inductive InjectSrc where
  | record (second : Bool)
  | point (p : Nat)
  | output (p : Nat)
  | variable (addr : Nat)
  | home (addr : Nat)
  deriving DecidableEq, Repr

/-- Where a word of the injection phase of a task enters the Plain: its stream, the tile of its edge port and its destinations (R63,
R176). -/
structure Inject where
  task : Fin 128
  stream : Fin 72
  tile : Fin 16384
  src : InjectSrc
  dests : List Dest
  deriving DecidableEq, Repr

/-- The decoded PLAIN section: its slots, its constant and persistent words (R62), and its injected words in stream order. -/
structure PlainProgram where
  slots : List SlotConf
  words : List WordConf
  inject : List Inject
  deriving DecidableEq, Repr, Inhabited

/-- A declared output of a routine (03 R84, R87): whether its type is real, and binary64, and where its token goes. -/
structure RoutineOut where
  real : Bool
  dbl : Bool
  dests : List Dest
  deriving DecidableEq, Repr

/-- One routine of a SEQ section (03 R84 to R87): its core, its task, the number of its token inputs, its outputs, the words of SRAM
it uses, and its persistent data: words of its SRAM with the host addresses of their homes (R65, 07 R198). -/
structure Routine where
  core : Fin 8
  task : Fin 128
  inputs : Nat
  outputs : List RoutineOut
  sram : Nat
  keep : List (Nat × Nat)
  deriving DecidableEq, Repr

/-! ### The image -/

/-- A verified structure image: its identity, its key, its documented sections, its two opaque ones, and what those two lay down: the
program of the Plain, the routines of the cores, and the task that each CAN transmit buffer is assigned to. -/
structure Image where
  ident : W256 := 0
  keySlot : Fin 8 := 0
  keyFp : W256 := 0
  settings : ImageSettings := {}
  tasks : List TaskEntry := []
  islands : Vector IslandEntry 24 := Vector.replicate 24 {}
  channels : Vector ChanEntry 192 := Vector.replicate 192 {}
  links : Vector LinkEntry 24 := Vector.replicate 24 {}
  stations : List StationEntry := []
  substs : List SubstEntry := []
  can : Vector CanEntry 4 := Vector.replicate 4 {}
  colours : List ColourRange := []
  roles : List RoleEntry := []
  taskMasks : List TaskMask := []
  mirr : List MirrRange := []
  vars : List VarEntry := []
  regions : List RegionEntry := []
  plain : List Byte := []
  seq : List Byte := []
  prog : PlainProgram := ⟨[], [], []⟩
  routs : List Routine := []
  canTasks : List (Fin 4 × Fin 32 × Fin 128) := []
  deriving DecidableEq, Repr

/-- The layout of PLAIN is not documented (R44); this constant has no body. DESIGN CHOICE, log 10. -/
opaque Config.decodePlain : List Byte → PlainProgram
/-- The layout of SEQ is not documented (R44); this constant has no body. DESIGN CHOICE, log 10. -/
opaque Config.decodeSeq : List Byte → List Routine
/-- The task to which SEQ assigns a CAN transmit buffer (14 R369); not documented. No body. DESIGN CHOICE, log 10. -/
opaque Config.bufferTask : List Byte → Fin 4 → Fin 32 → Option (Fin 128)
/-- The declared type of an input (`true`) or output point, as a type code of VARS; bindings are not documented (R75, R401). No body. DESIGN CHOICE, log 10. -/
opaque Config.pointType : List Byte → Bool → Nat → Nat
/-- The module's check of the opaque sections (R44): whether a resource is exceeded (0x10) or the section is in conflict (0x11), and an
offset; or nothing wrong. No body. DESIGN CHOICE, log 10. -/
opaque Config.opaqueCheck : List Byte → List Byte → Option (Bool × Nat)
/-- The digest of a task's cycle (03 R65) over the slot configurations, the constant and persistent words of their tiles, and the
persistent data of the task's routines. Its function is not stated. No body. DESIGN CHOICE, log 10. -/
opaque Config.cycleDigest : List SlotConf → List (Fin 16384 × Fin 64 × W128) → List (Nat × Nat × W128) → W128
/-- The digest that the hub computes of the arming stream (R48). Its function is not stated. No body. DESIGN CHOICE, log 10. -/
opaque Config.streamDigest : List Byte → List Byte → W128

/-! ### Factory data -/

/-- The module identity fixed in the factory data (R207). No body: every statement holds for every identity. DESIGN CHOICE, log 11. -/
opaque Config.selfId : W64
/-- The fingerprint of the factory device key (R385). DESIGN CHOICE, log 11. -/
opaque Config.deviceFp : W256
/-- The oscillator's frequency error in ppb at −40 °C + k °C: entry `k` of the factory-measured table (R128). DESIGN CHOICE, log 11. -/
opaque Config.oscEntry : Fin 166 → Int
/-- The factory-calibrated asymmetry of an island's ford, in ns (R140). DESIGN CHOICE, log 11. -/
opaque Config.fordAsymmetry : Fin 24 → Int
/-- The result codes that the nominal span of a mode and range covers (R308, R324); the scaling is not printed. DESIGN CHOICE, log 11. -/
opaque Config.spanCodes : Nat → Nat → Nat
/-- The code after calibration (R307, R324) of a modulator's code under an offset and a gain factor; how the factors are applied is not stated.
DESIGN CHOICE, log 78. -/
opaque Config.calCode : BitVec 24 → W32 → W32 → BitVec 24
/-- The reference functions of IEC 60584-1 (R302): the voltage in volts of a thermocouple type, by its range code, at a temperature in 0.01 °C;
and the temperature in °C of a voltage. The manual prints no coefficients. DESIGN CHOICE, log 78. -/
opaque Config.tcVolts : Nat → Int → W64
opaque Config.tcTemp : Nat → W64 → W64
/-- The temperature in °C that the standard Ni120 characteristic (R301) gives for a resistance in Ω. DESIGN CHOICE, log 78. -/
opaque Config.ni120 : W64 → W64
/-- Where byte `offset` of a history buffer lies in the region of R18 (R391); the manual lays out neither number nor place of the
buffers. DESIGN CHOICE, log 50. -/
opaque Config.historyAt : BitVec 32 → Nat → Nat

/-! ### Library functions and free values -/

/-- A function of the block library whose result the manual bounds but does not define bit by bit (R72): exponential,
logarithm, trigonometric functions and the others of its table. DESIGN CHOICE, log 12. -/
opaque Config.libFn : Nat → Bool → W128 → W128 → W128 → W128
/-- **The free value**: what the manual leaves open. The machine applies it to a counter that it advances, so no two uses are
related and nothing constrains any of them. No body. DESIGN CHOICE, log 54. -/
opaque Config.free (w : Nat) : Nat → BitVec w

end Sys2Proof
end

