-- ==== Sys2Proof/Machine/Flags.lean ====
section
/-!
DEFINITION. The flags of a task's cycle (03 R76; bits as in TSK_LASTFLAGS, R124).
-/

namespace Sys2Proof.Machine

/-- The flags of a cycle. -/
abbrev Flags := BitVec 7

def fFtz : Flags := 0x01
def fOvf : Flags := 0x02
def fDivz : Flags := 0x04
def fInv : Flags := 0x08
def fIdiv : Flags := 0x10
def fNanOut : Flags := 0x20
def fCoreFault : Flags := 0x40
def fNone : Flags := 0

/-- Flags are collected: set by the first event of a cycle and kept (R76). -/
def joinFlags (a b : Flags) : Flags := a ||| b

end Sys2Proof.Machine
end

