-- ==== Sys2Proof/Machine/Operands.lean ====
section
/-!
DEFINITION. The arithmetic of tiles and cores (03 R57, R72 to R75): IEEE 754 binary32 and binary64 with round to nearest, ties
to even, computed exactly and then rounded once; integer arithmetic; comparisons, conversions, Boolean operations and select.
-/

namespace Sys2Proof.Machine

/-! ### Formats -/

/-- A binary format: exponent width and fraction width, and whether its subnormals are taken and given as zero (R72). -/
structure Fmt where
  eb : Nat
  fb : Nat
  flushes : Bool

def b32 : Fmt := ⟨8, 23, true⟩
def b64 : Fmt := ⟨11, 52, false⟩

def Fmt.width (f : Fmt) : Nat := 1 + f.eb + f.fb
def Fmt.bias (f : Fmt) : Nat := 2 ^ (f.eb - 1) - 1
def Fmt.expMax (f : Fmt) : Nat := 2 ^ f.eb - 1
/-- The exponent of the least significant bit of a subnormal. -/
def Fmt.lsbMin (f : Fmt) : Int := 1 - (f.bias : Int) - (f.fb : Int)
/-- The canonical quiet NaN (R72). -/
def Fmt.qnan (f : Fmt) : Nat := f.expMax * 2 ^ f.fb + 2 ^ (f.fb - 1)
def Fmt.inf (f : Fmt) (neg : Bool) : Nat := (if neg then 2 ^ (f.width - 1) else 0) + f.expMax * 2 ^ f.fb
def Fmt.zero (f : Fmt) (neg : Bool) : Nat := if neg then 2 ^ (f.width - 1) else 0

/-- What an encoding stands for: a number is `m * 2 ^ e` with its sign. -/
inductive Fp where
  | nan (signalling : Bool)
  | inf (neg : Bool)
  | num (neg : Bool) (m : Nat) (e : Int)

/-- Read an encoding. A binary32 subnormal is taken as zero of the same sign and sets FTZ (R72). -/
def Fmt.decode (f : Fmt) (x : Nat) : Fp × Flags :=
  let neg := x / 2 ^ (f.width - 1) % 2 == 1
  let ex := x / 2 ^ f.fb % 2 ^ f.eb
  let fr := x % 2 ^ f.fb
  if ex == f.expMax then
    (if fr == 0 then (.inf neg, fNone) else (.nan (fr / 2 ^ (f.fb - 1) == 0), fNone))
  else if ex == 0 then
    (if fr == 0 then (.num neg 0 0, fNone)
     else if f.flushes then (.num neg 0 0, fFtz)
     else (.num neg fr f.lsbMin, fNone))
  else (.num neg (2 ^ f.fb + fr) ((ex : Int) - f.bias - f.fb), fNone)

/-- Round `m * 2 ^ e`, a little more when `more`, to the format: ties to even, ±∞ with OVF beyond the range, a subnormal
binary32 result replaced by zero of the same sign with FTZ (R72). -/
def Fmt.round (f : Fmt) (neg : Bool) (m : Nat) (e : Int) (more : Bool) : Nat × Flags :=
  if m == 0 then (f.zero neg, fNone)
  else
    let len : Int := Nat.log2 m + 1
    let lsb : Int := max (e + len - (f.fb + 1)) f.lsbMin
    let q : Nat :=
      if lsb ≤ e then m * 2 ^ (e - lsb).toNat
      else
        let sh := (lsb - e).toNat
        let q0 := m / 2 ^ sh
        let r := m % 2 ^ sh
        let half := 2 ^ (sh - 1)
        if half < r || (r == half && (more || q0 % 2 == 1)) then q0 + 1 else q0
    let (q, lsb) := if q == 2 ^ (f.fb + 1) then (2 ^ f.fb, lsb + 1) else (q, lsb)
    let sgn := f.zero neg
    if q < 2 ^ f.fb then
      (if f.flushes && q != 0 then (sgn, fFtz) else (sgn + q, fNone))
    else
      let ex : Int := lsb + f.fb + f.bias
      if (f.expMax : Int) ≤ ex then (f.inf neg, fOvf)
      else (sgn + ex.toNat * 2 ^ f.fb + (q - 2 ^ f.fb), fNone)

/-- The canonical quiet NaN, with INV when an operand is signalling (R72). -/
def Fmt.nanOf (f : Fmt) (sig : Bool) : Nat × Flags := (f.qnan, if sig then fInv else fNone)

/-- An invalid operation (R72). -/
def Fmt.invalid (f : Fmt) : Nat × Flags := (f.qnan, fInv)

def Fp.isNan : Fp → Bool
  | .nan _ => true
  | _ => false

def Fp.isSig : Fp → Bool
  | .nan s => s
  | _ => false

def Fp.isInf : Fp → Bool
  | .inf _ => true
  | _ => false

def Fp.neg : Fp → Fp
  | .nan s => .nan s
  | .inf n => .inf (!n)
  | .num n m e => .num (!n) m e

/-- The exact signed sum of two numbers: a signed mantissa at the lower exponent. -/
def exactSum (n1 : Bool) (m1 : Nat) (e1 : Int) (n2 : Bool) (m2 : Nat) (e2 : Int) : Int × Int :=
  let e := min e1 e2
  let a : Int := m1 * 2 ^ (e1 - e).toNat
  let b : Int := m2 * 2 ^ (e2 - e).toNat
  ((if n1 then -a else a) + (if n2 then -b else b), e)

/-- The sum of two decoded operands. An exact zero sum is +0, or −0 when both are −0. -/
def Fmt.addFp (f : Fmt) (a b : Fp) : Nat × Flags :=
  match a, b with
  | .nan s, y => f.nanOf (s || y.isSig)
  | x, .nan s => f.nanOf (s || x.isSig)
  | .inf n, .inf k => if n == k then (f.inf n, fNone) else f.invalid
  | .inf n, .num _ _ _ => (f.inf n, fNone)
  | .num _ _ _, .inf n => (f.inf n, fNone)
  | .num n1 m1 e1, .num n2 m2 e2 =>
    let (v, e) := exactSum n1 m1 e1 n2 m2 e2
    if v == 0 then (f.zero (n1 && n2 && m1 == 0 && m2 == 0 || (n1 && n2)), fNone)
    else f.round (decide (v < 0)) v.natAbs e false

def Fmt.mulFp (f : Fmt) (a b : Fp) : Nat × Flags :=
  match a, b with
  | .nan s, y => f.nanOf (s || y.isSig)
  | x, .nan s => f.nanOf (s || x.isSig)
  | .inf n, .inf k => (f.inf (n != k), fNone)
  | .inf n, .num k m _ => if m == 0 then f.invalid else (f.inf (n != k), fNone)
  | .num k m _, .inf n => if m == 0 then f.invalid else (f.inf (n != k), fNone)
  | .num n1 m1 e1, .num n2 m2 e2 => f.round (n1 != n2) (m1 * m2) (e1 + e2) false

def Fmt.divFp (f : Fmt) (a b : Fp) : Nat × Flags :=
  match a, b with
  | .nan s, y => f.nanOf (s || y.isSig)
  | x, .nan s => f.nanOf (s || x.isSig)
  | .inf _, .inf _ => f.invalid
  | .inf n, .num k _ _ => (f.inf (n != k), fNone)
  | .num n _ _, .inf k => (f.zero (n != k), fNone)
  | .num n1 m1 e1, .num n2 m2 e2 =>
    if m2 == 0 then (if m1 == 0 then f.invalid else (f.inf (n1 != n2), fDivz))
    else
      let sh := 2 * f.fb + 8
      let num := m1 * 2 ^ sh
      f.round (n1 != n2) (2 * (num / m2) + (if num % m2 == 0 then 0 else 1)) (e1 - e2 - sh - 1) (num % m2 != 0)

/-- The integer square root, by bits from the top. -/
def isqrtLoop : Nat → Nat → Nat → Nat
  | 0, _, r => r
  | k + 1, n, r => let c := r + 2 ^ k; isqrtLoop k n (if c * c ≤ n then c else r)

def isqrt (n : Nat) : Nat := isqrtLoop (Nat.log2 n / 2 + 1) n 0

def Fmt.sqrtFp (f : Fmt) (a : Fp) : Nat × Flags :=
  match a with
  | .nan s => f.nanOf s
  | .inf true => f.invalid
  | .inf false => (f.inf false, fNone)
  | .num n m e =>
    if m == 0 then (f.zero n, fNone)
    else if n then f.invalid
    else
      let sh := 2 * f.fb + 8 + (if (e % 2) == 0 then 0 else 1)
      let x := m * 2 ^ sh
      let r := isqrt x
      f.round false (2 * r + (if r * r == x then 0 else 1)) ((e - sh) / 2 - 1) (r * r != x)

/-- Fused multiply-add: one rounding (R72). 0 × ∞ is invalid whatever the addend. -/
def Fmt.fmaFp (f : Fmt) (a b c : Fp) : Nat × Flags :=
  let sig := a.isSig || b.isSig || c.isSig
  let prodInvalid := match a, b with
    | .inf _, .num _ m _ => m == 0
    | .num _ m _, .inf _ => m == 0
    | _, _ => false
  if prodInvalid then f.invalid
  else if a.isNan || b.isNan || c.isNan then f.nanOf sig
  else
    match a, b with
    | .num n1 m1 e1, .num n2 m2 e2 =>
      (match c with
       | .inf n => (f.inf n, fNone)
       | .num n3 m3 e3 =>
         let (v, e) := exactSum (n1 != n2) (m1 * m2) (e1 + e2) n3 m3 e3
         if v == 0 then (f.zero ((n1 != n2) && n3), fNone) else f.round (decide (v < 0)) v.natAbs e false
       | .nan s => f.nanOf s)
    | .inf n, .inf k => f.addFp (.inf (n != k)) c
    | .inf n, .num k _ _ => f.addFp (.inf (n != k)) c
    | .num k _ _, .inf n => f.addFp (.inf (n != k)) c
    | _, _ => f.nanOf sig

/-- Order of two operands that are no NaN: −0 counts as less than +0 when `zeros` (R72, minimum and maximum). -/
def Fp.lt (a b : Fp) (zeros : Bool) : Bool :=
  match a, b with
  | .inf n, .inf k => n && !k
  | .inf n, .num _ _ _ => n
  | .num _ _ _, .inf n => !n
  | .num n1 m1 e1, .num n2 m2 e2 =>
    if m1 == 0 && m2 == 0 then zeros && n1 && !n2
    else decide ((exactSum n1 m1 e1 (!n2) m2 e2).1 < 0)
  | _, _ => false

def Fp.eqv (a b : Fp) : Bool := !a.isNan && !b.isNan && !a.lt b false && !b.lt a false

/-- Minimum or maximum: NaN operands are left out; the canonical quiet NaN only when every operand is one (R72). -/
def Fmt.minMax (f : Fmt) (wantMax : Bool) (x y : Nat) (a b : Fp) : Nat × Flags :=
  let fl := if a.isSig || b.isSig then fInv else fNone
  match a.isNan, b.isNan with
  | true, true => (f.qnan, fl)
  | true, false => (y, fl)
  | false, true => (x, fl)
  | false, false => (if a.lt b true then (if wantMax then y else x) else (if wantMax then x else y), fl)

/-- A subnormal binary32 operand that is passed on is taken as zero of the same sign (R72). -/
def Fmt.flush (f : Fmt) (x : Nat) : Nat :=
  if f.flushes && x / 2 ^ f.fb % 2 ^ f.eb == 0 then x / 2 ^ (f.width - 1) % 2 * 2 ^ (f.width - 1) else x

/-- One operation on one element (R72). -/
def Fmt.op (f : Fmt) (o : FpOp) (x y z : Nat) : Nat × Flags :=
  let (a, fa) := f.decode x
  let (b, fb) := f.decode y
  let (c, fc) := f.decode z
  match o with
  | .add => let (r, g) := f.addFp a b; (r, joinFlags g (joinFlags fa fb))
  | .sub => let (r, g) := f.addFp a b.neg; (r, joinFlags g (joinFlags fa fb))
  | .mul => let (r, g) := f.mulFp a b; (r, joinFlags g (joinFlags fa fb))
  | .div => let (r, g) := f.divFp a b; (r, joinFlags g (joinFlags fa fb))
  | .sqrt => let (r, g) := f.sqrtFp a; (r, joinFlags g fa)
  | .fma => let (r, g) := f.fmaFp a b c; (r, joinFlags g (joinFlags fa (joinFlags fb fc)))
  | .min => let (r, g) := f.minMax false (f.flush x) (f.flush y) a b; (r, joinFlags g (joinFlags fa fb))
  | .max => let (r, g) := f.minMax true (f.flush x) (f.flush y) a b; (r, joinFlags g (joinFlags fa fb))

/-- A comparison: unordered with a NaN, and no flag (R72). FTZ is of the operand (R72). -/
def Fmt.cmp (f : Fmt) (rel : CmpRel) (x y : Nat) : Bool × Flags :=
  let (a, fa) := f.decode x
  let (b, fb) := f.decode y
  let fl := joinFlags fa fb
  if a.isNan || b.isNan then (rel == .ne, fl)
  else
    (match rel with
     | .eq => a.eqv b
     | .ne => !a.eqv b
     | .lt => a.lt b false
     | .le => a.lt b false || a.eqv b
     | .gt => b.lt a false
     | .ge => b.lt a false || a.eqv b, fl)

/-! ### Elements of a word -/

/-- Element `k` of width `w`. -/
def elem (w k : Nat) (x : W128) : Nat := x.toNat / 2 ^ (w * k) % 2 ^ w

/-- Compute every element of a word and join the flags. -/
def mapElems (w : Nat) (g : Nat → Nat × Flags) : W128 × Flags :=
  let rs := (List.range (128 / w)).map (fun k => (k, g k))
  (BitVec.ofNat 128 (rs.foldl (fun acc r => acc + r.2.1 % 2 ^ w * 2 ^ (w * r.1)) 0),
   rs.foldl (fun acc r => joinFlags acc r.2.2) fNone)

/-! ### Integers (R73) -/

def intBits : IntWidth → Nat
  | .w8 => 8
  | .w16 => 16
  | .w32 => 32
  | .w64 => 64

/-- The integer that an element stands for. -/
def toInt (w : Nat) (signed : Bool) (x : Nat) : Int :=
  if signed && 2 ^ (w - 1) ≤ x then (x : Int) - (2 ^ w : Nat) else x

/-- Wrapping. -/
def wrapInt (w : Nat) (i : Int) : Nat := (i % (2 ^ w : Nat)).toNat

/-- The limits of a type. -/
def intMin (w : Nat) (signed : Bool) : Int := if signed then -((2 ^ (w - 1) : Nat) : Int) else 0
def intMax (w : Nat) (signed : Bool) : Int := if signed then (2 ^ (w - 1) : Nat) - 1 else (2 ^ w : Nat) - 1

/-- Saturation. -/
def satInt (w : Nat) (signed : Bool) (i : Int) : Nat :=
  wrapInt w (max (intMin w signed) (min (intMax w signed) i))

/-- One integer operation on one element: wrapping, or saturating without flags; division truncates towards zero, by zero gives
0 and the most negative number by −1 gives itself, both with IDIV (R73). The count of a shift is the whole second element, taken as
unsigned: from the width on, all bits are shifted out (DESIGN CHOICE, log 68; the manual says only that shifts wrap). -/
def intOp (w : Nat) (signed sat : Bool) (o : IntOp) (x y : Nat) : Nat × Flags :=
  let a := toInt w signed x
  let b := toInt w signed y
  let fit := fun (i : Int) => if sat then satInt w signed i else wrapInt w i
  match o with
  | .add => (fit (a + b), fNone)
  | .sub => (fit (a - b), fNone)
  | .mul => (fit (a * b), fNone)
  | .div =>
    if b == 0 then (0, if sat then fNone else fIdiv)
    else if signed && a == intMin w true && b == -1 then
      (if sat then (wrapInt w (intMax w true), fNone) else (wrapInt w a, fIdiv))
    else (fit (Int.tdiv a b), fNone)
  | .shl => (fit (a * (2 ^ min y w : Nat)), fNone)
  | .shr => (fit (Int.fdiv a (2 ^ min y w : Nat)), fNone)

def intRel (rel : CmpRel) (a b : Int) : Bool :=
  match rel with
  | .eq => a == b
  | .ne => a != b
  | .lt => decide (a < b)
  | .le => decide (a ≤ b)
  | .gt => decide (b < a)
  | .ge => decide (b ≤ a)

/-! ### Conversions (R72, R74) -/

/-- Between the formats: one rounding (R72). -/
def convFp (src dst : Fmt) (x : Nat) : Nat × Flags :=
  let (a, fa) := src.decode x
  match a with
  | .nan s => let (r, g) := dst.nanOf s; (r, joinFlags g fa)
  | .inf n => (dst.inf n, fa)
  | .num n m e => if m == 0 then (dst.zero n, fa) else let (r, g) := dst.round n m e false; (r, joinFlags g fa)

/-- From an integer: correctly rounded (R72). -/
def fpOfInt (f : Fmt) (i : Int) : Nat × Flags :=
  if i == 0 then (f.zero false, fNone) else f.round (decide (i < 0)) i.natAbs 0 false

/-- Round a number to an integer, ties to even. -/
def roundToInt (neg : Bool) (m : Nat) (e : Int) : Int :=
  let q : Nat :=
    if 0 ≤ e then m * 2 ^ e.toNat
    else
      let sh := (-e).toNat
      let q0 := m / 2 ^ sh
      let r := m % 2 ^ sh
      let half := 2 ^ (sh - 1)
      if half < r || (r == half && q0 % 2 == 1) then q0 + 1 else q0
  if neg then -(q : Int) else q

/-- To an integer: nearest, ties to even, saturating; a NaN gives 0; both of the latter set INV (R74). -/
def intOfFp (f : Fmt) (w : Nat) (signed : Bool) (x : Nat) : Nat × Flags :=
  let (a, fa) := f.decode x
  match a with
  | .nan _ => (0, joinFlags fInv fa)
  | .inf n => (wrapInt w (if n then intMin w signed else intMax w signed), joinFlags fInv fa)
  | .num n m e =>
    let i := roundToInt n m e
    if i < intMin w signed ∨ intMax w signed < i then (satInt w signed i, joinFlags fInv fa)
    else (wrapInt w i, fa)

/-! ### The arithmetic unit (R57) -/

/-- One element of a library function (R72): what the library computes, with every NaN canonical; INV where a NaN comes of operands that
are none, and OVF where an infinity comes of finite ones. -/
def libElem (f : Fmt) (fn : Nat) (dbl : Bool) (a b c : W128) (k : Nat) : Nat × Flags :=
  let w := if dbl then 64 else 32
  let v := (f.decode (elem w k (Config.libFn fn dbl a b c))).1
  let args := [a, b, c].map (fun x => (f.decode (elem w k x)).1)
  if v.isNan then (f.qnan, if args.all (fun x => !x.isNan) || args.any (fun x => x.isSig) then fInv else fNone)
  else (elem w k (Config.libFn fn dbl a b c), if v.isInf && args.all (fun x => !x.isInf && !x.isNan) then fOvf else fNone)

/-- The elapsed time of a release (05 R147): `a` is word 0 of the release record, `b` the block's persistent word, the result of its previous
release. Bits [63:0] hold the elapsed time in ns, bits [127:64] RELTS, the next previous RELTS (DESIGN CHOICE, log 68). It is 0 with FIRST set, which the first
release after a warm start has too, and for a new block, whose word is 0. -/
def elapsedTime (a b : W128) : W128 :=
  let relts := a.extractLsb' 0 64
  let prev := b.extractLsb' 64 64
  relts ++ (if a.getLsbD 120 || b == 0 then 0 else relts - prev)

/-- One step of a timer (05 R148): the elapsed time of `a` joins the accumulated time of `b`; bit 64 of the result is set from the release
at which it reaches the preset of `c` on. -/
def timerStep (a b c : W128) : W128 :=
  let sum := a.extractLsb' 0 64 + b.extractLsb' 0 64
  (if (c.extractLsb' 0 64).sle sum then (1 : BitVec 64) else 0) ++ sum

/-- One result of the arithmetic unit from three 128-bit inputs, and the flags it sets. The manual leaves open, and the model chooses (DESIGN
CHOICE, log 68): select takes its third input where the whole first word is 0, else its second; a comparison writes 1 or 0 into each
element; a conversion takes the low elements of its input and puts 0 into elements of the result that have none. -/
def aluEval (op : AluOp) (a b c : W128) : W128 × Flags :=
  match op with
  | .fp32 o => mapElems 32 (fun k => b32.op o (elem 32 k a) (elem 32 k b) (elem 32 k c))
  | .fp64 o => mapElems 64 (fun k => b64.op o (elem 64 k a) (elem 64 k b) (elem 64 k c))
  | .int o w sg sat => mapElems (intBits w) (fun k => intOp (intBits w) sg sat o (elem (intBits w) k a) (elem (intBits w) k b))
  | .logic .band => (a &&& b, fNone)
  | .logic .bor => (a ||| b, fNone)
  | .logic .bxor => (a ^^^ b, fNone)
  | .logic .bnot => (~~~ a, fNone)
  | .cmpFp rel false =>
    mapElems 32 (fun k => let (r, g) := b32.cmp rel (elem 32 k a) (elem 32 k b); (if r then 1 else 0, g))
  | .cmpFp rel true =>
    mapElems 64 (fun k => let (r, g) := b64.cmp rel (elem 64 k a) (elem 64 k b); (if r then 1 else 0, g))
  | .cmpInt rel w sg =>
    mapElems (intBits w) (fun k =>
      (if intRel rel (toInt (intBits w) sg (elem (intBits w) k a)) (toInt (intBits w) sg (elem (intBits w) k b)) then 1 else 0, fNone))
  | .select => (if a = 0 then c else b, fNone)
  | .f32to64 => mapElems 64 (fun k => convFp b32 b64 (elem 32 k a))
  | .f64to32 => mapElems 32 (fun k => if k < 2 then convFp b64 b32 (elem 64 k a) else (0, fNone))
  | .intToFp w sg false =>
    mapElems 32 (fun k => if k < 128 / (intBits w) then fpOfInt b32 (toInt (intBits w) sg (elem (intBits w) k a)) else (0, fNone))
  | .intToFp w sg true => mapElems 64 (fun k => fpOfInt b64 (toInt (intBits w) sg (elem (intBits w) k a)))
  | .fpToInt w sg false => mapElems (intBits w) (fun k => if k < 4 then intOfFp b32 (intBits w) sg (elem 32 k a) else (0, fNone))
  | .fpToInt w sg true => mapElems (intBits w) (fun k => if k < 2 then intOfFp b64 (intBits w) sg (elem 64 k a) else (0, fNone))
  | .lib fn dbl => if dbl then mapElems 64 (libElem b64 fn true a b c) else mapElems 32 (libElem b32 fn false a b c)
  | .elapsed => (elapsedTime a b, fNone)
  | .timer => (timerStep a b c, fNone)

/-! ### Point values (15 R401, 03 R75) -/

/-- A real value is a NaN, for a declared type REAL32 (width 32) or REAL64. -/
def isNanValue (dbl : Bool) (v : W64) : Bool :=
  if dbl then (b64.decode v.toNat).1.isNan else (b32.decode (v.toNat % 2 ^ 32)).1.isNan

end Sys2Proof.Machine
end

