-- ==== Sys2Proof/Machine/Crypto.lean ====
section
/-!
DEFINITION. The published functions that the manual names: CRC-32 of IEEE 802.3 (17 R434), SHA-256 (02 R35, R37), and Ed25519
verification in its pure form per RFC 8032, section 5.1 (02 R37). PRESUMED (log 20): the constants and steps are those of the
published standards, which the manual names and does not print.
-/

namespace Sys2Proof.Machine

/-! ### CRC-32 (17 R434) -/

/-- One bit of the reflected CRC. -/
def crcBit (c : W32) : W32 := if c.getLsbD 0 then (c >>> 1) ^^^ 0xEDB88320 else c >>> 1

/-- One byte of the reflected CRC. -/
def crcByte (c : W32) (b : Byte) : W32 :=
  crcBit (crcBit (crcBit (crcBit (crcBit (crcBit (crcBit (crcBit (c ^^^ b.setWidth 32))))))))

/-- The CRC-32 of a list of bytes: initial value of all ones, result complemented. -/
def crc32 (bs : List Byte) : W32 := ~~~ (bs.foldl crcByte 0xFFFFFFFF)

/-! ### SHA-2 (02 R35, R37; RFC 8032 uses the 512-bit function) -/

/-- The big-endian value of bytes. -/
def beNat (bs : List Byte) : Nat := bs.foldl (fun a b => 256 * a + b.toNat) 0

/-- The `n` big-endian bytes of a number. -/
def beBytes (n v : Nat) : List Byte := (leBytes n v).reverse

/-- Split into blocks of `n`, with fuel. -/
def blocksOf {α : Type} (n : Nat) : Nat → List α → List (List α)
  | 0, _ => []
  | _ + 1, [] => []
  | k + 1, xs => xs.take n :: blocksOf n k (xs.drop n)

/-- The largest number whose `k`-th power is at most `n`, found bit by bit above `x`. -/
def rootAbove (k n : Nat) : Nat → Nat → Nat
  | 0, x => x
  | b + 1, x => rootAbove k n b (if (x + 2 ^ b) ^ k ≤ n then x + 2 ^ b else x)

/-- The first `bits` bits of the fraction of the `k`-th root of `p`. -/
def rootFraction (k bits p : Nat) : Nat := rootAbove k (p * 2 ^ (k * bits)) (bits + 3) 0 % 2 ^ bits

/-- The primes that the constants come from, 2 to 409. -/
def shaPrimes : List Nat := (List.range 410).filter (fun n => 2 ≤ n && (List.range n).all (fun d => d < 2 || n % d != 0))

/-- A function of the SHA-2 family with words of `w` bits: its number of rounds and its rotation amounts (for the schedule the third one is
a shift). -/
structure Sha2 (w : Nat) where
  rounds : Nat
  older : Nat × Nat × Nat
  newer : Nat × Nat × Nat
  upper : Nat × Nat × Nat
  lower : Nat × Nat × Nat

def sha2Of256 : Sha2 32 := ⟨64, (7, 18, 3), (17, 19, 10), (2, 13, 22), (6, 11, 25)⟩
def sha2Of512 : Sha2 64 := ⟨80, (1, 8, 7), (19, 61, 6), (28, 34, 39), (14, 18, 41)⟩

/-- Two rotations and a shift, and three rotations. -/
def mixShift {w : Nat} (r : Nat × Nat × Nat) (x : BitVec w) : BitVec w := (x >>> r.2.2) ^^^ x.rotateRight r.2.1 ^^^ x.rotateRight r.1
def mixTurn {w : Nat} (r : Nat × Nat × Nat) (x : BitVec w) : BitVec w := x.rotateRight r.2.2 ^^^ x.rotateRight r.2.1 ^^^ x.rotateRight r.1

/-- The word that follows 16 words of the schedule. -/
def shaNext {w : Nat} (h : Sha2 w) (ws : List (BitVec w)) : BitVec w :=
  mixShift h.newer (ws.getD 14 0) + ws.getD 9 0 + mixShift h.older (ws.getD 1 0) + ws.getD 0 0

/-- The working words: the last four of each of the two running sequences, newest first. -/
structure ShaWork (w : Nat) where
  up : List (BitVec w)
  low : List (BitVec w)

/-- One round adds a word to each sequence. -/
def shaRound {w : Nat} (h : Sha2 w) (k m : BitVec w) (v : ShaWork w) : ShaWork w :=
  let e := v.low.getD 0 0
  let a := v.up.getD 0 0
  let chosen := v.low.getD 2 0 ^^^ (e &&& (v.low.getD 1 0 ^^^ v.low.getD 2 0))
  let most := (a &&& (v.up.getD 1 0 ||| v.up.getD 2 0)) ||| (v.up.getD 1 0 &&& v.up.getD 2 0)
  let carry := k + m + v.low.getD 3 0 + chosen + mixTurn h.lower e
  ⟨(carry + most + mixTurn h.upper a) :: v.up.take 3, (v.up.getD 3 0 + carry) :: v.low.take 3⟩

/-- The rounds of one block; the window holds the next 16 words of the schedule, oldest first. -/
def shaRounds {w : Nat} (h : Sha2 w) : List Nat → List (BitVec w) → ShaWork w → ShaWork w
  | [], _, v => v
  | p :: ps, window, v =>
    shaRounds h ps (window.drop 1 ++ [shaNext h window]) (shaRound h (BitVec.ofNat w (rootFraction 3 w p)) (window.getD 0 0) v)

/-- One block of 16 words changes the eight words of the hash value. -/
def shaBlock {w : Nat} (h : Sha2 w) (hash : List (BitVec w)) (block : List Byte) : List (BitVec w) :=
  let v := shaRounds h (shaPrimes.take h.rounds) ((blocksOf (w / 8) 16 block).map (fun x => BitVec.ofNat w (beNat x)))
    ⟨hash.take 4, hash.drop 4⟩
  List.zipWith (· + ·) hash (v.up ++ v.low)

/-- The message with its padding: a one bit, zeros, the length in bits in two words. -/
def shaPad (w : Nat) (msg : List Byte) : List Byte :=
  msg ++ (0x80 :: List.replicate ((4 * w - 1 - w / 4 - msg.length % (2 * w)) % (2 * w)) 0) ++
    beBytes (w / 4) (8 * msg.length)

/-- The digest, as bytes. -/
def sha2Bytes {w : Nat} (h : Sha2 w) (msg : List Byte) : List Byte :=
  let first := (shaPrimes.take 8).map (fun p => BitVec.ofNat w (rootFraction 2 w p))
  (((blocksOf (2 * w) (msg.length + 3) (shaPad w msg)).foldl (shaBlock h) first).map (fun x => beBytes (w / 8) x.toNat)).flatten

/-- The digest of SHA-256 as a word, byte 0 in bits [7:0]. -/
def sha256 (msg : List Byte) : W256 := BitVec.ofNat 256 (leNat (sha2Bytes sha2Of256 msg))

/-! ### Ed25519 (RFC 8032, 5.1) -/

def edP : Nat := 2 ^ 255 - 19
def edL : Nat := 2 ^ 252 + 27742317777372353535851937790883648493

/-- Power modulo `m`, by the low `k` bits of the exponent. -/
def powMod (m : Nat) : Nat → Nat → Nat → Nat
  | 0, _, _ => 1
  | k + 1, b, e => (if e % 2 = 1 then b else 1) * powMod m k (b * b % m) (e / 2) % m

def edInv (x : Nat) : Nat := powMod edP 255 x (edP - 2)
def edD : Nat := (edP - 121665) * edInv 121666 % edP

/-- A point in extended coordinates. -/
structure EdPoint where
  x : Nat
  y : Nat
  z : Nat
  t : Nat

def edZero : EdPoint := ⟨0, 1, 1, 0⟩

/-- Addition of points (5.1.4). -/
def edAdd (p q : EdPoint) : EdPoint :=
  let a := (p.y + edP - p.x) * (q.y + edP - q.x) % edP
  let b := (p.y + p.x) * (q.y + q.x) % edP
  let c := 2 * p.t * q.t * edD % edP
  let d := 2 * p.z * q.z % edP
  let e := b + edP - a
  let f := d + edP - c
  let g := d + c
  let h := b + a
  ⟨e * f % edP, g * h % edP, f * g % edP, e * h % edP⟩

/-- `n` times a point, by the low `k` bits of `n`. -/
def edMul : Nat → Nat → EdPoint → EdPoint
  | 0, _, _ => edZero
  | k + 1, n, p =>
    let r := edMul k (n / 2) (edAdd p p)
    if n % 2 = 1 then edAdd r p else r

/-- The x coordinate for a y coordinate and a sign (5.1.3). -/
def edRecover (y sign : Nat) : Option Nat :=
  if edP ≤ y then none
  else
    let u := (y * y + edP - 1) % edP
    let v := (edD * (y * y % edP) + 1) % edP
    let x2 := u * edInv v % edP
    if x2 = 0 then (if sign = 1 then none else some 0)
    else
      let x := powMod edP 255 x2 ((edP + 3) / 8)
      let x := if x * x % edP = x2 then x else x * powMod edP 255 2 ((edP - 1) / 4) % edP
      if x * x % edP = x2 then some (if x % 2 = sign then x else edP - x) else none

/-- Decode 32 bytes to a point. -/
def edDecode (bs : List Byte) : Option EdPoint :=
  let n := leNat bs
  let y := n % 2 ^ 255
  (edRecover y (n / 2 ^ 255)).map (fun x => ⟨x, y, 1, x * y % edP⟩)

/-- The base point. -/
def edBase : EdPoint :=
  let y := 4 * edInv 5 % edP
  match edRecover y 0 with
  | some x => ⟨x, y, 1, x * y % edP⟩
  | none => edZero

def edSame (p q : EdPoint) : Bool :=
  (p.x * q.z + edP * edP - q.x * p.z) % edP == 0 && (p.y * q.z + edP * edP - q.y * p.z) % edP == 0

/-- Verification of a signature of 64 bytes over a message by a key of 32 bytes (5.1.7). -/
def edVerify (key sig msg : List Byte) : Bool :=
  if key.length != 32 || sig.length != 64 then false
  else
    let sn := leNat (sig.drop 32)
    if edL ≤ sn then false
    else
      match edDecode key, edDecode (sig.take 32) with
      | some a, some r =>
        let k := leNat (sha2Bytes sha2Of512 (sig.take 32 ++ key ++ msg)) % edL
        edSame (edMul 4 8 (edMul 253 sn edBase)) (edMul 4 8 (edAdd r (edMul 253 k a)))
      | _, _ => false

/-- Verification by a key held as a word. -/
def edVerifyKey (key : W256) (sig msg : List Byte) : Bool := edVerify (leBytes 32 key.toNat) sig msg

end Sys2Proof.Machine
end

