-- ==== Sys2Proof/Machine/PartsCore.lean ====
section
/-!
DEFINITION. The pieces of the machine's state, first half: the time base, tasks, image, forces, lanes, pair, sessions and
the recorder. Every field's default is its value after reset; INVENTORY.md lists each with the rule that names it.
-/

namespace Sys2Proof.Machine

/-! ### Who asked for something, and what is owed to them -/

/-- The result registers of R486, one for each block that has one. -/
inductive ResReg where
  | mod | img | hevt | lsk | pair | lnk | ch | pwr | ses | evr | lcd | frc
  deriving DecidableEq, Repr

/-- Where a command came from: a session of this module, or a relayed write of the partner's session with the number the
partner gave it (R396, R397). -/
inductive Origin where
  | here (se : Fin 64)
  | relayed (id : Nat) (se : Fin 64)
  deriving DecidableEq, Repr

/-- The status field of a reply (R392). -/
abbrev Status := Fin 13

/-- What is done when the standby confirms a message, or a long command ends. -/
inductive Owed where
  | reply (se : Fin 64) (typ : Nat) (tag : W32) (status : Status) (body : List Byte)
  | result (asker : Origin) (reg : ResReg) (value : W32)
  | verdict (id : Nat) (status : Status) (result : W32)
  | mirrored
  deriving DecidableEq, Repr

/-- An acknowledgement that waits for the standby's confirmation of message `id` (R169, R117, R224, R41). `no` is its place in the order of
messages, by which FENCE counts (R406). -/
structure Wait where
  id : Nat
  no : Nat
  se : Option (Fin 64)
  acts : List Owed
  /-- Further messages that the standby must confirm first: the other notices of a host event (R117). -/
  also : List Nat := []
  deriving DecidableEq, Repr

/-! ### Time base (05) -/

/-- A message of the selected master whose partner message is still due (R130). -/
structure PtpPend where
  sender : W64
  seq : BitVec 16
  rx : Nat
  correction : Int
  deriving DecidableEq, Repr

/-- The time base and the PTP function (R126 to R133). -/
structure Tb where
  /-- R126: integer part, ns. -/
  now : Nat := 0
  /-- R126: fraction in units of 2⁻³² ns. -/
  frac : Nat := 0
  /-- R128: the applied temperature correction, ppb. -/
  tempCor : Int := 0
  /-- R129: the discipline that matches a rate, ppb. -/
  rate : Int := 0
  /-- R129: the offset still to be removed by slewing, in 2⁻³² ns. -/
  slew : Int := 0
  source : Fin 8 := 0
  ptpState : Fin 4 := 0
  ptpPort : Fin 2 := 0
  ptpOfs : Int := 0
  ptpErr : Int := 0
  oscTemp : BitVec 16 := 0
  tempFault : Bool := false
  pairAligned : Bool := false
  pairErr : Int := 0
  pairDly : Nat := 0
  /-- The one-way delay of each saddle link as the holder measures it from the round trip of the heartbeats (R135). -/
  linkDly : Vector Nat 2 := Vector.replicate 2 0
  /-- The announce messages seen of each foreign master, with their receipt times (R130). -/
  masters : List (PtpAnnounce × Nat) := []
  /-- The selected master. -/
  master : Option PtpAnnounce := none
  /-- Consecutive sync messages of the selected master whose offset lay within ±1 µs of the reference, and that reference: 0, or the
  offset by which the time base still lies away from the master (R127, R131, R132). DEDUCED, log 73. -/
  inLock : Nat := 0
  lockRef : Int := 0
  lastSync : Nat := 0
  /-- When the selected master's latest announce message came. -/
  lastAnnounce : Nat := 0
  holdSince : Nat := 0
  /-- A two-step sync without its Follow_Up (R130). -/
  pendSync : Option PtpPend := none
  /-- An outstanding delay request: sequence and send time. -/
  delayReq : Option (BitVec 16 × Nat) := none
  delaySeq : BitVec 16 := 0
  /-- The latest sync's receive instant in plant time minus its origin time. -/
  m2s : Int := 0
  pathDelay : Int := 0
  lastMap : Nat := 0
  lastHb : Nat := 0
  /-- When the next TIME frame is due (R255). -/
  valeTimeAt : Nat := 0
  deriving DecidableEq, Repr

/-- Statistics of the TB block (R149). -/
structure TbStats where
  ptpMax : Nat := 0
  pairMax : Nat := 0
  absorb : Nat := 0
  lockLoss : Nat := 0
  beacon : Nat := 0
  deriving DecidableEq, Repr

/-! ### Tasks (04) -/

/-- The task states of R118. -/
inductive TState where
  | absent | disabled | waiting | released
  deriving DecidableEq, Repr

/-- A trigger or a reason as it waits for its release (R98 to R100): code, reason, timestamp, ARG, INFO, trigger instant. -/
structure Trig where
  code : Nat
  reason : Byte
  stamp : Nat
  arg : W32
  info : W32
  at_ : Nat
  deriving DecidableEq, Repr

/-- A source of triggers that has registered an event (R97): the trigger and the arguments A and B that R98 matches, or a
reason for one error task, or a task of which a rule names the number: the overrun task, and in a switch window one whose trigger waited. -/
inductive TrigReg where
  | matching (code a b : Nat) (t : Trig)
  | reasonFor (task : Fin 128) (t : Trig)
  | release (task : Fin 128) (t : Trig)
  deriving DecidableEq, Repr

/-- A force table entry (R167). -/
structure Force where
  kind : Fin 4
  qual : Fin 4
  target : W64
  value : W64
  deriving DecidableEq, Repr

/-- A CAN call that a cycle has staged (R369). -/
inductive CanCall where
  | queue (port : Fin 4) (buf : Fin 32) (frame : CanFrame)
  | abort (port : Fin 4) (buf : Fin 32)
  deriving DecidableEq, Repr

/-- A cycle in progress (R28, R91, R102, R103): its release record, the instant its deadline counts from, the snapshot in the
lane buffer, the words the col has committed for it and the calls it has made. -/
structure Cycle where
  record : RelRec
  base : Nat
  /-- In a standby: the holder's notice is still awaited since the release timestamp (R111, R112). -/
  awaiting : Bool
  /-- The holder waits for the standby's readings (R220). -/
  partnerDue : Bool
  /-- The force table that this cycle uses (R169). -/
  forces : List (Fin 4096 × Force)
  snapshot : List (Nat × W128)
  /-- Variables and output points of other tasks as the release found them, by host address (03 R66). -/
  taken : List (Nat × W128)
  /-- The stamps of the values that the module took itself (R400, TIME). -/
  stamps : List (Nat × Nat)
  /-- The substitutes of its remote points as they stood at the release, with the stamp of the sample each comes from, and the stations
  that are not IN for it: this module's own verdicts, or the holder's (R103, R264, R266). -/
  substs : List (Nat × W128 × Option Nat)
  outStns : List (Fin 24 × Fin 32)
  writes : List (Nat × W128 × BitVec 16)
  outputs : List (Nat × W128)
  /-- The words of memory that the cycle's commit has written, as they were before it, by host address (03 R66). -/
  before : List (Nat × W128)
  digests : Nat
  flags : BitVec 7
  unchecked : Bool
  can : List CanCall
  fromHolder : Bool
  deriving DecidableEq, Repr

/-- The run-time fields of a task (R91) and its interval statistics. -/
structure TaskRt where
  st : TState := .absent
  cycle : W32 := 0
  /-- Number of the next nominal release (R94, R159): index j and the offset K. -/
  index : Nat := 0
  k : W32 := 0
  next : Nat := 0
  lastRel : Nat := 0
  consec : Nat := 0
  pending : Option Trig := none
  queue : List Trig := []
  missed : Nat := 0
  skipped : Bool := false
  first : Bool := true
  change : Bool := false
  overrunFired : Bool := false
  lastExec : Nat := 0
  lastFlags : BitVec 7 := 0
  cur : Option Cycle := none
  /-- Notices received and not yet taken (R111, R113). -/
  notices : List Notice := []
  /-- The partner's readings of a release not made here yet: cycle number and readings (R220). -/
  early : Option (W32 × List (BitVec 16 × W128)) := none
  /-- The last completed cycle number, for R113 and R223. -/
  doneCycle : Option W32 := none
  /-- TRIGTS of that cycle and whether it was unchecked, for the repeats of R262. -/
  doneTrig : Nat := 0
  doneUnchecked : Bool := false
  /-- Granules that a switch window wrote for the task and that its next mirror message carries (R163). -/
  dirty : List Nat := []
  /-- Persistent words are to be reloaded from their homes at the next release (R64, R198). -/
  reload : Bool := false
  deriving DecidableEq, Repr

/-- Interval statistics of a task (R123). -/
structure TaskStats where
  rel : Nat := 0
  done : Nat := 0
  skip : Nat := 0
  miss : Nat := 0
  merge : Nat := 0
  min : Nat := max32
  max : Nat := 0
  sum : Nat := 0
  flags : BitVec 7 := 0
  nlate : Nat := 0
  deriving DecidableEq, Repr

/-- The STAT block (R125): what is accumulated and what is latched. -/
structure StatAcc where
  relTot : Nat := 0
  skipTot : Nat := 0
  missTot : Nat := 0
  jitMax : Nat := 0
  noticeMax : Nat := 0
  margin : Int := 1000
  marginTask : Nat := 0xFF
  deriving DecidableEq, Repr

/-- A switch request in progress (R150 to R165). -/
inductive SwitchPhase where
  | searching
  | candidate
  | verdicts
  | window
  deriving DecidableEq, Repr

/-- The state of a terrace switch (R150 to R163), of a RECHECK or of a planned swap: all three hold releases at an instant
chosen by R155 and R156. -/
structure SwitchReq where
  asker : Option Origin
  tag : W32
  phase : SwitchPhase
  start : Nat
  attempts : Nat
  r : Nat
  ownReady : Bool
  partnerReady : Option Bool
  windowEnd : Nat
  granules : Nat
  /-- The granules that the window, or pre-initialisation before it, has written (R163). -/
  touched : List Nat
  forcesDropped : Nat
  varsDropped : Nat
  deriving DecidableEq, Repr

/-- The Watershed: task table run-time fields, schedule origin, triggers waiting for EVENT_RELEASE. -/
structure Tsk where
  rt : Vector TaskRt 128 := Vector.replicate 128 {}
  acc : Vector TaskStats 128 := Vector.replicate 128 {}
  lat : Vector TaskStats 128 := Vector.replicate 128 {}
  /-- Faults of core routines of tasks without an error task, counted (03 R89). -/
  coreFaults : Vector Nat 128 := Vector.replicate 128 0
  origin : Nat := 0
  trigQ : List TrigReg := []
  /-- Triggers that arrived in a switch window (R160). -/
  heldTrigs : List TrigReg := []
  /-- When the next repeat of event outputs is due (R262). -/
  repeatAt : Nat := 0
  stat : StatAcc := {}
  statLat : StatAcc := {}
  statSeq : Nat := 0
  statEnd : Nat := 0
  /-- The boundary of the statistics interval that has passed last, whether or not one has been latched since the time base was set. -/
  statMark : Nat := 0
  statValid : Bool := false
  statPartial : Bool := false
  /-- The interval in force began short: at entry into RUN or at a change of the interval (R122). -/
  statShort : Bool := true
  switch : Option SwitchReq := none
  /-- The latest switch that was completed: its instant and the data of its record (R151, R173). -/
  lastSwitch : Nat × BitVec 112 := (0, 0)
  deriving DecidableEq, Repr

/-! ### Image (02) -/

/-- The states of the idle terrace (02, IMG_STATE.IDLE). -/
inductive IdleState where
  | empty | loading | verifying | storing | verified | arming | armed | failed | switching
  deriving DecidableEq, Repr

/-- A storage slot (R45). -/
inductive SlotState where
  | empty | valid | invalid
  deriving DecidableEq, Repr

/-- A storage slot with the stored image. -/
structure ImgSlot where
  st : SlotState := .empty
  bytes : List Byte := []
  deriving DecidableEq, Repr

/-- One entry of a carry-over plan (R152). -/
inductive CarryAct where
  | keep
  | copy
  | convert (code : Nat) (fromType toType : Nat)
  | init (changed : Bool)
  | preInit
  deriving DecidableEq, Repr

/-- A carry-over plan: for each variable of the target image its action, with source and target entry, and the variables
dropped (R152). -/
structure Plan where
  acts : List (VarEntry × Option VarEntry × CarryAct)
  dropped : List VarEntry
  deriving DecidableEq, Repr

/-- The image command that runs (R50). -/
inductive ImgCmd where
  | arm (asker : Option Origin)
  | archive (src dst : Bool)
  | restore (src : Bool)
  deriving DecidableEq, Repr

/-- The image controller (02). -/
structure Img where
  idle : IdleState := .empty
  /-- The bytes of the idle working-image area (R46). -/
  load : List Byte := []
  total : Nat := 0
  idleImg : Option Image := none
  run : Option Image := none
  runBytes : List Byte := []
  runTerr : Bool := false
  slots : Vector ImgSlot 4 := Vector.replicate 4 {}
  keys : Vector KeySlot 8 := Vector.replicate 8 .empty
  revoked : List W256 := []
  errSource : Fin 4 := 0
  errSect : Byte := 0xFF
  errCode : Byte := 0
  errLoc : Nat := 0
  cmd : Option ImgCmd := none
  partnerIdle : BitVec 4 := 0xF
  partnerRunId : Option W256 := none
  partnerIdleId : W256 := 0
  forward : Plan := ⟨[], []⟩
  reverse : Plan := ⟨[], []⟩
  /-- The digest of the arming stream the idle terrace was armed from. -/
  armDigest : W128 := 0
  /-- The shadow banks of the two lanes hold the idle image. -/
  loadDone : Bool := false
  /-- An arm that the standby performs on the holder's order (R51). -/
  armOrdered : Bool := false
  /-- An image has been loaded and stored while the module is in CONFIG (R52). -/
  loadedHere : Bool := false
  deriving DecidableEq, Repr

/-! ### Forces (06) -/

/-- Statistics of the FRC block (R174). -/
structure FrcStats where
  set : Nat := 0
  clr : Nat := 0
  drop : Nat := 0
  deriving DecidableEq, Repr

/-- A force change on its way to its activation instant (R169). -/
structure ForceChange where
  op : ForceOp
  at_ : Nat
  deriving DecidableEq, Repr

/-- The force table: active entries by their number, ascending (R167), and the changes that wait. -/
structure Frc where
  table : List (Fin 4096 × Force) := []
  waiting : List ForceChange := []
  /-- The activation instants of the last changes, newest first, each with the table before it, for releases stamped earlier (R169). -/
  before : List (Nat × List (Fin 4096 × Force)) := []
  /-- In a standby that joins or resynchronises: the changes that have reached it since then (R171). -/
  log : List ForceChange := []
  acc : FrcStats := {}
  lat : FrcStats := {}
  deriving DecidableEq, Repr

/-! ### Lanes and col (07) -/

/-- A word held in a delay element (R179): lane, word, arrival time, and whether a disturbance had changed it. -/
structure DelayWord where
  lane : Lane
  word : LaneWord
  arrived : Nat
  changed : Bool
  deriving DecidableEq, Repr

/-- Where an inbound word goes in a lane (R178): the destinations behind an edge port; the routine that waits on a core, with the number of
the word in the return and whether it is the last; or a word of a routine's own data. -/
inductive InTarget where
  | edge (tile : Fin 16384) (dests : List Dest)
  | core (k : Fin 8) (word : Nat) (last : Bool)
  | sram (k : Fin 8) (routine addr : Nat)
  deriving DecidableEq, Repr

/-- An inbound word on its way to lane B (R177): its data and task, where it goes, when lane A accepted it, and how many later words of
its stream lane A has accepted. -/
structure Inbound where
  data : W128
  task : Fin 128
  target : InTarget
  accepted : Nat
  later : Nat
  deriving DecidableEq, Repr

/-- The first fault (R185, R201). -/
structure ColRecord where
  cls : Fin 4
  subclass : Nat
  stream : Byte
  parity : BitVec 2
  addr : W64
  time : Nat
  task : Byte
  cycle : W32
  wordA : W128
  wordB : W128
  deriving DecidableEq, Repr

/-- Statistics of the LSK block (R201). -/
structure LskStats where
  cmp : Nat := 0
  digest : Nat := 0
  waitMax : Nat := 0
  bpress : Nat := 0
  unchk : Nat := 0
  idleDiff : Nat := 0
  deriving DecidableEq, Repr

/-- The halted and resumed lanes (R195, R196). `neither` is the case that no lane runs: each has been halted, and at most one still is. -/
inductive HaltState where
  | none
  | halted (lane : Lane)
  | resumed (lane : Lane)
  | neither (halted : Option Lane)
  deriving DecidableEq, Repr

/-- Col, delay elements, delivery buffers, halts (07). -/
structure Lsk where
  delay : Vector (List DelayWord) 74 := Vector.replicate 74 []
  inbound : Vector (List Inbound) 72 := Vector.replicate 72 []
  fault : Option ColRecord := none
  /-- A fault has ended the module's authority (LSK_STATUS.FAILED). -/
  failed : Bool := false
  /-- No word is compared any more (R185), after a fault or a rail fault. -/
  stopped : Bool := false
  commission : Bool := false
  halt : HaltState := .none
  unchecked : Bool := false
  /-- UNCHECKED at any time in the interval (PAIR_HEALTH.CHECKED). -/
  uncheckedSeen : Bool := false
  recheck : Option SwitchReq := none
  /-- Data bits that have been compared as 0, and as 1, per stream (R193). -/
  seen0 : Vector W128 74 := Vector.replicate 74 0
  seen1 : Vector W128 74 := Vector.replicate 74 0
  sweepPasses : Nat := 0
  sweepDiff : Bool := false
  acc : LskStats := {}
  lat : LskStats := {}
  deriving DecidableEq, Repr

/-! ### Pair (08) -/

/-- PAIR_STATUS.PARTNER (R236). -/
inductive Partner where
  | none | holder | without | lost
  deriving DecidableEq, Repr

/-- A renewal round (R208): number, send instant, the acknowledgements. -/
structure Round where
  k : Nat
  sent : Nat
  acks : Nat
  quorum : Bool
  from_ : List (Fin 24 × Fin 32)
  deriving DecidableEq, Repr

/-- A claim in progress (R210). -/
structure Claim where
  epoch : W32
  round : W32
  sent : Nat
  grants : List (Fin 24 × Fin 32)
  denials : List (Fin 24 × Fin 32)
  highest : W32
  denied : Nat
  /-- When each round of the claim was sent (R210). -/
  sends : List (W32 × Nat)
  deriving DecidableEq, Repr

/-- The phases of a planned role swap (R233). -/
inductive SwapPhase where
  | yielded (successor : W64)
  | successor
  | reclaiming
  deriving DecidableEq, Repr

/-- Statistics of the PAIR block (R235). -/
structure PairStats where
  renew : Nat := 0
  noQ : Nat := 0
  claim : Nat := 0
  deny : Nat := 0
  mGran : Nat := 0
  mCoal : Nat := 0
  mLate : Nat := 0
  mMax : Nat := 0
  hWrite : Nat := 0
  relay : Nat := 0
  canConf : Nat := 0
  twin : Nat := 0
  sad0 : Nat := 0
  sad1 : Nat := 0
  deriving DecidableEq, Repr

/-- A mirror message that waits to leave (R222), with the completion instant it belongs to. -/
structure MirrorWait where
  task : Option (Fin 128)
  cycle : W32
  granules : List Nat
  /-- Data of an unchecked cycle (R197). -/
  unchecked : Bool
  deriving DecidableEq, Repr

/-- The saddle links and the pair protocol (R203 to R236). -/
structure Pair where
  up : Vector Bool 2 := Vector.replicate 2 false
  lastMsg : Vector Nat 2 := Vector.replicate 2 0
  /-- A saddle link was down in the interval (PAIR_HEALTH.SADDLE). -/
  downSeen : Bool := false
  partner : Partner := .none
  partnerId : W64 := 0
  partnerState : Fin 10 := 0
  /-- The partner-presence contact of the base (R212). -/
  contact : Bool := false
  slot : Bool := false
  seqIn : Nat := 0
  seqOut : Nat := 0
  nextId : Nat := 0
  waits : List Wait := []
  /-- The latest heartbeat that came on each link: its send time in the partner's time base, and when it came (R135). -/
  hbIn : Vector (Option (Nat × Nat)) 2 := Vector.replicate 2 none
  deriving DecidableEq, Repr

/-- The lease (R206 to R213) and the role swap (R232, R233). -/
structure Lease where
  holder : Bool := false
  epoch : W32 := 0
  leaseEnd : Nat := 0
  rounds : List Round := []
  nextRound : Nat := 0
  /-- The latest complete round's acknowledgements (PAIR_WITNESS.ACKS). -/
  acks : Nat := 0
  claim : Option Claim := none
  /-- Instants before which no claim is made (R210, R211). -/
  claimFrom : Nat := 0
  suspended : Nat := 0
  announced : Option Nat := none
  /-- Which module held the lease last, as far as this one knows since it entered RUN: `true` this module (R211). -/
  lastHolder : Option Bool := none
  /-- The next claim would exceed the last epoch (R206); recorded once. -/
  exhausted : Bool := false
  /-- The successor has been told that the voltage outputs are released (R233). -/
  relSent : Bool := false
  lostQuorum : Bool := false
  /-- The latest heartbeat: epoch, lease end, receipt, NO_LEASE. -/
  hbEpoch : W32 := 0
  hbEnd : Nat := 0
  hbAt : Nat := 0
  /-- The lease duration D that it carries, and the epoch of the latest heartbeat of the partner (R216). -/
  hbDur : Nat := 0
  rxEpoch : Option W32 := none
  hbNoLease : Bool := true
  isolated : Bool := false
  resync : Option Nat := none
  resyncTo : Option Origin := none
  /-- The lease of the last holder counts as ended (R210), and when the next round is due (R208). -/
  ended : Bool := true
  roundAt : Nat := 0
  /-- The old holder has confirmed the release of its voltage outputs (R233). -/
  vConfirmed : Bool := false
  swap : Option SwitchReq := none
  swapPhase : Option SwapPhase := none
  swapAt : Nat := 0
  lastSwapEnd : Option Nat := none
  lastChange : Nat := 0
  /-- By how much the due swap has been postponed, in ns (R232). -/
  postponed : Nat := 0
  /-- The highest epoch of a station frame on each link since the link came up (R212). -/
  seenEpoch : Vector W32 24 := Vector.replicate 24 0
  deriving DecidableEq, Repr

/-- Mirroring, health reports and statistics (R222, R223, R231). -/
structure Mirror where
  queue : List MirrorWait := []
  /-- Granules received for tasks whose commit runs (R223). -/
  inbox : List MirrorMsg := []
  health : W32 := 0
  pHealth : W32 := 0
  pReported : Bool := false
  /-- Stations or islands that were out in the interval, and CAN errors (R231). -/
  linksBad : Bool := false
  islandsBad : Bool := false
  canBad : Bool := false
  acc : PairStats := {}
  lat : PairStats := {}
  deriving DecidableEq, Repr

/-! ### Sessions (15) -/

/-- The result registers of a session (R486). -/
structure Results where
  mod : W32 := 0
  img : W32 := 0
  hevt : W32 := 0
  lsk : W32 := 0
  pair : W32 := 0
  lnk : W32 := 0
  ch : W32 := 0
  pwr : W32 := 0
  ses : W32 := 0
  evr : W32 := 0
  lcd : W32 := 0
  frc : W32 := 0
  deriving DecidableEq, Repr

/-- The select registers, cursors and staging of a session (R7, R486). -/
structure Selects where
  modArg : BitVec 2 := 0
  slotSel : Fin 4 := 0
  keySel : Fin 8 := 0
  tskSel : Fin 128 := 0
  hevtVal : W32 := 0
  lnkSel : BitVec 5 := 0
  stnSel : Fin 32 := 0
  chSel : BitVec 8 := 0
  islSel : BitVec 5 := 0
  chArg : W64 := 0
  canSel : Fin 4 := 0
  fltSel : Fin 32 := 0
  sesSel : Fin 64 := 0
  evrCursor : Nat := 0
  evrArg : W32 := 0
  rateSel : Fin 16 := 0
  lcdSel : Fin 16 := 0
  textLo : W32 := 0x20202020
  textHi : BitVec 16 := 0x2020
  icons : W32 := 0
  frcSel : Nat := 0
  setTgt : W64 := 0
  setVal : W64 := 0
  setCfg : BitVec 6 := 0
  deriving DecidableEq, Repr

/-- The states of SES_SESINFO (R412). -/
inductive SesState where
  | free | opening | open_ | closing
  deriving DecidableEq, Repr

/-- A FENCE that waits: its tag, the number of the first message after it, and its counts (R406). -/
structure Fence where
  tag : W32
  before : Nat
  writes : Nat
  bad : Nat
  status : Status
  addr : W32
  deriving DecidableEq, Repr

/-- A session (R388, R393, R402, R405 to R407). -/
structure Sess where
  st : SesState := .free
  conn : Nat := 0
  role : Nat := 0
  readMask : BitVec 16 := 0
  writeMask : BitVec 16 := 0
  classes : BitVec 14 := 0
  enrolment : Bool := false
  port : Fin 2 := 0
  ip : W32 := 0
  rdDrop : BitVec 16 := 0
  wrDrop : BitVec 16 := 0
  /-- The drop masks the checks use: the written ones after a barrier, or earlier (R407). -/
  rdDropUsed : BitVec 16 := 0
  wrDropUsed : BitVec 16 := 0
  mapsync : Bool := false
  violCnt : Nat := 0
  violAddr : W32 := 0
  violInfo : W32 := 0
  fenceWrites : Nat := 0
  fenceBad : Nat := 0
  fenceStatus : Status := 0
  fenceAddr : W32 := 0
  /-- FENCEs that wait for earlier writes (R406). -/
  fences : List Fence := []
  lastMsg : Nat := 0
  sel : Selects := {}
  res : Results := {}
  /-- Captured registers by offset (R8, R484). -/
  caps : List (Nat × W32) := []
  deriving DecidableEq, Repr

/-- A TLS connection without a session (R388). -/
structure Conn where
  conn : Nat
  port : Fin 2
  ip : W32
  clientKey : W256
  since : Nat
  deriving DecidableEq, Repr

/-- A write this standby has relayed (R396), with what the session is owed. `addr` and `len` are the address and length of variables, the
offset and value of a command, or the code of a service. `tag` is present for a message that gets a reply; `done` says that the holder
has accepted it, so that only the result of a command may still come. -/
structure Relayed where
  id : Nat
  se : Fin 64
  reg : Option ResReg
  typ : Nat
  tag : Option W32
  addr : Nat
  len : Nat
  done : Bool
  deriving DecidableEq, Repr

/-- A READ held because it touches bytes of a relayed WRITE (R396). -/
structure HeldRead where
  se : Fin 64
  tag : W32
  addr : Nat
  len : Nat
  deriving DecidableEq, Repr

/-- The configuration claim (R398). -/
structure ConfClaim where
  slot : Bool
  se : Fin 64
  until_ : Nat
  deriving DecidableEq, Repr

/-- The debug credential (R408). -/
structure DebugCred where
  colours : BitVec 16
  notAfter : Nat
  viol : Nat
  first : Bool
  deriving DecidableEq, Repr

/-- Statistics of the SES block (R411). -/
structure SesStats where
  open_ : Nat := 0
  refuse : Nat := 0
  close : Nat := 0
  viol : Nat := 0
  dbgViol : Nat := 0
  deriving DecidableEq, Repr

/-- Sessions and protection (15). -/
structure Ses where
  tab : Vector Sess 64 := Vector.replicate 64 {}
  conns : List Conn := []
  relayed : List Relayed := []
  heldReads : List HeldRead := []
  claim : Option ConfClaim := none
  /-- The enrolment window's opening instant (R389). -/
  enrol : Option Nat := none
  /-- The instant the first key became ACTIVE while an enrolment session is open. -/
  enrolKeyed : Option Nat := none
  debug : Option DebugCred := none
  /-- The error flag of the debug status (R409). -/
  debugErr : Bool := false
  /-- Reads and writes of a switch window, which are answered after it (R161). -/
  held : List Instr := []
  acc : SesStats := {}
  lat : SesStats := {}
  deriving DecidableEq, Repr

/-! ### Event recorder (17) -/

/-- An event as registered (R434, R436): code, severity, flags, source, operating time, power cycles, data. -/
structure Ev where
  code : BitVec 16
  sev : BitVec 2
  unchecked : Bool
  holder : Bool
  src : Byte
  opTime : BitVec 48
  cycles : W32
  data : BitVec 112
  at_ : Nat
  deriving DecidableEq, Repr

/-- The token bucket of a code (R441; log 56): `level` tokens in
units of ns of the refill period, `at_` the instant of that level; suppressed count and the operating time of the first. -/
structure Bucket where
  code : BitVec 16
  level : Nat
  at_ : Nat
  suppressed : Nat
  first : BitVec 48
  deriving DecidableEq, Repr

/-- The limits of a class (R442). -/
structure Rate where
  burst : Nat := 8
  refill : Nat := 10
  deriving DecidableEq, Repr

/-- Statistics of the EVR block (R447). -/
structure EvrStats where
  write : Nat := 0
  suppr : Nat := 0
  qovf : Nat := 0
  waitMax : Nat := 0
  deriving DecidableEq, Repr

/-- The event recorder (17). Records are 256-bit words, byte 0 in bits [7:0], oldest first. -/
structure Evr where
  slots : List W256 := []
  queue : List Ev := []
  /-- The record of which the first phase is programmed (R435). -/
  writing : Option Ev := none
  lost : Nat := 0
  gen : Nat := 0
  clearing : Option (Fin 64) := none
  /-- The session that still waits for the end of the clear. -/
  clearAsk : Option (Fin 64) := none
  openRec : Bool := false
  ready : Bool := false
  closed : Bool := false
  /-- CLEAR's record 0xF002 precedes the queue (R444). -/
  afterClear : Option Ev := none
  lastMap : Option Nat := none
  buckets : List Bucket := []
  rates : Vector Rate 16 := Vector.replicate 16 {}
  acc : EvrStats := {}
  lat : EvrStats := {}
  deriving DecidableEq, Repr

end Sys2Proof.Machine
end

