-- ==== Sys2Proof/Machine/PartsIo.lean ====
section
/-!
DEFINITION. The pieces of the machine's state, second half: the lanes' private state, Vale links and stations, islands and
channels, CAN, power, panel, module state, and what the module sends. Every field's default is its value after reset.
-/

namespace Sys2Proof.Machine

/-! ### Lane-private state (01 R23, 03) -/

/-- A token on its way: the directions still to go, where it ends, the task it belongs to (R60, R70). -/
structure Token where
  data : W128
  task : Fin 128
  route : List (Fin 4)
  dest : Dest
  deriving DecidableEq, Repr

/-- What a running routine waits for (R86, 07 R181): the data of a read; the old value of a read-modify-write, with its operation and
operand; the return of a service call, and whether the col has compared the call. -/
inductive CoreWait where
  | load (rd : Nat)
  | rmw (rd : Nat) (op : AluOp) (operand : W128)
  | call (svc rd : Nat) (granted : Bool)
  deriving DecidableEq, Repr

/-- A running or pre-empted routine of a core (R84, R85): its registers, its token inputs, which outputs it has sent, what it waits
for. -/
structure Context where
  routine : Nat
  regs : List (Nat × W128)
  tokens : List W128
  sent : List Nat
  faultStore : Bool
  wait : Option CoreWait
  deriving DecidableEq, Repr

/-- One sequencer core (R83 to R88). Words of SRAM and spill are named by their routine and their number within it. -/
structure Core where
  sram : List ((Nat × Nat) × W128) := []
  spill : List ((Nat × Nat) × W128) := []
  /-- Tokens waiting at the declared inputs of a routine: routine, input, token. -/
  tokens : List (Nat × Nat × W128) := []
  running : Option Context := none
  preempted : List Context := []
  /-- The routines that have run in the current cycles of their tasks (R84). -/
  ran : List Nat := []
  deriving DecidableEq, Repr

/-- The private state of one lane (R23, R56 to R62). -/
structure LaneState where
  /-- Tokens present at slot inputs: tile, slot, input, oldest first. -/
  present : List (Fin 16384 × Fin 16 × Fin 3 × Token) := []
  /-- Tokens in the output buffers of producing slots: tile, slot, destination index. -/
  outBuf : List (Fin 16384 × Fin 16 × Nat × Token) := []
  /-- Tokens waiting on a mesh link direction, in the order of arrival. -/
  links : List (Fin 16384 × Fin 4 × Token) := []
  /-- Words that wait at the edge ports and cores for the hub's acknowledge, by stream, oldest first (07 R176, R179). -/
  out : List (Fin 72 × LaneWord) := []
  mem : List (Fin 16384 × Fin 64 × W128) := []
  cores : Vector Core 8 := Vector.replicate 8 {}
  /-- The slots that have fired in the current cycles of their tasks (R59). -/
  fired : List (Fin 16384 × Fin 16) := []
  /-- The tasks whose current cycle's digest has left (R63). -/
  digested : List (Fin 128) := []
  /-- A parity error has stopped the lane's output to the hub (01 R23). -/
  dead : Bool := false
  /-- The content of the shadow banks: PLAIN and SEQ as the arming stream wrote them (02 R48). -/
  shadow : Option (List Byte × List Byte) := none
  deriving DecidableEq, Repr

/-! ### Vale links (09) -/

/-- A station's state as LNK_STN_STATE shows it (09 R272), with its codes 0 to 7. -/
inductive StnState where
  | none | search | ident | param | start | in_ | out | refused
  deriving DecidableEq, Repr

/-- Which request to a station awaits its reply (R259). -/
inductive StnPhase where
  | idle | ident | param | start
  deriving DecidableEq, Repr

/-- Statistics of a station (09 R271). -/
structure StnStats where
  miss : Nat := 0
  twin : Nat := 0
  stale : Nat := 0
  wdog : Nat := 0
  out : Nat := 0
  deriving DecidableEq, Repr

/-- What IDENT_RESP told of a station (R259). -/
structure StnIdent where
  vendor : W32 := 0
  device : W32 := 0
  serial : W64 := 0
  deriving DecidableEq, Repr

/-- What the module knows of a station (09). -/
structure Stn where
  st : StnState := .none
  cause : Byte := 0
  hops : Byte := 0
  ident : StnIdent := {}
  epoch : W32 := 0
  lastChange : Nat := 0
  missed : Nat := 0
  good : Nat := 0
  /-- When the last complete sample came over this module's own port (R239). -/
  heardAt : Option Nat := none
  pHeard : Bool := false
  /-- Its samples are relayed to the partner, or come relayed from it (R239). -/
  relaying : Bool := false
  relayedIn : Bool := false
  /-- Complete samples, newest first, and the parts of samples that are not complete. -/
  samples : List Sample := []
  parts : List InputFrame := []
  /-- The sample instants of the samples that were completed after their due instants (R248). -/
  overdue : List Nat := []
  /-- START has been accepted: samples fall due. -/
  started : Bool := false
  nextDue : Nat := 0
  everIn : Bool := false
  quiet : Bool := false
  asker : Option Origin := none
  outSince : Nat := 0
  base : Option StationStatus := none
  acc : StnStats := {}
  lat : StnStats := {}
  deriving DecidableEq, Repr

/-- The bringing-in of a station (R259, R260): the request in progress, its attempts, when the reply is overdue. -/
structure Bring where
  phase : StnPhase := .idle
  tries : Nat := 0
  timer : Nat := 0
  offset : Nat := 0
  crcTries : Nat := 0
  noBlock : Bool := false
  retryAt : Nat := 0
  deriving DecidableEq, Repr

/-- Statistics of a link (09 R271). -/
structure LnkStats where
  rx : Nat := 0
  tx : Nat := 0
  bad : Nat := 0
  miss : Nat := 0
  late : Nat := 0
  disc : Nat := 0
  relay : Nat := 0
  util : Nat := 0
  deriving DecidableEq, Repr

/-- A Vale link (09). -/
structure Lnk where
  up : Bool := false
  enumerated : Bool := false
  ringOpen : Bool := false
  partnerPath : Bool := false
  partnerAt : Nat := 0
  lastPoll : Nat := 0
  /-- Frames sent so far of each type (R242, Sequence). -/
  counts : List (Nat × W32) := []
  /-- The wire time used in the running 1 ms and its start (LNK_STUTIL). -/
  wire : Nat := 0
  wireIn : Nat := 0
  wireFrom : Nat := 0
  /-- When the segment delay is measured next (R254), and who waits for the link to be restarted (R272). -/
  pdelayAt : Nat := 0
  asker : Option Origin := none
  /-- The measured segment delay in units of 2⁻¹⁶ ns, and the outstanding request's instant (R254). -/
  delay : Int := 0
  delayReq : Option Nat := none
  stns : Vector Stn 32 := Vector.replicate 32 {}
  bring : Vector Bring 32 := Vector.replicate 32 {}
  acc : LnkStats := {}
  lat : LnkStats := {}
  deriving DecidableEq, Repr

/-! ### Islands and channels (10 to 13) -/

/-- Island states (10 R293). -/
inductive IslState where
  | off | boot | in_ | oos | returning
  deriving DecidableEq, Repr

/-- Who asked for a channel or island command (R289): a session, a routine of a core, or the module itself. -/
inductive CmdAsker where
  | session (o : Origin)
  | routine (core : Fin 8)
  | own
  deriving DecidableEq, Repr

/-- A record that an island's report leads to, with its code, whether it reports a condition entered, and its data (R291). -/
structure IslReport where
  code : Nat
  det : Bool
  fields : List (Nat × Nat)
  deriving DecidableEq, Repr

/-- A command that waits for its activation instant A (R290). -/
structure WaitCmd where
  asker : CmdAsker
  cmd : ChanCmd
  at_ : Nat
  deriving DecidableEq, Repr

/-- An event that an island carries to the hub (10). -/
structure IslEvent where
  chan : Fin 192
  kind : Nat
  stamp : Nat
  value : W32
  uncertain : Bool
  deriving DecidableEq, Repr

/-- The frame to an island (10 R278). -/
structure DownFrame where
  seq : BitVec 16
  /-- The beacon: the time base at which the start marker left the hub; the ford latency the hub has measured, and the rate correction
  (R140). -/
  beacon : Nat
  latency : Nat
  rate : Int
  leaseEnd : Option Nat
  safe : Bool
  resume : Bool
  unchecked : Bool
  paired : Bool
  /-- For each output channel: the value of the latest completed cycle, its quality, and NEW. -/
  values : List (Fin 8 × W64 × Byte × Bool)
  /-- A channel command, with the activation instant of a host's (R349). -/
  chanCmd : Option (ChanCmd × Option Nat)
  islCmd : Option ChanCmd
  config : Bool
  /-- The module drives no output shares (R228, R229); the manual does not say in which item the hub tells its islands. -/
  sharesOff : Bool
  deriving DecidableEq, Repr

/-- A channel's part of the return frame (10 R278). -/
structure ChanReturn where
  value : W64
  status : BitVec 16
  stamp : Nat
  deriving DecidableEq, Repr

/-- The return frame of an island (10 R278). -/
structure UpFrame where
  seq : BitVec 16
  turn : Nat
  vb : Nat
  temp : BitVec 16
  lplus : Nat
  restarted : Bool
  fault : Bool
  silent : Bool
  safe : Bool
  uncertain : Bool
  chans : List ChanReturn
  events : List IslEvent
  supWarn : Bool
  supLost : Bool
  calRun : Bool
  band : Fin 4
  seqGaps : Nat
  evLost : Nat
  /-- Beacons the island missed since its last return frame (R149). -/
  beaconsMissed : Nat
  deriving DecidableEq, Repr

/-- Statistics of an island (10 R292). -/
structure IslStats where
  crc : Nat := 0
  miss : Nat := 0
  seq : Nat := 0
  oos : Nat := 0
  evLost : Nat := 0
  vbMin : Nat := 0xFFFF
  lateCmd : Nat := 0
  deriving DecidableEq, Repr

/-- The hub's view of an island (10 R282, R292). -/
structure Isl where
  st : IslState := .off
  seq : BitVec 16 := 0
  missed : Nat := 0
  valid : Nat := 0
  cause : Fin 16 := 0
  restarts : Nat := 0
  /-- The ford converter is off until this instant (ISL_RESTART). -/
  restartAt : Option Nat := none
  outAt : Nat := 0
  restartedOut : Bool := false
  safeLatched : Bool := false
  silent : Bool := false
  resumeDue : Bool := false
  vb : Nat := 0
  lplus : Nat := 0
  temp : BitVec 16 := 0
  answered : Bool := false
  /-- An island command pending or running: its asker, the command, whether a frame has carried it (R289). -/
  cmd : Option (CmdAsker × ChanCmd × Bool) := none
  configDue : Bool := false
  calDone : Bool := false
  lat : Nat := 0
  latValid : Bool := false
  uncertain : Bool := false
  lastReturn : Nat := 0
  /-- When the frame of this period left, for the ford latency (R140). -/
  sentAt : Nat := 0
  bandSeen : Fin 4 := 0
  supWarn : Bool := false
  supLost : Bool := false
  calRun : Bool := false
  deriving DecidableEq, Repr

/-- The island's own side of the ford (10 R279, R286), and what it measures. -/
structure IslSelf where
  /-- The frame the hub sent last, and the return frame on its way. -/
  down : Option DownFrame := none
  up : Option UpFrame := none
  lastSeq : Option (BitVec 16) := none
  lastAccept : Nat := 0
  safeLatched : Bool := false
  silent : Bool := false
  silentSeen : Bool := false
  restarted : Bool := false
  /-- The island is in reset: V_B has fallen below 3.60 V and not risen to 3.65 V since (R277). -/
  inReset : Bool := false
  configured : Bool := false
  /-- Island time (R140): ns and units of 2⁻³² ns, the rate correction in force in ppb, and the difference still to be slewed with the
  periods of 4 ns left for it (R141). -/
  clock : Nat := 0
  clockFrac : Nat := 0
  clockRate : Int := 0
  clockSlew : Int := 0
  slewTicks : Nat := 0
  /-- When the last beacon came, since power-up; the last step of the island's time; beacons missed and not yet reported (R141, R143). -/
  beaconAt : Option Nat := none
  stepAt : Option Nat := none
  beaconsMissed : Nat := 0
  events : List IslEvent := []
  evLost : Nat := 0
  seqGaps : Nat := 0
  leaseEnd : Option Nat := none
  paired : Bool := false
  vb : Nat := 5000
  temp : BitVec 16 := 0
  band : Fin 4 := 0
  calSince : Option Nat := none
  sharesOff : Bool := false
  /-- Results of commands to return (R278): channel or none, RES, DETAIL; and what the hub records. -/
  results : List (Option (Fin 192) × Nat × Nat) := []
  reports : List IslReport := []
  deriving DecidableEq, Repr

/-- L+ and the cold junction of an island (11 R315, 13 R360). -/
structure IslSupply where
  v10 : Nat := 0
  warn : Bool := false
  lost : Bool := false
  latched : Bool := false
  lostAt : Nat := 0
  goodSince : Option Nat := none
  wbInhibit : Nat := 0
  cjTemp : BitVec 16 := 0
  cjFault : Bool := false
  cjGood : Option Nat := none
  deriving DecidableEq, Repr

/-- What every channel has. In the hub: the latest reading (status word, value, stamp, arrival), the SEEN bits, the channel
command (asker, command, whether it has been placed in a frame), the output value of the latest completed cycle and NEW. In the
island: the safe state. -/
structure Chan where
  status : BitVec 16 := 0
  value : W64 := 0
  stamp : Nat := 0
  arrived : Nat := 0
  seen : BitVec 16 := 0
  cmd : Option (CmdAsker × ChanCmd × Bool × Option Nat) := none
  outVal : W64 := 0
  /-- The value is of an unchecked cycle (R197). -/
  outUnc : Bool := false
  outQual : Byte := 0
  outNew : Bool := false
  /-- In the island: the latest result or readback with its status bits and stamp, and the latest command. -/
  islStatus : BitVec 16 := 0
  islValue : W64 := 0
  islStamp : Nat := 0
  /-- The stamp was marked time-uncertain when it was taken (R141, R143). -/
  islUnc : Bool := false
  command : W64 := 0
  commandQ : Byte := 0xC0
  commanded : Bool := false
  safe : Bool := true
  deriving DecidableEq, Repr

/-- An analogue input channel (11). -/
structure AiChan where
  raw : BitVec 24 := 0
  /-- The voltage of the latest result (R312); whether every scan result since the last open-wire test was at the positive clip. -/
  lastV : W64 := 0
  scanClip : Option Bool := none
  /-- The rate code of the running conversion, and the cause of a cap (R324: 0 none, 1 band, 2 low-power mode). -/
  rate : Nat := 0
  cap : Fin 3 := 0
  ready : Nat := 0
  calOfs : W32 := 0
  calGain : W32 := 0x40000000
  uncal : Bool := true
  calFailed : Bool := false
  calSource : Fin 4 := 0
  calAt : Nat := 0
  /-- OPENWIRE stands, the last verdict (1 connected, 2 open, 3 undecided), its method, undecided verdicts (R314). -/
  open_ : Bool := false
  verdict : Fin 4 := 0
  method : Fin 4 := 0
  undec : Nat := 0
  /-- A test runs: since when, whether by test voltage, whether a command asked for it; the next scheduled test. -/
  owRun : Bool := false
  owSince : Nat := 0
  owTv : Bool := false
  owCmd : Bool := false
  owNext : Nat := 0
  urgRun : Bool := false
  urgSince : Nat := 0
  urgVal : W64 := 0
  urgTs : Nat := 0
  /-- A routine's urgent conversion in a standby (R317): the core that waits, and when this module's own result came. -/
  urgCore : Option (Fin 8) := none
  urgOwn : Option Nat := none
  limits : BitVec 4 := 0
  done : Nat := 0
  drop : Nat := 0
  doneLat : Nat := 0
  dropLat : Nat := 0
  deriving DecidableEq, Repr

/-- Output drive states (12 R343). -/
inductive Drive where
  | command | held | value | ne43Low | ne43High | off | prepared
  deriving DecidableEq, Repr

/-- An analogue output channel (12). -/
structure AoChan where
  appl : W64 := 0
  lastGood : W64 := 0
  /-- The range code under which the latest value came; 0 before any (R340). -/
  cmdRange : Nat := 0
  drive : Drive := .off
  cause : Fin 5 := 0
  temp : BitVec 16 := 0
  openLoop : Bool := false
  foldback : Bool := false
  comply : Bool := false
  share : Nat := 0
  pShare : Nat := 0
  buck : Nat := 0
  vterm : Nat := 0
  thermal : Bool := false
  /-- The fault response that is applied (R327), since when the loop total lies below 0.05 mA, and within 0.1 % of span of the command. -/
  fault : Option (Fin 4) := none
  lowSince : Option Nat := none
  clearSince : Option Nat := none
  enter : Nat := 0
  enterLat : Nat := 0
  loss : Nat := 0
  lossLat : Nat := 0
  deriving DecidableEq, Repr

/-- A digital input channel (13). -/
structure DiChan where
  state : Bool := false
  band : Nat := 0
  candidate : Nat := 0
  since : Nat := 0
  vterm : BitVec 16 := 0
  undef_ : Bool := false
  openWire : Bool := false
  /-- Since when the terminal has been inside the wire-break band, or outside it. -/
  wbSince : Nat := 0
  count : W32 := 0
  freq : W64 := 0
  edges : List Nat := []
  lastEdge : Nat := 0
  known : Bool := false
  deriving DecidableEq, Repr

/-- A digital output channel (13). -/
structure DoChan where
  on : Bool := false
  cmd : Bool := false
  thermal : Bool := false
  thermalOff : Bool := false
  thermalAt : Nat := 0
  retries : Nat := 0
  comply : Bool := false
  openLoad : Bool := false
  extDrive : Bool := false
  imbal : Bool := false
  /-- PWM (R356): the on-time in ns of the running period and of the next, the start of the running period. -/
  onTime : Nat := 0
  nextOn : Nat := 0
  pwmAt : Option Nat := none
  clamp : Fin 3 := 0
  micro : Nat := 0
  vterm : Nat := 0
  onSince : Nat := 0
  offSince : Nat := 0
  /-- Until when the raised current limit holds (R352). -/
  raisedTill : Nat := 0
  /-- Since when, without interruption: the current lies below the open-load threshold; the limit is active, or not (R353); the terminal lies
  above 11 V, or below 4 V (R357); the group is out of balance, or within 20 % (R359). -/
  lowSince : Option Nat := none
  limSince : Option Nat := none
  freeSince : Option Nat := none
  extSince : Option Nat := none
  calmSince : Option Nat := none
  unevenSince : Option Nat := none
  evenSince : Option Nat := none
  deriving DecidableEq, Repr

/-- All 24 islands and 192 channels. -/
structure Io where
  isl : Vector Isl 24 := Vector.replicate 24 {}
  own : Vector IslSelf 24 := Vector.replicate 24 {}
  sup : Vector IslSupply 24 := Vector.replicate 24 {}
  acc : Vector IslStats 24 := Vector.replicate 24 {}
  lat : Vector IslStats 24 := Vector.replicate 24 {}
  /-- Channel and island commands that wait for their activation instant A (10 R290), and when the next ford period begins. -/
  waiting : List WaitCmd := []
  fordAt : Nat := 0
  chan : Vector Chan 192 := Vector.replicate 192 {}
  ai : Vector AiChan 192 := Vector.replicate 192 {}
  ao : Vector AoChan 192 := Vector.replicate 192 {}
  di : Vector DiChan 192 := Vector.replicate 192 {}
  dO : Vector DoChan 192 := Vector.replicate 192 {}
  deriving DecidableEq, Repr

/-! ### CAN (14) -/

/-- Transmit buffer states (14 R369). -/
inductive TxState where
  | empty | pending | active
  deriving DecidableEq, Repr

/-- A transmit buffer (14 R369). -/
structure TxBuf where
  st : TxState := .empty
  frame : Option CanFrame := none
  task : Fin 128 := 0
  cycle : W32 := 0
  next : Option (CanFrame × Fin 128 × W32) := none
  abort : Bool := false
  deriving DecidableEq, Repr

/-- A received frame in a FIFO (14 R372). -/
structure RxEntry where
  frame : CanFrame
  filter : Fin 32
  stamp : Nat
  completion : Nat
  deriving DecidableEq, Repr

/-- Statistics of a CAN port (14 R383). -/
structure CanStats where
  tx : Nat := 0
  rx : Nat := 0
  retry : Nat := 0
  noMatch : Nat := 0
  err : Nat := 0
  busOff : Nat := 0
  ovf : Nat := 0
  abort : Nat := 0
  repl : Nat := 0
  rxDiff : Nat := 0
  deriving DecidableEq, Repr

/-- A CAN port (14). -/
structure Can where
  state : Fin 4 := 3
  tec : Nat := 0
  rec_ : Nat := 0
  lec : Nat := 0
  lecData : Bool := false
  noAck : Bool := false
  ackErrs : Nat := 0
  integrating : Bool := false
  busOffAt : Nat := 0
  tx : Vector TxBuf 32 := Vector.replicate 32 {}
  fifo : List RxEntry := []
  overflow : Bool := false
  own : List RxEntry := []
  /-- The completion instant of the holder's latest notice (R380). -/
  noticed : Nat := 0
  acc : CanStats := {}
  lat : CanStats := {}
  deriving DecidableEq, Repr

/-! ### Power (16) -/

/-- An environment condition (16 R428): active, entries (24 bits, kept in the persistent-state store). -/
structure Env where
  active : Bool := false
  entries : BitVec 24 := 0
  deriving DecidableEq, Repr

/-- Statistics of the PWR block (16 R432). -/
structure PwrStats where
  dip : Nat := 0
  dipMax : Nat := 0
  /-- Highest and lowest core setpoint, in mV (PWR_STVCORE). -/
  vHigh : Nat := 0
  vLow : Nat := 0xFFFF
  pinMax : Nat := 0
  memCe : Nat := 0
  deriving DecidableEq, Repr

/-- Supply inputs, hold-up and rails (16 R413 to R424). Voltages of inputs and bus are in 10 mV. -/
structure Pwr where
  inA : Nat := 0
  inB : Nat := 0
  bus : Nat := 0
  aOk : Bool := false
  bOk : Bool := false
  aLost : Bool := false
  bLost : Bool := false
  /-- Since when the condition that ends or begins the loss of an input has held. -/
  aSince : Option Nat := none
  bSince : Option Nat := none
  warn : Bool := false
  dipStart : Nat := 0
  dipMinBus : Nat := 0
  dipMinIn : Nat := 0
  /-- Since when the higher input has been above 19.5 V during a warning. -/
  goodSince : Option Nat := none
  /-- The latest measured capacitance in 10 µF, and whether it was measured since the last BOOT (R432). -/
  cap : Nat := 0
  capSeen : Bool := false
  recharging : Bool := false
  stopping : Bool := false
  /-- The bus has fallen to 22 V since the module last left OFF, and when the inputs recovered after it (R421). -/
  low : Bool := false
  recoveredAt : Option Nat := none
  holdupLow : Bool := false
  boost : Bool := true
  testing : Option (Option (Fin 64)) := none
  testSince : Nat := 0
  /-- The PL domain has power. -/
  powered : Bool := true
  /-- The rail that is being brought up; failed attempts; the start of the rail's time or of the wait for the next attempt; the power
  die's latch (R414). -/
  railNext : Option (Fin 7) := none
  railTries : Nat := 0
  railSince : Nat := 0
  railFault : Option (Fin 7) := none
  /-- Since when the higher input lies from 18.5 V to 19.2 V (R428, condition 3). -/
  belowSince : Option Nat := none
  deriving DecidableEq, Repr

/-- Margin tracking, telemetry, operating time, environment (16 R424 to R433). -/
structure Tel where
  /-- The core setpoint in units of 0.5 mV: it is lowered in steps of 2.5 mV (R425). -/
  core : Nat := 1700
  guarantee : Nat := 0
  ceilHold : Bool := false
  marginLow : Bool := false
  lowSince : Nat := 0
  periodMargin : Int := 1000
  periodTask : Nat := 0xFF
  quiet : Nat := 0
  /-- When the next control period ends (R425). -/
  ctlAt : Nat := 0
  margin : W32 := 0x03E800FF
  pin : Nat := 0
  opTime : Nat := 0
  opFrac : Nat := 0
  /-- The operating time last given to the storage die (R424). -/
  opSaved : Nat := 0
  powerCycles : W32 := 0
  temps : Vector (BitVec 16) 12 := Vector.replicate 12 0
  rails : Vector Nat 10 := Vector.replicate 10 0
  env : Vector Env 8 := Vector.replicate 8 {}
  acc : PwrStats := {}
  lat : PwrStats := {}
  deriving DecidableEq, Repr

/-! ### Panel (18) -/

/-- An update of a region (18 R453, R454): its characters and icons, the session that asked for it, and whether it is in the frame
memory. -/
structure PanelUpd where
  text : List Byte
  icons : W32
  asker : Option (Fin 64)
  written : Bool
  deriving DecidableEq, Repr

/-- A panel region (18 R452 to R456): its layout, what the frame memory holds of it, the running and the queued update. -/
structure Region where
  entry : Option RegionEntry := none
  text : List Byte := []
  icons : W32 := 0
  running : Option PanelUpd := none
  queued : Option PanelUpd := none
  deriving DecidableEq, Repr

/-- The default layout: one module region over positions 0 to 5, no icons (18 R452). It shows BOOT (R455). -/
def defaultRegions : Vector Region 16 :=
  (Vector.replicate 16 {}).set 0
    { entry := some ⟨0, 0, 6, false, 0, []⟩, text := [0x42, 0x4F, 0x4F, 0x54, 0x20, 0x20] }

/-- Statistics of the LCD block (18 R461). -/
structure LcdStats where
  upd : Nat := 0
  repl : Nat := 0
  rej : Nat := 0
  deriving DecidableEq, Repr

/-- The panel (18). What takes effect at the next frame start waits in the `pend` fields. The meadow and the backlight follow the
module's state (R456, R457); `frozen` holds the meadow from the reset at 20 V on (R459). -/
structure Lcd where
  regions : Vector Region 16 := defaultRegions
  band : Fin 4 := 1
  pendBand : Fin 4 := 1
  rate : Fin 4 := 1
  pendRate : Fin 4 := 1
  pendLayout : Bool := false
  lowPower : Bool := false
  pendLow : Bool := false
  lastActivity : Nat := 0
  frameAt : Nat := 0
  frozen : Option (BitVec 8) := none
  acc : LcdStats := {}
  lat : LcdStats := {}
  deriving DecidableEq, Repr

/-! ### Module state, firmware, start-up (19) -/

/-- Module states (19 R463), with the codes of MOD_STATE. -/
inductive ModState where
  | off | boot | config | calibrate | join | standby | active | unchecked | failed | stopped
  deriving DecidableEq, Repr

/-- A firmware copy (19 R473). -/
structure Fw where
  version : BitVec 16 := 0
  pairMin : BitVec 4 := 0
  pairMax : BitVec 4 := 0
  st : Fin 4 := 0
  /-- The package as it was loaded into the single-level area (R24). -/
  bytes : List Byte := []
  deriving DecidableEq, Repr

/-- What waits for the end of a role swap or for a controlled stop. -/
inductive AfterSwap where
  | restartWarm
  | restartCold
  | halt (lane : Lane)
  deriving DecidableEq, Repr

/-- Module state and start-up (19). -/
structure Mod where
  st : ModState := .boot
  prev : ModState := .off
  bootCause : Nat := 0
  warm : Bool := false
  startBegin : Nat := 0
  startDur : Nat := 0
  fwRun : Fw := { version := 0, st := 1 }
  fwAlt : Fw := {}
  fwLoad : List Byte := []
  fwSelected : Bool := false
  /-- The last byte of the load has arrived (R473). -/
  fwDone : Bool := false
  /-- Which of the two copies (R24) runs. -/
  fwCopy : Bool := false
  enteredAt : Nat := 0
  /-- The code of the record of the fault that made the module FAILED (18 R455). -/
  failCode : Nat := 0
  /-- A rail fault has led to FAILED, or was found beside the fault that did (R471). -/
  railHit : Bool := false
  /-- The start in progress is a warm one. -/
  warmStart : Bool := false
  /-- When the wait of R467 began; the join instant J; when the join began, the granules it mirrored, whether the image was fetched
  (R468). -/
  joinWait : Option Nat := none
  joinAt : Option Nat := none
  joinBegan : Option Nat := none
  joinGranules : Nat := 0
  joinFetched : Bool := false
  /-- The partner's running image is being fetched (R466), or its idle image (R468). -/
  fetching : Bool := false
  idleFetch : Bool := false
  after : Option (AfterSwap × Option Origin) := none
  deriving DecidableEq, Repr

/-! ### What the module sends -/

/-- A message over the saddle links (R204). -/
inductive Saddle where
  | heartbeat (h : Heartbeat)
  | notice (n : Notice)
  | readings (t : Fin 128) (cycle : W32) (readings : List (BitVec 16 × W128))
  | mirror (m : MirrorMsg)
  | force (id : Nat) (op : ForceOp) (at_ : Nat)
  | chanCmd (id : Nat) (cmd : ChanCmd) (at_ : Nat)
  | key (id : Nat) (stmt : List Byte)
  | chunk (offset : Nat) (data : List Byte)
  | armOrder
  | armed (code : Byte)
  | relay (m : RelayMsg)
  | verdict (id : Nat) (status : Status) (result : W32)
  | confirm (id : Nat)
  | canConfirm (port : Fin 4) (buf : Fin 32) (task : Fin 128) (cycle : W32)
  | canRx (port : Fin 4) (e : RxEntry)
  | health (report : W32)
  | candidate (r : Nat) (swap : Bool)
  | ready (yes : Bool)
  | claimAnnounce (epoch : W32)
  | yield (epoch : W32) (successor : W64)
  | released
  | sample (m : Sample)
  | stationMap (maps : List (Fin 24 × W32))
  | urgentResult (c : Fin 192) (value : W64) (stamp : Nat)
  | joinAt (j : Nat)
  | fullMirror (granules : List (Nat × Granule)) (forces : List (Fin 4096 × Force))
  | fetchImage (idle : Bool)
  deriving DecidableEq, Repr

/-- A part of the mirror data that has been sent on a saddle link, while it may still be in flight (R204). -/
structure InFlight where
  link : Fin 2
  at_ : Nat
  unchecked : Bool
  msg : Saddle
  deriving DecidableEq, Repr

/-- A frame on a Vale link by its header and payload (09 R242, R243); Hops is 0 as sent. -/
structure VFrame where
  dst : BitVec 48 := 0x03564C000000
  src : BitVec 48 := 0
  etherType : Nat := 0
  typ : Nat
  flags : Byte
  pos : Byte
  epoch : W32
  seq : W32
  task : Nat := 0
  part : Nat := 0
  parts : Nat := 1
  time : Nat := 0
  first : Nat := 0
  count : Nat := 0
  payload : List Byte
  deriving DecidableEq, Repr

/-- Everything the module sends to the world outside it. -/
inductive Out where
  | reply (conn : Nat) (typ : Nat) (tag : W32) (status : Status) (body : List Byte)
  | notice (conn : Nat) (kind : Nat) (addr : W32) (count : W32)
  | closeConn (conn : Nat)
  | saddle (links : List (Fin 2)) (seq : Nat) (unchecked : Bool) (m : Saddle)
  | vale (link : Fin 24) (f : VFrame)
  | fordDown (n : Fin 24) (f : DownFrame)
  | canStart (port : Fin 4) (buf : Fin 32) (f : CanFrame)
  | canErrorFlag (port : Fin 4) (active : Bool)
  | ptpDelayReq (port : Fin 2) (seq : BitVec 16)
  | debug (data : W128) (err : Bool)
  | debugStatus (accepted : Bool)
  | toLane (lane : Lane) (stream : Fin 72) (data : W128)
  | serviceReturn (core : Fin 8) (data : W128)
  | frameReturn (core : Fin 8) (e : Option RxEntry)
  deriving DecidableEq, Repr

end Sys2Proof.Machine
end

