-- ==== Sys2Proof/Machine/State.lean ====
section
/-!
DEFINITION. The state of the module: everything the manual gives it, the queue of commands that wait, and the state after
reset. Every field is plain data; the default of each field of each part is its value after reset.
-/

namespace Sys2Proof.Machine

/-- A value of an item of the persistent-state store (R24, R25). -/
inductive PValue where
  | keyTable (keys : List KeySlot) (revoked : List W256)
  | savedTime (t : Nat)
  | opTime (t : Nat)
  | powerCycles (n : W32)
  | terrace (t : Bool)
  | epoch (e : W32)
  | rates (r : List Rate)
  | env (n : List (BitVec 24))
  deriving DecidableEq, Repr

/-- A copy of an item in the single-level area (R25): the item, its sequence number, the CRC-32 stored with them. -/
structure StoreCopy where
  value : PValue
  seq : W32
  crc : W32
  deriving DecidableEq, Repr

/-- What follows when a write of the store ends: nothing, or a key operation of a session or of the holder. -/
inductive PAct where
  | none
  | keyOp (se : Fin 64) (tag : W32) (stmt : List Byte)
  | keyForward (id : Nat) (stmt : List Byte)
  | keyRelayed (id : Nat) (se : Fin 64) (stmt : List Byte)
  deriving DecidableEq, Repr

/-- A write of the store in progress: the value and how often it has been tried. -/
structure PWrite where
  value : PValue
  tries : Nat
  act : PAct
  deriving DecidableEq, Repr

/-- What memory and the persistent-state store hold beside the parts that have a structure of their own (01). -/
structure MemState where
  /-- The listed bytes of every region of R18, by the address that R511 reports; an unlisted address reads 0
  (DESIGN CHOICE, log 3). -/
  cells : List Host.Cell := []
  /-- Poisoned history granules, by the memory address of their first byte (R21). -/
  poisoned : List Nat := []
  /-- The granule the scrubber visits next, of 268 435 456, and when (R22). -/
  scrub : Nat := 0
  scrubAt : Nat := 0
  /-- The persistent-state store (R25): for each item 1 to 8 its two copies. -/
  items : Vector (Vector (Option StoreCopy) 2) 9 := Vector.replicate 9 (Vector.replicate 2 none)
  /-- The writes of the store, first the one in progress. -/
  writes : List PWrite := []
  /-- The instant by which the terrace record is to be written (R164). -/
  terrDue : Option Nat := none
  /-- The multi-level area of the storage die (R24): history archives and diagnostic snapshots, as bytes. No command of the table writes or
  reads them. -/
  archives : List Byte := []
  deriving DecidableEq, Repr

/-- **The machine.** -/
structure State where
  /-- Commands that wait, first in, first out. -/
  pending : List Instr := []
  /-- The model's own counter for free values: each use takes the next number (DESIGN CHOICE, log 4). -/
  free : Nat := 0
  /-- What the module has sent, in order (DESIGN CHOICE, log 4). -/
  out : List Out := []
  /-- Mirror data that may be in flight on the saddle links (R204). -/
  flight : List InFlight := []
  mem : MemState := {}
  tb : Tb := {}
  tbAcc : TbStats := {}
  tbLat : TbStats := {}
  tsk : Tsk := {}
  img : Img := {}
  frc : Frc := {}
  laneA : LaneState := {}
  laneB : LaneState := {}
  lsk : Lsk := {}
  pair : Pair := {}
  lease : Lease := {}
  mir : Mirror := {}
  links : Vector Lnk 24 := Vector.replicate 24 {}
  io : Io := {}
  can : Vector Can 4 := Vector.replicate 4 {}
  ses : Ses := {}
  pwr : Pwr := {}
  tel : Tel := {}
  evr : Evr := {}
  lcd : Lcd := {}
  mod : Mod := {}
  deriving DecidableEq, Repr

/-- The machine right after reset: a module that has been manufactured, in BOOT (R480, R482). Fields without a reset value in the manual: DESIGN
CHOICE, log 5. -/
def State.reset : State := {}

/-- Why a step stops with a fault. -/
inductive Fault where
  /-- Raised by an access to a memory address outside the 16 GiB of R511; safe: no manual rule gives such an access an
  effect, and no command of the table makes one. -/
  | noSuchAddress (addr : Nat)
  deriving DecidableEq, Repr

/-- Why a command has no meaning. -/
inductive Refusal where
  /-- Raised by an arm of `exec` that has no meaning yet; safe: the machine stops. -/
  | notModelled (mnemonic : String)
  deriving DecidableEq, Repr

end Sys2Proof.Machine
end

