-- ==== Sys2Proof/Machine/Ops.lean ====
section
/-!
DEFINITION. The named operations that the meanings share: entity updates, memory, colours, roles in the pair, sending,
records, triggers, result registers, acknowledgements, free values.
-/

namespace Sys2Proof.Machine

/-! ### Entities -/

/-- Change one entry of a vector. -/
def upd {α : Type} {n : Nat} (v : Vector α n) (i : Fin n) (f : α → α) : Vector α n :=
  v.set i.val (f v[i]) i.isLt

/-- Change every entry of a vector, with its number. -/
def updAll {α : Type} {n : Nat} (v : Vector α n) (f : Fin n → α → α) : Vector α n :=
  Vector.ofFn (fun i => f i v[i])

/-- The numbers of a vector's entries that satisfy `p`, ascending. -/
def indexes {α : Type} {n : Nat} (v : Vector α n) (p : Fin n → α → Bool) : List (Fin n) :=
  (List.finRange n).filter (fun i => p i v[i])

/-- `List.mapM`-free fold of a state over a list. -/
def overAll {α σ : Type} (xs : List α) (f : α → σ → σ) (s : σ) : σ :=
  xs.foldl (fun t x => f x t) s

/-- A bit vector of `n` bits from a list of bits set by `p`. -/
def bitsOf (n : Nat) (p : Nat → Bool) : Nat :=
  (List.range n).foldl (fun acc b => if p b then acc + 2 ^ b else acc) 0

/-! ### Memory (01 R18 to R21, R511) -/

/-- One byte. An unlisted address reads 0 (log 3). -/
def Memory.read (m : List Host.Cell) (a : Nat) : Byte :=
  match m with
  | [] => 0
  | (b, v) :: rest => if a = b then v else if a < b then 0 else Memory.read rest a

/-- Write one byte and keep the canonical form: addresses rise, no listed byte is 0. -/
def Memory.write (m : List Host.Cell) (a : Nat) (v : Byte) : List Host.Cell :=
  match m with
  | [] => if v = 0 then [] else [(a, v)]
  | (b, w) :: rest =>
    if a < b then (if v = 0 then (b, w) :: rest else (a, v) :: (b, w) :: rest)
    else if a = b then (if v = 0 then rest else (a, v) :: rest)
    else (b, w) :: Memory.write rest a v

/-- The canonical form: addresses strictly rising, no entry equal to what an unlisted address reads as. -/
def Memory.wf (m : List Host.Cell) : Bool :=
  match m with
  | [] => true
  | [(_, v)] => v != 0
  | (a, v) :: (b, w) :: rest => v != 0 && decide (a < b) && Memory.wf ((b, w) :: rest)

/-- Write bytes at rising addresses. -/
def Memory.writeBytes (m : List Host.Cell) (a : Nat) (bs : List Byte) : List Host.Cell :=
  match bs with
  | [] => m
  | v :: rest => Memory.writeBytes (Memory.write m a v) (a + 1) rest

/-- `n` bytes from address `a`. -/
def Memory.readBytes (m : List Host.Cell) (a n : Nat) : List Byte :=
  (List.range n).map (fun k => Memory.read m (a + k))

/-- A 128-bit word, byte 0 in bits [7:0] (00 Notation). -/
def Memory.word (m : List Host.Cell) (a : Nat) : W128 :=
  BitVec.ofNat 128 (leNat (Memory.readBytes m a 16))

/-- Write the bytes of a word that its byte enables select (07 R180). -/
def Memory.writeWord (m : List Host.Cell) (a : Nat) (w : W128) (en : BitVec 16) : List Host.Cell :=
  (List.range 16).foldl
    (fun acc k => if en.getLsbD k then Memory.write acc (a + k) (BitVec.ofNat 8 (w.toNat / 256 ^ k)) else acc) m

/-- The content of a granule. -/
def Memory.granule (m : List Host.Cell) (a : Nat) : Granule :=
  BitVec.ofNat 512 (leNat (Memory.readBytes m a 64))

/-- Host addresses of the tagged regions (R18, R399). -/
def inputBase : Nat := 0x00100000
def outputBase : Nat := 0x00200000
def varBase : Nat := 0x10000000
/-- Where memory addresses begin, and those of the regions without a host address (R511). -/
def memoryBase : Nat := 0x100000000
def workBase : Nat := 0x100000000 + 258 * 0x100000
def sessionBase : Nat := 0x100000000 + 1282 * 0x100000
def systemBase : Nat := 0x100000000 + 2306 * 0x100000
def historyBase : Nat := 0x100000000 + 3330 * 0x100000
def memoryTop : Nat := 0x500000000

/-- The regions of R18. -/
inductive Region18 where
  | input | output | vars | work | session (n : Fin 64) | system | history | none
  deriving DecidableEq, Repr

/-- The region of an address in the form that R511 reports. -/
def regionOf (a : Nat) : Region18 :=
  if inputBase ≤ a ∧ a < inputBase + 0x100000 then .input
  else if outputBase ≤ a ∧ a < outputBase + 0x100000 then .output
  else if varBase ≤ a ∧ a < varBase + 0x10000000 then .vars
  else if workBase ≤ a ∧ a < sessionBase then .work
  else if sessionBase ≤ a ∧ a < systemBase then .session (Fin.ofNat 64 ((a - sessionBase) / 0x1000000))
  else if systemBase ≤ a ∧ a < historyBase then .system
  else if historyBase ≤ a ∧ a < memoryTop then .history
  else .none

/-- The granule index of an address of the tagged regions (02 CMAP). -/
def granuleOf (a : Nat) : Option Nat :=
  match regionOf a with
  | .input => some ((a - inputBase) / 64)
  | .output => some (16384 + (a - outputBase) / 64)
  | .vars => some (32768 + (a - varBase) / 64)
  | _ => none

/-- The host address of a granule index. -/
def granuleAddr (g : Nat) : Nat :=
  if g < 16384 then inputBase + 64 * g
  else if g < 32768 then outputBase + 64 * (g - 16384)
  else varBase + 64 * (g - 32768)

/-- The colour of a granule (R402, 02 CMAP): that of the range that covers it, else 0; 0 with no running image. -/
def colourIn (ranges : List ColourRange) (g : Nat) : BitVec 4 :=
  match ranges with
  | [] => 0
  | r :: rest => if r.first ≤ g ∧ g < r.first + r.count then r.colour else colourIn rest g

/-- The colour of a granule under the running image. -/
def colourOf (s : State) (g : Nat) : BitVec 4 :=
  match s.img.run with
  | some i => colourIn i.colours g
  | none => 0

/-- A mask grants a colour (02 CMAP). -/
def grants (mask : BitVec 16) (c : BitVec 4) : Bool := mask.getLsbD c.toNat

/-- Replace the memory. -/
def withMem (s : State) (m : List Host.Cell) : State := { s with mem := { s.mem with cells := m } }

/-- Read one byte of the machine's memory. -/
def State.byte (s : State) (a : Nat) : Byte := Memory.read s.mem.cells a

/-- The address of an input or output point record (R399). -/
def inputAddr (p : Nat) : Nat := inputBase + 16 * p
def outputAddr (p : Nat) : Nat := outputBase + 16 * p

/-! ### Point records (15 R400) -/

/-- Qualities of R400. -/
def qGood : Byte := 0xC0
def qUncertain : Byte := 0x40
def qBad : Byte := 0x00

/-- Sources of R400. -/
inductive Source where
  | none | local_ | partner | remote | substitute | forced | task
  deriving DecidableEq, Repr

/-- The code of a source. -/
def Source.code : Source → Byte
  | .none => 0 | .local_ => 1 | .partner => 2 | .remote => 3 | .substitute => 4 | .forced => 5 | .task => 6

/-- The age that TIME holds (R400): saturating, 0 when the stamp lies later. -/
def age (now stamp : Nat) : W32 := sat32 (now - stamp)

/-- A point record (R400). -/
def pointRecord (value : W64) (status : BitVec 16) (quality : Byte) (source : Source) (time : W32) : W128 :=
  ((time ++ source.code) ++ (quality ++ status)) ++ value

def recValue (r : W128) : W64 := r.extractLsb' 0 64
def recStatus (r : W128) : BitVec 16 := r.extractLsb' 64 16
def recQuality (r : W128) : Byte := r.extractLsb' 80 8
def recSource (r : W128) : Byte := r.extractLsb' 88 8
def recTime (r : W128) : W32 := r.extractLsb' 96 32

/-- The record with another value, quality and source; status and time stay (R168). -/
def recForce (r : W128) (value : W64) (quality : Byte) : W128 :=
  ((recTime r ++ Source.forced.code) ++ (quality ++ recStatus r)) ++ value

/-- The record with another source. -/
def recWithSource (r : W128) (src : Source) : W128 :=
  ((recTime r ++ src.code) ++ (recQuality r ++ recStatus r)) ++ recValue r

/-- The record with another quality. -/
def recWithQuality (r : W128) (q : Byte) : W128 :=
  ((recTime r ++ recSource r) ++ (q ++ recStatus r)) ++ recValue r

/-! ### Module state and roles (08 R214, R509, 19 R463) -/

/-- The code of a module state (R463). -/
def ModState.code : ModState → Fin 10
  | .off => 0 | .boot => 1 | .config => 2 | .calibrate => 3 | .join => 4
  | .standby => 5 | .active => 6 | .unchecked => 7 | .failed => 8 | .stopped => 9

/-- RUN is STANDBY, ACTIVE or UNCHECKED (04, R463). -/
def inRun (s : State) : Bool := s.mod.st == .standby || s.mod.st == .active || s.mod.st == .unchecked

/-- The module holds the lease (R208): it has gained it and the time base is earlier than L. -/
def holds (s : State) : Bool := s.lease.holder && decide (s.tb.now < s.lease.leaseEnd)

/-- The partner is present (R205). -/
def partnerPresent (s : State) : Bool := s.pair.partner == .holder || s.pair.partner == .without

/-- The partner's state is one of RUN. -/
def partnerInRun (s : State) : Bool :=
  partnerPresent s && (s.pair.partnerState == 5 || s.pair.partnerState == 6 || s.pair.partnerState == 7)

/-- The partner is STANDBY (R463). -/
def partnerStandby (s : State) : Bool := partnerPresent s && s.pair.partnerState == 5

/-- R509: in RUN, without the lease, and knowing of no holder. -/
def knowsNoHolder (s : State) : Bool :=
  inRun s && !holds s && (!partnerPresent s || s.lease.hbNoLease)

/-- A holder, or a module that knows of no holder, decides its releases itself (R113, R509). -/
def decides (s : State) : Bool := holds s || knowsNoHolder s

/-- A saddle link is up. -/
def saddleUp (s : State) : Bool := s.pair.up[(0 : Fin 2)] || s.pair.up[(1 : Fin 2)]

/-- Mirror data and control messages can reach a partner in RUN, and this module is its holder. -/
def mirrors (s : State) : Bool := holds s && partnerInRun s && saddleUp s

/-- The other lane. -/
def laneOther : Lane → Lane
  | .A => .B
  | .B => .A

/-! ### Names for times in ns -/

def us : Nat := 1000
def ms : Nat := 1000000
def sec : Nat := 1000000000

/-! ### Halted lanes (07 R196) -/

def lanes : List Lane := [.A, .B]

/-- A lane does not run: it is halted, or resumed and not yet brought back into step. -/
def idles (h : HaltState) (l : Lane) : Bool :=
  match h with
  | .none => false
  | .halted x => x == l
  | .resumed x => x == l
  | .neither _ => true

/-- The lane that is halted. -/
def haltedLane (h : HaltState) : Option Lane :=
  match h with
  | .none => none
  | .halted l => some l
  | .resumed _ => none
  | .neither l => l

/-- A lane is halted now. -/
def haltNow (l : Lane) (h : HaltState) : HaltState :=
  match h with
  | .none => .halted l
  | .halted x => .halted x
  | .resumed x => if x == l then .halted l else .neither (some l)
  | .neither _ => .neither (some l)

/-- The halted lane is resumed. -/
def resumeNow (h : HaltState) : HaltState :=
  match h with
  | .halted l => .resumed l
  | .neither _ => .neither none
  | x => x

/-! ### Sending -/

/-- Send something: append it to what the module has sent. -/
def emit (o : Out) (s : State) : State := { s with out := s.out ++ [o] }

/-- Count frames and messages sent with the unchecked mark (07 R197, LSK_STUNCHK). -/
def countUnchecked (unchecked : Bool) (n : Nat) (s : State) : State :=
  if unchecked then { s with lsk := { s.lsk with acc := { s.lsk.acc with unchk := satAdd max32 s.lsk.acc.unchk n } } } else s

/-- The module can send to its partner: a saddle link is up; a module in FAILED or STOPPED, or after a fault, sends nothing (R186, R463). -/
def saddleOpen (s : State) : Bool :=
  saddleUp s && !s.lsk.stopped && s.mod.st != .failed && s.mod.st != .stopped && s.mod.st != .off

/-- Send a control message on both saddle links, under the next sequence number (R204). While the module is UNCHECKED it carries the unchecked
mark (07 R197). -/
def saddle (m : Saddle) (s : State) : State :=
  if saddleOpen s then
    let s1 := { s with pair := { s.pair with seqOut := s.pair.seqOut + 1 } }
    emit (.saddle [0, 1] s1.pair.seqOut s.lsk.unchecked m) (countUnchecked s.lsk.unchecked 2 s1)
  else s

/-- The saddle links that are up. -/
def upLinks (s : State) : List (Fin 2) := (List.finRange 2).filter (fun l => s.pair.up[l])

/-- The part of mirror data that one of `n` links carries: granule by granule in turn (R204). -/
def stripe {α : Type} (i n : Nat) (gs : List α) : List α :=
  (((List.range gs.length).zip gs).filter (fun x => x.1 % n == i)).map (fun x => x.2)

/-- Send a part of mirror data on one link; it may be in flight for some time. -/
def sendPart (l : Fin 2) (unchecked : Bool) (m : Saddle) (s : State) : State :=
  emit (.saddle [l] s.pair.seqOut unchecked m) (countUnchecked unchecked 1
    { s with flight := s.flight.filter (fun x => decide (s.tb.now < x.at_ + sec)) ++ [⟨l, s.tb.now, unchecked, m⟩] })

/-- Send mirror data, striped across the links that are up (R204). -/
def saddleData (unchecked : Bool) (msg : List (Nat × Granule) → Saddle) (gs : List (Nat × Granule)) (s : State) : State :=
  if saddleOpen s then
    let up := upLinks s
    overAll ((List.range up.length).zip up) (fun x t =>
      let part := stripe x.1 up.length gs
      if x.1 != 0 && part.isEmpty then t else sendPart x.2 (unchecked || s.lsk.unchecked) (msg part) t) s
  else s

/-- A new number for a message that will be confirmed. -/
def freshId (s : State) : Nat × State :=
  (s.pair.nextId, { s with pair := { s.pair with nextId := s.pair.nextId + 1 } })

/-- The next free value of `w` bits and the state with the counter advanced. -/
def freeValue (w : Nat) (s : State) : BitVec w × State :=
  (Config.free w s.free, { s with free := s.free + 1 })

/-! ### Records (17) -/

/-- Little-endian packing of fields of the given widths in bytes. -/
def packLe : List (Nat × Nat) → Nat
  | [] => 0
  | (n, v) :: rest => v % 256 ^ n + 256 ^ n * packLe rest

/-- The 14 data bytes of a record, byte 14 in bits [7:0]. -/
def recData (fields : List (Nat × Nat)) : BitVec 112 := BitVec.ofNat 112 (packLe fields)

/-- The low bits of an integer in two's complement, for a data field of `n` bytes. -/
def signedField (n : Nat) (i : Int) : Nat := (i % (256 ^ n : Nat)).toNat

/-- The severity of a code (R437). `det` says that the record is the set, detected, entered or lost form of a record whose data
distinguish such forms. -/
def severity (code : Nat) (det : Bool) (data : BitVec 112) : BitVec 2 :=
  if code = 0x2001 ∨ code = 0x2002 ∨ code = 0x2003 ∨ code = 0x2040 ∨ code = 0x7006 then 3
  else if code = 0x1002 then
    (if data.extractLsb' 32 8 = 0 ∨ data.extractLsb' 32 8 = 2 then 2 else 0)
  else if code = 0x0005 ∨ code = 0x1013 ∨ code = 0x1022 ∨ code = 0x3001 ∨ code = 0x3003 ∨ code = 0x4001
      ∨ code = 0x4102 ∨ code = 0x5002 ∨ code = 0x7005 ∨ code = 0x8002 ∨ (0x8100 ≤ code ∧ code ≤ 0x8115) then 2
  else if code = 0x0004 ∨ code = 0x2011 ∨ code = 0x6010 ∨ code = 0x6031 ∨ code = 0x7001 ∨ code = 0x7002
      ∨ (0x7020 ≤ code ∧ code ≤ 0x7027) ∨ code = 0x7030 ∨ code = 0xF003 then 1
  else if det then 1 else 0

/-- The event as it is registered now. -/
def eventOf (code : Nat) (sev : BitVec 2) (src : Byte) (data : BitVec 112) (s : State) : Ev :=
  { code := BitVec.ofNat 16 code, sev := sev, unchecked := s.lsk.unchecked, holder := holds s, src := src
    opTime := BitVec.ofNat 48 s.tel.opTime, cycles := s.tel.powerCycles, data := data, at_ := s.tb.now }

/-- Register an event: it joins the queue of 256, or is counted as lost to a full queue (R436). -/
def enqueueEv (e : Ev) (s : State) : State :=
  if s.evr.queue.length < 256 then { s with evr := { s.evr with queue := s.evr.queue ++ [e] } }
  else { s with evr := { s.evr with acc := { s.evr.acc with qovf := satSucc max32 s.evr.acc.qovf } } }

/-- Register an event of the module with its data fields. -/
def logEv (code : Nat) (det : Bool) (fields : List (Nat × Nat)) (s : State) : State :=
  enqueueEv (eventOf code (severity code det (recData fields)) 0 (recData fields) s) s

/-- Register an event that a session caused. -/
def logSes (code : Nat) (det : Bool) (se : Fin 64) (fields : List (Nat × Nat)) (s : State) : State :=
  enqueueEv (eventOf code (severity code det (recData fields)) (BitVec.ofNat 8 (1 + se.val)) (recData fields) s) s

/-- Register an event whose record the manual does not lay down: code, severity and data are free values (log 25). -/
def logOpen (s : State) : State :=
  let (code, s1) := freeValue 16 s
  let (sev, s2) := freeValue 2 s1
  let (data, s3) := freeValue 112 s2
  enqueueEv (eventOf code.toNat sev 0 data s3) s3

/-- A Boolean as a field. -/
def bitNat (b : Bool) : Nat := if b then 1 else 0

/-- The code of a lane in a record (R200). -/
def laneCode : Lane → Nat
  | .A => 0
  | .B => 1

/-! ### Triggers (04 R97 to R100) -/

/-- Register triggers, in order. In a switch window they are held (R160). Outside RUN nothing is registered (04, R118). -/
def trigger (t : TrigReg) (s : State) : State :=
  if !inRun s then s
  else match s.tsk.switch with
  | some q =>
    if q.phase == .window then { s with tsk := { s.tsk with heldTrigs := s.tsk.heldTrigs ++ [t] } }
    else { s with tsk := { s.tsk with trigQ := s.tsk.trigQ ++ [t] } }
  | none => { s with tsk := { s.tsk with trigQ := s.tsk.trigQ ++ [t] } }

/-- Register a trigger that R98 matches by code and arguments. -/
def triggerMatch (code a b stamp : Nat) (arg info : W32) (s : State) : State :=
  trigger (.matching code a b ⟨code, 0, stamp, arg, info, s.tb.now⟩) s

/-- Enter a reason for an error task (R100). -/
def triggerReason (task : Option (Fin 128)) (reason : Byte) (arg info : W32) (s : State) : State :=
  match task with
  | none => s
  | some t => trigger (.reasonFor t ⟨5, reason, s.tb.now, arg, info, s.tb.now⟩) s

/-! ### The running image -/

/-- The entry of a task in the running image (R91). -/
def taskEntry (s : State) (t : Fin 128) : Option TaskEntry :=
  match s.img.run with
  | some i => i.tasks.find? (fun e => e.num == t)
  | none => none

/-- The entry of a channel in the running image. -/
def chanEntry (s : State) (c : Fin 192) : ChanEntry :=
  match s.img.run with
  | some i => i.channels[c]
  | none => {}

/-- The entry of an island in the running image. -/
def islEntry (s : State) (n : Fin 24) : IslandEntry :=
  match s.img.run with
  | some i => i.islands[n]
  | none => {}

/-- The entry of a link in the running image. -/
def linkEntry (s : State) (l : Fin 24) : LinkEntry :=
  match s.img.run with
  | some i => i.links[l]
  | none => {}

/-- The entry of a station in the running image. -/
def stnEntry (s : State) (l : Fin 24) (p : Fin 32) : Option StationEntry :=
  match s.img.run with
  | some i => i.stations.find? (fun e => e.link == l && e.pos == p)
  | none => none

/-- The entry of a CAN port in the running image. -/
def canEntry (s : State) (p : Fin 4) : CanEntry :=
  match s.img.run with
  | some i => i.can[p]
  | none => {}

/-- The settings of the running image, or the defaults. -/
def settings (s : State) : ImageSettings :=
  match s.img.run with
  | some i => i.settings
  | none => {}

/-- The island of a channel (R9). -/
def islandOf (c : Fin 192) : Fin 24 := ⟨c.val / 8, by omega⟩

/-- A channel of an island (R9). -/
def chanOf (n : Fin 24) (k : Fin 8) : Fin 192 := ⟨8 * n.val + k.val, by omega⟩

/-- A point lies in a set of ranges. -/
def inRanges (rs : List (Nat × Nat)) (p : Nat) : Bool := rs.any (fun r => r.1 ≤ p && p ≤ r.2)

/-- Every point of a set of ranges. -/
def pointsOf (rs : List (Nat × Nat)) : List Nat :=
  rs.flatMap (fun r => (List.range (r.2 + 1 - r.1)).map (fun k => r.1 + k))

/-- Witness count W and quorum Q of the running image (R206). -/
def witnesses (s : State) : Nat :=
  match s.img.run with
  | some i => (i.stations.filter (fun e => e.witness)).length
  | none => 0
def quorum (s : State) : Nat := witnesses s / 2 + 1

/-- The lease duration D in ns (R206). -/
def leaseD (s : State) : Nat := (settings s).leaseUs * 1000
/-- The takeover guard G in ns (R206). -/
def guardG : Nat := 500000

/-! ### Tasks -/

/-- Change the run-time fields of a task. -/
def onTask (t : Fin 128) (f : TaskRt → TaskRt) (s : State) : State :=
  { s with tsk := { s.tsk with rt := upd s.tsk.rt t f } }

/-- Change the interval statistics of a task. -/
def onTaskStats (t : Fin 128) (f : TaskStats → TaskStats) (s : State) : State :=
  { s with tsk := { s.tsk with acc := upd s.tsk.acc t f } }

/-- Change the cycle in progress of a task. -/
def onCycle (t : Fin 128) (f : Cycle → Cycle) (s : State) : State :=
  onTask t (fun r => { r with cur := r.cur.map f }) s

/-! ### Channels, islands, links, CAN ports -/

def onChan (c : Fin 192) (f : Chan → Chan) (s : State) : State :=
  { s with io := { s.io with chan := upd s.io.chan c f } }
def onAi (c : Fin 192) (f : AiChan → AiChan) (s : State) : State :=
  { s with io := { s.io with ai := upd s.io.ai c f } }
def onAo (c : Fin 192) (f : AoChan → AoChan) (s : State) : State :=
  { s with io := { s.io with ao := upd s.io.ao c f } }
def onDi (c : Fin 192) (f : DiChan → DiChan) (s : State) : State :=
  { s with io := { s.io with di := upd s.io.di c f } }
def onDo (c : Fin 192) (f : DoChan → DoChan) (s : State) : State :=
  { s with io := { s.io with dO := upd s.io.dO c f } }
def onIsl (n : Fin 24) (f : Isl → Isl) (s : State) : State :=
  { s with io := { s.io with isl := upd s.io.isl n f } }
def onOwn (n : Fin 24) (f : IslSelf → IslSelf) (s : State) : State :=
  { s with io := { s.io with own := upd s.io.own n f } }
def onSup (n : Fin 24) (f : IslSupply → IslSupply) (s : State) : State :=
  { s with io := { s.io with sup := upd s.io.sup n f } }
def onIslStats (n : Fin 24) (f : IslStats → IslStats) (s : State) : State :=
  { s with io := { s.io with acc := upd s.io.acc n f } }
def onLink (l : Fin 24) (f : Lnk → Lnk) (s : State) : State :=
  { s with links := upd s.links l f }
def onStn (l : Fin 24) (p : Fin 32) (f : Stn → Stn) (s : State) : State :=
  onLink l (fun k => { k with stns := upd k.stns p f }) s
def onBring (l : Fin 24) (p : Fin 32) (f : Bring → Bring) (s : State) : State :=
  onLink l (fun k => { k with bring := upd k.bring p f }) s
def onCan (p : Fin 4) (f : Can → Can) (s : State) : State :=
  { s with can := upd s.can p f }

/-! ### Sessions and results (15) -/

def onSess (se : Fin 64) (f : Sess → Sess) (s : State) : State :=
  { s with ses := { s.ses with tab := upd s.ses.tab se f } }

/-- A session is open. -/
def sesOpen (s : State) (se : Fin 64) : Bool := s.ses.tab[se].st == .open_

/-- The effective masks of a session (R402). -/
def effRead (x : Sess) : BitVec 16 := x.readMask &&& ~~~ x.rdDropUsed
def effWrite (x : Sess) : BitVec 16 := x.writeMask &&& ~~~ x.wrDropUsed

/-- The session holds the maintenance colour (R402). -/
def holdsMaint (x : Sess) : Bool := (effWrite x).getLsbD 0

/-- Put a value into a result register (R486). -/
def Results.put (r : Results) (g : ResReg) (v : W32) : Results :=
  match g with
  | .mod => { r with mod := v }
  | .img => { r with img := v }
  | .hevt => { r with hevt := v }
  | .lsk => { r with lsk := v }
  | .pair => { r with pair := v }
  | .lnk => { r with lnk := v }
  | .ch => { r with ch := v }
  | .pwr => { r with pwr := v }
  | .ses => { r with ses := v }
  | .evr => { r with evr := v }
  | .lcd => { r with lcd := v }
  | .frc => { r with frc := v }

/-- Set a result register of a session. -/
def setRes (se : Fin 64) (g : ResReg) (v : W32) (s : State) : State :=
  onSess se (fun x => { x with res := x.res.put g v }) s

/-- Give a result to whoever asked: into the session's result register, or back to the partner (R397, R487). -/
def answer (asker : Origin) (g : ResReg) (v : W32) (s : State) : State :=
  match asker with
  | .here se => setRes se g v s
  | .relayed id _ => saddle (.verdict id 0 v) s

/-- As `answer`, for a command that may have no asker left. -/
def answerOpt (asker : Option Origin) (g : ResReg) (v : W32) (s : State) : State :=
  match asker with
  | some o => answer o g v s
  | none => s

/-- A reply on the connection of a session. -/
def reply (se : Fin 64) (typ : Nat) (tag : W32) (status : Status) (body : List Byte) (s : State) : State :=
  if s.ses.tab[se].st == .open_ then emit (.reply s.ses.tab[se].conn typ tag status body) s else s

/-- Do what is owed. -/
def settle (a : Owed) (s : State) : State :=
  match a with
  | .reply se typ tag st body => reply se typ tag st body s
  | .result asker g v => answer asker g v s
  | .verdict id st r => saddle (.verdict id st r) s
  | .mirrored => { s with mir := { s.mir with acc := { s.mir.acc with hWrite := satSucc max32 s.mir.acc.hWrite } } }

def settleAll (as : List Owed) (s : State) : State := overAll as settle s

/-- Something is owed until message `id` is confirmed. -/
def addWait (id : Nat) (se : Option (Fin 64)) (acts : List Owed) (s : State) : State :=
  { s with pair := { s.pair with waits := s.pair.waits ++ [⟨id, s.pair.nextId, se, acts, []⟩], nextId := s.pair.nextId + 1 } }

/-- Owe something until the standby confirms message `id`; settle at once when no partner is in RUN, or while it resynchronises
(R117, R169, R224, R229). -/
def oweOn (id : Nat) (se : Option (Fin 64)) (acts : List Owed) (s : State) : State :=
  if partnerInRun s && saddleUp s && s.lease.resync.isNone then addWait id se acts s
  else settleAll acts s

/-- What a wait still lacks once message `id` has been confirmed; none where it lacks nothing. -/
def Wait.strike (id : Nat) (w : Wait) : Option Wait :=
  match (w.id :: w.also).filter (fun k => k != id) with
  | [] => none
  | k :: rest => some { w with id := k, also := rest }

/-- Message `id` has been confirmed, or need not be: what waited for it alone is settled. -/
def confirmed (id : Nat) (s : State) : State :=
  overAll ((s.pair.waits.filter (fun w => (w.strike id).isNone)).flatMap (fun w => w.acts)) settle
    { s with pair := { s.pair with waits := s.pair.waits.filterMap (Wait.strike id) } }

/-- As `oweOn`, for the confirmation of every one of several messages. -/
def oweAll (ids : List Nat) (acts : List Owed) (s : State) : State :=
  match ids with
  | [] => settleAll acts s
  | id :: rest =>
    if partnerInRun s && saddleUp s && s.lease.resync.isNone then
      { s with pair := { s.pair with waits := s.pair.waits ++ [⟨id, s.pair.nextId, none, acts, rest⟩], nextId := s.pair.nextId + 1 } }
    else settleAll acts s

/-- Settle everything that waits for a partner that is lost (R224). -/
def releaseWaits (s : State) : State :=
  overAll ((s.pair.waits.flatMap (fun w => w.acts)).filter (fun a => a != .mirrored)) settle { s with pair := { s.pair with waits := [] } }

/-! ### The persistent-state store (01 R25) -/

/-- The number of an item, as record 0x0005 gives it (R439). -/
def PValue.item : PValue → Fin 9
  | .keyTable _ _ => 1
  | .savedTime _ => 2
  | .opTime _ => 3
  | .powerCycles _ => 4
  | .terrace _ => 5
  | .epoch _ => 6
  | .rates _ => 7
  | .env _ => 8

/-- Begin to write an item. It becomes current at its read-back. -/
def persist (v : PValue) (act : PAct) (s : State) : State :=
  { s with mem := { s.mem with writes := s.mem.writes ++ [⟨v, 0, act⟩] } }

/-- The bytes of an item as the store keeps it. The manual does not lay them out (DESIGN CHOICE, log 75). -/
def PValue.bytes : PValue → List Byte
  | .keyTable keys revoked =>
    keys.flatMap (fun k => match k with
      | .empty => 0 :: leBytes 32 0
      | .active x => 1 :: leBytes 32 x.toNat
      | .revoked x => 2 :: leBytes 32 x.toNat) ++ revoked.flatMap (fun r => leBytes 32 r.toNat)
  | .savedTime t => leBytes 8 t
  | .opTime t => leBytes 6 t
  | .powerCycles n => leBytes 4 n.toNat
  | .terrace t => [if t then 1 else 0]
  | .epoch e => leBytes 4 e.toNat
  | .rates rs => rs.flatMap (fun r => leBytes 2 r.burst ++ leBytes 2 r.refill)
  | .env es => es.flatMap (fun e => leBytes 3 e.toNat)

/-- The CRC-32 over an item and its sequence number, and a copy for which it holds (R25). -/
def storeCrc (v : PValue) (seq : W32) : W32 := crc32 (v.bytes ++ leBytes 4 seq.toNat)
def StoreCopy.holds (c : StoreCopy) : Bool := c.crc == storeCrc c.value c.seq

/-- The place of the copy that counts: of those whose CRC-32 holds, the one with the higher sequence number (R25). -/
def newerCopy (cs : Vector (Option StoreCopy) 2) : Option (Fin 2) :=
  match cs[(0 : Fin 2)].filter StoreCopy.holds, cs[(1 : Fin 2)].filter StoreCopy.holds with
  | some a, some b => some (if a.seq < b.seq then 1 else 0)
  | some _, none => some 0
  | none, some _ => some 1
  | none, none => none

/-- The copy that counts, and the place that the next value goes to. -/
def currentCopy (cs : Vector (Option StoreCopy) 2) : Option StoreCopy := (newerCopy cs).bind (fun k => cs[k])
def olderPlace (cs : Vector (Option StoreCopy) 2) : Fin 2 := if newerCopy cs = some 0 then 1 else 0

/-- The current value of an item. -/
def stored (s : State) (item : Fin 9) : Option PValue := (currentCopy s.mem.items[item]).map (fun c => c.value)

/-- The last epoch this module held, as the store keeps it (R212); 0 when none is recorded. -/
def storedEpoch (s : State) : W32 :=
  match stored s 6 with
  | some (.epoch e) => e
  | _ => 0

/-- The sequence number after the newer copy's (R25). -/
def nextSeq (cs : Vector (Option StoreCopy) 2) : W32 := match currentCopy cs with | some c => c.seq + 1 | none => 1

/-- The new value goes into the older copy with the next sequence number (R25). -/
def storeCopy (cs : Vector (Option StoreCopy) 2) (v : PValue) : Vector (Option StoreCopy) 2 :=
  upd cs (olderPlace cs) (fun _ => some ⟨v, nextSeq cs, storeCrc v (nextSeq cs)⟩)

/-- A write that a power loss cuts off leaves a copy whose CRC-32 does not hold; the newer copy stays (R25). -/
def tornCopy (cs : Vector (Option StoreCopy) 2) (v : PValue) : Vector (Option StoreCopy) 2 :=
  upd cs (olderPlace cs) (fun _ => some ⟨v, nextSeq cs, ~~~ storeCrc v (nextSeq cs)⟩)

/-! ### The planned role swap (08 R232) -/

/-- When the holder's next swap is due: the role-swap interval after the last change of holder, and what it has been postponed by; 0 for none. -/
def nextSwap (s : State) : Nat :=
  let hours := (settings s).swapHours
  if hours = 0 ∨ holds s = false then 0 else s.lease.lastChange + hours * 3600 * sec + s.lease.postponed

end Sys2Proof.Machine
end

