-- ==== Sys2Proof/Machine/Req.lean ====
section
/-!
DEFINITION. Commands of sessions: who asks with which rights and staging, the checks that come first (R405, R489, R490), the
relay of a standby (R396, R397), refusals, violations and fence counts.
-/

namespace Sys2Proof.Machine

/-- A command as it is carried out: its asker, the session's effective masks and classes, and the staging registers as they
stood (R485, R487). -/
structure Req where
  asker : Origin
  se : Fin 64
  sel : Selects
  readMask : BitVec 16
  writeMask : BitVec 16
  classes : BitVec 14

/-- The request of a session of this module. -/
def reqOf (se : Fin 64) (s : State) : Req :=
  let x := s.ses.tab[se]
  { asker := .here se, se := se, sel := x.sel, readMask := effRead x, writeMask := effWrite x, classes := x.classes }

/-- The staging that a standby sends with a relayed command (R397, R487). -/
def stagingOf (x : Selects) : Staging :=
  { modArg := x.modArg, tskHevtVal := x.hevtVal, lnkSel := Fin.ofNat 24 x.lnkSel.toNat, chSel := Fin.ofNat 192 x.chSel.toNat
    islSel := Fin.ofNat 24 x.islSel.toNat, chArg := x.chArg, frcSel := x.frcSel, frcTgt := x.setTgt, frcVal := x.setVal
    frcCfg := x.setCfg, evrArg := x.evrArg, lcdSel := x.lcdSel, lcdText := BitVec.ofNat 64 (x.textLo.toNat + 2 ^ 32 * x.textHi.toNat)
    lcdIcons := x.icons, sesSel := x.sesSel }

/-- The selects that the holder uses for a relayed command (R487). -/
def selectsOf (g : Staging) : Selects :=
  { modArg := g.modArg, hevtVal := g.tskHevtVal, lnkSel := BitVec.ofNat 5 g.lnkSel.val, chSel := BitVec.ofNat 8 g.chSel.val
    islSel := BitVec.ofNat 5 g.islSel.val, chArg := g.chArg, frcSel := g.frcSel, setTgt := g.frcTgt, setVal := g.frcVal
    setCfg := g.frcCfg, evrArg := g.evrArg, lcdSel := g.lcdSel, textLo := g.lcdText.extractLsb' 0 32
    textHi := g.lcdText.extractLsb' 32 16, icons := g.lcdIcons, sesSel := g.sesSel }

/-- The request of a relayed write. -/
def reqRelayed (m : RelayMsg) : Req :=
  { asker := .relayed m.id m.session, se := m.session, sel := selectsOf m.staging, readMask := m.readMask, writeMask := m.writeMask
    classes := m.classMask }

/-- The request holds the maintenance colour (R402). -/
def Req.maint (q : Req) : Bool := q.writeMask.getLsbD 0

/-- A command register (R490): its offset, its class, its result register, whether the lease holder carries it out (R397),
whether FAILED and STOPPED accept it (R489), and the result when no holder can be reached. -/
structure CmdReg where
  off : Nat
  cls : Nat
  reg : ResReg
  byHolder : Bool
  always : Bool
  noHolder : W32

def regMod : CmdReg := ⟨0x0008, 11, .mod, true, true, 4⟩
def regImg : CmdReg := ⟨0x0408, 1, .img, true, false, 4⟩
def regHevt : CmdReg := ⟨0x088C, 0, .hevt, true, false, 5⟩
def regLsk : CmdReg := ⟨0x1004, 7, .lsk, false, false, 4⟩
def regPair : CmdReg := ⟨0x1438, 6, .pair, true, false, 4⟩
def regLnk : CmdReg := ⟨0x181C, 5, .lnk, true, false, 4⟩
def regCh : CmdReg := ⟨0x1C08, 4, .ch, true, false, 7⟩
def regClaim : CmdReg := ⟨0x2428, 1, .ses, true, false, 4⟩
def regSes : CmdReg := ⟨0x2430, 12, .ses, false, false, 4⟩
def regPwr : CmdReg := ⟨0x2804, 10, .pwr, false, false, 4⟩
def regEvr : CmdReg := ⟨0x2C18, 8, .evr, false, false, 4⟩
def regLcd : CmdReg := ⟨0x3004, 9, .lcd, false, false, 4⟩
def regFrc : CmdReg := ⟨0x3834, 3, .frc, true, false, 9⟩

/-! ### Refusals (R405, R406) -/

/-- Why a write is refused: its status, and the kind of the violation if it is one (R405, R412). -/
structure Refuse where
  status : Status
  kind : Nat
  addr : Nat
  colour : Nat

/-- Count a refused access: SES_VIOLCNT and the statistic; the first since a clear also sets SES_VIOLADDR and SES_VIOLINFO,
sends NOTICE VIOLATION and records 0x6010 (R405). -/
def violation (se : Fin 64) (r : Refuse) (s : State) : State :=
  let x := s.ses.tab[se]
  let s1 := { s with ses := { s.ses with acc := { s.ses.acc with viol := satSucc max32 s.ses.acc.viol } } }
  if x.violInfo.getLsbD 31 then
    onSess se (fun y => { y with violCnt := satSucc max32 y.violCnt }) s1
  else
    let info : W32 := BitVec.ofNat 32 (2 ^ 31 + r.colour * 256 + r.kind)
    let s2 := onSess se (fun y => { y with
      violCnt := satSucc max32 y.violCnt, violAddr := BitVec.ofNat 32 r.addr, violInfo := info }) s1
    let s3 := emit (.notice x.conn 1 (BitVec.ofNat 32 r.addr) (sat32 (satSucc max32 x.violCnt))) s2
    logSes 0x6010 true se [(1, se.val), (1, r.kind), (4, r.addr)] s3

/-- A write of a session since its last FENCE: one more, and with a refusal one more discarded (R406). -/
def noteWrite (se : Fin 64) (bad : Option Refuse) (s : State) : State :=
  onSess se (fun x =>
    match bad with
    | none => { x with fenceWrites := x.fenceWrites + 1 }
    | some r =>
      { x with
        fenceWrites := x.fenceWrites + 1
        fenceBad := x.fenceBad + 1
        fenceStatus := if x.fenceBad = 0 then r.status else x.fenceStatus
        fenceAddr := if x.fenceBad = 0 then BitVec.ofNat 32 r.addr else x.fenceAddr }) s

/-- The first FENCE that covers a message takes a late refusal of it. -/
def fenceLate (id : Nat) (r : Refuse) (fs : List Fence) : List Fence :=
  match fs with
  | [] => []
  | f :: rest =>
    if id < f.before then
      { f with bad := f.bad + 1, status := if f.bad = 0 then r.status else f.status, addr := if f.bad = 0 then BitVec.ofNat 32 r.addr else f.addr } :: rest
    else f :: fenceLate id r rest

/-- A write that was passed on as message `id` has been refused later. -/
def noteLate (se : Fin 64) (id : Nat) (r : Refuse) (s : State) : State :=
  onSess se (fun x =>
    if x.fences.any (fun f => decide (id < f.before)) then { x with fences := fenceLate id r x.fences }
    else { x with
      fenceBad := x.fenceBad + 1
      fenceStatus := if x.fenceBad = 0 then r.status else x.fenceStatus
      fenceAddr := if x.fenceBad = 0 then BitVec.ofNat 32 r.addr else x.fenceAddr }) s

/-- An owed act is the reply to a write of a session. -/
def owedReply (se : Fin 64) : Owed → Bool
  | .reply x _ _ _ _ => x == se
  | _ => false

/-- A message number of a session's own writes that still waits for the standby. -/
def waitsFor (w : Wait) (se : Fin 64) : Bool :=
  w.se == some se || w.acts.any (fun a => match a with
    | .reply x _ _ _ _ => x == se
    | .result (.here x) _ _ => x == se
    | _ => false)

/-- Every write of a session before message `before` is settled. -/
def settledBefore (se : Fin 64) (before : Nat) (s : State) : Bool :=
  !(s.pair.waits.any (fun w => waitsFor w se && decide (w.no < before)))
  && !(s.ses.relayed.any (fun r => r.se == se && !r.done && decide (r.id < before)))

/-- The reply to a FENCE (R391, R406). -/
def fenceBody (f : Fence) : List Byte := leBytes 4 f.writes ++ leBytes 4 f.bad ++ leBytes 4 f.addr.toNat

/-- Answer the FENCEs of a session whose writes are settled, in order. -/
def serveFence (se : Fin 64) (s : State) : State :=
  let fs := s.ses.tab[se].fences
  let ready := fs.takeWhile (fun f => settledBefore se f.before s)
  overAll ready (fun f t => reply se 0x0012 f.tag f.status (fenceBody f) t)
    (onSess se (fun x => { x with fences := fs.drop ready.length }) s)

def serveFences (s : State) : State := overAll (List.finRange 64) serveFence s

/-! ### Reads that wait for a relayed write (R396) -/

/-- A commit in progress has written bytes of a range of host addresses (03 R67). -/
def commitTouches (s : State) (addr len : Nat) : Bool :=
  s.tsk.rt.toList.any (fun r => match r.cur with
    | some c => c.before.any (fun x => decide (x.1 < addr + len) && decide (addr < x.1 + 16))
    | none => false)

/-- A READ touches bytes of a WRITE of the same session that has been relayed and not answered, or words that a commit in progress is
writing (03 R67). -/
def readWaits (s : State) (se : Fin 64) (addr len : Nat) : Bool :=
  commitTouches s addr len || s.ses.relayed.any (fun r => r.se == se && r.typ == 0x0011 && r.reg.isNone && !r.done && decide (addr < r.addr + r.len) && decide (r.addr < addr + len))

/-- Give the READs their data that wait for nothing any more. -/
def serveHeldReads (s : State) : State :=
  let isFree := fun (h : HeldRead) => !readWaits s h.se h.addr h.len
  overAll (s.ses.heldReads.filter isFree) (fun h t => reply h.se 0x0010 h.tag 0 (Memory.readBytes t.mem.cells h.addr h.len) t)
    { s with ses := { s.ses with heldReads := s.ses.heldReads.filter (fun h => !isFree h) } }

/-! ### Outstanding requests (R393) -/

/-- The session of a host access that a switch window holds. -/
def heldBy (se : Fin 64) : Instr → Bool
  | .read x _ _ _ _ => x == se
  | .write x _ _ _ _ _ => x == se
  | .fence x _ => x == se
  | _ => false

/-- The requests of a session that await a reply. -/
def outstanding (s : State) (se : Fin 64) : Nat :=
  let x := s.ses.tab[se]
  s.pair.waits.countP (fun w => w.acts.any (owedReply se)) + s.ses.relayed.countP (fun r => r.se == se && r.tag.isSome)
  + s.mem.writes.countP (fun w => match w.act with | .keyOp y _ _ => y == se | _ => false)
  + x.fences.length + s.ses.heldReads.countP (fun h => h.se == se) + s.ses.held.countP (heldBy se)
  + (match s.tsk.switch with | some q => bitNat (q.asker == some (.here se)) | none => 0)

/-- A further request is answered BUSY. -/
def tooMany (s : State) (se : Fin 64) : Bool := decide (64 ≤ outstanding s se)

/-- Count the violation if the refusal is one. -/
def refusal (se : Fin 64) (r : Refuse) (s : State) : State :=
  if r.kind = 0 then s else violation se r s

/-! ### Commands -/

/-- The checks that come before a command's own conditions: the module's state (R489), then the class (R490). -/
def preCheck (k : CmdReg) (se : Fin 64) (s : State) : Option Refuse :=
  if (s.mod.st == .failed || s.mod.st == .stopped) && !k.always then some ⟨5, 0, k.off, 0⟩
  else if !s.ses.tab[se].classes.getLsbD k.cls then some ⟨1, 3, k.off, 0⟩
  else none

/-- A module without a partner carries out these commands itself, with the lease or without it: forces (R169), the commands of the links
whose stations it decides (R240), state commands (R470, the TARGET field of MOD_CMDARG). -/
def ownAlone : ResReg → Bool
  | .frc => true
  | .lnk => true
  | .mod => true
  | _ => false

/-- The module is in RUN without the lease, so that the holder carries the command out (R214, R397). -/
def mustRelay (k : CmdReg) (s : State) : Bool := k.byHolder && inRun s && !holds s && (partnerPresent s || !ownAlone k.reg)

/-- The module has named its partner as successor in a role swap that goes on. -/
def hasYielded (s : State) : Bool :=
  match s.lease.swapPhase with
  | some (.yielded _) => true
  | _ => false

/-- A holder can be reached over the saddle links; after a YIELD the successor is taken for one (R233). -/
def holderReachable (s : State) : Bool :=
  saddleUp s && ((s.pair.partner == .holder && !s.lease.hbNoLease) || (partnerPresent s && hasYielded s))

/-- Send a write of a session to the holder, with what the session is owed (R396, R397). -/
def relay (se : Fin 64) (reg : Option ResReg) (typ : Nat) (tag : Option W32) (addr len : Nat) (body : RelayBody) (s : State) :
    State :=
  let x := s.ses.tab[se]
  let (id, s1) := freshId s
  let m : RelayMsg := ⟨id, se, effRead x, effWrite x, x.classes, stagingOf x.sel, body⟩
  let keep := s1.ses.relayed.filter (fun r => !(r.se == se && reg.isSome && r.reg == reg && r.tag.isNone))
  let s2 := { s1 with
    ses := { s1.ses with relayed := keep ++ [⟨id, se, reg, typ, tag, addr, len, false⟩] }
    mir := { s1.mir with acc := { s1.mir.acc with relay := satSucc max32 s1.mir.acc.relay } } }
  saddle (.relay m) s2

/-- Carry a permitted command out here, or relay it. -/
def applyCmd (k : CmdReg) (value : W32) (se : Fin 64) (op : Req → State → State) (s : State) : State :=
  if mustRelay k s then
    (if holderReachable s then relay se (some k.reg) 0 none k.off value.toNat (.regCmd k.off value) s
     else setRes se k.reg k.noHolder s)
  else op (reqOf se s) s

/-- One command as a session writes it in a message of its own: nothing without an open session; refused whole by state or
class, with result 3 for a class; otherwise carried out or relayed. -/
def sessionCmd (k : CmdReg) (value : W32) (se : Fin 64) (op : Req → State → State) (s : State) : State :=
  if !sesOpen s se then s
  else
    let s := onSess se (fun x => { x with lastMsg := s.tb.now }) s
    match preCheck k se s with
    | some r =>
      let s1 := noteWrite se (some r) (refusal se r s)
      if r.kind = 3 then setRes se k.reg 3 s1 else s1
    | none => applyCmd k value se op (noteWrite se none s)

end Sys2Proof.Machine
end

