-- ==== Sys2Proof/Machine/PanelBase.lean ====
section
/-!
DEFINITION. The panel, the shared part (18): what the module shows, updates of regions, the meadow and the backlight.
-/

namespace Sys2Proof.Machine

/-! ### Updates (R449, R453, R454, R458) -/

/-- A character as the panel shows it: lower-case letters as upper case; 0 stands for the two centre bars (R449). -/
def shownChar (b : Byte) : Byte :=
  if 0x61 ≤ b.toNat ∧ b.toNat ≤ 0x7A then b - 0x20 else if 0x20 ≤ b.toNat ∧ b.toNat ≤ 0x5F then b else 0

/-- A text as a region of `count` characters shows it: left-aligned and cut. -/
def shownText (count : Nat) (text : List Byte) : List Byte := ((text ++ List.replicate count 0x20).take count).map shownChar

def onRegion (n : Fin 16) (f : Region → Region) (s : State) : State :=
  { s with lcd := { s.lcd with regions := upd s.lcd.regions n f } }

/-- Count queued updates replaced or discarded. -/
def countRepl (s : State) : State := { s with lcd := { s.lcd with acc := { s.lcd.acc with repl := satSucc max32 s.lcd.acc.repl } } }

/-- The session of a host update reads a result. -/
def updResult (u : PanelUpd) (r : W32) (s : State) : State :=
  match u.asker with
  | some se => setRes se .lcd r s
  | none => s

/-- A key press or an update: the low-power timeout starts anew, and low-power mode ends at the next frame start. -/
def panelActive (s : State) : State := { s with lcd := { s.lcd with pendLow := false, lastActivity := s.tb.now } }

/-- An accepted update: it runs, or is queued behind the running one, replacing what is queued there (R454). One whose content the frame
memory already holds does not leave low-power mode (R458). -/
def startUpdate (n : Fin 16) (u : PanelUpd) (s : State) : State :=
  let r := s.lcd.regions[n]
  let s1 := if r.text == u.text && r.icons == u.icons then s else panelActive s
  match r.running, r.queued with
  | none, _ => onRegion n (fun x => { x with running := some u }) s1
  | some _, none => onRegion n (fun x => { x with queued := some u }) s1
  | some _, some q => updResult q 7 (countRepl (onRegion n (fun x => { x with queued := some u }) s1))

/-! ### What the module shows (R455 to R457) -/

/-- A hexadecimal digit. -/
def hexDigit (n : Nat) : Byte := BitVec.ofNat 8 (if n % 16 < 10 then 0x30 + n % 16 else 0x37 + n % 16)

/-- The `k` hexadecimal digits of a number. -/
def hexText : Nat → Nat → List Byte
  | 0, _ => []
  | k + 1, n => hexText k (n / 16) ++ [hexDigit n]

/-- A text in ASCII. -/
def ascii (t : String) : List Byte := t.toList.map (fun c => BitVec.ofNat 8 c.toNat)

/-- The module's text. -/
def moduleText (s : State) : List Byte :=
  match s.mod.st with
  | .off => ascii "STOP"
  | .boot => ascii "BOOT"
  | .config =>
    if s.ses.enrol.isSome then ascii "ENROL"
    else if s.img.errCode != 0 then ascii "IMG " ++ hexText 2 s.img.errCode.toNat
    else ascii "CONFIG"
  | .calibrate => ascii "CAL"
  | .join => ascii "JOIN"
  | .standby => ascii "STBY"
  | .active => ascii "ACTIVE"
  | .unchecked => ascii "UNCHK"
  | .failed => ascii "F" ++ hexText 4 s.mod.failCode
  | .stopped => ascii "STOP"

/-- The content that a region shows or will show. -/
def lastContent (r : Region) : List Byte × W32 :=
  match r.queued, r.running with
  | some u, _ => (u.text, u.icons)
  | none, some u => (u.text, u.icons)
  | none, none => (r.text, r.icons)

/-- The module updates its own regions at each change of what it shows (R453, R455). -/
def showModule (s : State) : State :=
  overAll (List.finRange 16) (fun n st =>
    let r := st.lcd.regions[n]
    match r.entry with
    | some e =>
      let text := shownText e.count (moduleText st)
      if e.program || lastContent r == (text, 0) then st else startUpdate n ⟨text, 0, none, false⟩ st
    | none => st) s

end Sys2Proof.Machine
end

