-- ==== Sys2Proof/Machine/Tick.lean ====
section
/-!
DEFINITION. The passage of time: one period of the TB domain (R126), which is what a step does when no command waits.
-/

namespace Sys2Proof.Machine

/-- Units of 2⁻³² ns in one nanosecond (R126). -/
def nsUnits : Nat := 0x100000000

/-- The most that one period of 4 ns may remove of an offset at 100 ppm (R129), in units of 2⁻³² ns. -/
def slewPerTick : Int := 1717986

/-- A correction in ppb over one period of 4 ns, in units of 2⁻³² ns, truncated towards zero. -/
def ppbPerTick (ppb : Int) : Int := Int.tdiv (ppb * 17179869184) 1000000000

/-- A quantity held to ±`m`. -/
def clampTo (m x : Int) : Int := max (-m) (min m x)

/-- The most that the whole discipline correction may be over one period: 200 ppm (R129), in units of 2⁻³² ns. -/
def disciplineLimit : Int := 3435973

/-- The rate that is matched, over one period, within its limit (R129). -/
def matchedUnits (t : Tb) : Int := clampTo disciplineLimit (ppbPerTick t.rate)

/-- The part of the remaining offset that this period removes: at most 100 ppm, and with the matched rate at most 200 ppm (R129). -/
def slewUnits (t : Tb) : Int :=
  max (-disciplineLimit - matchedUnits t) (min (disciplineLimit - matchedUnits t) (clampTo slewPerTick t.slew))

/-- The discipline correction in ppb, rounded: the matched rate and the part that removes an offset (R129). -/
def discipline (t : Tb) : Int := ((matchedUnits t + slewUnits t) * 1000000000 + 8589934592) / 17179869184

/-- The counter after one period: 4 ns plus the corrections of R128 and R129, held to 2⁻³² ns. -/
def tickTb (t : Tb) : Tb :=
  let units : Int := 4 * 4294967296 + ppbPerTick t.tempCor + matchedUnits t + slewUnits t + t.frac
  { t with
    now := (t.now + (units / 4294967296).toNat) % 0x10000000000000000
    frac := (units % 4294967296).toNat
    slew := t.slew - slewUnits t }

/-- The part of the difference found at a beacon that an island removes in this period: all of it within 10 µs (R141). -/
def islandSlew (k : IslSelf) : Int := if k.slewTicks = 0 then 0 else Int.tdiv k.clockSlew k.slewTicks

/-- An island's time after one period: its counter with the rate correction of the latest beacon, which never goes back (R140, R141). -/
def tickIsland (k : IslSelf) : IslSelf :=
  let units : Int := max 0 (4 * 4294967296 + ppbPerTick k.clockRate + islandSlew k + k.clockFrac)
  { k with
    clock := k.clock + (units / 4294967296).toNat
    clockFrac := (units % 4294967296).toNat
    clockSlew := k.clockSlew - islandSlew k
    slewTicks := k.slewTicks - 1 }

/-- Operating time counts ms of the PL domain (R424); the model drives it from the same periods: 250 000 of 4 ns. -/
def tickOp (t : Tel) : Tel :=
  if t.opFrac + 1 < 250000 then { t with opFrac := t.opFrac + 1 }
  else { t with opFrac := 0, opTime := (t.opTime + 1) % 0x1000000000000 }

/-- One period of the TB domain: the time base, the time of every island, and operating time. -/
def tick (s : State) : State :=
  { s with tb := tickTb s.tb, io := { s.io with own := s.io.own.map tickIsland }, tel := if s.pwr.powered then tickOp s.tel else s.tel }

end Sys2Proof.Machine
end

