-- ==== Sys2Proof/Machine/Common.lean ====
section
/-!
DEFINITION. Transitions that many meanings share: changes of module state, leaving RUN, the end of the lease, the response to a
fault (07 R186), closing a session, the end of a claim, the failure of an image.
-/

namespace Sys2Proof.Machine

/-! ### Image failures (02 R47, R53) -/

/-- The idle terrace fails: FAILED with its code, section, location and source, recorded as 0x8100 plus the code. -/
def imgFail (source : Fin 4) (code sect : Byte) (loc : Nat) (s : State) : State :=
  showModule (logEv (0x8100 + code.toNat) false [(1, code.toNat), (1, sect.toNat), (4, loc)]
    { s with img := { s.img with
        idle := .failed, errSource := source, errCode := code, errSect := sect, errLoc := loc, cmd := none
        armOrdered := false } })

/-- A load ends because its claim ended (R50, R225): FAILED with code 0x15. -/
def abortLoad (s : State) : State :=
  if s.img.idle == .loading then imgFail 0 0x15 0xFF s.img.load.length s else s

/-! ### The configuration claim (15 R398) -/

/-- The claim ends with an event of record 0x6020 (1 released, 2 lapsed, 3 broken); a lapse is sent to the session as NOTICE
CLAIM_LAPSED. A load that it carried is aborted (R50). -/
def endClaim (event : Nat) (s : State) : State :=
  match s.ses.claim with
  | none => s
  | some c =>
    let s1 := { s with ses := { s.ses with claim := none } }
    let s2 := if event = 2 && c.slot == s.pair.slot && sesOpen s c.se
      then emit (.notice s.ses.tab[c.se].conn 2 0 0) s1 else s1
    abortLoad (logSes 0x6020 (event == 2) c.se [(1, c.se.val), (1, event), (1, bitNat c.slot)] s2)

/-- The claim is held by this session. -/
def claimOf (s : State) (slot : Bool) (se : Fin 64) : Bool :=
  match s.ses.claim with
  | some c => c.slot == slot && c.se == se
  | none => false

/-- The slot position of the module of whoever asks. -/
def askerSlot (a : Origin) (s : State) : Bool :=
  match a with
  | .here _ => s.pair.slot
  | .relayed _ _ => !s.pair.slot

def askerSe (a : Origin) : Fin 64 :=
  match a with
  | .here se => se
  | .relayed _ se => se

/-! ### Sessions (15 R393, R410) -/

/-- An asker that is no longer there. -/
def dropAsker (se : Fin 64) (a : Option Origin) : Option Origin := if a == some (.here se) then none else a

/-- What is owed to a session. -/
def owedTo (se : Fin 64) : Owed → Bool
  | .reply x _ _ _ _ => x == se
  | .result a _ _ => a == .here se
  | .verdict _ _ _ => false
  | .mirrored => false

/-- The request of a session that has closed goes on without an asker. -/
def dropHold (se : Fin 64) (q : Option SwitchReq) : Option SwitchReq := q.map (fun r => { r with asker := dropAsker se r.asker })

def dropCmdAsker (se : Fin 64) (a : CmdAsker) : CmdAsker := if a == .session (.here se) then .own else a

/-- Results and replies that were still to come for a session that has closed reach nobody. What it has asked for goes on. -/
def forgetSession (se : Fin 64) (s : State) : State :=
  { s with
    pair := { s.pair with waits := s.pair.waits.map (fun w => { w with acts := w.acts.filter (fun a => !owedTo se a) }) }
    tsk := { s.tsk with switch := dropHold se s.tsk.switch }
    lsk := { s.lsk with recheck := dropHold se s.lsk.recheck }
    lease := { s.lease with swap := dropHold se s.lease.swap, resyncTo := dropAsker se s.lease.resyncTo }
    img := { s.img with cmd := match s.img.cmd with
      | some (.arm a) => some (.arm (dropAsker se a))
      | c => c }
    links := updAll s.links (fun _ k => { k with
      asker := dropAsker se k.asker, stns := updAll k.stns (fun _ x => { x with asker := dropAsker se x.asker }) })
    io := { s.io with
      waiting := s.io.waiting.map (fun w => { w with asker := dropCmdAsker se w.asker })
      isl := updAll s.io.isl (fun _ i => { i with cmd := i.cmd.map (fun c => (dropCmdAsker se c.1, c.2)) })
      chan := updAll s.io.chan (fun _ c => { c with cmd := c.cmd.map (fun x => (dropCmdAsker se x.1, x.2)) }) }
    lcd := { s.lcd with regions := updAll s.lcd.regions (fun _ r => { r with
      running := r.running.map (fun u => if u.asker == some se then { u with asker := none } else u)
      queued := r.queued.map (fun u => if u.asker == some se then { u with asker := none } else u) }) }
    evr := { s.evr with clearAsk := if s.evr.clearAsk == some se then none else s.evr.clearAsk }
    pwr := { s.pwr with testing := s.pwr.testing.map (fun a => if a == some se then none else a) }
    mod := { s.mod with after := s.mod.after.map (fun a => (a.1, dropAsker se a.2)) } }

/-- Close a session: record 0x6002 with the cause; its claim lapses; the number is free. Causes other than CLOSE count as closed by
the module. -/
def closeSession (cause : Nat) (se : Fin 64) (s : State) : State :=
  if s.ses.tab[se].st != .open_ then s
  else
    let conn := s.ses.tab[se].conn
    let s1 := if claimOf s s.pair.slot se then
        (if mustRelay regClaim s && holderReachable s then
           { relay se none 0 none 0x2428 2 .claimGone s with ses := { (relay se none 0 none 0x2428 2 .claimGone s).ses with claim := none } }
         else endClaim 2 s)
      else s
    let s2 := { s1 with ses := { s1.ses with
      tab := upd s1.ses.tab se (fun _ => {})
      relayed := s1.ses.relayed.filter (fun r => r.se != se)
      heldReads := s1.ses.heldReads.filter (fun r => r.se != se)
      acc := if cause = 0 then s1.ses.acc else { s1.ses.acc with close := satSucc max32 s1.ses.acc.close } } }
    logSes 0x6002 false se [(1, se.val), (1, cause)] (emit (.closeConn conn) (forgetSession se s2))

/-- Close every open session for one cause. -/
def closeAll (cause : Nat) (s : State) : State :=
  overAll (List.finRange 64) (closeSession cause) s

/-- A NOTICE to every open session (R391). -/
def noticeAll (kind : Nat) (s : State) : State :=
  overAll (List.finRange 64) (fun se t => if sesOpen t se then emit (.notice t.ses.tab[se].conn kind 0 0) t else t) s

/-- Writes that this standby relayed and that are not acknowledged end with a status. -/
def endRelayed (status : Status) (s : State) : State :=
  let s1 := overAll (s.ses.relayed.filter (fun r => !r.done)) (fun r t =>
    let t1 := noteLate r.se r.id ⟨status, 0, r.addr, 0⟩ t
    match r.tag with
    | some tag => reply r.se r.typ tag status [] t1
    | none => t1) s
  serveHeldReads (serveFences { s1 with ses := { s1.ses with relayed := [] } })

/-- At a change of the lease holder they end with SWITCHED (R225). -/
def dropRelayed (s : State) : State := endRelayed 6 s

/-- A write that the standby has not confirmed when the module gives up its authority is answered SWITCHED (R225). -/
def switchedReply (a : Owed) (s : State) : State :=
  match a with
  | .reply se typ tag _ _ => reply se typ tag 6 [] s
  | _ => s

/-- Nothing waits for the standby any more. -/
def dropWaits (s : State) : State :=
  serveFences (overAll (s.pair.waits.flatMap (fun w => w.acts)) switchedReply { s with pair := { s.pair with waits := [] } })

/-! ### Module state (19 R464) -/

/-- Change the module state; recorded as 0x0010 (R464, R476). `se` is 0xFF for no session. -/
def enterState (st : ModState) (cause se : Nat) (s : State) : State :=
  let old := s.mod.st
  let s1 := { s with mod := { s.mod with st := st, prev := old, enteredAt := s.tb.now } }
  if st == .off then s1
  else showModule <| logEv 0x0010 false [(1, old.code.val), (1, st.code.val), (1, cause), (1, se)] s1

/-- The role in RUN: ACTIVE with the lease, STANDBY without, UNCHECKED as long as comparison is suspended (R463, R464). -/
def showRole (s : State) : State :=
  if !inRun s then s
  else
    let want : ModState := if s.lsk.unchecked then .unchecked else if holds s then .active else .standby
    if s.mod.st == want then s else enterState want 0 0xFF s

/-! ### The end of a change request (06 R150, R151, R165) -/

/-- The body of the reply to CHANGE: the result, and for a switch its instant and the data of its record 0x8200 (15 R391). -/
def changeBody (result instant : Nat) (data : BitVec 112) : List Byte :=
  leBytes 4 result ++ leBytes 8 instant ++ leBytes 14 data.toNat ++ leBytes 2 0

/-- Answer CHANGE, here or through the partner, which knows the data of its own switch. -/
def changeReply (asker : Option Origin) (tag : W32) (result instant : Nat) (data : BitVec 112) (s : State) : State :=
  match asker with
  | some (.here se) => reply se 0x0020 tag 0 (changeBody result instant data) s
  | some (.relayed id _) => saddle (.verdict id 0 (BitVec.ofNat 32 result)) s
  | none => s

/-- A request that has not begun its window ends with result 4 or 5: the module that accepted it records 0x8201, its idle terrace is ARMED
again. A candidate of the partner is forgotten. -/
def endChange (result : Nat) (s : State) : State :=
  match s.tsk.switch with
  | none => s
  | some q =>
    if q.phase == .window then s
    else
      let s1 := { s with tsk := { s.tsk with switch := none } }
      if s.img.idle == .switching then
        changeReply q.asker q.tag result 0 0
          (logEv 0x8201 false [(1, result), (2, q.attempts)] { s1 with img := { s1.img with idle := .armed } })
      else s1

/-- Host accesses that a switch window has held are answered NOT_RUN when the module leaves RUN. -/
def dropHeld (s : State) : State :=
  serveFences <| overAll s.ses.held (fun i t =>
    match i with
    | .read se tag _ _ _ => reply se 0x0010 tag 5 [] t
    | .write se ack tag a _ _ =>
      let t1 := noteLate se t.pair.nextId ⟨5, 0, a.toNat, 0⟩ t
      if ack then reply se 0x0011 tag 5 [] t1 else t1
    | .fence se tag => onSess se (fun x => { x with fences := x.fences ++ [⟨tag, t.pair.nextId, x.fenceWrites, x.fenceBad, x.fenceStatus, x.fenceAddr⟩]
                                                    fenceWrites := 0, fenceBad := 0, fenceStatus := 0, fenceAddr := 0 }) t
    | .relayedWriteReceive _ m => saddle (.verdict m.id 5 0) t
    | _ => t) { s with ses := { s.ses with held := [] } }

/-- READs that wait for a commit in progress are answered NOT_RUN when its cycle is abandoned (03 R67). -/
def dropReads (s : State) : State :=
  overAll s.ses.heldReads (fun h t => reply h.se 0x0010 h.tag 5 [] t) { s with ses := { s.ses with heldReads := [] } }

/-- A window that leaving RUN cuts off: the terraces have changed, and the idle one is ARMED. -/
def cutWindow (s : State) : State :=
  match s.tsk.switch with
  | some q => if q.phase == .window then { s with img := { s.img with idle := .armed }, tsk := { s.tsk with switch := none } } else s
  | none => s

/-- Leaving RUN (R118, R371): no further release; cycles in progress are abandoned; pending triggers and reason queues are cleared; the
CAN transmit buffers are emptied. -/
def leaveRun (s : State) : State :=
  let s := dropReads (dropHeld (endRelayed 5 (dropWaits (cutWindow (endChange 5 s)))))
  { s with
    tsk := { s.tsk with
      rt := updAll s.tsk.rt (fun _ r => { r with pending := none, queue := [], cur := none, notices := [] })
      trigQ := [], heldTrigs := [], switch := none }
    can := updAll s.can (fun _ k => { k with tx := Vector.replicate 32 {} })
    lsk := { s.lsk with recheck := none }
    lease := { s.lease with swap := none, swapPhase := none, claim := none, announced := none } }

/-- The statistics interval in ns (R119). -/
def statNs (s : State) : Nat := (settings s).statMs * ms

/-! ### The lease (08 R208, R225) -/

/-- The lease ends here (R208, R233, R186, R421): record 0x1002 with the cause (0 no quorum, 1 yield, 2 fault, 3 stop). -/
def endLease (cause : Nat) (s : State) : State :=
  if !s.lease.holder then s
  else
    let s1 := { s with lease := { s.lease with
      holder := false, rounds := [], lastChange := s.tb.now, lostQuorum := cause == 0, claimFrom := s.lease.leaseEnd + guardG
      ended := true } }
    logEv 0x1002 (cause == 0 || cause == 2) [(4, s.lease.epoch.toNat), (1, cause), (2, ((s.lease.rounds.head?).map (fun r => r.acks)).getD 0)] s1

/-! ### The response to a fault (07 R186) -/

/-- The command that sends an island to its safe states in the next ford frame (R186 step 3, R282). -/
def safeFrame (s : State) (n : Fin 24) : DownFrame :=
  { seq := s.io.isl[n].seq + 1, beacon := s.tb.now, latency := s.io.isl[n].lat, rate := s.tb.tempCor + discipline s.tb, leaseEnd := none, safe := true, resume := false
    unchecked := s.lsk.unchecked, paired := partnerPresent s, values := [], chanCmd := none, islCmd := none, config := false, sharesOff := false }

/-- Send the safe-state command to every island that has power. -/
def safeAll (s : State) : State :=
  overAll (List.finRange 24) (fun n t =>
    if t.io.isl[n].st == .off then t
    else
      let f := safeFrame t n
      emit (.fordDown n f) (countUnchecked f.unchecked 1 (onOwn n (fun k => { k with down := some f }) (onIsl n (fun i => { i with seq := f.seq }) t)))) s

/-- Steps 1 to 4 of R186: nothing is committed or sent any more, the islands go to their safe states, the module is FAILED. -/
def failSteps (s : State) : State :=
  let s1 := endLease 2 s
  let s2 := safeAll s1
  let s3 := { s2 with lsk := { s2.lsk with stopped := true } }
  let s4 := match s3.ses.claim with
    | some c => if s.lease.holder && c.slot == s3.pair.slot then endClaim 2 s3 else s3
    | none => s3
  enterState .failed 0 0xFF (leaveRun s4)

/-- The precedence of the classes of R184 for faults of one instant (R185): a col fault, a lane mismatch, an uncorrectable word. -/
def faultRank (cls : Fin 4) : Nat := if cls = 2 then 0 else if cls = 1 then 1 else 2

/-- The record of a fault (R200). -/
def logFault (r : ColRecord) (s : State) : State :=
  logEv (0x2000 + r.cls.val) false
    [(1, r.cls.val), (1, r.subclass), (1, r.stream.toNat), (1, r.parity.toNat), (8, r.addr.toNat), (1, r.task.toNat)] s

/-- The record of a fault of this instant leaves the queue: another fault of the instant takes its place (R185). -/
def dropFaultRecords (s : State) : State :=
  { s with evr := { s.evr with queue := s.evr.queue.filter (fun e =>
    !(e.at_ == s.tb.now && (e.code == 0x2001 || e.code == 0x2002 || e.code == 0x2003))) } }

/-- A further fault, found after the module has failed: of the same instant it takes the place of one that comes after it by R185, or stands
beside a rail fault; a later one changes nothing. -/
def furtherFault (r : ColRecord) (s : State) : State :=
  if s.mod.st != .failed || s.mod.enteredAt != s.tb.now || !s.lsk.stopped then s
  else
    match s.lsk.fault with
    | some f =>
      if f.time == s.tb.now && decide (faultRank r.cls < faultRank f.cls) then
        logFault r (dropFaultRecords { s with lsk := { s.lsk with fault := some r }, mod := { s.mod with failCode := 0x2000 + r.cls.val } })
      else s
    | none => logFault r { s with lsk := { s.lsk with failed := true, fault := some r } }

/-- A fault of R184: the first one is recorded in the fault registers, the module takes steps 1 to 4 of R186 and records 0x2001,
0x2002 or 0x2003. -/
def takeFault (r : ColRecord) (s : State) : State :=
  if s.mod.st == .off || s.mod.st == .boot || s.mod.st == .stopped then s
  else if s.lsk.stopped || s.mod.st == .failed then furtherFault r s
  else
    let s1 := { s with
      lsk := { s.lsk with failed := true, fault := s.lsk.fault.or (some r) }, mod := { s.mod with failCode := 0x2000 + r.cls.val } }
    logFault r (failSteps s1)

/-- A fault without words: hub unit or memory. -/
def bareFault (cls : Fin 4) (sub : Nat) (stream : Byte) (addr : W64) (s : State) : ColRecord :=
  { cls := cls, subclass := sub, stream := stream, parity := 0, addr := addr, time := s.tb.now, task := 0xFF, cycle := 0
    wordA := 0, wordB := 0 }

/-- The unit code of R202 and the subclass of R184 of a hub unit, path or interface. -/
def hubCode : HubUnit → Nat
  | .releaseLogic => 1 | .deliverySequencer => 2 | .memoryPath => 3 | .protection => 4 | .leaseLogic => 5
  | .dataPath => 6 | .memoryDie => 7 | .linkDie => 8 | .storageDie => 9 | .powerDie => 10
def hubSubclass (u : HubUnit) : Nat := if hubCode u ≤ 5 then 4 else if hubCode u = 6 then 5 else 6

/-- A disagreement or check-code failure in the hub is a col fault (R13, R14). -/
def hubFault (u : HubUnit) (s : State) : State :=
  takeFault (bareFault 2 (hubSubclass u) 0xFE (BitVec.ofNat 64 (2 ^ 63 + hubCode u)) s) s

/-! ### Memory checks (01 R20, R21) -/

/-- Count corrected words (R20). -/
def countCorrected (n : Nat) (s : State) : State :=
  { s with tel := { s.tel with acc := { s.tel.acc with memCe := satAdd max32 s.tel.acc.memCe n } } }

/-- The host address of a memory address of R511 where its region has one. -/
def reportAddr (a : Nat) : Nat :=
  if a < memoryBase then a
  else if a < memoryBase + 0x100000 then inputBase + (a - memoryBase)
  else if a < memoryBase + 0x200000 then outputBase + (a - memoryBase - 0x100000)
  else if a < workBase then varBase + (a - memoryBase - 0x200000)
  else a

/-- The response to an uncorrectable word by the region it lies in (R21): FAILED as for a col fault; the session closed, whose access gets
its precise error first; or the history granule poisoned. -/
def uncorrectable (a : Nat) (s : State) : State :=
  match regionOf (reportAddr a) with
  | .session n => closeSession 6 n s
  | .history =>
    logOpen
      (if s.mem.poisoned.contains (a / 64 * 64) then s
       else { s with mem := { s.mem with poisoned := s.mem.poisoned ++ [a / 64 * 64] } })
  | .none => s
  | _ => takeFault (bareFault 3 1 0xFF (BitVec.ofNat 64 (reportAddr a)) s) s

/-- What the checks of the words of a command lead to. -/
def memCheck (c : MemCheck) (s : State) : State :=
  match c with
  | .clean => s
  | .correctable n => countCorrected n s
  | .uncorrectable a => uncorrectable a s
  | .hub u => hubFault u s

/-- The checks let the access go on: nothing uncorrectable was found, and no fault of the hub. -/
def MemCheckOk (c : MemCheck) : Bool :=
  match c with
  | .clean => true
  | .correctable _ => true
  | _ => false

/-- A fault of the hub was found. -/
def isHubFault (c : MemCheck) : Bool :=
  match c with
  | .hub _ => true
  | _ => false

/-- A command goes on when its checks let it. -/
def afterCheck (c : MemCheck) (f : State → State) (s : State) : State := if MemCheckOk c then f (memCheck c s) else memCheck c s

/-- An uncorrectable word of a history buffer was found. -/
def MemCheckHistory (c : MemCheck) : Bool :=
  match c with
  | .uncorrectable a => regionOf (reportAddr a) == .history
  | _ => false

end Sys2Proof.Machine
end

