-- ==== Sys2Proof/Machine/Mesh.lean ====
section
/-!
DEFINITION. Tokens in a lane (03 R58 to R60, R83) and inbound words (07 R176 to R179).
-/

namespace Sys2Proof.Machine

/-- The tile next to a tile (R56: index 128y + x); 0 is x + 1, 1 is x − 1, 2 is y + 1, 3 is y − 1. At the rim there is none. -/
def neighbour (t : Fin 16384) (d : Fin 4) : Option (Fin 16384) :=
  let x := t.val % 128
  let y := t.val / 128
  if d = 0 then (if x < 127 then some (Fin.ofNat 16384 (t.val + 1)) else none)
  else if d = 1 then (if 0 < x then some (Fin.ofNat 16384 (t.val - 1)) else none)
  else if d = 2 then (if y < 127 then some (Fin.ofNat 16384 (t.val + 128)) else none)
  else if 0 < y then some (Fin.ofNat 16384 (t.val - 128)) else none

/-- The tile whose edge port a core has (R83). -/
def coreTile (k : Fin 8) : Fin 16384 := Fin.ofNat 16384 (128 * (16 * k.val))

/-- The route of a destination. -/
def destRoute : Dest → List (Fin 4)
  | .slot _ _ _ r => r
  | .memory _ r => r
  | .edge _ _ r => r
  | .routine _ _ _ r => r

/-- The content of a tile's word; 0 until something is loaded or written. -/
def tileWord (L : LaneState) (t : Fin 16384) (w : Fin 64) : W128 :=
  match L.mem.find? (fun x => x.1 == t && x.2.1 == w) with
  | some x => x.2.2
  | none => 0

/-- Write a word of a tile. -/
def setTileWord (t : Fin 16384) (w : Fin 64) (v : W128) (L : LaneState) : LaneState :=
  { L with mem := (t, w, v) :: L.mem.filter (fun x => !(x.1 == t && x.2.1 == w)) }

/-- The class of a word of tile memory; `none` is scratch (R62). -/
def wordClass (p : PlainProgram) (t : Fin 16384) (w : Fin 64) : Option WordClass :=
  (p.words.find? (fun c => c.tile == t && c.word == w)).map (fun c => c.cls)

/-- The stream of an edge port and of a core (07 R176). -/
def edgeStream (port : Fin 64) : Fin 72 := ⟨port.val, by omega⟩
def coreStream (k : Fin 8) : Fin 72 := ⟨64 + k.val, by omega⟩

/-- A word of the stream waits to leave the lane: its port or core is occupied (07 R179). -/
def streamBusy (L : LaneState) (st : Fin 72) : Bool := L.out.any (fun x => x.1 == st)

/-- A word takes its place at the edge port or core. -/
def pushOut (st : Fin 72) (w : LaneWord) (L : LaneState) : LaneState := { L with out := L.out ++ [(st, w)] }

/-- The output point record that leaves an edge port (R63). -/
def recordWord (task : Fin 128) (point : Fin 65536) (v : W128) : LaneWord :=
  ⟨.outputRecord, outputBase + 16 * point.val, 0xFFFF, v, task⟩

/-- A value is written to a word of tile memory, by the classes of R62: a constant is not written by a firing, a persistent word only by
its owning task, and a changed one leaves the lane for its home (R63). -/
def storeTileWord (p : PlainProgram) (t : Fin 16384) (w : Fin 64) (task : Fin 128) (v : W128) (L : LaneState) : LaneState :=
  match wordClass p t w with
  | some (.constant _) => L
  | some (.persistent owner home port) =>
    if owner != task then L
    else if tileWord L t w == v then L
    else pushOut (edgeStream port) ⟨.persistent, home, 0xFFFF, v, task⟩ (setTileWord t w v L)
  | none => setTileWord t w v L

/-- The place at the end of a token's route, in the tile `t`, is free: the input, the edge port, or the port that a persistent word
leaves by (R58, R60, 07 R179). -/
def placeFree (p : PlainProgram) (L : LaneState) (t : Fin 16384) (dest : Dest) : Bool :=
  match dest with
  | .slot tl sl inp _ => !(L.present.any (fun x => x.1 == tl && x.2.1 == sl && x.2.2.1 == inp))
  | .routine core r inp _ => !(L.cores[core].tokens.any (fun x => x.1 == r && x.2.1 == inp))
  | .edge port _ _ => !(streamBusy L (edgeStream port))
  | .memory w _ =>
    match wordClass p t w with
    | some (.persistent _ _ port) => !(streamBusy L (edgeStream port))
    | _ => true

/-- A token has reached the end of its route, in the tile `t`. -/
def arrive (p : PlainProgram) (t : Fin 16384) (tok : Token) (L : LaneState) : LaneState :=
  match tok.dest with
  | .slot tl sl inp _ => { L with present := L.present ++ [(tl, sl, inp, tok)] }
  | .memory w _ => storeTileWord p t w tok.task tok.data L
  | .edge port point _ => pushOut (edgeStream port) (recordWord tok.task point tok.data) L
  | .routine core r inp _ =>
    { L with cores := upd L.cores core (fun c => { c with tokens := c.tokens ++ [(r, inp, tok.data)] }) }

/-- A token goes on from the tile `t`: it waits on its next link, or has arrived. -/
def enterToken (p : PlainProgram) (t : Fin 16384) (tok : Token) (L : LaneState) : LaneState :=
  match tok.route with
  | [] => arrive p t tok L
  | d :: _ => { L with links := L.links ++ [(t, d, tok)] }

/-- A word of the return that a routine waits for: word `n` goes to the register `n` after the one that the instruction names, and with the
last one the routine goes on (07 R178, R181). -/
def giveReturn (n : Nat) (last : Bool) (v : W128) (x : Context) : Context :=
  let set := fun (rd : Nat) => { x with
    wait := if last then none else x.wait, regs := (rd + n, v) :: x.regs.filter (fun y => y.1 != rd + n) }
  match x.wait with
  | some (.load rd) => set rd
  | some (.rmw rd _ _) => set rd
  | some (.call _ rd _) => set rd
  | none => x

/-- A reloaded persistent word is written to its working copy, whatever its class (R64). -/
def reloadToken (p : PlainProgram) (t : Fin 16384) (tok : Token) (L : LaneState) : LaneState :=
  match tok.dest, tok.route with
  | .memory w _, [] => setTileWord t w tok.data L
  | _, _ => enterToken p t tok L

/-- A word enters a lane for each of its destinations. -/
def laneWord (p : PlainProgram) (w : Inbound) (L : LaneState) : LaneState :=
  match w.target with
  | .edge tile dests => overAll dests (fun d l => reloadToken p tile ⟨w.data, w.task, destRoute d, d⟩ l) L
  | .core k n last => { L with cores := upd L.cores k (fun c => { c with running := c.running.map (giveReturn n last w.data) }) }
  | .sram k r a => { L with cores := upd L.cores k (fun c => { c with
      sram := ((r, a), w.data) :: c.sram.filter (fun y => y.1 != (r, a)) }) }

/-- The state of a lane, and a change of it. -/
def laneOf (s : State) (l : Lane) : LaneState :=
  match l with
  | .A => s.laneA
  | .B => s.laneB
def onLane (l : Lane) (f : LaneState → LaneState) (s : State) : State :=
  match l with
  | .A => { s with laneA := f s.laneA }
  | .B => { s with laneB := f s.laneB }

/-- The program of the running image. -/
def program (s : State) : PlainProgram :=
  match s.img.run with
  | some i => i.prog
  | none => ⟨[], [], []⟩

/-- The routines of the running image. -/
def routines (s : State) : List Routine :=
  match s.img.run with
  | some i => i.routs
  | none => []

/-- Deliver an inbound word (R177, R178): lane A accepts it at once, the earlier words of the stream count one more later word, and it
waits in the delivery buffer for lane B. With a lane halted the other gets the word alone, without the stagger (R196). -/
def inboundWord (stream : Fin 72) (w : Inbound) (s : State) : State :=
  if s.lsk.halt != .none then
    overAll (lanes.filter (fun l => !idles s.lsk.halt l))
      (fun l t => emit (.toLane l stream w.data) (onLane l (laneWord (program t) w) t)) s
  else
    let s1 := emit (.toLane .A stream w.data) (onLane .A (laneWord (program s) w) s)
    { s1 with lsk := { s1.lsk with
      inbound := upd s1.lsk.inbound stream (fun q => q.map (fun x => { x with later := x.later + 1 }) ++ [w]) } }

/-- The data that a read or a service call returns go to the lanes as inbound words of the core's stream (R178). -/
def returnWords (k : Fin 8) (task : Fin 128) (vs : List W128) (s : State) : State :=
  overAll ((List.range vs.length).zip vs) (fun x t =>
    inboundWord (coreStream k) ⟨x.2, task, .core k x.1 (x.1 + 1 == vs.length), t.tb.now, 0⟩ t) s

/-- The routine that waits on a core for a service, in a lane. -/
def awaitingCall (L : LaneState) (k : Fin 8) : Option Nat :=
  L.cores[k].running.bind (fun x => match x.wait with | some (.call _ _ true) => some x.routine | _ => none)

/-- A service returns to the routine that waits for it on a core (R86, R178). -/
def serviceReturn (k : Fin 8) (vs : List W128) (s : State) : State :=
  match (awaitingCall s.laneA k).or (awaitingCall s.laneB k) with
  | some n => (match (routines s)[n]? with | some r => returnWords k r.task vs s | none => s)
  | none => s

/-! ### Cycles in a lane (R59, R63, R84) -/

/-- The task's cycle runs and its snapshot is complete. -/
def cycleRuns (s : State) (t : Fin 128) : Bool :=
  match s.tsk.rt[t].cur with
  | some c => !c.awaiting && !c.partnerDue
  | none => false

/-- The routines of the running image with their numbers. -/
def numberedRoutines (s : State) : List (Nat × Routine) := (List.range (routines s).length).zip (routines s)

/-- A lane forgets the firings, runs and digest of the task's previous cycle. -/
def freshCycle (s : State) (t : Fin 128) (L : LaneState) : LaneState :=
  let mine := ((numberedRoutines s).filter (fun x => x.2.task == t)).map (fun x => x.1)
  { L with
    fired := L.fired.filter (fun f => !((program s).slots.any (fun c => c.task == t && c.tile == f.1 && c.slot == f.2)))
    digested := L.digested.filter (fun d => d != t)
    cores := updAll L.cores (fun _ c => { c with ran := c.ran.filter (fun n => !mine.contains n) }) }

/-- Every slot of the task has fired once, every routine has run, and every word of the cycle has left the lane. -/
def executed (s : State) (t : Fin 128) (L : LaneState) : Bool :=
  (program s).slots.all (fun c => c.task != t || L.fired.contains (c.tile, c.slot)) &&
  (numberedRoutines s).all (fun x => x.2.task != t ||
    (L.cores[x.2.core].ran.contains x.1 && !((L.cores[x.2.core].running.toList ++ L.cores[x.2.core].preempted).any (fun y => y.routine == x.1)))) &&
  !(L.outBuf.any (fun o => o.2.2.2.task == t)) && !(L.links.any (fun x => x.2.2.task == t)) && !(L.out.any (fun x => x.2.task == t))

/-- No word of the task waits in a delay element: the last of its words has been committed (R65). -/
def allCommitted (s : State) (t : Fin 128) : Bool := s.lsk.delay.toList.all (fun q => q.all (fun d => d.word.task != t))

/-- A word of a core's own memory. -/
def coreWord (ws : List ((Nat × Nat) × W128)) (n a : Nat) : W128 :=
  match ws.find? (fun w => w.1 == (n, a)) with
  | some w => w.2
  | none => 0
def setCoreWord (n a : Nat) (v : W128) (ws : List ((Nat × Nat) × W128)) : List ((Nat × Nat) × W128) :=
  ((n, a), v) :: ws.filter (fun w => w.1 != (n, a))

/-- The digest of a task's cycle as a lane computes it (R65): the configurations of the task's slots, the constant and persistent words
of their tiles, the persistent data of its routines. -/
def laneDigest (s : State) (t : Fin 128) (L : LaneState) : W128 :=
  let slots := (program s).slots.filter (fun c => c.task == t)
  Config.cycleDigest slots
    (((program s).words.filter (fun w => slots.any (fun c => c.tile == w.tile))).map (fun w => (w.tile, w.word, tileWord L w.tile w.word)))
    ((numberedRoutines s).flatMap (fun x => if x.2.task == t then x.2.keep.map (fun k => (x.1, k.1, coreWord L.cores[x.2.core].sram x.1 k.1)) else []))

/-- The task whose digest a lane sends next: its cycle runs, it is executed in the lane, and its words are committed (R63, R65). -/
def digestTask (s : State) (l : Lane) : Option (Fin 128) :=
  (List.finRange 128).find? (fun t =>
    cycleRuns s t && executed s t (laneOf s l) && allCommitted s t && !(laneOf s l).digested.contains t)

/-- The destinations of a slot that it has, with their numbers. -/
def slotDests (c : SlotConf) : List (Nat × Dest) :=
  ((List.range 4).zip c.dests.toList).filterMap (fun x => x.2.map (fun d => (x.1, d)))

end Sys2Proof.Machine
end

