-- ==== Sys2Proof/Machine/ValeBase.lean ====
section
/-!
DEFINITION. Vale links (09), the shared part: what the module derives from the image, sending of frames, samples, OUT and IN, output
frames.
-/

namespace Sys2Proof.Machine

/-! ### Derived from the image (R246, R262, R269) -/

/-- The enabled tasks of the running image (R93). -/
def enabledTasks (s : State) : List TaskEntry :=
  match s.img.run with
  | some i => i.tasks.filter (fun t => t.enable)
  | none => []

/-- The station entries of a link. -/
def linkStations (s : State) (l : Fin 24) : List StationEntry :=
  match s.img.run with
  | some i => i.stations.filter (fun e => e.link == l)
  | none => []

/-- Ranges of points that overlap a station's input or output points. -/
def overlaps (rs : List (Nat × Nat)) (first count : Nat) : Bool :=
  rs.any (fun r => decide (r.1 < first + count) && decide (first ≤ r.2))

/-- The faster of two cyclic tasks: the shorter period, then the lower number (R246). -/
def fasterOf (a b : TaskEntry) : TaskEntry :=
  if b.period < a.period ∨ (b.period = a.period ∧ b.num < a.num) then b else a

/-- The fastest reader f of a station among tasks (R246). -/
def fastestIn (tasks : List TaskEntry) (e : StationEntry) : Option TaskEntry :=
  (tasks.filter (fun t => t.enable && !t.event && overlaps t.inputs e.inFirst e.inCount)).foldl
    (fun best t => match best with | none => some t | some b => some (fasterOf b t)) none

/-- The input period P_in in ns (R246). -/
def inputPeriodIn (tasks : List TaskEntry) (e : StationEntry) : Nat :=
  match fastestIn tasks e with
  | some t => t.period * 10000
  | none => ms

/-- The phase of the fastest reader in ns. -/
def readerPhaseIn (tasks : List TaskEntry) (e : StationEntry) : Nat :=
  match fastestIn tasks e with
  | some t => t.phase * 10000
  | none => 0

/-- Wire time in ns of a frame with `n` payload bytes (R269): 70 bytes around a payload of at least 14. -/
def wireNs (n : Nat) : Nat := (70 + max n 14) * 8

/-- Wire time of `n` records in frames of up to 91 (R269). -/
def recordsWire (n : Nat) : Nat :=
  if n = 0 then wireNs 0
  else (n / 91) * wireNs (16 * 91) + (if n % 91 = 0 then 0 else wireNs (16 * (n % 91)))

/-- The link lead Λ in ns for the stations of a link (R246). -/
def leadOf (stns : List StationEntry) : Nat :=
  10000 + stns.foldl (fun a e => a + recordsWire e.inCount) 0 + 14600 * stns.length

/-- The watchdog in µs (R262): 4 × the shortest period among the enabled cyclic tasks that write the station's output points. -/
def watchdogIn (tasks : List TaskEntry) (e : StationEntry) : Nat :=
  let ps := (tasks.filter (fun t => t.enable && !t.event && overlaps t.outputs e.outFirst e.outCount)).map (fun t => t.period)
  match ps with
  | [] => 1000000
  | p :: rest => max 1000 (min 1000000 (4 * 10 * rest.foldl min p))

/-- Join a range to a rising list of runs; adjacent ranges make one run. -/
def joinRun (r : Nat × Nat) (runs : List (Nat × Nat)) : List (Nat × Nat) :=
  match runs with
  | [] => [r]
  | x :: rest => if x.1 ≤ r.2 + 1 then (r.1, max r.2 x.2) :: rest else r :: x :: rest

/-- The runs of points that a task's output set has among a station's output points (R251, R269). -/
def outputRuns (t : TaskEntry) (e : StationEntry) : List (Nat × Nat) :=
  if e.outCount = 0 then []
  else ((t.outputs.filter (fun r => overlaps [r] e.outFirst e.outCount)).map
    (fun r => (max r.1 e.outFirst, min r.2 (e.outFirst + e.outCount - 1)))).foldr joinRun []

/-- The wire time in ns of a task's output parts for a station. -/
def outputWire (t : TaskEntry) (e : StationEntry) : Nat :=
  (outputRuns t e).foldl (fun a r => a + recordsWire (r.2 + 1 - r.1)) 0

/-- The load U of a link (R269), exactly, for an image's tasks and the link's stations. -/
def loadOf (tasks : List TaskEntry) (stns : List StationEntry) : Rat :=
  let ins : Rat := stns.foldl (fun a e => a + (recordsWire e.inCount : Rat) / (inputPeriodIn tasks e : Rat)) 0
  let outs : Rat := (tasks.filter (fun t => t.enable)).foldl (fun a t =>
    stns.foldl (fun b e => b + (outputWire t e : Rat) / ((if t.event then ms else t.period * 10000 : Nat) : Rat)) a) 0
  ins + outs + (1 + (stns.filter (fun e => e.witness)).length : Nat) * 688 / 100000 + 816 / 1000000

def fastest (s : State) (e : StationEntry) : Option TaskEntry := fastestIn (enabledTasks s) e
def inputPeriod (s : State) (e : StationEntry) : Nat := inputPeriodIn (enabledTasks s) e
def readerPhase (s : State) (e : StationEntry) : Nat := readerPhaseIn (enabledTasks s) e
def linkLead (s : State) (l : Fin 24) : Nat := leadOf (linkStations s l)

/-- The first instant after `now` of a grid with an origin and a period. -/
def nextOnGrid (start period now : Nat) : Nat :=
  if now < start then start else start + ((now - start) / period + 1) * period

/-- The next due instant of a station after now (R246). -/
def nextDue (s : State) (e : StationEntry) : Nat :=
  nextOnGrid (s.tsk.origin + readerPhase s e) (inputPeriod s e) s.tb.now

/-- The first sample instant of a station after now (R246, R259). -/
def firstInstant (s : State) (e : StationEntry) : Nat :=
  let lead := linkLead s e.link
  nextOnGrid (s.tsk.origin + readerPhase s e) (inputPeriod s e) (s.tb.now + lead) - lead

/-! ### Sending (R242, R243) -/

/-- The module that decides the state of stations (R240): the lease holder, or a module without a partner. -/
def valeDecides (s : State) : Bool :=
  holds s || (!partnerPresent s && s.mod.st != .off && s.mod.st != .boot && s.mod.st != .failed && s.mod.st != .stopped)

/-- The epoch that the module's frames carry (R216): the holder's own; without the lease that of the latest heartbeat received, and before any
the last it held (DESIGN CHOICE, log 77). -/
def frameEpoch (s : State) : W32 := if holds s then s.lease.epoch else s.lease.rxEpoch.getD s.lease.epoch

/-- The module can send on a link. -/
def canSend (s : State) (l : Fin 24) : Bool :=
  s.links[l].up && (linkEntry s l).enabled && !s.lsk.stopped && s.mod.st != .off && s.mod.st != .failed && s.mod.st != .stopped

/-- A running 1 ms of the wire: another `ns` of one direction (LNK_STUTIL). -/
def addWire (out : Bool) (ns : Nat) (now : Nat) (k : Lnk) : Lnk :=
  let k0 := if k.wireFrom + ms ≤ now then { k with wire := 0, wireIn := 0, wireFrom := now } else k
  let k1 := if out then { k0 with wire := k0.wire + ns } else { k0 with wireIn := k0.wireIn + ns }
  { k1 with acc := { k1.acc with util := max k1.acc.util (max k1.wire k1.wireIn / 1000) } }

/-- The count of frames of a type, with this one. -/
def countOf (k : Lnk) (typ : Nat) : W32 :=
  match k.counts.find? (fun c => c.1 == typ) with
  | some c => c.2 + 1
  | none => 1

/-- The Flags byte of a module's frame (R242). -/
def frameFlags (s : State) (unchecked : Bool) : Byte :=
  BitVec.ofNat 8 (bitNat (!(s.lsk.unchecked || unchecked)) + 2 * bitNat s.pair.slot)

/-- The source address of a module's frames: 02-56-4C-0s-00-ll (R241). -/
def sourceMac (s : State) (l : Fin 24) : BitVec 48 := 0x02564C000000 ||| BitVec.ofNat 48 (bitNat s.pair.slot * 0x10000 + l.val)

/-- Put a frame on a link, with its addresses and its EtherType (R241), and count it. -/
def valePut (l : Fin 24) (unchecked : Bool) (f : VFrame) (s : State) : State :=
  if !canSend s l then s
  else
    let s1 := onLink l (fun k =>
      let k1 := addWire true (wireNs f.payload.length) s.tb.now k
      { k1 with
        counts := (f.typ, countOf k f.typ) :: k.counts.filter (fun c => c.1 != f.typ)
        acc := { k1.acc with tx := satSucc max32 k1.acc.tx } }) s
    emit (.vale l { f with src := sourceMac s l, etherType := (linkEntry s l).etherType }) (countUnchecked (s.lsk.unchecked || unchecked) 1 s1)

/-- Send a frame without records. `seq` is the header's Sequence, or the count of frames of the type. -/
def valeSend (l : Fin 24) (typ : Nat) (pos : Byte) (epoch : W32) (seq : Option W32) (payload : List Byte) (s : State) : State :=
  valePut l false
    { typ := typ, flags := frameFlags s false, pos := pos, epoch := epoch, seq := seq.getD (countOf s.links[l] typ)
      payload := payload } s

/-- A management frame to a station, or to all with 0xFF. -/
def manage (l : Fin 24) (typ : Nat) (pos : Byte) (payload : List Byte) (s : State) : State :=
  valeSend l typ pos (frameEpoch s) none payload s

/-- ENUMERATE with the link's station count (R258). -/
def enumerate (l : Fin 24) (s : State) : State :=
  onLink l (fun k => { k with enumerated := k.enumerated || canSend s l })
    (manage l 0x01 0xFF (leBytes 4 (linkEntry s l).count) s)

/-- The position of a station as a byte. -/
def posByte (p : Fin 32) : Byte := BitVec.ofNat 8 p.val

/-- Send a lease frame on every enabled link (R253). -/
def leaseFrame (typ : Nat) (epoch seq : W32) (payload : List Byte) (s : State) : State :=
  overAll (List.finRange 24) (fun l => valeSend l typ 0xFF epoch (some seq) payload) s

/-! ### Bringing a station in (R259, R260) -/

/-- Step 2. -/
def askIdent (l : Fin 24) (p : Fin 32) (s : State) : State :=
  onBring l p (fun b => { b with phase := .ident, tries := 1, timer := s.tb.now + ms, crcTries := 0, noBlock := false })
    (manage l 0x02 (posByte p) [] s)

/-- A step begins for a station that is not IN or OUT: its state shows it (R272). -/
def showStep (l : Fin 24) (p : Fin 32) (st : StnState) (s : State) : State :=
  onStn l p (fun k => if k.st == .in_ || k.st == .out then k else { k with st := st }) s

/-- The segment of a parameter block at an offset. -/
def segmentAt (e : StationEntry) (off : Nat) : List Byte := (e.param.drop off).take 1024

/-- Step 3: the segment at an offset, as the given attempt. -/
def sendSegment (l : Fin 24) (p : Fin 32) (off tries : Nat) (s : State) : State :=
  match stnEntry s l p with
  | none => s
  | some e =>
    let seg := segmentAt e off
    let last := e.param.length ≤ off + seg.length
    let body := leBytes 4 off ++ leBytes 2 seg.length ++ leBytes 2 0 ++ leBytes 4 e.param.length ++
      leBytes 4 (crc32 e.param).toNat ++ seg
    onBring l p (fun b => { b with
        phase := .param, tries := tries, offset := off, timer := s.tb.now + (if last then 100 * ms else ms) })
      (manage l 0x04 (posByte p) body s)

/-- Step 4: START with what R246 and R262 give. -/
def sendStart (l : Fin 24) (p : Fin 32) (tries : Nat) (s : State) : State :=
  match stnEntry s l p with
  | none => s
  | some e =>
    let lead := linkLead s l
    let body := leBytes 2 e.inCount ++ leBytes 2 e.outCount ++ leBytes 4 (inputPeriod s e / 1000) ++
      leBytes 8 (firstInstant s e) ++ leBytes 4 lead ++ leBytes 4 (watchdogIn (enabledTasks s) e) ++
      leBytes 1 (bitNat e.witness) ++ leBytes 7 0
    onBring l p (fun b => { b with phase := .start, tries := tries, timer := s.tb.now + 10 * ms })
      (manage l 0x06 (posByte p) body s)

/-- The bringing-in of a station has come to an end: it is IN, or no request to it is in progress and it sends no samples. -/
def settled (s : State) (l : Fin 24) (p : Fin 32) : Bool :=
  s.links[l].stns[p].st == .in_ || (s.links[l].bring[p].phase == .idle && !s.links[l].stns[p].started)

/-- What is owed to whoever restarted or asked a station, or restarted its link (R272), once the bringing-in has ended. -/
def stationDone (l : Fin 24) (p : Fin 32) (s : State) : State :=
  let a := s.links[l].stns[p].asker
  let s1 := answerOpt a .lnk 6 (onStn l p (fun k => { k with asker := none }) s)
  if s1.links[l].asker.isSome && (linkStations s1 l).all (fun e => settled s1 l e.pos)
  then answerOpt s1.links[l].asker .lnk 6 (onLink l (fun k => { k with asker := none }) s1) else s1

/-- A refusal (R260): recorded; the reason is entered at the first one and at each change of cause; asked again after 10 s. -/
def refuseStation (l : Fin 24) (p : Fin 32) (cause reason : Byte) (s : State) : State :=
  let k := s.links[l].stns[p]
  let s1 := onStn l p (fun x => { x with st := .refused, cause := cause, started := false }) s
  let s2 := onBring l p (fun b => { b with phase := .idle, retryAt := s.tb.now + 10 * sec }) s1
  let s3 := logEv 0x3003 true [(1, l.val), (1, p.val), (1, cause.toNat), (1, reason.toNat),
    (4, k.ident.vendor.toNat), (4, k.ident.device.toNat)] s2
  stationDone l p (if k.cause == cause then s3
  else triggerReason ((stnEntry s l p).bind (fun e => e.errTask)) 0x03 (BitVec.ofNat 32 (l.val * 256 + p.val))
    (BitVec.ofNat 32 cause.toNat) s3)

/-! ### OUT and IN (R263 to R266) -/

/-- The limit of missed samples (R263). -/
def missLimit (s : State) (l : Fin 24) (e : StationEntry) : Nat :=
  max (linkEntry s l).missLimit ((150000 + inputPeriod s e - 1) / inputPeriod s e)

/-- The station goes OUT with a count of missed samples. -/
def goOut (l : Fin 24) (p : Fin 32) (missed : Nat) (s : State) : State :=
  let err := (stnEntry s l p).bind (fun e => e.errTask)
  let s1 := onStn l p (fun k => { k with
    st := .out, lastChange := s.tb.now, outSince := s.tb.now, good := 0
    acc := { k.acc with out := satSucc max32 k.acc.out } }) s
  let s2 := { s1 with mir := { s1.mir with linksBad := true } }
  let s3 := logEv 0x3001 true [(1, l.val), (1, p.val), (4, missed), (1, (err.map Fin.val).getD 0xFF)] s2
  triggerReason err 0x01 (BitVec.ofNat 32 (l.val * 256 + p.val)) (BitVec.ofNat 32 missed) s3

/-- The station is IN (R265): from now on its samples fall due here too, if its START was not this module's. -/
def comeIn (l : Fin 24) (p : Fin 32) (s : State) : State :=
  let k := s.links[l].stns[p]
  let outMs := if k.everIn then min max32 ((s.tb.now - k.outSince) / ms) else 0
  let s1 := onStn l p (fun x => { x with
    st := .in_, cause := 0, lastChange := s.tb.now, missed := 0, everIn := true, quiet := false, started := true
    nextDue := if x.started then x.nextDue else (stnEntry s l p).elim 0 (nextDue s) }) s
  let s2 := logEv 0x3002 false [(1, l.val), (1, p.val), (4, outMs)] s1
  let s3 := if k.quiet then s2
    else triggerReason ((stnEntry s l p).bind (fun e => e.errTask)) 0x02
      (BitVec.ofNat 32 (l.val * 256 + p.val)) (BitVec.ofNat 32 outMs) s2
  stationDone l p s3

/-- Apply the holder's verdict on a station in a standby (R266). -/
def applyVerdict (v : StnVerdict) (s : State) : State :=
  let k := s.links[v.link].stns[v.pos]
  if v.out then (if k.st == .in_ then goOut v.link v.pos k.missed s else s)
  else if k.st == .in_ then s else comeIn v.link v.pos s

/-! ### Samples (R239, R245 to R248) -/

/-- A module hears a station (R239). -/
def hears (s : State) (e : StationEntry) : Bool :=
  match s.links[e.link].stns[e.pos].heardAt with
  | some t => decide (s.tb.now ≤ t + 3 * inputPeriod s e)
  | none => false

/-- The map of the stations heard on a link. -/
def heardMap (s : State) (l : Fin 24) : W32 :=
  BitVec.ofNat 32 (bitsOf 32 (fun b => (linkStations s l).any (fun e => e.pos.val == b && hears s e)))

/-- A sample is held already. -/
def hasSample (k : Stn) (t : Nat) : Bool := k.samples.any (fun m => m.time == t)

/-- Keep a sample; the list stays in falling order of sample instants. -/
def insertSample (m : Sample) (xs : List Sample) : List Sample :=
  match xs with
  | [] => [m]
  | x :: rest => if x.time < m.time then m :: x :: rest else x :: insertSample m rest

/-- The record of a station's point in the parts of a sample. -/
def partRecord (parts : List InputFrame) (k : Nat) : W128 :=
  match parts.find? (fun f => f.first.toNat ≤ k && k < f.first.toNat + f.records.length) with
  | some f => f.records.getD (k - f.first.toNat) 0
  | none => 0

/-- The parts of one sample are all there. -/
def partsComplete (parts : List InputFrame) (n : Nat) : Bool :=
  0 < n && (List.range n).all (fun i => parts.any (fun f => f.part.val == i))

/-- The relay of a sample to the partner starts or stops (R239, R270). -/
def showRelay (l : Fin 24) (p : Fin 32) (on : Bool) (s : State) : State :=
  if s.links[l].stns[p].relaying == on then s
  else logEv 0x3020 on [(1, l.val), (1, p.val), (1, bitNat (!on))] (onStn l p (fun k => { k with relaying := on }) s)

/-- Keep a complete sample that is not held yet (R239), and note one that comes after its due instant (R248). A station that sends samples
without a START of this module is judged from here on (R265), unless it is refused or being brought in. -/
def keepSample (m : Sample) (s : State) : State :=
  let due := m.time + linkLead s m.link
  let idle := s.links[m.link].bring[m.pos].phase == .idle
  onStn m.link m.pos (fun x =>
    let x1 := if x.started || x.st == .refused || !idle then x else { x with started := true, missed := 0, good := 0, nextDue := due }
    if hasSample x m.time then x1
    else { x1 with
      samples := insertSample m x.samples, overdue := if due < s.tb.now then m.time :: x.overdue else x.overdue }) s

/-- A complete sample has arrived on this module's own port: heard, kept unless held, relayed to a partner that does not hear the
station. -/
def takeSample (m : Sample) (s : State) : State :=
  let k := s.links[m.link].stns[m.pos]
  let s1 := onStn m.link m.pos (fun x => { x with heardAt := some s.tb.now, relayedIn := false }) (keepSample m s)
  if partnerPresent s && saddleUp s && !k.pHeard then
    saddle (.sample m) (onLink m.link (fun x => { x with acc := { x.acc with relay := satSucc max32 x.acc.relay } })
      (showRelay m.link m.pos true s1))
  else showRelay m.link m.pos false s1

/-- The sample a snapshot takes (R247): the latest at or before `t`. -/
def sampleAt (k : Stn) (t : Int) : Option Sample := k.samples.find? (fun m => decide ((m.time : Int) ≤ t))

/-! ### Output frames (R216, R249) -/

/-- Contiguous runs of at most 91 of a rising list of point indexes. -/
def runsOf (ps : List Nat) : List (List Nat) :=
  ps.foldl (fun acc p =>
    match acc.getLast? with
    | some run => if run.getLast? = some (p - 1) ∧ 0 < p ∧ run.length < 91 then acc.dropLast ++ [run ++ [p]] else acc ++ [[p]]
    | none => [[p]]) []

/-- The module sends Vale output frames: not while ISOLATED or resynchronising (R214, R229). -/
def sendsOutputs (s : State) : Bool := holds s || (!s.lease.isolated && s.lease.resync.isNone)

/-- The output frames of a task's cycle for one station, from the committed output image. -/
def stationOutputs (t : TaskEntry) (cycle : W32) (trigts : Nat) (unchecked : Bool) (e : StationEntry) (s : State) : State :=
  let idx := (List.range e.outCount).filter (fun k => inRanges t.outputs (e.outFirst + k))
  let runs := runsOf idx
  if runs.isEmpty then s
  else if s.links[e.link].stns[e.pos].st != .in_ then
    onLink e.link (fun k => { k with acc := { k.acc with disc := satAdd max32 k.acc.disc runs.length } }) s
  else
    overAll ((List.range runs.length).zip runs) (fun (x : Nat × List Nat) st =>
      valePut e.link unchecked
        { typ := 0x30, flags := frameFlags st unchecked, pos := posByte e.pos, epoch := frameEpoch st, seq := cycle
          task := t.num.val, part := x.1, parts := runs.length, time := trigts, first := x.2.headD 0, count := x.2.length
          payload := x.2.flatMap (fun k => Memory.readBytes st.mem.cells (outputAddr (e.outFirst + k)) 16) } st) s

/-- The output frames of a task's cycle (R29, R249). -/
def outputFrames (t : TaskEntry) (cycle : W32) (trigts : Nat) (unchecked : Bool) (s : State) : State :=
  if !sendsOutputs s then s
  else
    match s.img.run with
    | some i => overAll i.stations (fun e st => if (linkEntry st e.link).enabled then stationOutputs t cycle trigts unchecked e st else st) s
    | none => s

end Sys2Proof.Machine
end

