-- ==== Sys2Proof/Machine/Snapshot.lean ====
section
/-!
DEFINITION. The input snapshot of a release (04 R103, 08 R220, R221, 09 R247, R264, 10 R281, R283, R288, 06 R168) and its injection
(03 R63, R64).
-/

namespace Sys2Proof.Machine

/-! ### Status and quality (R288) -/

/-- Bits of the channel status word. -/
def stUncal : BitVec 16 := 0x0001
def stDerated : BitVec 16 := 0x0002
def stTimeUnc : BitVec 16 := 0x0004
def stOpenWire : BitVec 16 := 0x0008
def stOver : BitVec 16 := 0x0010
def stUnder : BitVec 16 := 0x0020
def stNe43 : BitVec 16 := 0x0040
def stSafe : BitVec 16 := 0x0080
def stSupplyWarn : BitVec 16 := 0x0100
def stSupplyLost : BitVec 16 := 0x0200
def stExtDrive : BitVec 16 := 0x0400
def stCompliance : BitVec 16 := 0x0800
def stThermal : BitVec 16 := 0x1000
def stUndefined : BitVec 16 := 0x2000
def stNoEdge : BitVec 16 := 0x4000
def stIsland : BitVec 16 := 0x8000
/-- The groups of R288: OPENWIRE, NE43, SUPPLYLOST, ISLAND; and UNCAL, TIMEUNC, OVER, UNDER, SAFE, EXTDRIVE, COMPLIANCE, THERMAL,
UNDEFINED. -/
def badBits : BitVec 16 := 0x8248
def uncertainBits : BitVec 16 := 0x3CB5

/-- The quality of a status word (R288). -/
def statusQuality (st : BitVec 16) : Byte :=
  if st &&& badBits != 0 then qBad else if st &&& uncertainBits != 0 then qUncertain else qGood

/-! ### Local points -/

/-- The channel whose value or readback an input point takes. -/
def chanOfInput (s : State) (p : Nat) : Option (Fin 192) :=
  match s.img.run with
  | some i => (List.finRange 192).find? (fun c => i.channels[c].inPoint == some p)
  | none => none

/-- The island of a channel is in service. -/
def islandIn (s : State) (c : Fin 192) : Bool := s.io.isl[islandOf c].st == .in_

/-- The latest valid return frame is more than 20 µs old (R281). -/
def staleAt (s : State) (c : Fin 192) (t : Nat) : Bool := decide (s.io.isl[islandOf c].lastReturn + 20000 < t)

/-- This module's own reading of a channel at a release (R281, R283, R288). -/
def localReading (s : State) (c : Fin 192) (relts : Nat) : W128 :=
  let k := s.io.chan[c]
  let out := !islandIn s c
  let st := if out then k.status ||| stIsland else k.status
  let q := if (chanEntry s c).mode = 0 then qBad else statusQuality st
  let q2 := if q == qGood && staleAt s c relts then qUncertain else q
  pointRecord k.value st q2 .local_ (age relts k.stamp)

/-! ### Remote points -/

/-- The station whose input points hold a point. -/
def stationOfInput (s : State) (p : Nat) : Option StationEntry :=
  match s.img.run with
  | some i => i.stations.find? (fun e => e.inFirst ≤ p && p < e.inFirst + e.inCount)
  | none => none

/-- A quality byte of a station (R245). -/
def stationQuality (q : Byte) : Byte := if q == qGood || q == qUncertain then q else qBad

/-- The record of a point from a sample (R245, R247, R400). -/
def remoteRecord (e : StationEntry) (m : Sample) (p relts : Nat) : W128 :=
  let r := m.records.getD (p - e.inFirst) 0
  pointRecord (recValue r) (recStatus r) (stationQuality (recQuality r)) .remote (age relts m.time)

/-- The substitute entry of a point. -/
def substOf (s : State) (p : Nat) : SubstEntry :=
  match s.img.run with
  | some i => (i.substs.find? (fun x => x.point == p)).getD ⟨p, 0, 0⟩
  | none => ⟨p, 0, 0⟩

/-- The substitute of a point of a station that is not IN (R264), from the latest sample received, or from the record in the image
where none has been. -/
def substituteRecord (s : State) (e : StationEntry) (p : Nat) : W128 × Option Nat :=
  let head := s.links[e.link].stns[e.pos].samples.head?
  let last := match head with
    | some m => m.records.getD (p - e.inFirst) 0
    | none => Memory.word s.mem.cells (inputAddr p)
  let x := substOf s p
  let v := if x.behaviour = 1 then x.value else if x.behaviour = 2 then 0 else recValue last
  (pointRecord v (recStatus last) qBad .substitute max32, head.map (fun m => m.time))

/-- The substitutes of the remote points of a task as they stand at its release (R103). -/
def ownSubstitutes (s : State) (t : TaskEntry) : List (Nat × W128 × Option Nat) :=
  (pointsOf t.inputs).filterMap (fun p => (stationOfInput s p).map (fun e => (p, substituteRecord s e p)))

/-- The stations that are not IN. -/
def ownOut (s : State) : List (Fin 24 × Fin 32) :=
  match s.img.run with
  | some i => (i.stations.filter (fun e => s.links[e.link].stns[e.pos].st != .in_)).map (fun e => (e.link, e.pos))
  | none => []

/-- The holder's verdicts in place of this module's own (R266). -/
def withVerdicts (vs : List StnVerdict) (out : List (Fin 24 × Fin 32)) : List (Fin 24 × Fin 32) :=
  out.filter (fun x => !vs.any (fun v => v.link == x.1 && v.pos == x.2)) ++ (vs.filter (fun v => v.out)).map (fun v => (v.link, v.pos))

/-! ### This module's own snapshot at its release -/

/-- One point as this module takes it at its own release, and the stamp of its value. -/
def ownPoint (s : State) (lead : Int) (relts p : Nat) : Option (W128 × Nat) :=
  match chanOfInput s p with
  | some c => some (localReading s c relts, s.io.chan[c].stamp)
  | none =>
    match stationOfInput s p with
    | some e =>
      (sampleAt s.links[e.link].stns[e.pos] (lead - (linkLead s e.link : Int))).map
        (fun m => (remoteRecord e m p relts, m.time))
    | none => none

/-- The points of a task's input set as this module takes them, with their stamps. A point that has no value yet is left out. -/
def ownSnapshot (s : State) (t : TaskEntry) (tT relts : Nat) : List (Nat × W128 × Nat) :=
  (pointsOf t.inputs).filterMap (fun p => (ownPoint s (tT : Int) relts p).map (fun x => (p, x.1, x.2)))

/-- The stations read by a task whose selected sample is not complete at the release: the latest sample instant at or before
t − Λ has none (R248). -/
def lateStations (s : State) (t : TaskEntry) (tT : Nat) : List StationEntry :=
  match s.img.run with
  | none => []
  | some i =>
    i.stations.filter (fun e =>
      let k := s.links[e.link].stns[e.pos]
      let start : Int := (s.tsk.origin + readerPhase s e : Nat) - (linkLead s e.link : Int)
      let limit : Int := (tT : Int) - (linkLead s e.link : Int)
      let want := start + ((limit - start) / (inputPeriod s e : Int)) * (inputPeriod s e : Int)
      k.st == .in_ && overlaps t.inputs e.inFirst e.inCount && decide (start ≤ limit)
        && !(k.samples.any (fun m => (m.time : Int) == want)))

/-- Count the stations' late samples (R248). -/
def countLate (es : List StationEntry) (s : State) : State :=
  overAll es (fun e st => onLink e.link (fun k => { k with acc := { k.acc with late := satSucc max32 k.acc.late } }) st) s

/-- This module's local readings for a task: what it sends its partner (R220). -/
def localReadings (s : State) (snap : List (Nat × W128)) : List (BitVec 16 × W128) :=
  (snap.filter (fun x => (chanOfInput s x.1).isSome)).map (fun x => (BitVec.ofNat 16 x.1, x.2))

/-- The islands that this module has out of service. -/
def outIslands (s : State) : BitVec 24 :=
  BitVec.ofNat 24 (bitsOf 24 (fun n => if h : n < 24 then s.io.isl[n].st != .in_ else false))

/-- A snapshot takes points of an island that this module has out (R220). -/
def needsPartner (s : State) (snap : List (Nat × W128)) : Bool :=
  snap.any (fun x => match chanOfInput s x.1 with | some c => !islandIn s c | none => false)

/-- The partner's readings in a snapshot: for the points `pick` chooses, with source PARTNER (R221). -/
def applyReadings (pick : Nat → Bool) (rs : List (BitVec 16 × W128)) (snap : List (Nat × W128)) : List (Nat × W128) :=
  snap.map (fun x =>
    match rs.find? (fun r => r.1.toNat == x.1) with
    | some r => if pick x.1 then (x.1, recWithSource r.2 .partner) else x
    | none => x)

/-! ### Forces (06 R167 to R169) -/

/-- The quality a force sets. -/
def forceQuality (qual : Fin 4) (q : Byte) : Byte :=
  if qual = 0 then qGood else if qual = 1 then qUncertain else if qual = 2 then qBad else q

/-- The force on a target, if there is one. -/
def forceOn (table : List (Fin 4096 × Force)) (kind : Fin 4) (target : W64) : Option (Fin 4096 × Force) :=
  table.find? (fun x => x.2.kind == kind && x.2.target == target)

/-- A record under the forces of points of one kind (R168). -/
def forceRecord (table : List (Fin 4096 × Force)) (kind : Fin 4) (p : Nat) (r : W128) : W128 :=
  match forceOn table kind (BitVec.ofNat 64 p) with
  | some (_, f) => recForce r f.value (forceQuality f.qual (recQuality r))
  | none => r

/-- Put an entry into the table, in the order of the numbers. -/
def putForce (n : Fin 4096) (f : Force) (table : List (Fin 4096 × Force)) : List (Fin 4096 × Force) :=
  match table with
  | [] => [(n, f)]
  | (m, g) :: rest => if n < m then (n, f) :: (m, g) :: rest else if n = m then (n, f) :: rest else (m, g) :: putForce n f rest

/-- The table after one change. -/
def forceOpTable (op : ForceOp) (table : List (Fin 4096 × Force)) : List (Fin 4096 × Force) :=
  match op with
  | .set n cfg target value =>
    putForce n ⟨Fin.ofNat 4 (cfg.extractLsb' 2 2).toNat, Fin.ofNat 4 (cfg.extractLsb' 4 2).toNat, target, value⟩ table
  | .clear n => table.filter (fun x => x.1 != n)
  | .clearAll => []

/-- The table as it stands at an instant (R169): as it was before the first activation that comes after it, or with the waiting changes
that are due by then. -/
def forcesAt (f : Frc) (t : Nat) : List (Fin 4096 × Force) :=
  match (f.before.filter (fun x => t < x.1)).getLast? with
  | some (_, old) => old
  | none => (f.waiting.filter (fun c => c.at_ ≤ t)).foldl (fun tb c => forceOpTable c.op tb) f.table

/-! ### The end of the snapshot -/

/-- The TIME of the values that the module took itself counts from the record's RELTS (R111, R400). -/
def restamp (relts : Nat) (stamps : List (Nat × Nat)) (snap : List (Nat × W128)) : List (Nat × W128) :=
  snap.map (fun x =>
    match stamps.find? (fun y => y.1 == x.1) with
    | some y => (x.1, age relts y.2 ++ x.2.extractLsb' 0 96)
    | none => x)

/-- The points of stations that are not IN for the cycle take their substitutes as they stood at its release; their TIME counts from the
record's RELTS (R103, R264). -/
def substituteAll (s : State) (t : TaskEntry) (c : Cycle) (snap : List (Nat × W128)) : List (Nat × W128) :=
  (pointsOf t.inputs).filterMap (fun p =>
    match stationOfInput s p with
    | some e =>
      if c.outStns.contains (e.link, e.pos) then
        (c.substs.find? (fun x => x.1 == p)).map (fun x =>
          (p, match x.2.2 with | some at_ => age c.record.relts at_ ++ x.2.1.extractLsb' 0 96 | none => x.2.1))
      else snap.find? (fun x => x.1 == p)
    | none => snap.find? (fun x => x.1 == p))

/-- The final snapshot: substituted, with the partner's readings (already in `snap`), forced last (R28, R103, R168). -/
def finalSnapshot (s : State) (t : TaskEntry) (c : Cycle) (snap : List (Nat × W128)) : List (Nat × W128) :=
  (substituteAll s t c snap).map (fun x => (x.1, forceRecord c.forces 0 x.1 x.2))

/-- Write a snapshot's records into the input image. -/
def writeInputs (snap : List (Nat × W128)) (m : List Host.Cell) : List Host.Cell :=
  snap.foldl (fun acc x => Memory.writeWord acc (inputAddr x.1) x.2 0xFFFF) m

/-- The two words of a release record (R102). -/
def recordWord0 (r : RelRec) : W128 :=
  (((r.flags ++ r.missed) ++ (r.reason ++ r.trigger)) ++ r.cycle) ++ BitVec.ofNat 64 r.relts
def recordWord1 (r : RelRec) : W128 := (r.info ++ r.arg) ++ BitVec.ofNat 64 r.trigts

/-- The host address of a word that another task writes, if an injection takes one (R66). -/
def foreignAddr (j : Inject) : Option Nat :=
  match j.src with
  | .output p => some (outputAddr p)
  | .variable a => some a
  | _ => none

/-- The word that an injection takes: of the record, of the snapshot, of what the release took of other tasks (R66), or of a home when
persistent words are reloaded. -/
def injectWord (s : State) (c : Cycle) (reload : Bool) (j : Inject) : Option W128 :=
  match j.src with
  | .record second => some (if second then recordWord1 c.record else recordWord0 c.record)
  | .point p =>
    match c.snapshot.find? (fun x => x.1 == p) with
    | some x => some x.2
    | none => some (Memory.word s.mem.cells (inputAddr p))
  | .home a => if reload then some (Memory.word s.mem.cells a) else none
  | _ =>
    (foreignAddr j).map (fun a =>
      match c.taken.find? (fun x => x.1 == a) with
      | some x => x.2
      | none => Memory.word s.mem.cells a)

/-- The persistent data of a task's routines enter the cores from their homes (07 R198). -/
def injectKept (t : Fin 128) (s : State) : State :=
  overAll ((numberedRoutines s).filter (fun x => x.2.task == t)) (fun x st =>
    overAll x.2.keep (fun k u =>
      inboundWord (coreStream x.2.core) ⟨Memory.word u.mem.cells k.2, t, .sram x.2.core x.1 k.1, u.tb.now, 0⟩ u) st) s

/-- The injection phase: the release record, the snapshot and the reloaded words enter the lanes (R63, R64, R102, R178). -/
def inject (t : Fin 128) (c : Cycle) (s : State) : State :=
  let reload := s.tsk.rt[t].reload
  let s1 := overAll ((program s).inject.filter (fun j => j.task == t)) (fun j st =>
    match injectWord s c reload j with
    | some w => inboundWord j.stream ⟨w, t, .edge j.tile j.dests, st.tb.now, 0⟩ st
    | none => st) s
  if reload then injectKept t s1 else s1

/-- The snapshot is complete: it is written to the input image and injected. -/
def deliver (t : Fin 128) (s : State) : State :=
  match s.tsk.rt[t].cur, taskEntry s t with
  | some c, some e =>
    let snap := finalSnapshot s e c (restamp c.record.relts c.stamps c.snapshot)
    let c1 := { c with snapshot := snap, awaiting := false, partnerDue := false }
    let s1 := onLane .A (freshCycle s t) (onLane .B (freshCycle s t) (withMem s (writeInputs snap s.mem.cells)))
    onTask t (fun r => { r with reload := false }) (inject t c1 (onTask t (fun r => { r with cur := some c1 }) s1))
  | _, _ => s

end Sys2Proof.Machine
end

