-- ==== Sys2Proof/Machine/Commit.lean ====
section
/-!
DEFINITION. The commit of a cycle (01 R28 step 3, 03 R63, R66 to R68, R75, 06 R168): words that the col has compared go to memory and to
the output image, one by one; what a cycle in progress has written is remembered as it was before, for the tasks that read it.
-/

namespace Sys2Proof.Machine

/-- Working copies of the homes in these granules are reloaded at their tasks' next releases (R64). -/
def reloadOwners (granules : List Nat) (s : State) : State :=
  let inGran := fun (a : Nat) => match granuleOf a with | some g => granules.contains g | none => false
  let owners := (program s).inject.filterMap (fun j =>
      match j.src with
      | .home a => if inGran a then some j.task else none
      | _ => none)
    ++ (routines s).filterMap (fun r => if r.keep.any (fun k => inGran k.2) then some r.task else none)
  overAll owners (fun t st => onTask t (fun r => { r with reload := true }) st) s

/-- An output record as it is committed (R75, R168, R400). -/
def commitRecord (s : State) (c : Cycle) (p : Nat) (w : W128) : W128 × Bool :=
  let typ := match s.img.run with | some i => Config.pointType i.plain false p | none => 0
  let nan := (typ = 0x0A && isNanValue false (recValue w)) || (typ = 0x0B && isNanValue true (recValue w))
  let q := if nan then qBad else recQuality w
  (forceRecord c.forces 1 p (pointRecord (recValue w) (recStatus w) q .task (age s.tb.now c.record.relts)), nan)

/-- The bytes of a forced variable that a write of the word at `a` touches hold the forced value again (R168). -/
def forceVars (s : State) (c : Cycle) (a : Nat) (m : List Host.Cell) : List Host.Cell × List Nat :=
  match s.img.run with
  | none => (m, [])
  | some i =>
    (c.forces.filter (fun x => x.2.kind == 2)).foldl (fun acc x =>
      match i.vars.find? (fun v => v.ident == x.2.target) with
      | some v =>
        let b := varBase + v.offset
        if a < b + v.size ∧ b < a + 16 then
          (Memory.writeBytes acc.1 b (leBytes (min 8 v.size) x.2.value.toNat), acc.2 ++ (granuleOf b).toList)
        else acc
      | none => acc) (m, [])

/-- A write ends the poisoning of a history granule (R21). -/
def clearPoison (addrs : List Nat) (s : State) : State :=
  { s with mem := { s.mem with poisoned := s.mem.poisoned.filter (fun g => !addrs.any (fun a => a / 64 * 64 == g)) } }

/-- A cycle's write of a word of memory. The word as it was before the cycle is kept (R66). -/
def commitBytes (t : Fin 128) (a : Nat) (v : W128) (en : BitVec 16) (s : State) : State :=
  onCycle t (fun c => if c.before.any (fun x => x.1 == a) then c else { c with before := c.before ++ [(a, Memory.word s.mem.cells a)] })
    (withMem s (Memory.writeWord s.mem.cells a v en))

/-- An output point record of the task's output set is committed (R75, R104); a NaN of a real point sets NAN_OUT. -/
def commitPoint (e : TaskEntry) (c : Cycle) (p : Nat) (v : W128) (s : State) : State :=
  if !inRanges e.outputs p then s
  else
    let (r, nan) := commitRecord s c p v
    onCycle e.num (fun x => { x with
        outputs := x.outputs.filter (fun o => o.1 != p) ++ [(p, v)], flags := if nan then x.flags ||| 0x20 else x.flags })
      (commitBytes e.num (outputAddr p) r 0xFFFF s)

/-- A word of variable space or of an image is committed to its home; a forced variable holds its value (R63, R86, R168). -/
def commitVar (c : Cycle) (t : Fin 128) (a : Nat) (v : W128) (en : BitVec 16) (s : State) : State :=
  let s1 := onCycle t (fun x => { x with writes := x.writes ++ [(a, v, en)] }) (commitBytes t a v en s)
  let (m, forced) := forceVars s1 c a s1.mem.cells
  reloadOwners forced (clearPoison [a] (withMem s1 m))

/-- What a reader of another task's word takes: while a commit of its writer is in progress, the value of the writer's previous completed
cycle (R66). -/
def stableWord (s : State) (a : Nat) : W128 :=
  match (s.tsk.rt.toList.filterMap (fun r => r.cur.bind (fun c => (c.before.find? (fun x => x.1 == a)).map (fun x => x.2)))).head? with
  | some v => v
  | none => Memory.word s.mem.cells a

end Sys2Proof.Machine
end

