-- ==== Sys2Proof/Machine/Stats.lean ====
section
/-!
DEFINITION. The statistics interval (04 R119 to R122) and the health report of a pair (08 R231).
-/

namespace Sys2Proof.Machine

/-- The streams whose words the col compares under the running image: the edge ports that a slot, a routine or a persistent word leaves by,
the cores that have routines, and the digests. -/
def comparedStreams (s : State) : List (Fin 74) :=
  let port := fun (d : Dest) => match d with | .edge q _ _ => [q.val] | _ => []
  let edges := (program s).slots.flatMap (fun c => (slotDests c).flatMap (fun d => port d.2))
    ++ (routines s).flatMap (fun r => r.outputs.flatMap (fun o => o.dests.flatMap port))
    ++ (program s).words.flatMap (fun w => match w.cls with | .persistent _ _ q => [q.val] | _ => [])
  let cores := (routines s).map (fun r => 64 + r.core.val)
  (List.finRange 74).filter (fun k => k == 72 || edges.contains k.val || cores.contains k.val)

/-- LSK_STATUS.COVER: every compared data bit of every stream has carried both values since RUN (R193; log 70). -/
def covered (s : State) : Bool :=
  (comparedStreams s).all (fun k => s.lsk.seen0[k] &&& s.lsk.seen1[k] == BitVec.allOnes 128)

/-- A station entry of the running image whose station is not IN. -/
def stationsBad (s : State) : Bool :=
  match s.img.run with
  | some i => i.stations.any (fun e => s.links[e.link].stns[e.pos].st != .in_)
  | none => false
def islandsBadNow (s : State) : Bool := (List.finRange 24).any (fun n => s.io.isl[n].st != .in_)
def canBadNow (s : State) : Bool :=
  (List.finRange 4).any (fun p => (canEntry s p).enabled && (s.can[p].state == 1 || s.can[p].state == 2))
def saddleDown (s : State) : Bool := !(s.pair.up[(0 : Fin 2)] && s.pair.up[(1 : Fin 2)])

/-- PAIR_HEALTH over the interval just latched (R231). -/
def healthReport (s : State) : W32 :=
  let bits : List Bool := [
    !(s.pair.downSeen || saddleDown s),
    (List.finRange 128).all (fun t => s.tsk.lat[t].nlate == 0),
    s.mir.lat.mLate == 0,
    s.mir.lat.twin == 0,
    !(s.mir.islandsBad || islandsBadNow s),
    !(s.mir.linksBad || stationsBad s),
    !(s.lsk.uncheckedSeen || s.lsk.unchecked),
    covered s,
    !(s.mir.canBad || canBadNow s)]
  let ok := bits.all id
  BitVec.ofNat 32 (s.tsk.statSeq % 65536 * 65536 + bitsOf 9 (fun k => bits.getD k false) * 2 + bitNat ok)

/-- Latch every statistic (R120). -/
def copyStats (s : State) : State :=
  { s with
    tsk := { s.tsk with lat := s.tsk.acc, statLat := s.tsk.stat }
    tbLat := s.tbAcc
    frc := { s.frc with lat := s.frc.acc }
    lsk := { s.lsk with lat := s.lsk.acc }
    mir := { s.mir with lat := s.mir.acc }
    links := updAll s.links (fun _ k => { k with lat := k.acc, stns := updAll k.stns (fun _ x => { x with lat := x.acc }) })
    io := { s.io with
      lat := s.io.acc
      ai := updAll s.io.ai (fun _ x => { x with doneLat := x.done, dropLat := x.drop })
      ao := updAll s.io.ao (fun _ x => { x with enterLat := x.enter, lossLat := x.loss }) }
    can := updAll s.can (fun _ k => { k with lat := k.acc })
    ses := { s.ses with lat := s.ses.acc }
    tel := { s.tel with lat := s.tel.acc }
    evr := { s.evr with lat := s.evr.acc }
    lcd := { s.lcd with lat := s.lcd.acc } }

/-- Restart every counter: an interval begins (R120, R122). -/
def clearStats (s : State) : State :=
  { s with
    tsk := { s.tsk with acc := Vector.replicate 128 {}, stat := {} }
    tbAcc := {}
    frc := { s.frc with acc := {} }
    lsk := { s.lsk with acc := {} }
    mir := { s.mir with acc := {} }
    links := updAll s.links (fun _ k => { k with acc := {}, stns := updAll k.stns (fun _ x => { x with acc := {} }) })
    io := { s.io with
      acc := Vector.replicate 24 {}
      ai := updAll s.io.ai (fun _ x => { x with done := 0, drop := 0 })
      ao := updAll s.io.ao (fun _ x => { x with enter := 0, loss := 0 }) }
    can := updAll s.can (fun _ k => { k with acc := {} })
    ses := { s.ses with acc := {} }
    tel := { s.tel with acc := {} }
    evr := { s.evr with acc := {} }
    lcd := { s.lcd with acc := {} } }

/-- The first interval after the entry into RUN, or after a change of the interval's length, is counted from there (R122). -/
def shortInterval (s : State) : State :=
  let s1 := clearStats s
  { s1 with tsk := { s1.tsk with statShort := true } }

/-- A health report that is not OK is recorded once per change (R231). -/
def recordHealth (partner : Bool) (old new : W32) (s : State) : State :=
  if old.extractLsb' 0 16 == new.extractLsb' 0 16 || new.getLsbD 0 then s
  else logEv 0x1030 true [(2, new.toNat % 65536), (1, bitNat partner)] s

/-- What latching a boundary means in RUN: the health report of the interval goes to the partner (R231). -/
def reportHealth (s : State) : State :=
  let h := healthReport s
  let s1 := saddle (.health h) (recordHealth false s.mir.health h s)
  { s1 with
    mir := { s1.mir with health := h, linksBad := false, islandsBad := false, canBad := false }
    pair := { s1.pair with downSeen := false }
    lsk := { s1.lsk with uncheckedSeen := s1.lsk.unchecked } }

/-- The boundary at or before an instant, if it has not been latched: every statistic is, and STAT_SEQ rises in RUN (R119 to R122). What
happens at or after a boundary counts in the new interval (R121), so a release, a skipped release and a completion do this first. -/
def boundary (at_ : Nat) (s : State) : State :=
  let b := at_ / statNs s * statNs s
  if statNs s = 0 ∨ b ≤ s.tsk.statMark then s
  else
    let run := inRun s
    let s1 := clearStats (copyStats s)
    let s2 := { s1 with tsk := { s1.tsk with
      statSeq := if run then s1.tsk.statSeq + 1 else s1.tsk.statSeq
      statEnd := b, statMark := b
      statValid := s1.tsk.statValid || run
      statPartial := s1.tsk.statShort
      statShort := false } }
    if run then reportHealth s2 else s2

end Sys2Proof.Machine
end

