-- ==== Sys2Proof/Machine/Release.lean ====
section
/-!
DEFINITION. Releases (04 R93 to R118): the release record, skipped releases, triggers, reasons, notices, and the holds of a switch
window, a RECHECK and a planned role swap.
-/

namespace Sys2Proof.Machine

/-! ### Holds (R95, R156, R158, R198, R233) -/

/-- A request that has chosen its instant holds the releases whose nominal instant is at or after it. -/
def holdsFrom (q : Option SwitchReq) (nominal : Nat) : Bool :=
  match q with
  | some r => r.phase != .searching && decide (r.r ≤ nominal)
  | none => false

/-- A release with this nominal instant is held. -/
def holding (s : State) (nominal : Nat) : Bool :=
  holdsFrom s.tsk.switch nominal || holdsFrom s.lsk.recheck nominal || holdsFrom s.lease.swap nominal

/-- Event tasks wait too: from the instant a request has chosen to its end (R156, R160, R198, R233). -/
def eventsWait (q : Option SwitchReq) : Bool :=
  match q with
  | some r => r.phase == .verdicts || r.phase == .window
  | none => false
def eventsHeld (s : State) : Bool := eventsWait s.tsk.switch || eventsWait s.lsk.recheck || eventsWait s.lease.swap

/-! ### The margin-tracking supply (16 R425, R426) -/

/-- The ceiling of the core supply under the running image, in mV. -/
def ceiling (s : State) : Nat := (settings s).pwr.ceiling

/-- The highest and lowest setpoint of the interval take the present one (PWR_STVCORE). -/
def noteCore (t : Tel) : Tel :=
  { t with acc := { t.acc with vHigh := max t.acc.vHigh (t.core / 2), vLow := min t.acc.vLow (t.core / 2) } }

/-- The setpoint is raised to a value in units of 0.5 mV, unless it lies above it. -/
def raiseCore (v : Nat) (t : Tel) : Tel := noteCore { t with core := max t.core v, quiet := 0 }

/-- The setpoint goes to the ceiling, as at a skipped release. -/
def raiseToCeiling (s : State) : State := { s with tel := raiseCore (2 * ceiling s) s.tel }

/-- The margin of a completion in per mille of the deadline, towards zero (R107). DESIGN CHOICE, log 72. -/
def marginPm (deadline completion : Nat) : Int :=
  if deadline = 0 then 0 else Int.tdiv (((deadline : Int) - (completion : Int)) * 1000) (deadline : Int)

/-- What a completion's margin does to the setpoint (R425), to MARGINLOW (R426) and to the lowest margin of the control period. -/
def reportMargin (t : Fin 128) (m : Int) (s : State) : State :=
  let target : Int := (settings s).pwr.target
  let low := decide (m < target) && decide (2 * ceiling s ≤ s.tel.core)
  let lowest := decide (m < s.tel.periodMargin) || s.tel.periodTask == 0xFF
  let core := if m * 2 < target then raiseCore (2 * ceiling s) s.tel
    else if m ≤ target then raiseCore (min (2 * ceiling s) (s.tel.core + 20)) s.tel
    else if target + 100 ≤ m then s.tel else { s.tel with quiet := 0 }
  let tel := { core with
    lowSince := if low then s.tb.now else s.tel.lowSince
    periodMargin := if lowest then m else s.tel.periodMargin
    periodTask := if lowest then t.val else s.tel.periodTask }
  let s1 := { s with tel := { tel with marginLow := tel.marginLow || low } }
  if low && !s.tel.marginLow then logEv 0x7010 true [(1, 1), (1, t.val), (2, signedField 2 m)] s1 else s1

/-! ### Making a release -/

/-- What a release takes from its cause: the trigger, or the nominal instant of a cyclic one. -/
def cyclicCause (nominal : Nat) : Trig := ⟨0, 0, nominal, 0, 0, nominal⟩

/-- The release record of a release made now (R102). -/
def releaseRecord (s : State) (t : TaskEntry) (cycle : W32) (g : Trig) (late : Bool) : RelRec :=
  let r := s.tsk.rt[t.num]
  let flags := bitNat r.first + 2 * bitNat s.mod.warm + 4 * bitNat r.change + 8 * bitNat r.skipped + 16 * bitNat late
  { relts := s.tb.now, cycle := cycle, trigger := BitVec.ofNat 8 g.code, reason := g.reason
    missed := BitVec.ofNat 8 (min 255 r.missed), flags := BitVec.ofNat 8 flags, trigts := g.stamp, arg := g.arg, info := g.info }

/-- The number of a task's next release (R94, R159 for cyclic tasks; a count of its releases for event tasks, R27). -/
def nextCycle (t : TaskEntry) (r : TaskRt) : W32 :=
  if t.event then (if r.first then 0 else r.cycle + 1) else BitVec.ofNat 32 r.index + r.k

/-- The station verdicts that a notice carries: every station whose points lie in the input set (R266). -/
def noticeVerdicts (s : State) (t : TaskEntry) : List StnVerdict :=
  match s.img.run with
  | some i => (i.stations.filter (fun e => overlaps t.inputs e.inFirst e.inCount)).map
      (fun e => ⟨e.link, e.pos, s.links[e.link].stns[e.pos].st != .in_⟩)
  | none => []

/-- The run-time fields after a release (R91, R99, R108, R109). -/
def releasedRt (t : TaskEntry) (cyc : Cycle) (now : Nat) (r : TaskRt) : TaskRt :=
  { r with
    st := .released, cycle := cyc.record.cycle, cur := some cyc, lastRel := now, missed := 0, skipped := false
    first := false, change := false
    consec := if t.event then r.consec else 0
    overrunFired := if t.event then r.overrunFired else false
    index := if t.event then r.index else r.index + 1
    next := if t.event then r.next else r.next + t.period * 10000 }

/-- Count a release (R95, R121, R123, R125). -/
def countRelease (t : TaskEntry) (jitter : Option Nat) (late : Bool) (s : State) : State :=
  let s1 := onTaskStats t.num (fun a => { a with
    rel := satSucc max32 a.rel, nlate := if late then satSucc max32 a.nlate else a.nlate }) s
  { s1 with tsk := { s1.tsk with stat := { s1.tsk.stat with
    relTot := satSucc max32 s1.tsk.stat.relTot
    jitMax := max s1.tsk.stat.jitMax (jitter.getD 0) } } }

/-- What a release takes of the variables and points that other tasks write (R66). -/
def foreignWords (s : State) (t : Fin 128) : List (Nat × W128) :=
  ((program s).inject.filter (fun j => j.task == t)).filterMap (fun j => (foreignAddr j).map (fun a => (a, stableWord s a)))

/-- The release itself. The record is this module's own, or the holder's for a notified event task. In a standby a cyclic release awaits
the holder's notice, and a notified one its readings; in the holder a release whose snapshot takes points of an island out of service awaits the standby's readings. -/
def makeRelease (t : TaskEntry) (g : Trig) (notice : Option Notice) (held : Bool) (s0 : State) : State :=
  let s := boundary s0.tb.now s0
  let r := s.tsk.rt[t.num]
  let now := s.tb.now
  let standby := !decides s
  let late := knowsNoHolder s
  let rec_ := match notice with
    | some n => n.record
    | none => releaseRecord s t (nextCycle t r) g late
  let own := ownSnapshot s t g.at_ now
  let snap := own.map (fun x => (x.1, x.2.1))
  let due := holds s && partnerInRun s && saddleUp s && needsPartner s snap
  let cyc : Cycle :=
    { record := rec_, base := if notice.isSome then now else g.at_, awaiting := standby && (notice.isSome || !t.event)
      partnerDue := due, forces := forcesAt s.frc rec_.relts, snapshot := snap
      taken := foreignWords s t.num, stamps := own.map (fun x => (x.1, x.2.2))
      substs := ownSubstitutes s t, outStns := ownOut s
      writes := [], outputs := [], before := [], digests := 0, flags := 0, unchecked := s.lsk.unchecked, can := []
      fromHolder := notice.isSome }
  let jitter := if t.event || held then none else some (now - g.at_)
  let s1 := countLate (lateStations s t g.at_) (countRelease t jitter late (onTask t.num (releasedRt t cyc now) s))
  let s2 := if holds s then
      saddle (.notice ⟨t.num, rec_, localReadings s snap, outIslands s, noticeVerdicts s t⟩) s1
    else s1
  let s3 := if standby && !(localReadings s snap).isEmpty then saddle (.readings t.num rec_.cycle (localReadings s snap)) s2 else s2
  if cyc.awaiting || cyc.partnerDue then s3 else deliver t.num s3

/-! ### What ends a wait for the partner (R111, R112, R220, R221) -/

/-- The points of a task whose islands are named. -/
def namedPoint (s : State) (islands : BitVec 24) (p : Nat) : Bool :=
  match chanOfInput s p with
  | some c => islands.getLsbD (islandOf c).val
  | none => false

/-- A notice completes the standby's snapshot: the holder's record and readings, and own readings for the islands it names. -/
def applyNotice (n : Notice) (s : State) : State :=
  let s1 := overAll n.verdicts applyVerdict s
  let pick := fun p => !namedPoint s n.ownIslands p
  let s2 := onCycle n.task (fun c => { c with
    record := n.record, awaiting := false, fromHolder := true, forces := forcesAt s.frc n.record.relts
    outStns := withVerdicts n.verdicts c.outStns
    snapshot := applyReadings pick n.readings c.snapshot
    stamps := c.stamps.filter (fun x => !(pick x.1 && n.readings.any (fun r => r.1.toNat == x.1))) }) s1
  let wait := match s.tsk.rt[n.task].cur with
    | some c => s.tb.now - c.record.relts
    | none => 0
  let s3 := { s2 with tsk := { s2.tsk with stat := { s2.tsk.stat with noticeMax := max s2.tsk.stat.noticeMax wait } } }
  deliver n.task s3

/-- The holder takes the standby's readings for the points of its islands that are out. -/
def applyPartnerReadings (t : Fin 128) (rs : List (BitVec 16 × W128)) (s : State) : State :=
  let pick := fun p => match chanOfInput s p with | some c => !islandIn s c | none => false
  deliver t (onCycle t (fun c => { c with
    partnerDue := false
    snapshot := applyReadings pick rs c.snapshot
    stamps := c.stamps.filter (fun x => !(pick x.1 && rs.any (fun r => r.1.toNat == x.1))) }) s)

/-- A message of the partner that came before this module's own release is taken at the release. -/
def takeEarly (t : TaskEntry) (s : State) : State :=
  let r := s.tsk.rt[t.num]
  match r.cur with
  | none => s
  | some c =>
    if c.awaiting then
      (match r.notices.find? (fun n => n.record.cycle == c.record.cycle) with
       | some n => applyNotice n (onTask t.num (fun x => { x with notices := x.notices.filter (fun k => k.record.cycle != c.record.cycle) }) s)
       | none => s)
    else if c.partnerDue then
      (match r.early with
       | some (n, rs) => if n == c.record.cycle then applyPartnerReadings t.num rs (onTask t.num (fun x => { x with early := none }) s) else s
       | none => s)
    else s

/-! ### Overruns (R108, R109) -/

/-- The overrun task is released once when the count reaches the limit under policy 0. Its trigger instant is the nominal instant of the
skipped release, or the completion instant of an event task (R97). -/
def overrun (t : TaskEntry) (at_ : Nat) (s : State) : State :=
  let r := s.tsk.rt[t.num]
  match t.ovrTask with
  | none => s
  | some o =>
    if t.policy || r.overrunFired || r.consec < t.ovrLimit then s
    else trigger (.release o ⟨6, 0, at_, BitVec.ofNat 32 t.num.val, BitVec.ofNat 32 r.consec, at_⟩)
      (onTask t.num (fun x => { x with overrunFired := true }) s)

/-- A skipped release (R108): consumes its cycle number, is counted, marked by SKIPPED in the next record, and makes the supply go to
the ceiling. -/
def skipRelease (t : TaskEntry) (s0 : State) : State :=
  let nominal := s0.tsk.rt[t.num].next
  let s := boundary nominal s0
  let s1 := onTask t.num (fun r => { r with
    cycle := nextCycle t r, index := r.index + 1, next := r.next + t.period * 10000
    consec := satSucc 255 r.consec, skipped := true }) s
  let s2 := onTaskStats t.num (fun a => { a with skip := satSucc max32 a.skip }) s1
  let s3 := { s2 with tsk := { s2.tsk with stat := { s2.tsk.stat with skipTot := satSucc max32 s2.tsk.stat.skipTot } } }
  overrun t nominal (raiseToCeiling s3)

/-- The release of a cyclic task at its nominal instant: held, skipped or made. -/
def cyclicRelease (t : TaskEntry) (s : State) : State :=
  let r := s.tsk.rt[t.num]
  if holding s r.next then s
  else if r.st == .released then skipRelease t s
  else takeEarly t (makeRelease t (cyclicCause r.next) none false s)

/-! ### Held releases (R156, R158) -/

/-- A task has a nominal instant before `until_` that is not released yet. -/
def releaseDue (t : TaskEntry) (until_ : Nat) (s : State) : Bool :=
  t.enable && !t.event && decide (s.tsk.rt[t.num].next ≤ until_)

/-- Make the held release of a task: the latest nominal instant; earlier ones are dropped. They consume their cycle numbers and set
SKIPPED. Answers the number dropped too. -/
def releaseHeld (t : TaskEntry) (until_ : Nat) (change : Bool) (s : State) : State × Nat :=
  if !releaseDue t until_ s then (s, 0)
  else
    let p := t.period * 10000
    let n := (until_ - s.tsk.rt[t.num].next) / p
    let s1 := onTask t.num (fun r => { r with
      index := r.index + n, next := r.next + n * p, skipped := r.skipped || decide (0 < n), change := r.change || change }) s
    let s2 := if s1.tsk.rt[t.num].st == .released then skipRelease t s1
      else takeEarly t (makeRelease t (cyclicCause s1.tsk.rt[t.num].next) none true s1)
    (s2, n)

/-- Make every held release; by priority and number (R105). Answers the number dropped too. -/
def releaseAllHeld (until_ : Nat) (change : Bool) (s : State) : State × Nat :=
  (enabledTasks s).foldl (fun (x : State × Nat) t =>
    let (s1, n) := releaseHeld t until_ change x.1
    (s1, x.2 + n)) (s, 0)

/-! ### Event tasks (R97 to R100, R113) -/

/-- Release an event task for a trigger, now. -/
def releaseEvent (t : TaskEntry) (g : Trig) (s : State) : State := makeRelease t g none false s

/-- A trigger or reason that finds its task RELEASED: pending, merged, queued or lost (R99, R100). -/
def holdTrigger (t : TaskEntry) (g : Trig) (s : State) : State :=
  let lost := fun (s : State) => onTaskStats t.num (fun a => { a with merge := satSucc max32 a.merge })
    (onTask t.num (fun r => { r with missed := r.missed + 1 }) s)
  let r := s.tsk.rt[t.num]
  if g.code = 5 then
    (if r.queue.length < 64 then onTask t.num (fun x => { x with queue := x.queue ++ [g] }) s else lost s)
  else if r.pending.isNone then onTask t.num (fun x => { x with pending := some g }) s
  else lost s

/-- Offer a trigger to a task (R93, R99, R113, R115): a module that does not decide releases makes none but of the power-fail task. -/
def offerTrigger (t : TaskEntry) (g : Trig) (s : State) : State :=
  if !t.enable || !t.event then s
  else if !decides s && t.trigger != 7 then s
  else if s.tsk.rt[t.num].st == .released then holdTrigger t g s
  else releaseEvent t g s

/-- A task's trigger and arguments match (R98). Argument B of trigger 1 selects directions. -/
def triggerFits (t : TaskEntry) (code a b : Nat) : Bool :=
  t.event && t.trigger == code &&
  (if code = 1 then t.argA == a && (t.argB &&& b) != 0
   else if code = 2 ∨ code = 3 then t.argA == a && t.argB == b
   else if code = 4 ∨ code = 9 then t.argA == a
   else true)

/-- Every task of an image that a registered trigger is for. -/
def tasksFor (i : Image) (g : TrigReg) : List (TaskEntry × Trig) :=
  match g with
  | .matching code a b t => (i.tasks.filter (fun e => triggerFits e code a b)).map (fun e => (e, t))
  | .reasonFor task t => (i.tasks.filter (fun e => e.num == task && e.event && e.trigger == 5)).map (fun e => (e, t))
  | .release task t => (i.tasks.filter (fun e => e.num == task && e.event && e.trigger == t.code)).map (fun e => (e, t))

/-- Every task that a registered trigger is for. -/
def triggerTasks (s : State) (g : TrigReg) : List (TaskEntry × Trig) :=
  match s.img.run with
  | none => []
  | some i => tasksFor i g

/-- The number by which the standby confirms the notice of a task's release by a host event (R117). -/
def noticeId (trigts : Nat) (t : Fin 128) : Nat := (2 ^ 80 + trigts) * 128 + t.val

/-- A notice of the host event registered at `stamp` has gone to the standby for this task, or will go: its cycle runs, or its trigger is
pending. -/
def noticeComes (s : State) (t : Fin 128) (stamp : Nat) : Bool :=
  let r := s.tsk.rt[t]
  (match r.cur with | some c => c.record.trigger == 4 && c.record.trigts == stamp | none => false)
  || (match r.pending with | some g => g.code == 4 && g.stamp == stamp | none => false)

/-- No confirmation is awaited of a notice that will never be sent: its trigger was merged or discarded (R99, R117, R160). -/
def settleNotices (stamp : Nat) (s : State) : State :=
  overAll (List.finRange 128) (fun t st => if noticeComes st t stamp then st else confirmed (noticeId stamp t) st) s

/-- When a host event among the registered triggers was registered. -/
def hostStamp (g : TrigReg) : Option Nat :=
  match g with
  | .matching code _ _ t => if code = 4 then some t.stamp else none
  | _ => none

/-- Handle a registered trigger. -/
def handleTrigger (g : TrigReg) (s : State) : State :=
  let s1 := overAll (triggerTasks s g) (fun x st => offerTrigger x.1 x.2 st) s
  match hostStamp g with
  | some t => settleNotices t s1
  | none => s1

/-- A notified event task can be released in the standby now (R113): with trigger 9 after its own cycle of the predecessor, with
trigger 8 after its own switch window, and when it is not RELEASED. -/
def notifiedReady (t : TaskEntry) (n : Notice) (s : State) : Bool :=
  s.tsk.rt[t.num].st != .released && !eventsHeld s &&
  (if t.trigger = 9 then
     (match s.tsk.rt[(Fin.ofNat 128 t.argA)].doneCycle with
      | some c => decide ((c - n.record.info).toNat < 2 ^ 31)
      | none => false)
   else true)

/-- Release a notified event task with the holder's record; its deadline counts from this module's release. -/
def releaseNotified (t : TaskEntry) (n : Notice) (s : State) : State :=
  let s1 := overAll n.verdicts applyVerdict s
  let s2 := makeRelease t ⟨n.record.trigger.toNat, n.record.reason, n.record.trigts, n.record.arg, n.record.info, n.record.trigts⟩
    (some n) false s1
  let pick := fun p => !namedPoint s n.ownIslands p
  deliver t.num (onCycle t.num (fun c => { c with
    outStns := withVerdicts n.verdicts c.outStns
    snapshot := applyReadings pick n.readings c.snapshot
    stamps := c.stamps.filter (fun x => !(pick x.1 && n.readings.any (fun r => r.1.toNat == x.1))) }) s2)

/-- Release the first waiting notice of an event task that is ready. -/
def takeNotices (t : TaskEntry) (s : State) : State :=
  match s.tsk.rt[t.num].notices with
  | n :: rest =>
    if t.event && notifiedReady t n s then releaseNotified t n (onTask t.num (fun r => { r with notices := rest }) s) else s
  | [] => s

/-- Every event task takes the notices that have become ready. -/
def takeAllNotices (s : State) : State := overAll (enabledTasks s) takeNotices s

end Sys2Proof.Machine
end

