-- ==== Sys2Proof/Machine/IslandBase.lean ====
section
/-!
DEFINITION. Islands and channels, the shared part (10, 11, 12, 13): ranges and rates, exact comparison of values, what an island
reports, what its outputs apply, its configuration and its start.
-/

namespace Sys2Proof.Machine

/-! ### Values -/

/-- The sign of a binary64 value minus `n / d`; 0 for a NaN. -/
def realSign (x : W64) (n : Int) (d : Nat) : Int :=
  match (b64.decode x.toNat).1 with
  | .nan _ => 0
  | .inf neg => if neg then -1 else 1
  | .num neg m e =>
    let a : Int := if neg then -(m : Int) else m
    if 0 ≤ e then a * (2 ^ e.toNat : Nat) * d - n else a * d - n * (2 ^ (-e).toNat : Nat)

def realAbove (x : W64) (n : Int) (d : Nat) : Bool := decide (0 < realSign x n d)
def realBelow (x : W64) (n : Int) (d : Nat) : Bool := decide (realSign x n d < 0)

/-- The binary64 nearest to `n / d`. -/
def real64 (n : Int) (d : Nat) : W64 :=
  BitVec.ofNat 64 (b64.divFp (.num (decide (n < 0)) n.natAbs 0) (.num false d 0)).1

/-- A binary64 value exactly. -/
def ratOf (x : W64) : Rat :=
  match (b64.decode x.toNat).1 with
  | .nan _ => 0
  | .inf neg => if neg then -(2 ^ 1024) else 2 ^ 1024
  | .num neg m e =>
    let a : Int := if neg then -(m : Int) else m
    if 0 ≤ e then ((a * (2 ^ e.toNat : Nat) : Int) : Rat) else mkRat a (2 ^ (-e).toNat)

/-- The binary64 nearest to an exact value. -/
def realOf (q : Rat) : W64 := real64 q.num q.den

/-- A value within bounds, or the nearer bound; bounds in thousandths. -/
def clampMilli (x : W64) (lo hi : Int) : W64 :=
  if realBelow x lo 1000 then real64 lo 1000 else if realAbove x hi 1000 then real64 hi 1000 else x

/-- A value is not zero. -/
def realNonzero (x : W64) : Bool := x.extractLsb' 0 63 != 0

/-- A value in thousandths, towards minus infinity, within what a record can hold. -/
def milliOf (x : W64) : Int :=
  match (b64.decode x.toNat).1 with
  | .num neg m e =>
    let a : Int := if neg then -(m : Int) * 1000 else m * 1000
    if 0 ≤ e then a * (2 ^ e.toNat : Nat) else Int.fdiv a (2 ^ (-e).toNat : Nat)
  | _ => 0

/-! ### Timers of conditions -/

/-- Since when a condition has held. -/
def heldSince (on : Bool) (old : Option Nat) (now : Nat) : Option Nat := if on then (if old.isSome then old else some now) else none

/-- A time has passed since a condition began to hold. -/
def heldFor (since : Option Nat) (t now : Nat) : Bool :=
  match since with
  | some k => decide (k + t ≤ now)
  | none => false

/-! ### Modes (R274) -/

def isAi (e : ChanEntry) : Bool := 1 ≤ e.mode && e.mode ≤ 5
def isAo (e : ChanEntry) : Bool := e.mode == 6 || e.mode == 7
def isDi (e : ChanEntry) : Bool := 8 ≤ e.mode && e.mode ≤ 10
def isDo (e : ChanEntry) : Bool := e.mode == 11
def isOut (e : ChanEntry) : Bool := isAo e || isDo e

/-- The channels of an island. -/
def chansOf (n : Fin 24) : List (Fin 192) := (List.finRange 8).map (chanOf n)

/-- The place of a channel in its island. -/
def placeOf (c : Fin 192) : Fin 8 := Fin.ofNat 8 c.val

/-! ### Ranges (R297), in thousandths of the unit -/

structure RangeSpec where
  underAt : Int
  overAt : Int
  clipLo : Int
  clipHi : Int
  lo : Int
  hi : Int

/-- Modes 4 and 5: the nominal span runs from threshold to threshold. -/
def spanRange (lo hi clipLo clipHi : Int) : RangeSpec := ⟨lo, hi, clipLo, clipHi, lo, hi⟩

/-- The thermocouple ranges. -/
def tcRange (r : Nat) : RangeSpec :=
  if r = 1 then spanRange (-210000) 1200000 (-220000) 1210000
  else if r = 2 then spanRange (-270000) 1372000 (-270000) 1380000
  else if r = 3 then spanRange (-270000) 1300000 (-270000) 1310000
  else if r = 4 then spanRange (-270000) 400000 (-270000) 410000
  else if r = 5 then spanRange (-270000) 1000000 (-270000) 1010000
  else if r = 6 ∨ r = 7 then spanRange (-50000) 1768000 (-60000) 1780000
  else spanRange 250000 1820000 240000 1830000

/-- The range of an analogue input channel. -/
def rangeOf (e : ChanEntry) : RangeSpec :=
  if e.mode = 1 then
    (if e.range = 1 then ⟨-10200, 10200, -11000, 11000, -10000, 10000⟩
     else if e.range = 2 then ⟨-100, 10200, -500, 11000, 0, 10000⟩
     else ⟨-102, 102, -110, 110, -100, 100⟩)
  else if e.mode = 2 then
    (if e.range = 1 then ⟨-200, 20500, -26000, 26000, 0, 20000⟩
     else if e.range = 2 then ⟨3800, 20500, -26000, 26000, 4000, 20000⟩
     else ⟨-25500, 25500, -26000, 26000, -25000, 25000⟩)
  else if e.mode = 3 then ⟨-5000, 5100000, -250000, 5500000, 0, 5000000⟩
  else if e.mode = 4 then
    (if e.range = 3 then spanRange (-80000) 260000 (-90000) 270000 else spanRange (-200000) 850000 (-220000) 870000)
  else tcRange e.range

/-! ### Rates (R275, R277, R294, R319) -/

/-- The output period of a rate code in ns. -/
def ratePeriod (code : Nat) : Nat :=
  if code = 1 then 100 * ms else if code = 2 then 60 * ms else if code = 3 then 20 * ms else if code = 4 then 16666667
  else if code = 5 then 10 * ms else if code = 6 then 2 * ms else if code = 7 then ms else if code = 8 then 250 * us
  else 125 * us

/-- The settling time of R294, three output periods as its table gives it. -/
def settleTime (code : Nat) : Nat := if code = 4 then 50 * ms else 3 * ratePeriod code
def groupDelay (code : Nat) : Nat := settleTime code / 2

/-- The highest rate code of a derating band. -/
def bandCap (band : Fin 4) (code : Nat) : Nat :=
  if band = 0 then code
  else if band = 1 then min code 8
  else if band = 2 then min code 7
  else min code 5

/-- The rate code that is delivered, and the cause of the cap: 0 none, 1 band, 2 low-power mode. -/
def deliveredRate (s : State) (c : Fin 192) (code : Nat) : Nat × Fin 3 :=
  let n := islandOf c
  let byBand := bandCap s.io.own[n].band code
  let byPower := if (islEntry s n).lowPower then min code 7 else code
  if byBand < code ∧ byBand ≤ byPower then (byBand, 1)
  else if byPower < code then (byPower, 2)
  else (code, 0)

/-- A filter reset of an analogue input (R294): the first fully settled result comes one settling time later, at the rate that applies now. -/
def filterReset (c : Fin 192) (s : State) : State :=
  let r := deliveredRate s c (chanEntry s c).rate
  onAi c (fun a => { a with ready := s.tb.now + settleTime r.1, rate := r.1, cap := r.2 }) s

/-! ### What an island reports -/

/-- The island's timestamps are uncertain: within 10 µs of a step of its time, or more than 100 µs without a beacon (R141, R143). -/
def timeUncertain (k : IslSelf) (now : Nat) : Bool :=
  (match k.stepAt with
   | some t => decide (now < t + 10 * us)
   | none => false) ||
  (match k.beaconAt with
   | some b => decide (b + 100 * us < now)
   | none => true)

/-- The island's time now, and at an instant of the time base (R140, R142). -/
def islandTime (s : State) (n : Fin 24) : Nat := s.io.own[n].clock
def islandStamp (s : State) (n : Fin 24) (t : Nat) : Nat := s.io.own[n].clock + t - s.tb.now

/-- A record that the hub makes when the island's next valid return frame reports it. -/
def report (n : Fin 24) (code : Nat) (det : Bool) (fields : List (Nat × Nat)) (s : State) : State :=
  onOwn n (fun k => { k with reports := k.reports ++ [⟨code, det, fields⟩] }) s

/-- The result of a command, for the next return frame. -/
def islResult (n : Fin 24) (c : Option (Fin 192)) (res detail : Nat) (s : State) : State :=
  onOwn n (fun k => { k with results := k.results ++ [(c, res, detail)] }) s

/-- An event for the hub: at most 64 wait (R278). -/
def islEvent (n : Fin 24) (e : IslEvent) (s : State) : State :=
  onOwn n (fun k => if k.events.length < 64 then { k with events := k.events ++ [e] } else { k with evLost := k.evLost + 1 }) s

/-- The supply bits of an output channel (R360). -/
def supplyBits (s : State) (n : Fin 24) : BitVec 16 :=
  (if s.io.sup[n].warn then stSupplyWarn else 0) ||| (if s.io.sup[n].lost then stSupplyLost else 0)

/-! ### Analogue outputs (R325 to R327, R334 to R338) -/

def faultResp (e : ChanEntry) : Fin 4 := Fin.ofNat 4 (e.param0.extractLsb' 0 2).toNat
def ne43Low (e : ChanEntry) : W64 :=
  let v := (e.param0.extractLsb' 16 16).toNat
  real64 (if v = 0 then 3500 else v) 1000
def ne43High (e : ChanEntry) : W64 :=
  let v := (e.param1.extractLsb' 0 16).toNat
  real64 (if v = 0 then 21500 else v) 1000

/-- UNDER, OVER and the driven range of an output (R325), in thousandths. -/
def outRange (e : ChanEntry) : RangeSpec :=
  if e.mode = 6 then (if e.range = 1 then ⟨0, 20500, 0, 24000, 0, 20000⟩ else ⟨3800, 20500, 0, 24000, 4000, 20000⟩)
  else if e.range = 1 then ⟨-10200, 10200, -10500, 10500, -10000, 10000⟩
  else ⟨-100, 10200, 0, 10500, 0, 10000⟩

/-- The range of the latest value: a changed range of a current output applies to the next NEW value (R340). -/
def cmdRangeOf (e : ChanEntry) (a : AoChan) : RangeSpec := outRange (if a.cmdRange = 0 then e else { e with range := a.cmdRange })

/-- What a safe state makes an analogue output drive (R285, R335). -/
def safeDrive (e : ChanEntry) (paired : Bool) (a : AoChan) : Drive × W64 :=
  if paired then (.off, 0)
  else if e.safe = 1 then (.held, a.appl)
  else if e.safe = 2 then (.value, clampMilli e.safeVal (outRange e).clipLo (outRange e).clipHi)
  else if e.safe = 3 ∧ e.mode = 6 then (.ne43Low, ne43Low e)
  else if e.safe = 4 ∧ e.mode = 6 then (.ne43High, ne43High e)
  else (.off, 0)

/-- What an analogue output drives, the cause, the applied value, and the fault response in force. -/
def aoDrive (s : State) (c : Fin 192) : Drive × Fin 5 × W64 × Option (Fin 4) :=
  let n := islandOf c
  let k := s.io.own[n]
  let e := chanEntry s c
  let ch := s.io.chan[c]
  let a := s.io.ao[c]
  let bad := ch.commanded && ch.commandQ == qBad
  let resp := if bad then some (faultResp e) else none
  if !k.configured then (.off, 0, 0, none)
  else if s.io.sup[n].lost then (.off, 3, 0, resp)
  else if ch.safe then (let d := safeDrive e k.paired a; (d.1, 1, d.2, resp))
  else if k.sharesOff then (.off, 1, 0, resp)
  else
    let want : Drive × Fin 5 × W64 :=
      if bad then
        (if faultResp e = 0 then (.held, 2, a.lastGood)
         else if faultResp e = 1 then (let d := safeDrive e k.paired a; (d.1, 2, d.2))
         else if faultResp e = 2 then (.ne43Low, 2, ne43Low e) else (.ne43High, 2, ne43High e))
      else (.command, 0, clampMilli ch.command (cmdRangeOf e a).clipLo (cmdRangeOf e a).clipHi)
    let lease := match k.leaseEnd with | some l => decide (islandTime s n < l) | none => false
    if e.mode = 7 && !lease then (.prepared, 4, want.2.2, resp) else (want.1, want.2.1, want.2.2, resp)

/-- The temperature's limit on a stage lies below its command (R331): the full limit at 150 °C, 0 at 170 °C. Current outputs compare the
applied value with 24 mA, voltage outputs their own current with 25 mA. -/
def belowCommand (e : ChanEntry) (a : AoChan) : Bool :=
  let left : Int := max 0 (min 200 (1700 - a.temp.toInt))
  if e.mode = 6 then realAbove a.appl (24 * left) 200 else decide (25000 * left < 200 * (a.share : Int))

/-- Bring an analogue output up to date; a fault response that begins or ends is recorded as 0x4204. -/
def refreshAo (c : Fin 192) (s : State) : State :=
  let (d, cause, v, resp) := aoDrive s c
  let old := s.io.ao[c].fault
  let good := s.io.chan[c].commanded && s.io.chan[c].commandQ != qBad && d == .command
  let s1 := onAo c (fun a =>
    let b := { a with drive := d, cause := cause, appl := v, fault := resp, lastGood := if good then v else a.lastGood }
    { b with thermal := b.thermal || (b.foldback && belowCommand (chanEntry s c) b) }) s
  match old, resp with
  | none, some r => report (islandOf c) 0x4204 true [(1, c.val), (1, 1), (1, r.val)] s1
  | some r, none => report (islandOf c) 0x4204 false [(1, c.val), (1, 0), (1, r.val)] s1
  | _, _ => s1

/-- The status word of an analogue output. -/
def aoStatus (s : State) (c : Fin 192) : BitVec 16 :=
  let a := s.io.ao[c]
  let ch := s.io.chan[c]
  let r := cmdRangeOf (chanEntry s c) a
  let plain := a.drive == .command || (a.drive == .prepared && a.fault.isNone)
  (if plain && realBelow ch.command r.underAt 1000 then stUnder else 0)
  ||| (if plain && realAbove ch.command r.overAt 1000 then stOver else 0)
  ||| (if a.drive == .ne43Low || a.drive == .ne43High then stNe43 else 0)
  ||| (if ch.safe || (a.fault == some 1 && !ch.safe && a.cause == 2) then stSafe else 0)
  ||| (if a.comply then stCompliance else 0) ||| (if a.thermal then stThermal else 0) ||| (if a.openLoop then stOpenWire else 0)
  ||| supplyBits s (islandOf c)

/-! ### Digital outputs (R345, R352, R356, R358, R359) -/

/-- The channels that a channel's group size covers. -/
def groupSize (e : ChanEntry) : Nat := if e.gang = 1 then 2 else if e.gang = 2 then 4 else 1

/-- The leader of a channel's group, or the channel itself. -/
def leaderOf (s : State) (c : Fin 192) : Fin 192 :=
  let n := islandOf c
  match (chansOf n).find? (fun l => isDo (chanEntry s l) && decide (l.val < c.val) && decide (c.val < l.val + groupSize (chanEntry s l))) with
  | some l => l
  | none => c

/-- The channels of a leader's group. -/
def groupOf (s : State) (l : Fin 192) : List (Fin 192) :=
  (chansOf (islandOf l)).filter (fun c => decide (l.val ≤ c.val) && decide (c.val < l.val + groupSize (chanEntry s l)))

/-- The PWM period in ns. -/
def pwmPeriod (e : ChanEntry) : Nat := e.param1.toNat * us

/-- The on-time of a duty: rounded to 1 µs; below 20 µs 0 %, an off-time below 20 µs 100 % (R356). -/
def pwmOnTime (e : ChanEntry) (duty : W64) : Nat :=
  let per := pwmPeriod e
  let d := clampMilli duty 0 100000
  match (b64.decode d.toNat).1 with
  | .num _ m x =>
    let scale : Nat := 2 ^ (-x).toNat
    let num := m * (if 0 ≤ x then 2 ^ x.toNat else 1) * (per / us)
    let den := 100 * (if 0 ≤ x then 1 else scale)
    let on := (2 * num + den) / (2 * den) * us
    if on < 20 * us then 0 else if per < on + 20 * us then per else on
  | _ => 0

/-- A digital output follows its command now: not a safe state, not off for supply or shares. -/
def doFree (s : State) (c : Fin 192) : Bool :=
  let n := islandOf c
  s.io.own[n].configured && !s.io.sup[n].lost && !s.io.chan[c].safe && !s.io.own[n].sharesOff

/-- A digital output is commanded on: by its command, or by its safe state. -/
def doCommanded (s : State) (c : Fin 192) : Bool :=
  let n := islandOf c
  let e := chanEntry s c
  let ch := s.io.chan[c]
  if !s.io.own[n].configured || s.io.sup[n].lost || s.io.own[n].sharesOff then false
  else if ch.safe then
    (if s.io.own[n].paired then false
     else if e.safe = 1 then s.io.dO[c].on else if e.safe = 2 then realNonzero e.safeVal else false)
  else if !ch.commanded || ch.commandQ == qBad then false
  else if e.pwm then decide (0 < s.io.dO[c].nextOn) else ch.command != 0

/-- The switch of a channel is on: commanded on, not off by thermal shutdown; with PWM as its running period has it, until a BAD command
turns it off (R345, R356). -/
def doOn (s : State) (c : Fin 192) : Bool :=
  let ch := s.io.chan[c]
  if s.io.dO[c].thermalOff then false
  else if (chanEntry s c).pwm && doFree s c then ch.commanded && ch.commandQ != qBad && s.io.dO[c].on else doCommanded s c

/-- A switch turns on or off. After at least 100 ms off the raised current limit holds for 10 ms (R352). -/
def switchTo (on : Bool) (now : Nat) (d : DoChan) : DoChan :=
  if on == d.on then d
  else if on then
    { d with on := true, onSince := now, lowSince := none, raisedTill := if d.offSince + 100 * ms ≤ now then now + 10 * ms else d.raisedTill }
  else { d with on := false, offSince := now, lowSince := none }

/-- Switch a leader's group. -/
def switchGroup (l : Fin 192) (on : Bool) (s : State) : State :=
  overAll (groupOf s l) (fun c st => onDo c (switchTo on s.tb.now) st) s

/-- Bring a digital output up to date: open load ends when it is commanded off, external drive when it is commanded on (R355,
R357). -/
def refreshDo (c : Fin 192) (s : State) : State :=
  if leaderOf s c != c then s
  else
    let want := doCommanded s c
    let d := s.io.dO[c]
    let n := islandOf c
    let s1 := switchGroup c (doOn s c) (onDo c (fun x => { x with cmd := want }) s)
    let s2 := if !want && d.openLoad then report n 0x4306 false [(1, c.val), (1, 0)] (onDo c (fun x => { x with openLoad := false }) s1) else s1
    if want && d.extDrive then report n 0x4302 false [(1, c.val), (1, 0), (2, d.vterm)] (onDo c (fun x => { x with extDrive := false }) s2)
    else s2

/-- The status word of a digital output. -/
def doStatus (s : State) (c : Fin 192) : BitVec 16 :=
  let d := s.io.dO[c]
  (if s.io.chan[c].safe then stSafe else 0) ||| supplyBits s (islandOf c)
  ||| (if d.clamp = 1 then stUnder else 0) ||| (if d.clamp = 2 then stOver else 0)
  ||| (if d.comply then stCompliance else 0) ||| (if d.thermal then stThermal else 0)
  ||| (if d.openLoad then stOpenWire else 0) ||| (if d.extDrive then stExtDrive else 0)

/-- Bring every output of an island up to date. -/
def refreshOutputs (n : Fin 24) (s : State) : State :=
  overAll (chansOf n) (fun c st =>
    if isAo (chanEntry st c) then refreshAo c st else if isDo (chanEntry st c) then refreshDo c st else st) s

/-- Every output of an island enters its safe state. -/
def safeOutputs (n : Fin 24) (s : State) : State :=
  refreshOutputs n (overAll (chansOf n) (fun c st => onChan c (fun k => { k with safe := true }) st) s)

/-- A new value for an output channel (R286, R326): it leaves its safe state. -/
def takeCommand (c : Fin 192) (v : W64) (q : Byte) (s : State) : State :=
  let e := chanEntry s c
  let s1 := onChan c (fun k => { k with command := v, commandQ := q, commanded := true, safe := false }) s
  if isAo e then refreshAo c (onAo c (fun a => { a with cmdRange := e.range }) s1)
  else if isDo e then
    let cl : Fin 3 := if !e.pwm then 0 else if realBelow v 0 1 then 1 else if realAbove v 100 1 then 2 else 0
    refreshDo c (onDo c (fun d => { d with nextOn := if e.pwm then pwmOnTime e v else 0, clamp := cl }) s1)
  else s1

/-! ### Configuration, start and stop of an island -/

/-- The interval of the open-wire test (R298). -/
def owInterval (e : ChanEntry) : Nat :=
  let k := (e.param0.extractLsb' 4 2).toNat
  if k = 1 then sec else if k = 2 then 60 * sec else 10 * sec

/-- The next scheduled open-wire test of a channel (R312). -/
def nextTest (s : State) (c : Fin 192) : Nat :=
  let iv := owInterval (chanEntry s c)
  nextOnGrid (placeOf c * (iv / 8)) iv s.tb.now

/-- A channel of an island takes its entry: inputs from a filter reset, outputs in their safe states. -/
def configureChan (c : Fin 192) (s : State) : State :=
  filterReset c (onAi c (fun a => { a with owNext := nextTest s c, owRun := false, urgRun := false })
    (onDi c (fun d => { d with since := s.tb.now }) (onChan c (fun k => { k with safe := true, commanded := false }) s)))

/-- The island has received its configuration (R282). -/
def configureIsland (n : Fin 24) (s : State) : State :=
  let s1 := overAll (chansOf n) configureChan s
  refreshOutputs n (onOwn n (fun k => { k with configured := true, restarted := false }) s1)

/-- What an analogue input keeps over a start of its island: the factors are the factory's again, no verdict is taken over but the
counts. -/
def aiStart (a : AiChan) : AiChan :=
  { undec := a.undec, done := a.done, drop := a.drop, doneLat := a.doneLat, dropLat := a.dropLat, urgVal := a.urgVal, urgTs := a.urgTs }

/-- An island loses power or resets: its outputs lose their drive, and it starts anew (R277). -/
def resetIsland (n : Fin 24) (s : State) : State :=
  let s1 := onOwn n (fun k => { ({} : IslSelf) with restarted := true, vb := k.vb, temp := k.temp }) s
  let s2 := overAll (chansOf n) (fun c st =>
    onAi c aiStart
      (onAo c (fun a => { ({} : AoChan) with enter := a.enter, enterLat := a.enterLat, loss := a.loss, lossLat := a.lossLat })
        (onDi c (fun _ => {}) (onDo c (fun d => { ({} : DoChan) with retries := d.retries })
          (onChan c (fun k => { k with islStatus := stUncal, islValue := 0, islStamp := 0, safe := true, commanded := false }) st))))) s1
  onSup n (fun _ => {}) s2

/-! ### Commands that end (R287, R289) -/

/-- The word that shows a result (R293). -/
def chRes (res detail : Nat) : W32 := BitVec.ofNat 32 (detail % 256 * 256 + res)

/-- A command that has ended is no longer "in progress" for its session when the standby's confirmation comes. -/
def dropOwed (o : Origin) (g : ResReg) (s : State) : State :=
  let keep := fun (a : Owed) => match a with
    | .result x h _ => !(x == o && h == g)
    | _ => true
  { s with pair := { s.pair with waits := s.pair.waits.map (fun w => { w with acts := w.acts.filter keep }) } }

/-- Give a result to whoever asked: a session, or the routine whose service call it was. -/
def endCmd (a : CmdAsker) (res detail : Nat) (s : State) : State :=
  match a with
  | .session o => answer o .ch (chRes res detail) (dropOwed o .ch s)
  | .routine k => serviceReturn k [BitVec.ofNat 128 (detail % 256 * 256 + res)] s
  | .own => s

/-- Every command of an island that is pending or running ends with result 7. -/
def endIslandCmds (n : Fin 24) (s : State) : State :=
  let mine := fun (w : WaitCmd) =>
    match w.cmd with
    | .calIsland m => m == n
    | .supplyRelease m => m == n
    | .islRestart _ => false
    | .urgent c => islandOf c == n
    | .owtest c _ => islandOf c == n
    | .calload c _ _ => islandOf c == n
    | .cntpreset c _ => islandOf c == n
    | .cntreset c => islandOf c == n
  let s1 := overAll (s.io.waiting.filter mine) (fun w st => endCmd w.asker 7 0 st)
    { s with io := { s.io with waiting := s.io.waiting.filter (fun w => !mine w) } }
  let s2 := match s1.io.isl[n].cmd with
    | some (a, _, _) => endCmd a 7 0 (onIsl n (fun i => { i with cmd := none }) s1)
    | none => s1
  overAll (chansOf n) (fun c st =>
    match st.io.chan[c].cmd with
    | some (a, _, _, _) => endCmd a 7 0 (onChan c (fun k => { k with cmd := none }) st)
    | none => st) s2

/-- The island goes OUT_OF_SERVICE (R282): 1 no valid return frame, 2 fault, 3 restart, 4 ISL_RESTART. -/
def islandOut (n : Fin 24) (cause : Fin 16) (s : State) : State :=
  let i := s.io.isl[n]
  let s1 := if i.st == .in_ then endIslandCmds n s else s
  let s2 := onIsl n (fun x => { x with
    st := .oos, cause := cause, valid := 0, outAt := if i.st == .in_ then s.tb.now else x.outAt
    restartedOut := if i.st == .in_ then false else x.restartedOut }) s1
  let s3 := onIslStats n (fun a => { a with oos := satSucc max32 a.oos }) s2
  let s4 := overAll (chansOf n) (fun c st => onChan c (fun k => { k with seen := k.seen ||| stIsland }) st) s3
  logEv 0x4001 true [(1, n.val), (1, cause.val), (2, i.vb)] { s4 with mir := { s4.mir with islandsBad := true } }

end Sys2Proof.Machine
end

