-- ==== Sys2Proof/Machine/AnalogIn.lean ====
section
/-!
DEFINITION. Analogue inputs (11): conversions, limits, urgent conversions, open-wire tests, calibration, the cold junction: what the
island does. The hub's side is in Islands.lean.
-/

namespace Sys2Proof.Machine

/-! ### Results -/

/-- A mode-5 channel without a valid cold junction carries OPENWIRE (R303). -/
def cjOpen (s : State) (c : Fin 192) : Bool :=
  let e := chanEntry s c
  e.mode == 5 && !(e.param0.getLsbD 2) && s.io.sup[islandOf c].cjFault

/-- UNDER, OVER and NE43 of a result (R297, R305). -/
def rangeBits (e : ChanEntry) (v : W64) : BitVec 16 :=
  let r := rangeOf e
  if e.mode = 2 ∧ e.range = 2 ∧ e.ne43 ∧ (!realAbove v 3600 1000 ∨ !realBelow v 21000 1000) then stNe43
  else (if realBelow v r.underAt 1000 then stUnder else 0) ||| (if realAbove v r.overAt 1000 then stOver else 0)

/-- The status word of a result taken now. -/
def aiStatus (s : State) (c : Fin 192) (v : W64) : BitVec 16 :=
  let a := s.io.ai[c]
  (if a.uncal then stUncal else 0) ||| (if a.cap = 1 then stDerated else 0)
  ||| (if timeUncertain s.io.own[islandOf c] s.tb.now then stTimeUnc else 0)
  ||| (if a.open_ || cjOpen s c then stOpenWire else 0) ||| rangeBits (chanEntry s c) v

/-! ### From volts to the engineering unit (R297, R301, R302) -/

/-- The excitation current in A (R301): 0.2 mA for resistance, 1 mA for Pt100 and Ni120, 0.1 mA for Pt1000. -/
def excitation (e : ChanEntry) : Rat := if e.mode = 3 then 2 / 10000 else if e.range = 2 then 1 / 10000 else 1 / 1000

/-- Byte 20, bits 1:0: two-wire, three-wire, four-wire (R298). -/
def wiring (e : ChanEntry) : Nat := (e.param0.extractLsb' 0 2).toNat

/-- The measured resistance in Ω (R301). The two directions of the excitation cancel thermal EMFs; the second current of three-wire connection
cancels equal leads; two-wire connection subtracts LEAD. -/
def resistance (e : ChanEntry) (m : AiInput) : Rat :=
  let v := (ratOf m.v - ratOf m.reversed) / 2
  let r := (if wiring e = 1 then v - ratOf m.lead else v) / excitation e
  if wiring e = 0 then r - ((e.param0.extractLsb' 16 16).toNat : Rat) / 100 else r

/-- The ratio R(t) / R(0) of platinum at `n` µ°C, times 10³⁹: the Callendar–Van Dusen equation with the coefficients of IEC 60751
(PRESUMED, log 78). -/
def platinum (n : Int) : Int :=
  10 ^ 39 + 39083 * n * 10 ^ 26 - 5775 * n * n * 10 ^ 17 - (if n < 0 then 4183 * (n - 100000000) * n * n * n else 0)

/-- The highest `k` below 2 ^ `bits`, from `base` on, at which a rising function does not exceed a value. -/
def bisect (below : Int → Bool) (bits : Nat) (base : Int) : Int :=
  match bits with
  | 0 => base
  | b + 1 => let up := base + (2 ^ b : Nat); bisect below b (if below up then up else base)

/-- The temperature in µ°C, from −250 °C on, at which platinum of `r0` Ω has a resistance. -/
def platinumTemp (r0 : Nat) (r : Rat) : Int :=
  bisect (fun n => decide (platinum n * r0 * r.den ≤ r.num * 10 ^ 39)) 31 (-250000000)

/-- The cold-junction temperature in 0.01 °C (R298, R302): CJTEMP, or that of the island's Pt1000. -/
def coldJunction (s : State) (c : Fin 192) : Int :=
  let e := chanEntry s c
  if e.param0.getLsbD 2 then (e.param0.extractLsb' 16 16).toInt else s.io.sup[islandOf c].cjTemp.toInt

/-- The result in the unit of R297. -/
def aiValue (s : State) (c : Fin 192) (m : AiInput) : W64 :=
  let e := chanEntry s c
  if e.mode = 1 then m.v
  else if e.mode = 2 then realOf (ratOf m.v * 1000 / 50)
  else if e.mode = 3 then realOf (resistance e m)
  else if e.mode = 4 then
    (if e.range = 3 then Config.ni120 (realOf (resistance e m))
     else real64 (platinumTemp (if e.range = 1 then 100 else 1000) (resistance e m)) 1000000)
  else Config.tcTemp e.range (realOf (ratOf m.v + ratOf (Config.tcVolts e.range (coldJunction s c))))

/-! ### Limits (R306) -/

def limitOn (e : ChanEntry) (j : Nat) : Bool := e.param0.getLsbD (8 + j)
def limitHigh (e : ChanEntry) (j : Nat) : Bool := e.param0.getLsbD (12 + j)
def limitCode (e : ChanEntry) (j : Nat) : Nat :=
  if j = 0 then (e.param1.extractLsb' 0 16).toNat else if j = 1 then (e.param1.extractLsb' 16 16).toNat
  else if j = 2 then (e.param2.extractLsb' 0 16).toNat else (e.param2.extractLsb' 16 16).toNat

/-- The denominator of limits with their hysteresis. -/
def limitDen : Nat := 65535 * 256 * 1000

/-- Limit `j` and a hysteresis of span / 256 away from it by `h`, over `limitDen`. -/
def limitNum (e : ChanEntry) (j : Nat) (h : Int) : Int :=
  let r := rangeOf e
  let span := r.hi - r.lo
  (r.lo * 65535 + (limitCode e j : Int) * span) * 256 + h * span * 65535

/-- The state of limit `j` after a result. -/
def limitAfter (e : ChanEntry) (j : Nat) (v : W64) (was : Bool) : Bool :=
  if limitHigh e j then
    (if was then !realBelow v (limitNum e j (-1)) limitDen else realAbove v (limitNum e j 0) limitDen)
  else (if was then !realAbove v (limitNum e j 1) limitDen else realBelow v (limitNum e j 0) limitDen)

/-- One limit compared with a result: a crossing is an event with the result's stamp. -/
def judgeLimit (c : Fin 192) (v : W64) (stamp : Nat) (unc : Bool) (j : Nat) (s : State) : State :=
  let e := chanEntry s c
  let was := s.io.ai[c].limits.getLsbD j
  let is := limitAfter e j v was
  if !limitOn e j || was == is then s
  else
    let s1 := onAi c (fun a => { a with limits := a.limits ^^^ BitVec.ofNat 4 (2 ^ j) }) s
    islEvent (islandOf c) ⟨c, 2, stamp, BitVec.ofNat 32 (j + 256 * bitNat is), unc⟩ s1

/-- Every enabled limit; a result with a BAD bit crosses none. -/
def judgeLimits (c : Fin 192) (v : W64) (st : BitVec 16) (stamp : Nat) (s : State) : State :=
  if st &&& badBits != 0 then s
  else overAll [0, 1, 2, 3] (judgeLimit c v stamp (st &&& stTimeUnc != 0)) s

/-- A result becomes the channel's latest result. -/
def aiResult (c : Fin 192) (code : BitVec 24) (m : AiInput) (delay : Nat) (s : State) : State :=
  let r := rangeOf (chanEntry s c)
  let v := clampMilli (aiValue s c m) r.clipLo r.clipHi
  let st := aiStatus s c v
  let stamp := islandTime s (islandOf c) - delay
  judgeLimits c v st stamp
    (onAi c (fun a => { a with raw := Config.calCode code a.calOfs a.calGain, lastV := m.v }) (onChan c (fun k => { k with islValue := v, islStatus := st, islStamp := stamp }) s))

/-- The island converts this channel: it is configured, an analogue input, and not calibrating. -/
def converts (s : State) (c : Fin 192) : Bool :=
  s.io.own[islandOf c].configured && isAi (chanEntry s c) && s.io.own[islandOf c].calSince.isNone

/-- The time to the next result at a rate; an interleaved pair delivers at twice the rate (R318). -/
def resultPeriod (e : ChanEntry) (code : Nat) : Nat := if e.interleave then ratePeriod code / 2 else ratePeriod code

/-- Whether every scan result since the last test was at the positive clip (R312). -/
def noteClip (c : Fin 192) (s : State) : State :=
  onAi c (fun a => { a with
    scanClip := some (a.scanClip.getD true && s.io.chan[c].islValue == real64 (rangeOf (chanEntry s c)).clipHi 1000) }) s

/-- AI_CONVERSION_COMPLETE: a result at the rate at which the conversion began; where another rate applies now, the next begins at it
after a filter reset (R320). -/
def aiConversionComplete (c : Fin 192) (code : BitVec 24) (m : AiInput) (s : State) : State :=
  let a := s.io.ai[c]
  let e := chanEntry s c
  if !converts s c || a.urgRun || a.owRun || s.tb.now < a.ready then s
  else
    let s1 := noteClip c (aiResult c code m (groupDelay a.rate) s)
    if deliveredRate s c e.rate == (a.rate, a.cap) then onAi c (fun x => { x with ready := s.tb.now + resultPeriod e a.rate }) s1
    else filterReset c s1

/-- AI_CONVERSION_COMPLETE (R277, R294, R296, R297, R301, R302, R305, R306, R309, R318 to R320). -/
def execAiConversionComplete (c : Fin 192) (code : BitVec 24) (m : AiInput) (s : State) : Host.Outcome State Fault Refusal :=
  .next (aiConversionComplete c code m s)

/-! ### Urgent conversions (R315, R320) -/

/-- URGENT reaches the island: the running conversion and an open-wire test are aborted, the filter is reset. -/
def startUrgent (c : Fin 192) (s : State) : State :=
  if s.io.own[islandOf c].calSince.isSome then islResult (islandOf c) (some c) 7 1 s
  else
    let r := deliveredRate s c 9
    onAi c (fun a => { a with urgRun := true, urgSince := s.tb.now, owRun := false, rate := r.1, cap := r.2 }) s

/-- URGENT_COMPLETE: after one settling time at the fast rate the result is the latest result and the urgent result; the scan restarts
from a filter reset. -/
def urgentComplete (c : Fin 192) (code : BitVec 24) (m : AiInput) (s : State) : State :=
  let a := s.io.ai[c]
  if !converts s c || !a.urgRun || s.tb.now < a.urgSince + settleTime a.rate then s
  else
    let s1 := aiResult c code m (groupDelay a.rate) s
    let s2 := onAi c (fun x => { x with
      urgRun := false, urgVal := s1.io.chan[c].islValue, urgTs := s1.io.chan[c].islStamp, done := satSucc 0xFFFF x.done }) s1
    filterReset c (islResult (islandOf c) (some c) 6 0 s2)

/-- URGENT_COMPLETE (R315). -/
def execUrgentComplete (c : Fin 192) (code : BitVec 24) (m : AiInput) (s : State) : Host.Outcome State Fault Refusal :=
  .next (urgentComplete c code m s)

/-! ### Open-wire tests (R312 to R314, R320) -/

/-- The test of a channel's mode is the test-voltage method. -/
def tvMode (e : ChanEntry) : Bool := e.mode == 1 && (e.range == 1 || e.range == 2)

/-- When the island's one test-voltage converter is free for a channel (R313): now, or after the 20 ms of the tests that hold it. -/
def converterFree (s : State) (c : Fin 192) : Nat :=
  (chansOf (islandOf c)).foldl (fun t d => if d != c && s.io.ai[d].owRun && s.io.ai[d].owTv then max t (s.io.ai[d].owSince + 20 * ms) else t) s.tb.now

/-- A test begins; one by test voltage when the converter is free. -/
def startTest (c : Fin 192) (tv cmd : Bool) (s : State) : State :=
  onAi c (fun a => { a with owRun := true, owSince := if tv then converterFree s c else s.tb.now, owTv := tv, owCmd := cmd }) s

/-- OPENWIRE_TEST_START: at a test instant of a channel with the diagnosis enabled, or with OPENWIRE set (R314). -/
def openwireTestStart (c : Fin 192) (s : State) : State :=
  let e := chanEntry s c
  let a := s.io.ai[c]
  if !converts s c || !(e.owDiag || a.open_) || e.mode = 2 || a.urgRun || a.owRun || s.tb.now < a.owNext then s
  else startTest c (tvMode e) false (onAi c (fun x => { x with owNext := nextTest s c }) s)

/-- OPENWIRE_TEST_START (R312, R313). -/
def execOpenwireTestStart (c : Fin 192) (s : State) : Host.Outcome State Fault Refusal := .next (openwireTestStart c s)

/-- OWCUR × 5 kΩ (R298, R312): 5 mV at 1 µA, 50 mV at 10 µA. -/
def pullDrop (e : ChanEntry) : Rat := if e.param0.getLsbD 3 then 50 / 1000 else 5 / 1000

/-- The diagnostic result reaches the positive clip: of the ±100 mV path in modes 1 and 5; which path measures the sense leads of modes 3
and 4 is not stated, there it is the island's own observation. -/
def reachesClip (e : ChanEntry) (senseAtClip : Bool) (v : W64) : Bool :=
  if e.mode = 3 ∨ e.mode = 4 then senseAtClip else !realBelow v 110 1000

/-- The verdict of an observation: 1 connected, 2 open, 3 undecided; 0 where the test-voltage method follows. Codes of CH_AI_OWSTAT. In modes
3 and 4 an open excitation comes first. -/
def owVerdict (s : State) (c : Fin 192) (obs : OwObs) : Fin 4 × Fin 4 × Nat :=
  let e := chanEntry s c
  let a := s.io.ai[c]
  let excOpen := (e.mode == 3 || e.mode == 4) && a.scanClip == some true
  match obs with
  | .current clip v =>
    if excOpen then (2, 2, 0)
    else if reachesClip e clip v then (2, 0, 0)
    else if decide (|ratOf v - ratOf a.lastV| ≤ pullDrop e) then (1, 0, 0) else (0, 0, 0)
  | .excitation => (if excOpen then 2 else 1, 2, 0)
  | .testVoltage d => (if 1000000 ≤ d then 2 else if d ≤ 200000 then 1 else 3, 1, d)

/-- An observation is one that the running test makes, and its time has come: one settling time of the diagnostic conversion, or twice 10 ms
of test voltage. Only two-wire connection in modes 3 and 4 has no sense leads to test. -/
def owFits (s : State) (c : Fin 192) (obs : OwObs) : Bool :=
  let e := chanEntry s c
  let a := s.io.ai[c]
  let twoWire := (e.mode == 3 || e.mode == 4) && wiring e == 0
  match obs with
  | .testVoltage _ => a.owTv && decide (a.owSince + 20 * ms ≤ s.tb.now)
  | .current _ _ => !a.owTv && !twoWire && decide (a.owSince + settleTime a.rate ≤ s.tb.now)
  | .excitation => !a.owTv && twoWire && decide (a.owSince + settleTime a.rate ≤ s.tb.now)

/-- OPENWIRE follows the verdict; a change is recorded (R314). -/
def setOpen (c : Fin 192) (v method : Fin 4) (delta : Nat) (s : State) : State :=
  let was := s.io.ai[c].open_
  let now := if v = 2 then true else if v = 1 then false else was
  let s1 := onAi c (fun a => { a with
    open_ := now, verdict := v, method := method, undec := if v = 3 then satSucc 0xFFFF a.undec else a.undec
    owNext := if now then s.tb.now + sec else a.owNext }) s
  if was == now then s1
  else report (islandOf c) 0x4103 now [(1, c.val), (1, bitNat now), (1, method.val), (4, min delta max32)] s1

/-- OPENWIRE_TEST_COMPLETE: the verdict, or the test-voltage method at once; then the scan restarts from a filter reset. -/
def openwireTestComplete (c : Fin 192) (obs : OwObs) (s : State) : State :=
  let a := s.io.ai[c]
  if !converts s c || !a.owRun || !owFits s c obs then s
  else
    let v := owVerdict s c obs
    if v.1 = 0 then startTest c true a.owCmd s
    else
      let s1 := filterReset c (onAi c (fun x => { x with owRun := false, owCmd := false, scanClip := none }) (setOpen c v.1 v.2.1 v.2.2 s))
      if a.owCmd then islResult (islandOf c) (some c) 6 (v.1.val - 1) s1 else s1

/-- OPENWIRE_TEST_COMPLETE (R312 to R314, R321). -/
def execOpenwireTestComplete (c : Fin 192) (obs : OwObs) (s : State) : Host.Outcome State Fault Refusal :=
  .next (openwireTestComplete c obs s)

/-! ### Calibration (R307 to R310) -/

/-- The factory factors: no offset, a gain of 1.0 (R322, reset values). -/
def factoryGain : W32 := 0x40000000

/-- A gain within ± 0.5 % of the factory's. -/
def gainOk (g : W32) : Bool := decide (((g.toNat : Int) - factoryGain.toNat).natAbs * 200 ≤ factoryGain.toNat)
/-- An offset within ± 0.1 % of span of the factory's. -/
def offsetOk (e : ChanEntry) (o : W32) : Bool := decide (o.toInt.natAbs * 1000 ≤ Config.spanCodes e.mode e.range)

/-- The second path of an interleaved pair, whose factors are held with the unused odd channel (R318). -/
def secondPath (c : Fin 192) : Fin 192 := c + 1

/-- Measured factors lie within the limits. -/
def factorsOk (e : ChanEntry) (f : W32 × W32) : Bool := gainOk f.2 && offsetOk e f.1

/-- One channel takes its measured factors, or fails with cause 1 (gain) or 2 (offset). An interleaved pair is calibrated in both paths.
Answers whether it failed. -/
def calibrateChan (c : Fin 192) (first second : W32 × W32) (s : State) : State × Bool :=
  let e := chanEntry s c
  let (ofs, gain) := if e.interleave && factorsOk e first then second else first
  if factorsOk e first && (!e.interleave || factorsOk e second) then
    (onAi c (fun a => { a with calOfs := first.1, calGain := first.2, uncal := false, calFailed := false, calSource := 1, calAt := s.tb.now })
      (if e.interleave then onAi (secondPath c) (fun a => { a with calOfs := second.1, calGain := second.2 }) s else s), false)
  else
    (report (islandOf c) 0x4102 true [(1, c.val), (1, if gainOk gain then 2 else 1), (4, ofs.toNat), (4, gain.toNat)]
      (onAi c (fun a => { a with uncal := true, calFailed := true }) s), true)

/-- Every analogue input of an island; a channel without measured factors fails. Answers the mask of those that failed. -/
def calibrateChans (n : Fin 24) (factors : List (Fin 8 × W32 × W32)) (s : State) : State × Nat :=
  (List.finRange 8).foldl (fun x k =>
    let c := chanOf n k
    if isAi (chanEntry s c) then
      let f := fun (p : Fin 8) => ((factors.find? (fun y => y.1 == p)).map (fun y => y.2)).getD (0, 0)
      let y := calibrateChan c (f k) (f (k + 1)) x.1
      (filterReset c y.1, if y.2 then x.2 + 2 ^ k.val else x.2)
    else x) (s, 0)

/-- CAL_ISLAND reaches the island: urgent conversions and tests are aborted with RES 7, DETAIL 1 (R320). -/
def startCal (n : Fin 24) (s : State) : State :=
  let s1 := overAll (chansOf n) (fun c st =>
    let a := st.io.ai[c]
    if a.urgRun || a.owRun then
      let st1 := onAi c (fun x => { x with urgRun := false, owRun := false, owCmd := false }) st
      if a.urgRun || a.owCmd then islResult n (some c) 7 1 st1 else st1
    else st) s
  onOwn n (fun k => { k with calSince := some s.tb.now }) s1

/-- CALIBRATION_COMPLETE: 2.4 s ± 0.1 s after its start. -/
def calibrationComplete (n : Fin 24) (factors : List (Fin 8 × W32 × W32)) (s : State) : State :=
  match s.io.own[n].calSince with
  | none => s
  | some t =>
    if s.tb.now < t + 2300 * ms then s
    else
      let (s1, mask) := calibrateChans n factors (onOwn n (fun k => { k with calSince := none }) s)
      let s2 := report n 0x4101 false [(1, n.val), (1, mask), (4, (s.tb.now - t) / ms)] s1
      islResult n none (if mask = 0 then 6 else 7) mask s2

/-- CALIBRATION_COMPLETE (R307 to R309, R321). -/
def execCalibrationComplete (n : Fin 24) (factors : List (Fin 8 × W32 × W32)) (s : State) : Host.Outcome State Fault Refusal :=
  .next (calibrationComplete n factors s)

/-- CALLOAD at the island. -/
def calload (c : Fin 192) (ofs gain : W32) (s : State) : State :=
  let n := islandOf c
  if s.io.own[n].calSince.isSome then islResult n (some c) 7 1 s
  else if gainOk gain && offsetOk (chanEntry s c) ofs then
    islResult n (some c) 6 0
      (onAi c (fun a => { a with calOfs := ofs, calGain := gain, uncal := false, calFailed := false, calSource := 2, calAt := s.tb.now }) s)
  else islResult n (some c) 7 2 s

/-! ### The cold junction (R302, R303) -/

/-- Within −50 °C to +135 °C. -/
def cjWithin (t : BitVec 16) : Bool := decide (-5000 ≤ t.toInt) && decide (t.toInt ≤ 13500)

/-- CJ_MEASUREMENT: a reading outside the limits declares a fault; readings within them count from the first. -/
def cjMeasurement (n : Fin 24) (temp : BitVec 16) (s : State) : State :=
  if s.io.isl[n].st == .off || s.io.isl[n].restartAt.isSome then s
  else if cjWithin temp then
    onSup n (fun u => { u with cjTemp := temp, cjGood := if u.cjGood.isNone then some s.tb.now else u.cjGood }) s
  else
    let was := s.io.sup[n].cjFault
    let s1 := onSup n (fun u => { u with cjTemp := temp, cjFault := true, cjGood := none }) s
    if was then s1 else report n 0x4104 true [(1, n.val), (1, 1), (2, temp.toNat)] s1

/-- CJ_MEASUREMENT (R302, R303, R321). -/
def execCjMeasurement (n : Fin 24) (temp : BitVec 16) (s : State) : Host.Outcome State Fault Refusal := .next (cjMeasurement n temp s)

/-- CJ_FAULT_END: 1 s of readings within the limits. -/
def cjFaultEnd (n : Fin 24) (s : State) : State :=
  let u := s.io.sup[n]
  match u.cjGood with
  | some t =>
    if u.cjFault && decide (t + sec ≤ s.tb.now) then
      report n 0x4104 false [(1, n.val), (1, 0), (2, u.cjTemp.toNat)] (onSup n (fun x => { x with cjFault := false }) s)
    else s
  | none => s

/-- CJ_FAULT_END (R303, R321). -/
def execCjFaultEnd (n : Fin 24) (s : State) : Host.Outcome State Fault Refusal := .next (cjFaultEnd n s)

end Sys2Proof.Machine
end

