-- ==== Sys2Proof/Machine/AnalogOut.lean ====
section
/-!
DEFINITION. Analogue outputs and readback (12, and 13 R355): what the island does with the measurements of its output stages.
-/

namespace Sys2Proof.Machine

/-- A stage drives a command, a held or safe value or an alarm level. -/
def drives (d : Drive) : Bool := d != .off && d != .prepared

/-- Two values lie within `num / den` of each other. -/
def realNear (x y : W64) (num den : Nat) : Bool :=
  match (b64.decode x.toNat).1, (b64.decode y.toNat).1 with
  | .num n1 m1 e1, .num n2 m2 e2 =>
    let d := exactSum n1 m1 e1 (!n2) m2 e2
    if 0 ≤ d.2 then decide (d.1.natAbs * 2 ^ d.2.toNat * den ≤ num) else decide (d.1.natAbs * den ≤ num * 2 ^ (-d.2).toNat)
  | _, _ => false

/-- Within 0.1 % of span of the command; spans are in thousandths. -/
def nearCommand (e : ChanEntry) (x y : W64) : Bool :=
  let r := outRange e
  realNear x y (r.hi - r.lo).toNat 1000000

/-- The command in µA, for a record. -/
def commandMicro (a : AoChan) : Nat := signedField 4 (milliOf a.appl)

/-! ### Readback (R339, R355) -/

/-- The buck converter's output in 10 mV (R330): the voltage across the load, in mV, plus 2.0 V. -/
def buckFor (vterm : Nat) : Nat := ((BitVec.ofNat 16 vterm).toInt.natAbs + 2000) / 10

/-- The readback of an analogue output: the loop total or the terminal voltage, the shares, the buck and terminal voltages; what the
open-loop and compliance timers see; the end of an open loop. -/
def readbackAo (c : Fin 192) (value : W64) (own total vterm : Nat) (s : State) : State :=
  let e := chanEntry s c
  let a := s.io.ao[c]
  let low := e.mode == 6 && e.owDiag && a.comply && drives a.drive && !realBelow a.appl 1 1 && decide (total < 50)
  let near := nearCommand e value a.appl
  let s1 := onAo c (fun x => { x with
    share := min own 0xFFFF
    pShare := if e.mode = 6 then min (total - own) 0xFFFF else 0
    buck := buckFor vterm, vterm := vterm
    openLoop := x.openLoop && decide (total < 500)
    lowSince := heldSince low x.lowSince s.tb.now
    clearSince := heldSince near x.clearSince s.tb.now }) s
  if a.openLoop && decide (500 ≤ total) then report (islandOf c) 0x4202 false [(1, c.val), (1, 0), (4, commandMicro a)] s1 else s1

/-- The threshold of open load in µA: 2 mA, or 1 mA while PAIRED; it ends above 3 mA, or 1.5 mA (R355). -/
def openLoadBelow (paired : Bool) : Nat := if paired then 1000 else 2000
def openLoadAbove (paired : Bool) : Nat := if paired then 1500 else 3000

/-- The current limit in force in µA: 2.4 A for 10 ms after a long off-time, otherwise 1.2 A (R352). -/
def limitMicro (d : DoChan) (now : Nat) : Nat := if now < d.raisedTill then 2400000 else 1200000

/-- The current of a channel in µA, for a leader that of its group (R359). -/
def groupMicro (s : State) (c : Fin 192) : Nat := ((groupOf s c).map (fun g => s.io.dO[g].micro)).sum

/-- The group total exceeds 0.2 A and a member's current differs from the members' mean by more than 30 % of it (R359). -/
def uneven (s : State) (l : Fin 192) : Bool :=
  let g := groupOf s l
  let total : Int := groupMicro s l
  decide (200000 < total) && g.any (fun c => decide (3 * total < 10 * ((g.length : Int) * s.io.dO[c].micro - total).natAbs))

/-- Every member's current lies within 20 % of the members' mean. -/
def even (s : State) (l : Fin 192) : Bool :=
  let g := groupOf s l
  let total : Int := groupMicro s l
  g.all (fun c => decide (10 * (((g.length : Int) * s.io.dO[c].micro - total).natAbs : Int) ≤ 2 * total))

/-- The timers of the open load of a leader or single channel, which sees the current of its group, and of the balance of a group. -/
def judgeGroup (l : Fin 192) (s : State) : State :=
  let d := s.io.dO[l]
  let p := s.io.own[islandOf l].paired
  let ends := d.openLoad && decide (openLoadAbove p < groupMicro s l)
  let s1 := onDo l (fun x => { x with
    openLoad := x.openLoad && !ends
    lowSince := heldSince (x.cmd && decide (groupMicro s l < openLoadBelow p)) x.lowSince s.tb.now
    unevenSince := heldSince (uneven s l) x.unevenSince s.tb.now, evenSince := heldSince (even s l) x.evenSince s.tb.now }) s
  if ends then report (islandOf l) 0x4306 false [(1, l.val), (1, 0)] s1 else s1

/-- The readback of a digital output: its own current in µA and the terminal voltage in mV, with the timers that they run. -/
def readbackDo (c : Fin 192) (own vterm : Nat) (s : State) : State :=
  let mv := (BitVec.ofNat 16 vterm).toInt
  judgeGroup (leaderOf s c) (onDo c (fun x =>
    let limiting := decide (limitMicro x s.tb.now ≤ own)
    { x with
      micro := own, vterm := signedField 2 (Int.tdiv mv 10)
      limSince := heldSince limiting x.limSince s.tb.now, freeSince := heldSince (!limiting) x.freeSince s.tb.now
      extSince := heldSince (decide (11000 < mv)) x.extSince s.tb.now, calmSince := heldSince (decide (mv < 4000)) x.calmSince s.tb.now }) s)

/-- READBACK_CONVERSION: a stamped result of an output channel; none while the island calibrates. -/
def readbackConversion (c : Fin 192) (value : W64) (own total vterm : Nat) (s : State) : State :=
  let e := chanEntry s c
  let k := s.io.own[islandOf c]
  if !k.configured || !isOut e || k.calSince.isSome then s
  else
    let s1 := onChan c (fun x => { x with
      islValue := value, islStamp := islandTime s (islandOf c), islUnc := timeUncertain k s.tb.now }) s
    if isAo e then readbackAo c value own total vterm s1 else readbackDo c own vterm s1

/-- READBACK_CONVERSION (R330, R333, R339, R352, R353, R355, R357, R359). -/
def execReadbackConversion (c : Fin 192) (value : W64) (ownMicro totalMicro : Nat) (vterm : Nat) (s : State) :
    Host.Outcome State Fault Refusal := .next (readbackConversion c value ownMicro totalMicro vterm s)

/-! ### Thermal fold-back (R331) -/

/-- AO_THERMAL_CROSSING: above 150 °C fold-back is entered; it is left when the stage has cooled below 140 °C. -/
def aoThermalCrossing (c : Fin 192) (temp : BitVec 16) (s : State) : State :=
  let e := chanEntry s c
  let a := s.io.ao[c]
  if !s.io.own[islandOf c].configured || !isAo e then s
  else
    let t := temp.toInt
    let fb := if 1500 < t then true else if t < 1400 then false else a.foldback
    let b := { a with temp := temp, foldback := fb }
    let s1 := onAo c (fun _ => { b with thermal := fb && (b.thermal || belowCommand e b) }) s
    if fb == a.foldback then s1 else report (islandOf c) 0x4203 fb [(1, c.val), (1, bitNat fb), (2, temp.toNat)] s1

/-- AO_THERMAL_CROSSING (R331, R340, R341). -/
def execAoThermalCrossing (c : Fin 192) (temp : BitVec 16) (s : State) : Host.Outcome State Fault Refusal :=
  .next (aoThermalCrossing c temp s)

/-! ### Compliance and open loop (R332, R333) -/

/-- The data of record 0x4201. -/
def complyFields (s : State) (c : Fin 192) (entered : Bool) (vterm delivered : Nat) : List (Nat × Nat) :=
  [(1, c.val), (1, bitNat entered), (2, vterm / 10), (2, s.io.sup[islandOf c].v10), (4, commandMicro s.io.ao[c]), (4, delivered)]

/-- Where compliance is entered: a current output at its compliance voltage, L+ − 2.5 V (R332), or with the partner's share above its
command (R337); a voltage output at its current limit of 25 mA (R339). -/
def atCompliance (s : State) (c : Fin 192) (vterm delivered : Nat) : Bool :=
  let a := s.io.ao[c]
  let n := islandOf c
  if (chanEntry s c).mode = 6 then
    decide ((s.io.sup[n].v10 - 250) * 10 ≤ vterm) || (s.io.own[n].paired && realBelow a.appl a.pShare 1000)
  else decide (25000 ≤ delivered)

/-- COMPLIANCE_ENTRY: the output delivers what it can; it never changes to an alarm level. -/
def complianceEntry (c : Fin 192) (vterm delivered : Nat) (s : State) : State :=
  let a := s.io.ao[c]
  if !s.io.own[islandOf c].configured || !isAo (chanEntry s c) || a.comply || !drives a.drive || !atCompliance s c vterm delivered then s
  else
    report (islandOf c) 0x4201 true (complyFields s c true vterm delivered)
      (onAo c (fun x => { x with comply := true, clearSince := none, enter := satSucc 0xFFFF x.enter, vterm := vterm }) s)

/-- COMPLIANCE_ENTRY (R332, R340, R341). -/
def execComplianceEntry (c : Fin 192) (vterm : Nat) (deliveredMicro : Nat) (s : State) : Host.Outcome State Fault Refusal :=
  .next (complianceEntry c vterm deliveredMicro s)

/-- COMPLIANCE_CLEAR_TIMEOUT: 10 ms within 0.1 % of span of the command. -/
def complianceClearTimeout (c : Fin 192) (s : State) : State :=
  let a := s.io.ao[c]
  match a.clearSince with
  | some t =>
    if a.comply && decide (t + 10 * ms ≤ s.tb.now) then
      report (islandOf c) 0x4201 false (complyFields s c false a.vterm (a.share + a.pShare)) (onAo c (fun x => { x with comply := false }) s)
    else s
  | none => s

/-- COMPLIANCE_CLEAR_TIMEOUT (R332, R341). -/
def execComplianceClearTimeout (c : Fin 192) (s : State) : Host.Outcome State Fault Refusal := .next (complianceClearTimeout c s)

/-- AO_OPEN_LOOP_TIMEOUT: 10 ms below 0.05 mA at the compliance voltage. -/
def aoOpenLoopTimeout (c : Fin 192) (s : State) : State :=
  let a := s.io.ao[c]
  match a.lowSince with
  | some t =>
    if !a.openLoop && decide (t + 10 * ms ≤ s.tb.now) then
      report (islandOf c) 0x4202 true [(1, c.val), (1, 1), (4, commandMicro a)] (onAo c (fun x => { x with openLoop := true }) s)
    else s
  | none => s

/-- AO_OPEN_LOOP_TIMEOUT (R333, R340, R341). -/
def execAoOpenLoopTimeout (c : Fin 192) (s : State) : Host.Outcome State Fault Refusal := .next (aoOpenLoopTimeout c s)

/-! ### Pairs (R219, R337, R338) -/

/-- VOLTAGE_OUTPUT_LEASE_END: when island time reaches L, the switches of the voltage outputs open. -/
def voltageOutputLeaseEnd (n : Fin 24) (s : State) : State :=
  match s.io.own[n].leaseEnd with
  | some l => if l ≤ islandTime s n then refreshOutputs n s else s
  | none => s

/-- VOLTAGE_OUTPUT_LEASE_END (R219, R338). -/
def execVoltageOutputLeaseEnd (n : Fin 24) (s : State) : Host.Outcome State Fault Refusal := .next (voltageOutputLeaseEnd n s)

/-- The channels of a mask that regulate a sum: current outputs that drive while PAIRED. -/
def sumChans (s : State) (n : Fin 24) (mask : Byte) : List (Fin 192) :=
  if s.io.own[n].paired && s.io.own[n].configured then
    (chansOf n).filter (fun c => mask.getLsbD (placeOf c).val && (chanEntry s c).mode == 6 && drives s.io.ao[c].drive)
  else []

/-- PARTNER_SHARE_VANISHED: the survivor restores the totals. -/
def partnerShareVanished (n : Fin 24) (mask : Byte) (micros : Nat) (s : State) : State :=
  let cs := sumChans s n mask
  if cs.isEmpty then s
  else
    let m := bitsOf 8 (fun k => cs.any (fun c => (placeOf c).val == k))
    report n 0x4205 true [(1, n.val), (1, m), (2, sat16 micros)]
      (overAll cs (fun c st => onAo c (fun a => { a with loss := satSucc 0xFFFF a.loss, pShare := 0 }) st) s)

/-- PARTNER_SHARE_VANISHED (R337, R340, R341). -/
def execPartnerShareVanished (n : Fin 24) (mask : Byte) (restoreMicros : Nat) (s : State) : Host.Outcome State Fault Refusal :=
  .next (partnerShareVanished n mask restoreMicros s)

end Sys2Proof.Machine
end

