-- ==== Sys2Proof/Machine/Plain.lean ====
section
/-!
DEFINITION. The Plain and the sequencer cores (03), and the delivery of inbound words to lane B (07 R177): the meanings of their
commands.
-/

namespace Sys2Proof.Machine

/-- The priority of a task (R69, R84). -/
def taskPrio (s : State) (t : Fin 128) : Nat :=
  match taskEntry s t with
  | some e => e.priority
  | none => 0

/-- A lane runs: it is not halted, and a resumed lane idles (R196). Lanes work in RUN. -/
def laneRuns (s : State) (l : Lane) : Bool :=
  inRun s && !idles s.lsk.halt l

/-- The lane whose faults and flags the hub registers: A, or the only one that runs. -/
def leading (s : State) (l : Lane) : Bool :=
  match s.lsk.halt with
  | .none => l == .A
  | _ => laneRuns s l

/-- Flags join those of the task's cycle (R76). -/
def joinCycleFlags (t : Fin 128) (f : Flags) (s : State) : State :=
  onCycle t (fun c => { c with flags := c.flags ||| f }) s

/-! ### Slots (R58, R59, R69) -/

/-- The configuration of a slot. -/
def slotConf (s : State) (tile : Fin 16384) (slot : Fin 16) : Option SlotConf :=
  (program s).slots.find? (fun c => c.tile == tile && c.slot == slot)

/-- The token present at an input of a slot: the oldest. -/
def tokenAt (L : LaneState) (tile : Fin 16384) (slot : Fin 16) (k : Nat) : Option Token :=
  (L.present.find? (fun x => x.1 == tile && x.2.1 == slot && x.2.2.1.val == k)).map (fun x => x.2.2.2)

/-- A slot is ready: its task's cycle runs and it has not fired in it (R59), a token is at each token input, and the output buffer of each
destination is free (R58); for a destination in the tile itself, the place it goes to. -/
def slotReady (s : State) (L : LaneState) (c : SlotConf) : Bool :=
  cycleRuns s c.task && !(L.fired.contains (c.tile, c.slot)) &&
  (List.finRange 3).all (fun k => c.ins[k] != .token || (tokenAt L c.tile c.slot k.val).isSome) &&
  !(L.outBuf.any (fun o => o.1 == c.tile && o.2.1 == c.slot)) &&
  (slotDests c).all (fun d => !(destRoute d.2).isEmpty || placeFree (program s) L c.tile d.2)

/-- Of two slots of a tile the one that fires first: higher priority, then lower number (R69). -/
def firesBefore (s : State) (a b : SlotConf) : Bool :=
  decide (taskPrio s b.task < taskPrio s a.task) || (taskPrio s a.task == taskPrio s b.task && decide (a.slot < b.slot))

/-- The operand that an input port takes (R57); an unused one gives 0. -/
def slotOperand (L : LaneState) (c : SlotConf) (k : Fin 3) : W128 :=
  match c.ins[k] with
  | .unused => 0
  | .token => match tokenAt L c.tile c.slot k.val with | some t => t.data | none => 0
  | .memory w => tileWord L c.tile w
  | .constant v => v

/-- A list without the first entry that satisfies `p`. -/
def dropFirst {α : Type} (p : α → Bool) : List α → List α
  | [] => []
  | x :: xs => if p x then xs else x :: dropFirst p xs

/-- The tokens of a slot without the one consumed at each token input. -/
def consume (c : SlotConf) (L : LaneState) : LaneState :=
  overAll (List.finRange 3) (fun k l =>
    if c.ins[k] == .token then { l with present := dropFirst (fun x => x.1 == c.tile && x.2.1 == c.slot && x.2.2.1 == k) l.present } else l) L

/-- Place a result in the output buffer of one destination. A destination in the tile itself has it at once. -/
def produce (p : PlainProgram) (c : SlotConf) (v : W128) (k : Nat) (d : Dest) (L : LaneState) : LaneState :=
  let tok : Token := ⟨v, c.task, destRoute d, d⟩
  match tok.route with
  | [] => arrive p c.tile tok L
  | dir :: _ => { L with outBuf := L.outBuf ++ [(c.tile, c.slot, k, tok)], links := L.links ++ [(c.tile, dir, tok)] }

/-- The firing of a slot: it counts as fired in this cycle (R59). -/
def fireSlot (lane : Lane) (c : SlotConf) (s : State) : State :=
  let L := laneOf s lane
  let (v, f) := aluEval c.op (slotOperand L c 0) (slotOperand L c 1) (slotOperand L c 2)
  let L1 := consume c { L with fired := (c.tile, c.slot) :: L.fired }
  let L2 := overAll (slotDests c) (fun x l => produce (program s) c v x.1 x.2 l) L1
  joinCycleFlags c.task f (onLane lane (fun _ => L2) s)

/-- A parity error in a lane's private state stops the lane's output to the hub (01 R23). -/
def laneDies (lane : Lane) (s : State) : State := onLane lane (fun L => { L with dead := true }) s

/-- SLOT_FIRING: the slot fires if it is ready and no other ready slot of its tile comes first. -/
def slotFiring (lane : Lane) (tile : Fin 16384) (slot : Fin 16) (s : State) : State :=
  match slotConf s tile slot with
  | none => s
  | some c =>
    let L := laneOf s lane
    let first := (program s).slots.all (fun d => d.tile != tile || d.slot == slot || !slotReady s L d || firesBefore s c d)
    if laneRuns s lane && slotReady s L c && first then fireSlot lane c s else s

/-- SLOT_FIRING (01 R23, R58, R59, R69, R72 to R76). -/
def execSlotFiring (lane : Lane) (tile : Fin 16384) (slot : Fin 16) (parity : Bool) (s : State) : Host.Outcome State Fault Refusal :=
  .next (slotFiring lane tile slot (if parity then laneDies lane s else s))

/-! ### Hops (R60, R70) -/

/-- The next buffer on a token's path is occupied: one token of its route waits at the next tile, or the place it goes to is taken. -/
def nextOccupied (p : PlainProgram) (L : LaneState) (next : Fin 16384) (tok : Token) : Bool :=
  match tok.route.drop 1 with
  | d :: _ => L.links.any (fun x => x.1 == next && x.2.1 == d && x.2.2.dest == tok.dest)
  | [] => !(placeFree p L next tok.dest)

/-- The token that passes next: the highest priority among those whose next buffer is free, then the first to have arrived. -/
def nextToken (s : State) (L : LaneState) (tile next : Fin 16384) (dir : Fin 4) : Option Token :=
  let waiting := (L.links.filter (fun x => x.1 == tile && x.2.1 == dir && !nextOccupied (program s) L next x.2.2)).map (fun x => x.2.2)
  waiting.foldl (fun best t =>
    match best with
    | none => some t
    | some b => if taskPrio s b.task < taskPrio s t.task then some t else some b) none

/-- TOKEN_HOP: one token passes one link direction; it leaves its output buffer if it was in one. -/
def tokenHop (lane : Lane) (tile : Fin 16384) (dir : Fin 4) (s : State) : State :=
  match neighbour tile dir with
  | none => s
  | some next =>
    let L := laneOf s lane
    if !laneRuns s lane then s
    else
      match nextToken s L tile next dir with
      | none => s
      | some tok =>
        let L1 := { L with
          links := dropFirst (fun x => x.1 == tile && x.2.1 == dir && x.2.2 == tok) L.links
          outBuf := dropFirst (fun o => o.1 == tile && o.2.2.2 == tok) L.outBuf }
        onLane lane (fun _ => enterToken (program s) next { tok with route := tok.route.drop 1 } L1) s

/-- TOKEN_HOP (R60, R70, R71). -/
def execTokenHop (lane : Lane) (tile : Fin 16384) (dir : Fin 4) (s : State) : Host.Outcome State Fault Refusal :=
  .next (tokenHop lane tile dir s)

/-! ### Cores (R83 to R88) -/

/-- Change a core of a lane. -/
def onCore (lane : Lane) (k : Fin 8) (f : Core → Core) (s : State) : State :=
  onLane lane (fun L => { L with cores := upd L.cores k f }) s

/-- The routine is ready in a core: its task's cycle runs, it has not run in it, and a token is at each declared input (R84). -/
def routineReady (s : State) (c : Core) (n : Nat) (r : Routine) : Bool :=
  cycleRuns s r.task && !(c.ran.contains n) && (List.range r.inputs).all (fun i => c.tokens.any (fun t => t.1 == n && t.2.1 == i))

/-- When a routine became ready: the place of its last needed token among the arrivals. -/
def readyAt (c : Core) (n : Nat) (r : Routine) : Nat :=
  ((List.range r.inputs).map (fun i => c.tokens.findIdx (fun t => t.1 == n && t.2.1 == i))).foldl max 0

/-- The routines of a core with their numbers. -/
def coreRoutines (s : State) (k : Fin 8) : List (Nat × Routine) :=
  (numberedRoutines s).filter (fun x => x.2.core == k)

/-- The ready routine that runs next: highest priority, then the one ready first (R85). -/
def nextRoutine (s : State) (c : Core) (k : Fin 8) : Option (Nat × Routine) :=
  ((coreRoutines s k).filter (fun x => routineReady s c x.1 x.2)).foldl (fun best x =>
    match best with
    | none => some x
    | some b =>
      if taskPrio s b.2.task < taskPrio s x.2.task ∨
        (taskPrio s b.2.task = taskPrio s x.2.task ∧ readyAt c x.1 x.2 < readyAt c b.1 b.2) then some x else some b) none

/-- The routine with a number. -/
def routineNo (s : State) (n : Nat) : Option Routine := (routines s)[n]?

/-- Start a routine: it takes its tokens (R84). -/
def startRoutine (n : Nat) (r : Routine) (c : Core) : Core :=
  let toks := (List.range r.inputs).map (fun i =>
    match c.tokens.find? (fun t => t.1 == n && t.2.1 == i) with | some t => t.2.2 | none => 0)
  let rest := (List.range r.inputs).foldl (fun ts i => dropFirst (fun t => t.1 == n && t.2.1 == i) ts) c.tokens
  { c with
    tokens := rest
    preempted := match c.running with | some x => x :: c.preempted | none => c.preempted
    running := some ⟨n, [], toks, [], false, none⟩
    ran := n :: c.ran }

/-- A ready routine of higher priority waits while `x` runs: the core changes to it at the next instruction boundary (R85). A routine
that waits for a return is inside an instruction. -/
def preemptDue (s : State) (c : Core) (k : Fin 8) (x : Context) : Bool :=
  match nextRoutine s c k, routineNo s x.routine with
  | some (_, r), some r0 => x.wait.isNone && decide (taskPrio s r0.task < taskPrio s r.task)
  | _, _ => false

/-- ROUTINE_START: the next ready routine starts on an idle core, or pre-empts a routine of lower priority (R85). -/
def routineStart (lane : Lane) (k : Fin 8) (s : State) : State :=
  let c := (laneOf s lane).cores[k]
  match nextRoutine s c k with
  | none => s
  | some (n, r) =>
    if !laneRuns s lane then s
    else
      match c.running with
      | none => onCore lane k (startRoutine n r) s
      | some x => if preemptDue s c k x then onCore lane k (startRoutine n r) s else s

/-- ROUTINE_START (R84, R85). -/
def execRoutineStart (lane : Lane) (core : Fin 8) (s : State) : Host.Outcome State Fault Refusal :=
  .next (routineStart lane core s)

/-- A core sends a token on a declared output. -/
def sendOutput (lane : Lane) (k : Fin 8) (task : Fin 128) (o : RoutineOut) (v : W128) (s : State) : State :=
  onLane lane (fun L => overAll o.dests (fun d l => enterToken (program s) (coreTile k) ⟨v, task, destRoute d, d⟩ l) L) s

/-- Every destination of an output can take a token: the first buffer of its route, or the place itself (R60). -/
def outputFree (s : State) (L : LaneState) (k : Fin 8) (o : RoutineOut) : Bool :=
  o.dests.all (fun d =>
    match destRoute d with
    | [] => placeFree (program s) L (coreTile k) d
    | dir :: _ => !(L.links.any (fun x => x.1 == coreTile k && x.2.1 == dir && x.2.2.dest == d)))

/-- What a precise fault sends on an output that has not been sent (R87). -/
def faultToken (o : RoutineOut) : W128 :=
  if o.real then (if o.dbl then 0x7FF8000000000000 else 0x7FC00000) else 0

/-- The routine ends; the last one that was pre-empted goes on (R85). -/
def endRoutine (c : Core) : Core :=
  match c.preempted with
  | x :: rest => { c with running := some x, preempted := rest }
  | [] => { c with running := none }

/-- The error task of a task's entry. -/
def errTaskOf (s : State) (t : Fin 128) : Option (Fin 128) := (taskEntry s t).bind (fun e => e.errTask)

/-- CORE_FAULT and the reason; with no error task the fault is flagged, counted, and recorded, by a record the manual does not lay down
(R87 to R89). -/
def coreFault (lane : Lane) (k : Fin 8) (task : Fin 128) (reason : Byte) (info : W32) (s : State) : State :=
  let s1 := joinCycleFlags task fCoreFault s
  if !leading s lane then s1
  else
    match errTaskOf s task with
    | some e => triggerReason (some e) reason (BitVec.ofNat 32 k.val) info s1
    | none => logOpen { s1 with tsk := { s1.tsk with coreFaults := upd s1.tsk.coreFaults task (fun n => satSucc max32 n) } }

/-- A precise fault (R87): the routine ends, its unsent outputs are sent as NaN or 0. -/
def preciseFault (lane : Lane) (k : Fin 8) (cls : Nat) (s : State) : State :=
  match (laneOf s lane).cores[k].running with
  | none => s
  | some x =>
    match routineNo s x.routine with
    | none => onCore lane k endRoutine s
    | some r =>
      let unsent := ((List.range r.outputs.length).zip r.outputs).filter (fun o => !x.sent.contains o.1)
      let s1 := overAll unsent (fun o st => sendOutput lane k r.task o.2 (faultToken o.2) st) s
      coreFault lane k r.task 0x10 (BitVec.ofNat 32 cls) (onCore lane k endRoutine s1)

/-- A register of a context; 0 until it is written. -/
def ctxReg (x : Context) (r : Nat) : W128 :=
  match x.regs.find? (fun y => y.1 == r) with
  | some y => y.2
  | none => 0
def setCtxReg (r : Nat) (v : W128) (x : Context) : Context :=
  { x with regs := (r, v) :: x.regs.filter (fun y => y.1 != r) }

/-- Change the running context of a core. -/
def onCtx (lane : Lane) (k : Fin 8) (f : Context → Context) (s : State) : State :=
  onCore lane k (fun c => { c with running := c.running.map f }) s

/-- A task's masks in CMAP (R404). -/
def taskMasks (s : State) (t : Fin 128) : BitVec 16 × BitVec 16 :=
  match s.img.run with
  | some i => match i.taskMasks.find? (fun m => m.task == t) with | some m => (m.readMask, m.writeMask) | none => (0, 0)
  | none => (0, 0)

/-- The protection unit permits a routine's access (R86, R404). -/
def corePermits (s : State) (t : Fin 128) (write : Bool) (addr : W32) : Bool :=
  match granuleOf addr.toNat with
  | some g => grants (if write then (taskMasks s t).2 else (taskMasks s t).1) (colourOf s g)
  | none => false

/-- The words of a core's share of the lane buffer: 3 MiB (R78, R83). -/
def spillShare : Nat := 196608

/-- The words of spill that a core would use with word `a` of routine `n`: each routine's up to its highest (R87 class 5). -/
def spillUsed (c : Core) (n a : Nat) : Nat :=
  let top := fun (m : Nat) => ((c.spill.filter (fun w => w.1.1 == m)).map (fun w => w.1.2 + 1)).foldl max 0
  (((c.spill.map (fun w => w.1.1)).dedup.filter (fun m => m != n)).map top).foldl (· + ·) (max (top n) (a + 1))

/-- The bytes of a store: `n` bytes from the address, within its word. -/
def storeEnables (a : W32) (n : Nat) : BitVec 16 := BitVec.ofNat 16 ((2 ^ n - 1) * 2 ^ (a.toNat % 16))

/-- A word that leaves a core for an address of the host map. -/
def coreOut (kind : WordKind) (task : Fin 128) (a : W32) (en : BitVec 16) (v : W128) : LaneWord :=
  ⟨kind, a.toNat / 16 * 16, en, v, task⟩

/-- A word leaves the core, and the routine waits for what it asks for. -/
def sendAndWait (lane : Lane) (k : Fin 8) (w : LaneWord) (wait : Option CoreWait) (s : State) : State :=
  onCtx lane k (fun x => { x with wait := wait }) (onLane lane (pushOut (coreStream k) w) s)

/-- A service call's word: its number is the target, its argument the data. -/
def callWord (task : Fin 128) (svc : Nat) (v : W128) : LaneWord := ⟨.serviceCall, svc, 0xFFFF, v, task⟩

/-- One instruction of the routine `x` that runs. A word cannot leave while an earlier one of the core waits, nor a token while its first
buffer is occupied: the instruction then waits. -/
def stepRoutine (lane : Lane) (k : Fin 8) (op : CoreOp) (x : Context) (r : Routine) (s : State) : State :=
  let L := laneOf s lane
  let c := L.cores[k]
  let busy := streamBusy L (coreStream k)
  match op with
  | .alu f rd ra rb rc =>
    let (v, fl) := aluEval f (ctxReg x ra) (ctxReg x rb) (ctxReg x rc)
    joinCycleFlags r.task fl (onCtx lane k (setCtxReg rd v) s)
  | .token rd input => onCtx lane k (setCtxReg rd (x.tokens.getD input 0)) s
  | .send output rs =>
    (match r.outputs[output]? with
     | some o =>
       if x.sent.contains output || !outputFree s L k o then s
       else sendOutput lane k r.task o (ctxReg x rs) (onCtx lane k (fun y => { y with sent := output :: y.sent }) s)
     | none => preciseFault lane k 3 s)
  | .loadSram rd a =>
    if a < r.sram then onCtx lane k (setCtxReg rd (coreWord c.sram x.routine a)) s else preciseFault lane k 4 s
  | .storeSram a rs =>
    if a < r.sram then onCore lane k (fun d => { d with sram := setCoreWord x.routine a (ctxReg x rs) d.sram }) s else preciseFault lane k 4 s
  | .loadSpill rd a =>
    if spillUsed c x.routine a ≤ spillShare then onCtx lane k (setCtxReg rd (coreWord c.spill x.routine a)) s else preciseFault lane k 5 s
  | .storeSpill a rs =>
    if spillUsed c x.routine a ≤ spillShare then onCore lane k (fun d => { d with spill := setCoreWord x.routine a (ctxReg x rs) d.spill }) s
    else preciseFault lane k 5 s
  | .loadHub rd a =>
    if !corePermits s r.task false a then preciseFault lane k 2 s
    else if busy then s
    else sendAndWait lane k (coreOut .readRequest r.task a 0xFFFF 0) (some (.load rd)) s
  | .storeHub a rs n =>
    if corePermits s r.task true a then
      (if busy then s
       else onLane lane (pushOut (coreStream k) (coreOut .varWrite r.task a (storeEnables a n.val) (ctxReg x rs <<< (8 * (a.toNat % 16))))) s)
    else if x.faultStore then joinCycleFlags r.task fCoreFault s
    else coreFault lane k r.task 0x11 a (onCtx lane k (fun y => { y with faultStore := true }) s)
  | .rmwHub a f rd rs =>
    if !(corePermits s r.task false a && corePermits s r.task true a) then preciseFault lane k 1 s
    else if busy then s
    else sendAndWait lane k (coreOut .readRequest r.task a 0 (ctxReg x rs)) (some (.rmw rd f (ctxReg x rs))) s
  | .call svc rd rs => if busy then s else sendAndWait lane k (callWord r.task svc (ctxReg x rs)) (some (.call svc rd false)) s
  | .serviceForbidden => preciseFault lane k 1 s
  | .undefinedInstr => preciseFault lane k 3 s
  | .endRoutine => if (List.range r.outputs.length).all (fun o => x.sent.contains o) then onCore lane k endRoutine s else s

/-- CORE_INSTRUCTION: the running routine's next instruction, unless it waits for a return or a routine of higher priority is due. -/
def coreInstruction (lane : Lane) (k : Fin 8) (op : CoreOp) (s : State) : State :=
  let c := (laneOf s lane).cores[k]
  match c.running with
  | none => s
  | some x =>
    match routineNo s x.routine with
    | none => s
    | some r => if !laneRuns s lane || x.wait.isSome || preemptDue s c k x then s else stepRoutine lane k op x r s

/-- What the lane's checks of its private state lead to (01 R20, R23). -/
def laneCheck (lane : Lane) (chk : LaneCheck) (s : State) : State :=
  match chk with
  | .clean => s
  | .corrected n => countCorrected n s
  | .parity => laneDies lane s

/-- CORE_INSTRUCTION (01 R23, R72 to R74, R84 to R90, R404). What a routine asks of the hub leaves the lane as a word that the col compares
first (07 R181). -/
def execCoreInstruction (lane : Lane) (core : Fin 8) (op : CoreOp) (chk : LaneCheck) (s : State) : Host.Outcome State Fault Refusal :=
  .next (coreInstruction lane core op (laneCheck lane chk s))

/-! ### Service calls (R86, 07 R181) -/

/-- The lanes that run. -/
def runningLanes (s : State) : List Lane := lanes.filter (laneRuns s)

/-- The routine on a core whose call of a service the col has compared, in one lane. -/
def laneCalls (s : State) (k : Fin 8) (svc : Nat) (l : Lane) : Option Nat :=
  match (laneOf s l).cores[k].running with
  | some x => (match x.wait with | some (.call n _ true) => if n = svc then some x.routine else none | _ => none)
  | none => none

/-- Who makes a service call: the routine on the core that has called it in every lane that runs. -/
def caller (s : State) (k : Fin 8) (svc : Nat) : Option Routine :=
  match runningLanes s with
  | [] => none
  | l :: rest =>
    match laneCalls s k svc l with
    | some n => if rest.all (fun m => laneCalls s k svc m == some n) then routineNo s n else none
    | none => none

/-- A service call that names a resource the task may not use ends the routine in every lane that runs (R87). -/
def forbidService (k : Fin 8) (s : State) : State := overAll (runningLanes s) (fun l t => preciseFault l k 1 t) s

/-! ### Inbound words (07 R177) -/

/-- A word in a delivery buffer may go to lane B: two later words of its stream are accepted, or 40 ns have passed; never before 10 ns. -/
def inboundReady (s : State) (w : Inbound) : Bool :=
  decide (w.accepted + 10 ≤ s.tb.now) && (decide (2 ≤ w.later) || decide (w.accepted + 40 ≤ s.tb.now))

/-- INBOUND_WORD_DELIVERY: the oldest waiting word of the stream goes to lane B. -/
def inboundWordDelivery (stream : Fin 72) (chk : MemCheck) (s : State) : State :=
  match s.lsk.inbound[stream] with
  | [] => s
  | w :: rest =>
    if !inRun s || !inboundReady s w || s.lsk.halt != .none then s
    else
      let s1 := memCheck chk s
      if !MemCheckOk chk then s1
      else emit (.toLane .B stream w.data)
        (onLane .B (laneWord (program s) w) { s1 with lsk := { s1.lsk with inbound := upd s1.lsk.inbound stream (fun _ => rest) } })

/-- INBOUND_WORD_DELIVERY (R17, R177, R178, R196). A fault that the hub's checks find is taken whatever waits (R13, R14). -/
def execInboundWordDelivery (stream : Fin 72) (chk : MemCheck) (s : State) : Host.Outcome State Fault Refusal :=
  .next (if isHubFault chk then memCheck chk s else inboundWordDelivery stream chk s)

end Sys2Proof.Machine
end

