-- ==== Sys2Proof/Machine/CanPort.lean ====
section
/-!
DEFINITION. CAN ports (14): transmission, reception, errors, transmit authority in a pair, and the service calls of routines.
-/

namespace Sys2Proof.Machine

/-! ### Frames on the wire (R365, R366, R370, R378) -/

/-- Bit times in units of 12.5 ns. -/
def nominalBit (e : CanEntry) : Nat := e.presc * (1 + e.prop + e.ph1 + e.ph2)
def dataBit (e : CanEntry) : Nat := if e.brs then e.dpresc * (1 + e.dprop + e.dph1 + e.dph2) else nominalBit e

/-- The length of a frame with the largest number of stuff bits, as bits at the nominal and at the data rate. Field lengths and stuffing
rules are those of ISO 11898-1 (PRESUMED, log 42). -/
def frameBits (f : CanFrame) : Nat × Nat :=
  let n := 8 * f.data.length
  if f.fd then
    let head := if f.extended then 36 else 17
    let stuff := (head + 5 + n - 1) / 4
    let headStuff := (head - 1) / 4
    let crc := if f.data.length ≤ 16 then 21 + 6 else 25 + 7
    (head + headStuff + 9, 5 + n + (stuff - headStuff) + crc + 1)
  else
    let stuffed := (if f.extended then 54 else 34) + n
    (stuffed + (stuffed - 1) / 4 + 10, 0)

/-- The wire time of a frame in ns, rounded up. -/
def frameTime (e : CanEntry) (f : CanFrame) : Nat :=
  let b := frameBits f
  ((b.1 * nominalBit e + b.2 * dataBit e) * 25 + 1) / 2

/-- The order of arbitration: the lower wins. Base identifiers come before extended ones of the same 11 bits. -/
def arbKey (f : CanFrame) : Nat :=
  let i := f.ident.toNat
  let base := if f.extended then i / 2 ^ 18 else i % 2 ^ 11
  ((base * 2 + bitNat f.extended) * 2 ^ 18 + (if f.extended then i % 2 ^ 18 else 0)) * 2 + bitNat f.fd

/-- A port can send a frame: FD frames only with the FD flag; remote frames never (R365). -/
def portSends (e : CanEntry) (f : CanFrame) : Bool := (e.fd || !f.fd) && !f.remote

/-- The frame as the port sends it: every FD frame with bit-rate switch when the BRS flag is 1, and none without it (R365). -/
def sentFrame (e : CanEntry) (f : CanFrame) : CanFrame := { f with brs := f.fd && e.brs }

/-- The PENDING buffer that wins, the lowest number among equals. -/
def bestBuffer (e : CanEntry) (k : Can) : Option (Fin 32 × CanFrame) :=
  ((List.finRange 32).filterMap (fun b =>
    match k.tx[b].st, k.tx[b].frame with
    | .pending, some f => if portSends e f then some (b, f) else none
    | _, _ => none)).foldl
    (fun best x => match best with
      | none => some x
      | some y => if arbKey x.2 < arbKey y.2 then some x else some y) none

/-- The buffer that is on the wire. -/
def activeBuffer (k : Can) : Option (Fin 32) := (List.finRange 32).find? (fun b => k.tx[b].st == .active)

/-- A port takes part in its bus: enabled, in RUN. -/
def canLive (s : State) (p : Fin 4) : Bool := (canEntry s p).enabled && inRun s && s.can[p].state != 3

/-- CAN_TX_START: only the lease holder sends, and no frame that could end at or after its lease end (R378). -/
def canTxStart (p : Fin 4) (s : State) : State :=
  let k := s.can[p]
  if !canLive s p || !holds s || k.state == 2 || k.integrating || (activeBuffer k).isSome then s
  else
    match bestBuffer (canEntry s p) k with
    | none => s
    | some (b, f) =>
      if s.lease.leaseEnd ≤ s.tb.now + frameTime (canEntry s p) f then s
      else emit (.canStart p b (sentFrame (canEntry s p) f)) (onCan p (fun x => { x with tx := upd x.tx b (fun t => { t with st := .active }) }) s)

/-- CAN_TX_START (R30, R365, R369, R370, R378). -/
def execCanTxStart (p : Fin 4) (s : State) : Host.Outcome State Fault Refusal := .next (canTxStart p s)

/-! ### Error states (R375 to R377) -/

/-- The code of an error in CAN_STATUS.LEC. -/
def lecCode : CanErr → Nat
  | .arbitration => 0
  | .stuff => 1
  | .form => 2
  | .ack => 3
  | .bitRecessive => 4
  | .bitDominant => 5
  | .crc => 6
  | .delay => 7

/-- The number of PENDING buffers of a port. -/
def pendingCount (k : Can) : Nat := (List.finRange 32).countP (fun b => k.tx[b].st == .pending)

/-- The error state that the counters give; its entry and exit are recorded. -/
def judgeCan (p : Fin 4) (s : State) : State :=
  let k := s.can[p]
  if k.state == 2 || k.state == 3 then s
  else if 255 < k.tec then
    let s1 := onCan p (fun x => { x with
      state := 2, tec := 255, busOffAt := s.tb.now, acc := { x.acc with busOff := satSucc max32 x.acc.busOff } }) s
    logEv 0x5002 false [(1, p.val), (1, pendingCount k), (1, k.lec)] { s1 with mir := { s1.mir with canBad := true } }
  else
    let passive := decide (127 < k.tec) || decide (127 < k.rec_)
    if passive == (k.state == 1) then s
    else
      let s1 := onCan p (fun x => { x with state := if passive then 1 else 0 }) s
      let s2 := if passive then { s1 with mir := { s1.mir with canBad := true } } else s1
      logEv 0x5001 passive [(1, p.val), (1, bitNat passive), (1, k.tec), (1, k.rec_)] s2

/-- NOACK is set at the sixteenth acknowledgement error in a row and cleared at the first acknowledged transmission. -/
def setNoAck (p : Fin 4) (on : Bool) (s : State) : State :=
  if s.can[p].noAck == on then s
  else logEv 0x5004 on [(1, p.val), (1, bitNat on)] (onCan p (fun k => { k with noAck := on }) s)

/-- The buffer after a frame has been sent. -/
def sentBuf (b : TxBuf) : TxBuf :=
  match b.next with
  | some (f, t, c) => { b with st := .pending, frame := some f, task := t, cycle := c, next := none, abort := false }
  | none => { b with st := .empty, frame := none, abort := false }

/-- CAN_TX_COMPLETE: the frame is acknowledged; the buffer is empty or takes its newer frame; the partner gets a confirmation (R226). -/
def canTxComplete (p : Fin 4) (s : State) : State :=
  let k := s.can[p]
  match activeBuffer k with
  | none => s
  | some b =>
    let s1 := onCan p (fun x => { x with
      tx := upd x.tx b sentBuf, tec := x.tec - 1, ackErrs := 0, acc := { x.acc with tx := satSucc max32 x.acc.tx } }) s
    let s2 := judgeCan p (setNoAck p false s1)
    if holds s && partnerInRun s then
      saddle (.canConfirm p b k.tx[b].task k.tx[b].cycle)
        { s2 with mir := { s2.mir with acc := { s2.mir.acc with canConf := satSucc max32 s2.mir.acc.canConf } } }
    else s2

/-- CAN_TX_COMPLETE (R226, R368, R369, R375, R377, R382). -/
def execCanTxComplete (p : Fin 4) (s : State) : Host.Outcome State Fault Refusal := .next (canTxComplete p s)

/-- The buffer after a failed attempt, and whether its frame is retransmitted. -/
def failedBuf (b : TxBuf) : TxBuf × Bool :=
  match b.next with
  | some (f, t, c) => ({ b with st := .pending, frame := some f, task := t, cycle := c, next := none, abort := false }, false)
  | none => if b.abort then ({ b with st := .empty, frame := none, abort := false }, false) else ({ b with st := .pending }, true)

/-- The counters of a transmission error. By ISO 11898-1 (PRESUMED, log 42) neither an acknowledgement error of an error-passive transmitter that
sees no dominant bit (R375) nor a stuff error, which a transmitter meets during arbitration only, raises the transmit error counter. -/
def txErrorCounts (err : CanErr) (dataPhase quiet : Bool) (k : Can) : Can :=
  if err == .arbitration then k
  else
    let keep := (err == .ack && k.state == 1 && quiet) || err == .stuff
    { k with
      lec := lecCode err, lecData := dataPhase, tec := if keep then k.tec else k.tec + 8
      ackErrs := if err == .ack then k.ackErrs + 1 else 0, acc := { k.acc with err := satSucc max32 k.acc.err } }

/-- CAN_TX_ERROR: the frame returns to PENDING, unless it is replaced or aborted; the error state follows. -/
def canTxError (p : Fin 4) (err : CanErr) (dataPhase quiet : Bool) (s : State) : State :=
  let k := s.can[p]
  match activeBuffer k with
  | none => s
  | some b =>
    let fb := failedBuf k.tx[b]
    let gone := k.tx[b].abort && k.tx[b].next.isNone
    let s1 := onCan p (fun x =>
      let y := txErrorCounts err dataPhase quiet x
      { y with
        tx := upd y.tx b (fun _ => fb.1)
        acc := { y.acc with
          retry := if fb.2 then satSucc max32 y.acc.retry else y.acc.retry
          abort := if gone then satSucc max32 y.acc.abort else y.acc.abort } }) s
    if err == .arbitration then s1
    else
      let s2 := emit (.canErrorFlag p (k.state == 0)) s1
      judgeCan p (if 16 ≤ s2.can[p].ackErrs then setNoAck p true s2 else s2)

/-- CAN_TX_ERROR (R368, R369, R371, R375 to R377, R382). -/
def execCanTxError (p : Fin 4) (err : CanErr) (dataPhase passiveNoDominant : Bool) (s : State) : Host.Outcome State Fault Refusal :=
  .next (canTxError p err dataPhase passiveNoDominant s)

/-- CAN_RX_ERROR: a port in bus monitoring mode sends nothing and counts nothing in its error counters (R378). -/
def canRxError (p : Fin 4) (err : CanErr) (dataPhase dominant : Bool) (s : State) : State :=
  let k := s.can[p]
  if !canLive s p || k.state == 2 || k.integrating || err == .arbitration then s
  else
    let s1 := onCan p (fun x => { x with
      lec := lecCode err, lecData := dataPhase, acc := { x.acc with err := satSucc max32 x.acc.err }
      rec_ := if holds s then min 255 (x.rec_ + (if dominant then 8 else 1)) else x.rec_ }) s
    if holds s then judgeCan p (emit (.canErrorFlag p (k.state == 0)) s1) else s1

/-- CAN_RX_ERROR (R365, R375, R378, R382). -/
def execCanRxError (p : Fin 4) (err : CanErr) (dataPhase dominantAfterFlag : Bool) (s : State) : Host.Outcome State Fault Refusal :=
  .next (canRxError p err dataPhase dominantAfterFlag s)

/-- 128 occurrences of 11 recessive bits take at least this long, in ns (R376). -/
def recoveryTime (e : CanEntry) : Nat := 1408 * nominalBit e * 25 / 2

/-- CAN_BUSOFF_RECOVERY: both counters are 0 and the port is error-active, or monitors the bus without the lease. -/
def canBusoffRecovery (p : Fin 4) (s : State) : State :=
  let k := s.can[p]
  if k.state != 2 || s.tb.now < k.busOffAt + recoveryTime (canEntry s p) then s
  else
    logEv 0x5003 false [(1, p.val), (4, min max32 ((s.tb.now - k.busOffAt) / us))]
      (onCan p (fun x => { x with state := 0, tec := 0, rec_ := 0 }) s)

/-- CAN_BUSOFF_RECOVERY (R376, R381, R382). -/
def execCanBusoffRecovery (p : Fin 4) (s : State) : Host.Outcome State Fault Refusal := .next (canBusoffRecovery p s)

/-- CAN_INTEGRATION_COMPLETE (R365, R380). -/
def execCanIntegrationComplete (p : Fin 4) (s : State) : Host.Outcome State Fault Refusal :=
  .next (onCan p (fun k => { k with integrating := false }) s)

/-! ### Reception (R372 to R374, R379) -/

/-- A filter accepts a frame (R372). -/
def filterAccepts (f : CanFrame) (e : FilterEntry) : Bool :=
  e.enabled && ((f.ident ^^^ e.ident) &&& e.mask.extractLsb' 0 29) == 0 && (!e.mask.getLsbD 31 || f.extended == e.extended)

/-- The accepting filter: the lowest number. -/
def acceptingFilter (e : CanEntry) (f : CanFrame) : Option (Fin 32) := (List.finRange 32).find? (fun n => filterAccepts f e.filters[n])

/-- Put a frame into the FIFO of 64; the first discard since it was last not full is recorded (R373). Answers whether it was stored. -/
def pushFifo (p : Fin 4) (x : RxEntry) (s : State) : State × Bool :=
  let k := s.can[p]
  if k.fifo.length < 64 then (onCan p (fun y => { y with fifo := y.fifo ++ [x], overflow := false }) s, true)
  else
    let s1 := onCan p (fun y => { y with overflow := true, acc := { y.acc with ovf := satSucc max32 y.acc.ovf } }) s
    (if k.overflow then s1 else logEv 0x5005 true [(1, p.val), (1, x.filter.val)] s1, false)

/-- The receive error counter after a good frame; from above 127 it goes to a value of 119 to 127 that ISO 11898-1 leaves open. -/
def goodReception (p : Fin 4) (s : State) : State :=
  let k := s.can[p]
  if k.rec_ ≤ 127 then onCan p (fun x => { x with rec_ := x.rec_ - 1 }) s
  else
    let (v, s1) := freeValue 8 s
    judgeCan p (onCan p (fun x => { x with rec_ := 119 + v.toNat % 9 }) s1)

/-- The FIFO takes this module's own reception: in the holder, in a module without a partner and in one that is ISOLATED. -/
def ownReception (s : State) : Bool := holds s || s.lease.isolated || s.pair.partner == .none

/-- An accepted frame: stored where the FIFO has room, and notified (R379), or kept for the comparison with the holder's notices and for a gain of the lease. -/
def acceptFrame (p : Fin 4) (x : RxEntry) (s : State) : State :=
  let fire := fun (s : State) => triggerMatch 3 p.val x.filter.val x.stamp (BitVec.ofNat 32 (p.val * 256 + x.filter.val))
    (BitVec.ofNat 32 (x.frame.ident.toNat + 2 ^ 31 * bitNat x.frame.extended)) s
  if ownReception s then
    let y := pushFifo p x s
    let s1 := if holds s && partnerInRun s then saddle (.canRx p x) y.1 else y.1
    if y.2 then fire s1 else s1
  else fire (onCan p (fun k => { k with own := k.own ++ [x] }) s)

/-- CAN_FRAME_RECEIVE: a completed frame of another node. A port without the FD flag answers an FD frame with protocol exception handling:
it waits for 11 recessive bits (R365). -/
def canFrameReceive (p : Fin 4) (f : CanFrame) (stamp : Nat) (s : State) : State :=
  let e := canEntry s p
  let k := s.can[p]
  if !canLive s p || k.state == 2 || k.integrating then s
  else if f.fd && !e.fd then onCan p (fun x => { x with integrating := true }) s
  else
    let s1 := if holds s then goodReception p s else s
    match acceptingFilter e f with
    | none => onCan p (fun x => { x with acc := { x.acc with noMatch := satSucc max32 x.acc.noMatch } }) s1
    | some n => acceptFrame p ⟨f, n, stamp, s.tb.now⟩ (onCan p (fun x => { x with acc := { x.acc with rx := satSucc max32 x.acc.rx } }) s1)

/-- CAN_FRAME_RECEIVE (R17, R98, R144, R365, R366, R372, R373, R375, R379, R381, R382). -/
def execCanFrameReceive (p : Fin 4) (frame : CanFrame) (stamp : Nat) (s : State) : Host.Outcome State Fault Refusal :=
  .next (canFrameReceive p frame stamp s)

/-- The standby's own frames after a notice, and the differences: own frames before the noticed one, or the notice itself. -/
def matchNotice (f : CanFrame) (n : Fin 32) (own : List RxEntry) : List RxEntry × Nat :=
  match own.findIdx? (fun x => x.frame == f && x.filter == n) with
  | some i => (own.drop (i + 1), i)
  | none => (own, 1)

/-- CAN_RX_NOTICE_RECEIVE: the standby's FIFO is filled from the notices only, with the holder's instants. -/
def canRxNoticeReceive (p : Fin 4) (f : CanFrame) (n : Fin 32) (stamp completion : Nat) (s : State) : State :=
  if !inRun s || ownReception s then s
  else
    let m := matchNotice f n s.can[p].own
    let s1 := onCan p (fun k => { k with
      own := m.1, noticed := max k.noticed completion, acc := { k.acc with rxDiff := satAdd max32 k.acc.rxDiff m.2 } }) s
    (pushFifo p ⟨f, n, stamp, completion⟩ s1).1

/-! ### Authority in a pair (R226, R378, R380) -/

/-- CAN_TX_CONFIRM_RECEIVE: the standby removes the frame that the holder has sent. -/
def canTxConfirmReceive (p : Fin 4) (b : Fin 32) (t : Fin 128) (cycle : W32) (s : State) : State :=
  if holds s then s
  else
    let s1 := { s with mir := { s.mir with acc := { s.mir.acc with canConf := satSucc max32 s.mir.acc.canConf } } }
    let x := s.can[p].tx[b]
    if x.st == .pending && x.task == t && x.cycle == cycle
    then onCan p (fun k => { k with tx := upd k.tx b (fun y => { y with st := .empty, frame := none, abort := false }) }) s1 else s1

/-- At a gain of the lease the frames that this module accepted itself and that completed after the last notice follow in the FIFO; the port is error-active and waits for 11
recessive bits (R380). -/
def canTakeover (s : State) : State :=
  overAll (List.finRange 4) (fun p st =>
    if !(canEntry st p).enabled then st
    else
      let own := st.can[p].own.filter (fun x => st.can[p].noticed < x.completion)
      let s1 := onCan p (fun k => { k with
        own := [], integrating := true, state := if k.state = 2 then 2 else 0, tec := if k.state = 2 then k.tec else 0
        rec_ := if k.state = 2 then k.rec_ else 0 }) st
      overAll own (fun x t => (pushFifo p x t).1) s1) s

/-- Without the lease a port monitors its bus: its counters stay 0; a frame on the wire waits again; a recovery from bus-off goes on. -/
def canMonitor (s : State) : State :=
  { s with can := updAll s.can (fun _ k => { k with
      tx := updAll k.tx (fun _ b => if b.st == .active then (failedBuf b).1 else b)
      state := if k.state = 2 ∨ k.state = 3 then k.state else 0
      tec := if k.state = 2 then k.tec else 0, rec_ := if k.state = 2 then k.rec_ else 0, own := [] }) }

/-! ### Service calls (R86, R87, R369, R374) -/

/-- The task to which SEQ assigns a buffer. -/
def bufferTask (s : State) (p : Fin 4) (b : Fin 32) : Option (Fin 128) :=
  match s.img.run with
  | some i => (i.canTasks.find? (fun x => x.1 == p && x.2.1 == b)).map (fun x => x.2.2)
  | none => none

/-- Stage a call: the last one for a buffer in a cycle decides. -/
def stageCan (p : Fin 4) (b : Fin 32) (call : CanCall) (t : Fin 128) (s : State) : State :=
  let other := fun (c : CanCall) => match c with
    | .queue q d _ => !(q == p && d == b)
    | .abort q d => !(q == p && d == b)
  onCycle t (fun c => { c with can := c.can.filter other ++ [call] }) s

/-- A call that names a buffer: of the caller's task, or a precise fault of class 1. -/
def canService (k : Fin 8) (svc : Nat) (p : Fin 4) (b : Fin 32) (call : CanCall) (s : State) : State :=
  match caller s k svc with
  | none => s
  | some r => if bufferTask s p b == some r.task then serviceReturn k [0] (stageCan p b call r.task s) else forbidService k s

/-- SVC_CAN_QUEUE (R86, R87, R369, R381). -/
def execSvcCanQueue (core : Fin 8) (port : Fin 4) (buf : Fin 32) (frame : CanFrame) (s : State) : Host.Outcome State Fault Refusal :=
  .next (canService core 1 port buf (.queue port buf frame) s)

/-- SVC_CAN_ABORT (R86, R87, R369, R381). -/
def execSvcCanAbort (core : Fin 8) (port : Fin 4) (buf : Fin 32) (s : State) : Host.Outcome State Fault Refusal :=
  .next (canService core 2 port buf (.abort port buf) s)

/-- A received frame as SVC_CAN_READ returns it: a first word that says whether there is one, its filter, kind, length and identifier; its
stamps; then its data bytes, sixteen to a word (DESIGN CHOICE, log 70). -/
def frameWords (e : Option RxEntry) : List W128 :=
  match e with
  | none => [0]
  | some x =>
    [ BitVec.ofNat 128 (packLe [(1, 1), (1, x.filter.val), (1, bitNat x.frame.extended + 2 * bitNat x.frame.fd + 4 * bitNat x.frame.brs
        + 8 * bitNat x.frame.remote), (1, x.frame.data.length), (4, x.frame.ident.toNat)])
    , BitVec.ofNat 128 (packLe [(8, x.stamp), (8, x.completion)]) ]
    ++ (List.range ((x.frame.data.length + 15) / 16)).map (fun n => BitVec.ofNat 128 (leNat ((x.frame.data.drop (16 * n)).take 16)))

/-- A frame, or that there is none, goes back to the routine. -/
def returnFrame (k : Fin 8) (e : Option RxEntry) (s : State) : State := serviceReturn k (frameWords e) (emit (.frameReturn k e) s)

/-- SVC_CAN_READ: the oldest frame whose completion instant lies at least 20 µs before the release timestamp of the caller's cycle. -/
def svcCanRead (k : Fin 8) (p : Fin 4) (s : State) : State :=
  match (caller s k 3).bind (fun r => s.tsk.rt[r.task].cur) with
  | none => s
  | some c =>
    match s.can[p].fifo with
    | x :: rest =>
      if x.completion + 20 * us ≤ c.record.relts then returnFrame k (some x) (onCan p (fun y => { y with fifo := rest }) s)
      else returnFrame k none s
    | [] => returnFrame k none s

/-- SVC_CAN_READ (R86, R374). -/
def execSvcCanRead (core : Fin 8) (port : Fin 4) (s : State) : Host.Outcome State Fault Refusal := .next (svcCanRead core port s)

end Sys2Proof.Machine
end

