-- ==== Sys2Proof/Machine/Carry.lean ====
section
/-!
DEFINITION. The carry-over of variables from one image to another (06 R152 to R154): types, conversions, plans and their writes.
-/

namespace Sys2Proof.Machine

/-! ### Types (02 VARS) -/

/-- What a type code stands for: a Boolean, an integer of a width, a real, a string, a composite (TIME counts as INT64, R154). -/
inductive VarKind where
  | bool
  | int (w : Nat) (signed : Bool)
  | real (dbl : Bool)
  | string
  | composite
  deriving DecidableEq, Repr

def varKind (typ : Nat) : VarKind :=
  if typ = 0x01 then .bool
  else if typ = 0x02 then .int 8 true
  else if typ = 0x03 then .int 16 true
  else if typ = 0x04 then .int 32 true
  else if typ = 0x05 then .int 64 true
  else if typ = 0x06 then .int 8 false
  else if typ = 0x07 then .int 16 false
  else if typ = 0x08 then .int 32 false
  else if typ = 0x09 then .int 64 false
  else if typ = 0x0A then .real false
  else if typ = 0x0B then .real true
  else if typ = 0x0C then .int 64 true
  else if typ = 0x0D then .string
  else .composite

/-- A conversion code is listed for two types (R154). -/
def convListed (code : Nat) (src dst : VarKind) : Bool :=
  match src, dst with
  | .int _ _, .int _ _ => code == 1
  | .int _ _, .real _ => code == 1
  | .real _, .real _ => code == 1
  | .bool, .int _ _ => code == 1
  | .bool, .real _ => code == 1
  | .int _ _, .bool => code == 1
  | .real _, .bool => code == 1
  | .real _, .int _ _ => code == 2
  | .string, .string => code == 3
  | _, _ => false

/-- The reverse of a conversion (R152): codes 1 and 2 reverse to 1, code 3 to 3. -/
def reverseCode (code : Nat) : Nat := if code = 1 ∨ code = 2 then 1 else if code = 3 then 3 else 0

/-- The format of a real variable. A conversion gives the nearest value, subnormals among them (R154). -/
def fmtOf (dbl : Bool) : Fmt := if dbl then b64 else { b32 with flushes := false }

/-- The largest finite value of a format with a sign. -/
def maxFinite (f : Fmt) (neg : Bool) : Nat := f.inf neg - 1

/-- A real in another format: rounded; a magnitude beyond the range becomes the largest finite value (R154). ±∞ stays (log 41). -/
def convReal (src dst : Fmt) (x : Nat) : Nat :=
  match (src.decode x).1 with
  | .inf n => dst.inf n
  | .nan _ => dst.qnan
  | .num n _ _ =>
    let r := (convFp src dst x).1
    if r == dst.inf n then maxFinite dst n else r

/-- Convert the value of a variable (R154). -/
def convertValue (code : Nat) (src dst : VarEntry) (bs : List Byte) : List Byte :=
  if code = 3 then (bs ++ List.replicate dst.size 0).take dst.size
  else
    let x := leNat bs
    let v : Nat :=
      match varKind src.typ, varKind dst.typ with
      | .int w sg, .int w2 sg2 => satInt w2 sg2 (toInt w sg x)
      | .int w sg, .real d => (fpOfInt (fmtOf d) (toInt w sg x)).1
      | .real d, .real d2 => convReal (fmtOf d) (fmtOf d2) x
      | .bool, .real d => (fpOfInt (fmtOf d) (if x = 0 then 0 else 1)).1
      | .bool, .int _ _ => if x = 0 then 0 else 1
      | .int _ _, .bool => if x = 0 then 0 else 1
      | .real d, .bool => if x % 2 ^ ((fmtOf d).width - 1) = 0 then 0 else 1
      | .real d, .int w sg => (intOfFp (fmtOf d) w sg x).1
      | _, _ => x
    leBytes dst.size v

/-! ### Plans (R152, R153) -/

/-- The granules of variable space that a variable lies in, by CMAP index. -/
def varGranules (v : VarEntry) : List Nat :=
  (List.range ((v.offset + v.size - 1) / 64 + 1 - v.offset / 64)).map (fun k => 32768 + v.offset / 64 + k)

/-- The initial bytes of a variable. -/
def initBytes (v : VarEntry) : List Byte := if v.hasInit then v.init else List.replicate v.size 0

/-- A variable that both images hold is unchanged. -/
def sameVar (o v : VarEntry) : Bool :=
  o.typ == v.typ && o.size == v.size && (varKind v.typ != .composite || o.layoutHash == v.layoutHash)

/-- The conversion that applies to a changed variable: the target's declaration, or the reverse of the source's. -/
def convFor (o v : VarEntry) : Option Nat :=
  if v.declares then
    (if v.prevType = o.typ ∧ convListed v.conv (varKind o.typ) (varKind v.typ) then some v.conv else none)
  else if o.declares then
    (if o.prevType = v.typ ∧ convListed (reverseCode o.conv) (varKind o.typ) (varKind v.typ) then some (reverseCode o.conv) else none)
  else none

/-- A granule holds a variable of an image. -/
def holdsVar (vars : List VarEntry) (g : Nat) : Bool :=
  vars.any (fun v => decide (32768 + v.offset / 64 ≤ g) && decide (g ≤ 32768 + (v.offset + v.size - 1) / 64))

/-- An initialised variable can be written during arming: its granules hold no variable of the running image, and no role can write
their colours (R153). -/
def preInitOk (running : Image) (v : VarEntry) : Bool :=
  (varGranules v).all (fun g =>
    !holdsVar running.vars g && !(running.roles.any (fun r => grants r.writeMask (colourIn running.colours g))))

/-- The action for one variable of the target image. -/
def planOne (running src : Image) (v : VarEntry) : VarEntry × Option VarEntry × CarryAct :=
  let o := src.vars.find? (fun x => x.ident == v.ident)
  let init := fun (changed : Bool) =>
    (v, o, if preInitOk running v && !changed then CarryAct.preInit else CarryAct.init changed)
  if v.isSealed then init false
  else
    match o with
    | none => init false
    | some x =>
      if sameVar x v then (v, o, if x.offset = v.offset then .keep else .copy)
      else
        match convFor x v with
        | some code => (v, o, .convert code x.typ v.typ)
        | none => (v, o, if preInitOk running v then .preInit else .init true)

/-- The plan for a switch from `src` to `dst` while `running` runs. -/
def planOf (running src dst : Image) : Plan :=
  ⟨dst.vars.map (planOne running src), src.vars.filter (fun o => !(dst.vars.any (fun v => v.ident == o.ident)))⟩

/-- The action writes in the window. -/
def writesInWindow : CarryAct → Bool
  | .keep => false
  | .preInit => false
  | .copy => true
  | .convert _ _ _ => true
  | .init _ => true

/-- The granules that a plan writes in the window; G_cv is their number. -/
def windowGranules (p : Plan) : List Nat :=
  ((p.acts.filter (fun a => writesInWindow a.2.2)).flatMap (fun a => varGranules a.1)).dedup
def gcv (p : Plan) : Nat := (windowGranules p).length

/-- The duration of the window in ns: 25 µs + 12.5 ns × G_cv. -/
def windowTime (p : Plan) : Nat := 25 * us + 25 * gcv p / 2

/-- The granules that pre-initialisation writes. -/
def preInitGranules (p : Plan) : List Nat :=
  ((p.acts.filter (fun a => a.2.2 == .preInit)).flatMap (fun a => varGranules a.1)).dedup

/-- The writes of pre-initialisation (R153). -/
def preInitialise (p : Plan) (m : List Host.Cell) : List Host.Cell :=
  (p.acts.filter (fun a => a.2.2 == .preInit)).foldl (fun acc a => Memory.writeBytes acc (varBase + a.1.offset) (initBytes a.1)) m

/-- The bytes that an action writes, from the memory before the window. -/
def carryBytes (m : List Host.Cell) (a : VarEntry × Option VarEntry × CarryAct) : Option (Nat × List Byte) :=
  match a with
  | (v, some o, .copy) => some (varBase + v.offset, Memory.readBytes m (varBase + o.offset) v.size)
  | (v, some o, .convert code _ _) => some (varBase + v.offset, convertValue code o v (Memory.readBytes m (varBase + o.offset) o.size))
  | (v, _, .init _) => some (varBase + v.offset, initBytes v)
  | _ => none

/-- The carry-over writes of a plan, but for variables whose force was kept (R157 step 4). Every value is read before any is written. -/
def carryOver (p : Plan) (forced : List W64) (m : List Host.Cell) : List Host.Cell :=
  ((p.acts.filter (fun a => !forced.contains a.1.ident)).filterMap (carryBytes m)).foldl
    (fun acc w => Memory.writeBytes acc w.1 w.2) m

/-! ### Forces in a window (R172) -/

/-- A point may be forced: an input point is bound to a channel or a station, an output point lies in a task's output set (R167). -/
def pointForceable (i : Image) (isInput : Bool) (p : Nat) : Bool :=
  if isInput then
    (List.finRange 192).any (fun c => i.channels[c].inPoint == some p) || i.stations.any (fun e => e.inFirst ≤ p && p < e.inFirst + e.inCount)
  else i.tasks.any (fun t => inRanges t.outputs p)

/-- A variable's type may be forced: BOOL, an integer type, a real or TIME (R167). -/
def typeForceable (typ : Nat) : Bool :=
  match varKind typ with
  | .string => false
  | .composite => false
  | _ => true

/-- The new image contains the target of a force with the same kind and type (R172). -/
def forceKept (old new : Image) (f : Force) : Bool :=
  if f.kind = 2 then
    (match old.vars.find? (fun v => v.ident == f.target), new.vars.find? (fun v => v.ident == f.target) with
     | some o, some v => o.typ == v.typ
     | _, _ => false)
  else
    let p := f.target.toNat
    pointForceable new (f.kind == 0) p && Config.pointType old.plain (f.kind == 0) p == Config.pointType new.plain (f.kind == 0) p

/-- The bytes of a forced variable's home (R167). -/
def forceBytes (v : VarEntry) (value : W64) : List Byte := leBytes (min 8 v.size) value.toNat

/-- Write the homes of the forced variables of an image (R168). -/
def writeForced (i : Image) (table : List (Fin 4096 × Force)) (m : List Host.Cell) : List Host.Cell :=
  (table.filter (fun x => x.2.kind == 2)).foldl (fun acc x =>
    match i.vars.find? (fun v => v.ident == x.2.target) with
    | some v => Memory.writeBytes acc (varBase + v.offset) (forceBytes v x.2.value)
    | none => acc) m

end Sys2Proof.Machine
end

