-- ==== Sys2Proof/Machine/Tasks.lean ====
section
/-!
DEFINITION. Tasks (04) and the application of mirror messages (08 R222, R223): the meanings of their commands.
-/

namespace Sys2Proof.Machine

/-! ### Releases -/

/-- TASK_RELEASE: at the nominal instant of an enabled cyclic task in RUN; an uncorrectable word stops the module first (R21). -/
def taskRelease (t : Fin 128) (chk : MemCheck) (s : State) : State :=
  match taskEntry s t with
  | none => s
  | some e =>
    if !inRun s || !e.enable || e.event || s.tb.now < s.tsk.rt[t].next then s
    else if MemCheckOk chk then cyclicRelease e (memCheck chk s) else memCheck chk s

/-- TASK_RELEASE (R93 to R96, R102, R103, R108 to R112). -/
def execTaskRelease (t : Fin 64) (chk : MemCheck) (s : State) : Host.Outcome State Fault Refusal :=
  .next (taskRelease ⟨t.val, by omega⟩ chk s)

/-- EVENT_RELEASE: the trigger registered first is given to every event task it is for. Triggers wait while releases are held. -/
def eventRelease (chk : MemCheck) (s : State) : State :=
  match s.tsk.trigQ with
  | [] => s
  | g :: rest =>
    if !inRun s || eventsHeld s then s
    else
      let s1 := memCheck chk { s with tsk := { s.tsk with trigQ := rest } }
      if MemCheckOk chk then handleTrigger g s1 else s1

/-- EVENT_RELEASE (R93, R97 to R100, R113, R160). -/
def execEventRelease (chk : MemCheck) (s : State) : Host.Outcome State Fault Refusal := .next (eventRelease chk s)

/-- The record of a release made without the holder's notice (R112). -/
def lateRecord (r : RelRec) : RelRec := { r with flags := r.flags ||| 0x10 }

/-- What the release of a cycle awaits has not come within 10 µs of the release timestamp (R112, R220). -/
def noticeLate (c : Cycle) (s : State) : Bool := decide (c.record.relts + 10 * us < s.tb.now)

/-- NOTICE_TIMEOUT: 10 µs after its own release timestamp the standby goes on without the notice. -/
def noticeTimeout (t : Fin 128) (s : State) : State :=
  match s.tsk.rt[t].cur with
  | none => s
  | some c =>
    if !c.awaiting || s.tb.now < c.record.relts + 10 * us then s
    else
      let s1 := onTaskStats t (fun a => { a with nlate := satSucc max32 a.nlate })
        (onCycle t (fun x => { x with record := lateRecord x.record, awaiting := false }) (boundary s.tb.now s))
      deliver t { s1 with tsk := { s1.tsk with stat := { s1.tsk.stat with noticeMax := max s1.tsk.stat.noticeMax 10000 } } }

/-- RELEASE_NOTICE_RECEIVE: for a cyclic release that awaits it, the notice completes the snapshot; one that is ahead of this module's
release waits; one that is late is discarded. A notified event task is released, or its notice waits; the power-fail task is
each module's own (R111 to R114). -/
def releaseNoticeReceive (n : Notice) (s : State) : State :=
  match taskEntry s n.task with
  | none => s
  | some e =>
    let r := s.tsk.rt[n.task]
    let keep := fun (s : State) => onTask n.task (fun x => { x with notices := x.notices ++ [n] }) s
    if !inRun s || decides s then s
    else if e.event && e.trigger == 7 then s
    else if e.event then
      let s1 := if n.record.trigger == 4 then saddle (.confirm (noticeId n.record.trigts n.task)) s else s
      if r.notices.isEmpty && notifiedReady e n s1 then releaseNotified e n s1 else keep s1
    else
      match r.cur with
      | some c =>
        if c.record.cycle == n.record.cycle then
          (if !c.awaiting then s else if noticeLate c s then noticeTimeout n.task s else applyNotice n s)
        else if (n.record.cycle - c.record.cycle).toNat < 2 ^ 31 then keep s else s
      | none => if r.doneCycle == some n.record.cycle then s else keep s

/-- NOTICE_TIMEOUT (R112). -/
def execNoticeTimeout (t : Fin 64) (s : State) : Host.Outcome State Fault Refusal := .next (noticeTimeout ⟨t.val, by omega⟩ s)

/-- PARTNER_READINGS_RECEIVE: taken if the holder's release waits for them and they come within 10 µs of its release timestamp; kept if its
release is still to come (R220). -/
def partnerReadingsReceive (t : Fin 128) (cycle : W32) (rs : List (BitVec 16 × W128)) (s : State) : State :=
  if !holds s then s
  else
    let early := fun (s : State) => onTask t (fun r => { r with early := some (cycle, rs) }) s
    match s.tsk.rt[t].cur with
    | some c =>
      if c.record.cycle == cycle then
        (if !c.partnerDue then s else if noticeLate c s then deliver t s else applyPartnerReadings t rs s)
      else early s
    | none => early s

/-- PARTNER_READINGS_TIMEOUT: after 10 µs the points stay BAD (R220). -/
def partnerReadingsTimeout (t : Fin 128) (s : State) : State :=
  match s.tsk.rt[t].cur with
  | none => s
  | some c => if c.partnerDue && decide (c.record.relts + 10 * us ≤ s.tb.now) then deliver t s else s

/-- PARTNER_READINGS_TIMEOUT (R220). -/
def execPartnerReadingsTimeout (t : Fin 128) (s : State) : Host.Outcome State Fault Refusal := .next (partnerReadingsTimeout t s)

/-! ### Completion -/

/-- The granules that a cycle's commit wrote. -/
def writtenGranules (c : Cycle) : List Nat :=
  ((c.writes.filterMap (fun w => granuleOf w.1)) ++ (c.outputs.filterMap (fun o => granuleOf (outputAddr o.1)))).dedup

/-- A granule lies in a MIRR range of the running image. -/
def isMirrored (s : State) (g : Nat) : Bool :=
  match s.img.run with
  | some i => i.mirr.any (fun r => r.first ≤ g && g < r.first + r.count)
  | none => false

/-- The content of granules for a mirror message. -/
def mirrorContent (s : State) (gs : List Nat) : List (Nat × Granule) :=
  gs.map (fun g => (g, Memory.granule s.mem.cells (granuleAddr g)))

/-- Send or queue a mirror message (R222). A message leaves at once over a link that is up; while none is, it waits and merges with a
later one of its task. -/
def sendMirror (task : Option (Fin 128)) (cycle : W32) (gs : List Nat) (unchecked : Bool) (s : State) : State :=
  let n := gs.length
  let count := fun (s : State) => { s with mir := { s.mir with acc := { s.mir.acc with mGran := satAdd max32 s.mir.acc.mGran n } } }
  if !holds s || !(partnerInRun s || (partnerPresent s && s.pair.partnerState == 4)) then s
  else if saddleUp s then saddleData unchecked (fun part => .mirror ⟨task, cycle, part⟩) (mirrorContent s gs) (count s)
  else
    match s.mir.queue.find? (fun m => task.isSome && m.task == task) with
    | some old =>
      let merged : MirrorWait := ⟨task, cycle, (old.granules ++ gs).dedup, old.unchecked || unchecked⟩
      { s with mir := { s.mir with
        queue := s.mir.queue.filter (fun m => m.task != task) ++ [merged]
        acc := { s.mir.acc with mCoal := satSucc max32 s.mir.acc.mCoal } } }
    | none => { s with mir := { s.mir with queue := s.mir.queue ++ [⟨task, cycle, gs, unchecked⟩] } }

/-- Apply the granules of a mirror message in one step; working copies follow at the next releases (R64, R223). -/
def applyGranules (gs : List (Nat × Granule)) (s : State) : State :=
  reloadOwners (gs.map (fun g => g.1))
    (withMem s (gs.foldl (fun m g => Memory.writeBytes m (granuleAddr g.1) (leBytes 64 g.2.toNat)) s.mem.cells))

/-- A mirror message must wait for this module's own commit of that cycle, and for one of the task that goes on (R223). -/
def mirrorWaits (m : MirrorMsg) (s : State) : Bool :=
  match m.task with
  | none => false
  | some t =>
    match s.tsk.rt[t].cur with
    | some c => decide ((m.cycle - c.record.cycle).toNat < 2 ^ 31) || !c.writes.isEmpty || !c.outputs.isEmpty
    | none =>
      match s.tsk.rt[t].doneCycle with
      | some d => decide (m.cycle != d) && decide ((m.cycle - d).toNat < 2 ^ 31)
      | none => false

/-- Apply a mirror message now; late when the standby has released the next cycle of the task. A message of host writes is
confirmed (R224). -/
def applyMirror (m : MirrorMsg) (s : State) : State :=
  let done := match m.task with | some t => s.tsk.rt[t].lastRel + s.tsk.rt[t].lastExec | none => s.tb.now
  let s0 := { s with mir := { s.mir with acc := { s.mir.acc with
    mGran := satAdd max32 s.mir.acc.mGran m.granules.length, mMax := max s.mir.acc.mMax (min max32 (s.tb.now - done)) } } }
  let s1 := applyGranules m.granules s0
  match m.task with
  | none => saddle (.confirm m.cycle.toNat) s1
  | some t =>
    if s.tsk.rt[t].cur.isSome || s.tsk.rt[t].doneCycle.any (fun d => d != m.cycle)
    then { s1 with mir := { s1.mir with acc := { s1.mir.acc with mLate := satSucc max32 s1.mir.acc.mLate } } }
    else s1

/-- MIRROR_APPLY: in a module without the lease; before its own commit of the cycle the message waits (R223). In a module that joins, what
arrives during the full copy is applied after it (19 R468). -/
def mirrorApply (m : MirrorMsg) (s : State) : State :=
  if s.mod.st == .join && s.mod.joinBegan.isSome then
    (if s.mod.joinAt.isSome then applyMirror m s else { s with mir := { s.mir with inbox := s.mir.inbox ++ [m] } })
  else if holds s || !inRun s then s
  else if mirrorWaits m s then { s with mir := { s.mir with inbox := s.mir.inbox ++ [m] } }
  else applyMirror m s

/-- The messages that waited for a task's commit are applied. -/
def takeInbox (t : Fin 128) (s : State) : State :=
  let ready := s.mir.inbox.filter (fun m => m.task == some t && !mirrorWaits m s)
  overAll ready applyMirror
    { s with mir := { s.mir with inbox := s.mir.inbox.filter (fun m => !(m.task == some t && !mirrorWaits m s)) } }

/-- The local output values of a cycle wait for the next ford frame (R28 step 5, R278). -/
def fordValues (c : Cycle) (unchecked : Bool) (s : State) : State :=
  match s.img.run with
  | none => s
  | some i =>
    overAll (List.finRange 192) (fun ch st =>
      match i.channels[ch].outPoint with
      | some p =>
        if c.outputs.any (fun o => o.1 == p) then
          let r := Memory.word st.mem.cells (outputAddr p)
          onChan ch (fun k => { k with outVal := recValue r, outQual := recQuality r, outNew := true, outUnc := unchecked }) st
        else st
      | none => st) s

/-- A transmit buffer takes a committed frame (14 R369): pending, or replaces, or follows the attempt in progress. Answers whether a
frame was replaced. -/
def commitFrame (f : CanFrame) (t : Fin 128) (cycle : W32) (b : TxBuf) : TxBuf × Bool :=
  match b.st with
  | .empty => ({ b with st := .pending, frame := some f, task := t, cycle := cycle, next := none, abort := false }, false)
  | .pending => ({ b with frame := some f, task := t, cycle := cycle, abort := false }, true)
  | .active => ({ b with next := some (f, t, cycle), abort := false }, b.next.isSome)

/-- An abort call committed (14 R369). Answers whether a frame was removed. -/
def commitAbort (b : TxBuf) : TxBuf × Bool :=
  match b.st with
  | .empty => (b, false)
  | .pending => ({ b with st := .empty, frame := none, next := none }, true)
  | .active => ({ b with abort := true, next := none }, b.next.isSome)

/-- Commit one staged CAN call (14 R369, R381). -/
def commitCan (t : Fin 128) (cycle : W32) (call : CanCall) (s : State) : State :=
  match call with
  | .queue p buf f =>
    if !(canEntry s p).enabled then onCan p (fun k => { k with acc := { k.acc with abort := satSucc max32 k.acc.abort } }) s
    else onCan p (fun k =>
      let (b, repl) := commitFrame f t cycle k.tx[buf]
      { k with tx := upd k.tx buf (fun _ => b), acc := { k.acc with repl := if repl then satSucc max32 k.acc.repl else k.acc.repl } }) s
  | .abort p buf => onCan p (fun k =>
      let (b, gone) := commitAbort k.tx[buf]
      { k with tx := upd k.tx buf (fun _ => b), acc := { k.acc with abort := if gone then satSucc max32 k.acc.abort else k.acc.abort } }) s

/-- What a completed cycle sends (R28 step 5, R29, R114): a power-fail task of a standby sends no Vale and no CAN frame. -/
def sendOutputs (t : TaskEntry) (c : Cycle) (unchecked : Bool) (s : State) : State :=
  let s1 := fordValues c unchecked s
  if t.trigger = 7 && !holds s then s1
  else
    overAll c.can (fun call st => commitCan t.num c.record.cycle call st)
      (outputFrames t c.record.cycle c.record.trigts unchecked s1)

/-- The statistics of a completion (R106, R107, R109, R122, R125). In a standby the completion time counts from the RELTS of the delivered
record, the holder's. DESIGN CHOICE, log 72. -/
def countCompletion (t : TaskEntry) (c : Cycle) (flags : BitVec 7) (s : State) : State :=
  let done := s.tb.now - c.record.relts
  let since := s.tb.now - c.base
  let deadline := t.deadline * 10000
  let miss := decide (deadline < since)
  let m := marginPm deadline since
  let s1 := onTaskStats t.num (fun a => { a with
    done := satSucc max32 a.done, min := min a.min (min done max32), max := max a.max (min done max32), sum := a.sum + done
    flags := a.flags ||| flags, miss := if miss then satSucc max32 a.miss else a.miss }) s
  let st := s1.tsk.stat
  let low := decide (m < st.margin) || st.marginTask == 0xFF
  let s2 := { s1 with tsk := { s1.tsk with stat := { st with
    missTot := if miss then satSucc max32 st.missTot else st.missTot
    margin := if low then max (-32768) m else st.margin
    marginTask := if low then t.num.val else st.marginTask } } }
  let s3 := if t.event then onTask t.num (fun r => { r with
      consec := if miss then satSucc 255 r.consec else 0, overrunFired := if miss then r.overrunFired else false }) s2 else s2
  reportMargin t.num m (if t.event && miss then overrun t s.tb.now s3 else s3)

/-- After a completion an event task is released again for its pending trigger or the next queued reason (R99, R100); in a module that no
longer decides releases what waited is dropped (R113). -/
def releaseAgain (t : TaskEntry) (s : State) : State :=
  let r := s.tsk.rt[t.num]
  if !decides s && t.trigger != 7 then onTask t.num (fun x => { x with queue := [], pending := none }) s
  else match r.queue, r.pending with
  | g :: rest, _ => releaseEvent t g (onTask t.num (fun x => { x with queue := rest }) s)
  | [], some g => releaseEvent t g (onTask t.num (fun x => { x with pending := none }) s)
  | [], none => s

/-- The completion of a cycle (R28 steps 4 to 6). The first one after a switch window mirrors what the window wrote for the task (R163). -/
def completeCycle (t : TaskEntry) (c : Cycle) (s0 : State) : State :=
  let s := boundary s0.tb.now s0
  let unchecked := c.unchecked || s.lsk.unchecked
  let flags := c.flags
  let owed := s.tsk.rt[t.num].dirty
  let s2 := countCompletion t c flags (onTask t.num (fun r => { r with
    st := .waiting, cur := none, dirty := [], doneCycle := some c.record.cycle, doneTrig := c.record.trigts, doneUnchecked := unchecked
    lastExec := min max32 (s.tb.now - c.record.relts), lastFlags := flags }) s)
  let s3 := sendOutputs t c unchecked s2
  let s4 := sendMirror (some t.num) c.record.cycle ((writtenGranules c ++ owed).dedup.filter (isMirrored s)) unchecked s3
  let s5 := takeInbox t.num s4
  let s6 := triggerMatch 9 t.num.val 0 s.tb.now (BitVec.ofNat 32 t.num.val) c.record.cycle s5
  takeAllNotices (releaseAgain t (serveHeldReads s6))

/-- The cycle has passed its phases (R63): its snapshot is complete, and in every lane that runs each slot and routine has run and every
word has left; the col has accepted the digest. -/
def phasesEnded (s : State) (t : Fin 128) : Bool :=
  match s.tsk.rt[t].cur with
  | some c => cycleRuns s t && decide (0 < c.digests) && allCommitted s t && (runningLanes s).all (fun l => executed s t (laneOf s l))
  | none => false

/-- TASK_COMPLETION: when the cycle's phases have ended. -/
def taskCompletion (t : Fin 128) (s : State) : State :=
  match s.tsk.rt[t].cur, taskEntry s t with
  | some c, some e => if inRun s && phasesEnded s t then completeCycle e c s else s
  | _, _ => s

/-- TASK_COMPLETION (R19, R28, R29, R63, R67, R76, R99 to R101, R104, R106 to R109, R118, R222, R249, R369). -/
def execTaskCompletion (t : Fin 128) (chk : MemCheck) (s : State) : Host.Outcome State Fault Refusal :=
  .next (if MemCheckOk chk then taskCompletion t (memCheck chk s) else memCheck chk s)

/-! ### Statistics -/

/-- STATISTICS_BOUNDARY (R76, R107, R119 to R122, R125, R231). -/
def execStatisticsBoundary (s : State) : Host.Outcome State Fault Refusal := .next (boundary s.tb.now s)

/-- HEALTH_REPORT_RECEIVE (R231, R488). -/
def healthReportReceive (report : W32) (s : State) : State :=
  let s1 := recordHealth true s.mir.pHealth report s
  { s1 with mir := { s1.mir with pHealth := report, pReported := true } }

/-! ### Host events (R117) -/

/-- The event tasks that a host event releases. -/
def hostEventTasks (s : State) (n : Nat) : List TaskEntry := (enabledTasks s).filter (fun t => triggerFits t 4 n 0)

/-- TSK_HEVT at the module that decides it: the trigger is registered; the result is owed once the standby has confirmed every notice. -/
def hostEvent (value : W32) (q : Req) (s : State) : State :=
  let n := value.toNat % 256
  let ts := hostEventTasks s n
  if !inRun s then answer q.asker .hevt 4 s
  else if !holds s then answer q.asker .hevt 5 s
  else
    let s1 := triggerMatch 4 n 0 s.tb.now (BitVec.ofNat 32 n) q.sel.hevtVal s
    if ts.isEmpty then answer q.asker .hevt 2 s1
    else oweAll (ts.map (fun t => noticeId s.tb.now t.num)) [.result q.asker .hevt (BitVec.ofNat 32 (16 * ts.length + 1))] s1

/-- TSK_HEVT (R98, R117, R124). -/
def execTskHevt (se : Fin 64) (value : W32) (s : State) : Host.Outcome State Fault Refusal :=
  .next (sessionCmd regHevt value se (hostEvent value) s)

end Sys2Proof.Machine
end

