-- ==== Sys2Proof/Machine/Force.lean ====
section
/-!
DEFINITION. Forcing (06 R167 to R171, R173 to R175): the commands of the FRC block, the forwarding of a change and its activation.
-/

namespace Sys2Proof.Machine

/-- The table as it will stand once every change that waits is active. -/
def forcesToCome (f : Frc) : List (Fin 4096 × Force) := f.waiting.foldl (fun tb c => forceOpTable c.op tb) f.table

/-- The granule of a force's target (R170). -/
def forceGranule (s : State) (f : Force) : Option Nat :=
  if f.kind = 0 then granuleOf (inputAddr f.target.toNat)
  else if f.kind = 1 then granuleOf (outputAddr f.target.toNat)
  else (s.img.run.bind (fun i => i.vars.find? (fun v => v.ident == f.target))).bind (fun v => granuleOf (varBase + v.offset))

/-- The write mask includes the colour of a force's target. -/
def mayForce (s : State) (mask : BitVec 16) (f : Force) : Bool :=
  match forceGranule s f with
  | some g => grants mask (colourOf s g)
  | none => true

/-- Why a target is not forceable: 6 for any reason but its type, 4 for the type (R167, R175). -/
def forceRefused (s : State) (f : Force) : Option Nat :=
  match s.img.run with
  | none => some 6
  | some i =>
    if f.kind = 3 then some 6
    else if f.kind = 2 then
      (match i.vars.find? (fun v => v.ident == f.target) with
       | none => some 6
       | some v => if v.isSealed then some 6 else if typeForceable v.typ then none else some 4)
    else if pointForceable i (f.kind == 0) f.target.toNat then none else some 6

/-- FRC_CMDRES (R175). -/
def frcRes (entry res : Nat) : W32 := BitVec.ofNat 32 (entry % 4096 * 65536 + res)

/-! ### Activation (R168, R169, R173) -/

/-- Write the home of a forced variable and have its working copy reloaded (R168). -/
def writeForcedVar (f : Force) (s : State) : State :=
  match s.img.run.bind (fun i => i.vars.find? (fun v => v.ident == f.target)) with
  | some v =>
    let a := varBase + v.offset
    reloadOwners (granuleOf a).toList (withMem s (Memory.writeBytes s.mem.cells a (forceBytes v f.value)))
  | none => s

/-- The data of records 0x8300 to 0x8302. -/
def forceFields (n : Fin 4096) (f : Force) : List (Nat × Nat) := [(1, f.kind.val), (2, n.val), (8, f.target.toNat)]

/-- One change takes effect: the table, the record, the count, and the home of a variable. -/
def applyForceOp (op : ForceOp) (at_ : Nat) (s : State) : State :=
  let old := s.frc.table
  let recent := s.frc.before.filter (fun x => decide (s.tb.now ≤ x.1 + ms))
  let s1 := { s with frc := { s.frc with table := forceOpTable op old, before := (at_, old) :: recent } }
  match op with
  | .set n _ _ _ =>
    (match s1.frc.table.find? (fun x => x.1 == n) with
     | some (_, f) =>
       let s2 := { s1 with frc := { s1.frc with acc := { s1.frc.acc with set := satSucc max32 s1.frc.acc.set } } }
       let s3 := logEv 0x8300 false (forceFields n f) s2
       if f.kind = 2 then writeForcedVar f s3 else s3
     | none => s1)
  | .clear n =>
    (match old.find? (fun x => x.1 == n) with
     | some (_, f) => logEv 0x8301 false (forceFields n f)
         { s1 with frc := { s1.frc with acc := { s1.frc.acc with clr := satSucc max32 s1.frc.acc.clr } } }
     | none => s1)
  | .clearAll => logEv 0x8303 false [(2, old.length)]
      { s1 with frc := { s1.frc with acc := { s1.frc.acc with clr := satAdd max32 s1.frc.acc.clr old.length } } }

/-- FORCE_ACTIVATION: every change whose instant has come takes effect, in the order of acceptance. -/
def forceActivation (s : State) : State :=
  let due := s.frc.waiting.filter (fun c => c.at_ ≤ s.tb.now)
  overAll due (fun c t => applyForceOp c.op c.at_ t)
    { s with frc := { s.frc with waiting := s.frc.waiting.filter (fun c => !(decide (c.at_ ≤ s.tb.now))) } }

/-- FORCE_ACTIVATION (R64, R168, R169, R173). -/
def execForceActivation (s : State) : Host.Outcome State Fault Refusal := .next (forceActivation s)

/-- FORCE_CHANGE_RECEIVE: the standby confirms it; before A it waits, after A it takes effect on arrival (R169). One that is still to
receive the holder's table notes it (R171). -/
def forceChangeReceive (id : Nat) (op : ForceOp) (at_ : Nat) (s : State) : State :=
  if holds s then s
  else
    let s0 := saddle (.confirm id) s
    let catching := (s.mod.st == .join && s.mod.joinBegan.isSome) || s.lease.resync.isSome
    let s1 := if catching then { s0 with frc := { s0.frc with log := s0.frc.log ++ [⟨op, at_⟩] } } else s0
    if s.tb.now < at_ then { s1 with frc := { s1.frc with waiting := s1.frc.waiting ++ [⟨op, at_⟩] } }
    else applyForceOp op s.tb.now s1

/-! ### Commands (R169, R170, R175) -/

/-- The partner is in RUN, or in JOIN and receives the full mirror: it gets every change of the force table (R169, R171). -/
def partnerFollows (s : State) : Bool := partnerInRun s || (partnerPresent s && s.pair.partnerState == 4)

/-- Accept a change: A lies 100 µs ahead; it goes to the partner; the result is owed until the standby has confirmed it. -/
def acceptForce (op : ForceOp) (res : W32) (q : Req) (s : State) : State :=
  let a := s.tb.now + 100 * us
  let (id, s1) := freshId { s with frc := { s.frc with waiting := s.frc.waiting ++ [⟨op, a⟩] } }
  oweOn id none [.result q.asker .frc res] (if partnerFollows s then saddle (.force id op a) s1 else s1)

/-- SET: the conditions in the order 9, 2, 6, 4, 5, 7. -/
def frcSet (q : Req) (s : State) : State :=
  let n := q.sel.frcSel
  let cfg := q.sel.setCfg
  let f : Force := ⟨Fin.ofNat 4 (cfg.extractLsb' 2 2).toNat, Fin.ofNat 4 (cfg.extractLsb' 4 2).toNat, q.sel.setTgt, q.sel.setVal⟩
  if !inRun s then answer q.asker .frc (frcRes 0 9) s
  else if 4096 ≤ n then answer q.asker .frc (frcRes 0 2) s
  else
    match forceRefused s f with
    | some c => answer q.asker .frc (frcRes n c) s
    | none =>
      if !mayForce s q.writeMask f then answer q.asker .frc (frcRes n 5) s
      else
        match forceOn ((forcesToCome s.frc).filter (fun x => x.1.val != n)) f.kind f.target with
        | some (m, _) => answer q.asker .frc (frcRes m.val 7) s
        | none => acceptForce (.set (Fin.ofNat 4096 n) cfg q.sel.setTgt q.sel.setVal) (frcRes n 1) q s

/-- FRC_SET (R167, R169, R170, R175). -/
def execFrcSet (se : Fin 64) (s : State) : Host.Outcome State Fault Refusal := .next (sessionCmd regFrc 0x01 se frcSet s)

/-- CLEAR: RUN, an entry, active, its target's colour in the write mask. -/
def frcClear (q : Req) (s : State) : State :=
  let n := q.sel.frcSel
  if !inRun s then answer q.asker .frc (frcRes 0 9) s
  else if 4096 ≤ n then answer q.asker .frc (frcRes 0 2) s
  else
    match (forcesToCome s.frc).find? (fun x => x.1.val == n) with
    | none => answer q.asker .frc (frcRes n 8) s
    | some (m, f) =>
      if !mayForce s q.writeMask f then answer q.asker .frc (frcRes n 5) s else acceptForce (.clear m) (frcRes n 1) q s

/-- FRC_CLEAR (R169, R170, R175). -/
def execFrcClear (se : Fin 64) (s : State) : Host.Outcome State Fault Refusal := .next (sessionCmd regFrc 0x02 se frcClear s)

/-- CLEARALL: every active entry, if the write mask includes the colour of every target (R170). -/
def frcClearall (q : Req) (s : State) : State :=
  if !inRun s then answer q.asker .frc (frcRes 0 9) s
  else
    match (forcesToCome s.frc).find? (fun x => !mayForce s q.writeMask x.2) with
    | some (m, _) => answer q.asker .frc (frcRes m.val 5) s
    | none => acceptForce .clearAll (frcRes 0 1) q s

/-- FRC_CLEARALL (R169, R170, R175). -/
def execFrcClearall (se : Fin 64) (s : State) : Host.Outcome State Fault Refusal := .next (sessionCmd regFrc 0x03 se frcClearall s)

end Sys2Proof.Machine
end

