-- ==== Sys2Proof/Machine/Hold.lean ====
section
/-!
DEFINITION. The search for an instant without work in progress, and the hold of releases at it (06 R155, R156), as a terrace switch, a
RECHECK (07 R198) and a planned role swap (08 R233) share them.
-/

namespace Sys2Proof.Machine

/-- What the releases are held for. -/
inductive HoldFor where
  | change | recheck | swap
  deriving DecidableEq, Repr

/-- The request of a kind. -/
def holdOf (k : HoldFor) (s : State) : Option SwitchReq :=
  match k with
  | .change => s.tsk.switch
  | .recheck => s.lsk.recheck
  | .swap => s.lease.swap

/-- Replace the request of a kind. -/
def setHold (k : HoldFor) (q : Option SwitchReq) (s : State) : State :=
  match k with
  | .change => { s with tsk := { s.tsk with switch := q } }
  | .recheck => { s with lsk := { s.lsk with recheck := q } }
  | .swap => { s with lease := { s.lease with swap := q } }

/-- The module chooses instants: the lease holder, or a module without a partner (R155); for a RECHECK each module itself (R198). -/
def leads (k : HoldFor) (s : State) : Bool := k == .recheck || holds s || !partnerPresent s

/-- The module decides from its own verdict (R156, R198). -/
def decidesAlone (k : HoldFor) (s : State) : Bool := k == .recheck || !partnerPresent s

/-! ### Candidates (R155) -/

def cyclicTasks (s : State) : List TaskEntry := (enabledTasks s).filter (fun t => !t.event)

/-- The first nominal instant at or after `t`. -/
def nominalFrom (start period t : Nat) : Nat :=
  if t ≤ start then start else start + ((t - start + period - 1) / period) * period

/-- The last nominal instant before `r`. -/
def lastBefore (start period r : Nat) : Option Nat :=
  if r ≤ start then none else some (start + (r - 1 - start) / period * period)

/-- The latched longest completion time of a task, or its deadline where there is none. -/
def completionTime (s : State) (t : TaskEntry) : Nat :=
  if s.tsk.lat[t.num].done = 0 then t.deadline * 10000 else s.tsk.lat[t.num].max

/-- Every cyclic task's last release before `r` is expected to be complete 5 µs before it. -/
def quietAt (s : State) (r : Nat) : Bool :=
  (cyclicTasks s).all (fun t =>
    match lastBefore (s.tsk.origin + t.phase * 10000) (t.period * 10000) r with
    | none => true
    | some n => decide (n + completionTime s t + 5000 ≤ r))

/-- The first nominal instant of any cyclic task at or after `t`. -/
def nextNominal (s : State) (t : Nat) : Option Nat :=
  ((cyclicTasks s).map (fun e => nominalFrom (s.tsk.origin + e.phase * 10000) (e.period * 10000) t)).min?

/-- The first candidate from `t` to `limit`. -/
def candidateFrom (s : State) : Nat → Nat → Nat → Option Nat
  | 0, _, _ => none
  | k + 1, t, limit =>
    match nextNominal s t with
    | none => none
    | some r => if limit < r then none else if quietAt s r then some r else candidateFrom s k (r + 1) limit

/-- A search takes 2 s; nominal instants are whole multiples of 10 µs apart. -/
def searchTime : Nat := 2 * sec
def searchFuel : Nat := 200001

/-- The next candidate of a search that began at `start`. -/
def nextCandidate (start : Nat) (s : State) : Option Nat :=
  candidateFrom s searchFuel (s.tb.now + 100 * us) (start + searchTime)

/-! ### The search -/

/-- Look for a candidate; the partner is told the instant. With none, the search goes on. -/
def seek (k : HoldFor) (q : SwitchReq) (s : State) : State :=
  match nextCandidate q.start s with
  | some r =>
    let s1 := setHold k (some { q with phase := .candidate, r := r, ownReady := false, partnerReady := none }) s
    if decidesAlone k s then s1 else saddle (.candidate r (k == .swap)) s1
  | none => setHold k (some { q with phase := .searching }) s

/-- A new request. -/
def newHold (asker : Option Origin) (tag : W32) (s : State) : SwitchReq :=
  { asker := asker, tag := tag, phase := .searching, start := s.tb.now, attempts := 0, r := 0, ownReady := false, partnerReady := none
    windowEnd := 0, granules := 0, touched := [], forcesDropped := 0, varsDropped := 0 }

/-- Open a request and look for its first candidate. -/
def openHold (k : HoldFor) (asker : Option Origin) (tag : W32) (s : State) : State := seek k (newHold asker tag s) s

/-- No task has been RELEASED at any time from `r` − 5 µs to now (R156). -/
def ready (r : Nat) (s : State) : Bool :=
  (List.finRange 128).all (fun t =>
    let x := s.tsk.rt[t]
    x.st != .released && (x.doneCycle.isNone || decide (x.lastRel + x.lastExec + 5000 ≤ r)))

/-- A terrace switch needs an armed idle terrace in this module. -/
def terraceReady (k : HoldFor) (s : State) : Bool := k != .change || ((s.img.idle == .armed || s.img.idle == .switching) && s.img.idleImg.isSome)

/-- The held releases are made with their normal records. -/
def releaseHolds (s : State) : State := (releaseAllHeld s.tb.now false s).1

/-- The search is over: 64 abandoned attempts, or 2 s (R156). -/
def searchOver (q : SwitchReq) (s : State) : Bool := decide (64 ≤ q.attempts) || decide (q.start + searchTime ≤ s.tb.now)

/-- The attempt is abandoned: the held releases are made, and the module that chooses looks for the next candidate. `ended` is what
follows the end of the search. -/
def abandon (k : HoldFor) (ended : SwitchReq → State → State) (q : SwitchReq) (s : State) : State :=
  let q1 := { q with phase := .searching, attempts := q.attempts + 1 }
  if !leads k s then releaseHolds (setHold k none s)
  else
    let s1 := releaseHolds (setHold k (some q1) s)
    if searchOver q1 s1 then ended q1 s1 else seek k q1 s1

/-- The time for both verdicts has passed: more than 10 µs after `r` (R156). -/
def verdictsLate (q : SwitchReq) (s : State) : Bool := decide (q.r + 10 * us < s.tb.now)

/-- What the verdicts known so far lead to: `go` when both modules are READY by `r` + 10 µs, abandoning when one is not or the time has
passed; a module that decides alone asks its own only. -/
def judgeVerdicts (k : HoldFor) (go ended : SwitchReq → State → State) (q : SwitchReq) (s : State) : State :=
  if !q.ownReady || (!decidesAlone k s && (q.partnerReady == some false || verdictsLate q s)) then abandon k ended q s
  else if decidesAlone k s || q.partnerReady == some true then go q s
  else setHold k (some q) s

/-- The instant `r` (R156): this module's verdict, sent to the partner; a module that decides alone goes on at once. A search without a
candidate looks again. -/
def atInstant (k : HoldFor) (go ended : SwitchReq → State → State) (s : State) : State :=
  match holdOf k s with
  | none => s
  | some q =>
    match q.phase with
    | .searching => if leads k s then (if searchOver q s then ended q s else seek k q s) else s
    | .candidate =>
      if s.tb.now < q.r then s
      else
        let q1 := { q with phase := .verdicts, ownReady := ready q.r s && terraceReady k s }
        let s1 := if decidesAlone k s then s else saddle (.ready q1.ownReady) s
        judgeVerdicts k go ended q1 (setHold k (some q1) s1)
    | .verdicts => s
    | .window => s

/-- The partner's verdict. One that comes before this module's own instant is kept. -/
def partnerVerdict (k : HoldFor) (go ended : SwitchReq → State → State) (yes : Bool) (q : SwitchReq) (s : State) : State :=
  let q1 := { q with partnerReady := some yes }
  match q.phase with
  | .verdicts => judgeVerdicts k go ended q1 s
  | .candidate => setHold k (some q1) s
  | .searching => s
  | .window => s

/-- A request waits for the partner's verdict. -/
def awaitsVerdict (q : Option SwitchReq) : Bool :=
  match q with
  | some r => (r.phase == .candidate || r.phase == .verdicts) && r.partnerReady.isNone
  | none => false

/-- 10 µs after `r` without both verdicts the attempt is abandoned. -/
def verdictLate (k : HoldFor) (ended : SwitchReq → State → State) (s : State) : State :=
  match holdOf k s with
  | some q => if q.phase == .verdicts && decide (q.r + 10 * us ≤ s.tb.now) then abandon k ended q s else s
  | none => s

/-- 2 s after the request a search ends; releases that a candidate held are made. -/
def searchLate (k : HoldFor) (ended : SwitchReq → State → State) (s : State) : State :=
  match holdOf k s with
  | some q =>
    if (q.phase == .searching || q.phase == .candidate) && leads k s && decide (q.start + searchTime ≤ s.tb.now) then releaseHolds (ended q s) else s
  | none => s

/-- The holder's candidate at the standby: acknowledged, and waited for (R155). -/
def takeCandidate (k : HoldFor) (r : Nat) (s : State) : State :=
  if leads k s || !inRun s then s
  else
    match holdOf k s with
    | some q => if q.phase == .window then s else
        setHold k (some { newHold none 0 s with phase := .candidate, r := r }) (saddle (.confirm (2 ^ 90 + r)) s)
    | none => setHold k (some { newHold none 0 s with phase := .candidate, r := r }) (saddle (.confirm (2 ^ 90 + r)) s)

end Sys2Proof.Machine
end

