-- ==== Sys2Proof/Machine/Change.lean ====
section
/-!
DEFINITION. On-line change (06 R150 to R166): the request, the beginning of the switch window, the end of a search, the terrace record.
-/

namespace Sys2Proof.Machine

/-! ### The request (R150) -/

/-- Why a request is rejected, in the order 1, 6, 3, 2. -/
def changeRefused (q : Req) (ident : W256) (s : State) : Option Nat :=
  let idleIdent := s.img.idleImg.map (fun i => i.ident)
  if !claimOf s (askerSlot q.asker s) q.se then some 1
  else if !(s.mod.st == .active || (inRun s && !partnerPresent s)) then some 6
  else if s.tsk.switch.isSome then some 3
  else if s.img.idle != .armed || idleIdent != some ident then some 2
  else if partnerPresent s && !(partnerStandby s && s.img.partnerIdle == 6 && s.img.partnerIdleId == ident) then some 2
  else none

/-- CHANGE at the module that decides it: the idle terrace is SWITCHING until the request ends, and the search begins (R155). -/
def changeService (q : Req) (tag : W32) (ident : W256) (s : State) : State :=
  match changeRefused q ident s with
  | some r => changeReply (some q.asker) tag r 0 0 s
  | none => openHold .change (some q.asker) tag { s with img := { s.img with idle := .switching } }

/-- CHANGE (R150, R151, R155, R166, R391): class IMAGE first; a standby relays it. -/
def execChange (se : Fin 64) (tag : W32) (ident : W256) (s : State) : Host.Outcome State Fault Refusal :=
  .next (
    if !sesOpen s se then s
    else
      let s := onSess se (fun x => { x with lastMsg := s.tb.now }) s
      let q := reqOf se s
      if tooMany s se then reply se 0x0020 tag 7 [] s
      else if s.mod.st == .failed || s.mod.st == .stopped then reply se 0x0020 tag 5 [] s
      else if !q.classes.getLsbD 1 then reply se 0x0020 tag 1 [] s
      else if inRun s && !holds s && partnerPresent s then
        (if holderReachable s then relay se none 0x0020 (some tag) 2 0 (.change ident) s
         else changeReply (some q.asker) tag 6 0 0 s)
      else changeService q tag ident s)

/-! ### Schedules (R159) -/

/-- The state of a task that is not RELEASED under an image (R118). -/
def restingState (e : Option TaskEntry) : TState :=
  match e with
  | none => .absent
  | some t => if t.enable then .waiting else .disabled

/-- The index of the first nominal instant at or after `r`. -/
def indexAt (start period r : Nat) : Nat := if r ≤ start then 0 else (r - start + period - 1) / period

/-- The schedule of a cyclic task at `r`: index, K and next nominal instant. An unchanged task keeps its indices and numbers; a changed one
goes on counting; a new one begins with K = 0. -/
def scheduleAt (start r : Nat) (e : TaskEntry) (old : Option TaskEntry) (x : TaskRt) : TaskRt :=
  let j := indexAt (start + e.phase * 10000) (e.period * 10000) r
  let at_ := start + e.phase * 10000 + j * (e.period * 10000)
  match old with
  | some o =>
    if o.event then { x with index := j, k := 0, next := at_, first := true }
    else if o.period = e.period ∧ o.phase = e.phase then { x with index := j, next := at_ }
    else { x with index := j, k := BitVec.ofNat 32 x.index + x.k - BitVec.ofNat 32 j, next := at_ }
  | none => { x with index := j, k := 0, next := at_, first := true }

/-- The trigger and arguments of a task's entry are the same in both images (R160). -/
def sameTrigger (e : TaskEntry) (o : TaskEntry) : Bool :=
  e.event && o.event && e.trigger == o.trigger && e.argA == o.argA && e.argB == o.argB

/-- The run-time fields of a task number under the new image. -/
def switchTask (start r : Nat) (old new : Image) (t : Fin 128) (x : TaskRt) : TaskRt :=
  let o := old.tasks.find? (fun e => e.num == t)
  let e := new.tasks.find? (fun e => e.num == t)
  match e with
  | none => {}
  | some n =>
    let y : TaskRt := match o with
      | some p => if p.event == n.event then { x with missed := if sameTrigger n p then x.missed else 0 } else {}
      | none => {}
    let z := { y with st := restingState e, reload := true, pending := none, queue := [] }
    if n.event then z else scheduleAt start r n o z

/-! ### The force pass (R168, R172) -/

/-- The forces that the new image keeps, and those that are dropped. -/
def keptForces (old new : Image) (table : List (Fin 4096 × Force)) : List (Fin 4096 × Force) :=
  table.filter (fun x => forceKept old new x.2)
def droppedForces (old new : Image) (table : List (Fin 4096 × Force)) : List (Fin 4096 × Force) :=
  table.filter (fun x => !forceKept old new x.2)

/-- The variables whose forces are kept. -/
def forcedVars (table : List (Fin 4096 × Force)) : List W64 := (table.filter (fun x => x.2.kind == 2)).map (fun x => x.2.target)

/-! ### The window (R157) -/

/-- The changed variables that are initialised for want of a conversion (R152, record 0x8203). -/
def changedInits (p : Plan) : List (VarEntry × VarEntry) :=
  p.acts.filterMap (fun a => match a with
    | (v, some o, _) => if v.isSealed || sameVar o v || (convFor o v).isSome then none else some (o, v)
    | (_, none, _) => none)

/-- The words of tile memory that an image writes: its constants (R62). -/
def constantWords (p : PlainProgram) : List (Fin 16384 × Fin 64 × W128) :=
  p.words.filterMap (fun c => match c.cls with | .constant v => some (c.tile, c.word, v) | _ => none)

/-- A lane takes another program: tile memory is not banked by terrace (R57), so its words stay, but for the constants of the new image;
nothing is on its way, and the shadow banks hold `shadow`. -/
def changeProgram (p : PlainProgram) (shadow : Option (List Byte × List Byte)) (L : LaneState) : LaneState :=
  { mem := (constantWords p).foldl (fun m c => c :: m.filter (fun x => !(x.1 == c.1 && x.2.1 == c.2.1))) L.mem
    cores := updAll L.cores (fun _ c => { sram := c.sram, spill := [] })
    dead := L.dead, shadow := shadow }

/-- A lane that begins a program after power-up or a restart: its tile memories hold the image's constants. -/
def freshLane (p : PlainProgram) : LaneState := { mem := constantWords p }

/-- The granules of the variables that a task of an image writes: of its persistent words and of its routines' persistent data; and those
that its routines' stores may reach under the colours of its task entry, since no section lists them (R84, R86, R163; DEDUCED, log 76). -/
def taskGranules (i : Image) (t : Fin 128) (gs : List Nat) : List Nat :=
  let words := i.prog.inject.filterMap (fun j => if j.task == t then (match j.src with | .home a => granuleOf a | _ => none) else none)
  let mine := i.routs.filter (fun r => r.task == t)
  let kept := mine.flatMap (fun r => r.keep.filterMap (fun k => granuleOf k.2))
  let mask := match i.taskMasks.find? (fun m => m.task == t) with | some m => m.writeMask | none => 0
  gs.filter (fun g => words.contains g || kept.contains g || (!mine.isEmpty && grants mask (colourIn i.colours g)))

/-- A plan after its switch: what was written before the window is written in the window of the next such switch (R166). -/
def Plan.used (p : Plan) : Plan :=
  { p with acts := p.acts.map (fun a => (a.1, a.2.1, if a.2.2 == .preInit then .init false else a.2.2)) }

/-- The granules that a plan has written, in the window and before it (R163). -/
def planGranules (p : Plan) : List Nat := (windowGranules p ++ preInitGranules p).dedup

/-- Step 2: the terraces change in one step. -/
def flipTerraces (old new : Image) (s : State) : State :=
  { s with
    laneA := changeProgram new.prog (some (old.plain, old.seq)) s.laneA
    laneB := changeProgram new.prog (some (old.plain, old.seq)) s.laneB
    lsk := { s.lsk with sweepPasses := 0 }
    img := { s.img with
      run := some new, idleImg := some old, runBytes := s.img.load, load := s.img.runBytes, total := s.img.runBytes.length
      runTerr := !s.img.runTerr, forward := s.img.reverse, reverse := s.img.forward.used
      armDigest := Config.streamDigest old.plain old.seq } }

/-- The triggers and reasons that wait for tasks which are RELEASED (R99, R100), as they wait in the window (R160). -/
def waitingTriggers (s : State) : List TrigReg :=
  (List.finRange 128).flatMap (fun t => (s.tsk.rt[t].pending.toList ++ s.tsk.rt[t].queue).map (fun g => .release t g))

/-- The switch window begins: the terraces flip, the force pass runs, and the carry-over writes are made. Triggers that wait are held. -/
def beginWindow (q : SwitchReq) (s : State) : State :=
  match s.img.run, s.img.idleImg with
  | some old, some new =>
    let plan := s.img.forward
    let kept := keptForces old new s.frc.table
    let gone := droppedForces old new s.frc.table
    let touched := planGranules plan
    let s1 := flipTerraces old new s
    let s2 := { s1 with tsk := { s1.tsk with
      rt := updAll s1.tsk.rt (fun t x =>
        let y := switchTask s1.tsk.origin q.r old new t x
        { y with dirty := (x.dirty ++ taskGranules new t touched).dedup })
      heldTrigs := waitingTriggers s1 ++ s1.tsk.trigQ, trigQ := [] } }
    let s3 := withMem s2 (writeForced new kept (carryOver plan (forcedVars kept) s2.mem.cells))
    let s4 := { s3 with frc := { s3.frc with
      table := kept, before := [], acc := { s3.frc.acc with drop := satAdd max32 s3.frc.acc.drop gone.length } } }
    let s5 := overAll gone (fun x t => logEv 0x8302 false (forceFields x.1 x.2) t) s4
    let s6 := overAll plan.dropped (fun v t => logEv 0x8202 false [(8, v.ident.toNat), (2, v.typ)] t) s5
    let s7 := overAll (changedInits plan) (fun v t => logEv 0x8203 false [(8, v.2.ident.toNat), (2, v.1.typ), (2, v.2.typ)] t) s6
    setHold .change (some { q with
      phase := .window, windowEnd := q.r + windowTime plan, granules := gcv plan, touched := touched
      forcesDropped := gone.length, varsDropped := plan.dropped.length }) s7
  | _, _ => s

/-- A search that ends without a switch: result 4 NO_INSTANT (R156). -/
def changeEnded (_q : SwitchReq) (s : State) : State := endChange 4 s

/-- SWITCH_INSTANT (R156, R157). -/
def execSwitchInstant (s : State) : Host.Outcome State Fault Refusal := .next (atInstant .change beginWindow changeEnded s)

/-- SWITCH_SEARCH_TIMEOUT (R151, R156, R173). -/
def execSwitchSearchTimeout (s : State) : Host.Outcome State Fault Refusal := .next (searchLate .change changeEnded s)

/-! ### The terrace record (R164) -/

/-- TERRACE_RECORD_WRITE: at the latest 50 ms after the window the storage die records which terrace runs. -/
def terraceRecordWrite (s : State) : State :=
  match s.mem.terrDue with
  | some _ => persist (.terrace s.img.runTerr) .none { s with mem := { s.mem with terrDue := none } }
  | none => s

/-- TERRACE_RECORD_WRITE (R164). -/
def execTerraceRecordWrite (s : State) : Host.Outcome State Fault Refusal := .next (terraceRecordWrite s)

end Sys2Proof.Machine
end

