-- ==== Sys2Proof/Machine/Col.lean ====
section
/-!
DEFINITION. The col (07 R176 to R185): comparing words and committing them, what the hub performs for a routine, missing words.
-/

namespace Sys2Proof.Machine

/-- The code of a kind of word in the tag. -/
def WordKind.code : WordKind → Nat
  | .outputRecord => 0 | .persistent => 1 | .varWrite => 2 | .readRequest => 3 | .serviceCall => 4 | .digest => 5

/-- The tags of two words are equal. -/
def sameTag (a b : LaneWord) : Bool := a.kind == b.kind && a.addr == b.addr && a.enables == b.enables

/-- A memory word with quality BAD: what a program reads of a poisoned history granule (01 R21). -/
def badWord (v : W128) : W128 := (v.extractLsb' 88 40 ++ qBad) ++ v.extractLsb' 0 80

/-- The lane that the hub looks at for a routine's request: both lanes asked for the same. -/
def askingLane (s : State) : Lane := if laneRuns s .A then .A else .B

/-- The hub performs a read that the lanes have asked for, and the data go back to both (R178, R181). Of a read-modify-write it writes the
result at once and returns the old word. -/
def performRead (stream : Fin 74) (w : LaneWord) (bad : Bool) (s : State) : State :=
  let k : Fin 8 := Fin.ofNat 8 (stream.val - 64)
  let old := Memory.word s.mem.cells w.addr
  match ((laneOf s (askingLane s)).cores[k].running.bind (fun x => x.wait)), s.tsk.rt[w.task].cur with
  | some (.rmw _ f _), some c =>
    let (v, fl) := aluEval f old w.data 0
    returnWords k w.task [old] (joinCycleFlags w.task fl (commitVar c w.task w.addr v 0xFFFF s))
  | _, _ => returnWords k w.task [if bad then badWord old else old] s

/-- A service call that the lanes agree on is granted to the routine in each (R181). A reading of the time base (number 9) returns at
once; so does a service of which the manual describes no effect (host events, strings, recipes: 10 and above), with a free value. The
others wait for their own commands. -/
def performCall (stream : Fin 74) (w : LaneWord) (s : State) : State :=
  let k : Fin 8 := Fin.ofNat 8 (stream.val - 64)
  let grant := fun (x : Context) => match x.wait with | some (.call n rd _) => { x with wait := some (.call n rd true) } | _ => x
  let s1 := overAll (runningLanes s) (fun l t => onCtx l k grant t) s
  if w.addr < 9 then s1
  else if w.addr = 9 then returnWords k w.task [BitVec.ofNat 128 s.tb.now] s1
  else
    let (v, s2) := freeValue 128 s1
    returnWords k w.task [v] s2

/-- Commit one copy of a word, or perform what it asks for (R180, R181). An uncorrectable word of a history buffer goes to the program as
BAD; of another region nothing is delivered (01 R21). -/
def commitWord (stream : Fin 74) (w : LaneWord) (chk : MemCheck) (s : State) : State :=
  let s1 := memCheck chk s
  if !MemCheckOk chk && !MemCheckHistory chk then s1
  else
    match w.kind, s1.tsk.rt[w.task].cur, taskEntry s1 w.task with
    | .readRequest, _, _ => performRead stream w (MemCheckHistory chk) s1
    | .serviceCall, _, _ => performCall stream w s1
    | .outputRecord, some c, some e => commitPoint e c ((w.addr - outputBase) / 16) w.data s1
    | .persistent, some c, _ => commitVar c w.task w.addr w.data w.enables s1
    | .varWrite, some c, _ => commitVar c w.task w.addr w.data w.enables s1
    | .digest, some _, _ => onCycle w.task (fun c => { c with digests := c.digests + 1 }) s1
    | _, _, _ => s1

/-- The words of a fault record read 0 for a granule of colour 15 (R201). -/
def faultWord (s : State) (w : LaneWord) : W128 :=
  match granuleOf w.addr with
  | some g => if colourOf s g == 15 then 0 else w.data
  | none => w.data

/-- LSK_FADDR for a word: its address, or the unit code of a digest (R202). -/
def faultAddr (stream : Fin 74) (w : LaneWord) : W64 :=
  if stream = 73 then BitVec.ofNat 64 (2 ^ 63 + 14)
  else if stream = 72 ∨ w.kind = .digest then BitVec.ofNat 64 (2 ^ 63 + w.task.val * 256 + 13)
  else BitVec.ofNat 64 w.addr

/-- The cycle number of a task's cycle in progress. -/
def cycleOf (s : State) (t : Fin 128) : W32 :=
  match s.tsk.rt[t].cur with
  | some c => c.record.cycle
  | none => s.tsk.rt[t].cycle

/-- LSK_FAULT.PARITYLANE: the lanes whose parity checks have stopped their output (R184). -/
def parityLanes (s : State) : BitVec 2 := BitVec.ofNat 2 (bitNat s.laneA.dead + 2 * bitNat s.laneB.dead)

/-- The record of a lane mismatch. -/
def mismatch (sub : Nat) (stream : Fin 74) (w : LaneWord) (a b : W128) (s : State) : ColRecord :=
  { cls := 1, subclass := sub, stream := BitVec.ofNat 8 (if w.kind = .digest ∧ stream.val < 72 then 72 else stream.val)
    parity := parityLanes s, addr := faultAddr stream w, time := s.tb.now, task := BitVec.ofNat 8 w.task.val
    cycle := cycleOf s w.task, wordA := a, wordB := b }

/-- The subclass of a difference (R184). -/
def diffClass (stream : Fin 74) (a b : LaneWord) : Nat :=
  if stream = 73 then 5
  else if (stream = 72 || a.kind == .digest) && sameTag a b then 4
  else if a.data != b.data then 1 else 2

/-- A pair of matching words is compared: equal, it is committed and counted; different, a lane mismatch. -/
def comparePair (stream : Fin 74) (a b : LaneWord) (waited : Nat) (chk : MemCheck) (s : State) : State :=
  if a.data == b.data && sameTag a b then
    let digest := a.kind == .digest
    let s1 := { s with lsk := { s.lsk with
      seen0 := upd s.lsk.seen0 stream (fun v => v ||| ~~~ a.data)
      seen1 := upd s.lsk.seen1 stream (fun v => v ||| a.data)
      acc := { s.lsk.acc with
        cmp := s.lsk.acc.cmp + 1
        digest := if digest then satSucc max32 s.lsk.acc.digest else s.lsk.acc.digest
        waitMax := max s.lsk.acc.waitMax (min waited max32) } } }
    commitWord stream a chk s1
  else takeFault (mismatch (diffClass stream a b) stream a (faultWord s a) (faultWord s b) s) s

/-- The subclass and the unit code of a fault of the col's own checks (R184, R202). -/
def colSubclass : ColFault → Nat
  | .checker => 1 | .delayParity => 2 | .delayOccupancy => 3
def colUnit : ColFault → Nat
  | .checker => 11 | .delayParity => 12 | .delayOccupancy => 12

/-- A fault of the col's own checks, with the words it concerns: those held in the delay element and the one that arrives (R184, R201). -/
def colFault (lane : Lane) (stream : Fin 74) (f : ColFault) (arriving : Option LaneWord) (s : State) : State :=
  let wordFor := fun (l : Lane) =>
    ((s.lsk.delay[stream].find? (fun d => d.lane == l)).map (fun d => d.word)).or (if l == lane then arriving else none)
  let first := ((s.lsk.delay[stream].head?).map (fun d => d.word)).or arriving
  let data := fun (w : Option LaneWord) => match w with | some x => faultWord s x | none => 0
  takeFault
    { cls := 2, subclass := colSubclass f, stream := BitVec.ofNat 8 stream.val, parity := parityLanes s
      addr := BitVec.ofNat 64 (2 ^ 63 + stream.val * 256 + colUnit f), time := s.tb.now
      task := match first with | some w => BitVec.ofNat 8 w.task.val | none => 0xFF
      cycle := match first with | some w => cycleOf s w.task | none => 0
      wordA := data (wordFor .A), wordB := data (wordFor .B) } s

/-- The word that a lane has ready on a stream: the oldest at its port or core, or a digest on stream 72; none once its output has
stopped (01 R23). -/
def laneNext (s : State) (lane : Lane) (stream : Fin 74) : Option LaneWord :=
  let L := laneOf s lane
  if L.dead then none
  else if stream.val < 72 then (L.out.find? (fun x => x.1.val == stream.val)).map (fun x => x.2)
  else if stream = 72 then (digestTask s lane).map (fun t => ⟨.digest, 0, 0xFFFF, laneDigest s t L, t⟩)
  else none

/-- The hub acknowledges the word: it leaves the lane. -/
def acknowledge (lane : Lane) (stream : Fin 74) (s : State) : State :=
  if stream.val < 72 then onLane lane (fun L => { L with out := dropFirst (fun x => x.1.val == stream.val) L.out }) s
  else
    match digestTask s lane with
    | some t => if stream = 72 then onLane lane (fun L => { L with digested := t :: L.digested }) s else s
    | none => s

/-- The word of the other lane that matches: the first of the same task in the stream (R176). -/
def matching (lane : Lane) (w : LaneWord) (q : List DelayWord) : Option DelayWord :=
  q.find? (fun d => d.lane != lane && d.word.task == w.task)

/-- A word of a lane takes its place in the delay element, or meets the matching word (R179, R180). With two words of the lane held, the
acknowledge is withheld. Two words that disturbances have changed alike do not meet (R178: they land on different work). -/
def takeWord (lane : Lane) (stream : Fin 74) (w : LaneWord) (changed : Bool) (chk : MemCheck) (s : State) : State :=
  match matching lane w s.lsk.delay[stream] with
  | some d =>
    if changed && d.changed && d.word.data == w.data && sameTag d.word w then s
    else
      let s1 := acknowledge lane stream s
      let s2 := { s1 with lsk := { s1.lsk with delay := upd s1.lsk.delay stream (fun q => dropFirst (fun x => x == d) q) } }
      let (a, b) := if lane == .A then (w, d.word) else (d.word, w)
      comparePair stream a b (s.tb.now - d.arrived) chk s2
  | none =>
    if (s.lsk.delay[stream].filter (fun d => d.lane == lane)).length < 2 then
      let s1 := acknowledge lane stream s
      { s1 with lsk := { s1.lsk with delay := upd s1.lsk.delay stream (fun q => q ++ [⟨lane, w, s.tb.now, changed⟩]) } }
    else { s with lsk := { s.lsk with acc := { s.lsk.acc with bpress := satSucc max32 s.lsk.acc.bpress } } }

/-- A word that arrives with comparison suspended (R196): a running lane's is committed as it is, another's discarded. -/
def takeAlone (lane : Lane) (stream : Fin 74) (w : LaneWord) (chk : MemCheck) (s : State) : State :=
  let s1 := acknowledge lane stream s
  if idles s.lsk.halt lane then s1 else commitWord stream w chk s1

/-- COL_WORD_COMPARE: the lane's next word of the stream, or in its place a word that a disturbance has changed, arrives. Nothing is compared
after a fault (R185). -/
def colWordCompare (lane : Lane) (stream : Fin 74) (changed : Option LaneWord) (fault : Option ColFault) (chk : MemCheck) (s : State) : State :=
  let word := changed.or (laneNext s lane stream)
  match fault with
  | some f => if s.lsk.halt != .none && f == .checker then s else colFault lane stream f word s
  | none =>
    if isHubFault chk then memCheck chk s
    else if s.lsk.stopped || !inRun s then s
    else
      match word with
      | none => s
      | some w => if s.lsk.halt == .none then takeWord lane stream w changed.isSome chk s else takeAlone lane stream w chk s

/-- COL_WORD_COMPARE (R13, R14, R19, R63, R65, R75, R176, R179 to R182, R184, R185, R193, R196). -/
def execColWordCompare (lane : Lane) (stream : Fin 74) (changed : Option LaneWord) (fault : Option ColFault) (chk : MemCheck) (s : State) :
    Host.Outcome State Fault Refusal := .next (colWordCompare lane stream changed fault chk s)

/-- COL_MISSING_WORD: a word has waited 50 µs for the matching one (R183). -/
def colMissingWord (stream : Fin 74) (s : State) : State :=
  match s.lsk.delay[stream] with
  | [] => s
  | d :: _ =>
    if s.lsk.stopped || !inRun s || s.lsk.halt != .none || s.tb.now < d.arrived + 50 * us then s
    else
      let w := faultWord s d.word
      takeFault (mismatch 3 stream d.word (if d.lane == .A then w else 0) (if d.lane == .A then 0 else w) s) s

/-- COL_MISSING_WORD (R23, R183 to R186). -/
def execColMissingWord (stream : Fin 74) (s : State) : Host.Outcome State Fault Refusal := .next (colMissingWord stream s)

end Sys2Proof.Machine
end

