-- ==== Sys2Proof/Machine/Memory.lean ====
section
/-!
DEFINITION. The scrubber (01 R22) and the persistent-state store (01 R25), with what follows when one of its writes ends: key
tables (02 R39 to R41) among them.
-/

namespace Sys2Proof.Machine

/-- Granules of the 16 GiB (R22). -/
def granuleCount : Nat := 268435456

/-- What the scrubber finds lies in the granule that it visits. -/
def scrubCheck (g : Nat) (chk : MemCheck) : MemCheck :=
  match chk with
  | .uncorrectable a => .uncorrectable (memoryBase + 64 * g + a % 64)
  | c => c

/-- MEMORY_SCRUB: every 320 µs one granule is checked, its errors are answered by R20 and R21, and the scrubber moves on; a module without
power scrubs nothing. -/
def memoryScrub (chk : MemCheck) (s : State) : State :=
  if s.mod.st == .off || s.tb.now < s.mem.scrubAt then s
  else memCheck (scrubCheck s.mem.scrub chk)
    { s with mem := { s.mem with scrub := (s.mem.scrub + 1) % granuleCount, scrubAt := s.tb.now + 320 * us } }

/-- MEMORY_SCRUB (R20 to R22). -/
def execMemoryScrub (chk : MemCheck) (s : State) : Host.Outcome State Fault Refusal := .next (memoryScrub chk s)

/-! ### Keys -/

/-- The fingerprint of a key (R37). -/
def fingerprint (key : W256) : W256 := sha256 (leBytes 32 key.toNat)

/-- The slot, the operation and the key of a statement (R39). -/
def stmtSlot (stmt : List Byte) : Nat := (stmt.getD 4 0).toNat
def stmtOp (stmt : List Byte) : Nat := (stmt.getD 5 0).toNat
def stmtKey (stmt : List Byte) : W256 := BitVec.ofNat 256 (leNat (stmt.drop 8))

/-- The key table after an accepted statement: the slot takes the key, or is REVOKED and the fingerprint joins the last 64. -/
def applyStmt (stmt : List Byte) (keys : List KeySlot) (revoked : List W256) : List KeySlot × List W256 :=
  if stmtOp stmt = 1 then (keys.set (stmtSlot stmt) (.active (stmtKey stmt)), revoked)
  else (keys.set (stmtSlot stmt) (.revoked (stmtKey stmt)), (fingerprint (stmtKey stmt) :: revoked).take 64)

/-- The fingerprint that an image's signature block names (R37), and its key slot. -/
def imageKeyFp (bytes : List Byte) : W256 := BitVec.ofNat 256 (leNat ((bytes.drop (bytes.length - 48)).take 32))
def imageKeySlot (bytes : List Byte) : Nat := (bytes.getD (bytes.length - 124) 0).toNat
def imageIdent (bytes : List Byte) : W256 := BitVec.ofNat 256 (leNat ((bytes.drop 32).take 32))

/-- The idle terrace holds a complete image that names a key: in VERIFYING and STORING the loaded bytes, later the image. -/
def idleNames (fp : W256) (s : State) : Bool :=
  match s.img.idle with
  | .verifying => imageKeyFp s.img.load == fp
  | .storing => imageKeyFp s.img.load == fp
  | .verified => s.img.idleImg.any (fun i => i.keyFp == fp)
  | .arming => s.img.idleImg.any (fun i => i.keyFp == fp)
  | .armed => s.img.idleImg.any (fun i => i.keyFp == fp)
  | .switching => s.img.idleImg.any (fun i => i.keyFp == fp)
  | .empty => false
  | .loading => false
  | .failed => false

/-- R40: every image of the idle terrace and of the archive slots that names a revoked key fails with code 0x0C; a switch to it that has not
begun its window ends first, as one that finds no instant, and what it held is released. -/
def dropRevoked (fp : W256) (s : State) : State :=
  let bad := fun (sl : ImgSlot) => sl.st == .valid && imageKeyFp sl.bytes == fp
  let s1 := { s with img := { s.img with slots := updAll s.img.slots (fun i sl =>
    if bad sl && (2 ≤ i.val || i.val != bitNat s.img.runTerr) then { sl with st := .invalid } else sl) } }
  if idleNames fp s then imgFail 0 0x0C 0xFF 0 (releaseHolds (endChange 4 s1)) else s1

/-- Record 0x8001 or 0x8002 (R439). -/
def logKey (stmt : List Byte) (se : Nat) (cause : Option Nat) (s : State) : State :=
  let fp := (fingerprint (stmtKey stmt)).toNat % 2 ^ 64
  match cause with
  | none => logEv 0x8001 false [(1, stmtSlot stmt), (1, stmtOp stmt), (8, fp), (1, se)] s
  | some c => logEv 0x8002 false [(1, stmtSlot stmt), (1, stmtOp stmt), (8, fp), (1, se), (1, c)] s

/-- A slot is ACTIVE with a key. -/
def activeKeys (keys : List KeySlot) : List W256 :=
  keys.filterMap (fun k => match k with | .active x => some x | _ => none)

/-- The enrolment window ends when a key becomes ACTIVE (R389): recorded, and the session's end is due 1 s later. -/
def enrolKeyInstalled (s : State) : State :=
  match s.ses.enrol with
  | some _ => showModule (logEv 0x6004 false [(1, 0), (1, 1)] { s with ses := { s.ses with enrol := none, enrolKeyed := some s.tb.now } })
  | none =>
    if (List.finRange 64).any (fun se => sesOpen s se && s.ses.tab[se].enrolment) && s.ses.enrolKeyed.isNone
    then { s with ses := { s.ses with enrolKeyed := some s.tb.now } } else s

/-- The key table and the revoked fingerprints as they will be when the writes that wait are done (R25, R39). -/
def pendingKeys (s : State) : List KeySlot × List W256 :=
  s.mem.writes.foldl (fun k w => match w.value with | .keyTable keys revoked => (keys, revoked) | _ => k) (s.img.keys.toList, s.img.revoked)

/-- The statement of a write of the key table. -/
def actStmt : PAct → Option (List Byte)
  | .none => none
  | .keyOp _ _ stmt => some stmt
  | .keyForward _ stmt => some stmt
  | .keyRelayed _ _ stmt => some stmt

/-- After a failed write of the key table the writes that wait begin from the table as it is (R39). -/
def rebaseKeys (keys : List KeySlot × List W256) : List PWrite → List PWrite
  | [] => []
  | w :: rest =>
    match actStmt w.act with
    | some stmt => let next := applyStmt stmt keys.1 keys.2; { w with value := .keyTable next.1 next.2 } :: rebaseKeys next rest
    | none => w :: rebaseKeys keys rest

/-- What a completed write of the key table makes true. -/
def takeKeys (keys : List KeySlot) (revoked : List W256) (s : State) : State :=
  let had := activeKeys s.img.keys.toList
  let s1 := { s with img := { s.img with
    keys := updAll s.img.keys (fun i _ => keys.getD i.val .empty), revoked := revoked } }
  if had.isEmpty && !(activeKeys keys).isEmpty then enrolKeyInstalled s1 else s1

/-- What follows the end of a write of the store. -/
def afterWrite (act : PAct) (ok : Bool) (s : State) : State :=
  match act with
  | .none => s
  | .keyOp se tag stmt =>
    if ok then
      let s1 := logKey stmt se.val none s
      let s2 := if stmtOp stmt = 2 then dropRevoked (fingerprint (stmtKey stmt)) s1 else s1
      let (id, s3) := freshId s2
      let s4 := saddle (.key id stmt) s3
      oweOn id (some se) [.reply se 0x0020 tag 0 []] s4
    else reply se 0x0020 tag 8 [] (logKey stmt se.val (some 6) s)
  | .keyForward id stmt =>
    if ok then
      let s1 := logKey stmt 0xFF none s
      let s2 := if stmtOp stmt = 2 then dropRevoked (fingerprint (stmtKey stmt)) s1 else s1
      saddle (.confirm id) s2
    else logKey stmt 0xFF (some 6) s
  | .keyRelayed id se stmt =>
    if ok then
      let s1 := logKey stmt se.val none s
      let s2 := if stmtOp stmt = 2 then dropRevoked (fingerprint (stmtKey stmt)) s1 else s1
      let (kid, s3) := freshId s2
      oweOn kid none [.verdict id 0 0] (saddle (.key kid stmt) s3)
    else saddle (.verdict id 8 0) (logKey stmt se.val (some 6) s)

/-- A value of the store becomes current in the registers that show it. -/
def takeStored (v : PValue) (s : State) : State :=
  match v with
  | .keyTable keys revoked => takeKeys keys revoked s
  | _ => s

/-- PERSISTENT_WRITE_READBACK (R25): a good read-back makes the value current in the older place with the next sequence number; a bad
one repeats the write once; a second bad one keeps the previous value and records 0x0005. -/
def persistentWriteReadback (ok : Bool) (s : State) : State :=
  match s.mem.writes with
  | [] => s
  | w :: rest =>
    if ok then
      let s1 := { s with mem := { s.mem with
        writes := rest, items := upd s.mem.items w.value.item (fun c => storeCopy c w.value) } }
      afterWrite w.act true (takeStored w.value s1)
    else if w.tries = 0 then { s with mem := { s.mem with writes := { w with tries := 1 } :: rest } }
    else
      let left := if (actStmt w.act).isSome then rebaseKeys (s.img.keys.toList, s.img.revoked) rest else rest
      afterWrite w.act false
        (logEv 0x0005 false [(1, w.value.item.val), (1, 2)] { s with mem := { s.mem with writes := left } })

/-- PERSISTENT_WRITE_READBACK (R25). -/
def execPersistentWriteReadback (ok : Bool) (s : State) : Host.Outcome State Fault Refusal :=
  .next (persistentWriteReadback ok s)

/-! ### The key service (R39, R41) -/

/-- Why a key statement is rejected (R439, record 0x8002): 1 signature, 2 slot ACTIVE, 3 recently revoked, 4 only ACTIVE key, 5 the
maintenance colour. A malformed statement has no cause of its own and counts as a bad signature (log 31). -/
def keyCause (stmt sig : List Byte) (maint : Bool) (s : State) : Option Nat :=
  let keys := (pendingKeys s).1
  let act := activeKeys keys
  let slot := keys.getD (stmtSlot stmt) .empty
  let formed := stmt.length == 40 && stmt.take 4 == [0x4C, 0x58, 0x4B, 0x31] && decide (stmtSlot stmt < 8)
    && (stmtOp stmt == 1 || stmtOp stmt == 2) && stmt.getD 6 0 == 0 && stmt.getD 7 0 == 0
  if !maint then some 5
  else if !formed then some 1
  else if !act.isEmpty && !(act.any (fun k => edVerifyKey k sig stmt)) then some 1
  else if stmtOp stmt = 1 then
    (match slot with
     | .active _ => some 2
     | _ => if (pendingKeys s).2.contains (fingerprint (stmtKey stmt)) then some 3 else none)
  else
    (match slot with
     | .active k => if k != stmtKey stmt then some 1 else if act.length == 1 then some 4 else none
     | _ => some 1)

/-- Write the new key table of an accepted statement. -/
def writeKeys (stmt : List Byte) (act : PAct) (s : State) : State :=
  let (keys, revoked) := applyStmt stmt (pendingKeys s).1 (pendingKeys s).2
  persist (.keyTable keys revoked) act s

/-- KEY at the module that decides it: rejected and recorded, or the write of the new table begins; the reply follows it. -/
def keyService (se : Fin 64) (tag : W32) (stmt sig : List Byte) (maint : Bool) (s : State) : State :=
  match keyCause stmt sig maint s with
  | some c => reply se 0x0020 tag (if c = 5 then 1 else 8) [] (logKey stmt se.val (some c) s)
  | none => writeKeys stmt (.keyOp se tag stmt) s

/-- KEY (R39, R41, R391): class KEY first, in RUN at the holder or relayed to it. -/
def execKey (se : Fin 64) (tag : W32) (stmt sig : List Byte) (s : State) : Host.Outcome State Fault Refusal :=
  .next (
    if !sesOpen s se then s
    else
      let s := onSess se (fun x => { x with lastMsg := s.tb.now }) s
      let q := reqOf se s
      if tooMany s se then reply se 0x0020 tag 7 [] s
      else if s.mod.st == .failed || s.mod.st == .stopped then reply se 0x0020 tag 5 [] s
      else if !q.classes.getLsbD 2 then reply se 0x0020 tag 1 [] s
      else if inRun s && !holds s then
        (if holderReachable s then relay se none 0x0020 (some tag) 3 0 (.key stmt sig) s else reply se 0x0020 tag 5 [] s)
      else keyService se tag stmt sig q.maint s)

/-- KEY_OP_FORWARD_RECEIVE: the standby applies a key operation the holder has accepted, and confirms it once stored (R41). -/
def keyOpForward (id : Nat) (stmt : List Byte) (s : State) : State :=
  if stmtSlot stmt < 8 ∧ holds s = false then writeKeys stmt (.keyForward id stmt) s else s

end Sys2Proof.Machine
end

