-- ==== Sys2Proof/Machine/Credential.lean ====
section
/-!
DEFINITION. Credentials (15 R387, R388): their fields and the checks that sessions and the debug port share.
-/

namespace Sys2Proof.Machine

/-- Plant time (R133). -/
def plantTime (s : State) : Int := (s.tb.now : Int) + s.tb.ptpOfs

/-- The fields of a credential (R387). -/
def credKind (c : List Byte) : Nat := (c.getD 4 0).toNat
def credSlot (c : List Byte) : Nat := (c.getD 5 0).toNat
def credColours (c : List Byte) : BitVec 16 := BitVec.ofNat 16 (leNat ((c.drop 6).take 2))
def credRole (c : List Byte) : List Byte := (c.drop 8).take 16
def credKey (c : List Byte) : W256 := BitVec.ofNat 256 (leNat ((c.drop 24).take 32))
def credAfter (c : List Byte) : Nat := leNat ((c.drop 56).take 8)
def credScope (c : List Byte) : W64 := BitVec.ofNat 64 (leNat ((c.drop 64).take 8))
def credSig (c : List Byte) : List Byte := c.drop 72

/-- Magic and kind. -/
def credFormed (kind : Nat) (c : List Byte) : Bool := c.length == 136 && c.take 4 == [0x4C, 0x58, 0x43, 0x31] && credKind c == kind

/-- The key of the named slot, if it is ACTIVE. -/
def slotKey (n : Nat) (s : State) : Option W256 :=
  match s.img.keys.toList.getD n .empty with
  | .active k => some k
  | _ => none

/-- The signature over bytes 0 to 71 holds with a key. -/
def credSigned (key : W256) (c : List Byte) : Bool := edVerifyKey key (credSig c) (c.take 72)

/-- Not after is 0, or lies later than plant time. -/
def credLasts (c : List Byte) (s : State) : Bool := credAfter c == 0 || decide (plantTime s < (credAfter c : Int))

/-- The module scope is 0, this module, or its partner. -/
def credHere (c : List Byte) (s : State) : Bool :=
  credScope c == 0 || credScope c == Config.selfId || (s.pair.partner != .none && credScope c == s.pair.partnerId)

/-- The checks of R388 up to the role, in their order: the cause of a refusal (record 0x6003: 1 format, 2 key slot, 3 signature, 4 client
key, 5 expired, 6 module scope). `own` is the enrolment credential, signed by its client key. -/
def credCause (kind : Nat) (own : Bool) (c : List Byte) (shown : W256) (s : State) : Option Nat :=
  if !credFormed kind c then some 1
  else
    match (if own then some (credKey c) else slotKey (credSlot c) s) with
    | none => some 2
    | some k =>
      if !credSigned k c then some 3
      else if credKey c != shown then some 4
      else if !credLasts c s then some 5
      else if !credHere c s then some 6
      else none

end Sys2Proof.Machine
end

