-- ==== Sys2Proof/Machine/ImageFile.lean ====
section
/-!
DEFINITION. The structure image as bytes (02 R33 to R42): its container, and what its documented sections say.
-/

namespace Sys2Proof.Machine

/-! ### Fields -/

/-- The little-endian field of `n` bytes at an offset. -/
def fld (b : List Byte) (off n : Nat) : Nat := leNat ((b.drop off).take n)

/-- The big-endian field of 4 bytes at an offset (network order). -/
def netFld (b : List Byte) (off : Nat) : Nat := leNat ((b.drop off).take 4).reverse

/-- `n` bytes at an offset. -/
def cut (b : List Byte) (off n : Nat) : List Byte := (b.drop off).take n

/-- Bit `k` of a byte. -/
def fldBit (b : List Byte) (off k : Nat) : Bool := fld b off 1 / 2 ^ k % 2 == 1

/-- A task number of the event tasks, or none (0xFF, 0xFFFF). -/
def taskRef (v : Nat) : Option (Fin 128) := if h : v < 128 then some ⟨v, h⟩ else none

/-- A point, or none (0xFFFF). -/
def pointRef (v : Nat) : Option Nat := if v = 0xFFFF then none else some v

/-! ### The container (R33 to R36) -/

/-- The section types (R35), and the names they are stored under. -/
inductive SecKind where
  | task | chan | link | can | cmap | mirr | vars | panel | pwr | plain | seq | info
  deriving DecidableEq, Repr

/-- The name of a section type, padded with 0x00 to 8 bytes. -/
def SecKind.name : SecKind → List Byte
  | .task => [0x54, 0x41, 0x53, 0x4B, 0, 0, 0, 0]
  | .chan => [0x43, 0x48, 0x41, 0x4E, 0, 0, 0, 0]
  | .link => [0x4C, 0x49, 0x4E, 0x4B, 0, 0, 0, 0]
  | .can => [0x43, 0x41, 0x4E, 0, 0, 0, 0, 0]
  | .cmap => [0x43, 0x4D, 0x41, 0x50, 0, 0, 0, 0]
  | .mirr => [0x4D, 0x49, 0x52, 0x52, 0, 0, 0, 0]
  | .vars => [0x56, 0x41, 0x52, 0x53, 0, 0, 0, 0]
  | .panel => [0x50, 0x41, 0x4E, 0x45, 0x4C, 0, 0, 0]
  | .pwr => [0x50, 0x57, 0x52, 0, 0, 0, 0, 0]
  | .plain => [0x50, 0x4C, 0x41, 0x49, 0x4E, 0, 0, 0]
  | .seq => [0x53, 0x45, 0x51, 0, 0, 0, 0, 0]
  | .info => [0x49, 0x4E, 0x46, 0x4F, 0, 0, 0, 0]

/-- Every section type; an image contains each but the last exactly once. -/
def SecKind.required : List SecKind := [.task, .chan, .link, .can, .cmap, .mirr, .vars, .panel, .pwr, .plain, .seq]
def SecKind.all : List SecKind := SecKind.required ++ [.info]

/-- The total length that a header gives, and its number of sections. -/
def hdrTotal (b : List Byte) : Nat := fld b 8 8
def hdrCount (b : List Byte) : Nat := fld b 16 2

/-- An entry of the section table: its index, type, offset and length. -/
structure SecEntry where
  index : Nat
  kind : Option SecKind
  off : Nat
  len : Nat
  deriving DecidableEq, Repr

/-- The section table. -/
def secTable (b : List Byte) : List SecEntry :=
  (List.range (hdrCount b)).map (fun i =>
    let o := 96 + 64 * i
    { index := i, kind := SecKind.all.find? (fun k => k.name == cut b o 8), off := fld b (o + 16) 8, len := fld b (o + 24) 8 })

/-- The bytes of a section. -/
def secBytes (b : List Byte) (e : SecEntry) : List Byte := cut b e.off e.len

/-- The bytes of the section of a type; nothing when the image has none. -/
def section_ (b : List Byte) (k : SecKind) : List Byte :=
  match (secTable b).find? (fun e => e.kind == some k) with
  | some e => secBytes b e
  | none => []

/-! ### TASK -/

/-- A set of point ranges in the pool of TASK. -/
def readRanges (b : List Byte) (at_ count : Nat) : List (Nat × Nat) :=
  (List.range count).map (fun k => (fld b (at_ + 4 * k) 2, fld b (at_ + 4 * k + 2) 2))

/-- A task entry at offset `o`. -/
def readTask (b : List Byte) (o : Nat) : TaskEntry :=
  let pool := fld b 8 4
  { num := Fin.ofNat 128 (fld b o 1), event := fld b (o + 1) 1 == 1, priority := fld b (o + 2) 1, enable := fldBit b (o + 3) 0
    period := fld b (o + 4) 4, phase := fld b (o + 8) 4, deadline := fld b (o + 12) 4
    inputs := readRanges b (pool + fld b (o + 16) 4) (fld b (o + 24) 2)
    outputs := readRanges b (pool + fld b (o + 20) 4) (fld b (o + 26) 2)
    ovrLimit := fld b (o + 28) 1, policy := fld b (o + 29) 1 == 1, ovrTask := taskRef (fld b (o + 30) 1)
    errTask := taskRef (fld b (o + 31) 1), trigger := fld b (o + 32) 1, argA := fld b (o + 34) 2, argB := fld b (o + 36) 4 }

/-- The task entries of a TASK section. -/
def readTasks (b : List Byte) : List TaskEntry := (List.range (fld b 0 4)).map (fun i => readTask b (16 + 48 * i))

/-! ### CHAN -/

def readIsland (b : List Byte) (n : Nat) : IslandEntry :=
  let o := 16 + 16 * n
  { lowPower := fldBit b (o + 1) 0, latchOff := fldBit b (o + 1) 1, silenceUs := fld b (o + 4) 4 }

def readChan (b : List Byte) (c : Nat) : ChanEntry :=
  let o := 400 + 32 * c
  { mode := fld b (o + 2) 1, range := fld b (o + 3) 1, rate := fld b (o + 4) 1, filter := fld b (o + 5) 1, safe := fld b (o + 6) 1
    owDiag := fldBit b (o + 7) 0, interleave := fldBit b (o + 7) 1, ne43 := fldBit b (o + 7) 2, pwm := fldBit b (o + 7) 3
    gang := fld b (o + 7) 1 / 16 % 4, safeVal := BitVec.ofNat 64 (fld b (o + 8) 8)
    inPoint := pointRef (fld b (o + 16) 2), outPoint := pointRef (fld b (o + 18) 2)
    param0 := BitVec.ofNat 32 (fld b (o + 20) 4), param1 := BitVec.ofNat 32 (fld b (o + 24) 4)
    param2 := BitVec.ofNat 32 (fld b (o + 28) 4) }

/-! ### LINK -/

/-- Where the station, substitute and plant-port entries of LINK begin, and where they end. -/
def stnAt : Nat := 32 + 16 * 24
def subAt (b : List Byte) : Nat := stnAt + 32 * fld b 4 4
def portAt (b : List Byte) : Nat := subAt b + 16 * fld b 8 4

def readLink (b : List Byte) (l : Nat) : LinkEntry :=
  let o := 32 + 16 * l
  { enabled := fldBit b (o + 1) 0, ring := fldBit b (o + 1) 1, etherType := fld b (o + 2) 2, missLimit := fld b (o + 4) 1
    count := fld b (o + 5) 1 }

def readStation (b : List Byte) (o : Nat) : StationEntry :=
  { link := Fin.ofNat 24 (fld b o 1), pos := Fin.ofNat 32 (fld b (o + 1) 1), witness := fldBit b (o + 2) 0
    errTask := taskRef (fld b (o + 3) 1), vendor := BitVec.ofNat 32 (fld b (o + 4) 4), device := BitVec.ofNat 32 (fld b (o + 8) 4)
    inFirst := fld b (o + 12) 2, inCount := fld b (o + 14) 2, outFirst := fld b (o + 16) 2, outCount := fld b (o + 18) 2
    param := cut b (fld b 16 4 + fld b (o + 20) 4) (fld b (o + 24) 4) }

def readStations (b : List Byte) : List StationEntry := (List.range (fld b 4 4)).map (fun i => readStation b (stnAt + 32 * i))

def readSubsts (b : List Byte) : List SubstEntry :=
  (List.range (fld b 8 4)).map (fun i =>
    let o := subAt b + 16 * i
    ⟨fld b o 2, fld b (o + 2) 1, BitVec.ofNat 64 (fld b (o + 8) 8)⟩)

def readPort (b : List Byte) (n : Nat) : PortEntry :=
  let o := portAt b + 32 * n
  { enabled := fldBit b (o + 1) 0, ptp := fldBit b (o + 1) 1, domain := fld b (o + 2) 1, ip := BitVec.ofNat 32 (netFld b (o + 4))
    mask := BitVec.ofNat 32 (netFld b (o + 8)), gateway := BitVec.ofNat 32 (netFld b (o + 12)), mapInterval := fld b (o + 16) 4 }

/-! ### CAN -/

def readFilter (b : List Byte) (o : Nat) : FilterEntry :=
  let v := BitVec.ofNat 32 (fld b o 4)
  { ident := v.extractLsb' 0 29, extended := v.getLsbD 31, mask := BitVec.ofNat 32 (fld b (o + 4) 4), enabled := fldBit b (o + 8) 0
    task := taskRef (fld b (o + 10) 2) }

def readCan (b : List Byte) (p : Nat) : CanEntry :=
  let o := 16 + 400 * p
  { enabled := fldBit b (o + 1) 0, fd := fldBit b (o + 1) 1, brs := fldBit b (o + 1) 2, presc := fld b (o + 2) 2
    prop := fld b (o + 4) 1, ph1 := fld b (o + 5) 1, ph2 := fld b (o + 6) 1, sjw := fld b (o + 7) 1, dpresc := fld b (o + 8) 2
    dprop := fld b (o + 10) 1, dph1 := fld b (o + 11) 1, dph2 := fld b (o + 12) 1, dsjw := fld b (o + 13) 1
    filters := Vector.ofFn (fun k => readFilter b (o + 16 + 12 * k.val)) }

/-! ### CMAP, MIRR -/

/-- Where the role and the task entries of CMAP begin. -/
def roleAt (b : List Byte) : Nat := 16 + 16 * fld b 0 4
def maskAt (b : List Byte) : Nat := roleAt b + 32 * fld b 4 4

def readColours (b : List Byte) : List ColourRange :=
  (List.range (fld b 0 4)).map (fun i =>
    let o := 16 + 16 * i
    ⟨fld b o 4, fld b (o + 4) 4, BitVec.ofNat 4 (fld b (o + 8) 1)⟩)

def readRoles (b : List Byte) : List RoleEntry :=
  (List.range (fld b 4 4)).map (fun i =>
    let o := roleAt b + 32 * i
    ⟨cut b o 16, BitVec.ofNat 16 (fld b (o + 16) 2), BitVec.ofNat 16 (fld b (o + 18) 2), BitVec.ofNat 14 (fld b (o + 20) 4)⟩)

def readMasks (b : List Byte) : List TaskMask :=
  (List.range (fld b 8 4)).map (fun i =>
    let o := maskAt b + 8 * i
    ⟨Fin.ofNat 128 (fld b o 1), BitVec.ofNat 16 (fld b (o + 2) 2), BitVec.ofNat 16 (fld b (o + 4) 2)⟩)

def readMirr (b : List Byte) : List MirrRange :=
  (List.range (fld b 0 4)).map (fun i =>
    let o := 16 + 16 * i
    ⟨fld b o 4, fld b (o + 4) 4, fld b (o + 8) 1⟩)

/-! ### VARS, PANEL, PWR -/

/-- The bytes of a name in a pool, up to its 0x00. -/
def zeroText (b : List Byte) : List Byte := b.takeWhile (fun x => x != 0)

def readVar (b : List Byte) (o : Nat) : VarEntry :=
  let pool := fld b 4 4
  let plen := fld b 8 4
  { ident := BitVec.ofNat 64 (fld b o 8), typ := fld b (o + 8) 2, isSealed := fldBit b (o + 10) 0, hasInit := fldBit b (o + 10) 1
    declares := fldBit b (o + 10) 2, offset := fld b (o + 12) 4, size := fld b (o + 16) 4
    layoutHash := BitVec.ofNat 64 (fld b (o + 20) 8), prevType := fld b (o + 28) 2, conv := fld b (o + 30) 2
    init := cut b (pool + fld b (o + 32) 4) (fld b (o + 36) 4)
    name := zeroText (cut b (pool + fld b (o + 40) 4) (plen - fld b (o + 40) 4)) }

def readVars (b : List Byte) : List VarEntry := (List.range (fld b 0 4)).map (fun i => readVar b (16 + 48 * i))

def readRegions (b : List Byte) : List RegionEntry :=
  (List.range (fld b 4 4)).map (fun i =>
    let o := 16 + 16 * i
    ⟨fld b o 1, fld b (o + 1) 1, fld b (o + 2) 1, fld b (o + 3) 1 == 1, BitVec.ofNat 32 (fld b (o + 4) 4),
      cut b (fld b 8 4 + fld b (o + 8) 4) (fld b (o + 2) 1)⟩)

def readPwr (b : List Byte) : PwrSection :=
  { target := fld b 0 2, ceiling := fld b 2 2, floor := fld b 4 2, pfTask := taskRef (fld b 6 1), bothInputs := fldBit b 7 0
    telemetryMs := fld b 8 4 }

/-! ### The whole image -/

/-- The buffers that SEQ assigns to tasks. -/
def readCanTasks (seq : List Byte) : List (Fin 4 × Fin 32 × Fin 128) :=
  (List.finRange 4).flatMap (fun p => (List.finRange 32).filterMap (fun b => (Config.bufferTask seq p b).map (fun t => (p, b, t))))

/-- What a verified image's bytes say; the opaque sections by the undocumented decoders. -/
def readImage (b : List Byte) : Image :=
  let task := section_ b .task
  let chan := section_ b .chan
  let link := section_ b .link
  let can := section_ b .can
  let cmap := section_ b .cmap
  let mirr := section_ b .mirr
  let panel := section_ b .panel
  let sig := hdrTotal b - 128
  { ident := BitVec.ofNat 256 (fld b 32 32), keySlot := Fin.ofNat 8 (fld b (sig + 4) 1)
    keyFp := BitVec.ofNat 256 (fld b (sig + 80) 32)
    settings :=
      { statMs := fld task 4 4, leaseUs := fld mirr 4 4, swapHours := fld mirr 8 4, frameRate := fld panel 0 1
        panelLow := fldBit panel 1 0, panelTimeout := fld panel 2 2, port0 := readPort link 0, port1 := readPort link 1
        pwr := readPwr (section_ b .pwr) }
    tasks := readTasks task, islands := Vector.ofFn (fun n => readIsland chan n.val)
    channels := Vector.ofFn (fun c => readChan chan c.val), links := Vector.ofFn (fun l => readLink link l.val)
    stations := readStations link, substs := readSubsts link, can := Vector.ofFn (fun p => readCan can p.val)
    colours := readColours cmap, roles := readRoles cmap, taskMasks := readMasks cmap, mirr := readMirr mirr
    vars := readVars (section_ b .vars), regions := readRegions panel, plain := section_ b .plain, seq := section_ b .seq
    prog := Config.decodePlain (section_ b .plain), routs := Config.decodeSeq (section_ b .seq), canTasks := readCanTasks (section_ b .seq) }

end Sys2Proof.Machine
end

