-- ==== Sys2Proof/Machine/ImageCheck.lean ====
section
/-!
DEFINITION. The checks of a structure image (02 R33 to R47, R510, with R92, R269, R274, R297, R298, R318, R325, R327, R344, R359,
R366, R367, R386, R403 and R452), in the order that R510 gives.
-/

namespace Sys2Proof.Machine

/-- One check: whether it holds, the code of its failure, and the offset that IMG_ERRLOC then shows. -/
abbrev Chk := Bool × Nat × Nat

/-- A failure found: code and offset. -/
abbrev ImgBad := Nat × Nat

/-- The first check that fails. -/
def firstBad (cs : List Chk) : Option ImgBad := (cs.find? (fun c => !c.1)).map (fun c => c.2)

/-- A field of `n` bytes lies in a range; otherwise code 0x0F. -/
def inRange (b : List Byte) (o n lo hi : Nat) : Chk := (decide (lo ≤ fld b o n) && decide (fld b o n ≤ hi), 0x0F, o)

/-- Reserved bytes are 0. -/
def zeros (b : List Byte) (o n : Nat) : Chk := (fld b o n == 0, 0x0F, o)

/-- A byte has no bit set outside a mask. -/
def onlyBits (b : List Byte) (o mask : Nat) : Chk := (fld b o 1 &&& mask == fld b o 1, 0x0F, o)

/-- An event task number or none. -/
def refField (b : List Byte) (o n none : Nat) : Chk :=
  ((decide (64 ≤ fld b o n) && decide (fld b o n ≤ 127)) || fld b o n == none, 0x0F, o)

/-- Printable text up to a byte 0x00 is ASCII. -/
def asciiOk (t : List Byte) : Bool := t.all (fun x => x.toNat < 128)

/-- The pool that a section's header names at `at_` and `at_ + 4` lies behind the entries, inside the section (R42). -/
def poolOk (b : List Byte) (at_ entriesEnd : Nat) : List Chk :=
  [ (fld b (at_ + 4) 4 == 0 || decide (entriesEnd ≤ fld b at_ 4), 0x11, at_)
  , (fld b (at_ + 4) 4 == 0 || decide (fld b at_ 4 + fld b (at_ + 4) 4 ≤ b.length), 0x11, at_ + 4) ]

/-- The entries that a count announces lie inside the section. -/
def entriesFit (b : List Byte) (entriesEnd o : Nat) : Chk := (decide (entriesEnd ≤ b.length), 0x11, o)

/-- The sections that the table lists before the one that is checked: a type of a later section has no bytes. -/
abbrev Before := SecKind → Option (List Byte)

/-! ### Fields of two sections: each condition is checked with the later one (R510) -/

/-- The trigger of the entry of a task in a TASK section. -/
def trigOf (task : List Byte) (n : Nat) : Option Nat :=
  ((readTasks task).find? (fun t => t.num.val == n)).map (fun t => t.trigger)

/-- A task is named that the TASK section gives another trigger, or none at all. -/
def namesTask (before : Before) (n none trig : Nat) : Bool :=
  match before .task with
  | some t => n == none || trigOf t n == some trig
  | .none => true

/-- The points that CHAN, or LINK, binds. -/
def chanPoints (b : List Byte) (input : Bool) : List Nat :=
  (List.range 192).filterMap (fun c => if input then (readChan b c).inPoint else (readChan b c).outPoint)
def linkBinds (b : List Byte) (input : Bool) (p : Nat) : Bool :=
  (readStations b).any (fun e => if input then e.inFirst ≤ p && p < e.inFirst + e.inCount else e.outFirst ≤ p && p < e.outFirst + e.outCount)

/-! ### TASK -/

/-- The largest argument A of a trigger, and the bits of argument B. For trigger 0, of a cyclic task, the table states no arguments: they are 0
here (DESIGN CHOICE, log 69). -/
def trigArgs (trig : Nat) : Nat × Nat :=
  if trig = 1 ∨ trig = 2 then (191, 3) else if trig = 3 then (3, 31) else if trig = 4 then (255, 0) else if trig = 9 then (127, 0)
  else (0, 0)

/-- The task entries before entry `i`. -/
def tasksBefore (b : List Byte) (i : Nat) : List TaskEntry := (readTasks b).take i

/-- CAN filters, stations and the power-fail task of sections before TASK agree with a task entry. -/
def taskFits (before : Before) (t : TaskEntry) (o : Nat) : List Chk :=
  [ (match before .link with
      | some k => (readStations k).all (fun e => e.errTask != some t.num || t.trigger == 5)
      | none => true, 0x11, o + 32)
  , (match before .pwr with
      | some k => (readPwr k).pfTask != some t.num || t.trigger == 7
      | none => true, 0x11, o + 32)
  , (match before .can with
      | some k => (List.finRange 4).all (fun p => (List.finRange 32).all (fun f =>
          let named := (readCan k p.val).filters[f].task
          let fits := t.trigger == 3 && t.argA == p.val && t.argB == f.val
          if named == some t.num then fits else !(fits && named.isNone)))
      | none => true, 0x11, o + 36) ]

/-- One task entry (R42). -/
def checkTask (b : List Byte) (before : Before) (i : Nat) : List Chk :=
  let o := 16 + 48 * i
  let t := readTask b o
  let earlier := tasksBefore b i
  let cyclic := fld b (o + 1) 1 == 0
  let args := trigArgs t.trigger
  [ inRange b o 1 0 127, (!(earlier.any (fun e => e.num == t.num)), 0x11, o)
  , inRange b (o + 1) 1 0 1, (fld b (o + 1) 1 == (if t.num.val < 64 then 0 else 1), 0x0F, o + 1)
  , inRange b (o + 2) 1 0 63, onlyBits b (o + 3) 1
  , if cyclic then inRange b (o + 4) 4 5 6000000 else zeros b (o + 4) 4
  , if cyclic then inRange b (o + 8) 4 0 (t.period - 1) else zeros b (o + 8) 4
  , if cyclic then inRange b (o + 12) 4 5 t.period else inRange b (o + 12) 4 5 6000000
  , inRange b (o + 24) 2 0 4096, (t.inputs.isEmpty || decide (fld b (o + 16) 4 + 4 * fld b (o + 24) 2 ≤ fld b 12 4), 0x11, o + 24)
  , inRange b (o + 26) 2 0 4096, (t.outputs.isEmpty || decide (fld b (o + 20) 4 + 4 * fld b (o + 26) 2 ≤ fld b 12 4), 0x11, o + 26)
  , inRange b (o + 28) 1 1 255, inRange b (o + 29) 1 0 1
  , refField b (o + 30) 1 0xFF
  , (earlier.all (fun e => t.ovrTask != some e.num || e.trigger == 6), 0x11, o + 30)
  , refField b (o + 31) 1 0xFF
  , (earlier.all (fun e => t.errTask != some e.num || e.trigger == 5), 0x11, o + 31)
  , if cyclic then zeros b (o + 32) 1 else inRange b (o + 32) 1 1 9
  , (earlier.all (fun e => (e.ovrTask != some t.num || t.trigger == 6) && (e.errTask != some t.num || t.trigger == 5)), 0x11, o + 32)
  , (t.trigger != 7 || !(earlier.any (fun e => e.trigger == 7)), 0x11, o + 32)
  , zeros b (o + 33) 1, inRange b (o + 34) 2 0 args.1
  , (fld b (o + 36) 4 &&& args.2 == fld b (o + 36) 4, 0x0F, o + 36) ]
  ++ taskFits before t o ++ [zeros b (o + 40) 8]

/-- The ranges of a set: first ≤ last in its own entry, ascending and apart against the entry before (R42, R510). -/
def checkRanges (b : List Byte) (at_ count : Nat) : List Chk :=
  let rs := readRanges b at_ count
  (List.range count).flatMap (fun k =>
    let r := rs.getD k (0, 0)
    [ (k == 0 || decide ((rs.getD (k - 1) (0, 0)).2 < r.1), 0x11, at_ + 4 * k), (decide (r.1 ≤ r.2), 0x11, at_ + 4 * k + 2) ])

/-- The tasks that sections before TASK, or its own entries, name and that have no entry. -/
def missingTasks (b : List Byte) (before : Before) : List Chk :=
  let ts := readTasks b
  let has := fun (r : Option (Fin 128)) => match r with
    | some n => ts.any (fun e => e.num == n)
    | none => true
  (List.range ts.length).flatMap (fun i =>
    match ts[i]? with
    | some t => [(has t.ovrTask, 0x11, 16 + 48 * i + 30), (has t.errTask, 0x11, 16 + 48 * i + 31)]
    | none => [])
  ++ [ (match before .link with
         | some k => (readStations k).all (fun e => has e.errTask)
         | none => true, 0x11, 0)
     , (match before .pwr with
         | some k => has (readPwr k).pfTask
         | none => true, 0x11, 0)
     , (match before .can with
         | some k => (List.finRange 4).all (fun p => (List.finRange 32).all (fun f => has (readCan k p.val).filters[f].task))
         | none => true, 0x11, 0) ]

/-- The TASK section. -/
def checkTaskSec (b : List Byte) (before : Before) : List Chk :=
  let n := fld b 0 4
  let ms := fld b 4 4
  let pool := fld b 8 4
  [ inRange b 0 4 1 128, entriesFit b (16 + 48 * n) 0, inRange b 4 4 100 60000
  , (1000 % ms == 0 || ms % 1000 == 0, 0x0F, 4) ]
  ++ poolOk b 8 (16 + 48 * n)
  ++ (List.range n).flatMap (checkTask b before) ++ missingTasks b before
  ++ (List.range n).flatMap (fun i =>
    let o := 16 + 48 * i
    checkRanges b (pool + fld b (o + 16) 4) (fld b (o + 24) 2) ++ checkRanges b (pool + fld b (o + 20) 4) (fld b (o + 26) 2))

/-! ### CHAN -/

/-- The number of range codes of a mode (R297, R325, R344). -/
def rangeCodes (mode : Nat) : Nat × Nat :=
  if mode = 1 ∨ mode = 2 ∨ mode = 4 then (1, 3) else if mode = 3 then (1, 1) else if mode = 5 then (1, 8)
  else if mode = 6 ∨ mode = 7 then (1, 2) else (0, 0)

/-- The greatest safe state that a mode accepts (R274). -/
def safeCodes (mode : Nat) : Nat := if mode = 6 then 4 else if mode = 7 ∨ mode = 11 then 2 else 0

/-- The channel flags that a mode accepts, but for interleaving (R305, R312, R327, R344). -/
def flagMask (mode range : Nat) : Nat :=
  if mode = 2 then (if range = 2 then 4 else 0)
  else if mode = 11 then 0x39
  else if mode = 0 ∨ mode = 7 then 0 else 1

/-- A channel is a member of the group that a channel before it leads (R359). -/
def isMember (b : List Byte) (c : Nat) : Bool :=
  (List.range (c % 8)).any (fun k =>
    let l := c / 8 * 8 + k
    let e := readChan b l
    e.mode == 11 && (e.gang == 1 || e.gang == 2) && decide (c < l + groupSize e))

/-- The mode parameters of an analogue input (R298). -/
def aiParams (b : List Byte) (o mode : Nat) : List Chk :=
  let p := fld b (o + 20) 1
  let wiring := p % 4
  let cj := p / 4 % 2
  let w := fld b (o + 22) 2
  [ (decide (p < 64) && decide (p / 16 % 4 ≤ 2) && (wiring == 0 || ((mode == 3 || mode == 4) && wiring != 3)) && (cj == 0 || mode == 5)
      && (mode != 2 || p / 8 == 0), 0x0F, o + 20)
  , (if (mode == 3 || mode == 4) && wiring == 0 then true
     else if mode == 5 && cj == 1 then (decide (w ≤ 12500) || decide (65536 - 4000 ≤ w)) else w == 0, 0x0F, o + 22) ]

/-- The mode parameters of an analogue output (R327). -/
def aoParams (b : List Byte) (o mode : Nat) : List Chk :=
  let low := fld b (o + 22) 2
  let high := fld b (o + 24) 2
  [ inRange b (o + 20) 1 0 (if mode = 7 then 1 else 3), zeros b (o + 21) 1
  , (low == 0 || (mode == 6 && decide (3000 ≤ low) && decide (low ≤ 3600)), 0x0F, o + 22)
  , (high == 0 || (mode == 6 && decide (21000 ≤ high) && decide (high ≤ 23000)), 0x0F, o + 24)
  , zeros b (o + 26) 6 ]

/-- The mode parameters of a digital channel (R344). -/
def digitalParams (b : List Byte) (o mode : Nat) (pwm : Bool) : List Chk :=
  [ (if mode = 9 then inRange b (o + 20) 1 1 3 else if mode = 10 then inRange b (o + 20) 1 1 2 else zeros b (o + 20) 1)
  , zeros b (o + 21) 3
  , if mode = 10 then inRange b (o + 24) 4 0 10000 else if mode = 11 && pwm then inRange b (o + 24) 4 1000 10000000 else zeros b (o + 24) 4
  , zeros b (o + 28) 4 ]

/-- One channel entry, its fields in byte order. -/
def checkChan (b : List Byte) (before : Before) (c : Nat) : List Chk :=
  let o := 400 + 32 * c
  let e := readChan b c
  let m := e.mode
  let flags := fld b (o + 7) 1
  let member := isMember b c
  let prevInterleaved := decide (0 < c) && (readChan b (c - 1)).interleave
  let earlier := fun (input : Bool) (p : Nat) =>
    (List.range c).any (fun k => (if input then (readChan b k).inPoint else (readChan b k).outPoint) == some p)
      || (match before .link with | some k => linkBinds k input p | none => false)
  let point := fun (input : Bool) (p : Option Nat) (at_ : Nat) => match p with
    | none => []
    | some n => [(!member, 0x11, at_), (!earlier input n, 0x11, at_)]
  [ (fld b o 2 == c, 0x0F, o), (decide (m ≤ 11) && (!member || m == 11), 0x0F, o + 2), (!prevInterleaved || m == 0, 0x11, o + 2)
  , inRange b (o + 3) 1 (rangeCodes m).1 (rangeCodes m).2
  , if isAi e then inRange b (o + 4) 1 1 9 else zeros b (o + 4) 1
  , if isDi e then inRange b (o + 5) 1 1 9 else zeros b (o + 5) 1
  , inRange b (o + 6) 1 0 (if member then 0 else safeCodes m)
  , (flags &&& (flagMask m e.range ||| 2) == flags && e.gang != 3 && (!member || flags == 0) && (m != 0 || flags == 0)
      && (!e.interleave || c % 2 == 0) && (e.gang == 0 || (c % 8 % groupSize e == 0 && decide (c % 8 + groupSize e ≤ 8))), 0x0F, o + 7)
  , (!e.interleave || isAi e, 0x11, o + 7)
  , if m = 0 then zeros b (o + 8) 8 else (true, 0, 0) ]
  ++ point true e.inPoint (o + 16) ++ point false e.outPoint (o + 18)
  ++ (if m = 0 then [zeros b (o + 20) 12] else if isAi e then aiParams b o m else if isAo e then aoParams b o m
      else digitalParams b o m e.pwm)

/-- The CHAN section. -/
def checkChanSec (b : List Byte) (before : Before) : List Chk :=
  [ (b.length == 6544, 0x0F, 0), inRange b 0 4 192 192, inRange b 4 4 24 24, zeros b 8 8 ]
  ++ (List.range 24).flatMap (fun n =>
    let o := 16 + 16 * n
    [inRange b o 1 n n, onlyBits b (o + 1) 3, zeros b (o + 2) 2, inRange b (o + 4) 4 100 1000000, zeros b (o + 8) 8])
  ++ (List.range 192).flatMap (checkChan b before)

/-! ### LINK -/

/-- Two runs share a member; an empty run shares none. -/
def runsMeet (f1 n1 f2 n2 : Nat) : Bool := decide (0 < n1) && decide (0 < n2) && decide (f1 < f2 + n2) && decide (f2 < f1 + n1)

/-- One station entry. -/
def checkStation (b : List Byte) (before : Before) (i : Nat) : List Chk :=
  let o := stnAt + 32 * i
  let e := readStation b o
  let earlier := (readStations b).take i
  let chans := fun (input : Bool) (f n : Nat) => match before .chan with
    | some k => (chanPoints k input).any (fun p => f ≤ p && p < f + n)
    | none => false
  [ inRange b o 1 0 23, inRange b (o + 1) 1 0 31
  , (!(earlier.any (fun x => x.link == e.link && x.pos == e.pos)) && decide (e.pos.val < (readLink b e.link.val).count), 0x11, o + 1)
  , onlyBits b (o + 2) 1, refField b (o + 3) 1 0xFF, (namesTask before (fld b (o + 3) 1) 0xFF 5, 0x11, o + 3)
  , inRange b (o + 14) 2 0 4096, (decide (e.inFirst + e.inCount ≤ 65536), 0x0F, o + 14)
  , (!(earlier.any (fun x => runsMeet x.inFirst x.inCount e.inFirst e.inCount)) && !chans true e.inFirst e.inCount, 0x11, o + 14)
  , inRange b (o + 18) 2 0 4096, (decide (e.outFirst + e.outCount ≤ 65536), 0x0F, o + 18)
  , (!(earlier.any (fun x => runsMeet x.outFirst x.outCount e.outFirst e.outCount)) && !chans false e.outFirst e.outCount, 0x11, o + 18)
  , inRange b (o + 24) 4 0 65536
  , (decide (fld b (o + 20) 4 + fld b (o + 24) 4 ≤ fld b 20 4), 0x11, o + 24), zeros b (o + 28) 4 ]

/-- The stations of a link: as many as its entry says, with at most 4 096 points each way. -/
def checkLinkSums (b : List Byte) (l : Nat) : List Chk :=
  let mine := (readStations b).filter (fun e => e.link.val == l)
  let o := 32 + 16 * l
  [ (mine.length == (readLink b l).count, 0x11, o)
  , (decide (mine.foldl (fun a e => a + e.inCount) 0 ≤ 4096) && decide (mine.foldl (fun a e => a + e.outCount) 0 ≤ 4096), 0x10, o) ]

/-- One plant-port entry (R42, R130, R386). -/
def checkPort (b : List Byte) (n : Nat) : List Chk :=
  let o := portAt b + 32 * n
  let e := readPort b n
  let next := e.ip.toNat + 1
  let broadcast := (e.ip &&& e.mask) ||| ~~~ e.mask
  [ inRange b o 1 n n, onlyBits b (o + 1) 3, inRange b (o + 2) 1 0 127
  , (n == 0 || !e.ptp || !(readPort b 0).ptp || (readPort b 0).domain == e.domain, 0x11, o + 2), zeros b (o + 3) 1
  , (!e.enabled || (decide (next < 2 ^ 32) && ((e.ip + 1) &&& e.mask) == (e.ip &&& e.mask) && e.ip + 1 != broadcast), 0x0F, o + 8)
  , inRange b (o + 16) 4 60 86400, zeros b (o + 20) 12 ]

/-- The LINK section. Link entry n carries number n and plant-port entry n carries n, as CAN's port records do: the tables state the ranges
only (DESIGN CHOICE, log 69). -/
def checkLinkSec (b : List Byte) (before : Before) : List Chk :=
  [ inRange b 0 4 24 24, inRange b 4 4 0 768, inRange b 8 4 0 65536, inRange b 12 4 2 2, entriesFit b (portAt b + 64) 0 ]
  ++ poolOk b 16 (portAt b + 64) ++ [zeros b 24 8]
  ++ (List.range 24).flatMap (fun l =>
    let o := 32 + 16 * l
    [inRange b o 1 l l, onlyBits b (o + 1) 3, inRange b (o + 2) 2 0x0600 0xFFFF, inRange b (o + 4) 1 1 255, inRange b (o + 5) 1 0 32
    , zeros b (o + 6) 10])
  ++ (List.range (fld b 4 4)).flatMap (checkStation b before) ++ (List.range 24).flatMap (checkLinkSums b)
  ++ (List.range (fld b 8 4)).flatMap (fun i =>
    let o := subAt b + 16 * i
    let p := fld b o 2
    [ (linkBinds b true p && !(((readSubsts b).take i).any (fun x => x.point == p)), 0x11, o), inRange b (o + 2) 1 0 2, zeros b (o + 3) 5 ])
  ++ checkPort b 0 ++ checkPort b 1

/-! ### CAN -/

/-- Time quanta of a bit (R366). -/
def tqBits (prop ph1 ph2 : Nat) : Nat := 1 + prop + ph1 + ph2

/-- The timing of an enabled port (R366, R367). -/
def checkTiming (b : List Byte) (o : Nat) (e : CanEntry) : List Chk :=
  let nom := e.presc * tqBits e.prop e.ph1 e.ph2
  let dat := e.dpresc * tqBits e.dprop e.dph1 e.dph2
  [ inRange b (o + 2) 2 1 256, inRange b (o + 4) 1 1 64, inRange b (o + 5) 1 1 64, inRange b (o + 6) 1 2 32
  , (decide (80 ≤ nom), 0x0F, o + 6), inRange b (o + 7) 1 1 (min e.ph1 e.ph2) ]
  ++ (if e.brs then
        [ inRange b (o + 8) 2 1 32, inRange b (o + 10) 1 0 15, inRange b (o + 11) 1 1 16, inRange b (o + 12) 1 2 16
        , (decide (16 ≤ dat) && decide (dat ≤ nom), 0x0F, o + 12), inRange b (o + 13) 1 1 (min e.dph1 e.dph2) ]
      else [zeros b (o + 8) 2, zeros b (o + 10) 1, zeros b (o + 11) 1, zeros b (o + 12) 1, zeros b (o + 13) 1])

/-- One filter entry, with the event task it names. -/
def checkFilter (b : List Byte) (before : Before) (p o f : Nat) : List Chk :=
  let n := fld b (o + 10) 2
  let fits := match before .task with
    | some t =>
      if n = 0xFFFF then !((readTasks t).any (fun e => e.trigger == 3 && e.argA == p && e.argB == f))
      else (readTasks t).any (fun e => e.num.val == n && e.trigger == 3 && e.argA == p && e.argB == f)
    | none => true
  [ (fld b o 4 / 2 ^ 29 % 4 == 0, 0x0F, o), onlyBits b (o + 8) 1, zeros b (o + 9) 1, refField b (o + 10) 2 0xFFFF, (fits, 0x11, o + 10) ]

/-- The CAN section. -/
def checkCanSec (b : List Byte) (before : Before) : List Chk :=
  [ inRange b 0 4 4 4, entriesFit b 1616 0, zeros b 4 12 ]
  ++ (List.range 4).flatMap (fun p =>
    let o := 16 + 400 * p
    let e := readCan b p
    [ inRange b o 1 p p, onlyBits b (o + 1) 7, (!e.enabled || !e.brs || e.fd, 0x0F, o + 1) ]
    ++ (if e.enabled then checkTiming b o e else []) ++ [zeros b (o + 14) 2]
    ++ (List.range 32).flatMap (fun f => checkFilter b before p (o + 16 + 12 * f) f))

/-! ### CMAP, MIRR -/

/-- The end of the granule indexes (R42). -/
def granuleEnd : Nat := 4227072

/-- Sealed variables lie entirely in colour 15, and only they do. -/
def sealedOk (colours : List ColourRange) (v : VarEntry) : Bool :=
  (varGranules v).all (fun g => if v.isSealed then colourIn colours g == 15 else colourIn colours g != 15)

/-- The colour of a range suits the variables of a VARS section before: those that it touches are sealed exactly when it is 15. -/
def rangeSuits (before : Before) (g n colour : Nat) : Bool :=
  match before .vars with
  | some v => (readVars v).all (fun x => !((varGranules x).any (fun k => g ≤ k && k < g + n)) || x.isSealed == (colour == 15))
  | none => true

/-- The CMAP section. A sealed variable that no range covers is found after the last range. -/
def checkCmapSec (b : List Byte) (before : Before) : List Chk :=
  [ inRange b 0 4 0 65536, inRange b 4 4 0 32, inRange b 8 4 0 128, entriesFit b (maskAt b + 8 * fld b 8 4) 8, zeros b 12 4 ]
  ++ (List.range (fld b 0 4)).flatMap (fun i =>
    let o := 16 + 16 * i
    let g := fld b o 4
    let n := fld b (o + 4) 4
    [ inRange b o 4 0 (granuleEnd - 1), (decide (1 ≤ n) && decide (g + n ≤ granuleEnd), 0x0F, o + 4)
    , (!(((readColours b).take i).any (fun r => runsMeet r.first r.count g n)), 0x11, o + 4)
    , inRange b (o + 8) 1 0 15, (rangeSuits before g n (fld b (o + 8) 1), 0x11, o + 8), zeros b (o + 9) 7 ])
  ++ [ (match before .vars with
         | some v => (readVars v).all (sealedOk (readColours b))
         | none => true, 0x11, 16 * fld b 0 4) ]
  ++ (List.range (fld b 4 4)).flatMap (fun i =>
    let o := roleAt b + 32 * i
    [ (asciiOk (cut b o 16), 0x0F, o), inRange b (o + 16) 2 0 0x7FFF, inRange b (o + 18) 2 0 0x7FFF, inRange b (o + 20) 4 0 0x3FFF
    , zeros b (o + 24) 8 ])
  ++ (List.range (fld b 8 4)).flatMap (fun i =>
    let o := maskAt b + 8 * i
    [ inRange b o 1 0 127, (!(((readMasks b).take i).any (fun m => m.task.val == fld b o 1)), 0x11, o), zeros b (o + 1) 1
    , inRange b (o + 4) 2 0 0x7FFF, zeros b (o + 6) 2 ])

/-- The MIRR section. -/
def checkMirrSec (b : List Byte) : List Chk :=
  [ inRange b 0 4 1 65536, entriesFit b (16 + 16 * fld b 0 4) 0, inRange b 4 4 1000 50000
  , (fld b 8 4 == 0 || (decide (24 ≤ fld b 8 4) && decide (fld b 8 4 ≤ 8760)), 0x0F, 8), zeros b 12 4 ]
  ++ (List.range (fld b 0 4)).flatMap (fun i =>
    let o := 16 + 16 * i
    [ (decide (16384 ≤ fld b o 4) && decide (fld b o 4 < granuleEnd), 0x0F, o)
    , (decide (1 ≤ fld b (o + 4) 4) && decide (fld b o 4 + fld b (o + 4) 4 ≤ granuleEnd), 0x0F, o + 4)
    , inRange b (o + 8) 1 0 6, zeros b (o + 9) 7 ])

/-! ### VARS, PANEL, PWR -/

/-- The size of a type in bytes; 0 for STRING and COMPOSITE, whose size Workbench sets. -/
def typeSize (typ : Nat) : Nat :=
  if typ = 1 ∨ typ = 2 ∨ typ = 6 then 1 else if typ = 3 ∨ typ = 7 then 2 else if typ = 4 ∨ typ = 8 ∨ typ = 0x0A then 4
  else if typ = 0x0D ∨ typ = 0x0E then 0 else 8

/-- One variable entry. A STRING or COMPOSITE of size 0 is out of range (DESIGN CHOICE, log 69). -/
def checkVar (b : List Byte) (before : Before) (i : Nat) : List Chk :=
  let o := 16 + 48 * i
  let v := readVar b o
  let earlier := (readVars b).take i
  let sz := typeSize v.typ
  [ (v.ident != 0, 0x0F, o), (!(earlier.any (fun e => e.ident == v.ident)), 0x11, o), inRange b (o + 8) 2 1 0x0E
  , inRange b (o + 10) 2 0 7
  , (v.offset % (if sz = 0 then 16 else sz) == 0 && decide (v.offset < 0x10000000), 0x0F, o + 12)
  , (if sz = 0 then decide (1 ≤ v.size) else v.size == sz, 0x0F, o + 16), (decide (v.offset + v.size ≤ 0x10000000), 0x0F, o + 16)
  , (match before .cmap with | some c => sealedOk (readColours c) v | none => true, 0x11, o + 16)
  , (!(earlier.any (fun e => runsMeet e.offset e.size v.offset v.size)), 0x11, o + 16)
  , (v.typ == 0x0E || v.layoutHash == 0, 0x0F, o + 20)
  , if v.declares then inRange b (o + 28) 2 1 0x0E else zeros b (o + 28) 2
  , if v.declares then inRange b (o + 30) 2 0 3 else zeros b (o + 30) 2
  , (fld b (o + 36) 4 == (if v.hasInit then v.size else 0), 0x0F, o + 36)
  , (!v.hasInit || decide (fld b (o + 32) 4 + fld b (o + 36) 4 ≤ fld b 8 4), 0x11, o + 36)
  , (decide (fld b (o + 40) 4 < fld b 8 4), 0x11, o + 40), zeros b (o + 44) 4 ]

/-- The VARS section; the pool's names are ASCII and end with 0x00. -/
def checkVarsSec (b : List Byte) (before : Before) : List Chk :=
  let n := fld b 0 4
  [ inRange b 0 4 0 1048576, entriesFit b (16 + 48 * n) 0 ] ++ poolOk b 4 (16 + 48 * n) ++ [zeros b 12 4]
  ++ (List.range n).flatMap (checkVar b before)
  ++ (List.range n).map (fun i =>
    let o := 16 + 48 * i
    let rest := cut b (fld b 4 4 + fld b (o + 40) 4) (fld b 8 4 - fld b (o + 40) 4)
    (rest.contains 0 && asciiOk (zeroText rest), 0x0F, fld b 4 4 + fld b (o + 40) 4))

/-- The PANEL section (R42, R452). -/
def checkPanelSec (b : List Byte) : List Chk :=
  let n := fld b 4 4
  [ inRange b 0 1 0 2, onlyBits b 1 1
  , ((fld b 2 2 == 0 && fld b 1 1 == 0) || (decide (10 ≤ fld b 2 2) && decide (fld b 2 2 ≤ 3600)), 0x0F, 2)
  , inRange b 4 4 1 16, entriesFit b (16 + 16 * n) 4 ] ++ poolOk b 8 (16 + 16 * n)
  ++ (List.range n).flatMap (fun i =>
    let o := 16 + 16 * i
    let r : RegionEntry := (readRegions b).getD i ⟨0, 0, 0, false, 0, []⟩
    let earlier := (readRegions b).take i
    [ inRange b o 1 0 15, (!(earlier.any (fun e => e.num == r.num)), 0x11, o), inRange b (o + 1) 1 0 5, inRange b (o + 2) 1 1 6
    , (decide (r.first + r.count ≤ 6), 0x0F, o + 2), (!(earlier.any (fun e => runsMeet e.first e.count r.first r.count)), 0x11, o + 2)
    , inRange b (o + 3) 1 0 1, (earlier.all (fun e => e.iconMask &&& r.iconMask == 0), 0x11, o + 4)
    , (decide (fld b (o + 8) 4 + r.count ≤ fld b 12 4), 0x11, o + 8), zeros b (o + 12) 4 ])

/-- The PWR section. Power-fail task 0xFF is accepted beside a task with trigger 7 (DESIGN CHOICE, log 69). -/
def checkPwrSec (b : List Byte) (before : Before) : List Chk :=
  [ (b.length == 32, 0x0F, 0), inRange b 0 2 50 500, inRange b 2 2 780 850, inRange b 4 2 720 780, refField b 6 1 0xFF
  , (namesTask before (fld b 6 1) 0xFF 7, 0x11, 6), onlyBits b 7 1, inRange b 8 4 100 60000, zeros b 12 20 ]

/-- The checks of one documented section. -/
def checkSection (k : SecKind) (b : List Byte) (before : Before) : List Chk :=
  match k with
  | .task => checkTaskSec b before
  | .chan => checkChanSec b before
  | .link => checkLinkSec b before
  | .can => checkCanSec b before
  | .cmap => checkCmapSec b before
  | .mirr => checkMirrSec b
  | .vars => checkVarsSec b before
  | .panel => checkPanelSec b
  | .pwr => checkPwrSec b before
  | .plain => []
  | .seq => []
  | .info => []

/-! ### The image as a whole: R43, R92, R269, and the opaque sections (R44) -/

/-- The first granule of variable space that breaks R43: a role may write its colour and no MIRR range holds it. -/
def unmirrored (i : Image) : Option Nat :=
  let mask : BitVec 16 := i.roles.foldl (fun a r => a ||| r.writeMask) 0
  ((List.range (granuleEnd - 32768)).map (fun k => 32768 + k)).find? (fun g =>
    grants mask (colourIn i.colours g) && !(i.mirr.any (fun r => r.first ≤ g && g < r.first + r.count)))

/-- The entry of CMAP that R43's location names: the colour range over the granule, or for a granule of no range the first role that may
write colour 0 (DEDUCED, log 69). -/
def checkR43 (b : List Byte) (i : Image) : Chk :=
  match unmirrored i with
  | none => (true, 0x11, 0)
  | some g =>
    match i.colours.findIdx? (fun r => r.first ≤ g && g < r.first + r.count) with
    | some k => (false, 0x11, 16 + 16 * k)
    | none => (false, 0x11, roleAt b + 32 * i.roles.findIdx (fun r => r.writeMask.getLsbD 0))

/-- Following trigger 9 from a task leads back to it within `n` steps. -/
def loopsBack (ts : List TaskEntry) (start : Nat) : Nat → Nat → Bool
  | 0, _ => false
  | n + 1, t =>
    match ts.find? (fun e => e.num.val == t) with
    | some e => e.trigger == 9 && (e.argA == start || loopsBack ts start n e.argA)
    | none => false

/-- The conditions of R92 for entry `i` of TASK. -/
def checkR92 (ts : List TaskEntry) (i : Nat) : List Chk :=
  match ts[i]? with
  | none => []
  | some t =>
    let o := 16 + 48 * i
    [ (!((ts.take i).any (fun e => e.outputs.any (fun r => t.outputs.any (fun q => r.1 ≤ q.2 && q.1 ≤ r.2)))), 0x11, o)
    , (!(t.event && (t.ovrTask == some t.num || t.errTask == some t.num)), 0x11, o)
    , (!loopsBack ts t.num.val (ts.length + 1) t.num.val, 0x11, o)
    , (!(t.trigger == 7 && decide (500 < t.deadline)), 0x11, o)
    , (!(t.trigger == 9 && !(ts.any (fun e => e.num.val == t.argA))), 0x11, o) ]

/-! ### The container, the signature, the whole verification (R46, R47) -/

/-- The header checks of R46, once byte 95 has arrived. -/
def checkHeader (b : List Byte) : Option ImgBad :=
  let n := hdrTotal b
  firstBad
    [ (cut b 0 4 == [0x4C, 0x58, 0x49, 0x4D], 0x01, 0), (fld b 4 2 == 1, 0x02, 4), (fld b 6 2 == 0, 0x02, 6)
    , (fld b 18 2 == 96, 0x04, 18), (hdrCount b == 11 || hdrCount b == 12, 0x05, 16)
    , (n % 64 == 0 && decide (n ≤ 536870912) && decide (96 + 64 * hdrCount b + 128 ≤ n), 0x03, 8)
    , zeros b 20 4, zeros b 24 8, zeros b 88 8 ]

/-- One entry of the section table (R35, R36). -/
def checkTableEntry (b : List Byte) (es : List SecEntry) (i : Nat) : List Chk :=
  match es[i]? with
  | none => []
  | some e =>
    let o := 96 + 64 * i
    let prevEnd := match (if i = 0 then none else es[i - 1]?) with
      | some p => p.off + p.len
      | none => 96 + 64 * hdrCount b
    let documented := e.kind != some .plain && e.kind != some .seq && e.kind != some .info
    [ (e.kind.isSome, 0x08, o), (!((es.take i).any (fun p => p.kind == e.kind)), 0x07, o)
    , (!documented || fld b (o + 8) 2 == 1, 0x0E, o + 8), zeros b (o + 10) 2, zeros b (o + 12) 4
    , (e.off % 64 == 0 && decide (prevEnd ≤ e.off), 0x05, o + 16), (decide (e.off + e.len + 128 ≤ hdrTotal b), 0x05, o + 24) ]

/-- The padding before offset `b2` is 0x00. -/
def padOk (b : List Byte) (a b2 : Nat) : Chk := ((cut b a (b2 - a)).all (fun x => x == 0), 0x05, a)

/-- The section table and the padding. -/
def checkTable (b : List Byte) : List Chk :=
  let es := secTable b
  let ends := (96 + 64 * hdrCount b) :: es.map (fun e => e.off + e.len)
  let starts := es.map (fun e => e.off) ++ [hdrTotal b - 128]
  (List.range es.length).flatMap (checkTableEntry b es)
  ++ [(SecKind.required.all (fun k => es.any (fun e => e.kind == some k)), 0x06, 96)]
  ++ List.zipWith (padOk b) ends starts

/-- The identity of an image (R37). -/
def identityOf (b : List Byte) : W256 :=
  sha256 (b.take 32 ++ List.replicate 32 0 ++ cut b 64 (hdrTotal b - 128 - 64))

/-- The signature block (R37, R38). -/
def checkSignature (b : List Byte) (keys : List KeySlot) : List Chk :=
  let o := hdrTotal b - 128
  let key := keys.getD (fld b (o + 4) 1) .empty
  [ (cut b o 4 == [0x4C, 0x58, 0x53, 0x47], 0x01, o), (decide (fld b (o + 4) 1 < 8), 0x0B, o + 4), (fld b (o + 5) 11 == 0, 0x0B, o + 5)
  , (fld b (o + 112) 16 == 0, 0x0B, o + 112)
  , (match key with | .active _ => true | _ => false, 0x0C, o + 4)
  , (match key with | .active k => fingerprint k == BitVec.ofNat 256 (fld b (o + 80) 32) | _ => false, 0x0C, o + 80)
  , (match key with | .active k => edVerifyKey k (cut b (o + 16) 64) (b.take 96) | _ => false, 0x0D, o + 16) ]

/-- The failure of a check of a section: code, section index, offset in the image. -/
structure ImgError where
  code : Nat
  sect : Nat
  loc : Nat
  deriving DecidableEq, Repr

/-- The first failure of checks that belong to no section. -/
def plainError (cs : List Chk) : Option ImgError := (firstBad cs).map (fun x => ⟨x.1, 0xFF, x.2⟩)

/-- The first failure of checks of a section. -/
def sectionError (e : SecEntry) (cs : List Chk) : Option ImgError := (firstBad cs).map (fun x => ⟨x.1, e.index, e.off + x.2⟩)

/-- The first of several results that is a failure. -/
def firstError (xs : List (Option ImgError)) : Option ImgError := xs.findSome? id

/-- The entry of a section. -/
def entryOf (b : List Byte) (k : SecKind) : SecEntry :=
  ((secTable b).find? (fun e => e.kind == some k)).getD ⟨0, none, 0, 0⟩

/-- The sections before entry `i`. -/
def beforeOf (b : List Byte) (i : Nat) : Before := fun k =>
  ((secTable b).take i).find? (fun e => e.kind == some k) |>.map (secBytes b)

/-- Every place of a list occurs at most `n` times. -/
def atMost {α : Type} [BEq α] (n : Nat) (xs : List α) : Bool := xs.all (fun x => decide (xs.count x ≤ n))

/-- The tiles that a route leaves, each with its direction. -/
def routeSteps (t : Fin 16384) : List (Fin 4) → List (Fin 16384 × Fin 4)
  | [] => []
  | d :: rest => (t, d) :: (match neighbour t d with | some u => routeSteps u rest | none => [])

/-- The routes of a program: of every destination of a slot, an injected word and a routine's output. -/
def allRoutes (p : PlainProgram) (rs : List Routine) : List (List (Fin 16384 × Fin 4)) :=
  p.slots.flatMap (fun c => c.dests.toList.filterMap (fun d => d.map (fun x => routeSteps c.tile (destRoute x))))
  ++ p.inject.flatMap (fun j => j.dests.map (fun d => routeSteps j.tile (destRoute d)))
  ++ rs.flatMap (fun r => r.outputs.flatMap (fun o => o.dests.map (fun d => routeSteps (coreTile r.core) (destRoute d))))

/-- The limits of R44 and R78: at most 16 routes on a link direction, words of at most 4 tasks in a tile's memory, 1 MiB of SRAM for the
routines of a core. Tiles, slots, words, inputs, destinations and ports above their limits have no place in a decoded program. -/
def planFits (p : PlainProgram) (rs : List Routine) : Bool :=
  atMost 16 ((allRoutes p rs).flatMap (fun r => r.dedup))
  && p.slots.all (fun c => decide ((((p.slots.filter (fun d => d.tile == c.tile)).map (fun d => d.task)).dedup).length ≤ 4))
  && (List.finRange 8).all (fun k => decide ((((rs.filter (fun r => r.core == k)).map (fun r => r.sram)).foldl (· + ·) 0) ≤ 65536))

/-- A slot or a word is configured twice: an internal inconsistency (R44). -/
def planAgrees (p : PlainProgram) : Bool :=
  atMost 1 (p.slots.map (fun c => (c.tile, c.slot))) && atMost 1 (p.words.map (fun w => (w.tile, w.word)))

/-- The check of the opaque sections (R44, R78): resources exceeded give 0x10, any other inconsistency 0x11. An offset beyond PLAIN lies in
SEQ. -/
def opaqueError (b : List Byte) (i : Image) : Option ImgError :=
  let p := entryOf b .plain
  let q := entryOf b .seq
  if !planFits i.prog i.routs then some ⟨0x10, p.index, p.off⟩
  else if !planAgrees i.prog then some ⟨0x11, p.index, p.off⟩
  else (Config.opaqueCheck i.plain i.seq).map (fun x =>
    let code := if x.1 then 0x10 else 0x11
    if x.2 < p.len then ⟨code, p.index, p.off + x.2⟩ else ⟨code, q.index, q.off + (x.2 - p.len)⟩)

/-- **Verification** (R47): section table, section hashes, identity, signature, documented sections, the whole, opaque sections. The
first failure. -/
def verifyImage (b : List Byte) (keys : List KeySlot) : Option ImgError :=
  let es := secTable b
  firstError
    ([plainError (checkTable b)]
    ++ es.map (fun e => sectionError e [(sha256 (secBytes b e) == BitVec.ofNat 256 (fld b (96 + 64 * e.index + 32) 32), 0x09, 0)])
    ++ [plainError [(identityOf b == BitVec.ofNat 256 (fld b 32 32), 0x0A, 32)], plainError (checkSignature b keys)]
    ++ es.map (fun e => match e.kind with
        | some k => sectionError e (checkSection k (secBytes b e) (beforeOf b e.index))
        | none => none)
    ++ (let i := readImage b
        let t := entryOf b .task
        [ sectionError (entryOf b .cmap) [checkR43 (section_ b .cmap) i]
        , sectionError t ((List.range i.tasks.length).flatMap (checkR92 i.tasks))
        , sectionError (entryOf b .link) ((List.range 24).map (fun l =>
            (decide (loadOf i.tasks (i.stations.filter (fun e => e.link.val == l)) ≤ (8 / 10 : Rat)), 0x10, 32 + 16 * l)))
        , opaqueError b i ]))

end Sys2Proof.Machine
end

