-- ==== Sys2Proof/Machine/Image.lean ====
section
/-!
DEFINITION. Loading, verifying, storing and arming images, and the image commands (02 R45 to R55).
-/

namespace Sys2Proof.Machine

/-! ### The idle terrace -/

/-- The storage slot of the idle terrace (R45). -/
def idleSlot (s : State) : Fin 4 := if s.img.runTerr then 0 else 1

/-- Replace a storage slot. -/
def setSlot (n : Fin 4) (x : ImgSlot) (s : State) : State := { s with img := { s.img with slots := upd s.img.slots n (fun _ => x) } }

/-- The bytes of the idle working-image area in the single-level area of the storage die, once they are complete. -/
def storeIdle (ok : Bool) (s : State) : State :=
  setSlot (idleSlot s) (if ok then ⟨.valid, s.img.load⟩ else ⟨.invalid, []⟩) s

/-- The idle terrace's content is discarded (R46). Its slot no longer holds a valid image (R50). -/
def discardIdle (st : IdleState) (s : State) : State :=
  setSlot (idleSlot s) {} { s with img := { s.img with
    idle := st, load := [], total := 0, idleImg := none, forward := ⟨[], []⟩, reverse := ⟨[], []⟩, loadDone := false } }

/-- A new chunk at the end of the load: the header check after byte 95, the end at the total length, the end beyond it (R46, R47, R50). -/
def appendChunk (data : List Byte) (s : State) : State :=
  let had := s.img.load.length
  let load := s.img.load ++ data
  let s1 := { s with img := { s.img with load := load } }
  if load.length < 96 then s1
  else
    match (if had < 96 then checkHeader load else none) with
    | some (code, loc) => imgFail 0 (BitVec.ofNat 8 code) 0xFF loc s1
    | none =>
      let total := hdrTotal load
      let s2 := { s1 with img := { s1.img with total := total } }
      if total < load.length then imgFail 0 0x14 0xFF had { s2 with img := { s2.img with load := s.img.load } }
      else if load.length = total then { s2 with img := { s2.img with idle := .verifying } }
      else s2

/-- A chunk at the idle terrace: taken at offset 0 where a load may begin, and at the end of the load in progress (R46). Answers whether
it was. -/
def takeChunk (offset : Nat) (data : List Byte) (s : State) : Bool × State :=
  let may := s.img.idle == .empty || s.img.idle == .verified || s.img.idle == .armed || s.img.idle == .failed
  if s.img.cmd.isSome then (false, s)
  else if s.img.idle == .loading then (if offset = s.img.load.length then (true, appendChunk data s) else (false, s))
  else if may && offset == 0 then (true, appendChunk data (discardIdle .loading s))
  else (false, s)

/-- The chunk service at the module that decides it (R46, R50, R51, R392): the status of the reply, and IMG_CMDRES where R50 sets it. -/
def chunkService (asker : Origin) (offset : Nat) (data : List Byte) (s : State) : Status × W32 × State :=
  if !claimOf s (askerSlot asker s) (askerSe asker) then ((if s.ses.claim.isSome then 7 else 1), 3, s)
  else
    match takeChunk offset data s with
    | (true, s1) => (0, 0, if mirrors s then saddle (.chunk offset data) s1 else s1)
    | (false, s1) => (12, 0, s1)

/-- IMAGE_CHUNK (R33, R34, R46, R47, R50, R51, R391): class IMAGE first; a standby relays it. -/
def execImageChunk (se : Fin 64) (tag : W32) (offset : Nat) (data : List Byte) (s : State) : Host.Outcome State Fault Refusal :=
  .next (
    if !sesOpen s se then s
    else
      let s := onSess se (fun x => { x with lastMsg := s.tb.now }) s
      if tooMany s se then reply se 0x0020 tag 7 [] s
      else if s.mod.st == .failed || s.mod.st == .stopped then reply se 0x0020 tag 5 [] s
      else if !s.ses.tab[se].classes.getLsbD 1 then reply se 0x0020 tag 1 [] (setRes se .img 3 s)
      else if inRun s && !holds s then
        (if holderReachable s then relay se none 0x0020 (some tag) 1 0 (.chunk offset data) s else reply se 0x0020 tag 5 [] s)
      else
        let (st, r, s1) := chunkService (.here se) offset data s
        reply se 0x0020 tag st [] (if r = 0 then s1 else setRes se .img r s1))

/-- FORWARDED_CHUNK_RECEIVE: the standby takes what the holder has accepted. A chunk at offset 0 begins a new load of the holder; a load that
goes on here was aborted there (R50). -/
def forwardedChunkReceive (offset : Nat) (data : List Byte) (s : State) : State :=
  if holds s then s else (takeChunk offset data (if offset = 0 then abortLoad s else s)).2

/-- The holder's idle terrace is FAILED while this standby still loads: the forwarded load was aborted there, and is here (R50, R51). -/
def endForwardedLoad (holderIdle : BitVec 4) (s : State) : State := if !holds s && holderIdle == 7 then abortLoad s else s

/-! ### Verification and storage (R45, R47, R53) -/

/-- A failure found by the verification. -/
def imgError (source : Fin 4) (e : ImgError) (s : State) : State := imgFail source (BitVec.ofNat 8 e.code) (BitVec.ofNat 8 e.sect) e.loc s

/-- VERIFICATION_COMPLETE: all checks passed, the image is being stored; or the first failure. -/
def verificationComplete (s : State) : State :=
  if s.img.idle != .verifying then s
  else
    match verifyImage s.img.load s.img.keys.toList with
    | some e => imgError 0 e s
    | none => storeIdle false { s with img := { s.img with idle := .storing } }

/-- VERIFICATION_COMPLETE (R33, R35 to R38, R42 to R44, R47, R49, R53, R92, R510). -/
def execVerificationComplete (s : State) : Host.Outcome State Fault Refusal := .next (verificationComplete s)

/-- IMAGE_STORE_COMPLETE: written and read back with a matching identity the slot is VALID and the terrace VERIFIED; otherwise code 0x12. -/
def imageStoreComplete (ok : Bool) (s : State) : State :=
  if s.img.idle != .storing then s
  else if ok then storeIdle true { s with img := { s.img with idle := .verified, idleImg := some (readImage s.img.load), loadedHere := s.img.loadedHere || s.mod.st == .config } }
  else imgFail 0 0x12 0xFF 0 s

/-- IMAGE_STORE_COMPLETE (R45, R47, R49, R53). -/
def execImageStoreComplete (ok : Bool) (s : State) : Host.Outcome State Fault Refusal := .next (imageStoreComplete ok s)

/-! ### Commands (R50, R55) -/

/-- A command of the block, its common conditions first: the claim (3), then what runs (2). -/
def imgCmd (op : Req → State → State) (q : Req) (s : State) : State :=
  if !claimOf s (askerSlot q.asker s) q.se then answer q.asker .img 3 s
  else if s.img.cmd.isSome || s.img.idle == .loading || s.img.idle == .verifying || s.img.idle == .storing
      || s.img.idle == .arming || s.img.idle == .switching then answer q.asker .img 2 s
  else op q s

/-- The shadow banks of both lanes begin to be written (R48). -/
def beginArming (s : State) : State := { s with img := { s.img with idle := .arming, loadDone := false } }

/-- ARM: a VERIFIED terrace; the standby first (R48, R51). -/
def armCmd (q : Req) (s : State) : State :=
  if s.img.idle != .verified then answer q.asker .img 4 s
  else if mirrors s then
    answer q.asker .img 1 (saddle .armOrder { s with img := { s.img with cmd := some (.arm (some q.asker)) } })
  else answer q.asker .img 1 (beginArming s)

/-- ARM (R48, R50, R51). -/
def execArm (se : Fin 64) (s : State) : Host.Outcome State Fault Refusal := .next (sessionCmd regImg 0x02 se (imgCmd armCmd) s)

/-- DISARM: an ARMED terrace is VERIFIED again (R48). -/
def disarmCmd (q : Req) (s : State) : State :=
  if s.img.idle == .armed then answer q.asker .img 1 { s with img := { s.img with idle := .verified } } else answer q.asker .img 4 s

/-- DISARM (R48, R50). -/
def execDisarm (se : Fin 64) (s : State) : Host.Outcome State Fault Refusal := .next (sessionCmd regImg 0x03 se (imgCmd disarmCmd) s)

/-- ABORT: the load it ends fails with code 0x15; in other states as every command. -/
def abortCmd (q : Req) (s : State) : State :=
  if claimOf s (askerSlot q.asker s) q.se && s.img.idle == .loading then answer q.asker .img 1 (abortLoad s)
  else imgCmd (fun r t => answer r.asker .img 4 t) q s

/-- ABORT (R50, R53). -/
def execAbort (se : Fin 64) (s : State) : Host.Outcome State Fault Refusal := .next (sessionCmd regImg 0x04 se abortCmd s)

/-- CLEAR: the idle terrace is EMPTY. -/
def clearCmd (q : Req) (s : State) : State := answer q.asker .img 1 (discardIdle .empty s)

/-- CLEAR (R50, R55). -/
def execClear (se : Fin 64) (s : State) : Host.Outcome State Fault Refusal := .next (sessionCmd regImg 0x05 se (imgCmd clearCmd) s)

/-- The slot of a source or of an archive. -/
def archiveSlot (second : Bool) : Fin 4 := if second then 3 else 2
def sourceSlot (idle : Bool) (s : State) : Fin 4 := if idle == s.img.runTerr then 0 else 1

/-- ARCHIVE: a VALID source is copied to an archive, which is INVALID until the copy is read back. -/
def archiveCmd (arg : BitVec 4) (q : Req) (s : State) : State :=
  let idle := arg.getLsbD 0
  let dst := arg.getLsbD 1
  if s.img.slots[sourceSlot idle s].st != .valid then answer q.asker .img 5 s
  else answer q.asker .img 1
    (setSlot (archiveSlot dst) ⟨.invalid, []⟩ { s with img := { s.img with cmd := some (.archive idle dst) } })

/-- ARCHIVE (R50, R55). -/
def execArchive (se : Fin 64) (arg : BitVec 4) (s : State) : Host.Outcome State Fault Refusal :=
  .next (sessionCmd regImg (BitVec.ofNat 32 (arg.toNat * 256 + 6)) se (imgCmd (archiveCmd arg)) s)

/-- ARCHIVE_COMPLETE: the archive is VALID, or the storage failure of code 0x12 is shown and recorded (R45, R53). -/
def archiveComplete (ok : Bool) (s : State) : State :=
  match s.img.cmd with
  | some (.archive idle dst) =>
    let s1 := { s with img := { s.img with cmd := none } }
    if ok then setSlot (archiveSlot dst) ⟨.valid, s.img.slots[sourceSlot idle s].bytes⟩ s1
    else logEv 0x8112 false [(1, 0x12), (1, 0xFF), (4, 0)]
      { s1 with img := { s1.img with errSource := 0, errCode := 0x12, errSect := 0xFF, errLoc := 0 } }
  | _ => s

/-- ARCHIVE_COMPLETE (R45, R55). -/
def execArchiveComplete (ok : Bool) (s : State) : Host.Outcome State Fault Refusal := .next (archiveComplete ok s)

/-- RESTORE: a VALID archive is copied to the idle terrace. -/
def restoreCmd (arg : BitVec 4) (q : Req) (s : State) : State :=
  let src := arg.getLsbD 1
  if s.img.slots[archiveSlot src].st != .valid then answer q.asker .img 5 s
  else
    let s1 := discardIdle .empty s
    answer q.asker .img 1 { s1 with img := { s1.img with cmd := some (.restore src) } }

/-- RESTORE (R50, R55). -/
def execRestore (se : Fin 64) (arg : BitVec 4) (s : State) : Host.Outcome State Fault Refusal :=
  .next (sessionCmd regImg (BitVec.ofNat 32 (arg.toNat * 256 + 7)) se (imgCmd (restoreCmd arg)) s)

/-- RESTORE_COPY_COMPLETE: the copy is verified from VERIFYING on (R47, R55). -/
def restoreCopyComplete (s : State) : State :=
  match s.img.cmd with
  | some (.restore src) =>
    let bytes := s.img.slots[archiveSlot src].bytes
    { s with img := { s.img with cmd := none, idle := .verifying, load := bytes, total := bytes.length } }
  | _ => s

/-- RESTORE_COPY_COMPLETE (R47, R55). -/
def execRestoreCopyComplete (s : State) : Host.Outcome State Fault Refusal := .next (restoreCopyComplete s)

/-! ### Arming (R48, R51, R153) -/

/-- The holder that had ordered the arming is told how it ended. -/
def reportArmed (code : Byte) (s : State) : State :=
  if s.img.armOrdered then saddle (.armed code) { s with img := { s.img with armOrdered := false } } else s

/-- Arming fails: the holder is told the code. -/
def armFail (code : Byte) (s : State) : State := imgFail 0 code 0xFF 0 (reportArmed code s)

/-- The digest of a lane's shadow banks as the lane returns it (R48). -/
def shadowDigest (L : LaneState) : W128 :=
  match L.shadow with
  | some (p, q) => Config.streamDigest p q
  | none => 0

/-- The lanes agree and the stream matches: the plans of R152 are made; a window above 200 µs fails with 0x10; else pre-initialisation, and
the terrace is ARMED. -/
def finishArming (stream : W128) (s : State) : State :=
  match s.img.idleImg with
  | none => s
  | some new =>
    let fwd : Plan := match s.img.run with | some old => planOf old old new | none => ⟨[], []⟩
    let rev : Plan := match s.img.run with | some old => planOf old new old | none => ⟨[], []⟩
    if 14000 < gcv fwd ∨ 14000 < gcv rev then armFail 0x10 s
    else
      reportArmed 0 (withMem { s with
        img := { s.img with idle := .armed, forward := fwd, reverse := rev, loadDone := true, armDigest := stream }
        lsk := { s.lsk with sweepPasses := 0 } } (preInitialise fwd s.mem.cells))

/-- The arming stream has been delivered to both lanes: their shadow banks hold PLAIN and SEQ of the idle image (R48, 07 R178). -/
def writeShadows (s : State) : State :=
  match s.img.idleImg with
  | none => s
  | some i => onLane .A (fun L => { L with shadow := some (i.plain, i.seq) }) (onLane .B (fun L => { L with shadow := some (i.plain, i.seq) }) s)

/-- ARM_COMPLETE: each lane's digest of its shadow banks, or what a disturbance has made of it. Digests that differ between the lanes are a lane
mismatch, which cannot be detected while UNCHECKED (07 R196): then the running lane's counts alone; digests that differ from the stream's
give code 0x13. -/
def armComplete (changedA changedB : Option W128) (s : State) : State :=
  if s.img.idle != .arming then s
  else
    let s := writeShadows s
    let stream := match s.img.idleImg with | some i => Config.streamDigest i.plain i.seq | none => 0
    let a := changedA.getD (shadowDigest s.laneA)
    let b := changedB.getD (shadowDigest s.laneB)
    let bad := (!idles s.lsk.halt .A && a != stream) || (!idles s.lsk.halt .B && b != stream)
    if s.lsk.halt == .none && a != b then
        takeFault { cls := 1, subclass := 5, stream := 73, parity := 0, addr := BitVec.ofNat 64 (2 ^ 63 + 14), time := s.tb.now
                    task := 0xFF, cycle := 0, wordA := a, wordB := b } s
    else if bad then armFail 0x13 s
    else finishArming stream s

/-- ARM_COMPLETE (R48, R49, R53, R152, R153). -/
def execArmComplete (changedA changedB : Option W128) (s : State) : Host.Outcome State Fault Refusal :=
  .next (armComplete changedA changedB s)

/-- PARTNER_ARMED_REPORT: the holder arms itself when the standby is ARMED, else shows and records its code with SOURCE 2 (R51, R53). -/
def partnerArmedReport (code : Byte) (s : State) : State :=
  match s.img.cmd with
  | some (.arm _) =>
    let s1 := { s with img := { s.img with cmd := none } }
    if code = 0 then beginArming s1
    else logEv (0x8100 + code.toNat) false [(1, code.toNat), (1, 0xFF), (4, 0)]
      { s1 with img := { s1.img with errSource := 2, errCode := code, errSect := 0xFF, errLoc := 0 } }
  | _ => s

/-- The idle terrace holds the image that the holder's does (R51). -/
def sameIdle (s : State) : Bool := s.img.idleImg.map (fun i => i.ident) == some s.img.partnerIdleId

/-- PARTNER_ARM_ORDER_RECEIVE: the standby arms a VERIFIED terrace with the holder's image; an ARMED one is reported at once; otherwise it
fails with the code it shows, or with one of R53's codes that the manual leaves open, recorded here. -/
def partnerArmOrderReceive (s : State) : State :=
  if holds s then s
  else if s.img.idle == .verified && s.img.cmd.isNone && sameIdle s then beginArming { s with img := { s.img with armOrdered := true } }
  else if s.img.idle == .armed && sameIdle s then saddle (.armed 0) s
  else if s.img.errCode != 0 then saddle (.armed s.img.errCode) s
  else
    let (v, s1) := freeValue 8 s
    let code := v.toNat % 0x15 + 1
    saddle (.armed (BitVec.ofNat 8 code)) (logEv (0x8100 + code) false [(1, code), (1, 0xFF), (4, 0)] s1)

/-- An ARM that waits for a standby that is no longer there ends (R51). -/
def dropArmWait (s : State) : State :=
  match s.img.cmd with
  | some (.arm _) => { s with img := { s.img with cmd := none } }
  | _ => s

end Sys2Proof.Machine
end

