-- ==== Sys2Proof/Machine/Debug.lean ====
section
/-!
DEFINITION. The debug port (15 R408, R409), halts and resumption of a lane, commissioning mode, RECHECK and the sweep of the idle
terrace (07 R191, R194 to R199), and the recorder service call (17 R438).
-/

namespace Sys2Proof.Machine

/-! ### The debug credential (R408) -/

/-- DEBUG_CREDENTIAL: verified as a session's credential is; a new one ends the rights of the one before. -/
def debugCredential (cred : List Byte) (probe : W256) (s : State) : State :=
  let mask := credColours cred
  let ok := (credCause 2 false cred probe s).isNone && !mask.getLsbD 15
  let s1 := { s with ses := { s.ses with
    debug := if ok then some ⟨mask, credAfter cred, 0, false⟩ else none, debugErr := false } }
  emit (.debugStatus ok) (logEv 0x6030 (!ok) [(1, bitNat ok), (2, mask.toNat)] s1)

/-- DEBUG_CREDENTIAL (R387, R388, R408, R410). -/
def execDebugCredential (cred : List Byte) (probeKey : W256) (s : State) : Host.Outcome State Fault Refusal :=
  .next (debugCredential cred probeKey s)

/-- DEBUG_CREDENTIAL_LAPSE: the credential ends at Not after. -/
def execDebugCredentialLapse (s : State) : Host.Outcome State Fault Refusal :=
  .next (match s.ses.debug with
    | some d => if d.notAfter != 0 && decide ((d.notAfter : Int) ≤ plantTime s) then { s with ses := { s.ses with debug := none } } else s
    | none => s)

/-! ### Reads and writes (R409) -/

/-- The colour mask of the debug port. -/
def debugMask (s : State) : BitVec 16 :=
  match s.ses.debug with
  | some d => d.colours
  | none => 0

/-- A debug violation: the error flag, the counts, and 0x6031 for the first since the credential. -/
def debugViolation (write : Bool) (addr colour : Nat) (s : State) : State :=
  let s1 := { s with ses := { s.ses with
    debugErr := true, acc := { s.ses.acc with dbgViol := satSucc max32 s.ses.acc.dbgViol } } }
  match s.ses.debug with
  | none => s1
  | some d =>
    let s2 := { s1 with ses := { s1.ses with debug := some { d with viol := satSucc 0x7FFF d.viol, first := true } } }
    if d.first then s2 else logEv 0x6031 true [(1, bitNat write), (4, addr), (1, colour)] s2

/-- The debug port may reach a granule: not of colour 15, and of a colour it holds. -/
def debugMay (g : Nat) (s : State) : Bool := colourOf s g != 15 && grants (debugMask s) (colourOf s g)

/-- A refused read returns zeros. -/
def debugZeros (addr colour : Nat) (s : State) : State := emit (.debug 0 true) (debugViolation false addr colour s)

/-- A word of lane state: given to a port with a credential; zeros where Workbench has marked it sealed. The record of a violation
carries the address, which for lane state the manual leaves open. -/
def debugLane (isSealed : Bool) (data : W128) (s : State) : State :=
  if isSealed || (s.ses.debug).isNone then
    let (a, s1) := freeValue 32 s
    debugZeros a.toNat 15 s1
  else emit (.debug data false) s

/-- The value of a register of the routine that a core runs. -/
def coreRegister (c : Core) (reg : Nat) : W128 :=
  match c.running with
  | some x => ((x.regs.find? (fun r => r.1 == reg)).map (fun r => r.2)).getD 0
  | none => 0

/-- DEBUG_READ. Memory is read through the memory controller and its checks (R19). -/
def debugRead (t : DebugTarget) (chk : MemCheck) (s : State) : State :=
  match t with
  | .memory addr =>
    let a := addr.toNat / 16 * 16
    (match granuleOf a with
     | some g =>
       if !debugMay g s then debugZeros addr.toNat (colourOf s g).toNat s
       else if MemCheckOk chk then emit (.debug (Memory.word s.mem.cells a) false) (memCheck chk s)
       else emit (.debug 0 true) (memCheck chk s)
     | none => debugZeros addr.toNat 0 s)
  | .tile lane tile word isSealed =>
    debugLane isSealed ((((laneOf s lane).mem.find? (fun m => m.1 == tile && m.2.1 == word)).map (fun m => m.2.2)).getD 0) s
  | .coreReg lane core reg isSealed => debugLane isSealed (coreRegister (laneOf s lane).cores[core] reg) s
  | .laneBuffer _ _ isSealed =>
    let (v, s1) := freeValue 128 s
    debugLane isSealed v s1

/-- DEBUG_READ (R19, R195, R409). -/
def execDebugRead (target : DebugTarget) (chk : MemCheck) (s : State) : Host.Outcome State Fault Refusal := .next (debugRead target chk s)

/-- DEBUG_WRITE: a word of a granule that the port may reach; otherwise discarded and counted. -/
def debugWrite (addr : W32) (data : W128) (s : State) : State :=
  let a := addr.toNat / 16 * 16
  match granuleOf a with
  | some g =>
    if debugMay g s then reloadOwners [g] (withMem s (Memory.writeWord s.mem.cells a data 0xFFFF))
    else debugViolation true addr.toNat (colourOf s g).toNat s
  | none => debugViolation true addr.toNat 0 s

/-- DEBUG_WRITE (R409). -/
def execDebugWrite (addr : W32) (data : W128) (s : State) : Host.Outcome State Fault Refusal := .next (debugWrite addr data s)

/-! ### Halts (R195, R196) -/

/-- Words that wait in the delay elements when a lane halts: those of the running lane are committed, the others are dropped. -/
def flushDelay (halted : Lane) (s : State) : State :=
  overAll (List.finRange 74) (fun st t =>
    overAll (s.lsk.delay[st]) (fun d u => if d.lane == halted then u else commitWord st d.word .clean u) t)
    { s with lsk := { s.lsk with delay := Vector.replicate 74 [] } }

/-- Inbound words that wait for lane B: with lane A halted, B receives them at once; with B halted, they are not delivered (R196). -/
def flushInbound (halted : Lane) (s : State) : State :=
  let s1 := { s with lsk := { s.lsk with inbound := Vector.replicate 72 [] } }
  if halted == .B then s1
  else overAll (List.finRange 72) (fun st t =>
    overAll (s.lsk.inbound[st]) (fun w u => emit (.toLane .B st w.data) (onLane .B (laneWord (program u) w) u)) t) s1

/-- An accepted halt: the module is UNCHECKED, its cycles in progress too; recorded as 0x2010. A claim it has made ends (08 R213). -/
def acceptHalt (lane : Lane) (s : State) : State :=
  let s1 := flushInbound lane (flushDelay lane s)
  let s2 := { s1 with
    lsk := { s1.lsk with halt := haltNow lane s1.lsk.halt, unchecked := true, uncheckedSeen := true }
    lease := if s1.lsk.commission then s1.lease else { s1.lease with claim := none }
    tsk := { s1.tsk with rt := updAll s1.tsk.rt (fun _ r => { r with cur := r.cur.map (fun c => { c with unchecked := true }) }) } }
  emit (.debugStatus true)
    (showRole (logEv 0x2010 false [(1, laneCode lane), (1, bitNat (holds s)), (1, bitNat s.lsk.commission)] s2))

/-- A refused halt: recorded as 0x2011 with its reason. -/
def refuseHalt (lane : Lane) (reason : Nat) (s : State) : State :=
  emit (.debugStatus false) (logEv 0x2011 false [(1, laneCode lane), (1, reason)] s)

/-- DEBUG_STEP: the halted lane advances by one firing, or by one hop when no slot is ready; which one is left open. -/
def debugStep (s : State) : State :=
  match haltedLane s.lsk.halt with
  | some lane =>
    let L := laneOf s lane
    let ready := (program s).slots.filter (fun c => slotReady s L c &&
      (program s).slots.all (fun d => d.tile != c.tile || d.slot == c.slot || !slotReady s L d || firesBefore s c d))
    let (v, s1) := freeValue 32 s
    (match ready[v.toNat % ready.length]? with
     | some c => fireSlot lane c s1
     | none =>
       match L.links[v.toNat % L.links.length]? with
       | some (tile, dir, tok) =>
         (match neighbour tile dir with
          | some next => onLane lane (fun l => enterToken (program s) next { tok with route := tok.route.drop 1 }
              { l with links := dropFirst (fun x => x.1 == tile && x.2.1 == dir && x.2.2 == tok) l.links
                       outBuf := dropFirst (fun o => o.1 == tile && o.2.2.2 == tok) l.outBuf }) s1
          | none => s1)
       | none => s1)
  | none => s

/-- DEBUG_STEP (R196). -/
def execDebugStep (s : State) : Host.Outcome State Fault Refusal := .next (if (s.ses.debug).isSome then debugStep s else emit (.debugStatus false) s)

/-- DEBUG_RESUME: the lane idles until RECHECK; recorded as 0x2012. -/
def debugResume (s : State) : State :=
  match haltedLane s.lsk.halt with
  | some lane => logEv 0x2012 false [(1, laneCode lane)] { s with lsk := { s.lsk with halt := resumeNow s.lsk.halt } }
  | none => s

/-- DEBUG_RESUME (R196). -/
def execDebugResume (s : State) : Host.Outcome State Fault Refusal :=
  .next (if (s.ses.debug).isSome then debugResume s else emit (.debugStatus false) s)

/-! ### Commissioning mode (R194, R199) -/

/-- COMMISSION_ON. -/
def commissionOn (q : Req) (s : State) : State :=
  let s1 := if s.lsk.commission then s
    else logSes 0x2020 false q.se [(1, q.se.val)] { s with lsk := { s.lsk with commission := true } }
  answer q.asker .lsk 6 s1

/-- COMMISSION_ON (R194). -/
def execCommissionOn (se : Fin 64) (s : State) : Host.Outcome State Fault Refusal := .next (sessionCmd regLsk 0x01 se commissionOn s)

/-- COMMISSION_OFF: not while the module is UNCHECKED and holds the lease; an UNCHECKED module then claims no longer (08 R213). -/
def commissionOff (q : Req) (s : State) : State :=
  if s.lsk.unchecked && holds s then answer q.asker .lsk 4 s
  else
    let off := { s with
      lsk := { s.lsk with commission := false }
      lease := if s.lsk.unchecked then { s.lease with claim := none } else s.lease }
    let s1 := if s.lsk.commission then logSes 0x2021 false q.se [(1, q.se.val)] off else s
    answer q.asker .lsk 6 s1

/-- COMMISSION_OFF (R194, R199). -/
def execCommissionOff (se : Fin 64) (s : State) : Host.Outcome State Fault Refusal := .next (sessionCmd regLsk 0x02 se commissionOff s)

/-! ### RECHECK (R198) -/

/-- RECHECK: valid in RUN while UNCHECKED with no lane halted; the search begins. -/
def recheckCmd (q : Req) (s : State) : State :=
  let halted := (haltedLane s.lsk.halt).isSome
  if s.lsk.recheck.isSome then answer q.asker .lsk 2 s
  else if halted || !s.lsk.unchecked || !inRun s then answer q.asker .lsk 4 s
  else answer q.asker .lsk 1 (openHold .recheck (some q.asker) 0 s)

/-- RECHECK (R155, R198). -/
def execRecheck (se : Fin 64) (s : State) : Host.Outcome State Fault Refusal := .next (sessionCmd regLsk 0x03 se recheckCmd s)

/-- A lane brought back into step: its token buffers and its cores are empty. -/
def emptyLane (L : LaneState) : LaneState :=
  { L with present := [], outBuf := [], links := [], out := [], fired := [], digested := [], cores := Vector.replicate 8 {} }

/-- At the quiet instant: the resumed lane is emptied, every persistent word is to be reloaded in both lanes, comparison goes on, and the
held releases are made. -/
def recheckGo (q : SwitchReq) (s : State) : State :=
  let s1 := overAll (lanes.filter (fun l => idles s.lsk.halt l)) (fun l t => onLane l emptyLane t) s
  let s2 := { s1 with
    lsk := { s1.lsk with
      halt := .none, unchecked := false, recheck := none, delay := Vector.replicate 74 [], inbound := Vector.replicate 72 [] }
    tsk := { s1.tsk with rt := updAll s1.tsk.rt (fun _ r => { r with reload := true }) } }
  let s3 := showRole (logEv 0x2013 false [(4, s.tb.now - q.r)] s2)
  answerOpt q.asker .lsk 6 (releaseHolds s3)

/-- No quiet instant was found: result 5, still UNCHECKED. -/
def recheckEnded (q : SwitchReq) (s : State) : State :=
  answerOpt q.asker .lsk 5 (logEv 0x2014 false [(2, q.attempts)] { s with lsk := { s.lsk with recheck := none } })

/-- RECHECK_INSTANT (R64, R155, R156, R198). -/
def execRecheckInstant (s : State) : Host.Outcome State Fault Refusal := .next (atInstant .recheck recheckGo recheckEnded s)

/-- RECHECK_TIMEOUT (R198). -/
def execRecheckTimeout (s : State) : Host.Outcome State Fault Refusal := .next (searchLate .recheck recheckEnded s)

/-! ### The sweep of the idle terrace (R191) -/

/-- IDLE_SWEEP_PASS: a full pass over an ARMED terrace: the digest of each lane's shadow banks, or what a disturbance has made of it, against
the digest of the arming stream. On a difference the terrace is VERIFIED and is armed again. -/
def idleSweepPass (changedA changedB : Option W128) (s : State) : State :=
  if s.img.idle != .armed || !s.img.loadDone then s
  else
    let stream := s.img.armDigest
    let bits := bitNat (changedA.getD (shadowDigest s.laneA) != stream) + 2 * bitNat (changedB.getD (shadowDigest s.laneB) != stream)
    let diff := bits != 0
    let s1 := { s with lsk := { s.lsk with sweepPasses := satSucc 0xFFFF s.lsk.sweepPasses, sweepDiff := diff } }
    if !diff then s1
    else
      let s2 := { s1 with lsk := { s1.lsk with acc := { s1.lsk.acc with idleDiff := satSucc max32 s1.lsk.acc.idleDiff } } }
      beginArming (logEv 0x2030 false [(1, bits)] s2)

/-- IDLE_SWEEP_PASS (R48, R191). -/
def execIdleSweepPass (changedA changedB : Option W128) (s : State) : Host.Outcome State Fault Refusal :=
  .next (idleSweepPass changedA changedB s)

/-! ### The recorder service call (R86, R438) -/

/-- SVC_RECORDER_ENTRY: a program record of the running routine's task; severity 3 is recorded as 2. -/
def svcRecorderEntry (k : Fin 8) (code : BitVec 12) (sev : BitVec 2) (data : BitVec 112) (s : State) : State :=
  match caller s k 0 with
  | none => s
  | some r => serviceReturn k [0] <| enqueueEv (eventOf (0x9000 + code.toNat) (if sev = 3 then 2 else sev) (BitVec.ofNat 8 (0x80 + r.task.val)) data s) s

/-- SVC_RECORDER_ENTRY (R86, R434, R438). -/
def execSvcRecorderEntry (core : Fin 8) (code : BitVec 12) (sev : BitVec 2) (data : BitVec 112) (s : State) :
    Host.Outcome State Fault Refusal := .next (svcRecorderEntry core code sev data s)

end Sys2Proof.Machine
end

