-- ==== Sys2Proof/Machine/TimeBase.lean ====
section
/-!
DEFINITION. Time base (05): oscillator compensation, PTP, time mapping, alignment in a pair; and the environment conditions (16 R428).
-/

namespace Sys2Proof.Machine

/-! ### Environment conditions (16 R428) -/

/-- Enter or leave condition `k`: an entry is counted, kept in the storage die and recorded. -/
def envSet (k : Fin 8) (on : Bool) (value : Nat) (s : State) : State :=
  let e := s.tel.env[k]
  if e.active == on then s
  else if !on then { s with tel := { s.tel with env := upd s.tel.env k (fun x => { x with active := false }) } }
  else
    let n : BitVec 24 := if e.entries == BitVec.allOnes 24 then e.entries else e.entries + 1
    let s1 := { s with tel := { s.tel with env := upd s.tel.env k (fun _ => ⟨true, n⟩) } }
    logEv (0x7020 + k.val) true [(2, value), (4, n.toNat)] (persist (.env (s1.tel.env.toList.map (fun x => x.entries))) .none s1)

/-- A condition with an entry and an exit threshold: `enter` and `leave` say what holds now. -/
def envJudge (k : Fin 8) (enter leave : Bool) (value : Nat) (s : State) : State :=
  if enter then envSet k true value s else if leave then envSet k false value s else s

/-! ### Setting the time base (R127) -/

/-- An instant after the time base has been stepped by `d`: the timers of the hardware do not notice the step. -/
def moved (d : Int) (t : Nat) : Nat := ((t : Int) + d).toNat
def movedOpt (d : Int) (t : Option Nat) : Option Nat := t.map (moved d)

/-- The instants of an island's own side, its supply and its channels. -/
def moveIo (d : Int) (io : Io) : Io :=
  { io with
    isl := updAll io.isl (fun _ i => { i with
      restartAt := movedOpt d i.restartAt, outAt := moved d i.outAt, lastReturn := moved d i.lastReturn, sentAt := moved d i.sentAt })
    own := updAll io.own (fun _ k => { k with
      lastAccept := moved d k.lastAccept, beaconAt := movedOpt d k.beaconAt, stepAt := movedOpt d k.stepAt, calSince := movedOpt d k.calSince })
    sup := updAll io.sup (fun _ x => { x with
      lostAt := moved d x.lostAt, goodSince := movedOpt d x.goodSince, cjGood := movedOpt d x.cjGood, wbInhibit := moved d x.wbInhibit })
    fordAt := moved d io.fordAt
    ai := updAll io.ai (fun _ a => { a with
      ready := moved d a.ready, calAt := moved d a.calAt, owSince := moved d a.owSince, owNext := moved d a.owNext, urgSince := moved d a.urgSince })
    ao := updAll io.ao (fun _ a => { a with lowSince := movedOpt d a.lowSince, clearSince := movedOpt d a.clearSince })
    di := updAll io.di (fun _ x => { x with since := moved d x.since, wbSince := moved d x.wbSince })
    dO := updAll io.dO (fun _ x => { x with
      thermalAt := moved d x.thermalAt, onSince := moved d x.onSince, offSince := moved d x.offSince, raisedTill := moved d x.raisedTill
      lowSince := movedOpt d x.lowSince, limSince := movedOpt d x.limSince, freeSince := movedOpt d x.freeSince, extSince := movedOpt d x.extSince
      calmSince := movedOpt d x.calmSince, unevenSince := movedOpt d x.unevenSince, evenSince := movedOpt d x.evenSince }) }

/-- The instants of sessions and of the recorder. -/
def moveSes (d : Int) (x : Ses) : Ses :=
  { x with
    tab := updAll x.tab (fun _ t => { t with lastMsg := moved d t.lastMsg })
    conns := x.conns.map (fun c => { c with since := moved d c.since })
    claim := x.claim.map (fun c => { c with until_ := moved d c.until_ })
    enrol := movedOpt d x.enrol, enrolKeyed := movedOpt d x.enrolKeyed }
def moveEvr (d : Int) (x : Evr) : Evr :=
  { x with
    queue := x.queue.map (fun e => { e with at_ := moved d e.at_ }), writing := x.writing.map (fun e => { e with at_ := moved d e.at_ })
    afterClear := x.afterClear.map (fun e => { e with at_ := moved d e.at_ })
    buckets := x.buckets.map (fun b => { b with at_ := moved d b.at_ }) }

/-- The instants of the supplies. -/
def movePwr (d : Int) (p : Pwr) : Pwr :=
  { p with
    aSince := movedOpt d p.aSince, bSince := movedOpt d p.bSince, dipStart := moved d p.dipStart, goodSince := movedOpt d p.goodSince
    recoveredAt := movedOpt d p.recoveredAt, testSince := moved d p.testSince, railSince := moved d p.railSince
    belowSince := movedOpt d p.belowSince }

/-- The time base takes a value outside RUN (R127): what waits for a time goes on waiting for the rest of it. -/
def setTime (t : Nat) (source : Fin 8) (s : State) : State :=
  let d : Int := (t : Int) - s.tb.now
  { s with
    tb := { s.tb with
      now := t, frac := 0, slew := 0, source := source, lastSync := moved d s.tb.lastSync, lastAnnounce := moved d s.tb.lastAnnounce
      holdSince := moved d s.tb.holdSince, lastMap := moved d s.tb.lastMap, lastHb := moved d s.tb.lastHb
      valeTimeAt := moved d s.tb.valeTimeAt
      masters := s.tb.masters.map (fun m => (m.1, moved d m.2)), delayReq := s.tb.delayReq.map (fun r => (r.1, moved d r.2)) }
    links := updAll s.links (fun _ k => { k with
      partnerAt := moved d k.partnerAt, lastPoll := moved d k.lastPoll, wireFrom := moved d k.wireFrom, pdelayAt := moved d k.pdelayAt
      delayReq := movedOpt d k.delayReq
      stns := updAll k.stns (fun _ x => { x with heardAt := movedOpt d x.heardAt, nextDue := moved d x.nextDue, outSince := moved d x.outSince })
      bring := updAll k.bring (fun _ b => { b with timer := moved d b.timer, retryAt := moved d b.retryAt }) })
    pair := { s.pair with
      lastMsg := s.pair.lastMsg.map (moved d), hbIn := s.pair.hbIn.map (fun x => x.map (fun y => (y.1, moved d y.2))) }, lease := { s.lease with roundAt := moved d s.lease.roundAt }
    io := moveIo d s.io, ses := moveSes d s.ses, evr := moveEvr d s.evr, pwr := movePwr d s.pwr
    tsk := { s.tsk with statMark := t / statNs s * statNs s }
    tel := { s.tel with lowSince := moved d s.tel.lowSince, ctlAt := moved d s.tel.ctlAt }
    can := updAll s.can (fun _ k => { k with busOffAt := moved d k.busOffAt })
    lcd := { s.lcd with lastActivity := moved d s.lcd.lastActivity, frameAt := moved d s.lcd.frameAt }
    mod := { s.mod with enteredAt := moved d s.mod.enteredAt, startBegin := moved d s.mod.startBegin, joinWait := movedOpt d s.mod.joinWait
                        joinBegan := movedOpt d s.mod.joinBegan } }

/-- The module can still take its time base from PTP: it has not left CALIBRATE, and its counter was not kept (R127, R469). -/
def beforeJoin (s : State) : Bool := !s.mod.warmStart && (s.mod.st == .boot || s.mod.st == .config || s.mod.st == .calibrate)

/-! ### Oscillator (R128) -/

/-- A 16-bit field as a signed number. -/
def signed16 (t : BitVec 16) : Int := t.toInt

/-- The nearest temperature of the correction table, in 0.01 °C above its first entry. -/
def tableTemp (t : Int) : Nat := (max (-4000) (min 12500 t) + 4000).toNat

/-- The oscillator's error at a temperature: one entry for each 1 °C, linear between entries (R128), in ppb towards minus infinity. -/
def oscError (t : Int) : Int :=
  let x := tableTemp t
  let k : Fin 166 := Fin.ofNat 166 (x / 100)
  let next : Fin 166 := Fin.ofNat 166 (min 165 (x / 100 + 1))
  Config.oscEntry k + ((Config.oscEntry next - Config.oscEntry k) * (x % 100 : Nat)) / 100

/-- OSCILLATOR_COMPENSATION: once a second the correction is the negative of the error at the measured temperature; conditions 4
and 7 are judged. -/
def oscillatorCompensation (temp : BitVec 16) (plDiffPpm : Nat) (s : State) : State :=
  let t := signed16 temp
  let fault := decide (t < -4000) || decide (12500 < t)
  let s1 := { s with tb := { s.tb with oscTemp := temp, tempCor := -(oscError t), tempFault := fault } }
  let s2 := envJudge 4 (decide (100 < plDiffPpm)) (decide (plDiffPpm ≤ 80)) plDiffPpm s1
  envJudge 7 fault (!fault) temp.toNat s2

/-- OSCILLATOR_COMPENSATION (R126, R128, R428). -/
def execOscillatorCompensation (temp : BitVec 16) (plDiffPpm : Nat) (s : State) : Host.Outcome State Fault Refusal :=
  .next (oscillatorCompensation temp plDiffPpm s)

/-! ### Time mapping (R134, 17 R439, R440) -/

/-- The time base at the instant the operating-time count took its present value: 4 ns for each period since. -/
def opInstant (s : State) : Nat := s.tb.now - 4 * s.tel.opFrac

/-- A time mapping: 0x0001 and 0x0002 in consecutive slots; the time base is saved (R127). -/
def timeMapping (cause : Nat) (s : State) : State :=
  let s1 := logEv 0x0001 false [(8, opInstant s), (1, cause), (1, s.tb.ptpState.val)] s
  let s2 := logEv 0x0002 false [(8, signedField 8 s.tb.ptpOfs)] s1
  persist (.savedTime s.tb.now) .none { s2 with tb := { s2.tb with lastMap := s.tb.now } }

/-- A plant-port entry of the running image. -/
def portEntry (s : State) (p : Fin 2) : PortEntry := if p = 0 then (settings s).port0 else (settings s).port1

/-- The time-mapping interval: the shorter of the two plant-port entries', in ns. -/
def mapInterval (s : State) : Nat := min (portEntry s 0).mapInterval (portEntry s 1).mapInterval * sec

/-- TIME_MAPPING_INTERVAL (R127, R134, R439). -/
def timeMappingInterval (s : State) : State :=
  if s.tb.now < s.tb.lastMap + mapInterval s then s else timeMapping 0 s

/-- TIME_MAPPING_INTERVAL (R127, R134, R439). -/
def execTimeMappingInterval (s : State) : Host.Outcome State Fault Refusal := .next (timeMappingInterval s)

/-! ### PTP (R130 to R132) -/

/-- The PTP function is enabled. -/
def ptpEnabled (s : State) : Bool :=
  ((portEntry s 0).enabled && (portEntry s 0).ptp) || ((portEntry s 1).enabled && (portEntry s 1).ptp)

/-- The identity of the selected grandmaster. -/
def gmId (s : State) : W64 :=
  match s.tb.master with
  | some m => m.gmId
  | none => 0

/-- Change the PTP state: recorded as 0x0003; an exit from LOCKED is counted; an entry is followed by a time mapping (R131, R134). -/
def setPtpState (st : Fin 4) (s : State) : State :=
  let old := s.tb.ptpState
  if old = st then s
  else
    let s1 := { s with
      tb := { s.tb with ptpState := st, inLock := 0, lockRef := 0, holdSince := s.tb.now }
      tbAcc := if old = 2 then { s.tbAcc with lockLoss := satSucc max32 s.tbAcc.lockLoss } else s.tbAcc }
    let s2 := logEv 0x0003 (old == 2) [(1, old.val), (1, st.val), (1, s.tb.ptpPort.val), (8, (gmId s).toNat)] s1
    if st = 2 then timeMapping 1 s2 else s2

/-- What an image's plant-port entries make of the PTP function. -/
def configurePtp (s : State) : State :=
  if ptpEnabled s then (if s.tb.ptpState = 0 then setPtpState 1 s else s)
  else setPtpState 0 { s with tb := { s.tb with master := none, masters := [] } }

/-- The order of the best master clock algorithm: the lower of two tuples is the better master. -/
def masterKey (m : PtpAnnounce) : List Nat :=
  [m.priority1.toNat, m.clockClass.toNat, m.accuracy.toNat, m.variance.toNat, m.priority2.toNat, m.gmId.toNat,
   m.stepsRemoved.toNat, m.sender.toNat, m.port.val]

/-- Lexicographic order. -/
def keyLess : List Nat → List Nat → Bool
  | a :: as, b :: bs => a < b || (a == b && keyLess as bs)
  | _, _ => false

/-- The best of the masters heard. -/
def bestMaster : List (PtpAnnounce × Nat) → Option PtpAnnounce
  | [] => none
  | (m, _) :: rest =>
    match bestMaster rest with
    | some b => if keyLess (masterKey b) (masterKey m) then some b else some m
    | none => some m

/-- The announce receipt timeout of a master: three of its announce intervals, in ns (R130). -/
def announceTimeout (m : PtpAnnounce) : Nat := 3 * (125 * ms) * 2 ^ (m.logInterval + 3).toNat

/-- The masters whose announce messages have not timed out. -/
def liveMasters (now : Nat) (ms' : List (PtpAnnounce × Nat)) : List (PtpAnnounce × Nat) :=
  ms'.filter (fun x => decide (now < x.2 + announceTimeout x.1))

/-- An announce message of a port that PTP uses, of its domain, with an interval of R130. -/
def announceFits (m : PtpAnnounce) (s : State) : Bool :=
  (portEntry s m.port).enabled && (portEntry s m.port).ptp && m.domain.toNat == (portEntry s m.port).domain
    && decide (-3 ≤ m.logInterval) && decide (m.logInterval ≤ 4)

/-- Two announce messages of one master on one port. -/
def sameMaster (a b : PtpAnnounce) : Bool := a.sender == b.sender && a.port == b.port

/-- A master is selected. Another one begins the count of syncs anew; another grandmaster identity returns LOCKED or HOLDOVER to
LISTENING (R131). -/
def selectMaster (best : Option PtpAnnounce) (s : State) : State :=
  let other := match s.tb.master, best with
    | some a, some b => !sameMaster a b
    | _, _ => true
  let changed := match s.tb.master, best with
    | some a, some b => a.gmId != b.gmId
    | _, _ => false
  let at_ := match best with
    | some b => ((s.tb.masters.find? (fun x => sameMaster x.1 b)).map (fun x => x.2)).getD s.tb.lastAnnounce
    | none => s.tb.lastAnnounce
  let s1 := { s with tb := { s.tb with
    master := best, lastAnnounce := at_
    inLock := if other then 0 else s.tb.inLock, lockRef := if other then 0 else s.tb.lockRef
    pendSync := if other then none else s.tb.pendSync, delayReq := if other then none else s.tb.delayReq
    ptpPort := match best with | some b => b.port | none => s.tb.ptpPort } }
  if changed && (s.tb.ptpState == 2 || s.tb.ptpState == 3) then setPtpState 1 s1 else s1

/-- PTP_ANNOUNCE_RECEIVE: the best of the masters that still announce themselves is selected (R130, R131). -/
def ptpAnnounceReceive (m : PtpAnnounce) (s : State) : State :=
  if !announceFits m s then s
  else
    let heard := liveMasters s.tb.now (s.tb.masters.filter (fun x => !sameMaster x.1 m)) ++ [(m, s.tb.now)]
    selectMaster (bestMaster heard) { s with tb := { s.tb with masters := heard } }

/-- PTP_ANNOUNCE_RECEIVE (R130, R131). -/
def execPtpAnnounceReceive (m : PtpAnnounce) (s : State) : Host.Outcome State Fault Refusal := .next (ptpAnnounceReceive m s)

/-- In RUN a standby does not discipline itself to PTP (R135). -/
def disciplines (s : State) : Bool := !inRun s || holds s || !partnerPresent s

/-- The matched rate, of a master's or of the holder's time (R131, R135, R137): the manual gives no rule for it but its limit of ±200 ppm
(R129), so it is a free value within it. -/
def matchRate (s : State) : State :=
  let (r, s1) := freeValue 32 s
  { s1 with tb := { s1.tb with rate := max (-200000) (min 200000 r.toInt) } }

/-- The PTP offset takes a value; what has been measured of the path stays true. -/
def setPtpOfs (v : Int) (s : State) : State :=
  { s with tb := { s.tb with ptpOfs := v, m2s := s.tb.m2s + (v - s.tb.ptpOfs) } }

/-- In LOCKED an offset of up to 1 ms is removed by slewing; a greater one is entered into the PTP offset, counted and recorded (R132). -/
def steer (err : Int) (s : State) : State :=
  if decide (err ≤ 1000000) && decide (-1000000 ≤ err) then
    matchRate { s with tb := { s.tb with slew := err * 4294967296 } }
  else
    let s1 := setPtpOfs (s.tb.ptpOfs + err) { s with
      tb := { s.tb with slew := 0 }, tbAcc := { s.tbAcc with absorb := satSucc max32 s.tbAcc.absorb } }
    timeMapping 2 (logEv 0x0004 false [(8, signedField 8 err)] s1)

/-- The time base takes PTP time; the PTP offset is 0 (R127, R132). -/
def setFromPtp (err : Int) (s : State) : State :=
  setPtpOfs 0 (setTime ((s.tb.now : Int) + s.tb.ptpOfs + err).toNat 1 { s with tb := { s.tb with m2s := s.tb.m2s + s.tb.ptpOfs + err } })

/-- LOCKED is reached: before the module leaves CALIBRATE the time base is set from PTP; later an offset is treated by R132. -/
def enterLocked (err : Int) (s : State) : State :=
  if beforeJoin s then setPtpState 2 (setFromPtp err s)
  else
    let s1 := setPtpState 2 s
    if disciplines s1 then steer err s1 else s1

/-- A sync counts towards LOCKED when its offset lies within ±1 µs of the reference; another begins anew (R131; log 73). -/
def countSync (err : Int) (s : State) : State :=
  let near := fun (r : Int) => decide (err - r ≤ 1000) && decide (-1000 ≤ err - r)
  if near s.tb.lockRef then { s with tb := { s.tb with inLock := s.tb.inLock + 1 } }
  else { s with tb := { s.tb with inLock := 1, lockRef := if near 0 then 0 else err } }

/-- A measured offset of the master's time minus plant time, in ns (R131, R132). -/
def takeOffset (err : Int) (s : State) : State :=
  let s1 := { s with
    tb := { s.tb with ptpErr := err }
    tbAcc := { s.tbAcc with ptpMax := max s.tbAcc.ptpMax (min err.natAbs max32) } }
  if s.tb.ptpState = 2 then (if disciplines s1 then steer err s1 else s1)
  else
    let s2 := countSync err s1
    if 16 ≤ s2.tb.inLock then enterLocked err s2 else s2

/-- The offset that a sync gives, and the delay request that follows it (R130). Before the first Delay_Resp the path delay is 0.
DESIGN CHOICE, log 73. -/
def measureSync (origin rx : Nat) (correction : Int) (s : State) : State :=
  let m2s : Int := (rx : Int) + s.tb.ptpOfs - ((origin : Int) + correction)
  let s1 := takeOffset (s.tb.pathDelay - m2s)
    { s with tb := { s.tb with m2s := m2s, lastSync := s.tb.now, pendSync := none } }
  let seq := s1.tb.delaySeq + 1
  emit (.ptpDelayReq s1.tb.ptpPort seq)
    { s1 with tb := { s1.tb with delaySeq := seq, delayReq := some (seq, s1.tb.now) } }

/-- The selected master sent this, on the selected port and in the module's domain. -/
def fromMaster (s : State) (port : Fin 2) (domain : Byte) (sender : W64) : Bool :=
  match s.tb.master with
  | some m => m.sender == sender && port == s.tb.ptpPort && domain.toNat == (portEntry s port).domain && s.tb.ptpState != 0
  | none => false

/-- PTP_SYNC_RECEIVE: of the selected master, with an interval of R130; a two-step sync waits for its Follow_Up. -/
def ptpSyncReceive (m : PtpSync) (s : State) : State :=
  if !fromMaster s m.port m.domain m.sender || decide (m.logInterval < -7) || decide (0 < m.logInterval) then s
  else if m.twoStep then { s with tb := { s.tb with pendSync := some ⟨m.sender, m.seq, m.rx, m.correction⟩ } }
  else measureSync m.origin m.rx m.correction s

/-- PTP_SYNC_RECEIVE (R129 to R132, R134). -/
def execPtpSyncReceive (m : PtpSync) (s : State) : Host.Outcome State Fault Refusal := .next (ptpSyncReceive m s)

/-- PTP_FOLLOW_UP_RECEIVE: completes the two-step sync of the same sender and sequence (R130). -/
def ptpFollowUpReceive (m : PtpFollowUp) (s : State) : State :=
  match s.tb.pendSync with
  | some p => if p.sender == m.sender && p.seq == m.seq && fromMaster s m.port m.domain m.sender
      then measureSync m.origin p.rx (p.correction + m.correction) s else s
  | none => s

/-- PTP_FOLLOW_UP_RECEIVE (R130, R132). -/
def execPtpFollowUpReceive (m : PtpFollowUp) (s : State) : Host.Outcome State Fault Refusal := .next (ptpFollowUpReceive m s)

/-- PTP_DELAY_RESP_RECEIVE: the mean of both directions is the path delay (R130, end to end). -/
def ptpDelayRespReceive (m : PtpDelayResp) (s : State) : State :=
  match s.tb.delayReq with
  | some (q, t3) =>
    if q == m.seq && m.forUs && fromMaster s m.port m.domain m.sender then
      let s2m : Int := (m.rx : Int) - m.correction - ((t3 : Int) + s.tb.ptpOfs)
      { s with tb := { s.tb with pathDelay := Int.tdiv (s.tb.m2s + s2m) 2, delayReq := none } }
    else s
  | none => s

/-- PTP_DELAY_RESP_RECEIVE (R130). -/
def execPtpDelayRespReceive (m : PtpDelayResp) (s : State) : Host.Outcome State Fault Refusal := .next (ptpDelayRespReceive m s)

/-- The selected master's announce receipt timeout has run out. -/
def announceLapsed (s : State) : Bool :=
  match s.tb.master with
  | some m => decide (s.tb.lastAnnounce + announceTimeout m ≤ s.tb.now)
  | none => true

/-- PTP_HOLDOVER_TIMEOUT: in LOCKED, no sync for 3 s, or the announce receipt timeout. -/
def ptpHoldoverTimeout (s : State) : State :=
  if s.tb.ptpState = 2 ∧ (s.tb.lastSync + 3 * sec ≤ s.tb.now ∨ announceLapsed s = true) then setPtpState 3 s else s

/-- PTP_HOLDOVER_TIMEOUT (R131). -/
def execPtpHoldoverTimeout (s : State) : Host.Outcome State Fault Refusal := .next (ptpHoldoverTimeout s)

/-- PTP_LISTENING_TIMEOUT: HOLDOVER for 3 600 s (R131). -/
def ptpListeningTimeout (s : State) : State :=
  if s.tb.ptpState = 3 ∧ s.tb.holdSince + 3600 * sec ≤ s.tb.now then
    setPtpState 1 { s with tb := { s.tb with master := none, masters := [] } }
  else s

/-- PTP_LISTENING_TIMEOUT (R131). -/
def execPtpListeningTimeout (s : State) : Host.Outcome State Fault Refusal := .next (ptpListeningTimeout s)

/-! ### Alignment in a pair (R135, R137) -/

/-- PAIR_ALIGNMENT_LOSS: without time messages, when ±0.5 ppm may have taken the difference past ±50 ns: 2 ms for each ns left. -/
def pairAlignmentLoss (s : State) : State :=
  if s.tb.pairAligned && decide (s.tb.lastHb + (50 - min 50 s.tb.pairErr.natAbs) * 2 * ms ≤ s.tb.now)
  then { s with tb := { s.tb with pairAligned := false } } else s

/-- PAIR_ALIGNMENT_LOSS (R137). -/
def execPairAlignmentLoss (s : State) : Host.Outcome State Fault Refusal := .next (pairAlignmentLoss s)

/-- The one-way delay of a link: half the round trip of this module's heartbeat and the partner's that answers it, less the time the
partner had it (R135). -/
def roundTripDelay (now sent held : Nat) : Nat := (now - sent - held) / 2

/-- What a heartbeat shows of its link: a lease holder measures the delay (R135). -/
def measureLink (l : Fin 2) (h : Heartbeat) (s : State) : State :=
  let s1 := { s with pair := { s.pair with hbIn := upd s.pair.hbIn l (fun _ => some (h.timeBase, s.tb.now)) } }
  match h.echo with
  | some (sent, held) =>
    if holds s then
      let d := roundTripDelay s.tb.now sent held
      { s1 with tb := { s1.tb with linkDly := upd s1.tb.linkDly l (fun _ => d), pairDly := d } }
    else s1
  | none => s1

/-- A standby follows the time that the holder's message carries (R135): its PTP offset is adopted, its rate matched, the difference
removed by slewing and shown. -/
def followHolder (h : Heartbeat) (s : State) : State :=
  let diff : Int := (s.tb.now : Int) - ((h.timeBase : Int) + h.delay)
  matchRate (setPtpOfs h.ptpOfs { s with
    tb := { s.tb with
      slew := -diff * 4294967296, pairErr := diff, pairDly := h.delay
      pairAligned := decide (diff ≤ 50) && decide (-50 ≤ diff), lastHb := s.tb.now }
    tbAcc := { s.tbAcc with pairMax := max s.tbAcc.pairMax (min diff.natAbs max32) } })

end Sys2Proof.Machine
end

