-- ==== Sys2Proof/Machine/Digital.lean ====
section
/-!
DEFINITION. Digital inputs and outputs and the field supply L+ (13): what the island does.
-/

namespace Sys2Proof.Machine

/-! ### Inputs (R344 to R350) -/

/-- The filter time of a filter code in ns; none is shorter than 100 µs for an acceptance (R348). -/
def filterTime (code : Nat) : Nat :=
  if code = 1 then 50 * us else if code = 2 then 100 * us else if code = 3 then 200 * us else if code = 4 then 500 * us
  else if code = 5 then ms else if code = 6 then 2 * ms else if code = 7 then 5 * ms else if code = 8 then 10 * ms else 20 * ms

/-- The band of a terminal voltage in 10 mV, as CH_DI_STATE.BAND codes it (R347, R364). -/
def bandOf (v : BitVec 16) : Nat :=
  let t := v.toInt
  if t < 50 then 0 else if t < 70 then 1 else if t < 400 then 2 else if t ≤ 1100 then 3 else 4

/-- What a band means: 0 wire break, 1 off, 2 on, 3 undefined (R347). -/
def bandClass (detect : Bool) (band : Nat) : Nat :=
  if band = 4 then 2 else if band = 3 then 3 else if !detect then 1
  else if band = 0 then 0 else if band = 1 then 3 else 1

/-- The island works and the channel is a digital input. -/
def diOn (s : State) (c : Fin 192) : Bool := s.io.own[islandOf c].configured && isDi (chanEntry s c)

/-- OWTEST of a digital input ends after one filter time plus 1 ms: 0 in the off or the on band, 1 below 0.5 V, 2 between bands (R351). -/
def endDiTest (c : Fin 192) (s : State) : State :=
  let a := s.io.ai[c]
  if a.owRun && decide (a.owSince + filterTime (chanEntry s c).filter + ms ≤ s.tb.now) then
    let b := s.io.di[c].band
    islResult (islandOf c) (some c) 6 (if b = 0 then 1 else if b = 1 ∨ b = 3 then 2 else 0)
      (onAi c (fun x => { x with owRun := false, owCmd := false }) s)
  else s

/-- DI_TERMINAL_SAMPLE: the terminal's band; a change of its meaning begins a new stay, one into or out of the wire-break band also that
time. -/
def diTerminalSample (c : Fin 192) (vterm : BitVec 16) (s : State) : State :=
  if !diOn s c then s
  else
    let d := s.io.di[c]
    let b := bandOf vterm
    let cl := bandClass (chanEntry s c).owDiag b
    let s1 := onDi c (fun x => { x with
      vterm := vterm, band := b, candidate := cl
      since := if cl = d.candidate then x.since else s.tb.now
      wbSince := if (cl = 0) == (d.candidate = 0) then x.wbSince else s.tb.now }) s
    endDiTest c (onChan c (fun k => { k with
      islStamp := islandTime s (islandOf c), islUnc := timeUncertain s.io.own[islandOf c] s.tb.now }) s1)

/-- DI_TERMINAL_SAMPLE (R347, R351). -/
def execDiTerminalSample (c : Fin 192) (vterm : BitVec 16) (s : State) : Host.Outcome State Fault Refusal :=
  .next (diTerminalSample c vterm s)

/-- The directions of edges that a channel counts or measures: bit 0 rising, bit 1 falling. -/
def edgesOf (e : ChanEntry) : BitVec 2 := e.param0.extractLsb' 0 2

/-- An enabled task with trigger 1 names this channel and this direction (R348). -/
def edgeWanted (s : State) (c : Fin 192) (dir : Nat) : Bool :=
  (enabledTasks s).any (fun t => t.event && t.trigger == 1 && t.argA == c.val && (t.argB &&& dir) != 0)

/-- An edge is accepted: stamped, counted, and reported where a task listens. -/
def acceptEdge (c : Fin 192) (rising : Bool) (at_ : Nat) (s : State) : State :=
  let e := chanEntry s c
  let dir : Nat := if rising then 1 else 2
  let counted := (edgesOf e).toNat &&& dir != 0 && (e.mode == 9 || e.mode == 10)
  let s1 := onDi c (fun x => { x with
    lastEdge := at_
    count := if counted && e.mode == 9 then x.count + 1 else x.count
    edges := if counted then (at_ :: x.edges).filter (fun t => at_ ≤ t + 10 * sec) else x.edges }) s
  if edgeWanted s c dir then
    islEvent (islandOf c) ⟨c, 1, at_, BitVec.ofNat 32 dir, timeUncertain s.io.own[islandOf c] s.tb.now⟩ s1
  else s1

/-- A state is accepted (R347, R348): the first one since the island started is no edge. -/
def acceptState (c : Fin 192) (on : Bool) (s : State) : State :=
  let d := s.io.di[c]
  let s1 := onDi c (fun x => { x with state := on, known := true, undef_ := false }) s
  if d.known && d.state != on then acceptEdge c on (islandStamp s (islandOf c) d.since) s1 else s1

/-- DI_FILTER_EXPIRY: a stay of the filter time in the off or the on band accepts the state; a longer one between the bands sets
UNDEFINED. While OPENWIRE is set neither happens. -/
def diFilterExpiry (c : Fin 192) (s : State) : State :=
  let d := s.io.di[c]
  let t := filterTime (chanEntry s c).filter
  if !diOn s c || d.openWire then s
  else if d.candidate = 3 then (if d.since + t < s.tb.now then onDi c (fun x => { x with undef_ := true }) s else s)
  else if d.candidate = 0 then s
  else if s.tb.now < d.since + max t (100 * us) then s
  else acceptState c (d.candidate == 2) s

/-- DI_FILTER_EXPIRY (R142, R143, R145, R347, R348). -/
def execDiFilterExpiry (c : Fin 192) (s : State) : Host.Outcome State Fault Refusal := .next (diFilterExpiry c s)

/-- DI_WIREBREAK_TIMEOUT: 20 ms in the wire-break band, or in another; no new verdict from the loss of L+ to 20 ms after its return. -/
def diWirebreakTimeout (c : Fin 192) (s : State) : State :=
  let d := s.io.di[c]
  let u := s.io.sup[islandOf c]
  let broken := decide (d.candidate = 0)
  if !diOn s c || !(chanEntry s c).owDiag || s.tb.now < d.wbSince + 20 * ms || d.openWire == broken || u.lost || s.tb.now < u.wbInhibit then s
  else
    report (islandOf c) 0x4305 broken [(1, c.val), (1, bitNat broken)]
      (onDi c (fun x => { x with openWire := broken, undef_ := x.undef_ && !broken }) s)

/-- DI_WIREBREAK_TIMEOUT (R347, R361, R362). -/
def execDiWirebreakTimeout (c : Fin 192) (s : State) : Host.Outcome State Fault Refusal := .next (diWirebreakTimeout c s)

/-- The gate time of a frequency channel in ns. -/
def gateTime (e : ChanEntry) : Nat := (if e.param1 = 0 then 1000 else e.param1.toNat) * ms

/-- The frequency by the reciprocal method, and whether no edge was found (R146). Edges are newest first. The last one lies within the last
10 s, and the one before it within 10 s of it. -/
def frequency (e : ChanEntry) (edges : List Nat) (now : Nat) : W64 × Bool :=
  match edges.filter (fun t => edges.headD 0 ≤ t + 10 * sec && now ≤ edges.headD 0 + 10 * sec) with
  | last :: second :: rest =>
    let inGate := (last :: second :: rest).filter (fun t => last ≤ t + gateTime e)
    let used := if inGate.length < 2 then [last, second] else inGate
    let first := used.getLastD last
    (if last ≤ first then 0 else real64 (((used.length - 1) * sec : Nat)) (last - first), false)
  | _ => (0, true)

/-- The count after a preset to `v` that takes effect at `at_`: edges stamped at or after it are counted on top (R349). -/
def presetCount (c : Fin 192) (v : W32) (at_ : Nat) (s : State) : State :=
  let n := (s.io.di[c].edges.filter (fun t => at_ ≤ t)).length
  islResult (islandOf c) (some c) 6 0 (onDi c (fun x => { x with count := v + BitVec.ofNat 32 n }) s)

/-! ### Outputs (R352 to R359) -/

/-- The island works and the channel is a digital output. -/
def doLive (s : State) (c : Fin 192) : Bool := s.io.own[islandOf c].configured && isDo (chanEntry s c)

/-- DO_COMPLIANCE_TIMEOUT: 1 ms of limiting sets COMPLIANCE, 10 ms without clears it. -/
def doComplianceTimeout (c : Fin 192) (s : State) : State :=
  let d := s.io.dO[c]
  if !doLive s c then s
  else if !d.comply && heldFor d.limSince ms s.tb.now then onDo c (fun d => { d with comply := true }) s
  else if d.comply && heldFor d.freeSince (10 * ms) s.tb.now then onDo c (fun d => { d with comply := false }) s
  else s

/-- DO_COMPLIANCE_TIMEOUT (R353). -/
def execDoComplianceTimeout (c : Fin 192) (s : State) : Host.Outcome State Fault Refusal := .next (doComplianceTimeout c s)

/-- The group of a channel. -/
def myGroup (s : State) (c : Fin 192) : List (Fin 192) := groupOf s (leaderOf s c)

/-- DO_THERMAL_SHUTDOWN: a switch that is on and hotter than 170 °C, in 0.1 °C, turns itself off, and its group with it. -/
def doThermalShutdown (c : Fin 192) (temp : BitVec 16) (s : State) : State :=
  let d := s.io.dO[c]
  if !doLive s c || !d.on || decide (temp.toInt ≤ 1700) then s
  else
    let s1 := overAll (myGroup s c) (fun m st => onDo m (fun x =>
      { switchTo false s.tb.now x with thermal := true, thermalOff := true, thermalAt := s.tb.now }) st) s
    report (islandOf c) 0x4301 true [(1, c.val), (1, 1), (2, d.retries)] s1

/-- DO_THERMAL_SHUTDOWN (R354, R359, R362). -/
def execDoThermalShutdown (c : Fin 192) (temp : BitVec 16) (s : State) : Host.Outcome State Fault Refusal :=
  .next (doThermalShutdown c temp s)

/-- DO_THERMAL_RETRY: after 100 ms the group switches on again if it is still commanded on. -/
def doThermalRetry (c : Fin 192) (s : State) : State :=
  let d := s.io.dO[c]
  let l := leaderOf s c
  if !doLive s c || !d.thermalOff || s.tb.now < d.thermalAt + 100 * ms || !doCommanded s l then s
  else
    refreshDo l (overAll (myGroup s c) (fun m st => onDo m (fun x => { x with
      thermalOff := false, retries := satSucc 0xFFFF x.retries }) st) s)

/-- DO_THERMAL_RETRY (R354, R361). -/
def execDoThermalRetry (c : Fin 192) (s : State) : Host.Outcome State Fault Refusal := .next (doThermalRetry c s)

/-- DO_THERMAL_CLEAR: 1 s on without a shutdown, or commanded off and cooled below 150 °C. -/
def doThermalClear (c : Fin 192) (temp : BitVec 16) (s : State) : State :=
  let d := s.io.dO[c]
  let stayed := d.on && !d.thermalOff && decide (d.onSince + sec ≤ s.tb.now)
  let off := !doCommanded s (leaderOf s c) && decide (temp.toInt < 1500)
  if !doLive s c || !d.thermal || !(stayed || off) then s
  else
    report (islandOf c) 0x4301 false [(1, c.val), (1, 0), (2, d.retries)]
      (overAll (myGroup s c) (fun m st => onDo m (fun x => { x with thermal := false, thermalOff := false }) st) s)

/-- DO_THERMAL_CLEAR (R354, R362). -/
def execDoThermalClear (c : Fin 192) (temp : BitVec 16) (s : State) : Host.Outcome State Fault Refusal := .next (doThermalClear c temp s)

/-- DO_OPEN_LOAD_TIMEOUT: commanded on with its own current below the threshold for 100 ms. -/
def doOpenLoadTimeout (c : Fin 192) (s : State) : State :=
  let d := s.io.dO[c]
  match d.lowSince with
  | some t =>
    if doLive s c && (chanEntry s c).owDiag && d.cmd && !d.openLoad && decide (t + 100 * ms ≤ s.tb.now) then
      report (islandOf c) 0x4306 true [(1, c.val), (1, 1)] (onDo c (fun x => { x with openLoad := true }) s)
    else s
  | none => s

/-- DO_OPEN_LOAD_TIMEOUT (R355, R362). -/
def execDoOpenLoadTimeout (c : Fin 192) (s : State) : Host.Outcome State Fault Refusal := .next (doOpenLoadTimeout c s)

/-- EXTDRIVE is not evaluated while the partner is expected to drive the terminal (R357). -/
def extIgnored (s : State) (c : Fin 192) : Bool :=
  s.io.own[islandOf c].paired && (s.io.chan[c].safe || s.io.sup[islandOf c].lost)

/-- DO_EXTDRIVE_TIMEOUT: 1 ms commanded off with the terminal above 11 V sets EXTDRIVE, 1 ms below 4 V clears it. -/
def doExtdriveTimeout (c : Fin 192) (s : State) : State :=
  let d := s.io.dO[c]
  let set := !d.extDrive && !doCommanded s (leaderOf s c) && !extIgnored s c && heldFor d.extSince ms s.tb.now
    && decide (d.offSince + ms ≤ s.tb.now)
  let clear := d.extDrive && heldFor d.calmSince ms s.tb.now
  if !doLive s c || !(set || clear) then s
  else report (islandOf c) 0x4302 set [(1, c.val), (1, bitNat set), (2, d.vterm)] (onDo c (fun x => { x with extDrive := set }) s)

/-- DO_EXTDRIVE_TIMEOUT (R357, R362). -/
def execDoExtdriveTimeout (c : Fin 192) (s : State) : Host.Outcome State Fault Refusal := .next (doExtdriveTimeout c s)

/-- GANG_IMBALANCE_TIMEOUT: 100 ms of imbalance at a total above 0.2 A sets IMBAL on the leader, 100 ms within 20 % clears it. -/
def gangImbalanceTimeout (c : Fin 192) (s : State) : State :=
  let d := s.io.dO[c]
  let set := !d.imbal && heldFor d.unevenSince (100 * ms) s.tb.now
  let clear := d.imbal && heldFor d.evenSince (100 * ms) s.tb.now
  let mas := (groupOf s c).map (fun g => s.io.dO[g].micro / 1000)
  if !doLive s c || groupSize (chanEntry s c) = 1 || !(set || clear) then s
  else
    report (islandOf c) 0x4304 set [(1, c.val), (1, bitNat set), (2, sat16 (groupMicro s c / 1000)), (2, sat16 (mas.foldl min 0xFFFF))]
      (onDo c (fun x => { x with imbal := set }) s)

/-- GANG_IMBALANCE_TIMEOUT (R359, R362). -/
def execGangImbalanceTimeout (c : Fin 192) (s : State) : Host.Outcome State Fault Refusal := .next (gangImbalanceTimeout c s)

/-- A PWM channel follows its duty: a leader or single channel that is neither in a safe state nor off for its supply. -/
def pwmLive (s : State) (c : Fin 192) : Bool := doLive s c && (chanEntry s c).pwm && doFree s c && pwmPeriod (chanEntry s c) != 0

/-- PWM_PERIOD_START: at a whole multiple of the period, in island time, the new duty takes effect and the switch turns on. -/
def pwmPeriodStart (c : Fin 192) (s : State) : State :=
  let d := s.io.dO[c]
  let per := pwmPeriod (chanEntry s c)
  let start := islandTime s (islandOf c) / per * per
  if !pwmLive s c || d.pwmAt == some start then s
  else switchGroup c (doCommanded s c && !d.thermalOff) (onDo c (fun x => { x with pwmAt := some start, onTime := x.nextOn }) s)

/-- PWM_PERIOD_START (R356). -/
def execPwmPeriodStart (c : Fin 192) (s : State) : Host.Outcome State Fault Refusal := .next (pwmPeriodStart c s)

/-- PWM_OFF: after the on-time the switch turns off, unless the duty is 100 %. -/
def pwmOff (c : Fin 192) (s : State) : State :=
  let d := s.io.dO[c]
  match d.pwmAt with
  | some t =>
    if pwmLive s c && d.on && decide (d.onTime < pwmPeriod (chanEntry s c)) && decide (t + d.onTime ≤ islandTime s (islandOf c))
    then switchGroup c false s else s
  | none => s

/-- PWM_OFF (R356). -/
def execPwmOff (c : Fin 192) (s : State) : Host.Outcome State Fault Refusal := .next (pwmOff c s)

/-! ### Field supply (R360) -/

/-- L+ of any island lies above 30 V; every L+ lies below 29.5 V (R428, condition 5). -/
def judgeField (v10 : Nat) (s : State) : State :=
  envJudge 5 (decide (3000 < v10)) ((List.finRange 24).all (fun n => decide (s.io.sup[n].v10 < 2950))) v10 s

/-- LPLUS_MEASUREMENT: the warning at 19.2 V with its end at 19.7 V, the loss below 16.0 V. -/
def lplusMeasurement (n : Fin 24) (v10 : Nat) (s : State) : State :=
  if s.io.isl[n].st == .off || s.io.isl[n].restartAt.isSome then s
  else
    let u := s.io.sup[n]
    let lost := decide (v10 < 1600)
    let s1 := judgeField v10 (onSup n (fun x => { x with
      v10 := v10
      warn := if v10 < 1920 then true else if 1970 < v10 then false else x.warn
      lost := x.lost || lost
      latched := x.latched || (lost && (islEntry s n).latchOff)
      lostAt := if lost && !x.lost then s.tb.now else x.lostAt
      goodSince := if 1700 < v10 then (if x.goodSince.isNone then some s.tb.now else x.goodSince) else none }) s)
    if lost && !u.lost then refreshOutputs n (report n 0x4303 true [(1, n.val), (1, 1), (2, v10), (4, 0)] s1) else s1

/-- LPLUS_MEASUREMENT (R286, R336, R360, R362, R428). -/
def execLplusMeasurement (n : Fin 24) (v10 : Nat) (s : State) : Host.Outcome State Fault Refusal := .next (lplusMeasurement n v10 s)

/-- The outputs return to their latest commanded states; wire-break verdicts wait 20 ms more. -/
def restoreSupply (n : Fin 24) (s : State) : State :=
  refreshOutputs n (onSup n (fun x => { x with lost := false, latched := false, wbInhibit := s.tb.now + 20 * ms }) s)

/-- LPLUS_RESTORE_TIMEOUT: 10 ms above 17.0 V, unless the island latches its outputs off. -/
def lplusRestoreTimeout (n : Fin 24) (s : State) : State :=
  let u := s.io.sup[n]
  match u.goodSince with
  | some t =>
    if u.lost && !u.latched && decide (t + 10 * ms ≤ s.tb.now) then
      report n 0x4303 false [(1, n.val), (1, 0), (2, u.v10), (4, min max32 ((s.tb.now - u.lostAt) / ms))] (restoreSupply n s)
    else s
  | none => s

/-- LPLUS_RESTORE_TIMEOUT (R336, R360 to R362). -/
def execLplusRestoreTimeout (n : Fin 24) (s : State) : Host.Outcome State Fault Refusal := .next (lplusRestoreTimeout n s)

/-- SUPPLY_RELEASE at the island: only while L+ lies above 17.0 V; with nothing latched off it changes nothing. -/
def supplyRelease (n : Fin 24) (s : State) : State :=
  let u := s.io.sup[n]
  if !u.latched then islResult n none 6 0 s
  else if u.v10 ≤ 1700 then islResult n none 7 1 s
  else islResult n none 6 0 (report n 0x4307 false [(1, n.val), (2, u.v10)] (restoreSupply n s))

end Sys2Proof.Machine
end

