-- ==== Sys2Proof/Machine/Islands.lean ====
section
/-!
DEFINITION. The ford and the islands (10): frames in both directions, states of islands, commands of hosts and routines.
-/

namespace Sys2Proof.Machine

/-! ### The island's side (R278, R279, R285 to R287) -/

/-- The reading of a digital input (R345): state, count or frequency, and when the island took it. -/
def diReading (s : State) (c : Fin 192) : ChanReturn :=
  let d := s.io.di[c]
  let e := chanEntry s c
  let f := frequency e d.edges (islandTime s (islandOf c))
  let st : BitVec 16 := (if d.undef_ then stUndefined else 0) ||| (if d.openWire then stOpenWire else 0)
    ||| (if e.mode = 10 ∧ f.2 then stNoEdge else 0)
  let unc : BitVec 16 := if timeUncertain s.io.own[islandOf c] s.tb.now then stTimeUnc else 0
  if e.mode = 8 then ⟨if d.state then 1 else 0, st ||| (if s.io.chan[c].islUnc then stTimeUnc else 0), s.io.chan[c].islStamp⟩
  else if e.mode = 9 then ⟨d.count.setWidth 64, st ||| unc, islandTime s (islandOf c)⟩
  else ⟨f.1, st ||| unc, islandTime s (islandOf c)⟩

/-- A channel's part of the return frame. -/
def chanReturn (s : State) (c : Fin 192) : ChanReturn :=
  let e := chanEntry s c
  let k := s.io.chan[c]
  if isAi e then ⟨k.islValue, k.islStatus, k.islStamp⟩
  else if isAo e then ⟨k.islValue, aoStatus s c ||| (if k.islUnc then stTimeUnc else 0), k.islStamp⟩
  else if isDi e then diReading s c
  else if isDo e then ⟨k.islValue, doStatus s c ||| (if k.islUnc then stTimeUnc else 0), k.islStamp⟩
  else ⟨0, 0, 0⟩

/-- The island answers with a return frame: at most 8 events. `fault`: it has found an internal fault in itself. -/
def answerFrame (n : Fin 24) (f : DownFrame) (fault : Bool) (turn : Nat) (s : State) : State :=
  let k := s.io.own[n]
  let u : UpFrame :=
    { seq := f.seq, turn := turn, vb := k.vb, temp := k.temp, lplus := s.io.sup[n].v10, restarted := k.restarted
      fault := fault, silent := k.silentSeen, safe := k.safeLatched, uncertain := timeUncertain k s.tb.now
      chans := (chansOf n).map (chanReturn s), events := k.events.take 8, supWarn := s.io.sup[n].warn, supLost := s.io.sup[n].lost
      calRun := k.calSince.isSome, band := k.band, seqGaps := k.seqGaps, evLost := k.evLost, beaconsMissed := k.beaconsMissed }
  onOwn n (fun x => { x with up := some u, events := x.events.drop 8, seqGaps := 0, evLost := 0, beaconsMissed := 0 }) s

/-- A command at the island. -/
def islandCommand (cmd : ChanCmd) (at_ : Option Nat) (s : State) : State :=
  match cmd with
  | .calIsland n => if s.io.own[n].calSince.isSome then s else startCal n s
  | .urgent c => startUrgent c s
  | .owtest c tv =>
    let n := islandOf c
    if s.io.own[n].calSince.isSome ∧ isAi (chanEntry s c) then islResult n (some c) 7 1 s
    else if s.io.ai[c].owRun then islResult n (some c) 2 0 s
    else startTest c (isAi (chanEntry s c) && (tv || tvMode (chanEntry s c))) true s
  | .calload c o g => calload c o g s
  | .cntpreset c v => presetCount c v (at_.getD (islandTime s (islandOf c))) s
  | .cntreset c => presetCount c 0 (at_.getD (islandTime s (islandOf c))) s
  | .supplyRelease n => supplyRelease n s
  | .islRestart _ => s

/-- The voltage outputs that are prepared. -/
def preparedChans (s : State) (n : Fin 24) : List (Fin 192) :=
  (chansOf n).filter (fun c => (chanEntry s c).mode == 7 && s.io.ao[c].drive == .prepared)

/-- The voltage outputs drive after a gain of the lease: recorded (R338). -/
def reportDriven (n : Fin 24) (before : List (Fin 192)) (s : State) : State :=
  let cs := before.filter (fun c => drives s.io.ao[c].drive)
  if cs.isEmpty then s
  else report n 0x4206 false [(1, n.val), (1, bitsOf 8 (fun k => cs.any (fun c => (placeOf c).val == k))),
    (2, sat16 ((s.tb.now - s.lease.lastChange) / us))] s

/-- SAFE is latched until RESUME; SAFE wins when a frame carries both. -/
def frameSafety (n : Fin 24) (f : DownFrame) (s : State) : State :=
  if f.safe then safeOutputs n (onOwn n (fun k => { k with safeLatched := true }) s)
  else if f.resume then onOwn n (fun k => { k with safeLatched := false, silentSeen := false }) s
  else s

/-- The frame's NEW values, discarded while SAFE is latched. -/
def frameValues (n : Fin 24) (f : DownFrame) (s : State) : State :=
  if s.io.own[n].safeLatched then s
  else overAll (f.values.filter (fun v => v.2.2.2)) (fun v st => takeCommand (chanOf n v.1) v.2.1 v.2.2.1 st) s

/-- A beacon that arrived `age` ns ago: the rate correction holds; the difference of beacon time plus latency to the island's time is
removed over the next 10 µs, or at once at the first beacon since power-up and at the first one after 1 ms without (R140, R141). Beacons
missed since the last one are counted, one for each 10 µs. -/
def takeBeacon (f : DownFrame) (age now : Nat) (k : IslSelf) : IslSelf :=
  let target := f.beacon + f.latency + age
  let steps := match k.beaconAt with | some b => decide (b + ms < now) | none => true
  let missed := match k.beaconAt with | some b => (now + 5 * us - b) / (10 * us) - 1 | none => 0
  let k1 := { k with clockRate := f.rate, beaconAt := some now, beaconsMissed := k.beaconsMissed + missed }
  if steps then { k1 with clock := target, clockFrac := 0, clockSlew := 0, slewTicks := 0, stepAt := some now }
  else { k1 with clockSlew := ((target : Int) - k.clock) * 4294967296 - k.clockFrac, slewTicks := 2500 }

/-- An accepted frame acts. -/
def frameActs (n : Fin 24) (f : DownFrame) (age : Nat) (s : State) : State :=
  let k := s.io.own[n]
  let now := s.tb.now
  let gap := match k.lastSeq with | some q => f.seq != q + 1 | none => false
  let s1 := onOwn n (fun x => { takeBeacon f age now x with
    lastSeq := some f.seq, lastAccept := now
    leaseEnd := f.leaseEnd, paired := f.paired, sharesOff := f.sharesOff, silent := false
    seqGaps := if gap then x.seqGaps + 1 else x.seqGaps }) s
  let before := preparedChans s1 n
  let s2 := frameValues n f (frameSafety n f s1)
  let s3 := if f.config then configureIsland n s2 else refreshOutputs n s2
  let s4 := reportDriven n before s3
  let s5 := match f.islCmd with | some c => islandCommand c none s4 | none => s4
  match f.chanCmd with
  | some (c, a) => islandCommand c a s5
  | none => s5

/-- The logic-silence time of an island in ns. -/
def silenceTime (s : State) (n : Fin 24) : Nat := (islEntry s n).silenceUs * us

/-- An island accepts a number 1 to 16 ahead; any after its start and after its logic-silence time (R279). -/
def acceptsSeq (s : State) (n : Fin 24) (f : DownFrame) : Bool :=
  match s.io.own[n].lastSeq with
  | none => true
  | some q => decide (1 ≤ (f.seq - q).toNat ∧ (f.seq - q).toNat ≤ 16) || decide (s.io.own[n].lastAccept + silenceTime s n ≤ s.tb.now)

/-- LOGIC_SILENCE_TIMEOUT: the outputs enter their safe states, and the next frame with a correct CRC is accepted. -/
def logicSilenceTimeout (n : Fin 24) (s : State) : State :=
  let k := s.io.own[n]
  if k.silent || k.lastSeq.isNone || s.tb.now < k.lastAccept + silenceTime s n then s
  else
    report n 0x4003 true [(1, n.val), (4, (islEntry s n).silenceUs)]
      (safeOutputs n (onOwn n (fun x => { x with silent := true, silentSeen := true, lastSeq := none }) s))

/-- ISLAND_FRAME_ACCEPT: the frame on its way reaches the island, acts and is answered; any other is discarded. Logic silence that the
frame's end reaches comes first (R287). -/
def islandFrameAccept (n : Fin 24) (crcOk fault : Bool) (arrival : Nat) (s : State) : State :=
  match s.io.own[n].down with
  | none => s
  | some f =>
    let s1 := onOwn n (fun k => { k with down := none }) s
    if s.io.isl[n].st == .off || s.io.isl[n].restartAt.isSome || s.io.own[n].inReset then s1
    else
      let s2 := logicSilenceTimeout n s1
      if !crcOk || !acceptsSeq s2 n f then onOwn n (fun k => { k with seqGaps := k.seqGaps + 1 }) s2
      else answerFrame n f fault (s.tb.now - arrival) (frameActs n f (s.tb.now - arrival) s2)

/-- ISLAND_FRAME_ACCEPT (R140, R141, R143, R146, R278, R279, R285 to R287, R325 to R327, R329, R334, R335, R337, R338, R340, R345, R350,
R352, R355, R358, R361). -/
def execIslandFrameAccept (n : Fin 24) (crcOk fault : Bool) (arrival : Nat) (s : State) : Host.Outcome State Fault Refusal :=
  .next (islandFrameAccept n crcOk fault arrival s)

/-- LOGIC_SILENCE_TIMEOUT (R279, R285 to R287, R291, R334, R335, R338, R358). -/
def execLogicSilenceTimeout (n : Fin 24) (s : State) : Host.Outcome State Fault Refusal := .next (logicSilenceTimeout n s)

/-- The derating band of a barrier voltage: 50 mV more on the way up (R277). -/
def bandAt (old : Fin 4) (mV : Nat) : Fin 4 :=
  let up := fun (k : Fin 4) (level : Nat) => decide (level + (if k ≤ old then 50 else 0) ≤ mV)
  if up 1 4500 then 0 else if up 2 4200 then 1 else if up 3 3900 then 2 else 3

/-- ISLAND_VB_MEASUREMENT: the band; below 3.60 V the island resets. -/
def islandVbMeasurement (n : Fin 24) (mV : Nat) (temp : BitVec 16) (s : State) : State :=
  let k := s.io.own[n]
  if s.io.isl[n].st == .off || s.io.isl[n].restartAt.isSome then s
  else
    let s1 := onOwn n (fun x => { x with vb := mV, temp := temp, inReset := x.inReset && decide (mV < 3650) }) s
    if mV < 3600 then onOwn n (fun x => { x with inReset := true }) (resetIsland n s1)
    else if k.inReset && mV < 3650 then s1
    else
      let b := bandAt k.band mV
      if b = k.band then s1
      else report n 0x4004 (decide (k.band < b)) [(1, n.val), (1, b.val), (2, mV)] (onOwn n (fun x => { x with band := b }) s1)

/-- ISLAND_VB_MEASUREMENT (R276, R277, R291, R320). -/
def execIslandVbMeasurement (n : Fin 24) (mV : Nat) (temp : BitVec 16) (s : State) : Host.Outcome State Fault Refusal :=
  .next (islandVbMeasurement n mV temp s)

/-! ### The hub's side: sending (R278, R282) -/

/-- CAL_ISLAND has ended in every island in service (R464). -/
def allCalibrated (s : State) : Bool := (List.finRange 24).all (fun n => s.io.isl[n].st != .in_ || s.io.isl[n].calDone)

/-- CALIBRATE ends (R464). -/
def endCalibrate (s : State) : State :=
  if s.mod.st == .calibrate && allCalibrated s then enterState .join 0 0xFF s else s

/-- Five consecutive periods without a valid return frame (R282). -/
def judgeMissing (n : Fin 24) (s : State) : State :=
  let i := s.io.isl[n]
  if i.answered then s
  else
    let s1 := onIslStats n (fun a => { a with miss := satSucc max32 a.miss })
      (onIsl n (fun x => { x with missed := x.missed + 1, valid := 0 }) s)
    if 5 ≤ i.missed + 1 ∧ (i.st == .in_ ∨ i.st == .returning) then islandOut n 1 s1 else s1

/-- A command of a channel of the island that no frame has carried. -/
def nextChanCmd (s : State) (n : Fin 24) : Option (Fin 192 × ChanCmd × Option Nat) :=
  (chansOf n).findSome? (fun c => match s.io.chan[c].cmd with
    | some (_, cmd, false, a) => some (c, cmd, a)
    | _ => none)

/-- An island command that no frame has carried. -/
def nextIslCmd (s : State) (n : Fin 24) : Option ChanCmd :=
  match s.io.isl[n].cmd with
  | some (_, cmd, false) => some cmd
  | _ => none

/-- The frame carries a value of an unchecked cycle (R197). -/
def uncheckedValues (s : State) (n : Fin 24) : Bool := (chansOf n).any (fun c => isOut (chanEntry s c) && s.io.chan[c].outUnc)

/-- The frame to an island. -/
def downFrame (s : State) (n : Fin 24) : DownFrame :=
  let i := s.io.isl[n]
  let safe := !inRun s || i.st == .oos || i.st == .returning
  { seq := i.seq + 1, beacon := s.tb.now, latency := i.lat, rate := s.tb.tempCor + discipline s.tb
    leaseEnd := if holds s && !(s.lease.swapPhase == some .successor && !s.lease.vConfirmed) then some s.lease.leaseEnd else none
    safe := safe, resume := i.resumeDue && i.st == .in_ && inRun s, unchecked := s.lsk.unchecked || uncheckedValues s n, paired := partnerPresent s
    values := ((chansOf n).filter (fun c => isOut (chanEntry s c))).map (fun c =>
      (placeOf c, s.io.chan[c].outVal, s.io.chan[c].outQual, s.io.chan[c].outNew))
    chanCmd := (nextChanCmd s n).map (fun x => x.2), islCmd := nextIslCmd s n, config := i.configDue
    sharesOff := s.lease.isolated || (s.lease.resync.isSome && !holds s) }

/-- A command has been placed in a frame. -/
def markPlaced (n : Fin 24) (s : State) : State :=
  let s1 := onIsl n (fun x => { x with cmd := x.cmd.map (fun y => (y.1, y.2.1, true)) }) s
  match nextChanCmd s n with
  | some (c, _, _) => onChan c (fun k => { k with cmd := k.cmd.map (fun y => (y.1, y.2.1, true, y.2.2.2)) }) s1
  | none => s1

/-- Judge the last period and send the frame of this one. -/
def sendFord (n : Fin 24) (s : State) : State :=
  if s.io.isl[n].st == .off || s.io.isl[n].restartAt.isSome then s
  else
    let s1 := judgeMissing n s
    let f := downFrame s1 n
    let s2 := onIsl n (fun x => { x with
      seq := f.seq, answered := false, sentAt := s.tb.now, resumeDue := x.resumeDue && !f.resume
      silent := x.silent && !f.resume }) (markPlaced n s1)
    let s3 := overAll (chansOf n) (fun c st => onChan c (fun k => { k with outNew := false }) st) s2
    emit (.fordDown n f) (countUnchecked f.unchecked 1 (onOwn n (fun k => { k with down := some f }) s3))

/-- FORD_PERIOD: every 10 µs each island gets its frame. A module in FAILED has sent its last frame (R186). -/
def fordPeriod (s : State) : State :=
  if s.tb.now < s.io.fordAt || s.mod.st == .off || s.mod.st == .stopped || s.mod.st == .failed then s
  else
    let s1 := overAll (List.finRange 24) sendFord s
    endCalibrate { s1 with io := { s1.io with fordAt := s.tb.now / (10 * us) * (10 * us) + 10 * us } }

/-- FORD_PERIOD (R140, R278, R280, R282, R283, R287, R291, R320). -/
def execFordPeriod (s : State) : Host.Outcome State Fault Refusal := .next (fordPeriod s)

/-! ### The hub's side: receiving (R280 to R283) -/

/-- The island is in service again: its time out is recorded, RESUME is due, and one that restarted is calibrated (R282). -/
def enterService (n : Fin 24) (s : State) : State :=
  let i := s.io.isl[n]
  let s1 := match i.cmd with
    | some (a, .islRestart _, _) => endCmd a 6 0 (onIsl n (fun x => { x with cmd := none }) s)
    | _ => s
  let s2 := onIsl n (fun x => { x with
    st := .in_, missed := 0, resumeDue := true, restartedOut := false
    cmd := if i.restartedOut then some (.own, .calIsland n, false) else x.cmd }) s1
  logEv 0x4002 false [(1, n.val), (1, bitNat i.restartedOut), (4, min max32 ((s.tb.now - i.outAt) / ms))] s2

/-- The island reports a restart: it is to be configured anew. -/
def noteRestart (n : Fin 24) (s : State) : State :=
  if s.io.isl[n].restartedOut && s.io.isl[n].configDue then s
  else onIsl n (fun x => { x with restarts := satSucc 255 x.restarts, restartedOut := true, configDue := true, calDone := false }) s

/-- What a valid return frame does to the state of its island. -/
def islandAfter (n : Fin 24) (u : UpFrame) (s : State) : State :=
  match s.io.isl[n].st with
  | .off => s
  | .boot =>
    if u.restarted || u.fault then s
    else
      let s1 := onIsl n (fun x => { x with configDue := false }) s
      if s.io.isl[n].restartedOut then onIsl n (fun x => { x with st := .returning, valid := 0 }) s1
      else onIsl n (fun x => { x with st := .in_, missed := 0, resumeDue := true }) s1
  | .in_ =>
    if u.fault then islandOut n 2 s
    else if u.restarted then noteRestart n (islandOut n 3 s)
    else s
  | .oos =>
    if u.restarted then noteRestart n s
    else if u.fault then s
    else onIsl n (fun x => { x with st := .returning, valid := 0, configDue := false }) s
  | .returning =>
    if u.fault then islandOut n 2 s
    else if u.restarted then noteRestart n (islandOut n 3 s)
    else if 10 ≤ s.io.isl[n].valid + 1 then enterService n s
    else onIsl n (fun x => { x with valid := x.valid + 1 }) s

/-- The session of whoever asked, for a record; 0xFF where no session of this module did. -/
def askerNo (a : CmdAsker) : Nat :=
  match a with
  | .session o => (askerSe o).val
  | _ => 0xFF

/-- A report of the island becomes a record; 0x4307 names the session of the island's command. -/
def logReport (n : Fin 24) (r : IslReport) (s : State) : State :=
  if r.code = 0x4307 then
    let se := match s.io.isl[n].cmd with | some (a, _, _) => askerNo a | none => 0xFF
    logEv r.code r.det [(1, n.val), (1, se), (2, (r.fields.getD 1 (0, 0)).2)] s
  else logEv r.code r.det r.fields s

/-- An event of the island is a trigger (R98): 1 an edge, 2 a limit. The mark of an uncertain stamp travels with the channel's status
(R143). -/
def hubEvent (e : IslEvent) (s : State) : State :=
  let info := e.value.toNat
  let s1 := if e.uncertain then onChan e.chan (fun x => { x with status := x.status ||| stTimeUnc, seen := x.seen ||| stTimeUnc }) s else s
  triggerMatch e.kind e.chan.val (if e.kind = 1 then info else info % 4) e.stamp (BitVec.ofNat 32 e.chan.val) e.value s1

/-- The result of a routine's urgent conversion (R317): the holder forwards it; a standby waits for the holder's. -/
def urgentDone (k : Fin 8) (c : Fin 192) (s : State) : State :=
  let a := s.io.ai[c]
  if holds s || !partnerPresent s then
    let s1 := serviceReturn k [a.urgVal.setWidth 128] s
    if holds s && partnerInRun s then saddle (.urgentResult c a.urgVal a.urgTs) s1 else s1
  else if a.urgCore.isSome then onAi c (fun x => { x with urgOwn := some s.tb.now }) s
  else s

/-- A channel's command has ended. -/
def chanResult (c : Fin 192) (res detail : Nat) (s : State) : State :=
  match s.io.chan[c].cmd with
  | none => s
  | some (a, cmd, _, _) =>
    let s1 := onChan c (fun k => { k with cmd := none }) s
    match cmd, a with
    | .urgent _, .routine k => if res = 6 then urgentDone k c s1 else endCmd a res detail (onAi c (fun x => { x with urgCore := none }) s1)
    | .calload _ o g, _ =>
      endCmd a res detail (if res = 6 then logEv 0x4106 false [(1, c.val), (1, askerNo a), (4, o.toNat), (4, g.toNat)] s1 else s1)
    | _, _ => endCmd a res detail s1

/-- An island's command has ended. -/
def islandResult (n : Fin 24) (res detail : Nat) (s : State) : State :=
  match s.io.isl[n].cmd with
  | none => s
  | some (a, cmd, _) =>
    let s1 := onIsl n (fun x => { x with cmd := none, calDone := x.calDone || (match cmd with | .calIsland _ => true | _ => false) }) s
    endCmd a res detail s1

/-- The readings of a valid return frame. -/
def takeReadings (n : Fin 24) (u : UpFrame) (s : State) : State :=
  overAll (List.finRange 8) (fun k st =>
    match u.chans[k.val]? with
    | some r => onChan (chanOf n k) (fun x => { x with
        value := r.value, status := r.status, stamp := r.stamp, arrived := s.tb.now, seen := x.seen ||| r.status }) st
    | none => st) s

/-- The ford latency of an island (R140). -/
def fordLatency (n : Fin 24) (turn : Nat) (s : State) : Nat :=
  (((s.tb.now - s.io.isl[n].sentAt - turn) / 2 : Nat) + Config.fordAsymmetry n : Int).toNat

/-- Every island in service with a voltage output has answered a frame that was sent after the YIELD (R233). -/
def voltageReleased (s : State) : Bool :=
  (List.finRange 24).all (fun n =>
    let i := s.io.isl[n]
    i.st != .in_ || !(chansOf n).any (fun c => (chanEntry s c).mode == 7)
      || (decide (s.lease.swapAt ≤ i.sentAt) && decide (i.sentAt ≤ i.lastReturn)))

/-- The old holder tells the successor, once, that its voltage outputs are released (R233). -/
def confirmReleased (s : State) : State :=
  if hasYielded s && !s.lease.relSent && voltageReleased s then saddle .released { s with lease := { s.lease with relSent := true } } else s

/-- A valid return frame: conditions, readings, records, events, results, then the state of the island. -/
def takeReturn (n : Fin 24) (u : UpFrame) (s : State) : State :=
  let s1 := onIsl n (fun i => { i with
    answered := true, missed := 0, lastReturn := s.tb.now, vb := u.vb, temp := u.temp, lplus := u.lplus, safeLatched := u.safe
    silent := i.silent || u.silent, uncertain := u.uncertain, supWarn := u.supWarn, supLost := u.supLost, calRun := u.calRun
    bandSeen := u.band, lat := fordLatency n u.turn s, latValid := true }) s
  let s2 := onIslStats n (fun a => { a with
    vbMin := min a.vbMin u.vb, seq := satAdd max32 a.seq u.seqGaps, evLost := satAdd max32 a.evLost u.evLost }) s1
  let s3 := takeReadings n u { s2 with tbAcc := { s2.tbAcc with beacon := satAdd max32 s2.tbAcc.beacon u.beaconsMissed } }
  let k := s.io.own[n]
  let s4 := onOwn n (fun x => { x with reports := [], results := [] }) s3
  let s5 := overAll k.reports (logReport n) s4
  let s6 := overAll u.events hubEvent s5
  let s7 := overAll k.results (fun r st =>
    match r with
    | (some c, res, det) => chanResult c res det st
    | (none, res, det) => islandResult n res det st) s6
  confirmReleased (endCalibrate (islandAfter n u s7))

/-- FORD_RETURN_FRAME: valid with a correct CRC and the sequence number sent in this period; otherwise counted. -/
def fordReturnFrame (n : Fin 24) (crcOk : Bool) (s : State) : State :=
  match s.io.own[n].up with
  | none => s
  | some u =>
    let s1 := onOwn n (fun k => { k with up := none }) s
    if s.io.isl[n].st == .off then s1
    else if !crcOk then onIslStats n (fun a => { a with crc := satSucc max32 a.crc }) s1
    else if u.seq != s.io.isl[n].seq then s1
    else takeReturn n u s1

/-- FORD_RETURN_FRAME (R17, R98, R140, R278, R280, R282, R288, R291, R309, R464). -/
def execFordReturnFrame (n : Fin 24) (crcOk : Bool) (s : State) : Host.Outcome State Fault Refusal := .next (fordReturnFrame n crcOk s)

/-! ### Commands of hosts (R289, R290) -/

/-- The island of a command. -/
def cmdIsland : ChanCmd → Fin 24
  | .calIsland n => n
  | .supplyRelease n => n
  | .islRestart n => n
  | .urgent c => islandOf c
  | .owtest c _ => islandOf c
  | .calload c _ _ => islandOf c
  | .cntpreset c _ => islandOf c
  | .cntreset c => islandOf c

/-- The channel of a channel command. -/
def cmdChan : ChanCmd → Option (Fin 192)
  | .urgent c => some c
  | .owtest c _ => some c
  | .calload c _ _ => some c
  | .cntpreset c _ => some c
  | .cntreset c => some c
  | .calIsland _ => none
  | .supplyRelease _ => none
  | .islRestart _ => none

/-- The code of a command (R289). -/
def cmdCode : ChanCmd → Nat
  | .calIsland _ => 1
  | .urgent _ => 2
  | .owtest _ _ => 3
  | .calload _ _ _ => 4
  | .cntpreset _ _ => 5
  | .cntreset _ => 6
  | .supplyRelease _ => 7
  | .islRestart _ => 8

/-- The channel's mode accepts a command (R289). Mode 2 has no open-wire test (R312). -/
def modeAccepts (e : ChanEntry) (cmd : ChanCmd) : Bool :=
  match cmd with
  | .urgent _ => isAi e
  | .owtest _ _ => (isAi e && e.mode != 2) || isDi e
  | .calload _ _ _ => isAi e
  | .cntpreset _ _ => e.mode == 9
  | .cntreset _ => e.mode == 9
  | _ => true

/-- The previous command of the same channel or island has not ended. ISL_RESTART is accepted whatever runs. -/
def cmdBusy (s : State) (cmd : ChanCmd) : Bool :=
  match cmdChan cmd with
  | some c => s.io.chan[c].cmd.isSome || s.io.waiting.any (fun w => cmdChan w.cmd == some c)
  | none =>
    if cmdCode cmd = 8 then false
    else s.io.isl[cmdIsland cmd].cmd.isSome || s.io.waiting.any (fun w => cmdChan w.cmd == none && cmdIsland w.cmd == cmdIsland cmd)

/-- A second URGENT is counted as dropped (R316). -/
def countDrop (cmd : ChanCmd) (s : State) : State :=
  match cmd with
  | .urgent c => onAi c (fun a => { a with drop := satSucc 0xFFFF a.drop }) s
  | _ => s

/-- Why a command is rejected: 2 busy, 4 mode, 5 island. -/
def cmdReject (s : State) (cmd : ChanCmd) : Option Nat :=
  let st := s.io.isl[cmdIsland cmd].st
  if cmdBusy s cmd then some 2
  else if (match cmdChan cmd with | some c => !modeAccepts (chanEntry s c) cmd | none => false) then some 4
  else if (if cmdCode cmd = 8 then st == .off else st != .in_) then some 5
  else none

/-- A command of a host at the module that decides it: A lies 100 µs ahead; result 1 is owed until the standby has confirmed it. -/
def hostCmd (cmd : ChanCmd) (q : Req) (s : State) : State :=
  match cmdReject s cmd with
  | some r => answer q.asker .ch (chRes r 0) (if r = 2 then countDrop cmd s else s)
  | none =>
    let a := s.tb.now + 100 * us
    let (id, s1) := freshId { s with io := { s.io with waiting := s.io.waiting ++ [⟨.session q.asker, cmd, a⟩] } }
    oweOn id none [.result q.asker .ch (chRes 1 0)] (if partnerInRun s then saddle (.chanCmd id cmd a) s1 else s1)

/-- The island and the channel that a request selects. -/
def reqIsl (q : Req) : Fin 24 := Fin.ofNat 24 q.sel.islSel.toNat
def reqChan (q : Req) : Fin 192 := Fin.ofNat 192 q.sel.chSel.toNat

/-- The session's CH_CMD command, here or relayed. -/
def chanCmd (code : Nat) (mk : Req → ChanCmd) (se : Fin 64) (s : State) : Host.Outcome State Fault Refusal :=
  .next (sessionCmd regCh (BitVec.ofNat 32 code) se (fun q => hostCmd (mk q) q) s)

/-- What each code of CH_CMD asks for. -/
def mkCal (q : Req) : ChanCmd := .calIsland (reqIsl q)
def mkUrgent (q : Req) : ChanCmd := .urgent (reqChan q)
def mkOwtest (q : Req) : ChanCmd := .owtest (reqChan q) (q.sel.chArg.getLsbD 0)
def mkCalload (q : Req) : ChanCmd := .calload (reqChan q) (q.sel.chArg.extractLsb' 0 32) (q.sel.chArg.extractLsb' 32 32)
def mkPreset (q : Req) : ChanCmd := .cntpreset (reqChan q) (q.sel.chArg.extractLsb' 0 32)
def mkReset (q : Req) : ChanCmd := .cntreset (reqChan q)
def mkRelease (q : Req) : ChanCmd := .supplyRelease (reqIsl q)
def mkRestart (q : Req) : ChanCmd := .islRestart (reqIsl q)

/-- CAL_ISLAND (R287, R289, R290, R307, R320, R339, R340). -/
def execCalIsland (se : Fin 64) (s : State) : Host.Outcome State Fault Refusal := chanCmd 1 mkCal se s
/-- URGENT (R289, R290, R315, R316, R320). -/
def execUrgent (se : Fin 64) (s : State) : Host.Outcome State Fault Refusal := chanCmd 2 mkUrgent se s
/-- OWTEST (R289, R290, R314, R320, R351, R361). -/
def execOwtest (se : Fin 64) (s : State) : Host.Outcome State Fault Refusal := chanCmd 3 mkOwtest se s
/-- CALLOAD (R289, R290, R309, R310, R320, R321). -/
def execCalload (se : Fin 64) (s : State) : Host.Outcome State Fault Refusal := chanCmd 4 mkCalload se s
/-- CNTPRESET (R289, R290, R349, R361). -/
def execCntpreset (se : Fin 64) (s : State) : Host.Outcome State Fault Refusal := chanCmd 5 mkPreset se s
/-- CNTRESET (R289, R290, R349). -/
def execCntreset (se : Fin 64) (s : State) : Host.Outcome State Fault Refusal := chanCmd 6 mkReset se s
/-- SUPPLY_RELEASE (R289, R290, R336, R360, R362). -/
def execSupplyRelease (se : Fin 64) (s : State) : Host.Outcome State Fault Refusal := chanCmd 7 mkRelease se s
/-- ISL_RESTART (R282, R287, R289, R290). -/
def execIslRestart (se : Fin 64) (s : State) : Host.Outcome State Fault Refusal := chanCmd 8 mkRestart se s

/-- ISL_RESTART acts: the ford converter is off for 20 ms and the island OUT_OF_SERVICE. Its asker waits for the island's return. -/
def converterOff (n : Fin 24) (a : CmdAsker) (s : State) : State :=
  let s1 := match s.io.isl[n].cmd with
    | some (b, _, _) => endCmd b 7 0 (onIsl n (fun x => { x with cmd := none }) s)
    | none => s
  let s2 := resetIsland n (if s1.io.isl[n].st == .oos then onIsl n (fun x => { x with cause := 4 }) s1 else islandOut n 4 s1)
  onIsl n (fun x => { x with restartedOut := false, restartAt := some (s.tb.now + 20 * ms), cmd := some (a, .islRestart n, true), calDone := false }) s2

/-- Place a command in the next frame to its island; ISL_RESTART acts at once. -/
def placeCmd (w : WaitCmd) (s : State) : State :=
  let n := cmdIsland w.cmd
  if cmdCode w.cmd = 8 then (if s.io.isl[n].st == .off then endCmd w.asker 5 0 s else converterOff n w.asker s)
  else if s.io.isl[n].st != .in_ then endCmd w.asker 7 0 s
  else
    match cmdChan w.cmd with
    | some c =>
      if s.io.chan[c].cmd.isSome then endCmd w.asker 2 0 s
      else onChan c (fun k => { k with cmd := some (w.asker, w.cmd, false, some w.at_) }) s
    | none =>
      if s.io.isl[n].cmd.isSome then endCmd w.asker 2 0 s
      else onIsl n (fun x => { x with cmd := some (w.asker, w.cmd, false) }) s

/-- CHANNEL_COMMAND_ACTIVATION: every command whose instant A has come. -/
def channelCommandActivation (s : State) : State :=
  let due := s.io.waiting.filter (fun w => w.at_ ≤ s.tb.now)
  overAll due placeCmd { s with io := { s.io with waiting := s.io.waiting.filter (fun w => !(decide (w.at_ ≤ s.tb.now))) } }

/-- CHANNEL_COMMAND_ACTIVATION (R289, R290, R310, R349). -/
def execChannelCommandActivation (s : State) : Host.Outcome State Fault Refusal := .next (channelCommandActivation s)

/-- CHANNEL_COMMAND_FORWARD_RECEIVE: the standby confirms it; before A it waits, after A it is carried out on arrival, counted and
recorded. -/
def channelCommandForwardReceive (id : Nat) (cmd : ChanCmd) (at_ : Nat) (s : State) : State :=
  if holds s then s
  else
    let s1 := saddle (.confirm id) s
    let w : WaitCmd := ⟨.own, cmd, at_⟩
    if s.tb.now ≤ at_ then { s1 with io := { s1.io with waiting := s1.io.waiting ++ [w] } }
    else
      let n := cmdIsland cmd
      placeCmd w (logEv 0x4005 true [(1, n.val), (1, cmdCode cmd), (4, min max32 ((s.tb.now - at_) / us))]
        (onIslStats n (fun a => { a with lateCmd := satSucc max32 a.lateCmd }) s1))

/-- The converter starts an island: it boots and is to be configured. -/
def startIsland (n : Fin 24) (s : State) : State :=
  onIsl n (fun x => { x with st := .boot, restartAt := none, configDue := true, answered := true, missed := 0, valid := 0 }) (resetIsland n s)

/-- ISLAND_RESTART_POWER_ON: 20 ms after ISL_RESTART the converter starts again. -/
def islandRestartPowerOn (n : Fin 24) (s : State) : State :=
  match s.io.isl[n].restartAt with
  | some t => if s.tb.now < t then s else noteRestart n (startIsland n s)
  | none => s

/-- ISLAND_RESTART_POWER_ON (R282, R289). -/
def execIslandRestartPowerOn (n : Fin 24) (s : State) : Host.Outcome State Fault Refusal := .next (islandRestartPowerOn n s)

/-! ### Routines (R289, R316, R317) -/

/-- A channel command of a routine: each module carries it out on its own islands, at once. -/
def serviceCmd (k : Fin 8) (svc : Nat) (cmd : ChanCmd) (s : State) : State :=
  match caller s k svc, cmdChan cmd with
  | some _, some c =>
    (match cmdReject s cmd with
     | some r => endCmd (.routine k) r 0 (if r = 2 then countDrop cmd s else s)
     | none =>
       let s1 := onChan c (fun x => { x with cmd := some (.routine k, cmd, false, none) }) s
       if cmdCode cmd = 2 then onAi c (fun a => { a with urgCore := if holds s || !partnerPresent s then none else some k, urgOwn := none }) s1
       else s1)
  | _, _ => s

/-- SVC_URGENT (R86, R289, R315 to R317). -/
def execSvcUrgent (core : Fin 8) (c : Fin 192) (s : State) : Host.Outcome State Fault Refusal := .next (serviceCmd core 4 (.urgent c) s)
/-- SVC_OWTEST (R86, R289, R314, R351). -/
def execSvcOwtest (core : Fin 8) (c : Fin 192) (testVoltage : Bool) (s : State) : Host.Outcome State Fault Refusal :=
  .next (serviceCmd core 5 (.owtest c testVoltage) s)
/-- SVC_CNTPRESET (R86, R289, R349). -/
def execSvcCntpreset (core : Fin 8) (c : Fin 192) (value : W32) (s : State) : Host.Outcome State Fault Refusal :=
  .next (serviceCmd core 6 (.cntpreset c value) s)
/-- SVC_CNTRESET (R86, R289, R349). -/
def execSvcCntreset (core : Fin 8) (c : Fin 192) (s : State) : Host.Outcome State Fault Refusal := .next (serviceCmd core 7 (.cntreset c) s)

/-- URGENT_RESULT_RECEIVE: the routine of a standby receives the holder's result. -/
def urgentResultReceive (c : Fin 192) (value : W64) (s : State) : State :=
  match s.io.ai[c].urgCore with
  | some k => serviceReturn k [value.setWidth 128] (onAi c (fun a => { a with urgCore := none, urgOwn := none }) s)
  | none => s

/-- URGENT_RESULT_TIMEOUT: 50 µs after its own result the standby gives the routine that one and counts it. -/
def urgentResultTimeout (c : Fin 192) (s : State) : State :=
  let a := s.io.ai[c]
  match a.urgCore, a.urgOwn with
  | some k, some t =>
    if t + 50 * us ≤ s.tb.now then
      serviceReturn k [a.urgVal.setWidth 128]
        (onAi c (fun x => { x with urgCore := none, urgOwn := none, drop := satSucc 0xFFFF x.drop }) s)
    else s
  | _, _ => s

/-- URGENT_RESULT_TIMEOUT (R317). -/
def execUrgentResultTimeout (c : Fin 192) (s : State) : Host.Outcome State Fault Refusal := .next (urgentResultTimeout c s)

end Sys2Proof.Machine
end

