-- ==== Sys2Proof/Machine/Panel.lean ====
section
/-!
DEFINITION. The front panel (18): frame starts, updates by hosts and routines, low-power mode.
-/

namespace Sys2Proof.Machine

/-! ### Layout (R452, R460) -/

/-- A region in force, as an image's entry defines it: it shows its default text. Regions whose entries stay keep what they show. -/
def placeRegion (i : Image) (n : Fin 16) (old : Region) : Region :=
  match i.regions.find? (fun e => e.num == n.val) with
  | some e => { entry := some e, text := shownText e.count e.text, icons := 0, running := old.running, queued := none }
  | none => { running := old.running }

/-- The regions, frame rate and default texts of the running image take effect. -/
def takeLayout (s : State) : State :=
  match s.img.run with
  | some i => showModule { s with lcd := { s.lcd with
      regions := updAll s.lcd.regions (placeRegion i), rate := Fin.ofNat 4 i.settings.frameRate, pendRate := Fin.ofNat 4 i.settings.frameRate
      pendLayout := false, lastActivity := s.tb.now } }
  | none => { s with lcd := { s.lcd with pendLayout := false } }

/-- A switch window has changed the PANEL section (R460): queued updates are discarded and counted, and the new layout comes at the next
frame start. -/
def changeLayout (s : State) : State :=
  overAll (List.finRange 16) (fun n st =>
    match st.lcd.regions[n].queued with
    | some u => updResult u 7 (countRepl (onRegion n (fun r => { r with queued := none }) st))
    | none => st) { s with lcd := { s.lcd with pendLayout := true } }

/-! ### Frames (R450, R451, R454) -/

/-- The duration of a frame in ns by the rate code. -/
def frameNs (rate : Fin 4) : Nat := if rate = 0 then 31250000 else if rate = 1 then 15625000 else 7812500

/-- An update is written into the frame memory. -/
def writeUpdate (n : Fin 16) (u : PanelUpd) (s : State) : State :=
  onRegion n (fun r => { r with text := u.text, icons := u.icons, running := some { u with written := true } }) s

/-- The running update of a region at a frame start: it is written, or it has been driven for a full frame and ends; the queued one
starts and is written at the same frame start. -/
def frameRegion (n : Fin 16) (s : State) : State :=
  match s.lcd.regions[n].running with
  | none => s
  | some u =>
    if !u.written then writeUpdate n u s
    else
      let s1 := updResult u 6 (onRegion n (fun r => { r with running := none, queued := none }) s)
      let s2 := { s1 with lcd := { s1.lcd with acc := { s1.lcd.acc with upd := satSucc max32 s1.lcd.acc.upd } } }
      match s.lcd.regions[n].queued with
      | some q => writeUpdate n q s2
      | none => s2

/-- The panel is driven from the hold-up bus, or not at all (R459). -/
def panelOff (s : State) : Bool := s.lcd.frozen.isSome || s.mod.st == .off

/-- PANEL_FRAME_START. -/
def panelFrameStart (s : State) : State :=
  if panelOff s || s.tb.now < s.lcd.frameAt then s
  else
    let s1 := overAll (List.finRange 16) frameRegion s
    let s2 := if s1.lcd.pendLayout then takeLayout s1 else s1
    let idle := (List.finRange 16).all (fun n => s2.lcd.regions[n].running.isNone)
    let low := s2.lcd.pendLow && (idle || s2.lcd.lowPower)
    { s2 with lcd := { s2.lcd with
      band := s2.lcd.pendBand, rate := s2.lcd.pendRate, lowPower := low, frameAt := s2.tb.now + frameNs s2.lcd.pendRate } }

/-- PANEL_FRAME_START (R450 to R452, R454, R460). -/
def execPanelFrameStart (s : State) : Host.Outcome State Fault Refusal := .next (panelFrameStart s)

/-! ### Updates (R453, R454, R460) -/

/-- An update as a region takes it: its characters cut, icons outside its mask left out. -/
def updateOf (e : RegionEntry) (text : List Byte) (icons : W32) (asker : Option (Fin 64)) : PanelUpd :=
  ⟨shownText e.count text, icons &&& e.iconMask, asker, false⟩

/-- LCD_CMDRES is the result of a session's last command (R461): what its earlier updates come to no longer reaches it (DEDUCED, log 57). -/
def supersede (se : Fin 64) (s : State) : State :=
  let drop := fun (u : PanelUpd) => if u.asker == some se then { u with asker := none } else u
  { s with lcd := { s.lcd with regions := updAll s.lcd.regions (fun _ r => { r with running := r.running.map drop, queued := r.queued.map drop }) } }

/-- UPDATE of a host: of a region of the program; otherwise result 4. -/
def hostUpdate (q : Req) (s : State) : State :=
  match s.lcd.regions[q.sel.lcdSel].entry with
  | some e =>
    if !e.program then answer q.asker .lcd 4 (supersede q.se s)
    else
      let text := leBytes 4 q.sel.textLo.toNat ++ leBytes 2 q.sel.textHi.toNat
      startUpdate q.sel.lcdSel (updateOf e text q.sel.icons (some q.se)) (answer q.asker .lcd 1 (supersede q.se s))
  | none => answer q.asker .lcd 4 (supersede q.se s)

/-- UPDATE (R397, R453, R454, R458, R460 to R462). -/
def execUpdate (se : Fin 64) (s : State) : Host.Outcome State Fault Refusal := .next (sessionCmd regLcd 0x01 se hostUpdate s)

/-- A routine's update of a region that is none of the program's is discarded and counted. -/
def svcPanelUpdate (k : Fin 8) (region : Nat) (text : BitVec 48) (icons : W32) (s : State) : State :=
  match caller s k 8 with
  | none => s
  | some _ =>
    serviceReturn k [0] <|
    let reject := { s with lcd := { s.lcd with acc := { s.lcd.acc with rej := satSucc max32 s.lcd.acc.rej } } }
    if h : region < 16 then
      (match s.lcd.regions[region].entry with
       | some e => if e.program then startUpdate ⟨region, h⟩ (updateOf e (leBytes 6 text.toNat) icons none) s else reject
       | none => reject)
    else reject

/-- SVC_PANEL_UPDATE (R86, R453, R454, R458). -/
def execSvcPanelUpdate (core : Fin 8) (region : Nat) (text : BitVec 48) (icons : W32) (s : State) : Host.Outcome State Fault Refusal :=
  .next (svcPanelUpdate core region text icons s)

/-! ### Low-power mode (R458) -/

/-- WAKE of a host. -/
def hostWake (q : Req) (s : State) : State := answer q.asker .lcd 6 (panelActive (supersede q.se s))

/-- WAKE (R458, R462). -/
def execWake (se : Fin 64) (s : State) : Host.Outcome State Fault Refusal := .next (sessionCmd regLcd 0x02 se hostWake s)

/-- WAKE_KEY: the panel's one key. -/
def execWakeKey (s : State) : Host.Outcome State Fault Refusal := .next (panelActive s)

/-- PANEL_LOWPOWER_TIMEOUT: the timeout has passed without a key press or an update; the mode is entered at a frame start, after a
running update. -/
def panelLowpowerTimeout (s : State) : State :=
  if (settings s).panelLow && decide (s.lcd.lastActivity + (settings s).panelTimeout * sec ≤ s.tb.now)
  then { s with lcd := { s.lcd with pendLow := true } } else s

/-- PANEL_LOWPOWER_TIMEOUT (R458, R460). -/
def execPanelLowpowerTimeout (s : State) : Host.Outcome State Fault Refusal := .next (panelLowpowerTimeout s)

end Sys2Proof.Machine
end

