-- ==== Sys2Proof/Machine/Recorder.lean ====
section
/-!
DEFINITION. The event recorder (17): writing, rate limiting, clearing, reading, and its commands.
-/

namespace Sys2Proof.Machine

/-! ### Record words -/

/-- Byte 2 of a record (R434): severity, UNCHECKED, HOLDER, OPEN_N. -/
def evByte2 (e : Ev) (openN : Bool) : Nat :=
  e.sev.toNat + 16 * bitNat e.unchecked + 32 * bitNat e.holder + 128 * bitNat openN

/-- Bytes 0 to 27 of a record, with OPEN_N as given. -/
def evBytes (e : Ev) (openN : Bool) : List Byte :=
  leBytes 2 e.code.toNat ++ [BitVec.ofNat 8 (evByte2 e openN), e.src] ++ leBytes 6 e.opTime.toNat ++
    leBytes 4 e.cycles.toNat ++ leBytes 14 e.data.toNat

/-- The 32 bytes of a record: the CRC-32 covers bytes 0 to 27 with OPEN_N taken as 0 (R434). -/
def evWord (e : Ev) (openN : Bool) : W256 :=
  BitVec.ofNat 256 (leNat (evBytes e openN ++ leBytes 4 (crc32 (evBytes e false)).toNat))

/-- OPEN_N of a stored record. -/
def recOpen (w : W256) : Bool := w.getLsbD 23

/-- The CRC-32 of a stored record holds. -/
def recCrcOk (w : W256) : Bool :=
  let bs := leBytes 32 w.toNat
  let b2 := BitVec.ofNat 8 ((bs.getD 2 0).toNat % 128)
  (crc32 (bs.take 2 ++ [b2] ++ (bs.drop 3).take 25)).toNat == leNat (bs.drop 28)

/-! ### Rate limiting (R441) -/

/-- Codes that are never limited (R441). -/
def neverLimited (code : BitVec 16) : Bool :=
  code == 0x0001 || code == 0x0002 || code == 0x7004 || (0xF001 ≤ code.toNat && code.toNat ≤ 0xF004)

/-- The class of a code: its top four bits (R438). -/
def codeClass (code : BitVec 16) : Fin 16 := Fin.ofNat 16 (code.toNat / 4096)

/-- One token, in ns of the refill period. -/
def tokenNs (r : Rate) : Nat := r.refill * sec

/-- A full bucket. -/
def fullBucket (r : Rate) : Nat := r.burst * tokenNs r

/-- The bucket of a code as it stands now: full when nothing has been taken since power-up or a clear. -/
def bucketNow (code : BitVec 16) (s : State) : Bucket :=
  let r := s.evr.rates[codeClass code]
  match s.evr.buckets.find? (fun b => b.code == code) with
  | some b => { b with level := min (fullBucket r) (b.level + (s.tb.now - b.at_)), at_ := s.tb.now }
  | none => ⟨code, fullBucket r, s.tb.now, 0, 0⟩

/-- Keep a bucket. -/
def putBucket (b : Bucket) (s : State) : State :=
  { s with evr := { s.evr with buckets := s.evr.buckets.filter (fun c => c.code != b.code) ++ [b] } }

/-- The summary of a code's suppressed records (R439, R441). -/
def summaryEv (b : Bucket) (s : State) : Ev :=
  eventOf 0xF001 0 0 (recData [(2, b.code.toNat), (4, b.suppressed), (6, b.first.toNat)]) s

/-! ### Writing (R435, R443) -/

/-- Start the first phase of a record in the next erased slot; when one slot is left the event becomes 0xF003, and when none is
left it is counted as lost (R443). -/
def beginRecord (e : Ev) (s : State) : State :=
  let n := s.evr.slots.length
  if 65536 ≤ n then { s with evr := { s.evr with lost := satSucc max32 s.evr.lost } }
  else
    let w := if n = 65535 then eventOf 0xF003 1 0 (recData [(2, e.code.toNat)]) s else e
    { s with evr := { s.evr with slots := s.evr.slots ++ [evWord w true], writing := some { w with at_ := e.at_ } } }

/-- The queue with its first event taken. -/
def popEv (s : State) : State := { s with evr := { s.evr with queue := s.evr.queue.drop 1 } }

/-- No new record begins once the recorder is closed; a 0x7004 that is still queued is written all the same (R446). -/
def recorderShut (s : State) : Bool := s.evr.closed && ((s.evr.queue.head?).map (fun e => e.code)) != some 0x7004

/-- RECORD_WRITE: the controller is idle, ready and not closed, and takes the next event. With no token the event is suppressed and
counted; with suppressed records counted the summary goes first; otherwise the event takes a token. -/
def recordWrite (s : State) : State :=
  if !s.evr.ready || recorderShut s || s.evr.clearing.isSome || s.evr.writing.isSome then s
  else
    match s.evr.afterClear with
    | some e => beginRecord e { s with evr := { s.evr with afterClear := none } }
    | none =>
      match s.evr.queue with
      | [] => s
      | e :: _ =>
        if neverLimited e.code then beginRecord e (popEv s)
        else
          let b := bucketNow e.code s
          let r := s.evr.rates[codeClass e.code]
          if b.level < tokenNs r then
            let b2 := { b with suppressed := b.suppressed + 1, first := if b.suppressed = 0 then e.opTime else b.first }
            let s1 := putBucket b2 (popEv s)
            { s1 with evr := { s1.evr with acc := { s1.evr.acc with suppr := satSucc max32 s1.evr.acc.suppr } } }
          else if 0 < b.suppressed then
            beginRecord (summaryEv b s) (putBucket { b with suppressed := 0 } s)
          else beginRecord e (putBucket { b with level := b.level - tokenNs r } (popEv s))

/-- RECORD_WRITE (R435, R436, R441, R443). -/
def execRecordWrite (chk : MemCheck) (s : State) : Host.Outcome State Fault Refusal := .next (afterCheck chk recordWrite s)

/-- The last element of a list replaced. -/
def replaceLast {α : Type} (xs : List α) (x : α) : List α := xs.take (xs.length - 1) ++ [x]

/-- RECORD_COMPLETE (R435): the second phase programs OPEN_N to 0; the record counts, and the longest wait in µs. A 0x0001 moves
EVR_LASTMAP; a 0x7004 closes the recorder (16 R421). -/
def recordComplete (s : State) : State :=
  match s.evr.writing with
  | none => s
  | some e =>
    let slots := replaceLast s.evr.slots (evWord e false)
    { s with evr := { s.evr with
        slots := slots
        writing := none
        closed := s.evr.closed || e.code == 0x7004
        lastMap := if e.code = 0x0001 then some (slots.length - 1) else s.evr.lastMap
        acc := { s.evr.acc with
          write := satSucc max32 s.evr.acc.write
          waitMax := max s.evr.acc.waitMax (min max32 ((s.tb.now - e.at_) / us)) } } }

/-- RECORD_COMPLETE (R435). -/
def execRecordComplete (s : State) : Host.Outcome State Fault Refusal := .next (recordComplete s)

/-- RATE_BUCKET_FULL (R441): the bucket is full again with suppressed records counted; a summary is registered and the count
cleared. -/
def execRateBucketFull (code : BitVec 16) (s : State) : Host.Outcome State Fault Refusal :=
  let b := bucketNow code s
  .next (if b.suppressed = 0 ∨ b.level < fullBucket s.evr.rates[codeClass code] then s
    else enqueueEv (summaryEv b s) (putBucket { b with suppressed := 0 } s))

/-! ### Clearing (R444) -/

/-- CLEAR: needs the maintenance colour (result 5); while another runs, busy (R446). -/
def evrClear (q : Req) (s : State) : State :=
  if !q.maint then answer q.asker .evr 5 s
  else if s.evr.clearing.isSome then answer q.asker .evr 2 s
  else answer q.asker .evr 1 { s with evr := { s.evr with clearing := some q.se, clearAsk := some q.se } }

/-- EVR_CLEAR (R444). -/
def execEvrClear (se : Fin 64) (s : State) : Host.Outcome State Fault Refusal :=
  .next (sessionCmd regEvr 0x01 se evrClear s)

/-- RECORDER_CLEAR_COMPLETE (R444): the slots are erased, EVR_GEN rises, counts and cursors are 0, the buckets are full, and
0xF002 is the first record to be written. -/
def recorderClearComplete (s : State) : State :=
  match s.evr.clearing with
  | none => s
  | some se =>
    let n := s.evr.slots.length
    let e := eventOf 0xF002 0 (BitVec.ofNat 8 (1 + se.val)) (recData [(1, se.val), (1, 0), (4, n), (4, s.evr.lost)]) s
    let s1 := { s with
      evr := { s.evr with
        slots := [], lost := 0, gen := satSucc max32 s.evr.gen, clearing := none, clearAsk := none, openRec := false, writing := none
        afterClear := some e, lastMap := none, buckets := [] }
      ses := { s.ses with tab := updAll s.ses.tab (fun _ x => { x with sel := { x.sel with evrCursor := 0 } }) } }
    match s.evr.clearAsk with
    | some x => setRes x .evr 6 s1
    | none => s1

/-- RECORDER_CLEAR_COMPLETE (R444). -/
def execRecorderClearComplete (s : State) : Host.Outcome State Fault Refusal := .next (recorderClearComplete s)

/-! ### Limits (R442) -/

/-- The level of a bucket under a new limit: the same tokens, at most the new burst. -/
def rescale (old new : Rate) (b : Bucket) : Bucket :=
  { b with level := min (fullBucket new) (b.level * new.refill / (if old.refill = 0 then 1 else old.refill)) }

/-- Set the limits of a class: the buckets keep their tokens, the settings are kept in the storage die, 0xF004 is recorded. -/
def setRate (c : Fin 16) (r : Rate) (se : Fin 64) (s : State) : State :=
  let old := s.evr.rates[c]
  let s0 := overAll (s.evr.buckets.filter (fun b => codeClass b.code == c)) (fun b t => putBucket (rescale old r (bucketNow b.code s)) t) s
  let s1 := { s0 with evr := { s0.evr with rates := upd s0.evr.rates c (fun _ => r) } }
  logSes 0xF004 false se [(1, c.val), (1, r.burst), (2, r.refill), (1, se.val)] (persist (.rates s1.evr.rates.toList) .none s1)

/-- SETRATE: class 0 to 14, burst 1 to 255, refill 1 s to 3 600 s; otherwise result 4. -/
def setrateCmd (q : Req) (s : State) : State :=
  let a := q.sel.evrArg.toNat
  let c := a % 16
  let burst := a / 256 % 256
  let refill := a / 65536
  if c = 15 ∨ burst = 0 ∨ refill = 0 ∨ 3600 < refill then answer q.asker .evr 4 s
  else answer q.asker .evr 6 (setRate (Fin.ofNat 16 c) ⟨burst, refill⟩ q.se s)

/-- SETRATE (R442). -/
def execSetrate (se : Fin 64) (s : State) : Host.Outcome State Fault Refusal :=
  .next (sessionCmd regEvr 0x02 se setrateCmd s)

/-- RATEDEFAULT: 8 and 10 s for one class, or for every class with class 15. -/
def ratedefaultCmd (q : Req) (s : State) : State :=
  let c := q.sel.evrArg.toNat % 16
  let classes : List (Fin 16) := if c = 15 then List.finRange 16 else [Fin.ofNat 16 c]
  answer q.asker .evr 6 (overAll classes (fun k t => setRate k ⟨8, 10⟩ q.se t) s)

/-- RATEDEFAULT (R442). -/
def execRatedefault (se : Fin 64) (s : State) : Host.Outcome State Fault Refusal :=
  .next (sessionCmd regEvr 0x03 se ratedefaultCmd s)

/-! ### Reading (R445, R446) -/

/-- The slot at a session's cursor, the record and its WINSTAT; empty at the end and while a clear runs. -/
def windowAt (cursor : Nat) (s : State) : W256 × W32 :=
  let cur := min cursor s.evr.slots.length
  match (if s.evr.clearing.isSome then none else s.evr.slots[cur]?) with
  | some w => (w, BitVec.ofNat 32 (8 * cur + 4 * bitNat (recOpen w) + 2 * bitNat (!recCrcOk w)))
  | none => (0, BitVec.ofNat 32 (8 * cur + 1))

/-- Word `k` of a record. -/
def windowWord (w : W256) (k : Nat) : W32 := w.extractLsb' (32 * k) 32

/-- Put captured registers of a session (R484). -/
def putCaps (se : Fin 64) (cs : List (Nat × W32)) (s : State) : State :=
  onSess se (fun x => { x with caps := cs ++ x.caps.filter (fun c => !(cs.any (fun d => d.1 == c.1))) }) s

/-- A read of EVR_WIN0 captures the whole record and its WINSTAT. -/
def captureWindow (se : Fin 64) (s : State) : State :=
  let (w, st) := windowAt s.ses.tab[se].sel.evrCursor s
  putCaps se ((List.range 8).map (fun k => (0x2C20 + 4 * k, windowWord w k)) ++ [(0x2C40, st)]) s

/-- A read of EVR_WIN7 advances the cursor, unless it is at EVR_COUNT or a clear runs. -/
def advanceCursor (se : Fin 64) (s : State) : State :=
  onSess se (fun x =>
    if s.evr.clearing.isSome || s.evr.slots.length ≤ x.sel.evrCursor then x
    else { x with sel := { x.sel with evrCursor := x.sel.evrCursor + 1 } }) s

/-- A message of the session has arrived (R393). -/
def heard (se : Fin 64) (s : State) : State := onSess se (fun x => { x with lastMsg := s.tb.now }) s

/-- EVR_WIN0_READ (R445). -/
def execEvrWin0Read (se : Fin 64) (s : State) : Host.Outcome State Fault Refusal :=
  .next (if sesOpen s se then captureWindow se (heard se s) else s)

/-- EVR_WIN7_READ (R445). -/
def execEvrWin7Read (se : Fin 64) (s : State) : Host.Outcome State Fault Refusal :=
  .next (if sesOpen s se then advanceCursor se (heard se s) else s)

end Sys2Proof.Machine
end

