-- ==== Sys2Proof/Machine/RegsCore.lean ====
section
/-!
DEFINITION. What the registers of the blocks IMG, TSK, STAT, TB, FRC, LSK, PAIR and SES read (20 R482 and the register tables of the
chapters). A block is a list of offsets with their values; an offset that no block lists holds no register, or one that is write-only,
and reads 0.
-/

namespace Sys2Proof.Machine

/-- The registers of a block: offsets and what they read. -/
abbrev RegBlock := List (Nat × W32)

/-- A register made of fields: for each field its lowest bit and its value. -/
def regFields (fs : List (Nat × Nat)) : W32 := BitVec.ofNat 32 (fs.foldl (fun a f => a + f.2 * 2 ^ f.1) 0)

/-- A 64-bit register pair. -/
def pair64 (off : Nat) (v : W64) : RegBlock := [(off, v.extractLsb' 0 32), (off + 4, v.extractLsb' 32 32)]

/-- A 64-bit register pair of a count or an instant. -/
def pairNat (off n : Nat) : RegBlock := pair64 off (BitVec.ofNat 64 n)

/-- Eight registers of a digest, byte 4k in bits [7:0] of register k. -/
def digestRegs (off : Nat) (d : W256) : RegBlock := (List.range 8).map (fun k => (off + 4 * k, d.extractLsb' (32 * k) 32))

/-- Four registers of a 128-bit word. -/
def wordRegs (off : Nat) (w : W128) : RegBlock := (List.range 4).map (fun k => (off + 4 * k, w.extractLsb' (32 * k) 32))

/-- Registers of consecutive offsets. -/
def runRegs (off : Nat) (vs : List W32) : RegBlock := ((List.range vs.length).zip vs).map (fun x => (off + 4 * x.1, x.2))

/-- A map register: bit b of register k stands for entry 32k + b. -/
def mapRegs (off n : Nat) (p : Nat → Bool) : RegBlock :=
  (List.range n).map (fun k => (off + 4 * k, BitVec.ofNat 32 (bitsOf 32 (fun b => p (32 * k + b)))))

/-- An event task number, or 0xFF. -/
def refCode (t : Option (Fin 128)) : Nat := match t with | some n => n.val | none => 0xFF

/-! ### IMG (R54, R55) -/

/-- The codes of the idle terrace and of a slot. -/
def IdleState.code : IdleState → Nat
  | .empty => 0 | .loading => 1 | .verifying => 2 | .storing => 3 | .verified => 4 | .arming => 5 | .armed => 6 | .failed => 7
  | .switching => 8
def SlotState.code : SlotState → Nat
  | .empty => 0 | .valid => 1 | .invalid => 2

/-- The identity of the running image, and of the idle image from VERIFIED on; a FAILED terrace shows none, whatever it held before
(DESIGN CHOICE, log 74). -/
def runIdent (s : State) : W256 := match s.img.run with | some i => i.ident | none => 0
def idleIdent (s : State) : W256 :=
  match s.img.idleImg with
  | some i => if s.img.idle == .verified || s.img.idle == .arming || s.img.idle == .armed || s.img.idle == .switching then i.ident else 0
  | none => 0

def keyStateCode : KeySlot → Nat
  | .empty => 0 | .active _ => 1 | .revoked _ => 2
def keyPrint : KeySlot → W256
  | .empty => 0
  | .active k => fingerprint k
  | .revoked k => fingerprint k

/-- The registers of the image controller. In BOOT the key table has not been read: UNKEYED shows its reset value (DEDUCED, log 13). -/
def imgRegs (s : State) (x : Sess) : RegBlock :=
  let m := s.img
  let slot := m.slots[x.sel.slotSel]
  let held := slot.st != .empty
  let key := m.keys[x.sel.keySel]
  let here := partnerPresent s
  [ (0x0400, 0x02000001)
  , (0x0404, regFields [(18, bitNat (s.mod.st != .boot && (activeKeys m.keys.toList).isEmpty)), (17, bitNat (here && m.run.isSome && m.partnerRunId == some (runIdent s)))
    , (16, bitNat (here && idleIdent s != 0 && m.partnerIdleId == idleIdent s)), (12, if here then m.partnerIdle.toNat else 0xF)
    , (4, m.idle.code), (1, bitNat m.run.isSome), (0, bitNat m.runTerr)])
  , (0x040C, x.res.img), (0x0410, regFields [(16, m.errSource.val), (8, m.errSect.toNat), (0, m.errCode.toNat)])
  , (0x0414, sat32 m.errLoc), (0x0418, sat32 (if m.idle == .loading then m.load.length else 0)), (0x041C, sat32 m.total)
  , (0x0460, BitVec.ofNat 32 x.sel.slotSel.val)
  , (0x0464, regFields [(21, if held then imageKeySlot slot.bytes % 8 else 0), (20, bitNat (held && x.sel.slotSel.val == bitNat m.runTerr))
    , (2, (slot.bytes.length + 65535) / 65536), (0, slot.st.code)])
  , (0x0488, BitVec.ofNat 32 x.sel.keySel.val)
  , (0x048C, regFields [(2, bitNat (match m.run with | some i => key != .empty && i.keyFp == keyPrint key | none => false)), (0, keyStateCode key)]) ]
  ++ digestRegs 0x0420 (runIdent s) ++ digestRegs 0x0440 (idleIdent s)
  ++ digestRegs 0x0468 (if held && !slot.bytes.isEmpty then imageIdent slot.bytes else 0) ++ digestRegs 0x0490 (keyPrint key)

/-! ### TSK and STAT (R123 to R125) -/

def TState.code : TState → Nat
  | .absent => 0 | .disabled => 1 | .waiting => 2 | .released => 3

/-- A switch window holds a release of the task: a nominal instant in it has come, or a trigger for it waits (R158, R160). -/
def heldByWindow (s : State) (e : TaskEntry) : Bool :=
  match s.tsk.switch with
  | some q => q.phase == .window && e.enable &&
      (if e.event then (s.tsk.heldTrigs ++ s.tsk.trigQ).any (fun g => (triggerTasks s g).any (fun x => x.1.num == e.num))
       else decide (q.r ≤ s.tsk.rt[e.num].next) && decide (s.tsk.rt[e.num].next ≤ s.tb.now))
  | none => false

def tskRegs (s : State) (x : Sess) : RegBlock :=
  let t := x.sel.tskSel
  let r := s.tsk.rt[t]
  let a := s.tsk.lat[t]
  let fixed : RegBlock := match taskEntry s t with
    | none => [(0x0814, 0xFFFF), (0x0854, 0xFFFFFFFF)]
    | some e =>
      [ (0x0804, regFields [(24, if e.event then e.trigger else 0), (16, e.ovrLimit), (11, 1), (10, bitNat e.enable), (9, bitNat e.event)
        , (8, bitNat e.policy), (0, e.priority)])
      , (0x0808, sat32 e.period), (0x080C, sat32 e.phase), (0x0810, sat32 e.deadline)
      , (0x0814, regFields [(8, refCode e.errTask), (0, refCode e.ovrTask)])
      , (0x0818, regFields [(24, r.consec), (16, r.queue.length), (7, bitNat (heldByWindow s e)), (6, bitNat r.pending.isSome), (0, r.st.code)])
      , (0x081C, r.cycle), (0x0830, sat32 r.lastExec), (0x0834, r.lastFlags.setWidth 32), (0x0838, sat32 e.argA), (0x083C, sat32 e.argB)
      , (0x0840, sat32 a.rel), (0x0844, sat32 a.done), (0x0848, sat32 a.skip), (0x084C, sat32 a.miss), (0x0850, sat32 a.merge)
      , (0x0854, sat32 a.min), (0x0858, sat32 a.max), (0x085C, sat32 (if a.done = 0 then 0 else a.sum / a.done))
      , (0x0860, a.flags.setWidth 32), (0x0864, sat32 a.nlate) ]
      ++ pairNat 0x0820 (if e.event then 0 else r.next) ++ pairNat 0x0828 r.lastRel
  [(0x0800, BitVec.ofNat 32 t.val), (0x0888, x.sel.hevtVal), (0x0890, x.res.hevt)] ++ fixed ++ pairNat 0x0880 s.tsk.origin
  ++ mapRegs 0x08A0 4 (fun k => s.tsk.lat[Fin.ofNat 128 k].skip != 0) ++ mapRegs 0x08B0 4 (fun k => s.tsk.lat[Fin.ofNat 128 k].miss != 0)
  ++ mapRegs 0x08C0 4 (fun k => s.tsk.rt[Fin.ofNat 128 k].st == .released)

/-- A margin in per mille, saturating at −32 768, in two's complement. -/
def margin16 (m : Int) : Nat := signedField 2 (max (-32768) (min 32767 m))

def statRegs (s : State) : RegBlock :=
  let k := s.tsk
  let a := k.statLat
  [ (0x3400, sat32 (settings s).statMs), (0x3404, sat32 k.statSeq), (0x3410, regFields [(1, bitNat k.statPartial), (0, bitNat k.statValid)])
  , (0x3414, sat32 a.relTot), (0x3418, sat32 a.skipTot), (0x341C, sat32 a.missTot), (0x3420, sat32 a.jitMax), (0x3424, sat32 a.noticeMax)
  , (0x3428, regFields [(16, margin16 a.margin), (0, a.marginTask)]) ] ++ pairNat 0x3408 k.statEnd

/-! ### TB (R149) -/

def tbRegs (s : State) : RegBlock :=
  let t := s.tb
  [ (0x0C10, regFields [(8, bitNat t.tempFault), (7, bitNat (t.pairAligned && partnerPresent s && !holds s)), (6, bitNat (t.slew != 0))
    , (5, t.ptpPort.val), (3, t.ptpState.val), (0, t.source.val)])
  , (0x0C14, satInt32 t.ptpErr), (0x0C18, satInt32 (discipline t)), (0x0C1C, satInt32 t.tempCor), (0x0C20, t.oscTemp.setWidth 32)
  , (0x0C24, if holds s then 0 else satInt32 t.pairErr), (0x0C28, sat32 t.pairDly)
  , (0x0C34, sat32 s.tbLat.ptpMax), (0x0C38, sat32 s.tbLat.pairMax), (0x0C3C, sat32 s.tbLat.absorb), (0x0C40, sat32 s.tbLat.lockLoss)
  , (0x0C44, sat32 s.tbLat.beacon) ]
  ++ pairNat 0x0C00 t.now ++ pair64 0x0C08 (BitVec.ofInt 64 t.ptpOfs)
  ++ pair64 0x0C2C (match t.master with | some m => m.gmId | none => 0)
  ++ (List.finRange 24).map (fun n => (0x0C80 + 4 * n.val,
      regFields [(17, bitNat s.io.isl[n].uncertain), (16, bitNat s.io.isl[n].latValid), (0, sat16 s.io.isl[n].lat)]))

/-! ### FRC (R174, R175) -/

def frcRegs (s : State) (x : Sess) : RegBlock :=
  let sel := x.sel.frcSel
  let at_ := s.frc.table.find? (fun e => e.1.val == sel)
  let next := s.frc.table.find? (fun e => sel ≤ e.1.val)
  [ (0x3800, BitVec.ofNat 32 sel), (0x3804, sat32 s.frc.table.length)
  , (0x3808, match at_ with | some (_, f) => regFields [(4, f.qual.val), (2, f.kind.val), (0, 1)] | none => 0)
  , (0x380C, match next with | some (n, _) => BitVec.ofNat 32 n.val | none => 0x80000000)
  , (0x3830, x.sel.setCfg.setWidth 32), (0x3838, x.res.frc)
  , (0x3840, sat32 s.frc.lat.set), (0x3844, sat32 s.frc.lat.clr), (0x3848, sat32 s.frc.lat.drop) ]
  ++ pair64 0x3810 (match at_ with | some (_, f) => f.target | none => 0) ++ pair64 0x3818 (match at_ with | some (_, f) => f.value | none => 0)
  ++ pair64 0x3820 x.sel.setTgt ++ pair64 0x3828 x.sel.setVal

/-! ### LSK (R201, R202) -/

def haltCode : HaltState → Nat
  | .none => 0 | .halted .A => 1 | .halted .B => 2 | .resumed _ => 3
  | .neither (some .A) => 1 | .neither (some .B) => 2 | .neither none => 3

def lskRegs (s : State) (x : Sess) : RegBlock :=
  let k := s.lsk
  let f : ColRecord := k.fault.getD ⟨0, 0, 0xFF, 0, 0, 0, 0xFF, 0, 0, 0⟩
  [ (0x1000, regFields [(10, bitNat (covered s)), (9, bitNat k.commission), (8, bitNat k.recheck.isSome), (6, haltCode k.halt)
    , (5, bitNat k.unchecked), (4, bitNat k.failed)])
  , (0x1008, x.res.lsk)
  , (0x100C, regFields [(31, bitNat k.fault.isSome), (24, f.parity.toNat), (16, f.stream.toNat), (8, f.subclass), (0, f.cls.val)])
  , (0x1020, f.task.setWidth 32), (0x1024, f.cycle)
  , (0x1060, regFields [(16, k.sweepPasses), (1, bitNat k.sweepDiff), (0, bitNat (s.img.idle == .armed))])
  , (0x1080, sat32 (k.lat.cmp / 1024)), (0x1084, sat32 k.lat.digest), (0x1088, sat32 k.lat.waitMax), (0x108C, sat32 k.lat.bpress)
  , (0x1090, sat32 k.lat.unchk), (0x1094, sat32 k.lat.idleDiff) ]
  ++ pair64 0x1010 f.addr ++ pairNat 0x1018 f.time ++ wordRegs 0x1030 f.wordA ++ wordRegs 0x1040 f.wordB

/-! ### PAIR (R235, R236) -/

def Partner.code : Partner → Nat
  | .none => 0 | .holder => 1 | .without => 2 | .lost => 3

def pairRegs (s : State) (x : Sess) : RegBlock :=
  let p := s.pair
  let l := s.lease
  let m := s.mir.lat
  let w := if s.img.run.isSome then witnesses s else 0
  [ (0x1400, regFields [(11, bitNat (s.mir.pReported && !s.mir.pHealth.getLsbD 0)), (10, bitNat p.slot), (9, bitNat (l.swap.isSome || l.swapPhase.isSome))
    , (8, bitNat l.resync.isSome), (7, bitNat (s.img.run.isSome && w == 0)), (6, bitNat (l.claim.isSome && decide (l.suspended ≤ s.tb.now))), (5, bitNat l.isolated)
    , (4, bitNat p.up[(1 : Fin 2)]), (3, bitNat p.up[(0 : Fin 2)]), (1, p.partner.code), (0, bitNat (holds s))])
  , (0x1404, if holds s || l.hbEpoch < l.epoch then l.epoch else l.hbEpoch), (0x1408, regFields [(16, 500), (0, (settings s).leaseUs)])
  , (0x140C, regFields [(20, if holds s then l.acks else 0), (10, quorum s), (0, w)])
  , (0x143C, x.res.pair), (0x1440, s.mir.health), (0x1444, s.mir.pHealth), (0x1448, sat32 ((s.mir.queue.map (fun m => 64 * m.granules.length)).sum))
  , (0x1480, sat32 m.renew), (0x1484, sat32 m.noQ), (0x1488, sat32 m.claim), (0x148C, sat32 m.deny), (0x1490, sat32 m.mGran)
  , (0x1494, sat32 m.mCoal), (0x1498, sat32 m.mLate), (0x149C, sat32 m.mMax), (0x14A0, sat32 m.hWrite), (0x14A4, sat32 m.relay)
  , (0x14A8, sat32 m.canConf), (0x14AC, sat32 m.twin), (0x14B0, sat32 m.sad0), (0x14B4, sat32 m.sad1) ]
  ++ pairNat 0x1410 (if holds s then l.leaseEnd else l.hbEnd) ++ pair64 0x1418 (if s.mod.st == .boot then 0 else Config.selfId)
  ++ pair64 0x1420 (if p.partner == .none then 0 else p.partnerId) ++ pairNat 0x1428 l.lastChange ++ pairNat 0x1430 (nextSwap s)

/-! ### SES (R411, R412) -/

def SesState.code : SesState → Nat
  | .free => 0 | .opening => 1 | .open_ => 2 | .closing => 3

def sesRegs (s : State) (se : Fin 64) (x : Sess) : RegBlock :=
  let y := s.ses.tab[x.sel.sesSel]
  let claim : W32 := match s.ses.claim with
    | some c => regFields [(31, 1), (30, bitNat (claimOf s s.pair.slot se)), (29, bitNat c.slot), (16, c.se.val)
      , (0, min 0xFFFF ((c.until_ - s.tb.now) / sec))]
    | none => 0
  [ (0x2400, regFields [(16, x.role), (9, bitNat (holdsMaint x)), (8, x.port.val), (0, se.val)])
  , (0x2404, regFields [(16, x.readMask.toNat), (0, x.writeMask.toNat)]), (0x2408, x.classes.setWidth 32)
  , (0x240C, x.rdDrop.setWidth 32), (0x2410, x.wrDrop.setWidth 32), (0x2414, BitVec.ofNat 32 (bitNat x.mapsync))
  , (0x2418, sat32 x.violCnt), (0x241C, x.violAddr), (0x2420, x.violInfo), (0x242C, claim), (0x2434, x.res.ses)
  , (0x2438, BitVec.ofNat 32 x.sel.sesSel.val)
  , (0x243C, regFields [(16, y.role), (10, bitNat (claimOf s s.pair.slot x.sel.sesSel)), (9, bitNat (y.st == .open_ && holdsMaint y)), (8, y.port.val)
    , (0, y.st.code)])
  , (0x2440, y.ip)
  , (0x244C, match s.ses.debug with | some d => regFields [(31, 1), (16, d.viol), (0, d.colours.toNat)] | none => 0)
  , (0x2480, sat32 s.ses.lat.open_), (0x2484, sat32 s.ses.lat.refuse), (0x2488, sat32 s.ses.lat.close), (0x248C, sat32 s.ses.lat.viol)
  , (0x2490, sat32 s.ses.lat.dbgViol) ]
  ++ mapRegs 0x2444 2 (fun k => s.ses.tab[Fin.ofNat 64 k].st == .open_) ++ digestRegs 0x2460 (BitVec.ofNat 256 Config.deviceFp.toNat)

end Sys2Proof.Machine
end

