-- ==== Sys2Proof/Machine/RegsIo.lean ====
section
/-!
DEFINITION. What the registers of the blocks LNK, CH, CAN, PWR, EVR, LCD and MOD read (20 R482 and the register tables of the chapters),
and the read of any register.
-/

namespace Sys2Proof.Machine

/-! ### LNK (R271, R272) -/

/-- The code of a station's state. -/
def StnState.code : StnState → Nat
  | .none => 0 | .search => 1 | .ident => 2 | .param => 3 | .start => 4 | .in_ => 5 | .out => 6 | .refused => 7

/-- The link that a session has selected. -/
def selLink (x : Sess) : Fin 24 := Fin.ofNat 24 x.sel.lnkSel.toNat

/-- A map of the stations of a link. -/
def stationMap (s : State) (l : Fin 24) (p : StationEntry → Bool) : W32 :=
  BitVec.ofNat 32 (bitsOf 32 (fun b => (linkStations s l).any (fun e => e.pos.val == b && p e)))

/-- The state of a station's entry. -/
def entryState (s : State) (e : StationEntry) : StnState := s.links[e.link].stns[e.pos].st

/-- The module is grandmaster of a link (R139): the lease holder, or a module without a partner. -/
def linkMaster (s : State) (l : Fin 24) : Bool := valeDecides s && s.links[l].up && (linkEntry s l).enabled

def linkRegs (s : State) (l : Fin 24) (x : Sess) : RegBlock :=
  let e := linkEntry s l
  let k := s.links[l]
  let es := linkStations s l
  let fresh := decide (s.tb.now ≤ k.partnerAt + ms)
  [ (0x1808, regFields [(16, e.etherType), (8, e.missLimit), (2, e.count), (1, bitNat e.ring), (0, bitNat e.enabled)])
  , (0x180C, regFields [(16, es.countP (fun a => entryState s a == .in_))
    , (8, es.countP (fun a => entryState s a == .out || entryState s a == .search || entryState s a == .refused))
    , (5, bitNat (es.any (fun a => partnerPresent s && (k.stns[a.pos].relaying || k.stns[a.pos].relayedIn)))), (4, bitNat (linkMaster s l))
    , (3, bitNat (k.ringOpen && partnerPresent s))
    , (2, bitNat (k.partnerPath && fresh)), (1, bitNat k.enumerated), (0, bitNat k.up)])
  , (0x1810, stationMap s l (fun a => entryState s a == .in_)), (0x1814, heardMap s l), (0x1818, stationMap s l (fun a => k.stns[a.pos].pHeard))
  , (0x1820, x.res.lnk), (0x1824, if es.isEmpty then 0 else sat32 (linkLead s l))
  , (0x1828, if es.isEmpty then 0 else sat32 (loadOf (enabledTasks s) es * 1000).floor.toNat)
  , (0x1880, sat32 k.lat.rx), (0x1884, sat32 k.lat.tx), (0x1888, sat32 k.lat.bad), (0x188C, sat32 k.lat.miss), (0x1890, sat32 k.lat.late)
  , (0x1894, sat32 k.lat.disc), (0x1898, sat32 k.lat.relay), (0x189C, sat32 k.lat.util) ]

def stationRegs (s : State) (l : Fin 24) (p : Fin 32) : RegBlock :=
  match stnEntry s l p with
  | none => []
  | some e =>
    let k := s.links[l].stns[p]
    [ (0x1840, regFields [(24, if k.st == .refused then k.cause.toNat else 0), (16, k.hops.toNat), (8, bitNat e.witness), (7, bitNat (hears s e)), (6, bitNat k.pHeard), (0, k.st.code)])
    , (0x1844, k.ident.vendor), (0x1848, k.ident.device), (0x1854, sat32 (inputPeriod s e / 1000)), (0x1858, sat32 (watchdogIn (enabledTasks s) e))
    , (0x185C, k.epoch), (0x18C0, sat32 k.lat.miss), (0x18C4, sat32 k.lat.twin), (0x18C8, sat32 k.lat.stale), (0x18CC, sat32 k.lat.wdog)
    , (0x18D0, sat32 k.lat.out) ] ++ pair64 0x184C k.ident.serial ++ pairNat 0x1860 k.lastChange

def lnkRegs (s : State) (x : Sess) : RegBlock :=
  [(0x1800, x.sel.lnkSel.setWidth 32), (0x1804, BitVec.ofNat 32 x.sel.stnSel.val)] ++ linkRegs s (selLink x) x ++
    stationRegs s (selLink x) x.sel.stnSel

/-! ### CH (R292, R293, R322 to R324, R342, R343, R363, R364) -/

/-- The channel and the island that a session has selected. -/
def selChan (x : Sess) : Fin 192 := Fin.ofNat 192 x.sel.chSel.toNat
def selIsl (x : Sess) : Fin 24 := Fin.ofNat 24 x.sel.islSel.toNat

/-- A point index, or 0xFFFF for none. -/
def pointCode (p : Option Nat) : Nat := p.getD 0xFFFF

/-- The FLAGS byte of a channel entry (02 R42, byte 7). -/
def chanFlags (e : ChanEntry) : Nat :=
  bitNat e.owDiag + 2 * bitNat e.interleave + 4 * bitNat e.ne43 + 8 * bitNat e.pwm + 16 * e.gang

/-- A command of the channel is pending or running. -/
def chanBusy (s : State) (c : Fin 192) : Bool :=
  s.io.chan[c].cmd.isSome || s.io.waiting.any (fun w => cmdChan w.cmd == some c) || s.io.ai[c].urgRun || s.io.ai[c].owCmd

/-- CH_STATUS: the quality of R288 of the latest reading. -/
def chanStatus (s : State) (c : Fin 192) : W32 :=
  let e := chanEntry s c
  let k := s.io.chan[c]
  if e.mode = 0 then regFields [(16, bitNat (islandIn s c))]
  else
    let st := if islandIn s c then k.status else k.status ||| stIsland
    let stale := staleAt s c s.tb.now
    let q := statusQuality st
    regFields [(24, (if q == qGood && stale then qUncertain else q).toNat), (18, bitNat stale), (17, bitNat (chanBusy s c))
      , (16, bitNat (islandIn s c)), (0, st.toNat)]

def chanRegs (s : State) (c : Fin 192) (x : Sess) : RegBlock :=
  let e := chanEntry s c
  [ (0x1C00, x.sel.chSel.setWidth 32), (0x1C04, x.sel.islSel.setWidth 32), (0x1C14, x.res.ch)
  , (0x1C20, regFields [(24, e.filter), (16, e.rate), (8, e.range), (0, e.mode)]), (0x1C24, e.param0), (0x1C28, e.param1), (0x1C2C, e.param2)
  , (0x1C30, regFields [(8, chanFlags e), (0, e.safe)]), (0x1C3C, regFields [(16, pointCode e.outPoint), (0, pointCode e.inPoint)])
  , (0x1C40, chanStatus s c), (0x1C44, s.io.chan[c].seen.setWidth 32) ] ++ pair64 0x1C0C x.sel.chArg ++ pair64 0x1C34 e.safeVal

/-- The registers of an analogue input; another mode reads the reset values. -/
def aiRegs (s : State) (c : Fin 192) : RegBlock :=
  let e := chanEntry s c
  let a := s.io.ai[c]
  let u := s.io.sup[islandOf c]
  if !isAi e then [(0x1C9C, 0x40000000), (0x1CA0, 1)]
  else
    [ (0x1C90, a.raw.setWidth 32), (0x1C94, if converts s c then regFields [(8, a.cap.val), (0, a.rate)] else 0), (0x1C98, a.calOfs)
    , (0x1C9C, a.calGain)
    , (0x1CA0, regFields [(16, if a.calSource = 0 then 0 else sat16 ((s.tb.now - a.calAt) / (3600 * sec))), (2, a.calSource.val)
      , (1, bitNat a.calFailed), (0, bitNat a.uncal)])
    , (0x1CA4, regFields [(16, sat16 a.undec), (6, a.method.val), (4, a.verdict.val), (0, bitNat e.owDiag)])
    , (0x1CB8, regFields [(31, bitNat u.cjFault), (0, u.cjTemp.toNat)])
    , (0x1CBC, regFields [(16, sat16 a.doneLat), (0, sat16 a.dropLat)]) ]
    ++ pair64 0x1C80 s.io.chan[c].value ++ pairNat 0x1C88 s.io.chan[c].stamp ++ pair64 0x1CA8 a.urgVal ++ pairNat 0x1CB0 a.urgTs

/-- The codes of an output's drive. -/
def Drive.code : Drive → Nat
  | .command => 0 | .held => 1 | .value => 2 | .ne43Low => 3 | .ne43High => 4 | .off => 5 | .prepared => 6

/-- The registers of an analogue output. -/
def aoRegs (s : State) (c : Fin 192) : RegBlock :=
  let e := chanEntry s c
  let a := s.io.ao[c]
  if !isAo e then [(0x1CD8, 5)]
  else
    [ (0x1CD0, regFields [(16, if e.mode = 6 then sat16 a.pShare else 0), (0, sat16 a.share)]), (0x1CD4, regFields [(16, sat16 a.buck), (0, a.vterm % 65536)])
    , (0x1CD8, regFields [(16, a.temp.toNat), (11, bitNat s.io.own[islandOf c].paired), (10, bitNat a.openLoop), (9, bitNat a.foldback)
      , (8, bitNat a.comply), (4, a.cause.val), (0, a.drive.code)])
    , (0x1CDC, regFields [(16, sat16 a.enterLat), (0, sat16 a.lossLat)]) ] ++ pair64 0x1CC0 a.appl ++ pair64 0x1CC8 s.io.chan[c].value

/-- The drive code of a digital output (R364). -/
def doDrive (s : State) (c : Fin 192) : Nat :=
  let u := s.io.sup[islandOf c]
  let d := s.io.dO[c]
  if leaderOf s c != c then 7
  else if u.lost && u.latched && u.goodSince.any (fun t => decide (t + 10 * ms ≤ s.tb.now)) then 5
  else if u.lost then 4
  else if s.io.chan[c].safe then 3
  else if d.thermalOff then 6
  else if (chanEntry s c).pwm then 2
  else bitNat (doOn s c)

/-- The registers of a digital channel. -/
def digitalRegs (s : State) (c : Fin 192) : RegBlock :=
  let e := chanEntry s c
  let d := s.io.di[c]
  let o := s.io.dO[c]
  if isDi e then
    [ (0x1CE0, regFields [(16, d.vterm.toNat), (4, d.band), (3, bitNat d.openWire), (2, bitNat d.undef_), (1, bitNat e.owDiag), (0, bitNat d.state)])
    , (0x1CE4, if e.mode = 9 then s.io.chan[c].value.extractLsb' 0 32 else 0) ]
    ++ pair64 0x1CE8 (if e.mode = 10 then s.io.chan[c].value else 0) ++ pairNat 0x1CF0 d.lastEdge
  else if isDo e then
    let lead := leaderOf s c == c
    [ (0x1CF8, regFields [(16, sat16 o.retries), (11, bitNat (lead && o.imbal)), (10, bitNat o.openLoad), (9, bitNat o.extDrive), (8, bitNat o.limSince.isSome)
      , (7, bitNat o.thermalOff), (6, bitNat e.pwm), (4, if lead then e.gang else 3), (0, doDrive s c)])
    , (0x1CFC, regFields [(16, sat16 ((if lead then groupMicro s c else o.micro) / 1000)), (0, o.vterm % 65536)]) ]
  else []

def islandRegs (s : State) (n : Fin 24) : RegBlock :=
  let e := islEntry s n
  let i := s.io.isl[n]
  let a := s.io.lat[n]
  let st := match i.st with | .off => 0 | .boot => 1 | .in_ => 2 | .oos => 3 | .returning => 4
  [ (0x1D00, regFields [(1, bitNat e.latchOff), (0, bitNat e.lowPower)])
  , (0x1D04, regFields [(24, i.restarts), (16, bitNat i.silent), (15, bitNat i.safeLatched), (14, bitNat i.calDone), (13, bitNat i.calRun)
    , (12, bitNat (decide (0 < i.bandSeen.val))), (11, bitNat i.supLost), (10, bitNat i.supWarn), (8, i.bandSeen.val), (4, i.cause.val), (0, st)])
  , (0x1D08, regFields [(16, sat16 i.lplus), (0, sat16 i.vb)]), (0x1D0C, i.temp.setWidth 32), (0x1D10, sat32 e.silenceUs)
  , (0x1D20, BitVec.ofNat 32 (bitsOf 24 (fun b => s.io.isl[Fin.ofNat 24 b].st == .in_)))
  , (0x1D24, BitVec.ofNat 32 (bitsOf 24 (fun b => s.io.isl[Fin.ofNat 24 b].safeLatched || s.io.isl[Fin.ofNat 24 b].silent)))
  , (0x1D40, sat32 a.crc), (0x1D44, sat32 a.miss), (0x1D48, sat32 a.seq), (0x1D4C, sat32 a.oos), (0x1D50, sat32 a.evLost), (0x1D54, sat32 a.vbMin)
  , (0x1D58, sat32 a.lateCmd) ]

def chRegs (s : State) (x : Sess) : RegBlock :=
  let c := selChan x
  chanRegs s c x ++ aiRegs s c ++ aoRegs s c ++ digitalRegs s c ++ islandRegs s (selIsl x)

/-! ### CAN (R383, R384) -/

/-- RECOV of CAN_ERRCNT: how many recessive runs a port in bus-off has counted is not shown by any event of the table. -/
def canRecov (k : Can) (v : BitVec 8) : Nat := if k.state = 2 then v.toNat % 129 else 0

/-- A filter's mask as its entry holds it. -/
def filterMask (f : FilterEntry) : W32 := f.mask

def canRegs (s : State) (x : Sess) : RegBlock :=
  let p := x.sel.canSel
  let e := canEntry s p
  let k := s.can[p]
  let f := e.filters[x.sel.fltSel]
  let a := k.lat
  [ (0x2000, BitVec.ofNat 32 p.val), (0x2004, regFields [(2, bitNat e.brs), (1, bitNat e.fd), (0, bitNat e.enabled)])
  , (0x2008, regFields [(16, e.dpresc), (0, e.presc)]), (0x200C, regFields [(24, e.sjw), (16, e.ph2), (8, e.ph1), (0, e.prop)])
  , (0x2010, regFields [(24, e.dsjw), (16, e.dph2), (8, e.dph1), (0, e.dprop)])
  , (0x2014, regFields [(12, k.lec), (11, bitNat k.lecData), (10, bitNat k.noAck), (5, bitNat k.integrating)
    , (4, bitNat (k.state != 3 && !holds s)), (0, k.state.val)])
  , (0x2018, regFields [(16, canRecov k (Config.free 8 s.free)), (8, min 255 k.rec_), (0, min 255 k.tec)])
  , (0x201C, BitVec.ofNat 32 (bitsOf 32 (fun b => k.tx[Fin.ofNat 32 b].st != .empty))), (0x2020, sat32 k.fifo.length)
  , (0x2024, BitVec.ofNat 32 x.sel.fltSel.val)
  , (0x2028, regFields [(31, bitNat f.extended), (0, f.ident.toNat)]), (0x202C, filterMask f)
  , (0x2030, regFields [(16, match f.task with | some t => t.val | none => 0xFFFF), (0, bitNat f.enabled)])
  , (0x2040, sat32 a.tx), (0x2044, sat32 a.rx), (0x2048, sat32 a.noMatch), (0x204C, sat32 a.ovf), (0x2050, sat32 a.err), (0x2054, sat32 a.retry)
  , (0x2058, sat32 a.repl), (0x205C, sat32 a.abort), (0x2060, sat32 a.busOff), (0x2064, sat32 a.rxDiff) ]

/-! ### PWR (R432, R433) -/

def pwrRegs (s : State) (x : Sess) : RegBlock :=
  let p := s.pwr
  let t := s.tel
  let e := (settings s).pwr
  let a := t.lat
  [ (0x2800, regFields [(10, bitNat p.holdupLow), (9, bitNat t.ceilHold), (8, bitNat t.marginLow), (7, bitNat p.stopping), (6, bitNat p.recharging)
    , (5, bitNat p.warn), (4, bitNat e.bothInputs), (3, bitNat p.bLost), (2, bitNat p.aLost), (1, bitNat p.bOk), (0, bitNat p.aOk)])
  , (0x2808, x.res.pwr), (0x280C, regFields [(16, e.target), (0, bitNat e.bothInputs)]), (0x2810, regFields [(16, e.ceiling), (0, e.floor)])
  , (0x2814, sat32 e.telemetryMs), (0x2818, regFields [(16, sat16 p.inB), (0, sat16 p.inA)]), (0x281C, regFields [(16, if p.capSeen then sat16 p.cap else 0), (0, sat16 p.bus)])
  , (0x2820, regFields [(16, t.guarantee), (0, t.core / 2)]), (0x2824, t.margin), (0x2828, sat32 t.pin), (0x282C, t.powerCycles)
  , (0x28C0, sat32 a.dip), (0x28C4, sat32 a.dipMax), (0x28C8, regFields [(16, a.vHigh), (0, a.vLow)]), (0x28CC, sat32 a.pinMax), (0x28D0, sat32 a.memCe) ]
  ++ pair64 0x2830 (BitVec.ofNat 64 (t.opTime % 2 ^ 48))
  ++ runRegs 0x2840 ((List.finRange 12).map (fun k => t.temps[k].setWidth 32))
  ++ runRegs 0x2870 ((List.finRange 6).map (fun k => BitVec.ofNat 32 (sat16 t.rails[Fin.ofNat 10 k.val])))
  ++ runRegs 0x28A0 ((List.finRange 8).map (fun k => regFields [(31, bitNat t.env[k].active), (0, t.env[k].entries.toNat)]))

/-! ### EVR (R447, R448) -/

def evrRegs (s : State) (x : Sess) : RegBlock :=
  let v := s.evr
  let w := windowAt x.sel.evrCursor s
  let r := v.rates[x.sel.rateSel]
  [ (0x2C00, regFields [(4, bitNat v.closed), (3, bitNat v.clearing.isSome), (2, bitNat (decide (65536 ≤ v.slots.length))), (1, bitNat v.openRec)
    , (0, bitNat v.ready)])
  , (0x2C04, sat32 v.slots.length), (0x2C08, sat32 v.lost), (0x2C0C, sat32 v.gen), (0x2C10, BitVec.ofNat 32 (min 65536 x.sel.evrCursor))
  , (0x2C14, match v.lastMap with | some n => BitVec.ofNat 32 n | none => 0xFFFFFFFF), (0x2C1C, x.sel.evrArg), (0x2C40, if v.ready then w.2 else 0), (0x2C44, x.res.evr)
  , (0x2C48, BitVec.ofNat 32 x.sel.rateSel.val), (0x2C4C, regFields [(16, r.refill), (0, r.burst)])
  , (0x2C80, sat32 v.lat.write), (0x2C84, sat32 v.lat.suppr), (0x2C88, sat32 v.lat.qovf), (0x2C8C, sat32 v.lat.waitMax) ]
  ++ digestRegs 0x2C20 w.1

/-! ### LCD (R456, R457, R461, R462) -/

/-- The meadow's segments (R456); frozen from the reset at 20 V on (R459). -/
def meadow (s : State) : Nat :=
  match s.lcd.frozen with
  | some m => m.toNat
  | none => bitsOf 8 (fun k => [holds s, s.mod.st == .standby, partnerPresent s, s.mod.st == .unchecked, s.lsk.commission, s.lease.isolated,
      s.mod.st == .failed, s.pwr.warn || s.pwr.stopping].getD k false)

/-- PAIR_STATUS.DEGRADED (R236): the partner's latest health report is not OK. -/
def degraded (s : State) : Bool := s.mir.pReported && !s.mir.pHealth.getLsbD 0

/-- The backlight's colour (R457). -/
def backlight (s : State) : Nat :=
  if panelOff s then 0
  else
    match s.mod.st with
    | .failed => 3
    | .stopped => 3
    | .boot => 2
    | .config => 2
    | .calibrate => 2
    | .join => 2
    | .unchecked => 2
    | _ => if s.lease.isolated || s.pwr.warn || degraded s then 2 else 1

/-- LCD_REGINFO and LCD_REGICONS of a region: what the running image's layout defines. -/
def regionRegs (s : State) (n : Fin 16) : RegBlock :=
  let r := s.lcd.regions[n]
  match (if s.img.run.isSome then r.entry else none) with
  | some e =>
    let st := if r.running.isNone then 0 else if r.queued.isNone then 1 else 2
    [(0x3010, regFields [(16, st), (8, bitNat e.program), (7, 1), (4, e.count), (0, e.first)]), (0x3014, e.iconMask)]
  | none => []

def lcdRegs (s : State) (x : Sess) : RegBlock :=
  let k := s.lcd
  [ (0x3000, regFields [(8, k.band.val), (6, bitNat k.lowPower), (4, k.rate.val), (0, backlight s)]), (0x3008, x.res.lcd)
  , (0x300C, BitVec.ofNat 32 x.sel.lcdSel.val), (0x3018, x.sel.textLo), (0x301C, x.sel.textHi.setWidth 32), (0x3020, x.sel.icons)
  , (0x3024, BitVec.ofNat 32 (meadow s)), (0x3040, sat32 k.lat.upd), (0x3044, sat32 k.lat.repl), (0x3048, sat32 k.lat.rej) ]
  ++ regionRegs s x.sel.lcdSel

/-! ### MOD (R477, R478) -/

def fwReg (f : Fw) (selected : Bool) : W32 :=
  regFields [(16, f.version.toNat), (12, f.pairMin.toNat), (8, f.pairMax.toNat), (2, bitNat selected), (0, f.st.val)]

def modRegs (s : State) (x : Sess) : RegBlock :=
  let m := s.mod
  [ (0x0000, 0x3154584C), (0x0004, regFields [(16, m.bootCause), (8, bitNat m.warm), (4, m.prev.code.val), (0, m.st.code.val)])
  , (0x000C, x.sel.modArg.setWidth 32), (0x0010, x.res.mod), (0x0014, fwReg m.fwRun false), (0x0018, fwReg m.fwAlt m.fwSelected)
  , (0x001C, sat32 m.startDur), (0x0020, sat32 m.fwLoad.length) ]

/-! ### The read of a register -/

/-- The registers of the block that an offset lies in (R479). -/
def regBlock (s : State) (se : Fin 64) (off : Nat) : RegBlock :=
  let x := s.ses.tab[se]
  match off / 0x400 with
  | 0 => modRegs s x
  | 1 => imgRegs s x
  | 2 => tskRegs s x
  | 3 => tbRegs s
  | 4 => lskRegs s x
  | 5 => pairRegs s x
  | 6 => lnkRegs s x
  | 7 => chRegs s x
  | 8 => canRegs s x
  | 9 => sesRegs s se x
  | 10 => pwrRegs s x
  | 11 => evrRegs s x
  | 12 => lcdRegs s x
  | 13 => statRegs s
  | 14 => frcRegs s x
  | _ => []

/-- What a register holds now. An offset without a register reads 0, as a write-only register does. -/
def regNow (s : State) (se : Fin 64) (off : Nat) : W32 := ((regBlock s se off).lookup off).getD 0

/-- The RO pairs whose low half captures the high half (R484): the offset of each low half. The stamps of R323 are captured whole
with their values, so that value and stamp stay one result. -/
def loRegs : List Nat :=
  [0x0820, 0x0828, 0x0880, 0x0C00, 0x0C08, 0x0C2C, 0x1010, 0x1018, 0x1410, 0x1418, 0x1420, 0x1428, 0x1430, 0x184C, 0x1860, 0x1C34, 0x1CC0,
   0x1CC8, 0x1CE8, 0x1CF0, 0x2830, 0x3408, 0x3810, 0x3818]

/-- The registers that a read of a register captures (R484). -/
def capturedBy (off : Nat) : List Nat :=
  if off = 0x1C80 then [0x1C84, 0x1C88, 0x1C8C]
  else if off = 0x1CA8 then [0x1CAC, 0x1CB0, 0x1CB4]
  else if off = 0x2C20 then [0x2C24, 0x2C28, 0x2C2C, 0x2C30, 0x2C34, 0x2C38, 0x2C3C, 0x2C40]
  else if loRegs.contains off then [off + 4]
  else []

/-- A register returns a captured value. -/
def isCaptured (off : Nat) : Bool := ([0x1C80, 0x1CA8, 0x2C20] ++ loRegs).any (fun o => (capturedBy o).contains off)

/-- What a session reads from a register (R8, R484): a captured value, or what the register holds now. -/
def regRead (s : State) (se : Fin 64) (off : Nat) : W32 :=
  if isCaptured off then (s.ses.tab[se].caps.lookup off).getD (regNow s se off) else regNow s se off

/-- A read of a register captures what it captures. -/
def captureFrom (off : Nat) (se : Fin 64) (s : State) : State :=
  let cs := capturedBy off
  if cs.isEmpty then s else putCaps se (cs.map (fun o => (o, regNow s se o))) s

/-- The captures at session open. -/
def openCaps (s : State) (se : Fin 64) : List (Nat × W32) :=
  (([0x1C80, 0x1CA8, 0x2C20] ++ loRegs).flatMap capturedBy).dedup.map (fun o => (o, regNow s se o))

/-- The side effect of a read (R483): a capture, and the advance of EVR_CURSOR. CAN_ERRCNT has used a free value. -/
def readEffect (off : Nat) (se : Fin 64) (s : State) : State :=
  if off = 0x2C3C then advanceCursor se s
  else if off = 0x2018 then { s with free := s.free + 1 }
  else captureFrom off se s

end Sys2Proof.Machine
end

