-- ==== Sys2Proof/Machine/Restart.lean ====
section
/-!
DEFINITION. How a module leaves its states: the controlled stop (16 R421), the loss of power at 20 V (R423), restarts and the entry into
BOOT (19 R464, R465, R469).
-/

namespace Sys2Proof.Machine

/-! ### Islands without power (R277, R421) -/

/-- The ford converters are off: the islands lose their barrier power. -/
def powerOffIslands (s : State) : State :=
  overAll (List.finRange 24) (fun n t =>
    if t.io.isl[n].st == .off then t else onIsl n (fun _ => { lat := t.io.isl[n].lat }) (resetIsland n (endIslandCmds n t))) s

/-- The ford converters are started: every island boots (R282). -/
def powerOnIslands (s : State) : State :=
  overAll (List.finRange 24) (fun n t => if t.io.isl[n].st == .off then onIsl n (fun i => { i with st := .boot }) t else t) s

/-! ### YIELD (R209, R233, R253) -/

/-- A holder names its successor, on the links and on the saddle links. -/
def sendYield (s : State) : State :=
  saddle (.yield s.lease.epoch s.pair.partnerId)
    (leaseFrame 0x15 s.lease.epoch 0 (leBytes 8 Config.selfId.toNat ++ leBytes 8 s.pair.partnerId.toNat) s)

/-- The claim of a session of this module lapses when the module gives up the lease (R225). -/
def lapseOwn (held : Bool) (s : State) : State :=
  match s.ses.claim with
  | some c => if held && c.slot == s.pair.slot then endClaim 2 s else s
  | none => s

/-! ### The controlled stop (R421) -/

/-- Step 4: time base, operating time and running terrace go to the storage die. -/
def saveAtStop (s : State) : State :=
  persist (.terrace s.img.runTerr) .none (persist (.opTime s.tel.opTime) .none (persist (.savedTime s.tb.now) .none
    { s with mem := { s.mem with terrDue := none } }))

/-- The controlled stop, from the bus at 22 V or from STOP: the module leaves RUN; a holder names a STANDBY partner as its successor; the
islands go to their safe states and lose their power; what R421 names is saved; the module is STOPPED, and 0x7004 is the last record. -/
def controlledStop (cause se : Nat) (s : State) : State :=
  if s.mod.st == .off || s.mod.st == .stopped then s
  else
    let yields := holds s && partnerStandby s
    let s1 := leaveRun (noticeAll 4 s)
    let s2 := endLease (if yields then 1 else 3) (if yields then sendYield s1 else s1)
    let s3 := saveAtStop (powerOffIslands (safeAll (lapseOwn (holds s) s2)))
    let s4 := enterState .stopped cause se { s3 with pwr := { s3.pwr with stopping := true } }
    logEv 0x7004 false [(2, s.pwr.bus), (1, bitNat yields)] s4

/-! ### What a start loses (R6, R50, R465, R469) -/

/-- The idle terrace after a restart (R50): an image that was complete in its slot is VERIFIED again, anything else is gone. A slot whose
writing was cut off stays INVALID (R45). -/
def idleAfter (s : State) : State :=
  let x := s.img.slots[idleSlot s]
  if x.st == .valid then
    { s with img := { s.img with
        idle := .verified, load := x.bytes, total := x.bytes.length, idleImg := some (readImage x.bytes)
        forward := ⟨[], []⟩, reverse := ⟨[], []⟩, loadDone := false } }
  else setSlot (idleSlot s) x (discardIdle .empty s)

/-- The terrace that the storage die records last; terrace 0 where it records none (R164). -/
def recordedTerrace (s : State) : Bool :=
  let written := s.mem.writes.filterMap (fun w => match w.value with | .terrace t => some t | _ => none)
  match written.getLast?, stored s 5 with
  | some t, _ => t
  | none, some (.terrace t) => t
  | _, _ => false

/-- What the image controller keeps over a warm start: everything but commands in progress and what it knew of the partner; a FAILED idle
terrace stays FAILED. -/
def warmImg (s : State) : State :=
  let s1 := if s.img.idle == .failed then s else idleAfter s
  { s1 with img := { s1.img with cmd := none, partnerIdle := 0xF, partnerRunId := none, partnerIdleId := 0, armOrdered := false, loadedHere := false } }

/-- After a cold start no image runs until CONFIG has verified one. -/
def coldImg (s : State) : State :=
  let s1 := idleAfter { s with img := { s.img with runTerr := recordedTerrace s }, mem := { s.mem with terrDue := none } }
  { s1 with img := { s1.img with
      run := none, runBytes := [], cmd := none, partnerIdle := 0xF, partnerRunId := none, partnerIdleId := 0, armOrdered := false
      errSource := 0, errSect := 0xFF, errCode := 0, errLoc := 0 } }

/-- Islands and channels after a cold start: what the islands themselves hold once they have lost their power. -/
def coldIo (io : Io) : Io :=
  { own := io.own, sup := io.sup, chan := updAll io.chan (fun _ c => { islStatus := c.islStatus }) }

/-- What the hub keeps of the islands over a warm start: no commands, no statistics. -/
def warmIo (io : Io) : Io :=
  { io with
    acc := Vector.replicate 24 {}, lat := Vector.replicate 24 {}, waiting := []
    isl := updAll io.isl (fun _ i => { i with cmd := none, vb := 0, lplus := 0, temp := 0, missed := 0 })
    chan := updAll io.chan (fun _ c => { c with cmd := none })
    ai := updAll io.ai (fun _ a => { a with done := 0, drop := 0, doneLat := 0, dropLat := 0, urgCore := none, urgOwn := none })
    ao := updAll io.ao (fun _ a => { a with enter := 0, enterLat := 0, loss := 0, lossLat := 0 }) }

/-- Links, stations, CAN ports, mirroring, tasks, lanes: what every start begins anew. A link port that is up stays up. -/
def startAnew (s : State) : State :=
  { s with
    tsk := {}, laneA := {}, laneB := {}, tbAcc := {}, tbLat := {}, mir := {}, can := Vector.replicate 4 {}
    lsk := { commission := s.lsk.commission, fault := s.lsk.fault }
    links := updAll s.links (fun _ k => { up := k.up })
    pair := { up := s.pair.up, lastMsg := s.pair.lastMsg, contact := s.pair.contact, slot := s.pair.slot, seqOut := s.pair.seqOut
              nextId := s.pair.nextId }
    ses := { tab := s.ses.tab, enrol := s.ses.enrol, enrolKeyed := s.ses.enrolKeyed, debug := s.ses.debug, debugErr := s.ses.debugErr }
    tb := { now := s.tb.now, frac := s.tb.frac, tempCor := s.tb.tempCor, source := s.tb.source, lastMap := s.tb.lastMap }
    lcd := { band := s.lcd.band, pendBand := s.lcd.pendBand, lastActivity := s.tb.now, frameAt := s.lcd.frameAt }
    evr := { s.evr with acc := {}, lat := {}, closed := false, ready := false }
    tel := { s.tel with
      core := 1700, marginLow := false, periodMargin := 1000, periodTask := 0xFF, quiet := 0, margin := 0x03E800FF, pin := 0
      temps := Vector.replicate 12 0, rails := Vector.replicate 10 0, guarantee := 0, acc := {}, lat := {} }
    pwr := { s.pwr with inA := 0, inB := 0, bus := 0, aOk := false, bOk := false, capSeen := false, stopping := false, low := false, recoveredAt := none }
    mod := { s.mod with
      joinWait := none, joinAt := none, joinBegan := none, joinGranules := 0, joinFetched := false, fetching := false, idleFetch := false, after := none
      railHit := false, fwLoad := [], fwDone := false, fwAlt := if s.mod.fwAlt.st = 3 then { s.mod.fwAlt with st := 2 } else s.mod.fwAlt } }

/-- Kept by a warm start: memory, forces, the epoch, the islands and what R469 names. -/
def warmLoss (s : State) : State :=
  let s1 := warmImg (startAnew s)
  { s1 with
    tb := { s1.tb with source := 3, ptpOfs := s.tb.ptpOfs }
    frc := { table := s.frc.table }, lease := { epoch := s.lease.epoch }, io := warmIo s.io }

/-- Lost at a cold start: the content of the memory, forces, commissioning mode, the fault registers, the islands' configuration. -/
def coldLoss (s : State) : State :=
  let s1 := coldImg (startAnew (powerOffIslands s))
  { s1 with
    frc := {}, lease := {}, io := coldIo s1.io, lsk := {}, mem := { s1.mem with cells := [], poisoned := [] }
    lcd := { s1.lcd with band := 1, pendBand := 1 }, tb := { s1.tb with tempCor := 0 }, ses := { s1.ses with debug := none, debugErr := false }
    tel := { s1.tel with ceilHold := false, env := updAll s1.tel.env (fun _ e => { e with active := false }) }
    pwr := { s1.pwr with
      holdupLow := false, warn := false, goodSince := none, aLost := false, bLost := false, aSince := none, bSince := none, belowSince := none
      recharging := false } }

/-! ### Entry into BOOT (R464) -/

/-- The capacitance of the bus as it is measured at every cold start (R418). -/
def takeCapacitance (c : Nat) (s : State) : State :=
  let s1 := { s with pwr := { s.pwr with cap := c, capSeen := true, holdupLow := decide (c < 400) } }
  if c < 400 then logEv 0x7030 true [(2, c)] s1 else s1

/-- The power-cycle count of a cold start, raised before its first record (R424). -/
def raiseCycles (s : State) : State :=
  let n : W32 := s.tel.powerCycles + 1
  persist (.powerCycles n) .none { s with tel := { s.tel with powerCycles := n } }

/-- BOOT is entered: `cause` and `se` go into its record, `bootCause` into MOD_STATE (R476, R478). -/
def enterBoot (warm : Bool) (bootCause cause se : Nat) (s : State) : State :=
  let s1 := if warm then warmLoss s else raiseCycles (coldLoss s)
  enterState .boot cause se { s1 with mod := { s1.mod with
    bootCause := bootCause, warmStart := warm, startBegin := if bootCause = 0 ∨ bootCause = 3 then s.mod.startBegin else s.tb.now } }

/-- A restart by command (R471): the sessions close (R410), the lease ends, the module leaves RUN. -/
def restart (warm : Bool) (se : Nat) (s : State) : State :=
  let s1 := lapseOwn (holds s) (endLease 3 (closeAll 7 (leaveRun s)))
  let s2 := enterBoot warm (if warm then 1 else 2) (if warm then 1 else 2) se s1
  if warm then s2 else takeCapacitance s2.pwr.cap s2

/-- A warm start whose image does not match its slot goes on as a cold one (R469). -/
def madeCold (s : State) : State :=
  let s1 := raiseCycles (coldLoss s)
  takeCapacitance s1.pwr.cap { s1 with mod := { s1.mod with bootCause := 4, warmStart := false } }

/-! ### OFF (R414, R421, R423) -/

/-- Every rail but the PL domain and the meadow is switched off: the module is OFF. The memory loses its content; the meadow is frozen
with PWR on (18 R459); writes in progress are lost. `recovery` says that the inputs have recovered while STOPPED. -/
def powerOff (recovery : Bool) (s : State) : State :=
  let s2 := enterState .off 0 0xFF (powerOffIslands (leaveRun s))
  { s2 with
    mem := { s2.mem with cells := [], writes := [], items := match s2.mem.writes with
      | w :: _ => upd s2.mem.items w.value.item (fun cs => tornCopy cs w.value)
      | [] => s2.mem.items }
    ses := {}
    links := Vector.replicate 24 {}, pair := { contact := s.pair.contact, slot := s.pair.slot, nextId := s.pair.nextId }
    evr := { s2.evr with queue := [], writing := none, ready := false, openRec := s2.evr.openRec || s2.evr.writing.isSome, buckets := [] }
    lcd := { s2.lcd with frozen := some (BitVec.ofNat 8 (meadow s) ||| 0x80) }
    mod := { s2.mod with bootCause := if recovery then 3 else 0 }
    pwr := { s2.pwr with railNext := none, railTries := 0, testing := none } }

end Sys2Proof.Machine
end

