-- ==== Sys2Proof/Machine/Power.lean ====
section
/-!
DEFINITION. Power supervision (16): inputs, rails, the hold-up bus, dips, the margin-tracking supply, telemetry. Voltages of inputs and bus
are in 10 mV.
-/

namespace Sys2Proof.Machine

def onPwr (f : Pwr → Pwr) (s : State) : State := { s with pwr := f s.pwr }

/-- The PL domain of the module has power and the module is not OFF. -/
def isOn (s : State) : Bool := s.mod.st != .off

/-! ### Inputs (R413, R419, R420) -/

/-- The qualification of the loss of an input, or of its return. -/
def inputSince (lost : Bool) (mine other : Nat) (old : Option Nat) (now : Nat) : Option Nat :=
  heldSince (if lost then decide (1950 < mine) else decide (mine < 1850) && decide (1950 < other)) old now

/-- A test of the hold-up bus ends with a result (R418). -/
def endTest (r : W32) (s : State) : State :=
  match s.pwr.testing with
  | none => s
  | some a =>
    let s1 := onPwr (fun p => { p with testing := none }) s
    match a with
    | some se => setRes se .pwr r s1
    | none => s1

/-- The supply warning (R419): WARN, trigger 7, 0x7001; the boost stops drawing from the inputs (R416). A switch search ends (06 R165). -/
def supplyWarning (s : State) : State :=
  let p := s.pwr
  let arg := bitNat (decide (p.inA < 1850)) + 2 * bitNat (decide (p.inB < 1850))
  let s1 := onPwr (fun x => { x with
    warn := true, dipStart := s.tb.now, dipMinBus := p.bus, dipMinIn := max p.inA p.inB, goodSince := none, boost := false
    recharging := false }) (endTest 7 s)
  let s2 := match s1.tsk.switch with
    | some q => if q.phase == .window then s1 else releaseHolds (endChange 4 s1)
    | none => s1
  let s3 := triggerMatch 7 0 0 s.tb.now (BitVec.ofNat 32 arg) (BitVec.ofNat 32 (p.bus * 10)) s2
  logEv 0x7001 true [(1, arg), (2, p.inA), (2, p.inB), (2, p.bus)] s3

/-- What a measurement of the inputs and the bus makes of the levels of R413 and of conditions 2 and 3 of R428. -/
def judgeInputs (inA inB bus : Nat) (s : State) : State :=
  let now := s.tb.now
  let high := max inA inB
  let s1 := onPwr (fun p => { p with
    inA := inA, inB := inB, bus := bus, aOk := decide (1950 < inA), bOk := decide (1950 < inB)
    aSince := inputSince p.aLost inA inB p.aSince now, bSince := inputSince p.bLost inB inA p.bSince now
    dipMinBus := if p.warn then min p.dipMinBus bus else p.dipMinBus, dipMinIn := if p.warn then min p.dipMinIn high else p.dipMinIn
    goodSince := if p.warn then heldSince (decide (1950 < high)) p.goodSince now else none
    belowSince := heldSince (decide (1850 ≤ high) && decide (high < 1920)) p.belowSince now }) s
  let s2 := envJudge 2 (decide (3000 < inA) || decide (3000 < inB)) (decide (inA < 2950) && decide (inB < 2950)) high s1
  let s3 := envJudge 3 (heldFor s2.pwr.belowSince (10 * ms) now) (decide (1950 < high)) high s2
  if high < 1850 && !s.pwr.warn then supplyWarning s3 else s3

/-- SUPPLY_INPUT_MEASUREMENT: every 10 µs. In OFF no level has an effect. -/
def supplyInputMeasurement (inA inB bus : Nat) (s : State) : State :=
  if isOn s then judgeInputs inA inB bus s else if s.pwr.powered then onPwr (fun p => { p with inA := inA, inB := inB, bus := bus }) s else s

/-- SUPPLY_INPUT_MEASUREMENT (R98, R413, R416, R418 to R420, R428). -/
def execSupplyInputMeasurement (inA inB bus : Nat) (s : State) : Host.Outcome State Fault Refusal := .next (supplyInputMeasurement inA inB bus s)

/-- The power-fail task has been released since the warning. -/
def pfReleased (s : State) : Bool :=
  match (settings s).pwr.pfTask with
  | some t => let r := s.tsk.rt[t]; (!r.first || r.cur.isSome) && decide (s.pwr.dipStart ≤ r.lastRel)
  | none => false

/-- SUPPLY_RECOVERY: 1 ms above 19.5 V ends the warning; the boost reconnects and recharges the bus. A dip that did not reach 22 V is counted
and recorded; one that did has stopped the module, which waits 100 ms (R421). -/
def supplyRecovery (s : State) : State :=
  let p := s.pwr
  if !p.warn || !isOn s || !heldFor p.goodSince ms s.tb.now then s
  else
    let s1 := onPwr (fun x => { x with warn := false, goodSince := none, boost := true, recharging := decide (x.bus < 4000) }) s
    if p.low then onPwr (fun x => { x with recoveredAt := some s.tb.now }) s1
    else
      let d := min max32 ((s.tb.now - p.dipStart) / us)
      let s2 := { s1 with tel := { s1.tel with acc := { s1.tel.acc with
        dip := satSucc max32 s1.tel.acc.dip, dipMax := max s1.tel.acc.dipMax d } } }
      logEv 0x7002 false [(4, d), (2, p.dipMinBus), (2, p.dipMinIn), (1, bitNat (pfReleased s))] s2

/-- SUPPLY_RECOVERY (R413, R417, R420). -/
def execSupplyRecovery (s : State) : Host.Outcome State Fault Refusal := .next (supplyRecovery s)

/-- INPUT_LOSS_TIMEOUT, for input B or A: 10 ms below 18.5 V while the other stays above 19.5 V. -/
def inputLossTimeout (b : Bool) (s : State) : State :=
  let p := s.pwr
  let lost := if b then p.bLost else p.aLost
  if lost || !isOn s || !heldFor (if b then p.bSince else p.aSince) (10 * ms) s.tb.now then s
  else
    logEv 0x7003 (settings s).pwr.bothInputs [(1, bitNat b), (1, 1), (2, if b then p.inB else p.inA)]
      (onPwr (fun x => if b then { x with bLost := true, bSince := none } else { x with aLost := true, aSince := none }) s)

/-- INPUT_LOSS_TIMEOUT (R413). -/
def execInputLossTimeout (b : Bool) (s : State) : Host.Outcome State Fault Refusal := .next (inputLossTimeout b s)

/-- INPUT_RESTORE_TIMEOUT: a lost input above 19.5 V for 10 ms. -/
def inputRestoreTimeout (b : Bool) (s : State) : State :=
  let p := s.pwr
  let lost := if b then p.bLost else p.aLost
  if !lost || !isOn s || !heldFor (if b then p.bSince else p.aSince) (10 * ms) s.tb.now then s
  else
    logEv 0x7003 false [(1, bitNat b), (1, 0), (2, if b then p.inB else p.inA)]
      (onPwr (fun x => if b then { x with bLost := false, bSince := none } else { x with aLost := false, aSince := none }) s)

/-- INPUT_RESTORE_TIMEOUT (R413). -/
def execInputRestoreTimeout (b : Bool) (s : State) : Host.Outcome State Fault Refusal := .next (inputRestoreTimeout b s)

/-! ### Rails (R414, R415) -/

/-- The time of a rail in ns. -/
def railTime (rail : Fin 7) : Nat :=
  if rail = 0 then 300 * ms else if rail = 1 ∨ rail = 6 then 5 * ms else 2 * ms

/-- The sequence begins with the hold-up bus. -/
def beginRails (s : State) : State := onPwr (fun p => { p with powered := true, boost := true, railNext := some 0, railSince := s.tb.now }) s

/-- POWER_APPLIED: an input rises above 19.2 V on a module that is OFF and brings no rail up. At power-up the operating time resumes from the
last value written (R424). -/
def powerApplied (inA inB : Nat) (s : State) : State :=
  if isOn s || s.pwr.railNext.isSome || (s.pwr.railTries != 0 && s.pwr.railTries < 3) || max inA inB ≤ 1920 then s
  else
    let t := match stored s 3 with | some (.opTime t) => t | _ => 0
    beginRails { s with
      pwr := { s.pwr with inA := inA, inB := inB, railTries := 0 }, tel := { s.tel with opTime := t, opFrac := 0, opSaved := t }
      mod := { s.mod with startBegin := s.tb.now } }

/-- POWER_APPLIED (R414, R424, R465). -/
def execPowerApplied (inA inB : Nat) (s : State) : Host.Outcome State Fault Refusal := .next (powerApplied inA inB s)

/-- What the persistent-state store gives a module at power-up (R24, R25, R442). -/
def restoreStore (s : State) : State :=
  { s with
    img := { s.img with
      keys := match stored s 1 with
        | some (.keyTable ks _) => Vector.ofFn (fun (k : Fin 8) => ks.getD k.val .empty)
        | _ => Vector.replicate 8 .empty
      revoked := match stored s 1 with | some (.keyTable _ r) => r | _ => []
      runTerr := match stored s 5 with | some (.terrace t) => t | _ => false }
    tel := { s.tel with
      powerCycles := match stored s 4 with | some (.powerCycles n) => n | _ => 0
      env := match stored s 8 with
        | some (.env es) => Vector.ofFn (fun (k : Fin 8) => { entries := es.getD k.val 0 })
        | _ => Vector.replicate 8 {} }
    evr := { s.evr with rates := match stored s 7 with
      | some (.rates rs) => Vector.ofFn (fun (k : Fin 16) => rs.getD k.val {})
      | _ => Vector.replicate 16 {} } }

/-- Every rail is good: BOOT. A failure that the latch keeps from an earlier power-up is recorded. -/
def railsGood (s : State) : State :=
  let s1 := enterBoot false s.mod.bootCause 0 0xFF (restoreStore { s with lcd := { s.lcd with frozen := none } })
  let s2 := takeCapacitance s.pwr.cap (onPwr (fun p => { p with
    railNext := none, railTries := 0, railFault := none, warn := false, low := false, recharging := false, boost := true }) s1)
  match s.pwr.railFault with
  | some r => logEv 0x7005 false [(1, r.val), (1, 3)] s2
  | none => s2

/-- RAIL_POWER_GOOD: the next rail of the order, or after the last one BOOT. The charge curve of the bus gives its capacitance (R418). -/
def railPowerGood (rail : Fin 7) (capacitance : Nat) (s : State) : State :=
  if isOn s || s.pwr.railNext != some rail then s
  else
    let s1 := if rail = 0 then onPwr (fun p => { p with cap := capacitance, bus := 4000 }) s else s
    if rail = 6 then railsGood s1 else onPwr (fun p => { p with railNext := some (rail + 1), railSince := s.tb.now }) s1

/-- RAIL_POWER_GOOD (R414, R418, R464). -/
def execRailPowerGood (rail : Fin 7) (capacitance : Nat) (s : State) : Host.Outcome State Fault Refusal := .next (railPowerGood rail capacitance s)

/-- RAIL_SEQUENCE_TIMEOUT: every rail goes off again; after the third failure the power die keeps the failing rail's number. -/
def railSequenceTimeout (rail : Fin 7) (s : State) : State :=
  if isOn s || s.pwr.railNext != some rail || s.tb.now < s.pwr.railSince + railTime rail then s
  else onPwr (fun p => { p with
    railNext := none, railTries := p.railTries + 1, railSince := s.tb.now
    railFault := if 3 ≤ p.railTries + 1 then some rail else p.railFault }) s

/-- RAIL_SEQUENCE_TIMEOUT (R414). -/
def execRailSequenceTimeout (rail : Fin 7) (s : State) : Host.Outcome State Fault Refusal := .next (railSequenceTimeout rail s)

/-- RAIL_SEQUENCE_RETRY: 1 s after a failed attempt, up to three attempts. -/
def railSequenceRetry (s : State) : State :=
  if isOn s || s.pwr.railNext.isSome || s.pwr.railTries = 0 || 3 ≤ s.pwr.railTries || s.tb.now < s.pwr.railSince + sec then s else beginRails s

/-- RAIL_SEQUENCE_RETRY (R414). -/
def execRailSequenceRetry (s : State) : Host.Outcome State Fault Refusal := .next (railSequenceRetry s)

/-- RAIL_FAULT: steps 1 to 4 of R186 in the states that R464 names; 0x7006. Found at the instant of a fault of R184, it is recorded beside
that fault (R185). -/
def railFault (rail : Fin 7) (mV : Nat) (s : State) : State :=
  if !isOn s || (s.mod.st == .failed && !(s.lsk.stopped && s.mod.enteredAt == s.tb.now && !s.mod.railHit)) then s
  else
    let s1 := if s.mod.st == .boot || s.mod.st == .stopped || s.mod.st == .failed then s
      else failSteps { s with mod := { s.mod with failCode := 0x7006 } }
    logEv 0x7006 true [(1, rail.val), (2, mV)] { s1 with mod := { s1.mod with railHit := s1.mod.st == .failed } }

/-- RAIL_FAULT (R185, R186, R415, R464). -/
def execRailFault (rail : Fin 7) (mV : Nat) (s : State) : Host.Outcome State Fault Refusal := .next (railFault rail mV s)

/-! ### The hold-up bus (R416 to R418, R421 to R423) -/

/-- HOLDUP_STOP_LEVEL: the bus falls below 22 V. -/
def holdupStopLevel (s : State) : State :=
  if !isOn s || s.pwr.low then s
  else controlledStop 0 0xFF (onPwr (fun p => { p with bus := 2200, low := true, dipMinBus := min p.dipMinBus 2200 }) s)

/-- HOLDUP_STOP_LEVEL (R421, R464). -/
def execHoldupStopLevel (s : State) : Host.Outcome State Fault Refusal := .next (holdupStopLevel s)

/-- HOLDUP_RECORDER_CLOSE_LEVEL: below 21 V no new record begins; queued records are lost, except the 0x7004 of the controlled stop (17
R446). -/
def execHoldupRecorderCloseLevel (s : State) : Host.Outcome State Fault Refusal :=
  .next (if isOn s then { s with pwr := { s.pwr with bus := 2100 }, evr := { s.evr with closed := true, queue := s.evr.queue.filter (fun e => e.code == 0x7004) } } else s)

/-- HOLDUP_RESET_LEVEL: below 20 V the module is OFF. -/
def execHoldupResetLevel (s : State) : Host.Outcome State Fault Refusal :=
  .next (if isOn s then powerOff false (onPwr (fun p => { p with bus := 2000 }) s) else s)

/-- HOLDUP_PANEL_END: below 8 V the meadow and the PL domain stop. -/
def execHoldupPanelEnd (s : State) : Host.Outcome State Fault Refusal :=
  .next (if isOn s || s.pwr.railNext.isSome then s
    else { s with pwr := { s.pwr with bus := 800, powered := false }, lcd := { s.lcd with frozen := none } })

/-- HOLDUP_RECHARGED: the bus is back at 40 V. -/
def execHoldupRecharged (s : State) : Host.Outcome State Fault Refusal :=
  .next (if s.pwr.recharging && !s.pwr.warn then onPwr (fun p => { p with recharging := false, bus := 4000 }) s else s)

/-- STOPPED_RECOVERY_TIMEOUT: 100 ms after the inputs recovered, a module that the bus had stopped resets and starts as after power-up. -/
def stoppedRecoveryTimeout (s : State) : State :=
  if s.mod.st != .stopped || !s.pwr.low || !heldFor s.pwr.recoveredAt (100 * ms) s.tb.now then s
  else powerApplied s.pwr.inA s.pwr.inB (powerOff true s)

/-- STOPPED_RECOVERY_TIMEOUT (R421, R464). -/
def execStoppedRecoveryTimeout (s : State) : Host.Outcome State Fault Refusal := .next (stoppedRecoveryTimeout s)

/-- HOLDUP_TEST: in RUN, with the bus at 40 V and no warning; the boost is disconnected for 2 ms. -/
def holdupTest (q : Req) (s : State) : State :=
  if s.pwr.testing.isSome then answer q.asker .pwr 2 s
  else if !inRun s || s.pwr.warn || s.pwr.recharging || s.pwr.bus < 4000 then answer q.asker .pwr 4 s
  else answer q.asker .pwr 1 (onPwr (fun p => { p with testing := some (some q.se), testSince := s.tb.now, boost := false }) s)

/-- HOLDUP_TEST (R418). -/
def execHoldupTest (se : Fin 64) (s : State) : Host.Outcome State Fault Refusal := .next (sessionCmd regPwr 0x03 se holdupTest s)

/-- HOLDUP_TEST_COMPLETE: after 2 ms the droop gives the capacitance; the boost reconnects. -/
def holdupTestComplete (capacitance : Nat) (s : State) : State :=
  if s.pwr.testing.isNone || s.tb.now < s.pwr.testSince + 2 * ms then s
  else onPwr (fun p => { p with boost := true }) (takeCapacitance capacitance (endTest 6 s))

/-- HOLDUP_TEST_COMPLETE (R418). -/
def execHoldupTestComplete (capacitance : Nat) (s : State) : Host.Outcome State Fault Refusal := .next (holdupTestComplete capacitance s)

/-! ### The margin-tracking supply (R81, R425, R426) -/

/-- CEILING_HOLD and TRACK. -/
def ceilingHold (on : Bool) (q : Req) (s : State) : State :=
  let s1 := { s with tel := { s.tel with ceilHold := on } }
  answer q.asker .pwr 6 (if on then raiseToCeiling s1 else s1)

/-- CEILING_HOLD (R425, R433). -/
def execCeilingHold (se : Fin 64) (s : State) : Host.Outcome State Fault Refusal := .next (sessionCmd regPwr 0x01 se (ceilingHold true) s)

/-- TRACK (R425, R433). -/
def execTrack (se : Fin 64) (s : State) : Host.Outcome State Fault Refusal := .next (sessionCmd regPwr 0x02 se (ceilingHold false) s)

/-- The lowest setpoint in units of 0.5 mV: the floor, and the guarantee voltage, which is at most 775 mV where it is not measured. -/
def lowestCore (s : State) : Nat := 2 * max (settings s).pwr.floor (if s.tel.guarantee = 0 then 775 else s.tel.guarantee)

/-- PWR_MARGIN: the lowest margin of the period, held to 16 bits, and its task. -/
def marginReg (t : Tel) : W32 := BitVec.ofNat 32 (signedField 2 (max (-32768) t.periodMargin) * 65536 + t.periodTask)

/-- MARGIN_CONTROL_PERIOD: after 10 quiet periods of 1 ms the setpoint is lowered by 2.5 mV; outside RUN and under CEILING_HOLD it stays at the
ceiling. A period in which a completion had less than T + 100 has reset the count. -/
def marginControlPeriod (s : State) : State :=
  if !isOn s || s.tb.now < s.tel.ctlAt then s
  else
    let hold := !inRun s || s.tel.ceilHold
    let shown := marginReg s.tel
    let t := { s.tel with periodMargin := 1000, periodTask := 0xFF, margin := shown, ctlAt := s.tb.now + ms }
    let target : Int := (settings s).pwr.target
    let good := s.tel.periodTask == 0xFF || decide (target + 100 ≤ s.tel.periodMargin)
    let quiet := if good then s.tel.quiet + 1 else 0
    if hold then { s with tel := noteCore { t with core := 2 * ceiling s, quiet := 0 } }
    else if 10 ≤ quiet then { s with tel := noteCore { t with core := max (lowestCore s) (t.core - 5), quiet := 0 } }
    else { s with tel := noteCore { t with quiet := quiet } }

/-- MARGIN_CONTROL_PERIOD (R81, R425). -/
def execMarginControlPeriod (s : State) : Host.Outcome State Fault Refusal := .next (marginControlPeriod s)

/-- MARGINLOW_CLEAR_TIMEOUT: 1 s without a low completion at the ceiling. Which task and margin the record of the clearing names is not stated. -/
def marginlowClearTimeout (s : State) : State :=
  if !s.tel.marginLow || s.tb.now < s.tel.lowSince + sec then s
  else
    let (v, s1) := freeValue 24 s
    logEv 0x7010 false [(1, 0), (3, v.toNat)] { s1 with tel := { s1.tel with marginLow := false } }

/-- MARGINLOW_CLEAR_TIMEOUT (R426). -/
def execMarginlowClearTimeout (s : State) : Host.Outcome State Fault Refusal := .next (marginlowClearTimeout s)

/-! ### Telemetry (R427, R428, 18 R451) -/

/-- The guarantee voltage in mV at an interface temperature in 0.01 °C, between the rows of R81, rounded up. -/
def guaranteeAt (t : Int) : Nat :=
  let line := fun (t0 t1 : Int) (v0 v1 : Int) => ((v0 * (t1 - t0) + (t - t0) * (v1 - v0) + (t1 - t0) - 1) / (t1 - t0)).toNat
  if t ≤ -4000 then 720
  else if t ≤ 2500 then line (-4000) 2500 720 735
  else if t ≤ 8500 then line 2500 8500 735 755
  else if t ≤ 12500 then line 8500 12500 755 775
  else 775

/-- The band of the panel's drive voltage (18 R451), with 3 °C of hysteresis on the way back. -/
def panelBand (old : Fin 4) (t : Int) : Fin 4 :=
  let above := fun (k : Fin 4) (level : Int) => decide (level - (if k ≤ old then 300 else 0) < t)
  if above 3 8000 then 3 else if above 2 3000 then 2 else if above 1 (-1000) then 1 else 0

/-- A vector filled from a list. -/
def fillVector {α : Type} {n : Nat} (v : Vector α n) (xs : List α) : Vector α n := updAll v (fun k x => xs.getD k.val x)

/-- The highest of the temperatures of sensors 1 to 8. -/
def dieMax (t : Tel) : Int := (((List.finRange 12).filter (fun k => 1 ≤ k.val && k.val ≤ 8)).map (fun k => t.temps[k].toInt)).foldl max (-32768)

/-- TELEMETRY_MEASUREMENT: the registers take the values; the setpoint is raised to a guarantee voltage that lies above it (R425); conditions 0,
1 and 6 are judged. -/
def telemetryMeasurement (temps : List (BitVec 16)) (rails : List Nat) (pin : Nat) (s : State) : State :=
  if !isOn s then s
  else
    let t1 := { s.tel with
      temps := fillVector s.tel.temps temps, rails := fillVector s.tel.rails rails, pin := pin
      acc := { s.tel.acc with pinMax := max s.tel.acc.pinMax (min max32 pin) } }
    let face := (t1.temps[(0 : Fin 12)]).toInt
    let die := dieMax t1
    let g := guaranteeAt face
    let t2 := { t1 with guarantee := g }
    let s1 := { s with
      tel := if t2.core < 2 * g then raiseCore (2 * g) t2 else t2, tb := { s.tb with oscTemp := t2.temps[(9 : Fin 12)] }, lcd := { s.lcd with pendBand := panelBand s.lcd.pendBand face } }
    let s2 := envJudge 0 (decide (12500 < face)) (decide (face < 12300)) (signedField 2 face) s1
    let s3 := envJudge 1 (decide (face < -4000)) (decide (-3800 < face)) (signedField 2 face) s2
    envJudge 6 (decide (15000 < die)) (decide (die < 14500)) (signedField 2 die) s3

/-- TELEMETRY_MEASUREMENT (R81, R425, R427, R428, R451). -/
def execTelemetryMeasurement (temps : List (BitVec 16)) (rails : List Nat) (pin : Nat) (chk : MemCheck) (s : State) :
    Host.Outcome State Fault Refusal := .next (afterCheck chk (telemetryMeasurement temps rails pin) s)

/-- OPERATING_TIME_SAVE: every 60 s. -/
def operatingTimeSave (s : State) : State :=
  if !isOn s || s.tel.opTime < s.tel.opSaved + 60000 then s
  else persist (.opTime s.tel.opTime) .none { s with tel := { s.tel with opSaved := s.tel.opTime } }

/-- OPERATING_TIME_SAVE (R424). -/
def execOperatingTimeSave (s : State) : Host.Outcome State Fault Refusal := .next (operatingTimeSave s)

end Sys2Proof.Machine
end

