-- ==== Sys2Proof/Machine/Sessions.lean ====
section
/-!
DEFINITION. Sessions (15): connections, OPEN and the two fixed roles, the end of a session, the enrolment window, the configuration
claim, SES_CMD, and the map barrier.
-/

namespace Sys2Proof.Machine

/-! ### Connections (R385, R388) -/

/-- A plant port serves Plateau: its entry in the running image is enabled (R385). Without a running image there is no entry to ask, and
both ports serve the fixed roles (R389). -/
def portServes (p : Fin 2) (s : State) : Bool :=
  s.img.run.isNone || (if p = 0 then (settings s).port0 else (settings s).port1).enabled

/-- TLS_HANDSHAKE_COMPLETE: the connection waits for OPEN; no port answers in OFF and BOOT. -/
def tlsHandshakeComplete (conn : Nat) (port : Fin 2) (ip : W32) (clientKey : W256) (s : State) : State :=
  if s.mod.st == .off || s.mod.st == .boot || !portServes port s then s
  else { s with ses := { s.ses with
    conns := s.ses.conns.filter (fun c => c.conn != conn) ++ [⟨conn, port, ip, clientKey, s.tb.now⟩] } }

/-- TLS_HANDSHAKE_COMPLETE (R385, R388). -/
def execTlsHandshakeComplete (conn : Nat) (port : Fin 2) (ip : W32) (clientKey : W256) (s : State) : Host.Outcome State Fault Refusal :=
  .next (tlsHandshakeComplete conn port ip clientKey s)

/-- The connection without its OPEN. -/
def dropConn (conn : Nat) (s : State) : State := { s with ses := { s.ses with conns := s.ses.conns.filter (fun c => c.conn != conn) } }

/-- OPEN_TIMEOUT: 5 s after the handshake without OPEN the connection is closed. -/
def openTimeout (conn : Nat) (s : State) : State :=
  match s.ses.conns.find? (fun c => c.conn == conn) with
  | some c => if c.since + 5 * sec ≤ s.tb.now then emit (.closeConn conn) (dropConn conn s) else s
  | none => s

/-- OPEN_TIMEOUT (R388). -/
def execOpenTimeout (conn : Nat) (s : State) : Host.Outcome State Fault Refusal := .next (openTimeout conn s)

/-! ### OPEN (R388, R389) -/

/-- What a role grants: its index, its masks, its classes. -/
structure Grant where
  index : Nat
  readMask : BitVec 16
  writeMask : BitVec 16
  classes : BitVec 14
  enrolment : Bool

/-- A role name padded to 16 bytes. -/
def padName (n : List Byte) : List Byte := (n ++ List.replicate 16 0).take 16

/-- Register classes by their bits. -/
def classMask (bits : List Nat) : BitVec 14 := BitVec.ofNat 14 (bitsOf 14 (fun b => bits.contains b))

/-- An enrolment credential: key slot 0xFF, while the window is open. -/
def isEnrolment (cred : List Byte) (s : State) : Bool := s.ses.enrol.isSome && credSlot cred == 0xFF

/-- The index and the entry of a role by its name. -/
def findRole (name : List Byte) (roles : List RoleEntry) : Option (Nat × RoleEntry) :=
  ((List.range roles.length).zip roles).find? (fun r => padName r.2.name == name)

/-- The role that a checked credential names, under the conditions of R389. -/
def roleOf (cred : List Byte) (s : State) : Option Grant :=
  if isEnrolment cred s then
    (if credRole cred == padName (ascii "ENROL") then some ⟨31, 1, 1, classMask [1, 2, 12], true⟩ else none)
  else
    match s.img.run with
    | some i => (findRole (credRole cred) i.roles).map (fun r => ⟨r.1, r.2.readMask, r.2.writeMask, r.2.classes, false⟩)
    | none => if credRole cred == padName (ascii "SERVICE") then some ⟨31, 1, 1, classMask [1, 2, 8, 11, 12], false⟩ else none

/-- The number that a session receives: the lowest free one to 62; 63 for a role with the maintenance colour once those are open. -/
def freeNumber (g : Grant) (s : State) : Option (Fin 64) :=
  match (List.finRange 64).find? (fun n => decide (n.val < 63) && s.ses.tab[n].st == .free) with
  | some n => some n
  | none => if g.writeMask.getLsbD 0 && s.ses.tab[(63 : Fin 64)].st == .free then some 63 else none

/-- The cause of a refusal, or the grant and the number. -/
def openVerdict (c : Conn) (cred : List Byte) (s : State) : Nat ⊕ (Grant × Fin 64) :=
  match credCause 1 (isEnrolment cred s) cred c.clientKey s with
  | some cause => .inl cause
  | none =>
    match roleOf cred s with
    | none => .inl 7
    | some g =>
      match freeNumber g s with
      | none => .inl 8
      | some n => .inr (g, n)

/-- A refused OPEN: answered AUTH or FULL, recorded, the connection closed. -/
def refuseOpen (c : Conn) (tag : W32) (cause : Nat) (s : State) : State :=
  let s1 := emit (.closeConn c.conn) (emit (.reply c.conn 0x0001 tag (if cause = 8 then 9 else 8) []) (dropConn c.conn s))
  logEv 0x6003 false [(1, c.port.val), (1, cause), (4, c.ip.toNat)]
    { s1 with ses := { s1.ses with acc := { s1.ses.acc with refuse := satSucc max32 s1.ses.acc.refuse } } }

/-- The reply to an accepted OPEN (R391). -/
def openBody (n : Fin 64) (g : Grant) : List Byte :=
  leBytes 1 n.val ++ leBytes 1 g.index ++ leBytes 2 0 ++ leBytes 2 g.readMask.toNat ++ leBytes 2 g.writeMask.toNat ++ leBytes 4 g.classes.toNat

/-- A session opens: every session-local field at its reset value (R6), its captures as the registers stand (R484). -/
def acceptOpen (c : Conn) (tag : W32) (g : Grant) (n : Fin 64) (s : State) : State :=
  let x : Sess := { st := .open_, conn := c.conn, role := g.index, readMask := g.readMask, writeMask := g.writeMask, classes := g.classes
                    enrolment := g.enrolment, port := c.port, ip := c.ip, lastMsg := s.tb.now }
  let s1 := onSess n (fun _ => x) (dropConn c.conn s)
  let s2 := onSess n (fun y => { y with caps := openCaps s1 n }) s1
  let s3 := { s2 with ses := { s2.ses with acc := { s2.ses.acc with open_ := satSucc max32 s2.ses.acc.open_ } } }
  reply n 0x0001 tag 0 (openBody n g) (logSes 0x6001 false n [(1, n.val), (1, c.port.val), (4, c.ip.toNat), (1, g.index)] s3)

/-- OPEN on a connection that waits for it; more than 5 s after the handshake the connection is closed instead (R388). -/
def openService (conn : Nat) (tag : W32) (cred : List Byte) (s : State) : State :=
  match s.ses.conns.find? (fun c => c.conn == conn) with
  | none => s
  | some c =>
    if c.since + 5 * sec < s.tb.now then emit (.closeConn conn) (dropConn conn s)
    else match openVerdict c cred s with
    | .inl cause => refuseOpen c tag cause s
    | .inr (g, n) => acceptOpen c tag g n s

/-- OPEN (R6, R387 to R389, R391, R392, R410). -/
def execOpen (conn : Nat) (tag : W32) (cred : List Byte) (s : State) : Host.Outcome State Fault Refusal := .next (openService conn tag cred s)

/-! ### The end of a session (R393) -/

/-- CLOSE (R391, R393). -/
def execClose (se : Fin 64) (tag : W32) (s : State) : Host.Outcome State Fault Refusal :=
  .next (if !sesOpen s se then s
    else if tooMany s se then reply se 0x0002 tag 7 [] (heard se s)
    else closeSession 0 se (reply se 0x0002 tag 0 [] s))

/-- KEEPALIVE (R391, R393). -/
def execKeepalive (se : Fin 64) (tag : W32) (s : State) : Host.Outcome State Fault Refusal :=
  .next (if !sesOpen s se then s else reply se 0x0003 tag (if tooMany s se then 7 else 0) [] (heard se s))

/-- SESSION_IDLE_TIMEOUT: 20 s without a message (R393). -/
def execSessionIdleTimeout (se : Fin 64) (s : State) : Host.Outcome State Fault Refusal :=
  .next (if sesOpen s se && decide (s.ses.tab[se].lastMsg + 20 * sec ≤ s.tb.now) then closeSession 1 se s else s)

/-- TLS_ALERT (R393). -/
def execTlsAlert (se : Fin 64) (s : State) : Host.Outcome State Fault Refusal := .next (closeSession 3 se s)

/-! ### The enrolment window (R389) -/

/-- The window closes with a cause of record 0x6004. -/
def closeEnrolment (cause : Nat) (s : State) : State :=
  if s.ses.enrol.isNone then s
  else showModule (logEv 0x6004 false [(1, 0), (1, cause)] { s with ses := { s.ses with enrol := none } })

/-- ENROLMENT_WAKE_HOLD: every key slot is EMPTY, and no partner is in RUN. -/
def enrolmentWakeHold (s : State) : State :=
  let empty := s.img.keys.toList.all (fun k => k == .empty)
  if s.mod.st == .off || s.mod.st == .boot || !empty || partnerInRun s || s.ses.enrol.isSome then panelActive s
  else showModule (logEv 0x6004 false [(1, 1), (1, 0)] { panelActive s with ses := { s.ses with enrol := some s.tb.now } })

/-- ENROLMENT_WAKE_HOLD (R389, R455). -/
def execEnrolmentWakeHold (s : State) : Host.Outcome State Fault Refusal := .next (enrolmentWakeHold s)

/-- ENROLMENT_TIMEOUT: after 600 s (R389). -/
def execEnrolmentTimeout (s : State) : Host.Outcome State Fault Refusal :=
  .next (match s.ses.enrol with
    | some t => if t + 600 * sec ≤ s.tb.now then closeEnrolment 0 s else s
    | none => s)

/-- ENROLMENT_SESSION_CLOSE: 1 s after the first key became ACTIVE. -/
def enrolmentSessionClose (s : State) : State :=
  match s.ses.enrolKeyed with
  | some t =>
    if t + sec ≤ s.tb.now then
      overAll ((List.finRange 64).filter (fun n => sesOpen s n && s.ses.tab[n].enrolment)) (closeSession 8)
        { s with ses := { s.ses with enrolKeyed := none } }
    else s
  | none => s

/-- ENROLMENT_SESSION_CLOSE (R389). -/
def execEnrolmentSessionClose (s : State) : Host.Outcome State Fault Refusal := .next (enrolmentSessionClose s)

/-! ### The configuration claim (R398) -/

/-- SES_CLAIM ACQUIRE: granted or renewed for 60 s, unless another session of the pair holds the claim. -/
def acquire (q : Req) (s : State) : State :=
  let slot := askerSlot q.asker s
  let mine : ConfClaim := ⟨slot, q.se, s.tb.now + 60 * sec⟩
  match s.ses.claim with
  | none => answer q.asker .ses 1 (logSes 0x6020 false q.se [(1, q.se.val), (1, 0), (1, bitNat slot)] { s with ses := { s.ses with claim := some mine } })
  | some c =>
    if c.slot == slot && c.se == q.se then answer q.asker .ses 1 { s with ses := { s.ses with claim := some mine } }
    else answer q.asker .ses 2 s

/-- ACQUIRE (R397, R398, R410, R412). -/
def execAcquire (se : Fin 64) (s : State) : Host.Outcome State Fault Refusal := .next (sessionCmd regClaim 0x01 se acquire s)

/-- SES_CLAIM RELEASE, from the session that holds the claim. -/
def releaseClaim (q : Req) (s : State) : State :=
  if claimOf s (askerSlot q.asker s) q.se then answer q.asker .ses 1 (endClaim 1 s) else answer q.asker .ses 4 s

/-- RELEASE (R397, R398, R410, R412). -/
def execRelease (se : Fin 64) (s : State) : Host.Outcome State Fault Refusal := .next (sessionCmd regClaim 0x02 se releaseClaim s)

/-- CLAIM_LAPSE_TIMEOUT: 60 s after the last grant or renewal (R398). -/
def execClaimLapseTimeout (s : State) : Host.Outcome State Fault Refusal :=
  .next (match s.ses.claim with
    | some c => if c.until_ ≤ s.tb.now then endClaim 2 s else s
    | none => s)

/-- SES_CMD CLOSE: the session in SES_SESSEL. -/
def sesClose (q : Req) (s : State) : State :=
  if sesOpen s q.sel.sesSel then closeSession 5 q.sel.sesSel (answer q.asker .ses 6 s) else answer q.asker .ses 4 s

/-- SES_CLOSE (R393, R412). -/
def execSesClose (se : Fin 64) (s : State) : Host.Outcome State Fault Refusal := .next (sessionCmd regSes 0x01 se sesClose s)

/-- BREAK_CLAIM ends the one claim of the pair, which the lease holder keeps; a standby passes it on. -/
def regBreak : CmdReg := { regSes with byHolder := true }

/-- SES_CMD BREAK_CLAIM: the maintenance colour, and a claim of another session. -/
def breakClaim (q : Req) (s : State) : State :=
  if !q.maint then answer q.asker .ses 5 s
  else if s.ses.claim.isNone || claimOf s (askerSlot q.asker s) q.se then answer q.asker .ses 4 s
  else answer q.asker .ses 6 (endClaim 3 s)

/-- BREAK_CLAIM (R398, R410, R412). -/
def execBreakClaim (se : Fin 64) (s : State) : Host.Outcome State Fault Refusal := .next (sessionCmd regBreak 0x02 se breakClaim s)

/-! ### Violation state and map barrier (R407, R412) -/

/-- SES_VIOLCLR: bit 0 sets the violation registers to 0. -/
def violClr (value : W32) (se : Fin 64) (s : State) : State :=
  if value.getLsbD 0 then onSess se (fun x => { x with violCnt := 0, violAddr := 0, violInfo := 0 }) s else s

/-- SES_VIOLCLR (R405, R412). -/
def execSesViolclr (se : Fin 64) (value : W32) (s : State) : Host.Outcome State Fault Refusal :=
  .next (if sesOpen s se then violClr value se (noteWrite se none (heard se s)) else s)

/-- SES_MAPSYNC: bit 0 starts a barrier. -/
def mapsync (value : W32) (se : Fin 64) (s : State) : State :=
  if value.getLsbD 0 then onSess se (fun x => { x with mapsync := true }) s else s

/-- SES_MAPSYNC (R407, R412). -/
def execSesMapsync (se : Fin 64) (value : W32) (s : State) : Host.Outcome State Fault Refusal :=
  .next (if sesOpen s se then mapsync value se (noteWrite se none (heard se s)) else s)

/-- MAPSYNC_COMPLETE: the new drop masks hold, and SES_MAPSYNC reads 0. -/
def mapsyncComplete (se : Fin 64) (s : State) : State :=
  if sesOpen s se && s.ses.tab[se].mapsync then
    onSess se (fun x => { x with mapsync := false, rdDropUsed := x.rdDrop, wrDropUsed := x.wrDrop }) s
  else s

/-- MAPSYNC_COMPLETE (R402, R407). -/
def execMapsyncComplete (se : Fin 64) (s : State) : Host.Outcome State Fault Refusal := .next (mapsyncComplete se s)

end Sys2Proof.Machine
end

