-- ==== Sys2Proof/Machine/Vale.lean ====
section
/-!
DEFINITION. Vale links (09): the meanings of their commands.
-/

namespace Sys2Proof.Machine

/-- Raise the highest epoch that a station has stated in a frame on a link since the link came up (R212). -/
def seeEpoch (l : Fin 24) (e : W32) (s : State) : State :=
  { s with lease := { s.lease with seenEpoch := upd s.lease.seenEpoch l (fun x => if x < e then e else x) } }

/-- A link has come up: no epoch has been seen on it yet. -/
def forgetEpoch (l : Fin 24) (s : State) : State :=
  { s with lease := { s.lease with seenEpoch := upd s.lease.seenEpoch l (fun _ => 0) } }

/-- A valid frame of a station has arrived: counted, with the wire time of its payload and its Hops. -/
def heardFrame (l : Fin 24) (p : Fin 32) (payload : Nat) (hops : Byte) (s : State) : State :=
  onStn l p (fun k => { k with hops := hops })
    (onLink l (fun k =>
      let k1 := addWire false (wireNs payload) s.tb.now k
      { k1 with acc := { k1.acc with rx := satSucc max32 k1.acc.rx } }) s)

/-- A valid frame has arrived whose Hops the model is not given. -/
def heardReply (l : Fin 24) (payload : Nat) (s : State) : State :=
  onLink l (fun k =>
    let k1 := addWire false (wireNs payload) s.tb.now k
    { k1 with acc := { k1.acc with rx := satSucc max32 k1.acc.rx } }) s

/-! ### Samples -/

/-- The parts of a station with a new one; a part held already stays as it is. -/
def addPart (f : InputFrame) (parts : List InputFrame) : List InputFrame :=
  if parts.any (fun g => g.time == f.time && g.part == f.part) then parts else parts ++ [f]

/-- The sample that parts make (R245). -/
def sampleOf (e : StationEntry) (f : InputFrame) (parts : List InputFrame) : Sample :=
  ⟨f.link, f.pos, f.time, (List.range e.inCount).map (partRecord parts)⟩

/-- VALE_INPUT_RECEIVE: an invalid frame is counted (R241, R242); a valid part joins its sample, and the last one completes it (R246,
R247). -/
def valeInputReceive (f : InputFrame) (s : State) : State :=
  if !s.links[f.link].up || !(linkEntry s f.link).enabled then s
  else if !f.valid then onLink f.link (fun k => { k with acc := { k.acc with bad := satSucc max32 k.acc.bad } }) s
  else
    let s1 := seeEpoch f.link f.epoch (heardFrame f.link f.pos (16 * f.records.length) f.hops s)
    match stnEntry s f.link f.pos with
    | none => s1
    | some e =>
      let parts := addPart f s1.links[f.link].stns[f.pos].parts
      let mine := parts.filter (fun g => g.time == f.time)
      if partsComplete mine f.parts.val then
        takeSample (sampleOf e f mine)
          (onStn f.link f.pos (fun k => { k with parts := parts.filter (fun g => g.time != f.time) }) s1)
      else onStn f.link f.pos (fun k => { k with parts := parts }) s1

/-- VALE_INPUT_RECEIVE (R239, R241 to R247). -/
def execValeInputReceive (f : InputFrame) (s : State) : Host.Outcome State Fault Refusal := .next (valeInputReceive f s)

/-- RELAYED_SAMPLE_RECEIVE (R239): counts as received, unless this module already holds the sample. -/
def relayedSampleReceive (m : Sample) (s : State) : State :=
  onStn m.link m.pos (fun x => { x with relayedIn := true }) (keepSample m
    (onLink m.link (fun x => { x with acc := { x.acc with relay := satSucc max32 x.acc.relay } }) s))

/-- The counts after a sample is judged (R248). -/
def judgeSample (got : Bool) (k : Stn) : Stn :=
  if got then { k with missed := 0, good := k.good + 1 }
  else { k with missed := k.missed + 1, good := 0, acc := { k.acc with miss := satSucc max32 k.acc.miss } }

/-- This module judges a station: it decides, or no release notice carries a verdict on the station, because no enabled task reads it
(R266). -/
def judges (s : State) (e : StationEntry) : Bool :=
  valeDecides s || !(enabledTasks s).any (fun t => overlaps t.inputs e.inFirst e.inCount)

/-- The verdict that follows, at the module that judges the station (R263, R265). -/
def verdictOf (l : Fin 24) (p : Fin 32) (e : StationEntry) (s : State) : State :=
  let k := s.links[l].stns[p]
  if !judges s e then s
  else if k.st == .in_ then (if missLimit s l e ≤ k.missed then goOut l p k.missed s else s)
  else if 10 ≤ k.good then comeIn l p s else s

/-- SAMPLE_DUE: at the due instant a sample is complete or missed; the next due instant follows one input period later. -/
def sampleDue (l : Fin 24) (p : Fin 32) (s : State) : State :=
  let k := s.links[l].stns[p]
  match stnEntry s l p with
  | none => s
  | some e =>
    if !k.started || s.tb.now < k.nextDue then s
    else
      let got := k.samples.any (fun m => m.time + linkLead s l == k.nextDue && !k.overdue.contains m.time)
      let s1 := onStn l p (fun x => { judgeSample got x with
        nextDue := k.nextDue + inputPeriod s e, overdue := x.overdue.filter (fun t => k.nextDue < t + linkLead s l) }) s
      let s2 := if got then s1
        else onLink l (fun x => { x with acc := { x.acc with miss := satSucc max32 x.acc.miss } }) s1
      verdictOf l p e s2

/-- SAMPLE_DUE (R248, R263, R265). -/
def execSampleDue (l : Fin 24) (p : Fin 32) (s : State) : Host.Outcome State Fault Refusal := .next (sampleDue l p s)

/-! ### Bringing stations in -/

/-- The first cause, by its number, for which a station that has identified itself is refused (R260). -/
def identCause (m : IdentResp) (e : StationEntry) (pIn : Nat) : Option Byte :=
  if m.vendor != e.vendor then some 2
  else if m.device != e.device then some 3
  else if m.maxIn.toNat < e.inCount ∨ m.maxOut.toNat < e.outCount then some 4
  else if m.version != 1 then some 7
  else if pIn / 1000 < m.minPeriod.toNat then some 8
  else if e.witness && !m.witnessCapable then some 9
  else if m.maxParam.toNat < e.param.length then some 10
  else none

/-- IDENT_RESP_RECEIVE: the identity is kept; the deciding module refuses the station or starts the parameter download. -/
def identRespReceive (m : IdentResp) (s : State) : State :=
  let s1 := seeEpoch m.link m.epoch (heardFrame m.link m.pos 32 m.hops s)
  let s2 := onStn m.link m.pos (fun k => { k with ident := ⟨m.vendor, m.device, m.serial⟩ }) s1
  match stnEntry s m.link m.pos with
  | none => s2
  | some e =>
    if !valeDecides s || s.links[m.link].bring[m.pos].phase != .ident then s2
    else
      match identCause m e (inputPeriod s e) with
      | some c => refuseStation m.link m.pos c 0 s2
      | none => sendSegment m.link m.pos 0 1 (showStep m.link m.pos .param s2)

/-- IDENT_RESP_RECEIVE (R259, R260). -/
def execIdentRespReceive (m : IdentResp) (s : State) : Host.Outcome State Fault Refusal := .next (identRespReceive m s)

/-- PARAM_ACK_RECEIVE: the next segment, or START after the last; a CRC mismatch begins again, up to three times; a rejected block
refuses the station; a segment out of sequence continues from the offset the station names. -/
def paramAckReceive (l : Fin 24) (p : Fin 32) (epoch : W32) (offset : Nat) (result : Fin 4) (reason : Byte) (s : State) : State :=
  let b := s.links[l].bring[p]
  let s1 := seeEpoch l epoch (heardReply l 8 s)
  match stnEntry s l p with
  | none => s1
  | some e =>
    if !valeDecides s || b.phase != .param then s1
    else if result = 0 then
      (if offset != b.offset then s1
       else
         let next := b.offset + (segmentAt e b.offset).length
         if e.param.length ≤ next then sendStart l p 1 (showStep l p .start s1) else sendSegment l p next 1 s1)
    else if result = 1 then
      (if 3 ≤ b.crcTries + 1 then refuseStation l p 6 0 s1
       else sendSegment l p 0 1 (onBring l p (fun x => { x with crcTries := b.crcTries + 1 }) s1))
    else if result = 2 then refuseStation l p 5 reason s1
    else if 3 ≤ b.tries then refuseStation l p 12 0 s1
    else sendSegment l p offset (b.tries + 1) s1

/-- PARAM_ACK_RECEIVE (R212, R259, R260). -/
def execParamAckReceive (l : Fin 24) (p : Fin 32) (epoch : W32) (offset : Nat) (result : Fin 4) (reason : Byte) (s : State) :
    Host.Outcome State Fault Refusal := .next (paramAckReceive l p epoch offset result reason s)

/-- START_ACK_RECEIVE: accepted, samples fall due from the next due instant; otherwise refused, but a first result 3 repeats the
download. Both ends receive it: a standby too counts the samples (R266). -/
def startAckReceive (l : Fin 24) (p : Fin 32) (epoch : W32) (result : Fin 4) (s : State) : State :=
  let b := s.links[l].bring[p]
  let s1 := seeEpoch l epoch (heardReply l 8 s)
  match stnEntry s l p with
  | none => s1
  | some e =>
    if result = 0 then
      onStn l p (fun k => { k with started := true, missed := 0, good := 0, nextDue := nextDue s e })
        (onBring l p (fun x => { x with phase := .idle }) s1)
    else if !valeDecides s || b.phase != .start then s1
    else if result = 1 then refuseStation l p 8 0 s1
    else if result = 2 then refuseStation l p 4 0 s1
    else if b.noBlock then refuseStation l p 11 0 s1
    else sendSegment l p 0 1 (showStep l p .param (onBring l p (fun x => { x with noBlock := true }) s1))

/-- START_ACK_RECEIVE (R212, R246, R258 to R260). -/
def execStartAckReceive (l : Fin 24) (p : Fin 32) (epoch : W32) (result : Fin 4) (s : State) : Host.Outcome State Fault Refusal :=
  .next (startAckReceive l p epoch result s)

/-- The difference of two wrapping counters (R252). -/
def wrapDiff (new old : W32) : Nat := (new - old).toNat

/-- STATION_STATUS_RECEIVE: the differences of the cumulative counters go into the statistics (R252). -/
def stationStatusReceive (m : StationStatus) (s : State) : State :=
  let s1 := seeEpoch m.link m.epoch (heardFrame m.link m.pos 32 m.hops s)
  match s.links[m.link].stns[m.pos].base with
  | none => onStn m.link m.pos (fun k => { k with base := some m, epoch := m.epoch }) s1
  | some b =>
    let twin := wrapDiff m.twin b.twin
    let s2 := onStn m.link m.pos (fun k => { k with
      base := some m
      epoch := m.epoch
      acc := { k.acc with
        twin := satAdd max32 k.acc.twin twin
        stale := satAdd max32 k.acc.stale (wrapDiff m.stale b.stale)
        wdog := satAdd max32 k.acc.wdog (wrapDiff m.watchdog b.watchdog) } }) s1
    { s2 with mir := { s2.mir with acc := { s2.mir.acc with twin := satAdd max32 s2.mir.acc.twin twin } } }

/-- STATION_STATUS_RECEIVE (R252, R257). -/
def execStationStatusReceive (m : StationStatus) (s : State) : Host.Outcome State Fault Refusal := .next (stationStatusReceive m s)

/-- A station has accepted its START, or is being asked to. -/
def startSent (s : State) (l : Fin 24) (p : Fin 32) : Bool := s.links[l].stns[p].started || s.links[l].bring[p].phase == .start

/-- STATION_REPLY_TIMEOUT: the request is sent up to three times; then a station that does not answer step 2 is in SEARCH, and one that
does not answer a later step is refused with cause 1. -/
def stationReplyTimeout (l : Fin 24) (p : Fin 32) (s : State) : State :=
  let b := s.links[l].bring[p]
  if b.phase == .idle || !valeDecides s || s.tb.now < b.timer then s
  else if b.tries < 3 then
    (match b.phase with
     | .ident => onBring l p (fun x => { x with tries := b.tries + 1, timer := s.tb.now + ms }) (manage l 0x02 (posByte p) [] s)
     | .param => sendSegment l p b.offset (b.tries + 1) s
     | .start => sendStart l p (b.tries + 1) s
     | .idle => s)
  else if b.phase == .ident then
    stationDone l p (showStep l p .search (onBring l p (fun x => { x with phase := .idle }) (onStn l p (fun k => { k with started := false }) s)))
  else refuseStation l p 1 0 s

/-- STATION_REPLY_TIMEOUT (R259, R260). -/
def execStationReplyTimeout (l : Fin 24) (p : Fin 32) (s : State) : Host.Outcome State Fault Refusal :=
  .next (stationReplyTimeout l p s)

/-- A bring-in that was broken off: by a change of the module that decides, or by a station that accepted its START and sends nothing. -/
def brokenOff (k : Stn) : Bool :=
  (k.st == .none || k.st == .ident || k.st == .param || k.st == .start) && (!k.started || decide (3 ≤ k.missed))

/-- A station that the 100 ms poll asks: in SEARCH, OUT and not heard, or with its bring-in broken off. -/
def pollNeeded (s : State) (e : StationEntry) : Bool :=
  let k := s.links[e.link].stns[e.pos]
  (k.st == .search || (k.st == .out && !hears s e) || brokenOff k) && s.links[e.link].bring[e.pos].phase == .idle

/-- STATION_SEARCH_POLL: every 100 ms ENUMERATE, then IDENT_REQ to each. -/
def stationSearchPoll (l : Fin 24) (s : State) : State :=
  let ask := (linkStations s l).filter (fun e => pollNeeded s e)
  if ask.isEmpty || !valeDecides s || !canSend s l || s.tb.now < s.links[l].lastPoll + 100 * ms then s
  else
    overAll ask (fun e t => askIdent l e.pos t) (enumerate l (onLink l (fun k => { k with lastPoll := s.tb.now }) s))

/-- STATION_SEARCH_POLL (R240, R259, R265). -/
def execStationSearchPoll (l : Fin 24) (s : State) : Host.Outcome State Fault Refusal := .next (stationSearchPoll l s)

/-- STATION_REFUSED_RETRY: a REFUSED station is asked again from step 2 after 10 s. -/
def stationRefusedRetry (l : Fin 24) (p : Fin 32) (s : State) : State :=
  if s.links[l].stns[p].st == .refused && valeDecides s && decide (s.links[l].bring[p].retryAt ≤ s.tb.now)
      && s.links[l].bring[p].phase == .idle then askIdent l p s
  else s

/-- STATION_REFUSED_RETRY (R260). -/
def execStationRefusedRetry (l : Fin 24) (p : Fin 32) (s : State) : Host.Outcome State Fault Refusal :=
  .next (stationRefusedRetry l p s)

/-- Steps 1 and 2 for the stations of a link that are not IN. -/
def bringLink (l : Fin 24) (s : State) : State :=
  overAll ((linkStations s l).filter (fun e => s.links[l].stns[e.pos].st != .in_))
    (fun e t => askIdent l e.pos (showStep l e.pos .ident t)) (enumerate l s)

/-! ### Ports -/

/-- VALE_PORT_UP: recorded (R268), and the deciding module enumerates the link and asks its stations (R259). -/
def valePortUp (l : Fin 24) (s : State) : State :=
  if s.links[l].up then s
  else
    let s1 := logEv 0x3010 false [(1, l.val), (1, 1)]
      (forgetEpoch l (onLink l (fun k => { k with up := true, enumerated := false, partnerAt := s.tb.now, pdelayAt := s.tb.now }) s))
    if (linkEntry s l).enabled && valeDecides s then bringLink l s1 else s1

/-- VALE_PORT_UP (R258, R259, R268). -/
def execValePortUp (l : Fin 24) (s : State) : Host.Outcome State Fault Refusal := .next (valePortUp l s)

/-- VALE_PORT_DOWN (R268). -/
def valePortDown (l : Fin 24) (s : State) : State :=
  if !s.links[l].up then s
  else logEv 0x3010 true [(1, l.val), (1, 0)]
    (onLink l (fun k => { k with up := false, enumerated := false, partnerPath := false, delayReq := none }) s)

/-- VALE_PORT_DOWN (R268). -/
def execValePortDown (l : Fin 24) (s : State) : Host.Outcome State Fault Refusal := .next (valePortDown l s)

/-- PARTNER_FRAME_RECEIVE: shows the path to the partner; an open ring is closed again; the ENUMERATE that reached the tail tells the
number of stations it passed (R244, R268, R270). -/
def partnerFrameReceive (m : PartnerFrame) (s : State) : State :=
  let k := s.links[m.link]
  let s1 := heardReply m.link 0 (onLink m.link (fun x => { x with partnerPath := true, partnerAt := s.tb.now, ringOpen := false }) s)
  let s2 := if k.ringOpen then logEv 0x3011 false [(1, m.link.val), (1, 1)] s1 else s1
  if m.type == 0x01 && m.hops.toNat != (linkEntry s m.link).count
  then logEv 0x3012 true [(1, m.link.val), (1, (linkEntry s m.link).count), (1, m.hops.toNat)] s2 else s2

/-- PARTNER_FRAME_RECEIVE (R244, R268). -/
def execPartnerFrameReceive (m : PartnerFrame) (s : State) : Host.Outcome State Fault Refusal := .next (partnerFrameReceive m s)

/-- RING_OPEN_TIMEOUT: on a ring, with a partner present, 1 ms without a frame of the partner (R268, R272). -/
def ringOpenTimeout (l : Fin 24) (s : State) : State :=
  let k := s.links[l]
  if s.tb.now < k.partnerAt + ms then s
  else
    let s1 := onLink l (fun x => { x with partnerPath := false }) s
    if (linkEntry s l).ring && (linkEntry s l).enabled && partnerPresent s && !k.ringOpen
    then logEv 0x3011 true [(1, l.val), (1, 0)] (onLink l (fun x => { x with ringOpen := true }) s1) else s1

/-- RING_OPEN_TIMEOUT (R268, R270, R272). -/
def execRingOpenTimeout (l : Fin 24) (s : State) : Host.Outcome State Fault Refusal := .next (ringOpenTimeout l s)

/-- PARTNER_STATION_MAP_RECEIVE: which stations the partner hears (R239, R488). -/
def partnerStationMapReceive (maps : List (Fin 24 × W32)) (s : State) : State :=
  overAll maps (fun m t => onLink m.1 (fun k => { k with
    stns := updAll k.stns (fun p x => { x with pHeard := m.2.getLsbD p.val }) }) t) s

/-! ### Time on the links -/

/-- PDELAY_MEASUREMENT: every 100 ms the port asks its neighbour (R254). -/
def pdelayMeasurement (l : Fin 24) (s : State) : State :=
  if !canSend s l || s.tb.now < s.links[l].pdelayAt then s
  else valeSend l 0x21 0xFF (frameEpoch s) none (leBytes 8 0)
    (onLink l (fun k => { k with delayReq := some s.tb.now, pdelayAt := s.tb.now + 100 * ms }) s)

/-- PDELAY_MEASUREMENT (R254). -/
def execPdelayMeasurement (l : Fin 24) (s : State) : Host.Outcome State Fault Refusal := .next (pdelayMeasurement l s)

/-- PDELAY_RESP_RECEIVE: ((t4 − t1) − (t3 − t2)) / 2, in units of 2⁻¹⁶ ns (R254). -/
def pdelayRespReceive (l : Fin 24) (epoch : W32) (t4 turn : Nat) (s : State) : State :=
  let s1 := seeEpoch l epoch (heardReply l 8 s)
  match s.links[l].delayReq with
  | none => s1
  | some t1 => onLink l (fun k => { k with
      delay := Int.tdiv (((t4 : Int) - (t1 : Int)) * 65536 - (turn : Int)) 2, delayReq := none }) s1

/-- PDELAY_RESP_RECEIVE (R254). -/
def execPdelayRespReceive (l : Fin 24) (epoch : W32) (t4 turn : Nat) (s : State) : Host.Outcome State Fault Refusal :=
  .next (pdelayRespReceive l epoch t4 turn s)

/-- PDELAY_REQ_RECEIVE: the answer holds t3 − t2 in units of 2⁻¹⁶ ns (R254). -/
def execPdelayReqReceive (l : Fin 24) (epoch : W32) (t2 : Nat) (s : State) : Host.Outcome State Fault Refusal :=
  .next (valeSend l 0x22 0xFF (frameEpoch s) none (leBytes 8 ((s.tb.now - t2) * 65536)) (seeEpoch l epoch (heardReply l 8 s)))

/-- A TIME frame on one link (R255). -/
def sendTime (l : Fin 24) (s : State) : State :=
  valePut l false
    { typ := 0x20, flags := frameFlags s false, pos := 0xFF, epoch := frameEpoch s, seq := countOf s.links[l] 0x20
      time := s.tb.now
      payload := leBytes 8 (signedField 8 s.tb.ptpOfs) ++ leBytes 8 0 ++ leBytes 8 Config.selfId.toNat ++ leBytes 8 0 } s

/-- VALE_TIME_SEND: the grandmaster, which is the lease holder or a module without a partner (R139), sends a TIME frame on every link once a millisecond. -/
def valeTimeSend (s : State) : State :=
  if !valeDecides s || s.tb.now < s.tb.valeTimeAt then s
  else overAll (List.finRange 24) sendTime { s with tb := { s.tb with valeTimeAt := s.tb.now + ms } }

/-- VALE_TIME_SEND (R139, R255). -/
def execValeTimeSend (s : State) : Host.Outcome State Fault Refusal := .next (valeTimeSend s)

/-! ### Repeats of event outputs (R262) -/

/-- The output parts of the latest completed cycle of one event task for one station, again. -/
def repeatTask (t : TaskEntry) (s : State) : State :=
  let r := s.tsk.rt[t.num]
  match r.doneCycle, s.img.run with
  | some c, some i =>
    if t.trigger = 7 && !holds s then s
    else overAll (i.stations.filter (fun e => overlaps t.outputs e.outFirst e.outCount))
      (fun e st => if st.links[e.link].stns[e.pos].st == .in_ then stationOutputs t c r.doneTrig r.doneUnchecked e st else st) s
  | _, _ => s

/-- EVENT_OUTPUT_REPEAT: every 250 ms (R262). -/
def eventOutputRepeat (s : State) : State :=
  if !sendsOutputs s || !inRun s || s.tb.now < s.tsk.repeatAt then s
  else overAll ((enabledTasks s).filter (fun t => t.event)) repeatTask
    { s with tsk := { s.tsk with repeatAt := s.tb.now + 250 * ms } }

/-- EVENT_OUTPUT_REPEAT (R262). -/
def execEventOutputRepeat (s : State) : Host.Outcome State Fault Refusal := .next (eventOutputRepeat s)

/-! ### Commands (R272) -/

/-- LNK_CMD at this module: the module that decides stations carries it out (R240). -/
def linkReg (s : State) : CmdReg := { regLnk with byHolder := !valeDecides s }

/-- The link a request names. -/
def reqLink (q : Req) : Fin 24 := Fin.ofNat 24 q.sel.lnkSel.toNat

/-- RESET a station and bring it in from step 1; one that is IN goes OUT at once, with 0 missed samples (R263). -/
def resetStation (l : Fin 24) (p : Fin 32) (s : State) : State :=
  let s1 := if s.links[l].stns[p].st == .in_ then goOut l p 0 s else s
  showStep l p .ident (onStn l p (fun k => { k with started := false, base := none, good := 0, missed := 0 }) s1)

/-- RESTART: the station entry exists and the link can send, otherwise result 4; a restart or retry in progress, result 2. -/
def restartStation (p : Fin 32) (q : Req) (s : State) : State :=
  let l := reqLink q
  if (stnEntry s l p).isNone || !canSend s l then answer q.asker .lnk 4 s
  else if s.links[l].stns[p].asker.isSome || s.links[l].asker.isSome then answer q.asker .lnk 2 s
  else
    let s1 := resetStation l p (manage l 0x08 (posByte p) [] s)
    let s2 := askIdent l p (enumerate l s1)
    answer q.asker .lnk 1 (onStn l p (fun k => { k with asker := some q.asker }) s2)

/-- LNK_RESTART (R240, R263, R272). -/
def execLnkRestart (se : Fin 64) (p : Fin 32) (s : State) : Host.Outcome State Fault Refusal :=
  .next (sessionCmd (linkReg s) (BitVec.ofNat 32 (p.val * 256 + 1)) se (restartStation p) s)

/-- RESTART_LINK: RESET all stations of the link and enumerate it again. -/
def restartLink (q : Req) (s : State) : State :=
  let l := reqLink q
  if (linkStations s l).isEmpty || !canSend s l then answer q.asker .lnk 4 s
  else if s.links[l].asker.isSome then answer q.asker .lnk 2 s
  else
    let s1 := overAll (linkStations s l) (fun e t => resetStation l e.pos t) (manage l 0x08 0xFF [] s)
    answer q.asker .lnk 1 (onLink l (fun k => { k with asker := some q.asker }) (bringLink l s1))

/-- LNK_RESTART_LINK (R240, R263, R272). -/
def execLnkRestartLink (se : Fin 64) (s : State) : Host.Outcome State Fault Refusal :=
  .next (sessionCmd (linkReg s) 2 se restartLink s)

/-- RETRY: asks a REFUSED or SEARCH station now; otherwise result 4. -/
def retryStation (p : Fin 32) (q : Req) (s : State) : State :=
  let l := reqLink q
  let k := s.links[l].stns[p]
  if !canSend s l || !(k.st == .refused || k.st == .search) then answer q.asker .lnk 4 s
  else if k.asker.isSome || s.links[l].bring[p].phase != .idle then answer q.asker .lnk 2 s
  else answer q.asker .lnk 1 (askIdent l p (onStn l p (fun x => { x with asker := some q.asker }) s))

/-- LNK_RETRY (R272). -/
def execLnkRetry (se : Fin 64) (p : Fin 32) (s : State) : Host.Outcome State Fault Refusal :=
  .next (sessionCmd (linkReg s) (BitVec.ofNat 32 (p.val * 256 + 3)) se (retryStation p) s)

end Sys2Proof.Machine
end

