-- ==== Sys2Proof/Machine/Startup.lean ====
section
/-!
DEFINITION. The start of a module (19 R464 to R469, R473, R474): BOOT, CONFIG, CALIBRATE, JOIN, and the entry into RUN, alone or beside a
partner.
-/

namespace Sys2Proof.Machine

/-! ### BOOT (R192, R464, R473, R474) -/

/-- The alternate copy becomes the running one, and the running one the alternate. -/
def swapFw (s : State) : State :=
  { s with mod := { s.mod with
      fwRun := { s.mod.fwAlt with st := 1 }, fwAlt := { s.mod.fwRun with st := 1 }, fwCopy := !s.mod.fwCopy } }

/-- A copy that failed its verification. -/
def logFirmware (alt : Bool) (s : State) : State :=
  let f := if alt then s.mod.fwAlt else s.mod.fwRun
  logEv 0x0011 false [(1, bitNat (s.mod.fwCopy != alt)), (4, f.version.toNat)] s

/-- A copy that is selected or tried verifies; the alternate copy does only where it is VALID. -/
def copyOk (alt ok : Bool) (s : State) : Bool := ok && (!alt || s.mod.fwAlt.st == 1)

/-- The selected copy runs, or the other one; none when neither verifies. -/
def chooseFirmware (selOk otherOk : Bool) (s : State) : Option State × State :=
  let alt := s.mod.fwSelected
  let s1 := { s with mod := { s.mod with fwSelected := false } }
  if copyOk alt selOk s then (some (if alt then swapFw s1 else s1), s1)
  else
    let s2 := logFirmware alt s1
    if copyOk (!alt) otherOk s then (some (if alt then s2 else swapFw s2), s2) else (none, logFirmware (!alt) s2)

/-- The working image of the running terrace is the one in its slot (R469). -/
def workingMatches (s : State) : Bool :=
  let x := s.img.slots[(if s.img.runTerr then 1 else 0 : Fin 4)]
  x.st == .valid && s.img.run.map (fun i => i.ident) == some (readImage x.bytes).ident

/-- The last value of the time base that was saved (R127). -/
def savedTime (s : State) : State :=
  match stored s 2 with
  | some (.savedTime t) => setTime t 0 s
  | _ => { s with tb := { s.tb with source := 0 } }

/-- BOOT ends well: CONFIG, with the ford converters started. A warm start whose working image is not the one of its slot is made cold. -/
def enterConfig (s : State) : State :=
  let cold := !s.mod.warmStart || !workingMatches s
  let s1 := if s.mod.warmStart && cold then madeCold s else s
  let s2 := if cold then savedTime s1 else s1
  powerOnIslands (enterState .config (if s.mod.warmStart && cold then 4 else 0) 0xFF { s2 with evr := { s2.evr with ready := true, closed := false } })

/-- BOOT fails. -/
def bootFails (code : Nat) (s : State) : State :=
  enterState .failed 0 0xFF { s with mod := { s.mod with failCode := code }, evr := { s.evr with ready := true, closed := false } }

/-- BOOT_COMPLETE; in BOOT the module reads its slot position from the base connector (08 R207). -/
def bootComplete (selOk otherOk : Bool) (selfTest : Option (Lane × Fin 4 × W32)) (slot : Bool) (s : State) : State :=
  if s.mod.st != .boot then s
  else
    match chooseFirmware selOk otherOk { s with pair := { s.pair with slot := slot } }, selfTest with
    | (none, s1), _ => bootFails 0x0011 s1
    | (some s1, _), some (lane, m, i) => logEv 0x2040 true [(1, laneCode lane), (1, m.val), (4, i.toNat)] (bootFails 0x2040 s1)
    | (some s1, _), none => enterConfig s1

/-- BOOT_COMPLETE (R52, R127, R192, R207, R435, R464, R469, R473, R474). -/
def execBootComplete (fwOk fwOtherOk : Bool) (selfTest : Option (Lane × Fin 4 × W32)) (slot : Bool) (s : State) :
    Host.Outcome State Fault Refusal := .next (bootComplete fwOk fwOtherOk selfTest slot s)

/-! ### CONFIG (R52, R466) -/

/-- The full check of a stored or fetched image. -/
def verifyWhole (b : List Byte) (keys : List KeySlot) : Option ImgError :=
  match checkHeader b with
  | some x => some ⟨x.1, 0xFF, x.2⟩
  | none => verifyImage b keys

/-- The variables of an image take their initial values (R465). -/
def initVars (i : Image) (m : List Host.Cell) : List Host.Cell :=
  i.vars.foldl (fun c v => Memory.writeBytes c (varBase + v.offset) (initBytes v)) m

/-- A CAN port under the running image. -/
def startCan (i : Image) (p : Fin 4) (k : Can) : Can := if i.can[p].enabled then { k with state := 0, integrating := true } else { k with state := 3 }

/-- Tiles, cores, links, CAN ports, panel, PTP and islands are configured from the image (R466, R282). After a cold start the variables take
their initial values; after a warm start the islands keep their configuration. -/
def configureFrom (i : Image) (bytes : List Byte) (s : State) : State :=
  let s1 := { s with
    img := { s.img with run := some i, runBytes := bytes }
    laneA := freshLane i.prog, laneB := freshLane i.prog, can := updAll s.can (startCan i)
    tsk := { s.tsk with rt := updAll s.tsk.rt (fun t r => { r with st := restingState (i.tasks.find? (fun e => e.num == t)), reload := true }) }
    io := { s.io with isl := updAll s.io.isl (fun _ k => if k.st == .boot then { k with configDue := true } else k) } }
  let s2 := if s.mod.warmStart then s1 else withMem s1 (initVars i s1.mem.cells)
  let s3 := raiseToCeiling (configurePtp (takeLayout s2))
  overAll (List.finRange 24) (fun l t => if t.links[l].up && (linkEntry t l).enabled && valeDecides t then bringLink l t else t) s3

/-- A failed verification of the running terrace's slot (R52, R53): the idle terrace is not concerned. -/
def slotFails (source : Fin 4) (e : ImgError) (s : State) : State :=
  showModule (logEv (0x8100 + e.code) false [(1, e.code), (1, e.sect), (4, e.loc)]
    { s with img := { s.img with
        errSource := source, errCode := BitVec.ofNat 8 e.code, errSect := BitVec.ofNat 8 e.sect, errLoc := e.loc } })

/-- The other terrace is recorded as the running one (R164); what was the running slot is now the idle one's. -/
def recordOther (s : State) : State :=
  let s1 := { s with img := { s.img with runTerr := !s.img.runTerr } }
  idleAfter (persist (.terrace s1.img.runTerr) .none s1)

/-- The slot of the running terrace. -/
def runSlot (s : State) : ImgSlot := s.img.slots[(if s.img.runTerr then 1 else 0 : Fin 4)]

/-- The module configures itself from its own slot (R52). An image that was loaded into a module waiting in CONFIG is recorded as running
and used. -/
def configureOwn (s : State) : State :=
  match s.mod.warmStart, s.img.run with
  | true, some i => configureFrom i s.img.runBytes s
  | _, _ =>
    let s1 := if s.img.loadedHere && s.img.idle == .verified then
        recordOther { s with img := { s.img with loadedHere := false, errSource := 0, errCode := 0, errSect := 0xFF, errLoc := 0 } } else s
    let b := (runSlot s1).bytes
    match verifyWhole b s1.img.keys.toList with
    | some e => slotFails 1 e s1
    | none => configureFrom (readImage b) b s1

/-- The slot of the running terrace holds the image with an identity, and verifies. -/
def ownVerifies (ident : W256) (s : State) : Bool :=
  let b := (runSlot s).bytes
  (runSlot s).st == .valid && (readImage b).ident == ident && (verifyWhole b s.img.keys.toList).isNone

/-- A partner that is in RUN. -/
def infoInRun (p : PartnerInfo) : Bool := p.modState == 5 || p.modState == 6 || p.modState == 7

/-- The partner's key table is adopted by a module without keys (R41). Its own list of revoked fingerprints stays: whether the list belongs to
the table is not stated (DESIGN CHOICE, log 74). -/
def adoptKeys (keys : List KeySlot) (s : State) : State :=
  if s.img.keys.toList.all (fun k => k == .empty) then
    persist (.keyTable keys s.img.revoked) .none
      { s with img := { s.img with keys := Vector.ofFn (fun (k : Fin 8) => keys.getD k.val .empty) } }
  else s

/-- The key tables of both modules are equal in every slot. -/
def sameKeys (keys : List KeySlot) (s : State) : Bool := s.img.keys.toList == keys

/-- CONFIG_PARTNER_LISTEN: 10 ms after the entry into CONFIG, and again as long as no image is configured. -/
def configPartnerListen (partner : Option PartnerInfo) (s : State) : State :=
  if s.mod.st != .config || s.tb.now < s.mod.enteredAt + 10 * ms || s.mod.fetching || (s.img.run.isSome && !s.mod.warmStart)
      || s.tsk.rt.any (fun r => r.st != .absent) then s
  else
    match partner.filter infoInRun with
    | none => configureOwn s
    | some p =>
      let s1 := adoptKeys p.keys (closeEnrolment 2 s)
      if !sameKeys p.keys s1 || ownVerifies p.runId s1 then configureOwn s1
      else saddle (.fetchImage false) { s1 with mod := { s1.mod with fetching := true } }

/-- CONFIG_PARTNER_LISTEN (R41, R52, R92, R389, R466, R510). -/
def execConfigPartnerListen (partner : Option PartnerInfo) (s : State) : Host.Outcome State Fault Refusal := .next (configPartnerListen partner s)

/-- IMAGE_FETCH_COMPLETE: the fetched image lies in the slot of the terrace not recorded last; verified, that terrace runs. Otherwise the module
stays in CONFIG. -/
def imageFetchComplete (data : List Byte) (s : State) : State :=
  if s.mod.st != .config || !s.mod.fetching then s
  else
    let s1 := { s with mod := { s.mod with fetching := false } }
    match verifyWhole data s.img.keys.toList with
    | some e => logEv 0x0013 true [(1, 3)] (slotFails 2 e (setSlot (idleSlot s1) ⟨.invalid, []⟩ (discardIdle .empty s1)))
    | none =>
      let s2 := recordOther (setSlot (idleSlot s1) ⟨.valid, data⟩ s1)
      configureFrom (readImage data) data { s2 with mod := { s2.mod with joinFetched := true, warmStart := false } }

/-- IMAGE_FETCH_COMPLETE (R47, R164, R466, R476). -/
def execImageFetchComplete (data : List Byte) (s : State) : Host.Outcome State Fault Refusal := .next (imageFetchComplete data s)

/-- An image is configured in both lanes. -/
def imageConfigured (s : State) : Bool := s.img.run.isSome && s.tsk.rt.any (fun r => r.st != .absent)

/-- CONFIG_COMPLETE: every island is configured or out; CAL_ISLAND begins in every island in service, after a warm start in those without
calibration (R464). -/
def configComplete (s : State) : State :=
  if s.mod.st != .config || !imageConfigured s || (List.finRange 24).any (fun n => s.io.isl[n].st == .boot || s.io.isl[n].st == .off) then s
  else
    let s1 := enterState .calibrate 0 0xFF s
    endCalibrate { s1 with io := { s1.io with isl := updAll s1.io.isl (fun n i =>
      if i.st == .in_ && !i.calDone then { i with cmd := some (.own, .calIsland n, false) } else i) } }

/-- CONFIG_COMPLETE (R282, R464, R465). -/
def execConfigComplete (s : State) : Host.Outcome State Fault Refusal := .next (configComplete s)

/-! ### Entry into RUN (R94, R467) -/

/-- The entry into RUN, in STANDBY: islands in service are resumed, statistics begin with a short interval, a time mapping is written, and a
module that finds no holder may claim at once (R122, R134, R212, R282). -/
def enterRun (s : State) : State :=
  let s1 := enterState .standby 0 0xFF { shortInterval s with
    mod := { s.mod with
      warm := s.mod.warmStart, startDur := min max32 ((s.tb.now - s.mod.startBegin) / ms), joinWait := none, joinAt := none, joinBegan := none }
    lsk := { s.lsk with seen0 := Vector.replicate 74 0, seen1 := Vector.replicate 74 0, uncheckedSeen := false }
    lease := { s.lease with
      claimFrom := s.tb.now, swap := none, swapPhase := none, claim := none, rounds := [], resync := none, isolated := false
      lastHolder := none, exhausted := false }
    io := { s.io with isl := updAll s.io.isl (fun _ i => if i.st == .in_ then { i with resumeDue := true } else i) } }
  timeMapping 3 s1

/-- The schedule of a task from its first nominal instant at or after `from_`. -/
def scheduleTask (start from_ : Nat) (e : TaskEntry) (r : TaskRt) : TaskRt :=
  if e.event then r
  else
    let j := indexAt (start + e.phase * 10000) (e.period * 10000) from_
    { r with index := j, next := start + e.phase * 10000 + j * (e.period * 10000) }

/-- The tasks of the running image wait for their first releases from an instant on. -/
def scheduleAll (start from_ : Nat) (s : State) : State :=
  { s with tsk := { s.tsk with
      origin := start
      rt := updAll s.tsk.rt (fun t r => match taskEntry s t with | some e => scheduleTask start from_ e r | none => r) } }

/-- A new schedule origin: the first whole second at least 10 ms from now (R94). -/
def newOrigin (now : Nat) : Nat := (now + 10 * ms + sec - 1) / sec * sec

/-- The sample instants of a station follow the schedule origin (R246): one that has its START is given a new one where a new origin moves
them. -/
def resample (old : State) (e : StationEntry) (s : State) : State :=
  let p := inputPeriod s e
  if s.tsk.origin % p != old.tsk.origin % p && startSent s e.link e.pos && valeDecides s then sendStart e.link e.pos 1 s else s

def resampleAll (old s : State) : State := overAll ((s.img.run.map (fun i => i.stations)).getD []) (resample old) s

/-- The module enters RUN alone. -/
def enterAlone (s : State) : State :=
  let o := newOrigin s.tb.now
  enterRun <| resampleAll s { scheduleAll o o s with lease := { s.lease with ended := true, hbNoLease := true } }

/-- The pair protocol ranges overlap (R475). -/
def rangesOverlap (p : PartnerInfo) (s : State) : Bool :=
  s.mod.fwRun.pairMin.toNat ≤ p.pairMax.toNat && p.pairMin.toNat ≤ s.mod.fwRun.pairMax.toNat

/-- Steps 1 and 2 of the join (R468): time base, PTP offset, schedule origin, cycle numbers, the epoch and lease end of the holder. -/
def beginJoin (p : PartnerInfo) (s : State) : State :=
  let s1 := setTime p.timeBase 2 s
  let number := fun (t : Fin 128) (r : TaskRt) =>
    match p.cycles.find? (fun c => c.1 == t) with
    | some c => { r with cycle := c.2.1, k := c.2.2, first := false }
    | none => r
  let s2 := { s1 with
    tb := { s1.tb with ptpOfs := p.ptpOfs }
    tsk := { s1.tsk with origin := p.origin, rt := updAll s1.tsk.rt number }
    lease := { s1.lease with hbEpoch := p.epoch, hbEnd := p.leaseEnd, hbAt := s1.tb.now, hbDur := leaseD s1, rxEpoch := some p.epoch, hbNoLease := false, ended := false }
    img := { s1.img with partnerIdle := p.idleState, partnerIdleId := p.idleId, partnerRunId := some p.runId } }
  { s2 with mod := { s2.mod with joinBegan := some s2.tb.now, joinWait := none } }

/-- JOIN_DECISION. -/
def joinDecision (partner : Option PartnerInfo) (s : State) : State :=
  if s.mod.st != .join || s.mod.joinBegan.isSome then s
  else
    match partner with
    | some p =>
      if infoInRun p then
        (if !sameKeys p.keys s then logEv 0x0013 true [(1, 1)] s
         else if !rangesOverlap p s then logEv 0x0013 true [(1, 2)] s
         else beginJoin p s)
      else if s.pair.slot then (if s.mod.joinWait.isSome then s else { s with mod := { s.mod with joinWait := some s.tb.now } })
      else enterAlone s
    | none =>
      if s.pair.contact && s.pair.slot then (if s.mod.joinWait.isSome then s else { s with mod := { s.mod with joinWait := some s.tb.now } })
      else enterAlone s

/-- JOIN_DECISION (R41, R94, R135, R159, R467, R468, R475). -/
def execJoinDecision (partner : Option PartnerInfo) (s : State) : Host.Outcome State Fault Refusal := .next (joinDecision partner s)

/-- JOIN_WAIT_TIMEOUT: 30 s without a partner in RUN. -/
def joinWaitTimeout (s : State) : State :=
  match s.mod.joinWait with
  | some t => if s.mod.st == .join && s.mod.joinBegan.isNone && !partnerInRun s && decide (t + 30 * sec ≤ s.tb.now) then enterAlone s else s
  | none => s

/-- JOIN_WAIT_TIMEOUT (R467). -/
def execJoinWaitTimeout (s : State) : Host.Outcome State Fault Refusal := .next (joinWaitTimeout s)

/-! ### Joining a partner in RUN (R468) -/

/-- The granules of a full mirror. -/
def takeMirror (gs : List (Nat × Granule)) (s : State) : State := applyGranules gs s

/-- The force table of the partner, with the changes that have reached this module since it began to receive it (R171). -/
def takeForces (fs : List (Fin 4096 × BitVec 6 × W64 × W64)) (s : State) : State :=
  let table := fs.foldl (fun t f => forceOpTable (.set f.1 f.2.1 f.2.2.1 f.2.2.2) t) []
  let due := s.frc.log.filter (fun c => decide (c.at_ ≤ s.tb.now))
  { s with frc := { s.frc with table := due.foldl (fun t c => forceOpTable c.op t) table, before := [], log := [] } }

/-- The number by which a full mirror is confirmed. -/
def fullMirrorId : Nat := 2 ^ 91

/-- FULL_MIRROR_COMPLETE: the full mirror is confirmed, and the holder names the join instant. -/
def fullMirrorComplete (gs : List (Nat × Granule)) (fs : List (Fin 4096 × BitVec 6 × W64 × W64)) (join : Nat) (s : State) : State :=
  if s.mod.st != .join || s.mod.joinBegan.isNone || s.mod.joinAt.isSome then s
  else
    let s0 := takeForces fs (takeMirror gs s)
    let s1 := overAll s0.mir.inbox applyMirror { s0 with mir := { s0.mir with inbox := [] } }
    saddle (.confirm fullMirrorId) { s1 with mod := { s1.mod with joinAt := some join, joinGranules := gs.length } }

/-- FULL_MIRROR_COMPLETE (R171, R223, R224, R468). -/
def execFullMirrorComplete (granules : List (Nat × Granule)) (forces : List (Fin 4096 × BitVec 6 × W64 × W64)) (join : Nat) (s : State) :
    Host.Outcome State Fault Refusal := .next (fullMirrorComplete granules forces join s)

/-- JOIN_INSTANT: RUN begins in STANDBY; every cyclic task is released from its first nominal instant at or after J; the join is recorded, and the
partner's idle image is fetched when it has one. -/
def joinInstant (s : State) : State :=
  match s.mod.joinAt, s.mod.joinBegan with
  | some j, some t0 =>
    if s.mod.st != .join || s.tb.now < j then s
    else
      let s1 := enterRun (scheduleAll s.tsk.origin j s)
      let s2 := logEv 0x0012 false
        [(4, min max32 ((s.tb.now - t0) / ms)), (4, s.mod.joinGranules), (1, bitNat s.mod.joinFetched)] s1
      if s.img.partnerIdle == 4 || s.img.partnerIdle == 6 then
        saddle (.fetchImage true) { s2 with mod := { s2.mod with idleFetch := true } }
      else s2
  | _, _ => s

/-- JOIN_INSTANT (R94, R134, R467, R468, R476). -/
def execJoinInstant (s : State) : Host.Outcome State Fault Refusal := .next (joinInstant s)

/-- IDLE_IMAGE_FETCH_COMPLETE: the module's own idle terrace is VERIFIED with the partner's image, and armed where the partner's is ARMED. -/
def idleImageFetchComplete (data : List Byte) (arm : Bool) (s : State) : State :=
  if !s.mod.idleFetch || !inRun s then s
  else
    let s1 := { s with mod := { s.mod with idleFetch := false } }
    if s.img.cmd.isSome || !(s.img.idle == .empty || s.img.idle == .verified || s.img.idle == .armed || s.img.idle == .failed) then s1
    else
      match verifyWhole data s.img.keys.toList with
      | some e => imgError 2 e (discardIdle .empty s1)
      | none =>
        let s2 := idleAfter (setSlot (idleSlot s1) ⟨.valid, data⟩ (discardIdle .empty s1))
        if arm then beginArming s2 else s2

/-- IDLE_IMAGE_FETCH_COMPLETE (R150, R468). -/
def execIdleImageFetchComplete (data : List Byte) (arm : Bool) (s : State) : Host.Outcome State Fault Refusal :=
  .next (idleImageFetchComplete data arm s)

/-! ### Firmware loads (R473) -/

/-- FIRMWARE_CHUNK (R473): the status of the reply. A chunk at offset 0 begins a load and erases the alternate copy. A package has at most 64 MiB.
`last` says that the package ends here. -/
def firmwareChunk (offset : Nat) (data : List Byte) (last : Bool) (q : Req) (s : State) : Status × State :=
  if !(q.classes.getLsbD 11 && q.maint) then (1, s)
  else
    let had := if offset = 0 then [] else s.mod.fwLoad
    if (offset != 0 && (s.mod.fwAlt.st != 3 || offset != s.mod.fwLoad.length)) || 67108864 < had.length + data.length then (12, s)
    else
      let alt : Fw := if offset = 0 then { st := 3 } else s.mod.fwAlt
      (0, { s with mod := { s.mod with fwLoad := had ++ data, fwAlt := alt, fwDone := last } })

/-- FIRMWARE_CHUNK (R391, R470, R473). -/
def execFirmwareChunk (se : Fin 64) (tag : W32) (offset : Nat) (data : List Byte) (last : Bool) (s : State) : Host.Outcome State Fault Refusal :=
  .next (
    if !sesOpen s se then s
    else
      let s := onSess se (fun x => { x with lastMsg := s.tb.now }) s
      if tooMany s se then reply se 0x0020 tag 7 [] s
      else if s.mod.st == .failed || s.mod.st == .stopped then reply se 0x0020 tag 5 [] s
      else
        let (st, s1) := firmwareChunk offset data last (reqOf se s) s
        reply se 0x0020 tag st [] s1)

/-- FIRMWARE_VERIFY_COMPLETE: the signature of the whole package decides; version and pair protocol range are the package's. -/
def firmwareVerifyComplete (version : BitVec 16) (pairMin pairMax : BitVec 4) (valid : Bool) (s : State) : State :=
  if s.mod.fwAlt.st != 3 || !s.mod.fwDone then s
  else { s with mod := { s.mod with
    fwAlt := { version := version, pairMin := pairMin, pairMax := pairMax, st := if valid then 1 else 2, bytes := s.mod.fwLoad }, fwLoad := [], fwDone := false } }

/-- FIRMWARE_VERIFY_COMPLETE (R473). -/
def execFirmwareVerifyComplete (version : BitVec 16) (pairMin pairMax : BitVec 4) (valid : Bool) (s : State) : Host.Outcome State Fault Refusal :=
  .next (firmwareVerifyComplete version pairMin pairMax valid s)

end Sys2Proof.Machine
end

