-- ==== Sys2Proof/Machine/Pair.lean ====
section
/-!
DEFINITION. Pair operation (08): saddle links, heartbeats, the lease, claims, isolation, resynchronisation, the planned role swap; and the
holds that a switch and a swap share with the partner (06 R155, R156).
-/

namespace Sys2Proof.Machine

/-! ### Releases held for a search that ends -/

/-- A search for a switch instant ends with a result; releases that its candidate held are made. A window goes on. -/
def stopSearch (result : Nat) (s : State) : State :=
  match s.tsk.switch with
  | some q => if q.phase == .window then s else releaseHolds (endChange result s)
  | none => s

/-- What waited for a role swap does not happen: a state command ends with result 7 (19 R471), a halt is refused (07 R195). -/
def failAfter (s : State) : State :=
  match s.mod.after with
  | none => s
  | some (act, asker) =>
    let s1 := { s with mod := { s.mod with after := none } }
    match act with
    | .halt lane => refuseHalt lane 2 s1
    | .restartWarm => answerOpt asker .mod 7 s1
    | .restartCold => answerOpt asker .mod 7 s1

/-- The session that a record of a state command names. -/
def askerNumber (a : Option Origin) : Nat :=
  match a with
  | some o => (askerSe o).val
  | none => 0xFF

/-- What waited for a role swap is done; a result comes first. -/
def runAfter (s : State) : State :=
  match s.mod.after with
  | none => s
  | some (act, asker) =>
    let s1 := { s with mod := { s.mod with after := none } }
    match act with
    | .halt lane => acceptHalt lane s1
    | .restartWarm => restart true (askerNumber asker) (answerOpt asker .mod 6 s1)
    | .restartCold => restart false (askerNumber asker) (answerOpt asker .mod 6 s1)

/-- A planned role swap that has not begun ends with a result; a due one is postponed by 1 h. -/
def swapStops (result : W32) (q : SwitchReq) (s : State) : State :=
  let due := q.asker.isNone && s.mod.after.isNone
  failAfter (answerOpt q.asker .pair result { s with lease := { s.lease with
    swap := none, lastSwapEnd := some s.tb.now
    postponed := if due then s.lease.postponed + 3600 * sec else s.lease.postponed } })

/-- No quiet instant was found: result 5. -/
def swapEnded (q : SwitchReq) (s : State) : State := swapStops 5 q s

/-- A module that has lost the lease before its swap began does what waited for the swap as a module without the lease: a halt is accepted,
a state command ends with result 7. -/
def settleAfter (s : State) : State :=
  match s.mod.after with
  | some (.halt _, _) => runAfter s
  | _ => failAfter s

/-- A search for a swap instant is cut off by a change of the partner or of the lease. -/
def stopSwap (s : State) : State :=
  match s.lease.swap with
  | some q =>
    if q.phase == .window then s
    else if s.lease.holder then releaseHolds (swapStops 4 q s)
    else settleAfter (releaseHolds { s with lease := { s.lease with swap := none } })
  | none => s

/-! ### The partner (R205, R229, R472) -/

/-- The partner is lost: acknowledgements no longer wait for it, searches end, a message number of a new partner begins anew. -/
def partnerLost (s : State) : State :=
  if !partnerPresent s then s
  else
    let s1 := logEv 0x1011 true [(8, s.pair.partnerId.toNat)] { s with
      pair := { s.pair with partner := .lost, seqIn := 0 }, mir := { s.mir with queue := [] }, flight := [] }
    let s2 := dropArmWait (serveFences (releaseWaits s1))
    let s3 := answerOpt s2.lease.resyncTo .pair 4 { s2 with lease := { s2.lease with resync := none, resyncTo := none } }
    stopSwap (stopSearch 5 (if holds s3 then s3 else dropRelayed s3))

/-- Every granule of the MIRR ranges, the force table, and the changes of it that wait (R171, R229, 19 R468). -/
def sendFullMirror (s : State) : State :=
  let gs := match s.img.run with
    | some i => (i.mirr.flatMap (fun r => (List.range r.count).map (fun k => r.first + k))).dedup
    | none => []
  overAll s.frc.waiting (fun c t => let (id, t1) := freshId t; saddle (.force id c.op c.at_) t1)
    (saddleData false (fun part => .fullMirror part s.frc.table) (mirrorContent s gs) s)

/-- A resynchronisation begins: the standby sends no Vale frames and drives no shares until it ends; the holder sends the full mirror. -/
def beginResync (s : State) : State :=
  let s1 := { s with lease := { s.lease with resync := some s.tb.now }, frc := { s.frc with log := [] } }
  if holds s then sendFullMirror s1 else s1

/-- Mirror messages that wait leave. -/
def drainMirror (s : State) : State :=
  overAll s.mir.queue (fun m t => sendMirror m.task m.cycle m.granules m.unchecked t) { s with mir := { s.mir with queue := [] } }

/-- SADDLE_LINK_UP: recorded; mirror messages that waited for a link leave; after a loss of the partner the standby resynchronises. -/
def saddleLinkUp (l : Fin 2) (s : State) : State :=
  if s.pair.up[l] || s.mod.st == .off then s
  else
    let s1 := logEv 0x1010 false [(1, l.val), (1, 1)] { s with pair := { s.pair with
      up := upd s.pair.up l (fun _ => true), lastMsg := upd s.pair.lastMsg l (fun _ => s.tb.now) } }
    if s.pair.partner == .lost && inRun s && s.lease.resync.isNone then beginResync s1 else drainMirror s1

/-- SADDLE_LINK_UP (R204, R205, R222, R229, R234). -/
def execSaddleLinkUp (l : Fin 2) (s : State) : Host.Outcome State Fault Refusal := .next (saddleLinkUp l s)

/-- The mirror data in flight on a link that goes down are sent again on the other link: the newest `n` parts (R204). Control messages have
been sent on both. -/
def resend (l : Fin 2) (n : Nat) (s : State) : State :=
  let mine := s.flight.filter (fun x => x.link == l)
  let s1 := { s with flight := s.flight.filter (fun x => x.link != l) }
  if s.pair.up[1 - l] && saddleOpen s then
    overAll (mine.drop (mine.length - n)) (fun x t => sendPart (1 - l) x.unchecked x.msg t) s1
  else s1

/-- A saddle link goes down. -/
def linkDown (l : Fin 2) (inFlight : Nat) (s : State) : State :=
  if !s.pair.up[l] then s
  else resend l inFlight (logEv 0x1010 true [(1, l.val), (1, 0)]
    { s with pair := { s.pair with up := upd s.pair.up l (fun _ => false), downSeen := true } })

/-- SADDLE_LINK_DOWN (R204, R230, R234): the PCS has lost block lock. -/
def execSaddleLinkDown (l : Fin 2) (inFlight : Nat) (s : State) : Host.Outcome State Fault Refusal := .next (linkDown l inFlight s)

/-- No message has arrived on a link for 1 ms. -/
def saddleSilent (l : Fin 2) (s : State) : Bool := decide (s.pair.lastMsg[l] + ms ≤ s.tb.now)

/-- SADDLE_SILENCE_TIMEOUT: the link is down; with both silent the partner is lost. -/
def saddleSilenceTimeout (l : Fin 2) (inFlight : Nat) (s : State) : State :=
  if !saddleSilent l s then s
  else
    let s1 := linkDown l inFlight s
    if saddleSilent 0 s && saddleSilent 1 s then partnerLost s1 else s1

/-- SADDLE_SILENCE_TIMEOUT (R165, R204, R205, R225, R230, R234). -/
def execSaddleSilenceTimeout (l : Fin 2) (inFlight : Nat) (s : State) : Host.Outcome State Fault Refusal :=
  .next (saddleSilenceTimeout l inFlight s)

/-! ### Messages of the partner (R204, R205) -/

/-- A message has come on a saddle link: the link is up, its silence begins anew, and its errors are counted. -/
def heardOn (v : Via) (s : State) : State :=
  let s1 := saddleLinkUp v.link s
  { s1 with
    pair := { s1.pair with lastMsg := upd s1.pair.lastMsg v.link (fun _ => s.tb.now) }
    mir := { s1.mir with acc := { s1.mir.acc with
      sad0 := if v.link = 0 then satAdd max32 s1.mir.acc.sad0 v.errs else s1.mir.acc.sad0
      sad1 := if v.link = 1 then satAdd max32 s1.mir.acc.sad1 v.errs else s1.mir.acc.sad1 } } }

/-- A control message has come: its first copy by the sequence number is taken, the second discarded (R204). -/
def bySaddle (v : Via) (f : State → State) (s : State) : State :=
  if s.mod.st == .off || s.mod.st == .boot then s
  else
    let s1 := heardOn v s
    if v.seq ≤ s1.pair.seqIn then s1 else f { s1 with pair := { s1.pair with seqIn := v.seq } }

/-- Mirror data have come, each part on one link (R204). -/
def byMirror (v : Via) (f : State → State) (s : State) : State :=
  if s.mod.st == .off || s.mod.st == .boot then s else f (heardOn v s)

/-- PARTNER_PRESENCE_CHANGE (R472, R506): a partner that is removed is lost at the contact's report. -/
def execPartnerPresenceChange (present : Bool) (s : State) : Host.Outcome State Fault Refusal :=
  .next (let s1 := { s with pair := { s.pair with contact := present } }
         if present then s1 else partnerLost s1)

/-! ### Heartbeats and renewal rounds (R208, R135, R239) -/

/-- The heartbeat on a link. -/
def heartbeatOn (l : Fin 2) (s : State) : Heartbeat :=
  { timeBase := s.tb.now, ptpOfs := s.tb.ptpOfs, delay := s.tb.linkDly[l], round := s.lease.nextRound - 1, duration := leaseD s
    echo := s.pair.hbIn[l].map (fun x => (x.1, s.tb.now - x.2)), noLease := !holds s
    holder := holds s, epoch := if s.lease.lastHolder == some true then s.lease.epoch else frameEpoch s, leaseEnd := s.lease.leaseEnd
    ident := Config.selfId, modState := s.mod.st.code, idleState := BitVec.ofNat 4 s.img.idle.code, runId := runIdent s, idleId := idleIdent s }

/-- The stations that the module hears, on every enabled link. -/
def heardMaps (s : State) : List (Fin 24 × W32) :=
  ((List.finRange 24).filter (fun l => (linkEntry s l).enabled)).map (fun l => (l, heardMap s l))

/-- A heartbeat with its map, on both saddle links. The two copies of a heartbeat tell each its own link's delay. -/
def sendHeartbeats (s : State) : State :=
  if saddleOpen s then
    let s1 := { s with pair := { s.pair with seqOut := s.pair.seqOut + 1 } }
    saddle (.stationMap (heardMaps s))
      (overAll [0, 1] (fun (l : Fin 2) t => emit (.saddle [l] s1.pair.seqOut s.lsk.unchecked (.heartbeat (heartbeatOn l s))) t)
        (countUnchecked s.lsk.unchecked 2 s1))
  else s

/-- The renewal of a round, and the end of the one before it. With W = 0 each round has its quorum at its send instant. -/
def renewalRound (s : State) : State :=
  let l := s.lease
  let k := l.nextRound
  let missed := match l.rounds with | r :: _ => !r.quorum | [] => false
  let alone := witnesses s == 0
  let kept := l.rounds.filter (fun r => decide (s.tb.now < r.sent + leaseD s))
  let s1 := { s with
    lease := { l with
      rounds := ⟨k, s.tb.now, 0, alone, []⟩ :: kept, nextRound := k + 1
      acks := match l.rounds with | r :: _ => r.acks | [] => l.acks
      leaseEnd := if alone then s.tb.now + leaseD s else l.leaseEnd }
    mir := { s.mir with acc := { s.mir.acc with
      renew := satSucc max32 s.mir.acc.renew, noQ := if missed then satSucc max32 s.mir.acc.noQ else s.mir.acc.noQ } } }
  leaseFrame 0x10 l.epoch (BitVec.ofNat 32 k) (leBytes 4 (settings s).leaseUs ++ leBytes 8 Config.selfId.toNat ++ leBytes 4 0) s1

/-- LEASE_RENEWAL_ROUND: every 100 µs. -/
def leaseRenewalRound (s : State) : State :=
  if s.mod.st == .off || s.mod.st == .boot || s.tb.now < s.lease.roundAt then s
  else
    let s1 := { s with lease := { s.lease with roundAt := s.tb.now + 100 * us } }
    sendHeartbeats (if holds s1 then renewalRound s1 else s1)

/-- LEASE_RENEWAL_ROUND (R13, R135, R208, R209, R239, R242, R243, R253). -/
def execLeaseRenewalRound (chk : MemCheck) (s : State) : Host.Outcome State Fault Refusal := .next (afterCheck chk leaseRenewalRound s)

/-- A station of the running image that is a witness. -/
def isWitness (s : State) (l : Fin 24) (p : Fin 32) : Bool :=
  match stnEntry s l p with
  | some e => e.witness
  | none => false

/-- A round with another acknowledgement; a witness counts once. -/
def ackRound (q : Nat) (who : Fin 24 × Fin 32) (r : Round) : Round :=
  if r.from_.contains who then r else { r with acks := r.acks + 1, from_ := who :: r.from_, quorum := r.quorum || decide (q ≤ r.acks + 1) }

/-- WITNESS_ACK_RECEIVE: counted for its own round; the Q-th extends L. -/
def witnessAckReceive (m : WitnessMsg) (s : State) : State :=
  let s1 := seeEpoch m.link m.epoch (heardReply m.link 16 s)
  if !holds s || m.ident != Config.selfId || m.epoch != s.lease.epoch || !isWitness s m.link m.pos then s1
  else
    let rounds := s1.lease.rounds.map (fun r => if r.k % 2 ^ 32 == m.seq.toNat then ackRound (quorum s) (m.link, m.pos) r else r)
    let ends := (rounds.filter (fun r => r.quorum && r.k % 2 ^ 32 == m.seq.toNat)).map (fun r => r.sent + leaseD s)
    { s1 with lease := { s1.lease with rounds := rounds, leaseEnd := ends.foldl max s1.lease.leaseEnd } }

/-- WITNESS_ACK_RECEIVE (R208, R253). -/
def execWitnessAckReceive (m : WitnessMsg) (s : State) : Host.Outcome State Fault Refusal := .next (witnessAckReceive m s)

/-! ### The end of the lease (R208, R225) -/

/-- At L: the module holds the lease no longer; its sessions close, host writes it has not acknowledged are answered SWITCHED. -/
def leaseLapses (s : State) : State :=
  let s1 := stopSwap (stopSearch 5 (endLease 0 s))
  let s2 := closeAll 4 (dropWaits (lapseOwn true (noticeAll 3 s1)))
  sendHeartbeats (showRole (canMonitor { s2 with mir := { s2.mir with queue := [] } }))

/-- The lease has reached its end. -/
def leaseOver (s : State) : Bool := s.lease.holder && decide (s.lease.leaseEnd ≤ s.tb.now)

/-- LEASE_END (R151, R165, R208, R225, R230, R234, R378, R381, R393, R398, R455 to R457, R464). -/
def execLeaseEnd (s : State) : Host.Outcome State Fault Refusal := .next (if leaseOver s then leaseLapses s else s)

/-- The earlier of the L of the latest heartbeat and its receipt plus the D it carries. -/
def knownEnd (s : State) : Nat := min s.lease.hbEnd (s.lease.hbAt + s.lease.hbDur)

/-- STANDBY_LEASE_EXPIRY: the holder's lease counts as ended; claims begin at L + G. -/
def standbyLeaseExpiry (s : State) : State :=
  if !inRun s || s.lease.holder || s.lease.ended || s.tb.now < knownEnd s then s
  else { s with lease := { s.lease with ended := true, claimFrom := knownEnd s + guardG } }

/-- STANDBY_LEASE_EXPIRY (R210, R213, R230). -/
def execStandbyLeaseExpiry (s : State) : Host.Outcome State Fault Refusal := .next (standbyLeaseExpiry s)

/-! ### Claims (R206, R210 to R213) -/

/-- The highest epoch that a station has stated on any link since the link came up. -/
def highestSeen (s : State) : Nat := s.lease.seenEpoch.foldl (fun m e => max m e.toNat) 0

/-- A module that is UNCHECKED may hold the lease and claim it only in commissioning mode (R213). -/
def mayLead (s : State) : Bool := !s.lsk.unchecked || s.lsk.commission

/-- The first epoch to claim: after a holder one more than its epoch; for a module that has known none since it entered RUN one more than
the highest epoch it held or has seen (R212). -/
def firstEpoch (s : State) : Nat :=
  if s.lease.lastHolder.isNone && s.lease.hbEpoch == 0
  then max (max (storedEpoch s).toNat s.lease.epoch.toNat) (highestSeen s) + 1
  else max s.lease.epoch.toNat s.lease.hbEpoch.toNat + 1

/-- The epoch of the next round: after a denial one more than the highest epoch stated in any. -/
def nextEpoch (s : State) : Nat :=
  match s.lease.claim with
  | some c => if c.denied = 0 then c.epoch.toNat else c.highest.toNat + 1
  | none => firstEpoch s

/-- The module may claim: in RUN without the lease, after L + G, not suspended, not UNCHECKED outside commissioning mode; with W = 0 only
alone in the base (R212). -/
def mayClaim (s : State) : Bool :=
  inRun s && !s.lease.holder && s.lease.ended && decide (s.lease.claimFrom ≤ s.tb.now) && decide (s.lease.suspended ≤ s.tb.now)
  && mayLead s && !hasYielded s && (witnesses s != 0 || !s.pair.contact)

/-- The cause of record 0x1001. -/
def gainCause (s : State) : Nat :=
  if s.lease.swapPhase == some .successor || s.lease.swapPhase == some .reclaiming then 2
  else if s.lease.lostQuorum then 3
  else if s.lease.lastHolder == some false then 1
  else 0

/-- What the new holder of a switch-over drops: mirror messages in flight, relayed writes, and the claim of a session on the other module
(R225). A planned role swap drops none of them. -/
def dropOfOld (s : State) : State :=
  let s1 := dropRelayed { s with mir := { s.mir with inbox := [] } }
  match s1.ses.claim with
  | some c => if c.slot == s1.pair.slot then s1 else endClaim 2 s1
  | none => s1

/-- A failed swap is recorded once its outcome is known: the successor had no quorum (0), or neither module gained (1) (R233, R234). -/
def swapFailed (cause : Nat) (s : State) : State :=
  logEv 0x1022 false [(1, cause)] { s with lease := { s.lease with swapPhase := none } }

/-- The lease is gained: renewals begin, and the module takes over (R227). Triggers that it registered while it followed a holder are not
released (R116). -/
def gainLease (epoch : W32) (end_ grants : Nat) (s : State) : State :=
  let swapping := s.lease.swapPhase.isSome
  let s1 := stopSearch 5 s
  let s2 := { s1 with
    lease := { s1.lease with
      holder := true, epoch := epoch, leaseEnd := end_, rounds := [], roundAt := s.tb.now, acks := 0, claim := none, announced := none
      isolated := false, resync := none, lostQuorum := false, lastHolder := some true, lastChange := s.tb.now, ended := false
      postponed := 0
      swapPhase := if s.lease.swapPhase == some .successor && !s.lease.vConfirmed then some .successor else none }
    tsk := if decides s then s1.tsk else { s1.tsk with trigQ := [], heldTrigs := [] }
    tb := { s1.tb with valeTimeAt := s.tb.now } }
  let s3 := logEv 0x1001 false [(4, epoch.toNat), (1, gainCause s), (2, grants)] (persist (.epoch epoch) .none s2)
  let s4 := canTakeover (if swapping then s3 else dropOfOld s3)
  let s5 := showRole (if s.lease.swapPhase == some .reclaiming then swapFailed 0 s4 else s4)
  match s5.lease.swap with
  | some _ => releaseHolds { s5 with lease := { s5.lease with swap := none } }
  | none => s5

/-- A claim round for an epoch: announced to the partner, then sent on every enabled link. Grants of earlier rounds for the same epoch
count. -/
def sendClaim (epoch : W32) (s : State) : State :=
  let c : Claim := match s.lease.claim with
    | some c => if c.epoch == epoch then c else { c with epoch := epoch, grants := [], sends := [] }
    | none => ⟨epoch, 0, 0, [], [], 0, 0, []⟩
  let n := c.round + 1
  let s1 := saddle (.claimAnnounce epoch) { s with
    lease := { s.lease with
      claim := some { c with round := n, sent := s.tb.now, denials := [], sends := (n, s.tb.now) :: c.sends.take 15 }
      claimFrom := s.tb.now + 100 * us, announced := some s.tb.now }
    mir := { s.mir with acc := { s.mir.acc with claim := satSucc max32 s.mir.acc.claim } } }
  leaseFrame 0x12 epoch n (leBytes 8 Config.selfId.toNat ++ leBytes 4 (settings s).leaseUs ++ leBytes 4 0) s1

/-- A claim beyond the last epoch is not made; recorded once. -/
def epochExhausted (s : State) : State :=
  if s.lease.exhausted then s
  else logEv 0x1003 true [(4, max32), (4, max32), (2, 0)] { s with lease := { s.lease with exhausted := true, claim := none } }

/-- CLAIM_ROUND. With W = 0 the lease is gained without grants. -/
def claimRound (s : State) : State :=
  if !mayClaim s then s
  else if max32 < nextEpoch s then epochExhausted s
  else
    let e : W32 := BitVec.ofNat 32 (nextEpoch s)
    let s1 := sendClaim e s
    if witnesses s = 0 then gainLease e (s.tb.now + leaseD s) 0 s1 else s1

/-- CLAIM_ROUND (R31, R206, R209 to R213, R230, R234, R253). -/
def execClaimRound (s : State) : Host.Outcome State Fault Refusal := .next (claimRound s)

/-- The module has announced a claim within the last 100 µs, and goes on by R211. -/
def hasPrecedence (s : State) : Bool :=
  match s.lease.announced with
  | some t => decide (s.tb.now ≤ t + 100 * us) &&
      (match s.lease.lastHolder with
       | some mine => mine
       | none => !s.pair.slot)
  | none => false

/-- CLAIM_ANNOUNCE_RECEIVE: no claim for 1 ms, unless the module goes on by precedence (R211). -/
def claimAnnounce (s : State) : State :=
  if holds s || hasPrecedence s then s else { s with lease := { s.lease with suspended := s.tb.now + ms } }

/-- When the round that a reply answers was sent. -/
def sentAt (c : Claim) (n : W32) : Nat :=
  match c.sends.find? (fun x => x.1 == n) with
  | some x => x.2
  | none => c.sent

/-- GRANT_RECEIVE: the Q-th grant gains the lease. -/
def grantReceive (m : WitnessMsg) (s : State) : State :=
  let s1 := seeEpoch m.link m.epoch (heardReply m.link 16 s)
  match s.lease.claim with
  | none => s1
  | some c =>
    if !inRun s || holds s || !mayLead s || m.ident != Config.selfId || m.epoch != c.epoch || c.grants.contains (m.link, m.pos) || !isWitness s m.link m.pos then s1
    else
      let c1 := { c with grants := (m.link, m.pos) :: c.grants }
      let s2 := { s1 with lease := { s1.lease with claim := some c1 } }
      if c1.grants.length < quorum s then s2 else gainLease c.epoch (sentAt c m.seq + leaseD s) c1.grants.length s2

/-- GRANT_RECEIVE (R13, R116, R138, R151, R165, R171, R209, R210, R212, R225, R227, R228, R230, R233, R234, R253, R380, R455 to R457,
R464). -/
def execGrantReceive (m : WitnessMsg) (chk : MemCheck) (s : State) : Host.Outcome State Fault Refusal := .next (afterCheck chk (grantReceive m) s)

/-- A claim that cannot reach Q: ISOLATED while both saddle links are down (R228); a reclaim ends with neither module gaining (R233). -/
def claimFails (c : Claim) (s : State) : State :=
  if quorum s ≤ witnesses s - c.denials.length then s
  else
    let s1 := if saddleUp s || s.lease.isolated then s
      else logEv 0x1013 false [(4, c.highest.toNat)] { s with lease := { s.lease with isolated := true } }
    if s.lease.swapPhase == some .reclaiming then swapFailed 1 s1 else s1

/-- DENY_RECEIVE: counted; the first of a series is recorded; it names the next epoch to claim. -/
def denyReceive (m : WitnessMsg) (s : State) : State :=
  let s1 := seeEpoch m.link m.epoch (heardReply m.link 16 s)
  match s.lease.claim with
  | none => s1
  | some c =>
    if m.ident != Config.selfId then s1
    else
      let now := m.seq == c.round && !c.denials.contains (m.link, m.pos) && isWitness s m.link m.pos
      let c1 : Claim := { c with
        denials := if now then (m.link, m.pos) :: c.denials else c.denials
        highest := if c.highest < m.epoch then m.epoch else c.highest, denied := c.denied + 1 }
      let s2 := { s1 with
        lease := { s1.lease with claim := some c1 }
        mir := { s1.mir with acc := { s1.mir.acc with deny := satSucc max32 s1.mir.acc.deny } } }
      claimFails c1 (if c.denied = 0 then logEv 0x1003 true [(4, c.epoch.toNat), (4, c1.highest.toNat), (2, 1)] s2 else s2)

/-- DENY_RECEIVE (R209, R210, R228, R230, R234, R253, R456, R457). -/
def execDenyReceive (m : WitnessMsg) (s : State) : Host.Outcome State Fault Refusal := .next (denyReceive m s)

/-! ### Heartbeats of the partner (R135, R205, R208, R210, R230, R488) -/

/-- A planned role swap is complete in the old holder: the held releases are made, and what waited for it is done. -/
def swapComplete (s : State) : State :=
  let q := s.lease.swap
  let hold := match q with | some x => s.tb.now - x.r | none => 0
  let s1 := logEv 0x1020 false [(4, s.tb.now - s.lease.swapAt), (4, hold)] { s with lease := { s.lease with
    swap := none, swapPhase := none, lastSwapEnd := some s.tb.now } }
  let s2 := releaseHolds s1
  runAfter (match q with | some x => answerOpt x.asker .pair 6 s2 | none => s2)

/-- The successor of this module has gained the epoch after its own. -/
def successorHolds (h : Heartbeat) (s : State) : Bool :=
  match s.lease.swapPhase with
  | some (.yielded who) => h.ident == who && h.epoch == s.lease.epoch + 1
  | _ => false

/-- The heartbeat of a holder: its lease and its time are followed. A higher epoch is a change of the holder. -/
def followLease (h : Heartbeat) (s : State) : State :=
  let fresh := decide (s.lease.hbEpoch < h.epoch)
  let s1 := if fresh && !hasYielded s then dropRelayed s else s
  let s2 := followHolder h { s1 with lease := { s1.lease with
    hbEpoch := h.epoch, hbEnd := h.leaseEnd, hbAt := s.tb.now, hbDur := h.duration, hbNoLease := false, ended := false, claim := none, announced := none
    lastHolder := some false, lostQuorum := false, lastChange := if fresh then s.tb.now else s.lease.lastChange } }
  if successorHolds h s then swapComplete s2
  else if s.lease.swapPhase.isSome && fresh then
    (let s3 := { (if s.lease.swapPhase == some .reclaiming then swapFailed 0 s2 else s2) with lease := { s2.lease with swap := none, swapPhase := none } }
     if s2.lease.swap.isSome then releaseHolds s3 else s3)
  else s2

/-- A heartbeat marked NO_LEASE of the holder that this module has followed: the lease counts as ended at its L. -/
def holderStopped (h : Heartbeat) (s : State) : State :=
  let s1 := { s with lease := { s.lease with hbNoLease := true, resync := none } }
  if !s.lease.ended && h.epoch == s.lease.hbEpoch then { s1 with lease := { s1.lease with hbEnd := h.leaseEnd, hbAt := s.tb.now, hbDur := h.duration } } else s1

/-- What a change of the partner's state means: a joining partner gets the full mirror; a new standby has not reported; one that leaves RUN
confirms nothing; one that leaves STANDBY or whose idle identity changes ends a search (R165, R231, R468). -/
def partnerMoves (old : Fin 10) (oldIdle : W256) (h : Heartbeat) (s : State) : State :=
  let wasRun := old == 5 || old == 6 || old == 7
  let s1 := if h.modState == 4 && old != 4 && holds s then sendFullMirror s else s
  let s2 := if h.modState == 5 && old != 5 then { s1 with mir := { s1.mir with pReported := false } } else s1
  let s3 := if wasRun && !partnerInRun s2 then
      serveFences (releaseWaits { s2 with lease := { s2.lease with resync := none } }) else s2
  let left := old == 5 && h.modState != 5
  if !holds s3 then s3
  else if left then stopSwap (stopSearch 5 s3)
  else if oldIdle != h.idleId then stopSearch 5 s3
  else s3

/-- A heartbeat that arrives first. -/
def takeHeartbeat (h : Heartbeat) (s : State) : State :=
  let s0 := if leaseOver s then leaseLapses s else s
  let led := h.holder && !h.noLease
  let old := if partnerPresent s0 then s0.pair.partnerState else 0
  let oldIdle := if partnerPresent s0 then s0.img.partnerIdleId else h.idleId
  let s1 := { s0 with
    pair := { s0.pair with partner := if led then .holder else .without, partnerId := h.ident, partnerState := h.modState }
    lease := { s0.lease with rxEpoch := some h.epoch }
    img := { s0.img with partnerIdle := h.idleState, partnerRunId := some h.runId, partnerIdleId := h.idleId } }
  let s2 := if partnerPresent s0 then s1 else logEv 0x1012 false [(8, h.ident.toNat)] s1
  let s3 := endForwardedLoad h.idleState (partnerMoves old oldIdle h s2)
  let s4 := if partnerInRun s3 then closeEnrolment 2 s3 else s3
  if holds s4 || !(inRun s4 || (s4.mod.st == .join && s4.mod.joinBegan.isSome)) then s4
  else if led && decide (s4.lease.hbEpoch ≤ h.epoch) then followLease h s4
  else if led then s4
  else holderStopped h s4

/-- HEARTBEAT_RECEIVE: of two copies the first is taken; both show their link's delay (R135, R204). -/
def heartbeatReceive (v : Via) (h : Heartbeat) (s : State) : State :=
  if s.mod.st == .off || s.mod.st == .boot then s
  else bySaddle v (takeHeartbeat h) (measureLink v.link h s)

/-! ### The planned role swap (R232, R233) -/

/-- An image operation or a search is in progress. -/
def changeInProgress (s : State) : Bool :=
  s.tsk.switch.isSome || s.lsk.recheck.isSome || s.img.cmd.isSome || s.img.idle == .loading || s.img.idle == .verifying || s.img.idle == .storing
  || s.img.idle == .arming || s.img.idle == .switching

/-- The first condition for a swap that is not met, by the codes of record 0x1021. -/
def swapUnmet (s : State) : Option Nat :=
  if !partnerStandby s then some 0
  else if !(s.mir.pReported && s.mir.pHealth.getLsbD 0) then some 1
  else if s.lsk.unchecked then some 2
  else if changeInProgress s then some 3
  else match s.lease.lastSwapEnd with
    | some t => if s.tb.now < t + 60 * sec then some 4 else none
    | none => none

/-- A swap is in progress. -/
def swapRuns (s : State) : Bool := s.lease.swap.isSome || s.lease.swapPhase.isSome

/-- SWAP of PAIR_CMD. -/
def swapCmd (q : Req) (s : State) : State :=
  if swapRuns s then answer q.asker .pair 2 s
  else if !holds s then answer q.asker .pair 4 s
  else match swapUnmet s with
    | some c => answer q.asker .pair 4 (logEv 0x1021 false [(1, c)] s)
    | none => openHold .swap (some q.asker) 0 (answer q.asker .pair 1 s)

/-- SWAP (R155, R232, R234, R236). -/
def execSwap (se : Fin 64) (s : State) : Host.Outcome State Fault Refusal := .next (sessionCmd regPair 0x01 se swapCmd s)

/-- ROLE_SWAP_DUE: a due swap begins, or is postponed by 1 h. -/
def roleSwapDue (s : State) : State :=
  if !holds s || nextSwap s = 0 || s.tb.now < nextSwap s || swapRuns s then s
  else match swapUnmet s with
    | some c => logEv 0x1021 false [(1, c)] { s with lease := { s.lease with postponed := s.lease.postponed + 3600 * sec } }
    | none => openHold .swap none 0 s

/-- ROLE_SWAP_DUE (R232, R234). -/
def execRoleSwapDue (s : State) : Host.Outcome State Fault Refusal := .next (roleSwapDue s)

/-- A claim that a session on the other module holds goes with the lease. -/
def handClaim (s : State) : State :=
  match s.ses.claim with
  | some c => if c.slot == s.pair.slot then s else { s with ses := { s.ses with claim := none } }
  | none => s

/-- Both modules are READY at r: the holder sends what waits, then the YIELD, and holds the lease no longer; the standby waits for it. -/
def swapGo (q : SwitchReq) (s : State) : State :=
  let waiting := { q with phase := .window }
  if !holds s then setHold .swap (some waiting) s
  else
    let who := s.pair.partnerId
    let s1 := endLease 1 (sendYield (drainMirror s))
    let s2 := handClaim { s1 with lease := { s1.lease with
      swap := some waiting, swapPhase := some (.yielded who), swapAt := s.tb.now, relSent := false } }
    confirmReleased (showRole (canMonitor s2))

/-- SWAP_INSTANT (R155, R156, R233, R234, R253, R464). -/
def execSwapInstant (s : State) : Host.Outcome State Fault Refusal := .next (atInstant .swap swapGo swapEnded s)

/-- YIELD_RECEIVE: the successor claims the next epoch at once; in a swap its voltage outputs wait for the old holder's confirmation. -/
def yieldReceive (epoch : W32) (successor : W64) (s : State) : State :=
  let already := match s.lease.claim with | some c => c.epoch == epoch + 1 | none => false
  if successor != Config.selfId || !inRun s || holds s || already || epoch == BitVec.allOnes 32 then s
  else
    let s1 := { s with lease := { s.lease with
      hbEpoch := epoch, hbEnd := s.tb.now, ended := true, claim := none, claimFrom := s.tb.now
      swapPhase := if s.lease.swap.isSome then some .successor else s.lease.swapPhase, vConfirmed := false } }
    if mayLead s then sendClaim (epoch + 1) s1 else s1

/-- The old holder claims E + 2, unless it may not claim (R213); the swap has failed. -/
def reclaim (s : State) : State :=
  let q := s.lease.swap
  let e := s.lease.epoch.toNat + 2
  let s1 := { s with lease := { s.lease with
    swap := none, swapPhase := some .reclaiming, lastSwapEnd := some s.tb.now, claim := none, ended := true } }
  let s2 := releaseHolds (if !mayLead s1 then swapFailed 1 s1 else if max32 < e then swapFailed 1 (epochExhausted s1)
    else sendClaim (BitVec.ofNat 32 e) s1)
  failAfter (match q with | some x => answerOpt x.asker .pair 7 s2 | none => s2)

/-- VOLTAGE_RELEASE_CONFIRM_RECEIVE: the successor drives its voltage outputs from its next ford frame with the lease. -/
def takeVoltageConfirm (s : State) : State :=
  if s.lease.swapPhase == some .successor then
    { s with lease := { s.lease with vConfirmed := true, swapPhase := if holds s then none else some .successor } }
  else s

/-- A successor that has not gained makes its held releases. -/
def successorGivesUp (s : State) : State :=
  match s.lease.swap with
  | some q =>
    if q.phase == .window && !holds s && decide (q.r + 150 * us ≤ s.tb.now) then
      releaseHolds { s with lease := { s.lease with swap := none, swapPhase := none } }
    else s
  | none => s

/-- SWAP_RECLAIM_TIMEOUT: 150 µs after the YIELD. -/
def swapReclaimTimeout (s : State) : State :=
  if hasYielded s then (if s.tb.now < s.lease.swapAt + 150 * us then s else reclaim s) else successorGivesUp s

/-- SWAP_RECLAIM_TIMEOUT (R209, R233, R234). -/
def execSwapReclaimTimeout (s : State) : Host.Outcome State Fault Refusal := .next (swapReclaimTimeout s)

/-! ### Resynchronisation (R229) -/

/-- RESYNC of PAIR_CMD: the holder sends the full mirror, and orders the standby. -/
def resyncCmd (value : W32) (q : Req) (s : State) : State :=
  if s.lease.resync.isSome then answer q.asker .pair 2 s
  else if !holds s || !partnerStandby s then answer q.asker .pair 4 s
  else
    let (id, s1) := freshId (answer q.asker .pair 1 s)
    saddle (.relay ⟨id, q.se, q.readMask, q.writeMask, q.classes, stagingOf q.sel, .regCmd regPair.off value⟩)
      (beginResync { s1 with lease := { s1.lease with resyncTo := some q.asker } })

/-- RESYNC (R229, R236). -/
def execResync (se : Fin 64) (s : State) : Host.Outcome State Fault Refusal := .next (sessionCmd regPair 0x02 se (resyncCmd 0x02) s)

/-- RESYNC_COMPLETE: the standby has the full mirror and leaves ISOLATED; the holder acknowledges after mirroring again. -/
def resyncComplete (gs : List (Nat × Granule)) (fs : List (Fin 4096 × BitVec 6 × W64 × W64)) (s : State) : State :=
  match s.lease.resync with
  | none => s
  | some t0 =>
    let s1 := if holds s then s else takeForces fs (takeMirror gs s)
    let asker := s.lease.resyncTo
    let s2 := logEv 0x1014 false [(4, min max32 ((s.tb.now - t0) / ms)), (4, gs.length)] { s1 with lease := { s1.lease with
      resync := none, resyncTo := none, isolated := false } }
    answerOpt asker .pair 6 s2

/-- RESYNC_COMPLETE (R228, R229, R234). -/
def execResyncComplete (granules : List (Nat × Granule)) (forces : List (Fin 4096 × BitVec 6 × W64 × W64)) (s : State) :
    Host.Outcome State Fault Refusal := .next (resyncComplete granules forces s)

/-! ### Confirmations (R224, 19 R468) -/

/-- The first whole millisecond at least 1 ms away. -/
def joinInstantFrom (now : Nat) : Nat := (now + 2 * ms - 1) / ms * ms

/-- STANDBY_CONFIRMATION_RECEIVE: what waits for the message is settled; a full mirror that is confirmed lets the partner join. -/
def standbyConfirmation (id : Nat) (s : State) : State :=
  if id = fullMirrorId then
    (if holds s && partnerPresent s && s.pair.partnerState == 4 then saddle (.joinAt (joinInstantFrom s.tb.now)) s else s)
  else
    serveFences (confirmed id s)

/-! ### Candidates and verdicts of the partner (R155, R156) -/

/-- SWITCH_VERDICT_RECEIVE: for the request that awaits one. -/
def switchVerdictReceive (yes : Bool) (s : State) : State :=
  if awaitsVerdict s.tsk.switch then
    (match s.tsk.switch with | some q => partnerVerdict .change beginWindow changeEnded yes q s | none => s)
  else if awaitsVerdict s.lease.swap then
    (match s.lease.swap with | some q => partnerVerdict .swap swapGo swapEnded yes q s | none => s)
  else s

/-- SWITCH_VERDICT_TIMEOUT (R156). -/
def execSwitchVerdictTimeout (s : State) : Host.Outcome State Fault Refusal :=
  .next (verdictLate .change changeEnded (verdictLate .swap swapEnded s))

/-! ### Halts (07 R195) -/

/-- DEBUG_HALT: a standby halts at once, a holder in commissioning mode or without a lane in step too; a holder outside it may hand its role
over first. -/
def debugHalt (lane : Lane) (relinquish : Bool) (s : State) : State :=
  if (s.ses.debug).isNone then emit (.debugStatus false) s
  else if !inRun s then refuseHalt lane 1 s
  else if haltedLane s.lsk.halt == some lane then s
  else if (haltedLane s.lsk.halt).isSome then refuseHalt lane 3 s
  else if !holds s || s.lsk.commission then acceptHalt lane s
  else if relinquish && partnerStandby s && !swapRuns s && s.mod.after.isNone then
    (if (swapUnmet s).isSome then refuseHalt lane 2 s
     else openHold .swap none 0 { s with mod := { s.mod with after := some (.halt lane, none) } })
  else refuseHalt lane 2 s

/-- DEBUG_HALT (R195, R408, R455 to R457, R464). -/
def execDebugHalt (lane : Lane) (relinquish : Bool) (s : State) : Host.Outcome State Fault Refusal := .next (debugHalt lane relinquish s)

end Sys2Proof.Machine
end

