-- ==== Sys2Proof/Machine/StateCmd.lean ====
section
/-!
DEFINITION. The state commands of MOD_CMD (19 R470, R471, R474).
-/

namespace Sys2Proof.Machine

/-- TARGET and FORCE of MOD_CMDARG (R478). -/
def cmdTarget (q : Req) : Bool := q.sel.modArg.getLsbD 1
def cmdForce (q : Req) : Bool := q.sel.modArg.getLsbD 0

/-- The module is a holder with a STANDBY partner. -/
def standbyThere (s : State) : Bool := holds s && partnerStandby s

/-- The states in which a command is valid. -/
def cmdValid (code : Nat) (s : State) : Bool :=
  let st := s.mod.st
  if code = 1 then st != .off && st != .boot && !(st == .failed && (s.mod.failCode == 0x2003 || s.mod.railHit))
  else if code = 2 then st != .off && st != .boot
  else if code = 3 then st != .off && st != .boot && st != .stopped
  else true

/-- Record 0x0014. -/
def stateAccepted (code : Nat) (q : Req) (s : State) : State :=
  logSes 0x0014 false q.se [(1, code), (1, bitNat (cmdTarget q)), (1, bitNat (cmdForce q)), (1, q.se.val)] s

/-- FW_ACTIVATE: a VALID alternate copy is selected for the next BOOT. -/
def selectFirmware (a : Origin) (s : State) : State :=
  if s.mod.fwAlt.st != 1 then answer a .mod 5 s else answer a .mod 6 { s with mod := { s.mod with fwSelected := true } }

/-- The command acts on this module now; the result comes first. `se` is 0xFF for an order of the holder. -/
def actOnSelf (code se : Nat) (a : Origin) (s : State) : State :=
  if code = 4 then selectFirmware a s
  else
    let s1 := answer a .mod 6 s
    if code = 1 then restart true se s1 else if code = 2 then restart false se s1 else controlledStop 3 se s1

/-- The holder orders the standby; the result is the standby's. -/
def orderStandby (code : Nat) (q : Req) (s : State) : State :=
  let (id, s1) := freshId (answer q.asker .mod 1 s)
  saddle (.relay ⟨id, q.se, q.readMask, q.writeMask, q.classes, stagingOf q.sel, .regCmd regMod.off (BitVec.ofNat 32 code)⟩)
    (addWait id none [.result q.asker .mod 6] s1)

/-- A holder with a STANDBY partner restarts after a planned role swap. -/
def restartAfterSwap (code : Nat) (q : Req) (s : State) : State :=
  if (swapUnmet s).isSome then answer q.asker .mod 7 s
  else
    openHold .swap none 0 (answer q.asker .mod 1 { s with mod := { s.mod with
      after := some (if code = 1 then .restartWarm else .restartCold, some q.asker) } })

/-- Commands 1 to 4 in the module that carries them out (R471). -/
def modCmd (code : Nat) (q : Req) (s : State) : State :=
  let swaps := standbyThere s && (code == 1 || code == 2)
  if cmdTarget q then
    (if standbyThere s then orderStandby code q (stateAccepted code q s) else answer q.asker .mod 4 s)
  else if !cmdValid code s || (code != 4 && holds s && !standbyThere s && !cmdForce q) then answer q.asker .mod 4 s
  else if swaps && (swapRuns s || s.mod.after.isSome) then answer q.asker .mod 2 s
  else if code == 4 && s.mod.fwAlt.st != 1 then answer q.asker .mod 5 s
  else
    let s1 := stateAccepted code q s
    if swaps then restartAfterSwap code q s1 else actOnSelf code q.se.val q.asker s1

/-- RESTART_WARM (R6, R171, R410, R464, R465, R469 to R471, R476). -/
def execRestartWarm (se : Fin 64) (s : State) : Host.Outcome State Fault Refusal := .next (sessionCmd regMod 0x01 se (modCmd 1) s)

/-- RESTART_COLD (R6, R171, R410, R464, R465, R470, R471, R476). -/
def execRestartCold (se : Fin 64) (s : State) : Host.Outcome State Fault Refusal := .next (sessionCmd regMod 0x02 se (modCmd 2) s)

/-- STOP (R421, R464, R470, R471, R476). -/
def execStop (se : Fin 64) (s : State) : Host.Outcome State Fault Refusal := .next (sessionCmd regMod 0x03 se (modCmd 3) s)

/-- FW_ACTIVATE (R470, R471, R474, R476). -/
def execFwActivate (se : Fin 64) (s : State) : Host.Outcome State Fault Refusal := .next (sessionCmd regMod 0x04 se (modCmd 4) s)

/-- FW_ABORT acts in the module that holds the session (R470). -/
def regAbort : CmdReg := { regMod with byHolder := false }

/-- FW_ABORT: the load ends, and the alternate copy is INVALID. -/
def fwAbort (q : Req) (s : State) : State :=
  if s.mod.fwAlt.st != 3 then answer q.asker .mod 4 s
  else answer q.asker .mod 6 (stateAccepted 5 q { s with mod := { s.mod with fwAlt := { s.mod.fwAlt with st := 2 }, fwLoad := [], fwDone := false } })

/-- FW_ABORT (R470, R471, R473, R476). -/
def execFwAbort (se : Fin 64) (s : State) : Host.Outcome State Fault Refusal := .next (sessionCmd regAbort 0x05 se fwAbort s)

end Sys2Proof.Machine
end

