-- ==== Sys2Proof/Machine/Commands.lean ====
section
/-!
DEFINITION. Register writes (20 R481, R485, R486, R490): the command of each command register and code, the session's own registers, and
the W1C register CH_DIAG.
-/

namespace Sys2Proof.Machine

/-! ### Commands by register and code (R481) -/

/-- A command with the register that it is written to. -/
abbrev CmdOp := CmdReg × (Req → State → State)

/-- A code that a register does not define leaves result 4, and does nothing else. -/
def undefinedCode (k : CmdReg) : CmdOp := ({ k with byHolder := false }, fun q s => answer q.asker k.reg 4 s)

def modOp (code : Nat) : CmdOp :=
  match code with
  | 1 => (regMod, modCmd 1)
  | 2 => (regMod, modCmd 2)
  | 3 => (regMod, modCmd 3)
  | 4 => (regMod, modCmd 4)
  | 5 => (regAbort, fwAbort)
  | _ => undefinedCode regMod

def imgOp (code : Nat) (arg : BitVec 4) : CmdOp :=
  match code with
  | 2 => (regImg, imgCmd armCmd)
  | 3 => (regImg, imgCmd disarmCmd)
  | 4 => (regImg, abortCmd)
  | 5 => (regImg, imgCmd clearCmd)
  | 6 => (regImg, imgCmd (archiveCmd arg))
  | 7 => (regImg, imgCmd (restoreCmd arg))
  | _ => undefinedCode regImg

def lskOp (code : Nat) : CmdOp :=
  match code with
  | 1 => (regLsk, commissionOn)
  | 2 => (regLsk, commissionOff)
  | 3 => (regLsk, recheckCmd)
  | _ => undefinedCode regLsk

def pairOp (code : Nat) : CmdOp :=
  match code with
  | 1 => (regPair, swapCmd)
  | 2 => (regPair, resyncCmd 2)
  | _ => undefinedCode regPair

def lnkOp (code : Nat) (p : Fin 32) (s : State) : CmdOp :=
  match code with
  | 1 => (linkReg s, restartStation p)
  | 2 => (linkReg s, restartLink)
  | 3 => (linkReg s, retryStation p)
  | _ => undefinedCode regLnk

/-- A command of a channel or an island as a host gives it. -/
def chanOp (mk : Req → ChanCmd) : CmdOp := (regCh, fun q s => hostCmd (mk q) q s)

def chOp (code : Nat) : CmdOp :=
  match code with
  | 1 => chanOp mkCal
  | 2 => chanOp mkUrgent
  | 3 => chanOp mkOwtest
  | 4 => chanOp mkCalload
  | 5 => chanOp mkPreset
  | 6 => chanOp mkReset
  | 7 => chanOp mkRelease
  | 8 => chanOp mkRestart
  | _ => undefinedCode regCh

def claimOp (code : Nat) : CmdOp :=
  match code with
  | 1 => (regClaim, acquire)
  | 2 => (regClaim, releaseClaim)
  | _ => undefinedCode regClaim

def sesOp (code : Nat) : CmdOp :=
  match code with
  | 1 => (regSes, sesClose)
  | 2 => (regBreak, breakClaim)
  | _ => undefinedCode regSes

def pwrOp (code : Nat) : CmdOp :=
  match code with
  | 1 => (regPwr, ceilingHold true)
  | 2 => (regPwr, ceilingHold false)
  | 3 => (regPwr, holdupTest)
  | _ => undefinedCode regPwr

def evrOp (code : Nat) : CmdOp :=
  match code with
  | 1 => (regEvr, evrClear)
  | 2 => (regEvr, setrateCmd)
  | 3 => (regEvr, ratedefaultCmd)
  | _ => undefinedCode regEvr

def lcdOp (code : Nat) : CmdOp :=
  match code with
  | 1 => (regLcd, hostUpdate)
  | 2 => (regLcd, hostWake)
  | _ => undefinedCode regLcd

def frcOp (code : Nat) : CmdOp :=
  match code with
  | 1 => (regFrc, frcSet)
  | 2 => (regFrc, frcClear)
  | 3 => (regFrc, frcClearall)
  | _ => undefinedCode regFrc

/-- The command that a value written to a register asks for; none where the register takes no commands. -/
def commandOf (off : Nat) (v : W32) (s : State) : Option CmdOp :=
  let code := v.toNat % 256
  match off with
  | 0x0008 => some (modOp code)
  | 0x0408 => some (imgOp code (v.extractLsb' 8 4))
  | 0x088C => some (regHevt, hostEvent v)
  | 0x1004 => some (lskOp code)
  | 0x1438 => some (pairOp code)
  | 0x181C => some (lnkOp code (Fin.ofNat 32 (v.toNat / 256)) s)
  | 0x1C08 => some (chOp code)
  | 0x2428 => some (claimOp code)
  | 0x2430 => some (sesOp code)
  | 0x2804 => some (pwrOp code)
  | 0x2C18 => some (evrOp code)
  | 0x3004 => some (lcdOp code)
  | 0x3834 => some (frcOp code)
  | _ => none

/-! ### Classes (R490) -/

/-- The class of a register, its result register, and whether FAILED and STOPPED accept its write (R489). -/
def writeClass (off : Nat) : Option (Nat × ResReg × Bool) :=
  match off with
  | 0x0008 => some (11, .mod, true)
  | 0x0408 => some (1, .img, false)
  | 0x088C => some (0, .hevt, false)
  | 0x1004 => some (7, .lsk, false)
  | 0x1438 => some (6, .pair, false)
  | 0x181C => some (5, .lnk, false)
  | 0x1C08 => some (4, .ch, false)
  | 0x1C44 => some (4, .ch, false)
  | 0x2428 => some (1, .ses, false)
  | 0x2430 => some (12, .ses, false)
  | 0x2804 => some (10, .pwr, false)
  | 0x2C18 => some (8, .evr, false)
  | 0x3004 => some (9, .lcd, false)
  | 0x3834 => some (3, .frc, false)
  | _ => none

/-- The module is in a state that accepts no writes but those of R489. -/
def isDown (s : State) : Bool := s.mod.st == .failed || s.mod.st == .stopped

/-- Why a write to a register is refused: the module's state (R489), then the class (R490). -/
def regRefused (off : Nat) (se : Fin 64) (s : State) : Option Refuse :=
  match writeClass off with
  | some (c, _, always) =>
    if isDown s && !always then some ⟨5, 0, off, 0⟩
    else if !s.ses.tab[se].classes.getLsbD c then some ⟨1, 3, off, 0⟩
    else none
  | none => none

/-! ### The session's own registers (R486) -/

/-- A number below a limit, or 0. -/
def selBelow (limit v : Nat) : Nat := if v < limit then v else 0

/-- A 64-bit value with one half written. -/
def putLow (w : W64) (v : W32) : W64 := w.extractLsb' 32 32 ++ v
def putHigh (w : W64) (v : W32) : W64 := v ++ w.extractLsb' 0 32

/-- An RWL register takes a value; a select of an entity that does not exist reads back as its field map says. -/
def putSelect (off : Nat) (v : W32) (x : Selects) : Selects :=
  match off with
  | 0x000C => { x with modArg := v.extractLsb' 0 2 }
  | 0x0460 => { x with slotSel := Fin.ofNat 4 (selBelow 4 (v.toNat % 8)) }
  | 0x0488 => { x with keySel := Fin.ofNat 8 v.toNat }
  | 0x0800 => { x with tskSel := Fin.ofNat 128 v.toNat }
  | 0x0888 => { x with hevtVal := v }
  | 0x1800 => { x with lnkSel := BitVec.ofNat 5 (selBelow 24 (v.toNat % 32)) }
  | 0x1804 => { x with stnSel := Fin.ofNat 32 v.toNat }
  | 0x1C00 => { x with chSel := BitVec.ofNat 8 (selBelow 192 (v.toNat % 256)) }
  | 0x1C04 => { x with islSel := BitVec.ofNat 5 (selBelow 24 (v.toNat % 32)) }
  | 0x1C0C => { x with chArg := putLow x.chArg v }
  | 0x1C10 => { x with chArg := putHigh x.chArg v }
  | 0x2000 => { x with canSel := Fin.ofNat 4 v.toNat }
  | 0x2024 => { x with fltSel := Fin.ofNat 32 v.toNat }
  | 0x2438 => { x with sesSel := Fin.ofNat 64 v.toNat }
  | 0x2C10 => { x with evrCursor := min 65536 (v.toNat % 2 ^ 17) }
  | 0x2C1C => { x with evrArg := v &&& 0xFFFFFF0F }
  | 0x2C48 => { x with rateSel := Fin.ofNat 16 v.toNat }
  | 0x300C => { x with lcdSel := Fin.ofNat 16 v.toNat }
  | 0x3018 => { x with textLo := v }
  | 0x301C => { x with textHi := v.extractLsb' 0 16 }
  | 0x3020 => { x with icons := v }
  | 0x3800 => { x with frcSel := min 4096 (v.toNat % 2 ^ 13) }
  | 0x3820 => { x with setTgt := putLow x.setTgt v }
  | 0x3824 => { x with setTgt := putHigh x.setTgt v }
  | 0x3828 => { x with setVal := putLow x.setVal v }
  | 0x382C => { x with setVal := putHigh x.setVal v }
  | 0x3830 => { x with setCfg := v.extractLsb' 0 6 &&& 0x3C }
  | _ => x

/-- Drop masks that have been written hold at the end of the barrier, or earlier: whether now is a free value (R407). -/
def settleMasks (se : Fin 64) (s : State) : State :=
  let x := s.ses.tab[se]
  if x.rdDrop == x.rdDropUsed && x.wrDrop == x.wrDropUsed then s
  else
    let (now, s1) := freeValue 1 s
    if now = 1 then onSess se (fun y => { y with rdDropUsed := y.rdDrop, wrDropUsed := y.wrDrop }) s1 else s1

/-- A write to one of the session's own registers. -/
def putOwn (off : Nat) (v : W32) (se : Fin 64) (s : State) : State :=
  match off with
  | 0x240C => settleMasks se (onSess se (fun x => { x with rdDrop := v.extractLsb' 0 16 }) s)
  | 0x2410 => settleMasks se (onSess se (fun x => { x with wrDrop := v.extractLsb' 0 16 }) s)
  | 0x2414 => mapsync v se s
  | 0x2424 => violClr v se s
  | _ => onSess se (fun x => { x with sel := putSelect off v x.sel }) s

/-! ### CH_DIAG (R293) -/

/-- CH_DIAG: the status-seen bits of the selected channel that are written as 1 are cleared, for all sessions. -/
def chDiag (v : W32) (se : Fin 64) (s : State) : State :=
  onChan (selChan s.ses.tab[se]) (fun k => { k with seen := k.seen &&& ~~~ (v.extractLsb' 0 16) }) s

/-! ### One register write (R481, R485) -/

/-- A permitted write of one register: a command, CH_DIAG, one of the session's own registers; ignored where there is nothing to write. -/
def putRegister (off : Nat) (v : W32) (se : Fin 64) (s : State) : State :=
  match commandOf off v s with
  | some (k, op) => applyCmd k v se op s
  | none => if off = 0x1C44 then chDiag v se s else putOwn off v se s

/-- A register write as a message of its own: refused by state or class, or applied. -/
def registerWrite (off : Nat) (v : W32) (se : Fin 64) (s : State) : State :=
  if !sesOpen s se then s
  else
    let s := heard se s
    match regRefused off se s with
    | some r =>
      let s1 := noteWrite se (some r) (refusal se r s)
      (match writeClass off with
       | some (_, g, _) => if r.kind = 3 then setRes se g 3 s1 else s1
       | none => s1)
    | none => putRegister off v se (noteWrite se none s)

/-- REGISTER_WRITE (R4, R479, R481, R485 to R487, R489, R490). -/
def execRegisterWrite (se : Fin 64) (off : Nat) (value : W32) (s : State) : Host.Outcome State Fault Refusal :=
  .next (registerWrite off value se s)

/-- CH_DIAG (R4, R293, R486, R490). -/
def execChDiag (se : Fin 64) (value : W32) (s : State) : Host.Outcome State Fault Refusal := .next (registerWrite 0x1C44 value se s)

end Sys2Proof.Machine
end

