-- ==== Sys2Proof/Machine/Host.lean ====
section
/-!
DEFINITION. Plateau READ, WRITE, FENCE and HISTORY_READ (15 R391 to R406), and the reads of single registers that capture (20 R484).
-/

namespace Sys2Proof.Machine

/-! ### Address space (R399) -/

/-- What a range of host addresses touches; `unmapped` names its first unmapped byte. -/
inductive HostRange where
  | registers
  | images
  | variables
  | unmapped (first : Nat)
  deriving DecidableEq, Repr

/-- The host range of an access. -/
def hostRange (a len : Nat) : HostRange :=
  let fin := a + len
  if a < 0x10000 then (if fin ≤ 0x10000 then .registers else .unmapped 0x10000)
  else if inputBase ≤ a ∧ a < inputBase + 0x200000 then (if fin ≤ inputBase + 0x200000 then .images else .unmapped (inputBase + 0x200000))
  else if varBase ≤ a ∧ a < varBase + 0x10000000 then (if fin ≤ varBase + 0x10000000 then .variables else .unmapped (varBase + 0x10000000))
  else .unmapped a

/-- The granule addresses that an access touches. -/
def touched (a len : Nat) : List Nat :=
  (List.range ((a + len - 1) / 64 - a / 64 + 1)).map (fun k => 64 * (a / 64 + k))

/-- The first granule whose colour a mask does not grant: the lowest byte of the access in it, and its colour (R404, R405). -/
def firstRefused (mask : BitVec 16) (a len : Nat) (s : State) : Option (Nat × Nat) :=
  (touched a len).findSome? (fun b =>
    match granuleOf b with
    | some g => if grants mask (colourOf s g) then none else some (max a b, (colourOf s g).toNat)
    | none => none)

/-- A switch window is open: accesses to images and variables wait for its end (R161). -/
def windowOpen (s : State) : Bool :=
  match s.tsk.switch with
  | some q => q.phase == .window
  | none => false

/-- An access waits for the end of the window. -/
def holdAccess (i : Instr) (s : State) : State := { s with ses := { s.ses with held := s.ses.held ++ [i] } }

/-- Address or length are not whole words, or nothing is accessed (R392, R481). -/
def misaligned (a len : Nat) : Bool := a % 4 != 0 || len % 4 != 0 || len == 0

/-! ### READ (R394, R483, R484) -/

/-- The registers of one aligned word, at one instant: a captured register beside its capturing one returns what holds now (R8). -/
def wordValues (se : Fin 64) (offs : List Nat) (s : State) : List Byte :=
  offs.flatMap (fun o =>
    leBytes 4 (if offs.any (fun c => (capturedBy c).contains o) then regNow s se o else regRead s se o).toNat)

/-- Read one aligned word; its side effects follow. -/
def readWord (se : Fin 64) (offs : List Nat) (s : State) : List Byte × State :=
  (wordValues se offs s, overAll offs (fun o t => readEffect o se t) s)

/-- Read the registers of a message, word by word. -/
def readWords (se : Fin 64) : List (List Nat) → State → List Byte × State
  | [], s => ([], s)
  | w :: rest, s =>
    let (a, s1) := readWord se w s
    let (b, s2) := readWords se rest s1
    (a ++ b, s2)

/-- The offsets of a message by aligned words. -/
def wordsOf (a len : Nat) : List (List Nat) :=
  (List.range ((a + len - 1) / 16 - a / 16 + 1)).map (fun k =>
    ((List.range 4).map (fun j => 16 * (a / 16 + k) + 4 * j)).filter (fun o => decide (a ≤ o) && decide (o < a + len)))

/-- A READ of images or variables: what the check of its words finds decides (R21). -/
def readMemory (se : Fin 64) (tag : W32) (a len : Nat) (chk : MemCheck) (s : State) : State :=
  match firstRefused (effRead s.ses.tab[se]) a len s with
  | some (b, c) => reply se 0x0010 tag 1 [] (violation se ⟨1, 1, b, c⟩ s)
  | none =>
    let s1 := memCheck chk s
    if !MemCheckOk chk then reply se 0x0010 tag 10 [] s1
    else if readWaits s1 se a len then { s1 with ses := { s1.ses with heldReads := s1.ses.heldReads ++ [⟨se, tag, a, len⟩] } }
    else reply se 0x0010 tag 0 (Memory.readBytes s1.mem.cells a len) s1

/-- The violating address of an access that runs from byte `a` into the unmapped byte `b`: the lowest byte in a granule that the mask does
not grant, else `b` (R405). -/
def lowestBad (mask : BitVec 16) (a b : Nat) (s : State) : Nat :=
  if a < b then ((firstRefused mask a (b - a) s).map Prod.fst).getD b else b

/-- A READ that its form permits. -/
def readAt (se : Fin 64) (tag : W32) (addr len : W32) (chk : MemCheck) (s : State) : State :=
  match hostRange addr.toNat len.toNat with
  | .unmapped b => reply se 0x0010 tag 2 [] (violation se ⟨2, 4, lowestBad (effRead s.ses.tab[se]) addr.toNat b s, 0⟩ s)
  | .registers =>
    let (bs, s1) := readWords se (wordsOf addr.toNat len.toNat) s
    reply se 0x0010 tag 0 bs s1
  | _ =>
    if isDown s then reply se 0x0010 tag 5 [] s
    else if windowOpen s then holdAccess (.read se tag addr len chk) s
    else readMemory se tag addr.toNat len.toNat chk (settleMasks se s)

/-- The checks of a host access before it is served: a fault of the hub is taken at once (R13, R14); for an uncorrectable word of the session's
own buffer the access gets its precise error, `refuse`, and the session is closed (R21). -/
def checkedAccess (se : Fin 64) (chk : MemCheck) (refuse serve : State → State) (s : State) : State :=
  match chk with
  | .hub u => hubFault u s
  | .uncorrectable a => if regionOf (reportAddr a) == .session se then memCheck chk (refuse s) else serve s
  | _ => serve s

/-- READ. -/
def readService (se : Fin 64) (tag : W32) (addr len : W32) (chk : MemCheck) (s : State) : State :=
  if !sesOpen s se then s
  else
    let s := heard se s
    if tooMany s se then reply se 0x0010 tag 7 [] s
    else if misaligned addr.toNat len.toNat then reply se 0x0010 tag 3 [] s
    else if 65536 < len.toNat then reply se 0x0010 tag 4 [] s
    else readAt se tag addr len chk s

/-- READ (R4, R7, R8, R13, R20, R21, R67, R120, R161, R187, R391 to R394, R396, R399, R402, R404, R405, R479 to R484, R486, R489). -/
def execRead (se : Fin 64) (tag : W32) (addr len : W32) (chk : MemCheck) (s : State) : Host.Outcome State Fault Refusal :=
  .next (checkedAccess se chk (reply se 0x0010 tag 10 []) (readService se tag addr len chk) s)

/-! ### WRITE (R395 to R397, R405) -/

/-- A write is refused: counted, reported, and answered when it asks for a reply. -/
def refuseWrite (se : Fin 64) (ack : Bool) (tag : W32) (r : Refuse) (s : State) : State :=
  let s1 := noteWrite se (some r) (refusal se r s)
  if ack then reply se 0x0011 tag r.status [] s1 else s1

/-- Active forces on variables that an access touches: the lowest byte and its colour (R170). -/
def forcedHit (a len : Nat) (s : State) : Option (Nat × Nat) :=
  match s.img.run with
  | none => none
  | some i =>
    let hits := (s.frc.table.filter (fun x => x.2.kind == 2)).filterMap (fun x =>
      match i.vars.find? (fun v => v.ident == x.2.target) with
      | some v => if varBase + v.offset < a + len ∧ a < varBase + v.offset + v.size then some (max a (varBase + v.offset)) else none
      | none => none)
    match hits.min? with
    | some b => some (b, match granuleOf b with | some g => (colourOf s g).toNat | none => 0)
    | none => none

/-- Why a write to variables is refused: a colour, or a forced variable. -/
def writeRefused (mask : BitVec 16) (a len : Nat) (s : State) : Option Refuse :=
  match (firstRefused mask a len s).or (forcedHit a len s) with
  | some (b, c) => some ⟨1, 2, b, c⟩
  | none => none

/-- The holder commits a write to variables in one step and mirrors it; what is owed follows the standby's confirmation (R68, R224). -/
def commitHost (se : Option (Fin 64)) (a : Nat) (data : List Byte) (acts : List Owed) (s : State) : State :=
  let gs := (touched a data.length).filterMap granuleOf
  let s1 := reloadOwners gs (withMem s (Memory.writeBytes s.mem.cells a data))
  let (id, s2) := freshId s1
  let mirrored := if partnerInRun s && saddleUp s && s.lease.resync.isNone then [Owed.mirrored] else []
  oweOn (id % 2 ^ 32) se (acts ++ mirrored) (sendMirror none (BitVec.ofNat 32 id) gs s.lsk.unchecked s2)

/-- A WRITE to variable space. -/
def writeVars (se : Fin 64) (ack : Bool) (tag : W32) (addr : W32) (data : List Byte) (s : State) : State :=
  let a := addr.toNat
  if windowOpen s then holdAccess (.write se ack tag addr data .clean) s
  else
    match writeRefused (effWrite s.ses.tab[se]) a data.length s with
    | some r => refuseWrite se ack tag r s
    | none =>
      if holds s then commitHost (some se) a data (if ack then [.reply se 0x0011 tag 0 []] else []) (noteWrite se none s)
      else if inRun s && holderReachable s then
        relay se none 0x0011 (if ack then some tag else none) a data.length (.varWrite addr data) (noteWrite se none s)
      else refuseWrite se ack tag ⟨5, 0, a, 0⟩ s

/-- The register writes of a message, ascending. -/
def regPairs (a : Nat) (data : List Byte) : List (Nat × W32) :=
  (List.range (data.length / 4)).map (fun k => (a + 4 * k, BitVec.ofNat 32 (leNat ((data.drop (4 * k)).take 4))))

/-- Every register of a message that its class refuses leaves result 3 in its block (R490). -/
def classResults (se : Fin 64) (ps : List (Nat × W32)) (s : State) : State :=
  overAll ps (fun p t =>
    match regRefused p.1 se s, writeClass p.1 with
    | some r, some (_, g, _) => if r.kind = 3 then setRes se g 3 t else t
    | _, _ => t) s

/-- The reply to a message of register writes follows the last confirmation or verdict that it waits for. -/
def ackRegisters (se : Fin 64) (tag : W32) (before : Nat) (s : State) : State :=
  let mine := fun (r : Relayed) => r.se == se && decide (before ≤ r.id)
  let ours := fun (w : Wait) => waitsFor w se && decide (before ≤ w.no)
  match (s.ses.relayed.filter mine).getLast? with
  | some r => { s with ses := { s.ses with relayed := s.ses.relayed.map (fun x => if x.id = r.id then { x with tag := some tag, typ := 0x0011 } else x) } }
  | none =>
    match (s.pair.waits.filter ours).getLast? with
    | some w => { s with pair := { s.pair with waits := s.pair.waits.map (fun x =>
        if x.no = w.no then { x with acts := x.acts ++ [.reply se 0x0011 tag 0 []] } else x) } }
    | none => reply se 0x0011 tag 0 [] s

/-- A WRITE to the register window: refused whole, or applied in ascending order. -/
def writeRegs (se : Fin 64) (ack : Bool) (tag : W32) (a : Nat) (data : List Byte) (s : State) : State :=
  let ps := regPairs a data
  match ps.findSome? (fun p => regRefused p.1 se s) with
  | some r => refuseWrite se ack tag r (classResults se ps s)
  | none =>
    let s1 := overAll ps (fun p t => putRegister p.1 p.2 se t) (noteWrite se none s)
    if ack then ackRegisters se tag s.pair.nextId s1 else s1

/-- A WRITE that its form permits. -/
def writeAt (se : Fin 64) (ack : Bool) (tag : W32) (addr : W32) (data : List Byte) (s : State) : State :=
  let a := addr.toNat
  match hostRange a data.length with
  | .registers => writeRegs se ack tag a data s
  | r =>
    if isDown s then refuseWrite se ack tag ⟨5, 0, a, 0⟩ s
    else match r with
      | .unmapped b => refuseWrite se ack tag ⟨2, 4, if a < varBase then (if a < inputBase then b else min a b) else lowestBad (effWrite s.ses.tab[se]) a b s, 0⟩ s
      | .images =>
        if windowOpen s then holdAccess (.write se ack tag addr data .clean) s
        else refuseWrite se ack tag ⟨1, 5, a, match granuleOf a with | some g => (colourOf s g).toNat | none => 0⟩ s
      | _ => writeVars se ack tag addr data (settleMasks se s)

/-- WRITE. A posted write awaits no reply, so that BUSY is not for it. -/
def writeService (se : Fin 64) (ack : Bool) (tag : W32) (addr : W32) (data : List Byte) (s : State) : State :=
  if !sesOpen s se then s
  else
    let s := heard se s
    if ack && tooMany s se then refuseWrite se ack tag ⟨7, 0, addr.toNat, 0⟩ s
    else if misaligned addr.toNat data.length then refuseWrite se ack tag ⟨3, 0, addr.toNat, 0⟩ s
    else if 65536 < data.length then refuseWrite se ack tag ⟨4, 0, addr.toNat, 0⟩ s
    else writeAt se ack tag addr data s

/-- WRITE (R4, R7, R13, R14, R21, R68, R161, R170, R187, R215, R224, R391 to R393, R395 to R397, R399, R402 to R406, R479, R481, R485 to R487, R489,
R490). -/
def execWrite (se : Fin 64) (ack : Bool) (tag : W32) (addr : W32) (data : List Byte) (chk : MemCheck) (s : State) :
    Host.Outcome State Fault Refusal :=
  .next (checkedAccess se chk (fun t => if ack then reply se 0x0011 tag 10 [] t else t)
    (fun t => writeService se ack tag addr data (match chk with | .correctable n => countCorrected n t | _ => t)) s)

/-! ### FENCE (R406) -/

/-- FENCE takes the counts since the last one; its reply waits for every earlier write. -/
def openFence (se : Fin 64) (tag : W32) (s : State) : State :=
  serveFence se (onSess se (fun x => { x with
    fences := x.fences ++ [⟨tag, s.pair.nextId, x.fenceWrites, x.fenceBad, x.fenceStatus, x.fenceAddr⟩]
    fenceWrites := 0, fenceBad := 0, fenceStatus := 0, fenceAddr := 0 }) s)

/-- FENCE: behind accesses that a window holds it waits with them. -/
def fenceService (se : Fin 64) (tag : W32) (s : State) : State :=
  if !sesOpen s se then s
  else
    let s := heard se s
    if tooMany s se then reply se 0x0012 tag 7 [] s
    else if s.ses.held.any (heldBy se) then holdAccess (.fence se tag) s
    else openFence se tag s

/-- FENCE (R391 to R393, R406). -/
def execFence (se : Fin 64) (tag : W32) (s : State) : Host.Outcome State Fault Refusal := .next (fenceService se tag s)

/-! ### HISTORY_READ (R21, R391) -/

/-- The memory address of a byte of a history buffer. -/
def historyAddr (buffer : W32) (offset : Nat) : Nat := historyBase + Config.historyAt buffer offset % (memoryTop - historyBase)

/-- HISTORY_READ: class HISTORY; a poisoned granule is a precise error. -/
def historyRead (se : Fin 64) (tag : W32) (buffer : W32) (offset : Nat) (len : W32) (chk : MemCheck) (s : State) : State :=
  if !sesOpen s se then s
  else
    let s := heard se s
    let addrs := (List.range len.toNat).map (fun k => historyAddr buffer (offset + k))
    if tooMany s se then reply se 0x0020 tag 7 [] s
    else if isDown s then reply se 0x0020 tag 5 [] s
    else if !s.ses.tab[se].classes.getLsbD 13 then reply se 0x0020 tag 1 [] s
    else if 65536 < len.toNat then reply se 0x0020 tag 4 [] s
    else
      let s1 := memCheck chk s
      if !MemCheckOk chk || addrs.any (fun a => s1.mem.poisoned.contains (a / 64 * 64)) then reply se 0x0020 tag 10 [] s1
      else reply se 0x0020 tag 0 (addrs.map s1.byte) s1

/-- HISTORY_READ (R20, R21, R391, R392, R403). -/
def execHistoryRead (se : Fin 64) (tag : W32) (buffer : W32) (offset : Nat) (len : W32) (chk : MemCheck) (s : State) :
    Host.Outcome State Fault Refusal := .next (historyRead se tag buffer offset len chk s)

/-! ### Reads that capture (R8, R323, R484) -/

/-- The effect on the session of a read of one register. -/
def registerRead (off : Nat) (se : Fin 64) (s : State) : State := if sesOpen s se then readEffect off se (heard se s) else s

/-- LO_REGISTER_READ: of a low half of an RO pair. -/
def execLoRegisterRead (se : Fin 64) (off : Nat) (s : State) : Host.Outcome State Fault Refusal :=
  .next (if loRegs.contains off then registerRead off se s else s)

/-- CH_AI_VAL_LO_READ (R323, R484). -/
def execChAiValLoRead (se : Fin 64) (s : State) : Host.Outcome State Fault Refusal := .next (registerRead 0x1C80 se s)

/-- CH_AI_URGVAL_LO_READ (R323, R484). -/
def execChAiUrgvalLoRead (se : Fin 64) (s : State) : Host.Outcome State Fault Refusal := .next (registerRead 0x1CA8 se s)

end Sys2Proof.Machine
end

