-- ==== Sys2Proof/Machine/Relay.lean ====
section
/-!
DEFINITION. Writes that a standby relays: at the holder, and the holder's verdict at the standby (15 R396, R397, 20 R487).
-/

namespace Sys2Proof.Machine

/-! ### At the module that receives -/

/-- The relay came too late: its receiver does not hold the lease, and the write is answered SWITCHED (R225). -/
def relayTooLate (id : Nat) (s : State) : State := saddle (.verdict id 6 0) s

/-- A relayed write to variables: checked against the session's masks, committed and mirrored. -/
def relayedVars (m : RelayMsg) (addr : W32) (data : List Byte) (s : State) : State :=
  if !holds s then relayTooLate m.id s
  else if windowOpen s then holdAccess (.relayedWriteReceive ⟨0, 0, 0⟩ m) s
  else match writeRefused m.writeMask addr.toNat data.length s with
    | some r => saddle (.verdict m.id r.status 0) s
    | none => commitHost none addr.toNat data [.verdict m.id 0 0] s

/-- An order of the holder to its standby: a state command (19 R470), or a resynchronisation (R229). -/
def takeOrder (m : RelayMsg) (off code : Nat) (s : State) : State :=
  let who : Origin := .relayed m.id m.session
  if off = regMod.off then (if cmdValid code s then actOnSelf code 0xFF who s else answer who .mod 4 s)
  else if off = regPair.off ∧ inRun s ∧ s.lease.resync.isNone then beginResync s
  else s

/-- A relayed command, with the session's staging. -/
def relayedCmd (m : RelayMsg) (off : Nat) (v : W32) (s : State) : State :=
  if holds s then
    (match commandOf off v s with
     | some (_, op) => op (reqRelayed m) s
     | none => saddle (.verdict m.id 0 0) s)
  else if s.pair.partner == .holder then takeOrder m off (v.toNat % 256) s
  else relayTooLate m.id s

/-- A relayed chunk. -/
def relayedChunk (m : RelayMsg) (offset : Nat) (data : List Byte) (s : State) : State :=
  let (st, r, s1) := chunkService (.relayed m.id m.session) offset data s
  saddle (.verdict m.id st r) s1

/-- A relayed key operation. -/
def relayedKey (m : RelayMsg) (stmt sig : List Byte) (s : State) : State :=
  match keyCause stmt sig (m.writeMask.getLsbD 0) s with
  | some c => saddle (.verdict m.id (if c = 5 then 1 else 8) 0) (logKey stmt m.session.val (some c) s)
  | none => writeKeys stmt (.keyRelayed m.id m.session stmt) s

/-- RELAYED_WRITE_RECEIVE. -/
def relayedWriteReceive (m : RelayMsg) (s : State) : State :=
  match m.body with
  | .varWrite a data => relayedVars m a data s
  | .regCmd off v => relayedCmd m off v s
  | .change ident => if holds s then changeService (reqRelayed m) 0 ident s else relayTooLate m.id s
  | .chunk offset data => if holds s then relayedChunk m offset data s else relayTooLate m.id s
  | .claimGone => if holds s && claimOf s (!s.pair.slot) m.session then endClaim 2 s else s
  | .key stmt sig => if holds s then relayedKey m stmt sig s else relayTooLate m.id s

/-! ### At the standby -/

/-- The verdict's result: into the session's result register; IMG_CMDRES for a chunk of a session without the claim; a claim granted or
given up is the session's (R398). -/
def verdictResult (r : Relayed) (status : Status) (result : W32) (s : State) : State :=
  match r.reg with
  | some g =>
    if status != 0 then s
    else
      let s1 := setRes r.se g result s
      if r.addr = regClaim.off ∧ result = 1 then
        { s1 with ses := { s1.ses with claim := if r.len % 256 = 1 then some ⟨s.pair.slot, r.se, s.tb.now + 60 * sec⟩ else none } }
      else s1
  | none => if r.typ = 0x0020 ∧ r.addr = 1 ∧ result ≠ 0 then setRes r.se .img result s else s

/-- What a verdict that refuses a write says of it; the place of a forbidden write to variables is worked out here. -/
def lateRefusal (r : Relayed) (status : Status) (s : State) : Refuse :=
  if status == 1 && r.reg.isNone then
    (writeRefused (effWrite s.ses.tab[r.se]) r.addr r.len s).getD
      ⟨1, 2, r.addr, match granuleOf r.addr with | some g => (colourOf s g).toNat | none => 0⟩
  else ⟨status, 0, r.addr, 0⟩

/-- A write that the holder refuses: counted for the FENCE; a forbidden one is a violation of the session (R396, R405). -/
def verdictRefused (r : Relayed) (status : Status) (s : State) : State :=
  if status = 0 ∨ (r.reg.isNone ∧ r.typ ≠ 0x0011) then s
  else noteLate r.se r.id (lateRefusal r status s) (refusal r.se (lateRefusal r status s) s)

/-- The reply that waited for the verdict; that of CHANGE carries this module's own switch. -/
def verdictReply (r : Relayed) (status : Status) (result : W32) (s : State) : State :=
  match r.tag with
  | none => s
  | some tag =>
    let body := if r.typ = 0x0020 ∧ r.addr = 2 ∧ status = 0 then
        (if result = 0 then changeBody 0 s.tsk.lastSwitch.1 s.tsk.lastSwitch.2 else changeBody result.toNat 0 0)
      else []
    reply r.se r.typ tag status body s

/-- The verdict on a relayed write of a session of this module. A command that the holder has accepted may still get a result. -/
def verdictOn (r : Relayed) (status : Status) (result : W32) (s : State) : State :=
  let s1 := verdictReply r status result (verdictRefused r status (verdictResult r status result s))
  let keep := r.reg.isSome && status == 0
  let left := if keep then s1.ses.relayed.map (fun x => if x.id = r.id then { x with done := true, tag := none } else x)
    else s1.ses.relayed.filter (fun x => x.id != r.id)
  let s2 := { s1 with ses := { s1.ses with relayed := left } }
  serveHeldReads (serveFences s2)

/-- The verdict of the standby on an order of this holder: the result that it gives is the asker's. -/
def orderDone (id : Nat) (result : W32) (s : State) : State :=
  let mine := s.pair.waits.filter (fun w => w.id == id)
  overAll (mine.flatMap (fun w => w.acts)) (fun a t =>
    match a with
    | .result asker g _ => answer asker g result t
    | b => settle b t) { s with pair := { s.pair with waits := s.pair.waits.filter (fun w => w.id != id) } }

/-- The holder has switched, and this module's own window is still open: the reply to CHANGE waits for its record (R151). -/
def verdictEarly (r : Relayed) (result : W32) (s : State) : Bool := r.typ == 0x0020 && r.addr == 2 && result == 0 && windowOpen s

/-- RELAY_VERDICT_RECEIVE. -/
def relayVerdictReceive (id : Nat) (status : Status) (result : W32) (s : State) : State :=
  match s.ses.relayed.find? (fun r => r.id == id) with
  | some r => if verdictEarly r result s then holdAccess (.relayVerdictReceive ⟨0, 0, 0⟩ id status result) s else verdictOn r status result s
  | none => serveFences (orderDone id result s)

end Sys2Proof.Machine
end

