-- ==== Sys2Proof/Machine/Saddle.lean ====
section
/-!
DEFINITION. What arrives from the partner over the saddle links (08 R204, R205): the first copy of a control message is taken, mirror data come
on one link.
-/

namespace Sys2Proof.Machine

/-- HEARTBEAT_RECEIVE (R96, R129, R135, R151, R165, R204, R205, R216, R230, R234, R239, R270, R488, R509). -/
def execHeartbeatReceive (via : Via) (h : Heartbeat) (s : State) : Host.Outcome State Fault Refusal := .next (heartbeatReceive via h s)

/-! ### Releases and mirroring -/

/-- RELEASE_NOTICE_RECEIVE (R111 to R113, R204, R221, R266). -/
def execReleaseNoticeReceive (via : Via) (n : Notice) (s : State) : Host.Outcome State Fault Refusal :=
  .next (bySaddle via (releaseNoticeReceive n) s)

/-- PARTNER_READINGS_RECEIVE (R204, R220, R221). -/
def execPartnerReadingsReceive (via : Via) (t : Fin 128) (cycle : W32) (readings : List (BitVec 16 × W128)) (s : State) :
    Host.Outcome State Fault Refusal := .next (bySaddle via (partnerReadingsReceive t cycle readings) s)

/-- MIRROR_APPLY (R28, R64, R204, R223, R224): the message, whole. -/
def execMirrorApply (via : Via) (msg : MirrorMsg) (s : State) : Host.Outcome State Fault Refusal := .next (byMirror via (mirrorApply msg) s)

/-- STANDBY_CONFIRMATION_RECEIVE (R41, R51, R117, R169, R204, R224, R290, R468). -/
def execStandbyConfirmationReceive (via : Via) (id : Nat) (s : State) : Host.Outcome State Fault Refusal :=
  .next (bySaddle via (standbyConfirmation id) s)

/-- HEALTH_REPORT_RECEIVE (R204, R231, R488). -/
def execHealthReportReceive (via : Via) (report : W32) (s : State) : Host.Outcome State Fault Refusal :=
  .next (bySaddle via (healthReportReceive report) s)

/-! ### Switches, forces, images, keys -/

/-- SWITCH_CANDIDATE_RECEIVE (R155, R204). -/
def execSwitchCandidateReceive (via : Via) (r : Nat) (swap : Bool) (s : State) : Host.Outcome State Fault Refusal :=
  .next (bySaddle via (takeCandidate (if swap then .swap else .change) r) s)

/-- SWITCH_VERDICT_RECEIVE (R156, R157, R204, R233). -/
def execSwitchVerdictReceive (via : Via) (ready : Bool) (s : State) : Host.Outcome State Fault Refusal :=
  .next (bySaddle via (switchVerdictReceive ready) s)

/-- FORCE_CHANGE_RECEIVE (R169, R173, R204). -/
def execForceChangeReceive (via : Via) (id : Nat) (op : ForceOp) (at_ : Nat) (s : State) : Host.Outcome State Fault Refusal :=
  .next (bySaddle via (forceChangeReceive id op at_) s)

/-- FORWARDED_CHUNK_RECEIVE (R50, R51, R204). -/
def execForwardedChunkReceive (via : Via) (offset : Nat) (data : List Byte) (s : State) : Host.Outcome State Fault Refusal :=
  .next (bySaddle via (forwardedChunkReceive offset data) s)

/-- PARTNER_ARM_ORDER_RECEIVE (R51, R204). -/
def execPartnerArmOrderReceive (via : Via) (s : State) : Host.Outcome State Fault Refusal := .next (bySaddle via partnerArmOrderReceive s)

/-- PARTNER_ARMED_REPORT (R51, R204). -/
def execPartnerArmedReport (via : Via) (code : Byte) (s : State) : Host.Outcome State Fault Refusal :=
  .next (bySaddle via (partnerArmedReport code) s)

/-- KEY_OP_FORWARD_RECEIVE (R41, R204). -/
def execKeyOpForwardReceive (via : Via) (id : Nat) (stmt : List Byte) (s : State) : Host.Outcome State Fault Refusal :=
  .next (bySaddle via (keyOpForward id stmt) s)

/-! ### Relayed writes -/

/-- RELAYED_WRITE_RECEIVE (R39, R41, R46, R51, R68, R117, R150, R161, R169, R204, R215, R224, R225, R229, R240, R396, R397, R470, R485,
R487). -/
def execRelayedWriteReceive (via : Via) (m : RelayMsg) (s : State) : Host.Outcome State Fault Refusal :=
  .next (bySaddle via (relayedWriteReceive m) s)

/-- RELAY_VERDICT_RECEIVE (R41, R151, R204, R396 to R398, R406, R470, R487). -/
def execRelayVerdictReceive (via : Via) (id : Nat) (status : Fin 13) (result : W32) (s : State) : Host.Outcome State Fault Refusal :=
  .next (bySaddle via (relayVerdictReceive id status result) s)

/-! ### The lease -/

/-- CLAIM_ANNOUNCE_RECEIVE (R204, R211). -/
def execClaimAnnounceReceive (via : Via) (_epoch : W32) (s : State) : Host.Outcome State Fault Refusal := .next (bySaddle via claimAnnounce s)

/-- YIELD_RECEIVE (R204, R233). -/
def execYieldReceive (via : Via) (epoch : W32) (successor : W64) (s : State) : Host.Outcome State Fault Refusal :=
  .next (bySaddle via (yieldReceive epoch successor) s)

/-- VOLTAGE_RELEASE_CONFIRM_RECEIVE (R204, R233). -/
def execVoltageReleaseConfirmReceive (via : Via) (s : State) : Host.Outcome State Fault Refusal := .next (bySaddle via takeVoltageConfirm s)

/-! ### Stations, channels, CAN ports -/

/-- RELAYED_SAMPLE_RECEIVE (R204, R239). -/
def execRelayedSampleReceive (via : Via) (m : Sample) (s : State) : Host.Outcome State Fault Refusal :=
  .next (bySaddle via (relayedSampleReceive m) s)

/-- PARTNER_STATION_MAP_RECEIVE (R204, R239, R488). -/
def execPartnerStationMapReceive (via : Via) (maps : List (Fin 24 × W32)) (s : State) : Host.Outcome State Fault Refusal :=
  .next (bySaddle via (partnerStationMapReceive maps) s)

/-- CHANNEL_COMMAND_FORWARD_RECEIVE (R204, R290, R291). -/
def execChannelCommandForwardReceive (via : Via) (id : Nat) (cmd : ChanCmd) (at_ : Nat) (s : State) : Host.Outcome State Fault Refusal :=
  .next (bySaddle via (channelCommandForwardReceive id cmd at_) s)

/-- URGENT_RESULT_RECEIVE (R204, R317). -/
def execUrgentResultReceive (via : Via) (c : Fin 192) (value : W64) (_stamp : Nat) (s : State) : Host.Outcome State Fault Refusal :=
  .next (bySaddle via (urgentResultReceive c value) s)

/-- CAN_TX_CONFIRM_RECEIVE (R204, R226). -/
def execCanTxConfirmReceive (via : Via) (port : Fin 4) (buf : Fin 32) (task : Fin 128) (cycle : W32) (s : State) :
    Host.Outcome State Fault Refusal := .next (bySaddle via (canTxConfirmReceive port buf task cycle) s)

/-- CAN_RX_NOTICE_RECEIVE (R204, R379). -/
def execCanRxNoticeReceive (via : Via) (p : Fin 4) (frame : CanFrame) (filter : Fin 32) (stamp completion : Nat) (s : State) :
    Host.Outcome State Fault Refusal := .next (bySaddle via (canRxNoticeReceive p frame filter stamp completion) s)

end Sys2Proof.Machine
end

