-- ==== Sys2Proof/Machine/Window.lean ====
section
/-!
DEFINITION. The end of a switch window (06 R158 to R164): what it reconfigures, the held releases and triggers, the record, the
accesses that waited.
-/

namespace Sys2Proof.Machine

/-! ### Channels (R162, R287, R309, R320, R335, R349, R361) -/

/-- An urgent conversion or a test that a changed entry cuts off ends with result 7, detail 3; a scheduled test has no one to tell. -/
def cutConversion (c : Fin 192) (s : State) : State :=
  let a := s.io.ai[c]
  let s1 := onAi c (fun x => { x with urgRun := false, owRun := false, owCmd := false }) s
  if a.urgRun || (a.owRun && a.owCmd) then islResult (islandOf c) (some c) 7 3 s1 else s1

/-- The safe state of an output until its first NEW value. -/
def safeChan (c : Fin 192) (s : State) : State := onChan c (fun k => { k with safe := true, commanded := false }) s

/-- A channel that takes another function keeps none of its former one but the counts of its registers. -/
def clearChan (c : Fin 192) (s : State) : State :=
  onAi c (fun a => { aiStart a with uncal := true })
    (onAo c (fun a => { ({} : AoChan) with enter := a.enter, enterLat := a.enterLat, loss := a.loss, lossLat := a.lossLat })
      (onDi c (fun _ => {}) (onDo c (fun d => { ({} : DoChan) with retries := d.retries }) s)))

/-- An analogue input with a changed entry: its factors no longer hold for another mode or range. -/
def reconfigAi (c : Fin 192) (o e : ChanEntry) (s : State) : State :=
  filterReset c (onAi c (fun a => { a with
    uncal := a.uncal || decide (o.mode ≠ e.mode) || decide (o.range ≠ e.range), owNext := nextTest s c }) (cutConversion c s))

/-- A changed output continues where only the range between 1 and 2 of mode 6 differs. -/
def reconfigAo (c : Fin 192) (o e : ChanEntry) (s : State) : State :=
  if e.mode = 6 ∧ o = { e with range := o.range } ∧ o.range ≤ 2 ∧ e.range ≤ 2 then s else safeChan c s

/-- A changed digital input keeps its accepted state; a changed filter starts anew, and a channel put into mode 9 counts from 0. -/
def reconfigDi (c : Fin 192) (o e : ChanEntry) (s : State) : State :=
  onDi c (fun d => { d with
    since := if o.filter = e.filter then d.since else s.tb.now
    count := if o.mode = 9 then d.count else 0
    edges := if o.mode = 10 then d.edges else [] }) s

/-- A changed digital output continues where only its PWM period differs; the duty is turned into an on-time of the new period. -/
def reconfigDo (c : Fin 192) (o e : ChanEntry) (s : State) : State :=
  if o = { e with param1 := o.param1 } then
    onDo c (fun d => { d with nextOn := if e.pwm && s.io.chan[c].commanded then pwmOnTime e s.io.chan[c].command else d.nextOn }) s
  else safeChan c s

/-- Two entries make a channel the same kind of input or output. -/
def sameKind (o e : ChanEntry) : Bool := isAi o == isAi e && isAo o == isAo e && isDi o == isDi e && isDo o == isDo e

/-- A channel with a changed entry takes it. -/
def reconfigChan (c : Fin 192) (o e : ChanEntry) (s : State) : State :=
  if !sameKind o e then configureChan c (clearChan c (cutConversion c s))
  else if isAi e then reconfigAi c o e s
  else if isAo e then reconfigAo c o e s
  else if isDi e then reconfigDi c o e s
  else if isDo e then reconfigDo c o e s
  else s

/-- The channels of an island whose entries differ. -/
def changedChans (old new : Image) (n : Fin 24) : List (Fin 192) := (chansOf n).filter (fun c => decide (old.channels[c] ≠ new.channels[c]))

/-- An island in service takes its changed entries; another one is configured on its return. -/
def reconfigIsland (old new : Image) (n : Fin 24) (s : State) : State :=
  let cs := changedChans old new n
  if cs.isEmpty then s
  else if s.io.isl[n].st == .in_ then refreshOutputs n (overAll cs (fun c t => reconfigChan c old.channels[c] new.channels[c] t) s)
  else if s.io.isl[n].st == .off then s
  else
    let s1 := overAll cs (fun c t => if isAi new.channels[c] then onAi c (fun a => { a with uncal := true }) t else t) s
    onIsl n (fun i => { i with configDue := true }) s1

/-! ### Stations and links (R162, R261) -/

/-- A station that is brought in anew from step 2. -/
def restartedStn (now : Nat) (k : Stn) : Stn :=
  { k with
    st := .ident, cause := 0, lastChange := now, outSince := now, missed := 0, good := 0, samples := [], parts := [], started := false
    quiet := true }

/-- Restart a station: no error task is released. -/
def renewStation (l : Fin 24) (p : Fin 32) (s : State) : State :=
  let s1 := logEv 0x3004 false [(1, l.val), (1, p.val)] (onStn l p (restartedStn s.tb.now) s)
  if valeDecides s then askIdent l p s1 else s1

/-- A station that no entry names any more: its counts stay, whoever waits for it is told that the command is not valid now. -/
def dropStation (l : Fin 24) (p : Fin 32) (s : State) : State :=
  let a := s.links[l].stns[p].asker
  answerOpt a .lnk 4 (onBring l p (fun _ => {})
    (onStn l p (fun k => { ({} : Stn) with base := k.base, acc := k.acc, lat := k.lat }) s))

/-- P_in, Λ or the watchdog of an unchanged station differ. -/
def startDiffers (old new : Image) (e : StationEntry) : Bool :=
  let on := fun (i : Image) => i.tasks.filter (fun t => t.enable)
  let stns := fun (i : Image) => i.stations.filter (fun x => x.link == e.link)
  inputPeriodIn (on old) e != inputPeriodIn (on new) e || leadOf (stns old) != leadOf (stns new)
  || watchdogIn (on old) e != watchdogIn (on new) e

/-- What the end of a window does to the station of an entry, on a link whose own entry has not changed. -/
def reconfigStation (old new : Image) (e : StationEntry) (s : State) : State :=
  match old.stations.find? (fun o => o.link == e.link && o.pos == e.pos) with
  | none => if valeDecides s then askIdent e.link e.pos (showStep e.link e.pos .ident s) else s
  | some o =>
    if o ≠ e then renewStation e.link e.pos s
    else if startDiffers old new e && valeDecides s && startSent s e.link e.pos then sendStart e.link e.pos 1 s
    else s

/-- A link whose entry has changed: enumerated again, and every station that it had and has is restarted. -/
def renewLink (old : Image) (l : Fin 24) (s : State) : State :=
  let s1 := if valeDecides s && s.links[l].up then enumerate l s else s
  overAll (linkStations s l) (fun e t =>
    if old.stations.any (fun o => o.link == l && o.pos == e.pos) then renewStation l e.pos t
    else if valeDecides t then askIdent l e.pos (showStep l e.pos .ident t) else t) s1

/-- What the end of a window does to a link. -/
def reconfigLink (old new : Image) (l : Fin 24) (s : State) : State :=
  let gone := old.stations.filter (fun o => o.link == l && !(new.links[l].enabled && new.stations.any (fun e => e.link == l && e.pos == o.pos)))
  let s1 := overAll gone (fun o t => dropStation l o.pos t) s
  if !new.links[l].enabled then onLink l (fun k => { k with enumerated := false }) s1
  else if old.links[l] ≠ new.links[l] then renewLink old l s1
  else overAll (linkStations s1 l) (reconfigStation old new) s1

/-! ### CAN ports (R162, R381) -/

/-- A disabled port: its frames go; one that is on the wire completes. -/
def disableBuf (b : TxBuf) : TxBuf := if b.st == .active then { b with next := none, abort := true } else {}

/-- The frames that disabling a port discards. -/
def discardedFrames (k : Can) : Nat := pendingCount k + (List.finRange 32).countP (fun b => k.tx[b].st == .active && k.tx[b].next.isSome)

/-- What the end of a window does to a port. -/
def reconfigCan (old new : Image) (p : Fin 4) (s : State) : State :=
  if old.can[p] = new.can[p] then s
  else if new.can[p].enabled then
    logEv 0x5010 false [(1, p.val), (1, 0), (2, 0)]
      (onCan p (fun k => { k with integrating := true, state := if old.can[p].enabled then k.state else 0 }) s)
  else if !old.can[p].enabled then s
  else
    let n := discardedFrames s.can[p]
    logEv 0x5010 false [(1, p.val), (1, 1), (2, n)] (onCan p (fun k => { k with
      state := 3, integrating := false, own := [], tx := updAll k.tx (fun _ b => disableBuf b)
      acc := { k.acc with abort := satAdd max32 k.acc.abort n } }) s)

/-! ### Panel, time, supply -/

/-- The PANEL sections of two images differ. -/
def panelChanged (old new : Image) : Bool :=
  old.regions != new.regions || old.settings.frameRate != new.settings.frameRate || old.settings.panelLow != new.settings.panelLow
  || old.settings.panelTimeout != new.settings.panelTimeout

/-- The core supply never lies above the ceiling (R425). -/
def lowerToCeiling (s : State) : State := { s with tel := noteCore { s.tel with core := min s.tel.core (2 * ceiling s) } }

/-- Everything that a change of the image reconfigures at the end of its window; what is equal in both goes on. -/
def reconfigure (old new : Image) (s : State) : State :=
  let s1 := overAll (List.finRange 24) (reconfigIsland old new) s
  let s2 := overAll (List.finRange 24) (reconfigLink old new) s1
  let s3 := overAll (List.finRange 4) (reconfigCan old new) s2
  let s4 := lowerToCeiling (configurePtp (if panelChanged old new then changeLayout s3 else s3))
  if old.settings.statMs ≠ new.settings.statMs then shortInterval s4 else s4

/-! ### Held triggers (R160, R165) -/

/-- A held trigger with the task of the old image that it is for goes to the task of the same number, if that has the same trigger and
arguments. Answers whether it was discarded. -/
def deliverHeld (new : Image) (x : TaskEntry × Trig) (s : State) : State × Bool :=
  match new.tasks.find? (fun e => e.num == x.1.num) with
  | some e => if sameTrigger e x.1 then (offerTrigger e x.2 s, false) else (s, true)
  | none => (s, true)

/-- The tasks that a held trigger is for: those of the old image, or the power-fail task of the new one. -/
def windowTasks (old new : Image) (g : TrigReg) : List (TaskEntry × Trig) :=
  match g with
  | .matching 7 _ _ t => (new.tasks.filter (fun e => e.event && e.trigger == 7)).map (fun e => (e, t))
  | .matching _ _ _ _ => tasksFor old g
  | .reasonFor _ _ => tasksFor old g
  | .release _ _ => tasksFor old g

/-- Deliver the held triggers. Answers how many were discarded. -/
def deliverAllHeld (old new : Image) (gs : List TrigReg) (s : State) : State × Nat :=
  (gs.flatMap (windowTasks old new)).foldl (fun (y : State × Nat) x =>
    let (s1, gone) := deliverHeld new x y.1
    (s1, y.2 + bitNat gone)) (s, 0)

/-! ### The end of the window (R157 step 5, R158, R160, R163, R164) -/

/-- The granules that the window wrote for no task, and those that a task which the new image lacks has not mirrored, go as a message of
their own, under the new MIRR section. -/
def mirrorUnowned (touched : List Nat) (new : Image) (s : State) : State :=
  let owned := (List.finRange 128).flatMap (fun t => taskGranules new t touched)
  let gone := (List.finRange 128).filter (fun t => !new.tasks.any (fun e => e.num == t))
  let left := gone.flatMap (fun t => s.tsk.rt[t].dirty)
  let gs := (touched.filter (fun g => !owned.contains g) ++ left).dedup.filter (isMirrored s)
  let s1 := { s with tsk := { s.tsk with rt := updAll s.tsk.rt (fun t r => if gone.contains t then { r with dirty := [] } else r) } }
  if gs.isEmpty then s1
  else
    let (id, s2) := freshId s1
    sendMirror none (BitVec.ofNat 32 id) gs s.lsk.unchecked s2

/-- Serve an access that waited, under the new colours. -/
def serveHeld (i : Instr) (s : State) : State :=
  match i with
  | .read se tag addr len chk => if sesOpen s se then readAt se tag addr len chk s else s
  | .write se ack tag addr data _ => if sesOpen s se then writeAt se ack tag addr data s else s
  | .fence se tag => if sesOpen s se then openFence se tag s else s
  | .relayedWriteReceive _ m => relayedWriteReceive m s
  | .relayVerdictReceive _ id status result => relayVerdictReceive id status result s
  | _ => s

/-- The accesses that waited for the end of the window, in order. -/
def serveAllHeld (s : State) : State := overAll s.ses.held serveHeld { s with ses := { s.ses with held := [] } }

/-- The window closes: what it held is released, under the new image. Answers the releases dropped and the triggers discarded. -/
def closeWindow (old new : Image) (s : State) : State × Nat × Nat :=
  let gs := s.tsk.heldTrigs
  let s1 := { s with
    tsk := { s.tsk with
      switch := none, heldTrigs := []
      rt := updAll s.tsk.rt (fun _ r => { r with consec := 0, overrunFired := false, change := true }) }
    img := { s.img with idle := .armed } }
  let (s2, dropped) := releaseAllHeld s1.tb.now true s1
  let s3 := handleTrigger (.matching 8 0 0 ⟨8, 0, s2.tb.now, 0, BitVec.ofNat 32 new.ident.toNat, s2.tb.now⟩) s2
  let (s4, gone) := deliverAllHeld old new gs s3
  (takeAllNotices (overAll (gs.filterMap hostStamp) settleNotices s4), dropped, gone)

/-- The window ends. -/
def windowEnds (q : SwitchReq) (old new : Image) (s : State) : State :=
  let now := s.tb.now
  let (s1, dropped, gone) := closeWindow old new (reconfigure old new s)
  let fields := [(4, now - q.r), (4, q.granules), (2, q.varsDropped), (2, q.forcesDropped), (1, min 255 dropped), (1, min 255 gone)]
  let s2 := logEv 0x8200 false fields s1
  let s3 := { s2 with
    tsk := { s2.tsk with lastSwitch := (q.r, recData fields) }
    mem := { s2.mem with terrDue := some (now + 50 * ms) } }
  let s4 := mirrorUnowned q.touched new s3
  serveAllHeld (changeReply q.asker q.tag 0 q.r (recData fields) s4)

/-- SWITCH_WINDOW_END: at the end of the window, not before. -/
def switchWindowEnd (s : State) : State :=
  match s.tsk.switch, s.img.idleImg, s.img.run with
  | some q, some old, some new => if q.phase == .window && decide (q.windowEnd ≤ s.tb.now) then windowEnds q old new s else s
  | _, _, _ => s

/-- SWITCH_WINDOW_END (R48, R98, R151, R157, R158, R160 to R164, R261, R287, R309, R320, R349, R361, R381, R460). -/
def execSwitchWindowEnd (s : State) : Host.Outcome State Fault Refusal := .next (switchWindowEnd s)

end Sys2Proof.Machine
end

