-- ==== Sys2Proof/Machine/Dispatch.lean ====
section
/-!
DEFINITION. The meaning of every command: one arm for each row of spec/opcode_table.json.
-/

namespace Sys2Proof.Machine

/-- The effect of a command on everything but the queue. -/
def exec (i : Instr) (s : State) : Host.Outcome State Fault Refusal :=
  match i with
  | .memoryScrub chk => Sys2Proof.Machine.execMemoryScrub chk s
  | .persistentWriteReadback ok => Sys2Proof.Machine.execPersistentWriteReadback ok s
  | .taskRelease t chk => Sys2Proof.Machine.execTaskRelease t chk s
  | .eventRelease chk => Sys2Proof.Machine.execEventRelease chk s
  | .slotFiring lane tile slot parity => Sys2Proof.Machine.execSlotFiring lane tile slot parity s
  | .tokenHop lane tile dir => Sys2Proof.Machine.execTokenHop lane tile dir s
  | .routineStart lane core => Sys2Proof.Machine.execRoutineStart lane core s
  | .coreInstruction lane core op chk => Sys2Proof.Machine.execCoreInstruction lane core op chk s
  | .svcRecorderEntry core code sev data => Sys2Proof.Machine.execSvcRecorderEntry core code sev data s
  | .svcCanQueue core port buf frame => Sys2Proof.Machine.execSvcCanQueue core port buf frame s
  | .svcCanAbort core port buf => Sys2Proof.Machine.execSvcCanAbort core port buf s
  | .svcCanRead core port => Sys2Proof.Machine.execSvcCanRead core port s
  | .svcUrgent core c => Sys2Proof.Machine.execSvcUrgent core c s
  | .svcOwtest core c testVoltage => Sys2Proof.Machine.execSvcOwtest core c testVoltage s
  | .svcCntpreset core c value => Sys2Proof.Machine.execSvcCntpreset core c value s
  | .svcCntreset core c => Sys2Proof.Machine.execSvcCntreset core c s
  | .svcPanelUpdate core region text icons => Sys2Proof.Machine.execSvcPanelUpdate core region text icons s
  | .inboundWordDelivery stream chk => Sys2Proof.Machine.execInboundWordDelivery stream chk s
  | .colWordCompare lane stream changed fault chk => Sys2Proof.Machine.execColWordCompare lane stream changed fault chk s
  | .colMissingWord stream => Sys2Proof.Machine.execColMissingWord stream s
  | .taskCompletion t chk => Sys2Proof.Machine.execTaskCompletion t chk s
  | .mirrorApply via msg => Sys2Proof.Machine.execMirrorApply via msg s
  | .releaseNoticeReceive via notice => Sys2Proof.Machine.execReleaseNoticeReceive via notice s
  | .noticeTimeout t => Sys2Proof.Machine.execNoticeTimeout t s
  | .statisticsBoundary => Sys2Proof.Machine.execStatisticsBoundary s
  | .healthReportReceive via report => Sys2Proof.Machine.execHealthReportReceive via report s
  | .tskHevt se value => Sys2Proof.Machine.execTskHevt se value s
  | .oscillatorCompensation temp plDiffPpm => Sys2Proof.Machine.execOscillatorCompensation temp plDiffPpm s
  | .ptpSyncReceive m => Sys2Proof.Machine.execPtpSyncReceive m s
  | .ptpAnnounceReceive m => Sys2Proof.Machine.execPtpAnnounceReceive m s
  | .ptpHoldoverTimeout => Sys2Proof.Machine.execPtpHoldoverTimeout s
  | .ptpListeningTimeout => Sys2Proof.Machine.execPtpListeningTimeout s
  | .timeMappingInterval => Sys2Proof.Machine.execTimeMappingInterval s
  | .heartbeatReceive via h => Sys2Proof.Machine.execHeartbeatReceive via h s
  | .pairAlignmentLoss => Sys2Proof.Machine.execPairAlignmentLoss s
  | .valeTimeSend => Sys2Proof.Machine.execValeTimeSend s
  | .change se tag ident => Sys2Proof.Machine.execChange se tag ident s
  | .switchCandidateReceive via r swap => Sys2Proof.Machine.execSwitchCandidateReceive via r swap s
  | .switchInstant => Sys2Proof.Machine.execSwitchInstant s
  | .switchVerdictReceive via ready => Sys2Proof.Machine.execSwitchVerdictReceive via ready s
  | .switchVerdictTimeout => Sys2Proof.Machine.execSwitchVerdictTimeout s
  | .switchSearchTimeout => Sys2Proof.Machine.execSwitchSearchTimeout s
  | .switchWindowEnd => Sys2Proof.Machine.execSwitchWindowEnd s
  | .terraceRecordWrite => Sys2Proof.Machine.execTerraceRecordWrite s
  | .frcSet se => Sys2Proof.Machine.execFrcSet se s
  | .frcClear se => Sys2Proof.Machine.execFrcClear se s
  | .frcClearall se => Sys2Proof.Machine.execFrcClearall se s
  | .forceChangeReceive via id op at_ => Sys2Proof.Machine.execForceChangeReceive via id op at_ s
  | .forceActivation => Sys2Proof.Machine.execForceActivation s
  | .imageChunk se tag offset data => Sys2Proof.Machine.execImageChunk se tag offset data s
  | .forwardedChunkReceive via offset data => Sys2Proof.Machine.execForwardedChunkReceive via offset data s
  | .verificationComplete => Sys2Proof.Machine.execVerificationComplete s
  | .imageStoreComplete ok => Sys2Proof.Machine.execImageStoreComplete ok s
  | .arm se => Sys2Proof.Machine.execArm se s
  | .armComplete changedA changedB => Sys2Proof.Machine.execArmComplete changedA changedB s
  | .partnerArmedReport via code => Sys2Proof.Machine.execPartnerArmedReport via code s
  | .disarm se => Sys2Proof.Machine.execDisarm se s
  | .abort se => Sys2Proof.Machine.execAbort se s
  | .clear se => Sys2Proof.Machine.execClear se s
  | .archive se arg => Sys2Proof.Machine.execArchive se arg s
  | .restore se arg => Sys2Proof.Machine.execRestore se arg s
  | .key se tag stmt sig => Sys2Proof.Machine.execKey se tag stmt sig s
  | .keyOpForwardReceive via id stmt => Sys2Proof.Machine.execKeyOpForwardReceive via id stmt s
  | .idleSweepPass changedA changedB => Sys2Proof.Machine.execIdleSweepPass changedA changedB s
  | .debugCredential cred probeKey => Sys2Proof.Machine.execDebugCredential cred probeKey s
  | .debugHalt lane relinquish => Sys2Proof.Machine.execDebugHalt lane relinquish s
  | .debugStep => Sys2Proof.Machine.execDebugStep s
  | .debugResume => Sys2Proof.Machine.execDebugResume s
  | .debugRead target chk => Sys2Proof.Machine.execDebugRead target chk s
  | .debugWrite addr data => Sys2Proof.Machine.execDebugWrite addr data s
  | .commissionOn se => Sys2Proof.Machine.execCommissionOn se s
  | .commissionOff se => Sys2Proof.Machine.execCommissionOff se s
  | .recheck se => Sys2Proof.Machine.execRecheck se s
  | .recheckInstant => Sys2Proof.Machine.execRecheckInstant s
  | .recheckTimeout => Sys2Proof.Machine.execRecheckTimeout s
  | .saddleLinkDown l inFlight => Sys2Proof.Machine.execSaddleLinkDown l inFlight s
  | .saddleSilenceTimeout l inFlight => Sys2Proof.Machine.execSaddleSilenceTimeout l inFlight s
  | .saddleLinkUp l => Sys2Proof.Machine.execSaddleLinkUp l s
  | .leaseRenewalRound chk => Sys2Proof.Machine.execLeaseRenewalRound chk s
  | .witnessAckReceive m => Sys2Proof.Machine.execWitnessAckReceive m s
  | .leaseEnd => Sys2Proof.Machine.execLeaseEnd s
  | .standbyLeaseExpiry => Sys2Proof.Machine.execStandbyLeaseExpiry s
  | .claimRound => Sys2Proof.Machine.execClaimRound s
  | .claimAnnounceReceive via epoch => Sys2Proof.Machine.execClaimAnnounceReceive via epoch s
  | .grantReceive m chk => Sys2Proof.Machine.execGrantReceive m chk s
  | .denyReceive m => Sys2Proof.Machine.execDenyReceive m s
  | .swap se => Sys2Proof.Machine.execSwap se s
  | .roleSwapDue => Sys2Proof.Machine.execRoleSwapDue s
  | .swapInstant => Sys2Proof.Machine.execSwapInstant s
  | .yieldReceive via epoch successor => Sys2Proof.Machine.execYieldReceive via epoch successor s
  | .voltageReleaseConfirmReceive via => Sys2Proof.Machine.execVoltageReleaseConfirmReceive via s
  | .swapReclaimTimeout => Sys2Proof.Machine.execSwapReclaimTimeout s
  | .resync se => Sys2Proof.Machine.execResync se s
  | .resyncComplete granules forces => Sys2Proof.Machine.execResyncComplete granules forces s
  | .canTxConfirmReceive via port buf task cycle => Sys2Proof.Machine.execCanTxConfirmReceive via port buf task cycle s
  | .standbyConfirmationReceive via id => Sys2Proof.Machine.execStandbyConfirmationReceive via id s
  | .relayedWriteReceive via m => Sys2Proof.Machine.execRelayedWriteReceive via m s
  | .relayVerdictReceive via id status result => Sys2Proof.Machine.execRelayVerdictReceive via id status result s
  | .partnerPresenceChange present => Sys2Proof.Machine.execPartnerPresenceChange present s
  | .valeInputReceive f => Sys2Proof.Machine.execValeInputReceive f s
  | .relayedSampleReceive via m => Sys2Proof.Machine.execRelayedSampleReceive via m s
  | .sampleDue l p => Sys2Proof.Machine.execSampleDue l p s
  | .identRespReceive m => Sys2Proof.Machine.execIdentRespReceive m s
  | .paramAckReceive l p epoch offset result reason => Sys2Proof.Machine.execParamAckReceive l p epoch offset result reason s
  | .startAckReceive l p epoch result => Sys2Proof.Machine.execStartAckReceive l p epoch result s
  | .stationStatusReceive m => Sys2Proof.Machine.execStationStatusReceive m s
  | .stationReplyTimeout l p => Sys2Proof.Machine.execStationReplyTimeout l p s
  | .stationSearchPoll l => Sys2Proof.Machine.execStationSearchPoll l s
  | .stationRefusedRetry l p => Sys2Proof.Machine.execStationRefusedRetry l p s
  | .valePortUp l => Sys2Proof.Machine.execValePortUp l s
  | .valePortDown l => Sys2Proof.Machine.execValePortDown l s
  | .partnerFrameReceive m => Sys2Proof.Machine.execPartnerFrameReceive m s
  | .pdelayMeasurement l => Sys2Proof.Machine.execPdelayMeasurement l s
  | .pdelayRespReceive l epoch t4 turn => Sys2Proof.Machine.execPdelayRespReceive l epoch t4 turn s
  | .pdelayReqReceive l epoch t2 => Sys2Proof.Machine.execPdelayReqReceive l epoch t2 s
  | .eventOutputRepeat => Sys2Proof.Machine.execEventOutputRepeat s
  | .lnkRestart se p => Sys2Proof.Machine.execLnkRestart se p s
  | .lnkRestartLink se => Sys2Proof.Machine.execLnkRestartLink se s
  | .lnkRetry se p => Sys2Proof.Machine.execLnkRetry se p s
  | .fordPeriod => Sys2Proof.Machine.execFordPeriod s
  | .fordReturnFrame n crcOk => Sys2Proof.Machine.execFordReturnFrame n crcOk s
  | .islandFrameAccept n crcOk fault arrival => Sys2Proof.Machine.execIslandFrameAccept n crcOk fault arrival s
  | .logicSilenceTimeout n => Sys2Proof.Machine.execLogicSilenceTimeout n s
  | .islandVbMeasurement n mV temp => Sys2Proof.Machine.execIslandVbMeasurement n mV temp s
  | .calIsland se => Sys2Proof.Machine.execCalIsland se s
  | .urgent se => Sys2Proof.Machine.execUrgent se s
  | .owtest se => Sys2Proof.Machine.execOwtest se s
  | .calload se => Sys2Proof.Machine.execCalload se s
  | .cntpreset se => Sys2Proof.Machine.execCntpreset se s
  | .cntreset se => Sys2Proof.Machine.execCntreset se s
  | .supplyRelease se => Sys2Proof.Machine.execSupplyRelease se s
  | .islRestart se => Sys2Proof.Machine.execIslRestart se s
  | .channelCommandForwardReceive via id cmd at_ => Sys2Proof.Machine.execChannelCommandForwardReceive via id cmd at_ s
  | .channelCommandActivation => Sys2Proof.Machine.execChannelCommandActivation s
  | .islandRestartPowerOn n => Sys2Proof.Machine.execIslandRestartPowerOn n s
  | .calibrationComplete n factors => Sys2Proof.Machine.execCalibrationComplete n factors s
  | .aiConversionComplete c code m => Sys2Proof.Machine.execAiConversionComplete c code m s
  | .urgentComplete c code m => Sys2Proof.Machine.execUrgentComplete c code m s
  | .urgentResultReceive via c value stamp => Sys2Proof.Machine.execUrgentResultReceive via c value stamp s
  | .urgentResultTimeout c => Sys2Proof.Machine.execUrgentResultTimeout c s
  | .openwireTestStart c => Sys2Proof.Machine.execOpenwireTestStart c s
  | .openwireTestComplete c obs => Sys2Proof.Machine.execOpenwireTestComplete c obs s
  | .cjMeasurement n temp => Sys2Proof.Machine.execCjMeasurement n temp s
  | .cjFaultEnd n => Sys2Proof.Machine.execCjFaultEnd n s
  | .readbackConversion c value ownMicro totalMicro vterm => Sys2Proof.Machine.execReadbackConversion c value ownMicro totalMicro vterm s
  | .aoThermalCrossing c temp => Sys2Proof.Machine.execAoThermalCrossing c temp s
  | .complianceEntry c vterm deliveredMicro => Sys2Proof.Machine.execComplianceEntry c vterm deliveredMicro s
  | .complianceClearTimeout c => Sys2Proof.Machine.execComplianceClearTimeout c s
  | .aoOpenLoopTimeout c => Sys2Proof.Machine.execAoOpenLoopTimeout c s
  | .voltageOutputLeaseEnd n => Sys2Proof.Machine.execVoltageOutputLeaseEnd n s
  | .diTerminalSample c vterm => Sys2Proof.Machine.execDiTerminalSample c vterm s
  | .diFilterExpiry c => Sys2Proof.Machine.execDiFilterExpiry c s
  | .diWirebreakTimeout c => Sys2Proof.Machine.execDiWirebreakTimeout c s
  | .doComplianceTimeout c => Sys2Proof.Machine.execDoComplianceTimeout c s
  | .doThermalShutdown c temp => Sys2Proof.Machine.execDoThermalShutdown c temp s
  | .doThermalRetry c => Sys2Proof.Machine.execDoThermalRetry c s
  | .doThermalClear c temp => Sys2Proof.Machine.execDoThermalClear c temp s
  | .doOpenLoadTimeout c => Sys2Proof.Machine.execDoOpenLoadTimeout c s
  | .doExtdriveTimeout c => Sys2Proof.Machine.execDoExtdriveTimeout c s
  | .gangImbalanceTimeout c => Sys2Proof.Machine.execGangImbalanceTimeout c s
  | .pwmPeriodStart c => Sys2Proof.Machine.execPwmPeriodStart c s
  | .pwmOff c => Sys2Proof.Machine.execPwmOff c s
  | .lplusMeasurement n v10 => Sys2Proof.Machine.execLplusMeasurement n v10 s
  | .lplusRestoreTimeout n => Sys2Proof.Machine.execLplusRestoreTimeout n s
  | .canTxStart p => Sys2Proof.Machine.execCanTxStart p s
  | .canTxComplete p => Sys2Proof.Machine.execCanTxComplete p s
  | .canTxError p err dataPhase passiveNoDominant => Sys2Proof.Machine.execCanTxError p err dataPhase passiveNoDominant s
  | .canFrameReceive p frame stamp => Sys2Proof.Machine.execCanFrameReceive p frame stamp s
  | .canRxNoticeReceive via p frame filter stamp completion => Sys2Proof.Machine.execCanRxNoticeReceive via p frame filter stamp completion s
  | .canBusoffRecovery p => Sys2Proof.Machine.execCanBusoffRecovery p s
  | .open_ conn tag cred => Sys2Proof.Machine.execOpen conn tag cred s
  | .openTimeout conn => Sys2Proof.Machine.execOpenTimeout conn s
  | .close se tag => Sys2Proof.Machine.execClose se tag s
  | .keepalive se tag => Sys2Proof.Machine.execKeepalive se tag s
  | .read se tag addr len chk => Sys2Proof.Machine.execRead se tag addr len chk s
  | .write se ack tag addr data chk => Sys2Proof.Machine.execWrite se ack tag addr data chk s
  | .fence se tag => Sys2Proof.Machine.execFence se tag s
  | .historyRead se tag buffer offset len chk => Sys2Proof.Machine.execHistoryRead se tag buffer offset len chk s
  | .firmwareChunk se tag offset data last => Sys2Proof.Machine.execFirmwareChunk se tag offset data last s
  | .firmwareVerifyComplete version pairMin pairMax valid => Sys2Proof.Machine.execFirmwareVerifyComplete version pairMin pairMax valid s
  | .sessionIdleTimeout se => Sys2Proof.Machine.execSessionIdleTimeout se s
  | .tlsAlert se => Sys2Proof.Machine.execTlsAlert se s
  | .wakeKey => Sys2Proof.Machine.execWakeKey s
  | .enrolmentWakeHold => Sys2Proof.Machine.execEnrolmentWakeHold s
  | .enrolmentTimeout => Sys2Proof.Machine.execEnrolmentTimeout s
  | .enrolmentSessionClose => Sys2Proof.Machine.execEnrolmentSessionClose s
  | .acquire se => Sys2Proof.Machine.execAcquire se s
  | .release se => Sys2Proof.Machine.execRelease se s
  | .claimLapseTimeout => Sys2Proof.Machine.execClaimLapseTimeout s
  | .sesClose se => Sys2Proof.Machine.execSesClose se s
  | .breakClaim se => Sys2Proof.Machine.execBreakClaim se s
  | .sesViolclr se value => Sys2Proof.Machine.execSesViolclr se value s
  | .sesMapsync se value => Sys2Proof.Machine.execSesMapsync se value s
  | .mapsyncComplete se => Sys2Proof.Machine.execMapsyncComplete se s
  | .chDiag se value => Sys2Proof.Machine.execChDiag se value s
  | .loRegisterRead se off => Sys2Proof.Machine.execLoRegisterRead se off s
  | .chAiValLoRead se => Sys2Proof.Machine.execChAiValLoRead se s
  | .chAiUrgvalLoRead se => Sys2Proof.Machine.execChAiUrgvalLoRead se s
  | .evrWin0Read se => Sys2Proof.Machine.execEvrWin0Read se s
  | .evrWin7Read se => Sys2Proof.Machine.execEvrWin7Read se s
  | .registerWrite se off value => Sys2Proof.Machine.execRegisterWrite se off value s
  | .supplyInputMeasurement inA inB bus => Sys2Proof.Machine.execSupplyInputMeasurement inA inB bus s
  | .supplyRecovery => Sys2Proof.Machine.execSupplyRecovery s
  | .inputLossTimeout b => Sys2Proof.Machine.execInputLossTimeout b s
  | .inputRestoreTimeout b => Sys2Proof.Machine.execInputRestoreTimeout b s
  | .railPowerGood rail capacitance => Sys2Proof.Machine.execRailPowerGood rail capacitance s
  | .railSequenceTimeout rail => Sys2Proof.Machine.execRailSequenceTimeout rail s
  | .railSequenceRetry => Sys2Proof.Machine.execRailSequenceRetry s
  | .railFault rail mV => Sys2Proof.Machine.execRailFault rail mV s
  | .holdupStopLevel => Sys2Proof.Machine.execHoldupStopLevel s
  | .holdupRecorderCloseLevel => Sys2Proof.Machine.execHoldupRecorderCloseLevel s
  | .holdupResetLevel => Sys2Proof.Machine.execHoldupResetLevel s
  | .holdupPanelEnd => Sys2Proof.Machine.execHoldupPanelEnd s
  | .holdupRecharged => Sys2Proof.Machine.execHoldupRecharged s
  | .stoppedRecoveryTimeout => Sys2Proof.Machine.execStoppedRecoveryTimeout s
  | .ceilingHold se => Sys2Proof.Machine.execCeilingHold se s
  | .track se => Sys2Proof.Machine.execTrack se s
  | .holdupTest se => Sys2Proof.Machine.execHoldupTest se s
  | .holdupTestComplete capacitance => Sys2Proof.Machine.execHoldupTestComplete capacitance s
  | .marginControlPeriod => Sys2Proof.Machine.execMarginControlPeriod s
  | .marginlowClearTimeout => Sys2Proof.Machine.execMarginlowClearTimeout s
  | .telemetryMeasurement temps rails pin chk => Sys2Proof.Machine.execTelemetryMeasurement temps rails pin chk s
  | .operatingTimeSave => Sys2Proof.Machine.execOperatingTimeSave s
  | .recordWrite chk => Sys2Proof.Machine.execRecordWrite chk s
  | .recordComplete => Sys2Proof.Machine.execRecordComplete s
  | .rateBucketFull code => Sys2Proof.Machine.execRateBucketFull code s
  | .evrClear se => Sys2Proof.Machine.execEvrClear se s
  | .recorderClearComplete => Sys2Proof.Machine.execRecorderClearComplete s
  | .setrate se => Sys2Proof.Machine.execSetrate se s
  | .ratedefault se => Sys2Proof.Machine.execRatedefault se s
  | .panelFrameStart => Sys2Proof.Machine.execPanelFrameStart s
  | .update se => Sys2Proof.Machine.execUpdate se s
  | .wake se => Sys2Proof.Machine.execWake se s
  | .panelLowpowerTimeout => Sys2Proof.Machine.execPanelLowpowerTimeout s
  | .restartWarm se => Sys2Proof.Machine.execRestartWarm se s
  | .restartCold se => Sys2Proof.Machine.execRestartCold se s
  | .stop se => Sys2Proof.Machine.execStop se s
  | .fwActivate se => Sys2Proof.Machine.execFwActivate se s
  | .fwAbort se => Sys2Proof.Machine.execFwAbort se s
  | .bootComplete fwOk fwOtherOk selfTest slot => Sys2Proof.Machine.execBootComplete fwOk fwOtherOk selfTest slot s
  | .configPartnerListen partner => Sys2Proof.Machine.execConfigPartnerListen partner s
  | .imageFetchComplete data => Sys2Proof.Machine.execImageFetchComplete data s
  | .configComplete => Sys2Proof.Machine.execConfigComplete s
  | .joinDecision partner => Sys2Proof.Machine.execJoinDecision partner s
  | .joinWaitTimeout => Sys2Proof.Machine.execJoinWaitTimeout s
  | .fullMirrorComplete granules forces join => Sys2Proof.Machine.execFullMirrorComplete granules forces join s
  | .joinInstant => Sys2Proof.Machine.execJoinInstant s
  | .partnerReadingsReceive via t cycle readings => Sys2Proof.Machine.execPartnerReadingsReceive via t cycle readings s
  | .partnerReadingsTimeout t => Sys2Proof.Machine.execPartnerReadingsTimeout t s
  | .partnerStationMapReceive via maps => Sys2Proof.Machine.execPartnerStationMapReceive via maps s
  | .ptpDelayRespReceive m => Sys2Proof.Machine.execPtpDelayRespReceive m s
  | .ptpFollowUpReceive m => Sys2Proof.Machine.execPtpFollowUpReceive m s
  | .ringOpenTimeout l => Sys2Proof.Machine.execRingOpenTimeout l s
  | .partnerShareVanished n mask restoreMicros => Sys2Proof.Machine.execPartnerShareVanished n mask restoreMicros s
  | .canRxError p err dataPhase dominantAfterFlag => Sys2Proof.Machine.execCanRxError p err dataPhase dominantAfterFlag s
  | .canIntegrationComplete p => Sys2Proof.Machine.execCanIntegrationComplete p s
  | .tlsHandshakeComplete conn port ip clientKey => Sys2Proof.Machine.execTlsHandshakeComplete conn port ip clientKey s
  | .debugCredentialLapse => Sys2Proof.Machine.execDebugCredentialLapse s
  | .powerApplied inA inB => Sys2Proof.Machine.execPowerApplied inA inB s
  | .archiveComplete ok => Sys2Proof.Machine.execArchiveComplete ok s
  | .restoreCopyComplete => Sys2Proof.Machine.execRestoreCopyComplete s
  | .partnerArmOrderReceive via => Sys2Proof.Machine.execPartnerArmOrderReceive via s
  | .idleImageFetchComplete data arm => Sys2Proof.Machine.execIdleImageFetchComplete data arm s

end Sys2Proof.Machine
end

