-- ==== Sys2Proof/Machine/Step.lean ====
section
/-!
DEFINITION. One step of the block: the command at the front of the queue, or one period of the TB domain when no command
waits.
-/

namespace Sys2Proof.Machine

/-- One step. With a command in front, its meaning on the state with the queue's rest; with none, one period of the TB
domain passes (R126; DESIGN CHOICE, log 1). -/
def step (s : State) : Host.Outcome State Fault Refusal :=
  match s.pending with
  | [] => .next (Sys2Proof.Machine.tick s)
  | c :: q => exec c { s with pending := q }

/-- `s` with the command that a word spells in front of its queue; `s` itself where the word spells none. -/
def State.withFetchWord (s : State) (nbits w : Nat) : State :=
  match decodeTableWord nbits w with
  | some c => { s with pending := c :: s.pending }
  | none => s

end Sys2Proof.Machine
end

