-- ==== Sys2Proof/Safety.lean ====
section
/-!
DEFINITION. What counts as a safe run, in the terms the statements use: a step that goes on, and an invariant that steps
keep.
-/

namespace Sys2Proof.Machine

/-- The step goes on: it ends neither in a fault nor in a refusal. -/
def StepGoesOn (s : State) : Prop := ∃ t, step s = .next t

/-- The command completes: it answers a next state, of which `p` holds. -/
def Completes (c : Instr) (s : State) (p : State → Prop) : Prop := ∃ t, exec c s = .next t ∧ p t

/-- `inv` is kept by every step that goes on. -/
def KeptByStep (inv : State → Prop) : Prop :=
  ∀ s t, inv s → step s = .next t → inv t

/-- `inv` is kept by one command. -/
def KeptByExec (inv : State → Prop) (c : Instr) : Prop :=
  ∀ s t, inv s → exec c s = .next t → inv t

/-- Parts of the state that a command may change. -/
structure Parts where
  cells : Bool := false
  store : Bool := false
  tb : Bool := false
  tbAcc : Bool := false
  tbLat : Bool := false
  tsk : Bool := false
  img : Bool := false
  keys : Bool := false
  frc : Bool := false
  laneA : Bool := false
  laneB : Bool := false
  lsk : Bool := false
  pair : Bool := false
  lease : Bool := false
  mir : Bool := false
  links : Bool := false
  io : Bool := false
  can : Bool := false
  ses : Bool := false
  pwr : Bool := false
  tel : Bool := false
  evr : Bool := false
  lcd : Bool := false
  mod : Bool := false
  out : Bool := false
  flight : Bool := false
  free : Bool := false
  deriving DecidableEq, Repr

/-- `t` differs from `s` in the named parts only. Memory's bytes are apart from the store (`cells`, `store`), the key table from the rest
of the image controller (`keys`, `img`). The queue of commands never changes. -/
structure ChangesOnly (p : Parts) (s t : State) : Prop where
  pending : t.pending = s.pending
  cells : p.cells = false → t.mem.cells = s.mem.cells
  store : p.store = false → t.mem = { s.mem with cells := t.mem.cells }
  tb : p.tb = false → t.tb = s.tb
  tbAcc : p.tbAcc = false → t.tbAcc = s.tbAcc
  tbLat : p.tbLat = false → t.tbLat = s.tbLat
  tsk : p.tsk = false → t.tsk = s.tsk
  img : p.img = false → t.img = { s.img with keys := t.img.keys, revoked := t.img.revoked }
  keys : p.keys = false → t.img.keys = s.img.keys ∧ t.img.revoked = s.img.revoked
  frc : p.frc = false → t.frc = s.frc
  laneA : p.laneA = false → t.laneA = s.laneA
  laneB : p.laneB = false → t.laneB = s.laneB
  lsk : p.lsk = false → t.lsk = s.lsk
  pair : p.pair = false → t.pair = s.pair
  lease : p.lease = false → t.lease = s.lease
  mir : p.mir = false → t.mir = s.mir
  links : p.links = false → t.links = s.links
  io : p.io = false → t.io = s.io
  can : p.can = false → t.can = s.can
  ses : p.ses = false → t.ses = s.ses
  pwr : p.pwr = false → t.pwr = s.pwr
  tel : p.tel = false → t.tel = s.tel
  evr : p.evr = false → t.evr = s.evr
  lcd : p.lcd = false → t.lcd = s.lcd
  mod : p.mod = false → t.mod = s.mod
  out : p.out = false → t.out = s.out
  flight : p.flight = false → t.flight = s.flight
  free : p.free = false → t.free = s.free

/-! ### Messages of the partner -/

/-- The first copy of a control message, on a saddle link that is up (R204). -/
def firstCopy (v : Via) (s : State) : Bool :=
  s.mod.st != .off && s.mod.st != .boot && s.pair.up[v.link] && decide (s.pair.seqIn < v.seq)

/-- What every message that arrives on a link that is up leaves: its link's silence begins anew and its link's errors are counted (R204, R205). -/
def heardUp (v : Via) (s : State) : State :=
  { s with
    pair := { s.pair with lastMsg := upd s.pair.lastMsg v.link (fun _ => s.tb.now) }
    mir := { s.mir with acc := { s.mir.acc with
      sad0 := if v.link = 0 then satAdd max32 s.mir.acc.sad0 v.errs else s.mir.acc.sad0
      sad1 := if v.link = 1 then satAdd max32 s.mir.acc.sad1 v.errs else s.mir.acc.sad1 } } }

/-- The state in which the first copy of a control message takes effect: its sequence number is noted too (R204). -/
def noted (v : Via) (s : State) : State := { heardUp v s with pair := { (heardUp v s).pair with seqIn := v.seq } }

/-! ### Commands of sessions -/

/-- The session's command passes the checks that come first (R393, R489, R490) and is carried out by this module (R397). -/
def admitted (k : CmdReg) (se : Fin 64) (s : State) : Bool := sesOpen s se && (preCheck k se s).isNone && !mustRelay k s

/-- The state in which an admitted command begins: the session's last message and its count of writes are noted (R393, R406). -/
def asked (se : Fin 64) (s : State) : State := noteWrite se none (onSess se (fun x => { x with lastMsg := s.tb.now }) s)

/-- The register, the value and the session of a command that a session writes into a command register (R397, R486, R487). -/
def cmdOf (c : Instr) (s : State) : Option (CmdReg × W32 × Fin 64) :=
  match c with
  | .tskHevt se v => some (regHevt, v, se)
  | .frcSet se => some (regFrc, 1, se)
  | .frcClear se => some (regFrc, 2, se)
  | .frcClearall se => some (regFrc, 3, se)
  | .arm se => some (regImg, 2, se)
  | .disarm se => some (regImg, 3, se)
  | .abort se => some (regImg, 4, se)
  | .clear se => some (regImg, 5, se)
  | .archive se a => some (regImg, BitVec.ofNat 32 (a.toNat * 256 + 6), se)
  | .restore se a => some (regImg, BitVec.ofNat 32 (a.toNat * 256 + 7), se)
  | .commissionOn se => some (regLsk, 1, se)
  | .commissionOff se => some (regLsk, 2, se)
  | .recheck se => some (regLsk, 3, se)
  | .swap se => some (regPair, 1, se)
  | .resync se => some (regPair, 2, se)
  | .lnkRestart se p => some (linkReg s, BitVec.ofNat 32 (p.val * 256 + 1), se)
  | .lnkRestartLink se => some (linkReg s, 2, se)
  | .lnkRetry se p => some (linkReg s, BitVec.ofNat 32 (p.val * 256 + 3), se)
  | .calIsland se => some (regCh, 1, se)
  | .urgent se => some (regCh, 2, se)
  | .owtest se => some (regCh, 3, se)
  | .calload se => some (regCh, 4, se)
  | .cntpreset se => some (regCh, 5, se)
  | .cntreset se => some (regCh, 6, se)
  | .supplyRelease se => some (regCh, 7, se)
  | .islRestart se => some (regCh, 8, se)
  | .acquire se => some (regClaim, 1, se)
  | .release se => some (regClaim, 2, se)
  | .sesClose se => some (regSes, 1, se)
  | .breakClaim se => some (regBreak, 2, se)
  | .ceilingHold se => some (regPwr, 1, se)
  | .track se => some (regPwr, 2, se)
  | .holdupTest se => some (regPwr, 3, se)
  | .evrClear se => some (regEvr, 1, se)
  | .setrate se => some (regEvr, 2, se)
  | .ratedefault se => some (regEvr, 3, se)
  | .update se => some (regLcd, 1, se)
  | .wake se => some (regLcd, 2, se)
  | .restartWarm se => some (regMod, 1, se)
  | .restartCold se => some (regMod, 2, se)
  | .stop se => some (regMod, 3, se)
  | .fwActivate se => some (regMod, 4, se)
  | .fwAbort se => some (regAbort, 5, se)
  | _ => none

/-! ### The parts that commands change, and the reset values of the registers -/

/-- The parts of the state that each command may change, by the rules that its meaning follows. -/
def mayChange (c : Instr) : Parts :=
  match c with
  | .memoryScrub .. => { store := true, tsk := true, img := true, lsk := true, pair := true, lease := true, mir := true, links := true, io := true, can := true, ses := true, pwr := true, tel := true, evr := true, lcd := true, mod := true, out := true, free := true }
  | .persistentWriteReadback .. => { cells := true, store := true, tbAcc := true, tbLat := true, tsk := true, img := true, keys := true, frc := true, laneA := true, laneB := true, lsk := true, pair := true, mir := true, links := true, io := true, can := true, ses := true, tel := true, evr := true, lcd := true, out := true }
  | .taskRelease .. => { cells := true, store := true, tbAcc := true, tbLat := true, tsk := true, img := true, frc := true, laneA := true, laneB := true, lsk := true, pair := true, lease := true, mir := true, links := true, io := true, can := true, ses := true, pwr := true, tel := true, evr := true, lcd := true, mod := true, out := true, free := true }
  | .eventRelease .. => { cells := true, store := true, tbAcc := true, tbLat := true, tsk := true, img := true, frc := true, laneA := true, laneB := true, lsk := true, pair := true, lease := true, mir := true, links := true, io := true, can := true, ses := true, pwr := true, tel := true, evr := true, lcd := true, mod := true, out := true, free := true }
  | .slotFiring .. => { tsk := true, laneA := true, laneB := true }
  | .tokenHop .. => { laneA := true, laneB := true }
  | .routineStart .. => { laneA := true, laneB := true }
  | .coreInstruction .. => { tsk := true, laneA := true, laneB := true, tel := true, evr := true, free := true }
  | .svcRecorderEntry .. => { laneA := true, laneB := true, lsk := true, evr := true, out := true }
  | .svcCanQueue .. => { tsk := true, laneA := true, laneB := true, lsk := true, evr := true, out := true, free := true }
  | .svcCanAbort .. => { tsk := true, laneA := true, laneB := true, lsk := true, evr := true, out := true, free := true }
  | .svcCanRead .. => { laneA := true, laneB := true, lsk := true, can := true, out := true }
  | .svcUrgent .. => { laneA := true, laneB := true, lsk := true, pair := true, io := true, ses := true, out := true }
  | .svcOwtest .. => { laneA := true, laneB := true, lsk := true, pair := true, io := true, ses := true, out := true }
  | .svcCntpreset .. => { laneA := true, laneB := true, lsk := true, pair := true, io := true, ses := true, out := true }
  | .svcCntreset .. => { laneA := true, laneB := true, lsk := true, pair := true, io := true, ses := true, out := true }
  | .svcPanelUpdate .. => { laneA := true, laneB := true, lsk := true, ses := true, lcd := true, out := true }
  | .inboundWordDelivery .. => { store := true, tsk := true, img := true, laneA := true, laneB := true, lsk := true, pair := true, lease := true, mir := true, links := true, io := true, can := true, ses := true, pwr := true, tel := true, evr := true, lcd := true, mod := true, out := true, free := true }
  | .colWordCompare .. => { cells := true, store := true, tsk := true, img := true, laneA := true, laneB := true, lsk := true, pair := true, lease := true, mir := true, links := true, io := true, can := true, ses := true, pwr := true, tel := true, evr := true, lcd := true, mod := true, out := true, free := true }
  | .colMissingWord .. => { tsk := true, img := true, lsk := true, pair := true, lease := true, io := true, can := true, ses := true, evr := true, lcd := true, mod := true, out := true }
  | .taskCompletion .. => { cells := true, store := true, tbAcc := true, tbLat := true, tsk := true, img := true, frc := true, laneA := true, laneB := true, lsk := true, pair := true, lease := true, mir := true, links := true, io := true, can := true, ses := true, pwr := true, tel := true, evr := true, lcd := true, mod := true, out := true, flight := true, free := true }
  | .mirrorApply .. => { cells := true, tsk := true, frc := true, lsk := true, pair := true, lease := true, mir := true, evr := true, out := true, flight := true }
  | .releaseNoticeReceive .. => { cells := true, tbAcc := true, tbLat := true, tsk := true, frc := true, laneA := true, laneB := true, lsk := true, pair := true, lease := true, mir := true, links := true, io := true, can := true, ses := true, tel := true, evr := true, lcd := true, out := true, flight := true }
  | .noticeTimeout .. => { cells := true, tbAcc := true, tbLat := true, tsk := true, frc := true, laneA := true, laneB := true, lsk := true, pair := true, mir := true, links := true, io := true, can := true, ses := true, tel := true, evr := true, lcd := true, out := true }
  | .statisticsBoundary => { tbAcc := true, tbLat := true, tsk := true, frc := true, lsk := true, pair := true, mir := true, links := true, io := true, can := true, ses := true, tel := true, evr := true, lcd := true, out := true }
  | .healthReportReceive .. => { frc := true, lsk := true, pair := true, lease := true, mir := true, evr := true, out := true, flight := true }
  | .tskHevt .. => { tsk := true, lsk := true, pair := true, mir := true, ses := true, evr := true, out := true }
  | .oscillatorCompensation .. => { store := true, tb := true, tel := true, evr := true }
  | .ptpSyncReceive .. => { store := true, tb := true, tbAcc := true, tsk := true, pair := true, lease := true, links := true, io := true, can := true, ses := true, pwr := true, tel := true, evr := true, lcd := true, mod := true, out := true, free := true }
  | .ptpAnnounceReceive .. => { store := true, tb := true, tbAcc := true, ses := true, evr := true }
  | .ptpHoldoverTimeout => { store := true, tb := true, tbAcc := true, evr := true }
  | .ptpListeningTimeout => { store := true, tb := true, tbAcc := true, evr := true }
  | .timeMappingInterval => { store := true, tb := true, evr := true }
  | .heartbeatReceive .. => { cells := true, store := true, tb := true, tbAcc := true, tbLat := true, tsk := true, img := true, frc := true, laneA := true, laneB := true, lsk := true, pair := true, lease := true, mir := true, links := true, io := true, can := true, ses := true, pwr := true, tel := true, evr := true, lcd := true, mod := true, out := true, flight := true, free := true }
  | .pairAlignmentLoss => { tb := true }
  | .valeTimeSend => { tb := true, lsk := true, links := true, out := true }
  | .change .. => { tsk := true, img := true, lsk := true, pair := true, lease := true, mir := true, ses := true, out := true }
  | .switchCandidateReceive .. => { tsk := true, frc := true, lsk := true, pair := true, lease := true, mir := true, evr := true, out := true, flight := true }
  | .switchInstant => { cells := true, tbAcc := true, tbLat := true, tsk := true, img := true, frc := true, laneA := true, laneB := true, lsk := true, pair := true, lease := true, mir := true, links := true, io := true, can := true, ses := true, tel := true, evr := true, lcd := true, out := true }
  | .switchVerdictReceive .. => { cells := true, tbAcc := true, tbLat := true, tsk := true, img := true, frc := true, laneA := true, laneB := true, lsk := true, pair := true, lease := true, mir := true, links := true, io := true, can := true, ses := true, tel := true, evr := true, lcd := true, mod := true, out := true, flight := true }
  | .switchVerdictTimeout => { cells := true, tbAcc := true, tbLat := true, tsk := true, img := true, frc := true, laneA := true, laneB := true, lsk := true, pair := true, lease := true, mir := true, links := true, io := true, can := true, ses := true, tel := true, evr := true, lcd := true, mod := true, out := true }
  | .switchSearchTimeout => { cells := true, tbAcc := true, tbLat := true, tsk := true, img := true, frc := true, laneA := true, laneB := true, lsk := true, pair := true, mir := true, links := true, io := true, can := true, ses := true, tel := true, evr := true, lcd := true, out := true }
  | .switchWindowEnd => { cells := true, store := true, tb := true, tbAcc := true, tbLat := true, tsk := true, img := true, frc := true, laneA := true, laneB := true, lsk := true, pair := true, lease := true, mir := true, links := true, io := true, can := true, ses := true, pwr := true, tel := true, evr := true, lcd := true, mod := true, out := true, flight := true, free := true }
  | .terraceRecordWrite => { store := true }
  | .frcSet .. => { frc := true, lsk := true, pair := true, mir := true, ses := true, evr := true, out := true }
  | .frcClear .. => { frc := true, lsk := true, pair := true, mir := true, ses := true, evr := true, out := true }
  | .frcClearall .. => { frc := true, lsk := true, pair := true, mir := true, ses := true, evr := true, out := true }
  | .forceChangeReceive .. => { cells := true, tsk := true, frc := true, lsk := true, pair := true, lease := true, mir := true, evr := true, out := true, flight := true }
  | .forceActivation => { cells := true, tsk := true, frc := true, evr := true }
  | .imageChunk .. => { img := true, lsk := true, pair := true, mir := true, ses := true, evr := true, lcd := true, out := true }
  | .forwardedChunkReceive .. => { img := true, frc := true, lsk := true, pair := true, lease := true, mir := true, ses := true, evr := true, lcd := true, out := true, flight := true }
  | .verificationComplete => { img := true, ses := true, evr := true, lcd := true }
  | .imageStoreComplete .. => { img := true, ses := true, evr := true, lcd := true }
  | .arm .. => { img := true, lsk := true, pair := true, mir := true, ses := true, evr := true, out := true }
  | .armComplete .. => { cells := true, tsk := true, img := true, laneA := true, laneB := true, lsk := true, pair := true, lease := true, io := true, can := true, ses := true, evr := true, lcd := true, mod := true, out := true }
  | .partnerArmedReport .. => { img := true, frc := true, lsk := true, pair := true, lease := true, mir := true, evr := true, out := true, flight := true }
  | .disarm .. => { img := true, lsk := true, pair := true, mir := true, ses := true, evr := true, out := true }
  | .abort .. => { img := true, lsk := true, pair := true, mir := true, ses := true, evr := true, lcd := true, out := true }
  | .clear .. => { img := true, lsk := true, pair := true, mir := true, ses := true, evr := true, out := true }
  | .archive .. => { img := true, lsk := true, pair := true, mir := true, ses := true, evr := true, out := true }
  | .restore .. => { img := true, lsk := true, pair := true, mir := true, ses := true, evr := true, out := true }
  | .key .. => { store := true, lsk := true, pair := true, mir := true, ses := true, evr := true, out := true }
  | .keyOpForwardReceive .. => { store := true, frc := true, lsk := true, pair := true, lease := true, mir := true, evr := true, out := true, flight := true }
  | .idleSweepPass .. => { img := true, lsk := true, evr := true }
  | .debugCredential .. => { ses := true, evr := true, out := true }
  | .debugHalt .. => { cells := true, store := true, tsk := true, img := true, laneA := true, laneB := true, lsk := true, pair := true, lease := true, mir := true, links := true, io := true, can := true, ses := true, pwr := true, tel := true, evr := true, lcd := true, mod := true, out := true, free := true }
  | .debugStep => { tsk := true, laneA := true, laneB := true, out := true, free := true }
  | .debugResume => { lsk := true, evr := true, out := true }
  | .debugRead .. => { store := true, tsk := true, img := true, lsk := true, pair := true, lease := true, mir := true, links := true, io := true, can := true, ses := true, pwr := true, tel := true, evr := true, lcd := true, mod := true, out := true, free := true }
  | .debugWrite .. => { cells := true, tsk := true, ses := true, evr := true }
  | .commissionOn .. => { lsk := true, pair := true, mir := true, ses := true, evr := true, out := true }
  | .commissionOff .. => { lsk := true, pair := true, lease := true, mir := true, ses := true, evr := true, out := true }
  | .recheck .. => { tsk := true, lsk := true, pair := true, lease := true, mir := true, ses := true, evr := true, out := true }
  | .recheckInstant => { cells := true, tbAcc := true, tbLat := true, tsk := true, frc := true, laneA := true, laneB := true, lsk := true, pair := true, lease := true, mir := true, links := true, io := true, can := true, ses := true, tel := true, evr := true, lcd := true, mod := true, out := true }
  | .recheckTimeout => { cells := true, tbAcc := true, tbLat := true, tsk := true, frc := true, laneA := true, laneB := true, lsk := true, pair := true, mir := true, links := true, io := true, can := true, ses := true, tel := true, evr := true, lcd := true, out := true }
  | .saddleLinkDown .. => { lsk := true, pair := true, evr := true, out := true, flight := true }
  | .saddleSilenceTimeout .. => { cells := true, store := true, tb := true, tbAcc := true, tbLat := true, tsk := true, img := true, frc := true, laneA := true, laneB := true, lsk := true, pair := true, lease := true, mir := true, links := true, io := true, can := true, ses := true, pwr := true, tel := true, evr := true, lcd := true, mod := true, out := true, flight := true, free := true }
  | .saddleLinkUp .. => { frc := true, lsk := true, pair := true, lease := true, mir := true, evr := true, out := true, flight := true }
  | .leaseRenewalRound .. => { store := true, tsk := true, img := true, lsk := true, pair := true, lease := true, mir := true, links := true, io := true, can := true, ses := true, pwr := true, tel := true, evr := true, lcd := true, mod := true, out := true, free := true }
  | .witnessAckReceive .. => { lease := true, links := true }
  | .leaseEnd => { cells := true, store := true, tb := true, tbAcc := true, tbLat := true, tsk := true, img := true, frc := true, laneA := true, laneB := true, lsk := true, pair := true, lease := true, mir := true, links := true, io := true, can := true, ses := true, pwr := true, tel := true, evr := true, lcd := true, mod := true, out := true, free := true }
  | .standbyLeaseExpiry => { lease := true }
  | .claimRound => { cells := true, store := true, tb := true, tbAcc := true, tbLat := true, tsk := true, img := true, frc := true, laneA := true, laneB := true, lsk := true, pair := true, lease := true, mir := true, links := true, io := true, can := true, ses := true, tel := true, evr := true, lcd := true, mod := true, out := true }
  | .claimAnnounceReceive .. => { frc := true, lsk := true, pair := true, lease := true, mir := true, evr := true, out := true, flight := true }
  | .grantReceive .. => { cells := true, store := true, tb := true, tbAcc := true, tbLat := true, tsk := true, img := true, frc := true, laneA := true, laneB := true, lsk := true, pair := true, lease := true, mir := true, links := true, io := true, can := true, ses := true, pwr := true, tel := true, evr := true, lcd := true, mod := true, out := true, free := true }
  | .denyReceive .. => { lease := true, mir := true, links := true, evr := true }
  | .swap .. => { tsk := true, lsk := true, pair := true, lease := true, mir := true, ses := true, evr := true, out := true }
  | .roleSwapDue => { tsk := true, lsk := true, pair := true, lease := true, evr := true, out := true }
  | .swapInstant => { cells := true, tbAcc := true, tbLat := true, tsk := true, frc := true, laneA := true, laneB := true, lsk := true, pair := true, lease := true, mir := true, links := true, io := true, can := true, ses := true, tel := true, evr := true, lcd := true, mod := true, out := true, flight := true }
  | .yieldReceive .. => { frc := true, lsk := true, pair := true, lease := true, mir := true, links := true, evr := true, out := true, flight := true }
  | .voltageReleaseConfirmReceive .. => { frc := true, lsk := true, pair := true, lease := true, mir := true, evr := true, out := true, flight := true }
  | .swapReclaimTimeout => { cells := true, tbAcc := true, tbLat := true, tsk := true, frc := true, laneA := true, laneB := true, lsk := true, pair := true, lease := true, mir := true, links := true, io := true, can := true, ses := true, tel := true, evr := true, lcd := true, mod := true, out := true }
  | .resync .. => { frc := true, lsk := true, pair := true, lease := true, mir := true, ses := true, evr := true, out := true, flight := true }
  | .resyncComplete .. => { cells := true, tsk := true, frc := true, lsk := true, pair := true, lease := true, ses := true, evr := true, out := true }
  | .canTxConfirmReceive .. => { frc := true, lsk := true, pair := true, lease := true, mir := true, can := true, evr := true, out := true, flight := true }
  | .standbyConfirmationReceive .. => { frc := true, lsk := true, pair := true, lease := true, mir := true, ses := true, evr := true, out := true, flight := true }
  | .relayedWriteReceive .. => { cells := true, store := true, tb := true, tbAcc := true, tbLat := true, tsk := true, img := true, frc := true, laneA := true, laneB := true, lsk := true, pair := true, lease := true, mir := true, links := true, io := true, can := true, ses := true, pwr := true, tel := true, evr := true, lcd := true, mod := true, out := true, flight := true }
  | .relayVerdictReceive .. => { frc := true, lsk := true, pair := true, lease := true, mir := true, ses := true, evr := true, out := true, flight := true }
  | .partnerPresenceChange .. => { cells := true, store := true, tb := true, tbAcc := true, tbLat := true, tsk := true, img := true, frc := true, laneA := true, laneB := true, lsk := true, pair := true, lease := true, mir := true, links := true, io := true, can := true, ses := true, pwr := true, tel := true, evr := true, lcd := true, mod := true, out := true, flight := true, free := true }
  | .valeInputReceive .. => { lsk := true, pair := true, lease := true, links := true, evr := true, out := true }
  | .relayedSampleReceive .. => { frc := true, lsk := true, pair := true, lease := true, mir := true, links := true, evr := true, out := true, flight := true }
  | .sampleDue .. => { tsk := true, lsk := true, pair := true, mir := true, links := true, ses := true, evr := true, out := true }
  | .identRespReceive .. => { tsk := true, lsk := true, pair := true, lease := true, links := true, ses := true, evr := true, out := true }
  | .paramAckReceive .. => { tsk := true, lsk := true, pair := true, lease := true, links := true, ses := true, evr := true, out := true }
  | .startAckReceive .. => { tsk := true, lsk := true, pair := true, lease := true, links := true, ses := true, evr := true, out := true }
  | .stationStatusReceive .. => { lease := true, mir := true, links := true }
  | .stationReplyTimeout .. => { tsk := true, lsk := true, pair := true, links := true, ses := true, evr := true, out := true }
  | .stationSearchPoll .. => { lsk := true, links := true, out := true }
  | .stationRefusedRetry .. => { lsk := true, links := true, out := true }
  | .valePortUp .. => { lsk := true, lease := true, links := true, evr := true, out := true }
  | .valePortDown .. => { links := true, evr := true }
  | .partnerFrameReceive .. => { links := true, evr := true }
  | .pdelayMeasurement .. => { lsk := true, links := true, out := true }
  | .pdelayRespReceive .. => { lease := true, links := true }
  | .pdelayReqReceive .. => { lsk := true, lease := true, links := true, out := true }
  | .eventOutputRepeat => { tsk := true, lsk := true, links := true, out := true }
  | .lnkRestart .. => { tsk := true, lsk := true, pair := true, mir := true, links := true, ses := true, evr := true, out := true }
  | .lnkRestartLink .. => { tsk := true, lsk := true, pair := true, mir := true, links := true, ses := true, evr := true, out := true }
  | .lnkRetry .. => { lsk := true, pair := true, mir := true, links := true, ses := true, evr := true, out := true }
  | .fordPeriod => { laneA := true, laneB := true, lsk := true, pair := true, mir := true, io := true, ses := true, evr := true, lcd := true, mod := true, out := true }
  | .fordReturnFrame .. => { tbAcc := true, tsk := true, laneA := true, laneB := true, lsk := true, pair := true, lease := true, mir := true, io := true, ses := true, evr := true, lcd := true, mod := true, out := true }
  | .islandFrameAccept .. => { io := true }
  | .logicSilenceTimeout .. => { io := true }
  | .islandVbMeasurement .. => { io := true }
  | .calIsland .. => { lsk := true, pair := true, mir := true, io := true, ses := true, evr := true, out := true }
  | .urgent .. => { lsk := true, pair := true, mir := true, io := true, ses := true, evr := true, out := true }
  | .owtest .. => { lsk := true, pair := true, mir := true, io := true, ses := true, evr := true, out := true }
  | .calload .. => { lsk := true, pair := true, mir := true, io := true, ses := true, evr := true, out := true }
  | .cntpreset .. => { lsk := true, pair := true, mir := true, io := true, ses := true, evr := true, out := true }
  | .cntreset .. => { lsk := true, pair := true, mir := true, io := true, ses := true, evr := true, out := true }
  | .supplyRelease .. => { lsk := true, pair := true, mir := true, io := true, ses := true, evr := true, out := true }
  | .islRestart .. => { lsk := true, pair := true, mir := true, io := true, ses := true, evr := true, out := true }
  | .channelCommandForwardReceive .. => { frc := true, laneA := true, laneB := true, lsk := true, pair := true, lease := true, mir := true, io := true, ses := true, evr := true, out := true, flight := true }
  | .channelCommandActivation => { laneA := true, laneB := true, lsk := true, pair := true, mir := true, io := true, ses := true, evr := true, out := true }
  | .islandRestartPowerOn .. => { io := true }
  | .calibrationComplete .. => { io := true }
  | .aiConversionComplete .. => { io := true }
  | .urgentComplete .. => { io := true }
  | .urgentResultReceive .. => { frc := true, laneA := true, laneB := true, lsk := true, pair := true, lease := true, mir := true, io := true, evr := true, out := true, flight := true }
  | .urgentResultTimeout .. => { laneA := true, laneB := true, lsk := true, io := true, out := true }
  | .openwireTestStart .. => { io := true }
  | .openwireTestComplete .. => { io := true }
  | .cjMeasurement .. => { io := true }
  | .cjFaultEnd .. => { io := true }
  | .readbackConversion .. => { io := true }
  | .aoThermalCrossing .. => { io := true }
  | .complianceEntry .. => { io := true }
  | .complianceClearTimeout .. => { io := true }
  | .aoOpenLoopTimeout .. => { io := true }
  | .voltageOutputLeaseEnd .. => { io := true }
  | .diTerminalSample .. => { io := true }
  | .diFilterExpiry .. => { io := true }
  | .diWirebreakTimeout .. => { io := true }
  | .doComplianceTimeout .. => { io := true }
  | .doThermalShutdown .. => { io := true }
  | .doThermalRetry .. => { io := true }
  | .doThermalClear .. => { io := true }
  | .doOpenLoadTimeout .. => { io := true }
  | .doExtdriveTimeout .. => { io := true }
  | .gangImbalanceTimeout .. => { io := true }
  | .pwmPeriodStart .. => { io := true }
  | .pwmOff .. => { io := true }
  | .lplusMeasurement .. => { store := true, io := true, tel := true, evr := true }
  | .lplusRestoreTimeout .. => { io := true }
  | .canTxStart .. => { can := true, out := true }
  | .canTxComplete .. => { lsk := true, pair := true, mir := true, can := true, evr := true, out := true }
  | .canTxError .. => { mir := true, can := true, evr := true, out := true }
  | .canFrameReceive .. => { tsk := true, lsk := true, pair := true, mir := true, can := true, evr := true, out := true, free := true }
  | .canRxNoticeReceive .. => { frc := true, lsk := true, pair := true, lease := true, mir := true, can := true, evr := true, out := true, flight := true }
  | .canBusoffRecovery .. => { can := true, evr := true }
  | .open_ .. => { ses := true, evr := true, out := true }
  | .openTimeout .. => { ses := true, out := true }
  | .close .. => { tsk := true, img := true, lsk := true, pair := true, lease := true, mir := true, links := true, io := true, ses := true, pwr := true, evr := true, lcd := true, mod := true, out := true }
  | .keepalive .. => { ses := true, out := true }
  | .read .. => { store := true, tsk := true, img := true, lsk := true, pair := true, lease := true, mir := true, links := true, io := true, can := true, ses := true, pwr := true, tel := true, evr := true, lcd := true, mod := true, out := true, free := true }
  | .write .. => { cells := true, store := true, tb := true, tbAcc := true, tbLat := true, tsk := true, img := true, frc := true, laneA := true, laneB := true, lsk := true, pair := true, lease := true, mir := true, links := true, io := true, can := true, ses := true, pwr := true, tel := true, evr := true, lcd := true, mod := true, out := true, flight := true, free := true }
  | .fence .. => { ses := true, out := true }
  | .historyRead .. => { store := true, tsk := true, img := true, lsk := true, pair := true, lease := true, mir := true, links := true, io := true, can := true, ses := true, pwr := true, tel := true, evr := true, lcd := true, mod := true, out := true, free := true }
  | .firmwareChunk .. => { ses := true, mod := true, out := true }
  | .firmwareVerifyComplete .. => { mod := true }
  | .sessionIdleTimeout .. => { tsk := true, img := true, lsk := true, pair := true, lease := true, mir := true, links := true, io := true, ses := true, pwr := true, evr := true, lcd := true, mod := true, out := true }
  | .tlsAlert .. => { tsk := true, img := true, lsk := true, pair := true, lease := true, mir := true, links := true, io := true, ses := true, pwr := true, evr := true, lcd := true, mod := true, out := true }
  | .wakeKey => { lcd := true }
  | .enrolmentWakeHold => { ses := true, evr := true, lcd := true }
  | .enrolmentTimeout => { ses := true, evr := true, lcd := true }
  | .enrolmentSessionClose => { tsk := true, img := true, lsk := true, pair := true, lease := true, mir := true, links := true, io := true, ses := true, pwr := true, evr := true, lcd := true, mod := true, out := true }
  | .acquire .. => { lsk := true, pair := true, mir := true, ses := true, evr := true, out := true }
  | .release .. => { img := true, lsk := true, pair := true, mir := true, ses := true, evr := true, lcd := true, out := true }
  | .claimLapseTimeout => { img := true, ses := true, evr := true, lcd := true, out := true }
  | .sesClose .. => { tsk := true, img := true, lsk := true, pair := true, lease := true, mir := true, links := true, io := true, ses := true, pwr := true, evr := true, lcd := true, mod := true, out := true }
  | .breakClaim .. => { img := true, lsk := true, pair := true, mir := true, ses := true, evr := true, lcd := true, out := true }
  | .sesViolclr .. => { ses := true }
  | .sesMapsync .. => { ses := true }
  | .mapsyncComplete .. => { ses := true }
  | .chDiag .. => { cells := true, store := true, tb := true, tbAcc := true, tbLat := true, tsk := true, img := true, frc := true, laneA := true, laneB := true, lsk := true, pair := true, lease := true, mir := true, links := true, io := true, can := true, ses := true, pwr := true, tel := true, evr := true, lcd := true, mod := true, out := true, flight := true, free := true }
  | .loRegisterRead .. => { ses := true, free := true }
  | .chAiValLoRead .. => { ses := true, free := true }
  | .chAiUrgvalLoRead .. => { ses := true, free := true }
  | .evrWin0Read .. => { ses := true }
  | .evrWin7Read .. => { ses := true }
  | .registerWrite .. => { cells := true, store := true, tb := true, tbAcc := true, tbLat := true, tsk := true, img := true, frc := true, laneA := true, laneB := true, lsk := true, pair := true, lease := true, mir := true, links := true, io := true, can := true, ses := true, pwr := true, tel := true, evr := true, lcd := true, mod := true, out := true, flight := true, free := true }
  | .supplyInputMeasurement .. => { cells := true, store := true, tbAcc := true, tbLat := true, tsk := true, img := true, frc := true, laneA := true, laneB := true, lsk := true, pair := true, mir := true, links := true, io := true, can := true, ses := true, pwr := true, tel := true, evr := true, lcd := true, out := true }
  | .supplyRecovery => { pwr := true, tel := true, evr := true }
  | .inputLossTimeout .. => { pwr := true, evr := true }
  | .inputRestoreTimeout .. => { pwr := true, evr := true }
  | .railPowerGood .. => { cells := true, store := true, tb := true, tbAcc := true, tbLat := true, tsk := true, img := true, keys := true, frc := true, laneA := true, laneB := true, lsk := true, pair := true, lease := true, mir := true, links := true, io := true, can := true, ses := true, pwr := true, tel := true, evr := true, lcd := true, mod := true, out := true }
  | .railSequenceTimeout .. => { pwr := true }
  | .railSequenceRetry => { pwr := true }
  | .railFault .. => { tsk := true, img := true, lsk := true, pair := true, lease := true, io := true, can := true, ses := true, evr := true, lcd := true, mod := true, out := true }
  | .holdupStopLevel => { store := true, tsk := true, img := true, laneA := true, laneB := true, lsk := true, pair := true, lease := true, links := true, io := true, can := true, ses := true, pwr := true, evr := true, lcd := true, mod := true, out := true }
  | .holdupRecorderCloseLevel => { pwr := true, evr := true }
  | .holdupResetLevel => { cells := true, store := true, tsk := true, img := true, laneA := true, laneB := true, lsk := true, pair := true, lease := true, links := true, io := true, can := true, ses := true, pwr := true, evr := true, lcd := true, mod := true, out := true }
  | .holdupPanelEnd => { pwr := true, lcd := true }
  | .holdupRecharged => { pwr := true }
  | .stoppedRecoveryTimeout => { cells := true, store := true, tsk := true, img := true, laneA := true, laneB := true, lsk := true, pair := true, lease := true, links := true, io := true, can := true, ses := true, pwr := true, tel := true, evr := true, lcd := true, mod := true, out := true }
  | .ceilingHold .. => { lsk := true, pair := true, mir := true, ses := true, tel := true, evr := true, out := true }
  | .track .. => { lsk := true, pair := true, mir := true, ses := true, tel := true, evr := true, out := true }
  | .holdupTest .. => { lsk := true, pair := true, mir := true, ses := true, pwr := true, evr := true, out := true }
  | .holdupTestComplete .. => { ses := true, pwr := true, evr := true }
  | .marginControlPeriod => { tel := true }
  | .marginlowClearTimeout => { tel := true, evr := true, free := true }
  | .telemetryMeasurement .. => { store := true, tb := true, tsk := true, img := true, lsk := true, pair := true, lease := true, mir := true, links := true, io := true, can := true, ses := true, pwr := true, tel := true, evr := true, lcd := true, mod := true, out := true, free := true }
  | .operatingTimeSave => { store := true, tel := true }
  | .recordWrite .. => { store := true, tsk := true, img := true, lsk := true, pair := true, lease := true, mir := true, links := true, io := true, can := true, ses := true, pwr := true, tel := true, evr := true, lcd := true, mod := true, out := true, free := true }
  | .recordComplete => { evr := true }
  | .rateBucketFull .. => { evr := true }
  | .evrClear .. => { lsk := true, pair := true, mir := true, ses := true, evr := true, out := true }
  | .recorderClearComplete => { ses := true, evr := true }
  | .setrate .. => { store := true, lsk := true, pair := true, mir := true, ses := true, evr := true, out := true }
  | .ratedefault .. => { store := true, lsk := true, pair := true, mir := true, ses := true, evr := true, out := true }
  | .panelFrameStart => { ses := true, lcd := true }
  | .update .. => { lsk := true, pair := true, mir := true, ses := true, evr := true, lcd := true, out := true }
  | .wake .. => { lsk := true, pair := true, mir := true, ses := true, evr := true, lcd := true, out := true }
  | .panelLowpowerTimeout => { lcd := true }
  | .restartWarm .. => { cells := true, store := true, tb := true, tbAcc := true, tbLat := true, tsk := true, img := true, frc := true, laneA := true, laneB := true, lsk := true, pair := true, lease := true, mir := true, links := true, io := true, can := true, ses := true, pwr := true, tel := true, evr := true, lcd := true, mod := true, out := true }
  | .restartCold .. => { cells := true, store := true, tb := true, tbAcc := true, tbLat := true, tsk := true, img := true, frc := true, laneA := true, laneB := true, lsk := true, pair := true, lease := true, mir := true, links := true, io := true, can := true, ses := true, pwr := true, tel := true, evr := true, lcd := true, mod := true, out := true }
  | .stop .. => { cells := true, store := true, tb := true, tbAcc := true, tbLat := true, tsk := true, img := true, frc := true, laneA := true, laneB := true, lsk := true, pair := true, lease := true, mir := true, links := true, io := true, can := true, ses := true, pwr := true, tel := true, evr := true, lcd := true, mod := true, out := true }
  | .fwActivate .. => { cells := true, store := true, tb := true, tbAcc := true, tbLat := true, tsk := true, img := true, frc := true, laneA := true, laneB := true, lsk := true, pair := true, lease := true, mir := true, links := true, io := true, can := true, ses := true, pwr := true, tel := true, evr := true, lcd := true, mod := true, out := true }
  | .fwAbort .. => { lsk := true, pair := true, mir := true, ses := true, evr := true, mod := true, out := true }
  | .bootComplete .. => { cells := true, store := true, tb := true, tbAcc := true, tbLat := true, tsk := true, img := true, frc := true, laneA := true, laneB := true, lsk := true, pair := true, lease := true, mir := true, links := true, io := true, can := true, ses := true, pwr := true, tel := true, evr := true, lcd := true, mod := true, out := true }
  | .configPartnerListen .. => { cells := true, store := true, tb := true, tbAcc := true, tsk := true, img := true, keys := true, laneA := true, laneB := true, lsk := true, pair := true, links := true, io := true, can := true, ses := true, tel := true, evr := true, lcd := true, mod := true, out := true }
  | .imageFetchComplete .. => { cells := true, store := true, tb := true, tbAcc := true, tsk := true, img := true, laneA := true, laneB := true, lsk := true, links := true, io := true, can := true, ses := true, tel := true, evr := true, lcd := true, mod := true, out := true }
  | .configComplete => { io := true, ses := true, evr := true, lcd := true, mod := true }
  | .joinDecision .. => { store := true, tb := true, tbAcc := true, tsk := true, img := true, frc := true, lsk := true, pair := true, lease := true, mir := true, links := true, io := true, can := true, ses := true, pwr := true, tel := true, evr := true, lcd := true, mod := true, out := true }
  | .joinWaitTimeout => { store := true, tb := true, tbAcc := true, tsk := true, frc := true, lsk := true, lease := true, mir := true, links := true, io := true, can := true, ses := true, tel := true, evr := true, lcd := true, mod := true, out := true }
  | .fullMirrorComplete .. => { cells := true, tsk := true, frc := true, lsk := true, pair := true, mir := true, mod := true, out := true }
  | .joinInstant => { store := true, tb := true, tbAcc := true, tsk := true, frc := true, lsk := true, pair := true, lease := true, mir := true, links := true, io := true, can := true, ses := true, tel := true, evr := true, lcd := true, mod := true, out := true }
  | .partnerReadingsReceive .. => { cells := true, tsk := true, frc := true, laneA := true, laneB := true, lsk := true, pair := true, lease := true, mir := true, evr := true, out := true, flight := true }
  | .partnerReadingsTimeout .. => { cells := true, tsk := true, laneA := true, laneB := true, lsk := true, out := true }
  | .partnerStationMapReceive .. => { frc := true, lsk := true, pair := true, lease := true, mir := true, links := true, evr := true, out := true, flight := true }
  | .ptpDelayRespReceive .. => { tb := true }
  | .ptpFollowUpReceive .. => { store := true, tb := true, tbAcc := true, tsk := true, pair := true, lease := true, links := true, io := true, can := true, ses := true, pwr := true, tel := true, evr := true, lcd := true, mod := true, out := true, free := true }
  | .ringOpenTimeout .. => { links := true, evr := true }
  | .partnerShareVanished .. => { io := true }
  | .canRxError .. => { mir := true, can := true, evr := true, out := true }
  | .canIntegrationComplete .. => { can := true }
  | .tlsHandshakeComplete .. => { ses := true }
  | .debugCredentialLapse => { ses := true }
  | .powerApplied .. => { pwr := true, tel := true, mod := true }
  | .archiveComplete .. => { img := true, evr := true }
  | .restoreCopyComplete => { img := true }
  | .partnerArmOrderReceive .. => { img := true, frc := true, lsk := true, pair := true, lease := true, mir := true, evr := true, out := true, flight := true, free := true }
  | .idleImageFetchComplete .. => { img := true, ses := true, evr := true, lcd := true, mod := true }

/-- Rows of R482, part 1: first offset, last offset, reset value. -/
def resetRows1 : List (Nat × Nat × W32) :=
  [
    (0x0000, 0x0000, 0x3154584C), (0x0004, 0x0004, 0x00000001), (0x0008, 0x0008, 0x00000000), (0x000C, 0x000C, 0x00000000),
    (0x0010, 0x0010, 0x00000000), (0x0014, 0x0014, 0x00000001), (0x0018, 0x0020, 0x00000000), (0x0400, 0x0400, 0x02000001), (0x0404, 0x0404, 0x0000F000),
    (0x0408, 0x0408, 0x00000000), (0x040C, 0x040C, 0x00000000), (0x0410, 0x0410, 0x0000FF00), (0x0414, 0x045C, 0x00000000),
    (0x0460, 0x0460, 0x00000000), (0x0464, 0x0484, 0x00000000), (0x0488, 0x0488, 0x00000000), (0x048C, 0x04AC, 0x00000000),
    (0x0800, 0x0800, 0x00000000), (0x0804, 0x0810, 0x00000000), (0x0814, 0x0814, 0x0000FFFF), (0x0818, 0x0850, 0x00000000),
    (0x0854, 0x0854, 0xFFFFFFFF), (0x0858, 0x0864, 0x00000000), (0x0880, 0x0884, 0x00000000), (0x0888, 0x0888, 0x00000000),
    (0x088C, 0x088C, 0x00000000), (0x0890, 0x0890, 0x00000000), (0x08A0, 0x08CC, 0x00000000), (0x0C00, 0x0C44, 0x00000000),
    (0x0C80, 0x0CDC, 0x00000000), (0x1000, 0x1000, 0x00000000), (0x1004, 0x1004, 0x00000000), (0x1008, 0x1008, 0x00000000),
    (0x100C, 0x100C, 0x00FF0000), (0x1010, 0x101C, 0x00000000), (0x1020, 0x1020, 0x000000FF), (0x1024, 0x1094, 0x00000000),
    (0x1400, 0x1404, 0x00000000), (0x1408, 0x1408, 0x01F407D0), (0x140C, 0x140C, 0x00000400), (0x1410, 0x1414, 0x00000000),
    (0x1420, 0x1434, 0x00000000), (0x1438, 0x1438, 0x00000000), (0x143C, 0x1448, 0x00000000), (0x1480, 0x14B4, 0x00000000) ]

/-- Rows of R482, part 2: first offset, last offset, reset value. -/
def resetRows2 : List (Nat × Nat × W32) :=
  [
    (0x1800, 0x1804, 0x00000000), (0x1808, 0x1808, 0x88B50300), (0x180C, 0x1818, 0x00000000), (0x181C, 0x181C, 0x00000000),
    (0x1820, 0x1828, 0x00000000), (0x1840, 0x1864, 0x00000000), (0x1880, 0x18D0, 0x00000000), (0x1C00, 0x1C04, 0x00000000),
    (0x1C08, 0x1C08, 0x00000000), (0x1C0C, 0x1C10, 0x00000000), (0x1C14, 0x1C38, 0x00000000), (0x1C3C, 0x1C3C, 0xFFFFFFFF),
    (0x1C40, 0x1C40, 0x00000000), (0x1C44, 0x1C44, 0x00000000), (0x1C80, 0x1C98, 0x00000000), (0x1C9C, 0x1C9C, 0x40000000),
    (0x1CA0, 0x1CA0, 0x00000001), (0x1CA4, 0x1CBC, 0x00000000), (0x1CC0, 0x1CD4, 0x00000000), (0x1CD8, 0x1CD8, 0x00000005),
    (0x1CDC, 0x1CDC, 0x00000000), (0x1CE0, 0x1CFC, 0x00000000), (0x1D00, 0x1D0C, 0x00000000), (0x1D10, 0x1D10, 0x00001388),
    (0x1D20, 0x1D50, 0x00000000), (0x1D54, 0x1D54, 0x0000FFFF), (0x1D58, 0x1D58, 0x00000000), (0x2000, 0x2000, 0x00000000),
    (0x2004, 0x2010, 0x00000000), (0x2014, 0x2014, 0x00000003), (0x2018, 0x2020, 0x00000000), (0x2024, 0x2024, 0x00000000),
    (0x2028, 0x202C, 0x00000000), (0x2030, 0x2030, 0xFFFF0000), (0x2040, 0x2064, 0x00000000), (0x2400, 0x2408, 0x00000000),
    (0x240C, 0x2414, 0x00000000), (0x2418, 0x2420, 0x00000000), (0x2424, 0x2428, 0x00000000), (0x242C, 0x242C, 0x00000000),
    (0x2430, 0x2430, 0x00000000), (0x2434, 0x2434, 0x00000000), (0x2438, 0x2438, 0x00000000), (0x243C, 0x247C, 0x00000000) ]

/-- Rows of R482, part 3: first offset, last offset, reset value. -/
def resetRows3 : List (Nat × Nat × W32) :=
  [
    (0x2480, 0x2490, 0x00000000), (0x2800, 0x2800, 0x00000000), (0x2804, 0x2804, 0x00000000), (0x2808, 0x2808, 0x00000000),
    (0x280C, 0x280C, 0x00C80000), (0x2810, 0x2810, 0x035202D0), (0x2814, 0x2814, 0x000003E8), (0x2818, 0x281C, 0x00000000),
    (0x2820, 0x2820, 0x00000352), (0x2824, 0x2824, 0x03E800FF), (0x2828, 0x28C4, 0x00000000), (0x28C8, 0x28C8, 0x0000FFFF),
    (0x28CC, 0x28D0, 0x00000000), (0x2C00, 0x2C0C, 0x00000000), (0x2C10, 0x2C10, 0x00000000), (0x2C14, 0x2C14, 0xFFFFFFFF),
    (0x2C18, 0x2C18, 0x00000000), (0x2C1C, 0x2C1C, 0x00000000), (0x2C20, 0x2C44, 0x00000000),
    (0x2C48, 0x2C48, 0x00000000), (0x2C4C, 0x2C4C, 0x000A0008), (0x2C80, 0x2C8C, 0x00000000), (0x3000, 0x3000, 0x00000112),
    (0x3004, 0x3004, 0x00000000), (0x3008, 0x3008, 0x00000000), (0x300C, 0x300C, 0x00000000), (0x3010, 0x3014, 0x00000000),
    (0x3018, 0x3018, 0x20202020), (0x301C, 0x301C, 0x00002020), (0x3020, 0x3020, 0x00000000), (0x3024, 0x3048, 0x00000000),
    (0x3400, 0x3400, 0x000003E8), (0x3404, 0x3424, 0x00000000), (0x3428, 0x3428, 0x03E800FF), (0x3800, 0x3800, 0x00000000),
    (0x3804, 0x3808, 0x00000000), (0x380C, 0x380C, 0x80000000), (0x3810, 0x381C, 0x00000000), (0x3820, 0x3830, 0x00000000),
    (0x3834, 0x3834, 0x00000000), (0x3838, 0x3848, 0x00000000) ]

/-- The registers of R482 with their reset values, but for the module's identity (PAIR_SELFID), which is the module's own from the factory
(log 13). -/
def resetTable : List (Nat × Nat × W32) := resetRows1 ++ resetRows2 ++ resetRows3

end Sys2Proof.Machine
end

