-- ==== Sys2Proof/Certificates/Slice0/Obligations.lean ====
section
/-!
DEFINITION. The statements about the model. Each docstring names the rules of spec/ that its clauses rest on; OBLIGATIONS.json says which
rule a statement states whole.
-/

open Sys2Proof Sys2Proof.Machine

/-! ### The machine as a whole -/

/-- A step with a command in front of the queue is the command's effect with the queue's rest. -/
def Obligations.StepRunsTheCommandInFront : Prop :=
  ∀ c q s, s.pending = c :: q → step s = exec c { s with pending := q }

/-- R126, R140, R424: with no command waiting a step is one period of the TB domain (the model's choice, log 1): the time base gains 4 ns
and its corrections, exactly 4 ns when there are none, and so does the time of each island; nothing else changes but the operating time. -/
def Obligations.IdleStepIsOneTick : Prop :=
  ∀ s : State, s.pending = [] → ∃ t, step s = .next t ∧ t = { s with tb := t.tb, tel := t.tel, io := { s.io with own := t.io.own } } ∧
    t.tel = { s.tel with opFrac := t.tel.opFrac, opTime := t.tel.opTime } ∧
    (s.tb.tempCor = 0 → s.tb.rate = 0 → s.tb.slew = 0 → s.tb.frac < 2 ^ 32 →
      t.tb = { s.tb with now := (s.tb.now + 4) % 2 ^ 64 }) ∧
    (∀ n : Fin 24, s.io.own[n].clockRate = 0 → s.io.own[n].slewTicks = 0 → s.io.own[n].clockFrac < 2 ^ 32 →
      t.io.own[n].clock = s.io.own[n].clock + 4) ∧
    (∀ n : Fin 24, s.io.own[n].clock ≤ t.io.own[n].clock)

/-- No command ends in a fault or a refusal: the manual gives every one an effect. -/
def Obligations.EveryCommandGoesOn : Prop :=
 ∀ c s, ∃ t, exec c s = .next t

/-- A command changes the parts of the state that its rules name and no other; the queue stays. -/
def Obligations.EveryCommandChangesItsPartsOnly : Prop :=
  ∀ c s t, exec c s = .next t → ChangesOnly (mayChange c) s t

/-- What has been sent stays sent, in order, and the numbers of free values are never used twice. -/
def Obligations.WhatWasSentStaysSent : Prop :=
  ∀ c s t, exec c s = .next t → s.out <+: t.out ∧ s.free ≤ t.free

/-- Every step keeps the memory in its canonical form: addresses rise strictly, and no listed byte is what an unlisted address reads as. -/
def Obligations.EveryStepKeepsMemoryCanonical : Prop :=
 KeptByStep (fun s => Memory.wf s.mem.cells = true)

/-- Memories in canonical form that read the same everywhere are the same data.

A write of bytes is read back, and every other address reads as before; R180: of a word, the bytes that its enables select are written. -/
def Obligations.MemoryReadsWhatWasWritten : Prop :=
  (∀ m n : List Host.Cell, Memory.wf m = true → Memory.wf n = true → (∀ a, Memory.read m a = Memory.read n a) → m = n) ∧
  ((∀ m a bs k, Memory.wf m = true → (h : k < bs.length) → Memory.read (Memory.writeBytes m a bs) (a + k) = bs[k]) ∧
  (∀ m a bs b, Memory.wf m = true → (b < a ∨ a + bs.length ≤ b) → Memory.read (Memory.writeBytes m a bs) b = Memory.read m b) ∧
  (∀ m a w en (k : Fin 16), Memory.wf m = true → Memory.read (Memory.writeWord m a w en) (a + k.val) =
    if en.getLsbD k.val then BitVec.ofNat 8 (w.toNat / 256 ^ k.val) else Memory.read m (a + k.val)) ∧
  (∀ m a w en b, Memory.wf m = true → (b < a ∨ a + 16 ≤ b) → Memory.read (Memory.writeWord m a w en) b = Memory.read m b))

/-- The module right after reset: BOOT, no command waiting, nothing sent, memory that lists nothing (and reads 0, the model's choice, log 3),
every key slot and every storage slot empty, no image, no session, no lease, no partner known. -/
def Obligations.ResetIsAManufacturedModuleInBoot : Prop :=
  State.reset.mod.st = .boot ∧ State.reset.pending = [] ∧ State.reset.out = [] ∧ State.reset.mem.cells = [] ∧
  Memory.wf State.reset.mem.cells = true ∧ (∀ a, State.reset.byte a = 0) ∧
  State.reset.img.run = none ∧ State.reset.img.idle = .empty ∧ (∀ k : Fin 8, State.reset.img.keys[k] = KeySlot.empty) ∧
  (∀ k : Fin 4, State.reset.img.slots[k].st = .empty) ∧ (∀ se : Fin 64, sesOpen State.reset se = false) ∧
  State.reset.lease.holder = false ∧ State.reset.pair.partner = .none

/-- R480, R482: every register of the window reads its reset value after reset (as session 0 reads it). -/
def Obligations.RegistersReadTheirResetValues : Prop :=
  ∀ row ∈ resetTable, ∀ k : Nat, row.1 + 4 * k ≤ row.2.1 → regRead State.reset 0 (row.1 + 4 * k) = row.2.2

/-! ### Memory and the store (01) -/

/-- R20 to R22, R24: every 320 µs the scrubber visits one granule and moves on; correctable words are counted; an uncorrectable word of a
history granule poisons the granule; one of the images or the variables stops the module with code 0x2003.

R25: a read-back that succeeds puts the value into the older place with the next sequence number, and it becomes current; the first that
fails repeats the write; the second keeps the previous value and is recorded. R164 and R424 write their items of the store.

Forms whose completion it states: memoryScrub, persistentWriteReadback, terraceRecordWrite, operatingTimeSave. -/
def Obligations.MemoryIsScrubbedAndTheStoreKept : Prop :=
  ((∀ s : State, s.mod.st ≠ .off → s.mem.scrubAt ≤ s.tb.now → Completes (.memoryScrub .clean) s (fun t =>
    t = { s with mem := { s.mem with scrub := (s.mem.scrub + 1) % 268435456, scrubAt := s.tb.now + 320000 } })) ∧
  (∀ (s : State) chk, s.tb.now < s.mem.scrubAt → Completes (.memoryScrub chk) s (fun t => t = s)) ∧
  (∀ (s : State) n, s.mod.st ≠ .off → s.mem.scrubAt ≤ s.tb.now → Completes (.memoryScrub (.correctable n)) s (fun t =>
    t.mem = { s.mem with scrub := (s.mem.scrub + 1) % 268435456, scrubAt := s.tb.now + 320000 } ∧
    t.tel.acc.memCe = min (s.tel.acc.memCe + n) 0xFFFFFFFF ∧
    t = { s with mem := t.mem, tel := { s.tel with acc := { s.tel.acc with memCe := t.tel.acc.memCe } } })) ∧
  (∀ (s : State) a, s.mod.st ≠ .off → s.mem.scrubAt ≤ s.tb.now → regionOf (memoryBase + 64 * s.mem.scrub) = .history →
    Completes (.memoryScrub (.uncorrectable a)) s (fun t =>
      t.mem.poisoned.contains (memoryBase + 64 * s.mem.scrub) = true ∧ t.mem.cells = s.mem.cells ∧
      t.mem.scrub = (s.mem.scrub + 1) % 268435456 ∧ t = { s with mem := t.mem, evr := t.evr, free := t.free })) ∧
  (∀ (s : State) a, inRun s = true → s.lsk.stopped = false → s.lsk.fault = none → s.mem.scrubAt ≤ s.tb.now → s.mem.scrub < 4227072 →
    Completes (.memoryScrub (.uncorrectable a)) s (fun t =>
      t.mod.st = .failed ∧ t.mod.failCode = 0x2003 ∧ t.mem.cells = s.mem.cells ∧ ∃ r, t.lsk.fault = some r ∧ r.cls = 3))) ∧
  ((∀ (s : State) w rest, s.mem.writes = w :: rest → w.act = .none → w.value.item ≠ 1 → Completes (.persistentWriteReadback true) s (fun t =>
    t = { s with mem := { s.mem with writes := rest, items := t.mem.items } } ∧
    t.mem.items[w.value.item] = storeCopy s.mem.items[w.value.item] w.value ∧
    (∀ k, k ≠ w.value.item → t.mem.items[k] = s.mem.items[k]) ∧
    (nextSeq s.mem.items[w.value.item] ≠ 0 → stored t w.value.item = some w.value))) ∧
  (∀ (s : State) keys revoked rest, s.mem.writes = ⟨.keyTable keys revoked, 0, .none⟩ :: rest →
    Completes (.persistentWriteReadback true) s (fun t =>
      t.img.revoked = revoked ∧ (∀ k : Fin 8, t.img.keys[k] = keys.getD k.val .empty) ∧ t.mem.writes = rest ∧
      t = { s with mem := t.mem, img := t.img, ses := t.ses, evr := t.evr, lcd := t.lcd })) ∧
  (∀ (s : State) w rest, s.mem.writes = w :: rest → w.tries = 0 → Completes (.persistentWriteReadback false) s (fun t =>
    t = { s with mem := { s.mem with writes := { w with tries := 1 } :: rest } })) ∧
  (∀ (s : State) w rest, s.mem.writes = w :: rest → w.tries ≠ 0 → w.act = .none → Completes (.persistentWriteReadback false) s (fun t =>
    t = logEv 0x0005 false [(1, w.value.item.val), (1, 2)] { s with mem := { s.mem with writes := rest } })) ∧
  (∀ (s : State) d, s.mem.terrDue = some d → Completes .terraceRecordWrite s (fun t =>
    t = { s with mem := { s.mem with
      terrDue := none, writes := s.mem.writes ++ [⟨.terrace s.img.runTerr, 0, .none⟩] } })) ∧
  (∀ s : State, s.mod.st ≠ .off → s.tel.opSaved + 60000 ≤ s.tel.opTime → Completes .operatingTimeSave s (fun t =>
    t = { s with
      tel := { s.tel with opSaved := s.tel.opTime }
      mem := { s.mem with writes := s.mem.writes ++ [⟨.opTime s.tel.opTime, 0, .none⟩] } })))

/-! ### The Plain and the sequencer cores (03) -/

/-- R58, R59, R60, R69, R70: a ready slot that no other ready slot of its tile precedes fires: it consumes a token at each token input and
places its result for every destination, and nothing but the lane and the flags of the task's cycle changes. R23: a parity error found in
the lane ends its output.

R60, R62, R63, R70, R71: a token passes one link of its route: to the next link, to a word of the tile that no class holds, or through
an edge port as an output record.

R84, R85: a ready routine starts on an idle core with the tokens of its inputs, and pre-empts one of lower priority.

R72 to R74, R84 to R87, R90, R404: an instruction of the running routine computes, takes or sends a token, reads or writes the core's
memory, sends a word to the hub and waits for its return, or ends the routine; an undefined one ends it with a core fault. R23: a parity
error ends the lane's output.

Forms whose completion it states: slotFiring, tokenHop, routineStart, coreInstruction. -/
def Obligations.SlotsFireTokensHopAndRoutinesRun : Prop :=
  ((∀ (s : State) lane tile slot c, slotConf s tile slot = some c → laneRuns s lane = true → slotReady s (laneOf s lane) c = true →
    (∀ d ∈ (program s).slots, d.tile = tile → d.slot ≠ slot → slotReady s (laneOf s lane) d = true → firesBefore s c d = true) →
    let L := laneOf s lane
    let r := aluEval c.op (slotOperand L c 0) (slotOperand L c 1) (slotOperand L c 2)
    Completes (.slotFiring lane tile slot false) s (fun t =>
      laneOf t lane = overAll (slotDests c) (fun x l => produce (program s) c r.1 x.1 x.2 l) (consume c { L with fired := (tile, slot) :: L.fired }) ∧
      laneOf t (laneOther lane) = laneOf s (laneOther lane) ∧
      (∀ cyc, s.tsk.rt[c.task].cur = some cyc → t.tsk.rt[c.task].cur = some { cyc with flags := cyc.flags ||| r.2 }) ∧
      t = { s with laneA := t.laneA, laneB := t.laneB, tsk := t.tsk })) ∧
  (∀ (s : State) lane tile slot, Completes (.slotFiring lane tile slot true) s (fun t =>
    (laneOf t lane).dead = true ∧ laneOf t (laneOther lane) = laneOf s (laneOther lane) ∧
    t = { s with laneA := t.laneA, laneB := t.laneB, tsk := t.tsk }))) ∧
  (∀ (s : State) lane tile dir next tok, neighbour tile dir = some next → laneRuns s lane = true →
    nextToken s (laneOf s lane) tile next dir = some tok →
    Completes (.tokenHop lane tile dir) s (fun t =>
      laneOf t (laneOther lane) = laneOf s (laneOther lane) ∧ t = { s with laneA := t.laneA, laneB := t.laneB } ∧
      (tok.route = [dir] → ∀ w r, tok.dest = .memory w r → wordClass (program s) next w = none → tileWord (laneOf t lane) next w = tok.data) ∧
      (tok.route = [dir] → ∀ port point r, tok.dest = .edge port point r →
        (laneOf t lane).out = (laneOf s lane).out ++ [(edgeStream port, recordWord tok.task point tok.data)]) ∧
      (∀ d rest, tok.route = dir :: d :: rest → (laneOf t lane).links.getLast? = some (next, d, { tok with route := d :: rest })))) ∧
  (∀ (s : State) lane k n r, laneRuns s lane = true → nextRoutine s (laneOf s lane).cores[k] k = some (n, r) →
    ((laneOf s lane).cores[k].running = none ∨
      ∃ x, (laneOf s lane).cores[k].running = some x ∧ preemptDue s (laneOf s lane).cores[k] k x = true) →
    Completes (.routineStart lane k) s (fun t =>
      (∃ toks, (laneOf t lane).cores[k].running = some ⟨n, [], toks, [], false, none⟩ ∧ toks.length = r.inputs) ∧
      (laneOf t lane).cores[k].preempted = (laneOf s lane).cores[k].running.toList ++ (laneOf s lane).cores[k].preempted ∧
      (laneOf t lane).cores[k].ran = n :: (laneOf s lane).cores[k].ran ∧
      t = { s with laneA := t.laneA, laneB := t.laneB })) ∧
  (∀ (s : State) lane k x r, laneRuns s lane = true → (laneOf s lane).cores[k].running = some x → routineNo s x.routine = some r →
    x.wait = none → preemptDue s (laneOf s lane).cores[k] k x = false →
    (∀ f rd ra rb rc, Completes (.coreInstruction lane k (.alu f rd ra rb rc) .clean) s (fun t =>
      (laneOf t lane).cores[k].running = some (setCtxReg rd (aluEval f (ctxReg x ra) (ctxReg x rb) (ctxReg x rc)).1 x) ∧
      t = { s with laneA := t.laneA, laneB := t.laneB, tsk := t.tsk })) ∧
    (∀ rd input, Completes (.coreInstruction lane k (.token rd input) .clean) s (fun t =>
      (laneOf t lane).cores[k].running = some (setCtxReg rd (x.tokens.getD input 0) x) ∧
      t = { s with laneA := t.laneA, laneB := t.laneB })) ∧
    (∀ output rs o, r.outputs[output]? = some o → x.sent.contains output = false → outputFree s (laneOf s lane) k o = true →
      Completes (.coreInstruction lane k (.send output rs) .clean) s (fun t =>
        (laneOf t lane).cores[k].running = some { x with sent := output :: x.sent } ∧
        t = { s with laneA := t.laneA, laneB := t.laneB })) ∧
    (∀ rd a, a < r.sram → Completes (.coreInstruction lane k (.loadSram rd a) .clean) s (fun t =>
      (laneOf t lane).cores[k].running = some (setCtxReg rd (coreWord (laneOf s lane).cores[k].sram x.routine a) x) ∧
      t = { s with laneA := t.laneA, laneB := t.laneB })) ∧
    (∀ a rs, a < r.sram → Completes (.coreInstruction lane k (.storeSram a rs) .clean) s (fun t =>
      coreWord (laneOf t lane).cores[k].sram x.routine a = ctxReg x rs ∧ t = { s with laneA := t.laneA, laneB := t.laneB })) ∧
    (∀ a rs, spillUsed (laneOf s lane).cores[k] x.routine a ≤ 196608 → Completes (.coreInstruction lane k (.storeSpill a rs) .clean) s (fun t =>
      coreWord (laneOf t lane).cores[k].spill x.routine a = ctxReg x rs ∧ t = { s with laneA := t.laneA, laneB := t.laneB })) ∧
    (∀ rd a, corePermits s r.task false a = true → streamBusy (laneOf s lane) (coreStream k) = false →
      Completes (.coreInstruction lane k (.loadHub rd a) .clean) s (fun t =>
        (laneOf t lane).cores[k].running = some { x with wait := some (.load rd) } ∧
        (laneOf t lane).out = (laneOf s lane).out ++ [(coreStream k, ⟨.readRequest, a.toNat / 16 * 16, 0xFFFF, 0, r.task⟩)] ∧
        t = { s with laneA := t.laneA, laneB := t.laneB })) ∧
    (∀ svc rd rs, streamBusy (laneOf s lane) (coreStream k) = false →
      Completes (.coreInstruction lane k (.call svc rd rs) .clean) s (fun t =>
        (laneOf t lane).cores[k].running = some { x with wait := some (.call svc rd false) } ∧
        (laneOf t lane).out = (laneOf s lane).out ++ [(coreStream k, ⟨.serviceCall, svc, 0xFFFF, ctxReg x rs, r.task⟩)] ∧
        t = { s with laneA := t.laneA, laneB := t.laneB })) ∧
    ((∀ o < r.outputs.length, x.sent.contains o = true) → Completes (.coreInstruction lane k .endRoutine .clean) s (fun t =>
      (laneOf t lane).cores[k].running = (laneOf s lane).cores[k].preempted.head? ∧
      t = { s with laneA := t.laneA, laneB := t.laneB })) ∧
    Completes (.coreInstruction lane k .undefinedInstr .clean) s (fun t =>
      (laneOf t lane).cores[k].running = (laneOf s lane).cores[k].preempted.head? ∧
      (∀ cyc, s.tsk.rt[r.task].cur = some cyc → t.tsk.rt[r.task].cur = some { cyc with flags := cyc.flags ||| fCoreFault })) ∧
    (∀ op, Completes (.coreInstruction lane k op .parity) s (fun t => (laneOf t lane).dead = true)))

/-- R86, R289, R369, R374, R438, R453: what the service calls do that the lanes have made and the col has compared; R178: what a service
returns goes to the lanes as inbound words of the core's stream.

R86, R289, R314, R317, R349: a service call that commands a channel which takes it is placed with the channel; the routine waits for its
result.

Forms whose completion it states: svcRecorderEntry, svcCanQueue, svcCanAbort, svcCanRead, svcUrgent, svcOwtest, svcCntpreset, svcCntreset, svcPanelUpdate. -/
def Obligations.ServiceCallsActAndCommandChannels : Prop :=
  ((∀ (s : State) k r code sev data, caller s k 0 = some r → s.evr.queue.length < 256 →
    Completes (.svcRecorderEntry k code sev data) s (fun t =>
      (∃ e, t.evr.queue = s.evr.queue ++ [e] ∧ e.code = BitVec.ofNat 16 (0x9000 + code.toNat) ∧ e.sev = (if sev = 3 then 2 else sev) ∧
        e.src = BitVec.ofNat 8 (0x80 + r.task.val) ∧ e.data = data ∧ e.at_ = s.tb.now) ∧
      t = { s with evr := t.evr, laneA := t.laneA, laneB := t.laneB, lsk := t.lsk, out := t.out } ∧
      (s.lsk.halt = .none → t.out = s.out ++ [Out.toLane .A (coreStream k) 0] ∧
        ∃ w, t.lsk.inbound[coreStream k].getLast? = some w ∧ w.data = 0 ∧ w.target = .core k 0 true))) ∧
  (∀ (s : State) k r p b f cyc, caller s k 1 = some r → bufferTask s p b = some r.task → s.tsk.rt[r.task].cur = some cyc →
    Completes (.svcCanQueue k p b f) s (fun t =>
      (∃ c, t.tsk.rt[r.task].cur = some c ∧ c.can.getLast? = some (.queue p b f)) ∧
      t = { s with tsk := t.tsk, laneA := t.laneA, laneB := t.laneB, lsk := t.lsk, out := t.out })) ∧
  (∀ (s : State) k r p b cyc, caller s k 2 = some r → bufferTask s p b = some r.task → s.tsk.rt[r.task].cur = some cyc →
    Completes (.svcCanAbort k p b) s (fun t =>
      (∃ c, t.tsk.rt[r.task].cur = some c ∧ c.can.getLast? = some (.abort p b)) ∧
      t = { s with tsk := t.tsk, laneA := t.laneA, laneB := t.laneB, lsk := t.lsk, out := t.out })) ∧
  (∀ (s : State) k r p cyc x rest, caller s k 3 = some r → s.tsk.rt[r.task].cur = some cyc → s.can[p].fifo = x :: rest →
    x.completion + 20000 ≤ cyc.record.relts → Completes (.svcCanRead k p) s (fun t =>
      t.can[p].fifo = rest ∧ (∀ q, q ≠ p → t.can[q] = s.can[q]) ∧ Out.frameReturn k (some x) ∈ t.out ∧
      t = { s with can := t.can, laneA := t.laneA, laneB := t.laneB, lsk := t.lsk, out := t.out })) ∧
  (∀ (s : State) k r (n : Fin 16) e text icons, caller s k 8 = some r → s.lcd.regions[n].entry = some e → e.program = true →
    s.lcd.regions[n].running = none → Completes (.svcPanelUpdate k n.val text icons) s (fun t =>
      t.lcd.regions[n].running = some (updateOf e (leBytes 6 text.toNat) icons none) ∧
      t = { s with lcd := t.lcd, laneA := t.laneA, laneB := t.laneB, lsk := t.lsk, out := t.out }))) ∧
  ((∀ (s : State) k r c, caller s k 4 = some r → cmdReject s (.urgent c) = none → Completes (.svcUrgent k c) s (fun t =>
    t.io.chan[c].cmd = some (.routine k, .urgent c, false, none) ∧ t = { s with io := t.io })) ∧
  (∀ (s : State) k r c v, caller s k 5 = some r → cmdReject s (.owtest c v) = none → Completes (.svcOwtest k c v) s (fun t =>
    t.io.chan[c].cmd = some (.routine k, .owtest c v, false, none) ∧ t = { s with io := t.io })) ∧
  (∀ (s : State) k r c v, caller s k 6 = some r → cmdReject s (.cntpreset c v) = none → Completes (.svcCntpreset k c v) s (fun t =>
    t.io.chan[c].cmd = some (.routine k, .cntpreset c v, false, none) ∧ t = { s with io := t.io })) ∧
  (∀ (s : State) k r c, caller s k 7 = some r → cmdReject s (.cntreset c) = none → Completes (.svcCntreset k c) s (fun t =>
    t.io.chan[c].cmd = some (.routine k, .cntreset c, false, none) ∧ t = { s with io := t.io })))

/-! ### Releases (04) -/

/-- R91, R93, R94, R96, R102, R103, R106: at its nominal instant an enabled cyclic task that is WAITING is released: its record takes this instant, the
number of the release, trigger 0 and the nominal instant, its snapshot is injected, and the schedule moves on by one period. No other task's
fields change and, of memory, only the records of its input points. R108: one that is still RELEASED is skipped: the number is consumed, the skip is counted, the
supply goes to the ceiling, memory stays. R95: one at or after a chosen instant is held. R93: before the instant nothing happens.

Forms whose completion it states: taskRelease. -/
def Obligations.CyclicTasksAreReleasedHeldOrSkipped : Prop :=
  ∀ (s : State) (t : Fin 64) (n : Fin 128) (e : TaskEntry), n.val = t.val →
    taskEntry s n = some e → inRun s = true → e.enable = true → e.event = false →
    let r := s.tsk.rt[n]
    (holding s r.next = false → r.st = .waiting → partnerPresent s = false → r.next ≤ s.tb.now →
      Completes (.taskRelease t .clean) s (fun u =>
        (∃ c, u.tsk.rt[n] = { r with
            st := .released, cycle := BitVec.ofNat 32 r.index + r.k, index := r.index + 1, next := r.next + e.period * 10000
            lastRel := s.tb.now, cur := some c, consec := 0, missed := 0, skipped := false, first := false, change := false
            overrunFired := false, reload := false } ∧
          c.record = ⟨s.tb.now, BitVec.ofNat 32 r.index + r.k, 0, 0, BitVec.ofNat 8 (min 255 r.missed),
            BitVec.ofNat 8 (bitNat r.first + 2 * bitNat s.mod.warm + 4 * bitNat r.change + 8 * bitNat r.skipped + 16 * bitNat (!holds s)), r.next, 0, 0⟩ ∧
          c.base = r.next ∧ c.writes = [] ∧ c.outputs = [] ∧ c.digests = 0 ∧ c.awaiting = false ∧ c.partnerDue = false ∧
          (∀ x ∈ c.snapshot, x.1 ∈ pointsOf e.inputs) ∧ u.mem.cells = writeInputs c.snapshot s.mem.cells) ∧
        (∀ j, j ≠ n → u.tsk.rt[j] = s.tsk.rt[j]) ∧ (u.tsk.acc[n]).rel = satSucc max32 ((boundary s.tb.now s).tsk.acc[n]).rel ∧
        (∀ j, j ≠ n → u.tsk.acc[j] = (boundary s.tb.now s).tsk.acc[j]))) ∧
    (holding s r.next = false → r.st = .released → r.next ≤ s.tb.now → e.ovrTask = none →
      Completes (.taskRelease t .clean) s (fun u =>
        u.tsk.rt[n] = { r with cycle := BitVec.ofNat 32 r.index + r.k, index := r.index + 1, next := r.next + e.period * 10000
                               consec := satSucc 255 r.consec, skipped := true } ∧
        (∀ j, j ≠ n → u.tsk.rt[j] = s.tsk.rt[j]) ∧ (u.tsk.acc[n]).skip = satSucc max32 ((boundary r.next s).tsk.acc[n]).skip ∧
        u.tsk.stat.skipTot = satSucc max32 (boundary r.next s).tsk.stat.skipTot ∧ u.tel.core = max s.tel.core (2 * ceiling s) ∧
        u = { boundary r.next s with tsk := u.tsk, tel := u.tel })) ∧
    (holding s r.next = true → r.next ≤ s.tb.now →
      Completes (.taskRelease t .clean) s (fun u => u = s)) ∧
    (s.tb.now < r.next → ∀ chk, Completes (.taskRelease t chk) s (fun u => u = s)) ∧
    (∀ k, r.next ≤ s.tb.now → exec (.taskRelease t (.correctable k)) s = exec (.taskRelease t .clean) (countCorrected k s)) ∧
    (∀ a, r.next ≤ s.tb.now → exec (.taskRelease t (.uncorrectable a)) s = .next (uncorrectable a s)) ∧
    (∀ d, r.next ≤ s.tb.now → exec (.taskRelease t (.hub d)) s = .next (hubFault d s))

/-- R93, R97 to R100, R102, R113: the trigger registered first is given to its event task: one that is WAITING is released with the trigger's code, reason, time and
arguments; one that is RELEASED keeps it (a reason in its queue of 64, another as its pending trigger) or counts it as missed and merged. A module that
does not decide releases none (but of the power-fail task). R160, R233: while releases are held, triggers wait.

R98, R117, R124: a host event is registered as trigger 4 by the holder alone; its result tells the number of tasks
released: at once without a standby in RUN, else when the standby has confirmed the notice of each.

Forms whose completion it states: eventRelease, tskHevt. -/
def Obligations.EventTasksTakeTriggersAndHostEvents : Prop :=
  ((∀ (s : State) chk, s.tsk.trigQ = [] ∨ eventsHeld s = true → Completes (.eventRelease chk) s (fun u => u = s)) ∧
  (∀ (s : State) g rest, s.tsk.trigQ = g :: rest → inRun s = true → eventsHeld s = false → hostStamp g = none →
    (triggerTasks s g = [] → Completes (.eventRelease .clean) s (fun u => u = { s with tsk := { s.tsk with trigQ := rest } })) ∧
    (∀ e tr, triggerTasks s g = [(e, tr)] → taskEntry s e.num = some e → e.enable = true → e.event = true →
      let r := s.tsk.rt[e.num]
      let taken := { s with tsk := { s.tsk with trigQ := rest } }
      let lost := onTaskStats e.num (fun a => { a with merge := satSucc max32 a.merge }) (onTask e.num (fun x => { x with missed := x.missed + 1 }) taken)
      (decides s = false → e.trigger ≠ 7 → Completes (.eventRelease .clean) s (fun u => u = taken)) ∧
      (decides s = true → r.st = .released →
        Completes (.eventRelease .clean) s (fun u => u =
          if tr.code = 5 then (if r.queue.length < 64 then onTask e.num (fun x => { x with queue := x.queue ++ [tr] }) taken else lost)
          else if r.pending = none then onTask e.num (fun x => { x with pending := some tr }) taken else lost)) ∧
      (partnerPresent s = false → r.st = .waiting →
        Completes (.eventRelease .clean) s (fun u =>
          (∃ c, u.tsk.rt[e.num] = { r with
              st := .released, cycle := if r.first then 0 else r.cycle + 1, lastRel := s.tb.now, cur := some c
              missed := 0, skipped := false, first := false, change := false, reload := false } ∧
            c.record = ⟨s.tb.now, if r.first then 0 else r.cycle + 1, BitVec.ofNat 8 tr.code, tr.reason, BitVec.ofNat 8 (min 255 r.missed),
              BitVec.ofNat 8 (bitNat r.first + 2 * bitNat s.mod.warm + 4 * bitNat r.change + 8 * bitNat r.skipped + 16 * bitNat (!holds s)),
              tr.stamp, tr.arg, tr.info⟩ ∧
            c.base = tr.at_ ∧ (∀ x ∈ c.snapshot, x.1 ∈ pointsOf e.inputs) ∧ u.mem.cells = writeInputs c.snapshot s.mem.cells) ∧
          (∀ j, j ≠ e.num → u.tsk.rt[j] = s.tsk.rt[j]) ∧ u.tsk.trigQ = rest ∧
          (u.tsk.acc[e.num]).rel = satSucc max32 ((boundary s.tb.now s).tsk.acc[e.num]).rel)))) ∧
  (∀ (s : State) g rest k, s.tsk.trigQ = g :: rest → inRun s = true → eventsHeld s = false →
    exec (.eventRelease (.correctable k)) s = exec (.eventRelease .clean) (countCorrected k s))) ∧
  ((∀ (s : State) se value, sesOpen s se = true → preCheck regHevt se s = none → inRun s = true → holds s = false → holderReachable s = false →
    Completes (.tskHevt se value) s (fun u => u = setRes se .hevt 5 (asked se s))) ∧
  (∀ (s : State) se value, admitted regHevt se s = true →
    let n := value.toNat % 256
    let ts := hostEventTasks s n
    (inRun s = false → Completes (.tskHevt se value) s (fun u => u = setRes se .hevt 4 (asked se s))) ∧
    (inRun s = true → holds s = true → partnerInRun s = false → s.tsk.switch = none → Completes (.tskHevt se value) s (fun u =>
      u.tsk = { s.tsk with trigQ := s.tsk.trigQ ++
        [.matching 4 n 0 ⟨4, 0, s.tb.now, BitVec.ofNat 32 n, s.ses.tab[se].sel.hevtVal, s.tb.now⟩] } ∧
      u.ses.tab[se].res.hevt = (if ts = [] then 2 else BitVec.ofNat 32 (16 * ts.length + 1)) ∧
      u = { s with tsk := u.tsk, ses := u.ses })) ∧
    (∀ e rest, inRun s = true → holds s = true → partnerInRun s = true → saddleUp s = true → s.lease.resync = none → ts = e :: rest →
      Completes (.tskHevt se value) s (fun u =>
        u.pair.waits = s.pair.waits ++ [⟨noticeId s.tb.now e.num, s.pair.nextId, none,
          [.result (.here se) .hevt (BitVec.ofNat 32 (16 * ts.length + 1))], rest.map (fun x => noticeId s.tb.now x.num)⟩] ∧
        u = { s with tsk := u.tsk, ses := u.ses, pair := u.pair }))))

/-- R111 to R113, R220, R221: the holder's notice gives the standby's release its record; one that is ahead of this module's release waits, one of an
older release is discarded. 10 µs after its own instant the standby goes on without it, marked, and a later notice changes nothing. In each
case the snapshot is written to the input image and no other task is touched.

R220, R221: the holder takes the partner's readings for a release that waits for them, keeps those that come early, and after 10 µs goes on
without them; the snapshot is written to the input image and no other task is touched.

Forms whose completion it states: releaseNoticeReceive, noticeTimeout, partnerReadingsReceive, partnerReadingsTimeout. -/
def Obligations.SnapshotsAreCompletedByThePartner : Prop :=
  ((∀ (s : State) v (n : Notice) e, taskEntry s n.task = some e → inRun s = true → decides s = false → e.event = false → firstCopy v s = true →
    let r := s.tsk.rt[n.task]
    let kept := onTask n.task (fun x => { x with notices := x.notices ++ [n] }) (noted v s)
    (∀ c, r.cur = some c → c.record.cycle = n.record.cycle → c.awaiting = true → s.tb.now ≤ c.record.relts + 10000 →
      Completes (.releaseNoticeReceive v n) s (fun u =>
        (∃ d, u.tsk.rt[n.task] = { r with cur := some d, reload := false } ∧ d.record = n.record ∧ d.awaiting = false ∧ d.fromHolder = true ∧
          d.base = c.base ∧ u.mem.cells = writeInputs d.snapshot s.mem.cells) ∧ (∀ j, j ≠ n.task → u.tsk.rt[j] = s.tsk.rt[j]))) ∧
    (∀ c, r.cur = some c → c.record.cycle = n.record.cycle → c.awaiting = true → c.record.relts + 10000 < s.tb.now →
      Completes (.releaseNoticeReceive v n) s (fun u =>
        ∃ d, u.tsk.rt[n.task] = { r with cur := some d, reload := false } ∧ d.record = { c.record with flags := c.record.flags ||| 0x10 })) ∧
    (∀ c, r.cur = some c → c.record.cycle = n.record.cycle → c.awaiting = false →
      Completes (.releaseNoticeReceive v n) s (fun u => u = noted v s)) ∧
    (∀ c, r.cur = some c → c.record.cycle ≠ n.record.cycle → Completes (.releaseNoticeReceive v n) s (fun u =>
      u = if (n.record.cycle - c.record.cycle).toNat < 2 ^ 31 then kept else noted v s)) ∧
    (r.cur = none → Completes (.releaseNoticeReceive v n) s (fun u => u = if r.doneCycle = some n.record.cycle then noted v s else kept))) ∧
  (∀ (s : State) (t : Fin 64) (n : Fin 128) e c, n.val = t.val → taskEntry s n = some e → s.tsk.rt[n].cur = some c → c.awaiting = true →
    (c.record.relts + 10000 ≤ s.tb.now → Completes (.noticeTimeout t) s (fun u =>
      (∃ d, u.tsk.rt[n] = { s.tsk.rt[n] with cur := some d, reload := false } ∧ d.record = { c.record with flags := c.record.flags ||| 0x10 } ∧
        d.awaiting = false ∧ u.mem.cells = writeInputs d.snapshot s.mem.cells) ∧
      (u.tsk.acc[n]).nlate = satSucc max32 ((boundary s.tb.now s).tsk.acc[n]).nlate ∧
      u.tsk.stat.noticeMax = max (boundary s.tb.now s).tsk.stat.noticeMax 10000 ∧
      (∀ j, j ≠ n → u.tsk.rt[j] = s.tsk.rt[j]))) ∧
    (s.tb.now < c.record.relts + 10000 → Completes (.noticeTimeout t) s (fun u => u = s)))) ∧
  ((∀ (s : State) v t e c cyc rs, taskEntry s t = some e → holds s = true → s.tsk.rt[t].cur = some c → firstCopy v s = true →
    (c.record.cycle = cyc → c.partnerDue = true → Completes (.partnerReadingsReceive v t cyc rs) s (fun u =>
      (∃ d, u.tsk.rt[t] = { s.tsk.rt[t] with cur := some d, reload := false } ∧ d.partnerDue = false ∧ d.record = c.record ∧
        u.mem.cells = writeInputs d.snapshot s.mem.cells) ∧ (∀ j, j ≠ t → u.tsk.rt[j] = s.tsk.rt[j]))) ∧
    (c.record.cycle = cyc → c.partnerDue = false → Completes (.partnerReadingsReceive v t cyc rs) s (fun u => u = noted v s)) ∧
    (c.record.cycle ≠ cyc → Completes (.partnerReadingsReceive v t cyc rs) s (fun u =>
      u = onTask t (fun r => { r with early := some (cyc, rs) }) (noted v s)))) ∧
  (∀ (s : State) t e c, taskEntry s t = some e → s.tsk.rt[t].cur = some c → c.partnerDue = true →
    (c.record.relts + 10000 ≤ s.tb.now → Completes (.partnerReadingsTimeout t) s (fun u =>
      (∃ d, u.tsk.rt[t] = { s.tsk.rt[t] with cur := some d, reload := false } ∧ d.partnerDue = false ∧ d.record = c.record ∧
        u.mem.cells = writeInputs d.snapshot s.mem.cells) ∧ (∀ j, j ≠ t → u.tsk.rt[j] = s.tsk.rt[j]))) ∧
    (s.tb.now < c.record.relts + 10000 → Completes (.partnerReadingsTimeout t) s (fun u => u = s))))

/-! ### Commands of sessions (15 R393, R397, 20 R489, R490) -/

/-- R393, R397, R489, R490: a command that a session writes into a command register does nothing without an open session; in FAILED and STOPPED it is refused but
for the module's own commands; a session without the register's class gets result 3; in a standby it is relayed to the holder, and without one in reach its
result says so. The session's writes are counted in each case. -/
def Obligations.RegisterCommandsAreCheckedFirst : Prop :=
  ∀ c s k v se, cmdOf c s = some (k, v, se) →
    let noted := onSess se (fun x => { x with lastMsg := s.tb.now }) s
    (sesOpen s se = false → Completes c s (fun u => u = s)) ∧
    (∀ r, sesOpen s se = true → preCheck k se s = some r → Completes c s (fun u =>
      u = if r.kind = 3 then setRes se k.reg 3 (noteWrite se (some r) (refusal se r noted)) else noteWrite se (some r) (refusal se r noted))) ∧
    (sesOpen s se = true → preCheck k se s = none → mustRelay k s = true → holderReachable s = false →
      Completes c s (fun u => u = setRes se k.reg k.noHolder (asked se s))) ∧
    (sesOpen s se = true → preCheck k se s = none → mustRelay k s = true → holderReachable s = true → saddleOpen s = true →
      Completes c s (fun u =>
        u.out = s.out ++ [Out.saddle [0, 1] (s.pair.seqOut + 1) s.lsk.unchecked (.relay ⟨s.pair.nextId, se, effRead s.ses.tab[se], effWrite s.ses.tab[se], s.ses.tab[se].classes,
          stagingOf s.ses.tab[se].sel, .regCmd k.off v⟩)] ∧
        u.ses.relayed.getLast? = some ⟨s.pair.nextId, se, some k.reg, 0, none, k.off, v.toNat, false⟩ ∧
        u.pair = { s.pair with nextId := s.pair.nextId + 1, seqOut := s.pair.seqOut + 1 } ∧ u = { s with out := u.out, ses := u.ses, pair := u.pair, mir := u.mir, lsk := u.lsk }))

/-! ### Completions, mirroring, statistics (04, 08) -/

/-- R28, R29, R63, R99, R106 to R109, R278, R369: a cycle completes when its phases have ended: the col has accepted its digest, and every slot
and routine of the task has run in the lanes. Its task waits again, the completion is counted, the outputs of local channels wait for the
next ford frame, a queued CAN frame becomes pending, and trigger 9 is registered; memory, which the commit phase has written, stays. Before
that nothing happens.

R28, R64, R204, R223, R224: a standby applies the granules of a mirror message in one step, after its own commit of that cycle; one of host
writes is confirmed. A holder and a module outside RUN take none. Of memory, only the granules of the message change.

Forms whose completion it states: taskCompletion, mirrorApply. -/
def Obligations.CyclesAreCommittedAndMirrored : Prop :=
  (∀ (s : State) t e c, taskEntry s t = some e → s.tsk.rt[t].cur = some c → inRun s = true →
    let r := s.tsk.rt[t]
    let b := boundary s.tb.now s
    (phasesEnded s t = false → Completes (.taskCompletion t .clean) s (fun u => u = s)) ∧
    (∀ k, exec (.taskCompletion t (.correctable k)) s = exec (.taskCompletion t .clean) (countCorrected k s)) ∧
    (phasesEnded s t = true → r.queue = [] → r.pending = none → s.mir.inbox = [] → (∀ j : Fin 128, s.tsk.rt[j].notices = []) → s.tsk.switch = none →
      Completes (.taskCompletion t .clean) s (fun u =>
        u.mem.cells = s.mem.cells ∧
        u.tsk.rt[t].st = .waiting ∧ u.tsk.rt[t].cur = none ∧ u.tsk.rt[t].doneCycle = some c.record.cycle ∧
        u.tsk.rt[t].lastExec = min max32 (s.tb.now - c.record.relts) ∧ u.tsk.rt[t].lastFlags = c.flags ∧ u.tsk.rt[t].next = r.next ∧
        u.tsk.rt[t].index = r.index ∧ u.tsk.rt[t].cycle = r.cycle ∧
        (∀ j, j ≠ t → u.tsk.rt[j].st = s.tsk.rt[j].st ∧ u.tsk.rt[j].cur = s.tsk.rt[j].cur ∧ u.tsk.rt[j].next = s.tsk.rt[j].next) ∧
        u.tsk.acc[t].done = satSucc max32 b.tsk.acc[t].done ∧ u.tsk.acc[t].sum = b.tsk.acc[t].sum + (s.tb.now - c.record.relts) ∧
        u.tsk.acc[t].miss = (if e.deadline * 10000 < s.tb.now - c.base then satSucc max32 b.tsk.acc[t].miss else b.tsk.acc[t].miss) ∧
        u.tsk.trigQ.getLast? = some (.matching 9 t.val 0 ⟨9, 0, s.tb.now, BitVec.ofNat 32 t.val, c.record.cycle, s.tb.now⟩) ∧
        (∀ (i : Image) (ch : Fin 192) (p : Nat), s.img.run = some i → i.channels[ch].outPoint = some p → (∃ o ∈ c.outputs, o.1 = p) →
          u.io.chan[ch].outNew = true ∧ u.io.chan[ch].outVal = recValue (Memory.word s.mem.cells (outputAddr p)) ∧
          u.io.chan[ch].outQual = recQuality (Memory.word s.mem.cells (outputAddr p))) ∧
        (∀ (p : Fin 4) (b : Fin 32) f, c.can = [.queue p b f] → (canEntry s p).enabled = true → s.can[p].tx[b].st = .empty → (e.trigger ≠ 7 ∨ holds s = true) →
          u.can[p].tx[b].st = .pending ∧ u.can[p].tx[b].frame = some f ∧ u.can[p].tx[b].task = t)))) ∧
  (∀ (s : State) v m, s.mod.st ≠ .off → s.mod.st ≠ .boot → s.pair.up[v.link] = true →
    let h := heardUp v s
    let apply := m.granules.foldl (fun c g => Memory.writeBytes c (granuleAddr g.1) (leBytes 64 g.2.toNat)) s.mem.cells
    let kept := { h with mir := { h.mir with inbox := s.mir.inbox ++ [m] } }
    (s.mod.st ≠ .join → (holds s = true ∨ inRun s = false) → Completes (.mirrorApply v m) s (fun u => u = h)) ∧
    (holds s = false → inRun s = true → mirrorWaits m s = true → Completes (.mirrorApply v m) s (fun u => u = kept)) ∧
    (holds s = false → inRun s = true → mirrorWaits m s = false →
      Completes (.mirrorApply v m) s (fun u => u.mem = { s.mem with cells := apply } ∧
        (m.task = none → saddleOpen s = true → u.out = s.out ++ [Out.saddle [0, 1] (s.pair.seqOut + 1) s.lsk.unchecked (.confirm m.cycle.toNat)]) ∧
        u.mir.acc.mGran = satAdd max32 s.mir.acc.mGran m.granules.length ∧
        u = { h with mem := u.mem, tsk := { s.tsk with rt := u.tsk.rt }, mir := u.mir, out := u.out, pair := u.pair, lsk := u.lsk })) ∧
    (s.mod.st = .join → s.mod.joinBegan ≠ none → s.mod.joinAt = none → Completes (.mirrorApply v m) s (fun u => u = kept)))

/-- R119 to R122, R231, R488: at a whole multiple of the interval every statistic is latched and restarted, once; in RUN the interval is numbered and the health report
of it sent. A report of the partner is kept, and recorded when it is not OK and differs.

Forms whose completion it states: statisticsBoundary, healthReportReceive. -/
def Obligations.StatisticsAreLatchedAtTheirBoundaries : Prop :=
  (∀ s : State, (statNs s = 0 ∨ s.tb.now / statNs s * statNs s ≤ s.tsk.statMark) → Completes .statisticsBoundary s (fun u => u = s)) ∧
  (∀ s : State, statNs s ≠ 0 → s.tsk.statMark < s.tb.now / statNs s * statNs s → Completes .statisticsBoundary s (fun u =>
    u.tsk.lat = s.tsk.acc ∧ (∀ t : Fin 128, u.tsk.acc[t] = {}) ∧ u.tsk.statLat = s.tsk.stat ∧ u.tsk.stat = {} ∧
    u.tbLat = s.tbAcc ∧ u.tbAcc = {} ∧ u.frc.lat = s.frc.acc ∧ u.frc.acc = {} ∧ u.lsk.lat = s.lsk.acc ∧ (s.lsk.unchecked = false → u.lsk.acc = {}) ∧
    u.mir.lat = s.mir.acc ∧ u.mir.acc = {} ∧ (∀ l : Fin 24, u.links[l].lat = s.links[l].acc ∧ u.links[l].acc = {}) ∧
    (∀ l : Fin 24, ∀ p : Fin 32, u.links[l].stns[p].lat = s.links[l].stns[p].acc ∧ u.links[l].stns[p].acc = {}) ∧
    u.io.lat = s.io.acc ∧ (∀ n : Fin 24, u.io.acc[n] = {}) ∧ (∀ p : Fin 4, u.can[p].lat = s.can[p].acc ∧ u.can[p].acc = {}) ∧
    u.ses.lat = s.ses.acc ∧ u.ses.acc = {} ∧ u.tel.lat = s.tel.acc ∧ u.tel.acc = {} ∧ u.evr.lat = s.evr.acc ∧
    u.lcd.lat = s.lcd.acc ∧ u.lcd.acc = {} ∧
    u.tsk.statEnd = s.tb.now / statNs s * statNs s ∧ u.tsk.statMark = u.tsk.statEnd ∧ u.tsk.statPartial = s.tsk.statShort ∧ u.tsk.statShort = false ∧
    u.tsk.statSeq = (if inRun s then s.tsk.statSeq + 1 else s.tsk.statSeq) ∧ u.tsk.rt = s.tsk.rt ∧ u.tsk.trigQ = s.tsk.trigQ ∧
    u.mem = s.mem ∧ (inRun s = true → saddleOpen s = true → u.out = s.out ++ [Out.saddle [0, 1] (s.pair.seqOut + 1) s.lsk.unchecked (.health u.mir.health)]))) ∧
  (∀ (s : State) v report, firstCopy v s = true → Completes (.healthReportReceive v report) s (fun u =>
    u.mir = { (noted v s).mir with pHealth := report, pReported := true } ∧ u = { noted v s with mir := u.mir, evr := u.evr } ∧
    ((s.mir.pHealth.extractLsb' 0 16 = report.extractLsb' 0 16 ∨ report.getLsbD 0 = true) → u.evr = s.evr) ∧
    (s.mir.pHealth.extractLsb' 0 16 ≠ report.extractLsb' 0 16 → report.getLsbD 0 = false → s.evr.queue.length < 256 →
      ∃ e : Ev, u.evr.queue = s.evr.queue ++ [e] ∧ e.code = 0x1030 ∧ e.sev = 1)))

/-! ### The time base (05) -/

/-- R127, R128, R134, R137, R428, R439: once a second the temperature correction takes the negative of the oscillator's error, within the table's range; a time mapping is due when the
interval has passed: it is recorded in two slots, the time base is saved; alignment is lost when the drift of 0.5 ppm may have used up what is left of ±50 ns.

Forms whose completion it states: oscillatorCompensation, timeMappingInterval, pairAlignmentLoss. -/
def Obligations.TimeBaseIsCompensatedMappedAndAligned : Prop :=
  (∀ (s : State) temp d, Completes (.oscillatorCompensation temp d) s (fun u =>
    u.tb = { s.tb with oscTemp := temp, tempCor := -(oscError temp.toInt)
                       tempFault := decide (temp.toInt < -4000) || decide (12500 < temp.toInt) } ∧
    (100 < d → u.tel.env[(4 : Fin 8)].active = true) ∧ (d ≤ 80 → u.tel.env[(4 : Fin 8)].active = false) ∧
    (80 < d → d ≤ 100 → u.tel.env[(4 : Fin 8)] = s.tel.env[(4 : Fin 8)]) ∧
    u.tel.env[(7 : Fin 8)].active = u.tb.tempFault ∧
    (∀ k : Fin 8, k ≠ 4 → k ≠ 7 → u.tel.env[k] = s.tel.env[k]) ∧
    u = { s with tb := u.tb, tel := { s.tel with env := u.tel.env }, mem := { s.mem with writes := u.mem.writes }, evr := u.evr })) ∧
  (∀ k : Fin 166, oscError (100 * (k.val : Int) - 4000) = Config.oscEntry k) ∧
  (∀ s : State, s.tb.now < s.tb.lastMap + mapInterval s → Completes .timeMappingInterval s (fun u => u = s)) ∧
  (∀ s : State, s.tb.lastMap + mapInterval s ≤ s.tb.now → s.evr.queue.length < 255 → Completes .timeMappingInterval s (fun u =>
    (∃ a b, u.evr.queue = s.evr.queue ++ [a, b] ∧ a.code = 0x0001 ∧ b.code = 0x0002 ∧
      a.data = recData [(8, s.tb.now - 4 * s.tel.opFrac), (1, 0), (1, s.tb.ptpState.val)] ∧ b.data = recData [(8, signedField 8 s.tb.ptpOfs)]) ∧
    u.mem = { s.mem with writes := s.mem.writes ++ [⟨.savedTime s.tb.now, 0, .none⟩] } ∧ u.tb = { s.tb with lastMap := s.tb.now } ∧
    u = { s with evr := u.evr, mem := u.mem, tb := u.tb })) ∧
  (∀ s : State, s.tb.pairAligned = true → Completes .pairAlignmentLoss s (fun u =>
    u = if s.tb.lastHb + (50 - min 50 s.tb.pairErr.natAbs) * 2000000 ≤ s.tb.now then { s with tb := { s.tb with pairAligned := false } } else s))

/-- R127, R130, R131, R132, R135: a sync of the selected master gives an offset and sends a delay request; a two-step one waits for its
Follow_Up. The mean of both directions is the path delay. In LOCKED a disciplining module removes an offset of up to 1 ms by slewing at a
free rate within ±200 ppm, and takes a larger one into the PTP offset. Sixteen syncs within ±1 µs reach LOCKED, and before the module
leaves CALIBRATE the time base is then set from PTP.

R130, R131: an announce message of an enabled port and the module's domain enters its sender among the masters that have not timed out,
and the best of them is selected; another grandmaster ends LOCKED and HOLDOVER. LOCKED ends in HOLDOVER after 3 s without sync or when three
of the master's announce intervals pass without one; HOLDOVER in LISTENING after 3 600 s.

Forms whose completion it states: ptpSyncReceive, ptpAnnounceReceive, ptpHoldoverTimeout, ptpListeningTimeout, ptpDelayRespReceive, ptpFollowUpReceive. -/
def Obligations.PtpDisciplinesTheTimeBase : Prop :=
  ((∀ (s : State) m, (fromMaster s m.port m.domain m.sender = false ∨ m.logInterval < -7 ∨ 0 < m.logInterval) →
    Completes (.ptpSyncReceive m) s (fun u => u = s)) ∧
  (∀ (s : State) m, fromMaster s m.port m.domain m.sender = true → -7 ≤ m.logInterval → m.logInterval ≤ 0 →
    let m2s : Int := (m.rx : Int) + s.tb.ptpOfs - ((m.origin : Int) + m.correction)
    let err := s.tb.pathDelay - m2s
    (m.twoStep = true → Completes (.ptpSyncReceive m) s (fun u =>
      u = { s with tb := { s.tb with pendSync := some ⟨m.sender, m.seq, m.rx, m.correction⟩ } })) ∧
    (m.twoStep = false → s.tb.ptpState = 2 → disciplines s = true → Completes (.ptpSyncReceive m) s (fun u =>
      u.tb.ptpErr = err ∧ u.tb.lastSync = s.tb.now ∧ u.tb.now = s.tb.now ∧ u.tb.ptpState = 2 ∧ u.tb.pendSync = none ∧
      u.tb.delayReq = some (s.tb.delaySeq + 1, s.tb.now) ∧ u.out = s.out ++ [Out.ptpDelayReq s.tb.ptpPort (s.tb.delaySeq + 1)] ∧
      (err ≤ 1000000 → -1000000 ≤ err →
        u.tb.slew = err * 4294967296 ∧ u.tb.ptpOfs = s.tb.ptpOfs ∧ u.tb.m2s = m2s ∧ -200000 ≤ u.tb.rate ∧ u.tb.rate ≤ 200000) ∧
      (err < -1000000 ∨ 1000000 < err →
        u.tb.slew = 0 ∧ u.tb.ptpOfs = s.tb.ptpOfs + err ∧ u.tb.m2s = s.tb.pathDelay ∧ u.tbAcc.absorb = satSucc max32 s.tbAcc.absorb) ∧
      u = { s with tb := u.tb, tbAcc := u.tbAcc, out := u.out, evr := u.evr, mem := u.mem, free := u.free } ∧ u.mem.cells = s.mem.cells)) ∧
    (m.twoStep = false → (s.tb.ptpState = 1 ∨ s.tb.ptpState = 3) → Completes (.ptpSyncReceive m) s (fun u =>
      u.tb.ptpErr = err ∧
      (err - s.tb.lockRef ≤ 1000 → -1000 ≤ err - s.tb.lockRef → s.tb.inLock < 15 →
        u.tb.ptpState = s.tb.ptpState ∧ u.tb.inLock = s.tb.inLock + 1 ∧ u.tb.slew = s.tb.slew ∧ u.tb.ptpOfs = s.tb.ptpOfs) ∧
      (err - s.tb.lockRef ≤ 1000 → -1000 ≤ err - s.tb.lockRef → 15 ≤ s.tb.inLock →
        u.tb.ptpState = 2 ∧ (beforeJoin s = true → u.tb.ptpOfs = 0 ∧ u.tb.source = 1 ∧ u.tb.now = ((s.tb.now : Int) + s.tb.ptpOfs + err).toNat)) ∧
      ((err - s.tb.lockRef < -1000 ∨ 1000 < err - s.tb.lockRef) → u.tb.ptpState = s.tb.ptpState ∧ u.tb.inLock = 1)))) ∧
  (∀ (s : State) m p, s.tb.pendSync = some p → p.sender = m.sender → p.seq = m.seq → fromMaster s m.port m.domain m.sender = true →
    Completes (.ptpFollowUpReceive m) s (fun u =>
      u.tb.ptpErr = s.tb.pathDelay - ((p.rx : Int) + s.tb.ptpOfs - ((m.origin : Int) + (p.correction + m.correction))) ∧ u.tb.pendSync = none ∧
      u.out = s.out ++ [Out.ptpDelayReq s.tb.ptpPort (s.tb.delaySeq + 1)])) ∧
  (∀ (s : State) m q (t3 : Nat), s.tb.delayReq = some (q, t3) → m.forUs = true → fromMaster s m.port m.domain m.sender = true →
    Completes (.ptpDelayRespReceive m) s (fun u =>
      u = if q = m.seq then { s with tb := { s.tb with
            pathDelay := Int.tdiv (s.tb.m2s + ((m.rx : Int) - m.correction - ((t3 : Int) + s.tb.ptpOfs))) 2, delayReq := none } } else s))) ∧
  ((∀ (s : State) m, ((portEntry s m.port).enabled = false ∨ (portEntry s m.port).ptp = false ∨ m.domain.toNat ≠ (portEntry s m.port).domain ∨
      m.logInterval < -3 ∨ 4 < m.logInterval) →
    Completes (.ptpAnnounceReceive m) s (fun u => u = s)) ∧
  (∀ (s : State) m, (portEntry s m.port).enabled = true → (portEntry s m.port).ptp = true → m.domain.toNat = (portEntry s m.port).domain →
    -3 ≤ m.logInterval → m.logInterval ≤ 4 →
    let heard := (s.tb.masters.filter (fun x => !(x.1.sender == m.sender && x.1.port == m.port))).filter
      (fun x => decide (s.tb.now < x.2 + 375000000 * 2 ^ (x.1.logInterval + 3).toNat)) ++ [(m, s.tb.now)]
    Completes (.ptpAnnounceReceive m) s (fun u =>
      u.tb.masters = heard ∧ u.tb.master = bestMaster heard ∧ u.tb.now = s.tb.now ∧
      (∀ b, bestMaster heard = some b → u.tb.ptpPort = b.port) ∧
      (bestMaster heard = some m → u.tb.lastAnnounce = s.tb.now) ∧
      (∀ a b, s.tb.master = some a → bestMaster heard = some b → a.gmId ≠ b.gmId → (s.tb.ptpState = 2 ∨ s.tb.ptpState = 3) → u.tb.ptpState = 1) ∧
      ((∀ a b, s.tb.master = some a → bestMaster heard = some b → a.gmId = b.gmId) ∨ (s.tb.ptpState ≠ 2 ∧ s.tb.ptpState ≠ 3) →
        u.tb.ptpState = s.tb.ptpState))) ∧
  (∀ (s : State) m, s.tb.master = some m → s.tb.ptpState = 2 →
    (s.tb.lastSync + 3000000000 ≤ s.tb.now ∨ s.tb.lastAnnounce + 375000000 * 2 ^ (m.logInterval + 3).toNat ≤ s.tb.now) →
    Completes .ptpHoldoverTimeout s (fun u =>
      u.tb = { s.tb with ptpState := 3, inLock := 0, lockRef := 0, holdSince := s.tb.now } ∧ u.tbAcc.lockLoss = satSucc max32 s.tbAcc.lockLoss ∧
      u = { s with tb := u.tb, tbAcc := u.tbAcc, evr := u.evr })) ∧
  (∀ (s : State) m, s.tb.master = some m →
    (s.tb.ptpState ≠ 2 ∨ (s.tb.now < s.tb.lastSync + 3000000000 ∧ s.tb.now < s.tb.lastAnnounce + 375000000 * 2 ^ (m.logInterval + 3).toNat)) →
    Completes .ptpHoldoverTimeout s (fun u => u = s)) ∧
  (∀ s : State, s.tb.ptpState = 3 → s.tb.holdSince + 3600000000000 ≤ s.tb.now → Completes .ptpListeningTimeout s (fun u =>
    u.tb = { s.tb with ptpState := 1, inLock := 0, lockRef := 0, holdSince := s.tb.now, master := none, masters := [] } ∧
    u = { s with tb := u.tb, evr := u.evr })) ∧
  (∀ s : State, s.tb.ptpState ≠ 3 ∨ s.tb.now < s.tb.holdSince + 3600000000000 → Completes .ptpListeningTimeout s (fun u => u = s)))

/-! ### On-line change and forcing (06) -/

/-- R150, R151, R155, R391: CHANGE needs an open session of class IMAGE with the configuration claim, a module that decides it, an armed idle terrace of that identity and
no other request; it is refused with the number of what it lacks. One that is accepted makes the idle terrace SWITCHING and looks for the first instant. In a standby the
holder's candidate is taken and acknowledged.

Forms whose completion it states: change, switchCandidateReceive. -/
def Obligations.ChangeRequestsBeginASearch : Prop :=
  (∀ (s : State) se tag ident, sesOpen s se = false → Completes (.change se tag ident) s (fun u => u = s)) ∧
  (∀ (s : State) se tag ident, sesOpen s se = true → tooMany s se = false → s.mod.st ≠ .failed → s.mod.st ≠ .stopped →
    let noted := onSess se (fun x => { x with lastMsg := s.tb.now }) s
    (s.ses.tab[se].classes.getLsbD 1 = false → Completes (.change se tag ident) s (fun u => u = reply se 0x0020 tag 1 [] noted)) ∧
    (s.ses.tab[se].classes.getLsbD 1 = true → ¬ (inRun s = true ∧ holds s = false ∧ partnerPresent s = true) →
      (∀ k, changeRefused (reqOf se s) ident s = some k →
        Completes (.change se tag ident) s (fun u => u = reply se 0x0020 tag 0 (changeBody k 0 0) noted)) ∧
      (changeRefused (reqOf se s) ident s = none → Completes (.change se tag ident) s (fun u =>
        u.img = { s.img with idle := .switching } ∧
        (∃ q, u.tsk = { s.tsk with switch := some q } ∧ q.asker = some (.here se) ∧ q.tag = tag ∧ q.start = s.tb.now ∧ q.attempts = 0 ∧
          (∀ r, nextCandidate s.tb.now s = some r → q.phase = .candidate ∧ q.r = r) ∧
          (nextCandidate s.tb.now s = none → q.phase = .searching)) ∧
        u.ses = noted.ses ∧ u = { s with img := u.img, tsk := u.tsk, ses := u.ses, out := u.out })))) ∧
  (∀ (s : State) v r, firstCopy v s = true → leads .change s = false → inRun s = true → s.tsk.switch = none →
    Completes (.switchCandidateReceive v r false) s (fun u =>
      u.tsk.switch = some { newHold none 0 s with phase := .candidate, r := r } ∧
      (saddleOpen s = true → u.out = s.out ++ [Out.saddle [0, 1] (s.pair.seqOut + 1) s.lsk.unchecked (.confirm (2 ^ 90 + r))]) ∧
      u = { noted v s with tsk := { s.tsk with switch := u.tsk.switch }, out := u.out, pair := u.pair, lsk := u.lsk })) ∧
  (∀ (s : State) v r k, firstCopy v s = true → (leads (if k then .swap else .change) s = true ∨ inRun s = false) →
    Completes (.switchCandidateReceive v r k) s (fun u => u = noted v s))

/-- R156, R157, R160, R168, R172: at its instant a module alone that has no work in progress opens the switch window: the terraces change in one step, the lanes begin the
new program, forces whose target is gone are dropped, the variables are carried over in memory, and triggers wait. Before the instant nothing happens. With a partner the
verdict is sent first; the partner's opens the window until 10 µs after the instant, or the attempt is abandoned.

R151, R156, R158, R173: a request that is 2 s old ends without a switch: it is answered with result 4, recorded, and the idle terrace is armed again; 10 µs after the
instant an attempt without both verdicts is abandoned: the held releases are made and the search goes on.

R151, R157, R158, R164, R165: at the end of its window, and not before, a switch is recorded with its data, the terrace record is due within 50 ms, the idle terrace is armed, and
CHANGE is answered.

Forms whose completion it states: switchInstant, switchVerdictReceive, switchVerdictTimeout, switchSearchTimeout, switchWindowEnd. -/
def Obligations.SwitchesRunFromTheirInstantToTheirRecord : Prop :=
  ((∀ (s : State) q, s.tsk.switch = some q → q.phase = .candidate → s.tb.now < q.r → Completes .switchInstant s (fun u => u = s)) ∧
  (∀ s : State, s.tsk.switch = none → Completes .switchInstant s (fun u => u = s)) ∧
  (∀ (s : State) q old new, s.tsk.switch = some q → s.img.run = some old → s.img.idleImg = some new → (s.img.idle = .switching ∨ s.img.idle = .armed) → q.r ≤ s.tb.now →
    let p := s.img.forward
    let kept := keptForces old new s.frc.table
    let opened (u : State) : Prop :=
      u.img = { s.img with
        run := some new, idleImg := some old, runBytes := s.img.load, load := s.img.runBytes, total := s.img.runBytes.length, runTerr := !s.img.runTerr
        forward := s.img.reverse, reverse := s.img.forward.used, armDigest := Config.streamDigest old.plain old.seq } ∧
      u.laneA = changeProgram new.prog (some (old.plain, old.seq)) s.laneA ∧
      u.laneB = changeProgram new.prog (some (old.plain, old.seq)) s.laneB ∧
      u.frc.table = kept ∧ u.frc.acc.drop = satAdd max32 s.frc.acc.drop (droppedForces old new s.frc.table).length ∧
      u.mem.cells = writeForced new kept (carryOver p (forcedVars kept) s.mem.cells) ∧
      (∃ w, u.tsk.switch = some w ∧ w.phase = .window ∧ w.r = q.r ∧ w.windowEnd = q.r + (25000 + 25 * gcv p / 2) ∧ w.granules = gcv p ∧ w.asker = q.asker) ∧
      u.tsk.trigQ = [] ∧ u.tsk.heldTrigs = waitingTriggers s ++ s.tsk.trigQ ∧
      (∀ t : Fin 128, u.tsk.rt[t].st = restingState (new.tasks.find? (fun e => e.num == t)))
    (q.phase = .candidate → partnerPresent s = false → ready q.r s = true → Completes .switchInstant s opened) ∧
    (q.phase = .candidate → partnerPresent s = true → q.partnerReady = none → ready q.r s = true → s.tb.now ≤ q.r + 10000 →
      Completes .switchInstant s (fun u =>
        u.tsk = { s.tsk with switch := some { q with phase := .verdicts, ownReady := true } } ∧
        (saddleOpen s = true → u.out = s.out ++ [Out.saddle [0, 1] (s.pair.seqOut + 1) s.lsk.unchecked (.ready true)]) ∧
        u = { s with tsk := u.tsk, out := u.out, pair := u.pair, lsk := u.lsk })) ∧
    (∀ v, q.phase = .verdicts → q.ownReady = true → q.partnerReady = none → s.tb.now ≤ q.r + 10000 → firstCopy v s = true →
      Completes (.switchVerdictReceive v true) s opened) ∧
    (∀ v yes, q.phase = .verdicts → q.partnerReady = none → partnerPresent s = true → (yes = false ∨ q.r + 10000 < s.tb.now) → firstCopy v s = true →
      Completes (.switchVerdictReceive v yes) s (fun u =>
        u.img = s.img ∨ (u.img = { s.img with idle := .armed } ∧ (64 ≤ q.attempts + 1 ∨ q.start + 2000000000 ≤ s.tb.now))))) ∧
  (∀ (s : State) v yes, awaitsVerdict s.tsk.switch = false → awaitsVerdict s.lease.swap = false → firstCopy v s = true →
    Completes (.switchVerdictReceive v yes) s (fun u => u = noted v s))) ∧
  ((∀ (s : State) q, s.tsk.switch = some q → (q.phase = .searching ∨ q.phase = .candidate) → leads .change s = true → q.start + 2000000000 ≤ s.tb.now →
    s.img.idle = .switching →
    Completes .switchSearchTimeout s (fun u =>
      u.tsk.switch = none ∧ u.img = { s.img with idle := .armed } ∧
      ((∀ t ∈ enabledTasks s, releaseDue t s.tb.now s = false) →
        (∀ se, q.asker = some (.here se) → sesOpen s se = true → u.out = s.out ++ [Out.reply s.ses.tab[se].conn 0x0020 q.tag 0 (changeBody 4 0 0)]) ∧
        (s.evr.queue.length < 256 → ∃ v : Ev, u.evr.queue = s.evr.queue ++ [v] ∧ v.code = 0x8201 ∧ v.data = recData [(1, 4), (2, q.attempts)])))) ∧
  (∀ (s : State) q, s.tsk.switch = some q → s.tb.now < q.start + 2000000000 → Completes .switchSearchTimeout s (fun u => u = s)) ∧
  (∀ (s : State) q, s.lease.swap = none → s.tsk.switch = some q → q.phase = .verdicts → leads .change s = true → q.r + 10000 ≤ s.tb.now →
    q.attempts < 63 → s.tb.now < q.start + 2000000000 →
    Completes .switchVerdictTimeout s (fun u =>
      ∃ w, u.tsk.switch = some w ∧ w.attempts = q.attempts + 1 ∧ (w.phase = .searching ∨ w.phase = .candidate) ∧ w.start = q.start)) ∧
  (∀ (s : State) q, s.lease.swap = none → s.tsk.switch = some q → (q.phase ≠ .verdicts ∨ s.tb.now < q.r + 10000) → Completes .switchVerdictTimeout s (fun u => u = s))) ∧
  ((∀ (s : State) q, s.tsk.switch = some q → (q.phase ≠ .window ∨ s.tb.now < q.windowEnd) → Completes .switchWindowEnd s (fun u => u = s)) ∧
  (∀ (s : State) q old new, s.tsk.switch = some q → q.phase = .window → q.windowEnd ≤ s.tb.now → s.img.idleImg = some old → s.img.run = some new → s.ses.held = [] →
    Completes .switchWindowEnd s (fun u =>
      u.tsk.switch = none ∧ u.img.idle = .armed ∧ u.img.run = s.img.run ∧ u.mem.terrDue = some (s.tb.now + 50000000) ∧
      u.tsk.lastSwitch.1 = q.r ∧ u.tsk.lastSwitch.2.extractLsb' 0 32 = BitVec.ofNat 32 (s.tb.now - q.r) ∧
      u.tsk.lastSwitch.2.extractLsb' 32 32 = BitVec.ofNat 32 q.granules ∧ u.tsk.heldTrigs = [])))

/-- R167 to R170, R173, R175: SET, CLEAR and CLEARALL are checked in the order of their results; an accepted change takes effect 100 µs later, is sent to the partner, and is
answered at once where no standby confirms it. A standby confirms a change that it receives.

R168, R169, R173: at its instant every due change takes effect in the order of acceptance; the others wait on. Memory changes only in the homes of variables that a due
change forces. R168: an output point under a force is committed with the forced value, the forced quality and source 5.

Forms whose completion it states: frcSet, frcClear, frcClearall, forceChangeReceive, forceActivation. -/
def Obligations.ForcesAreAcceptedAndTakeEffect : Prop :=
  ((∀ (s : State) se, admitted regFrc se s = true →
    let x := s.ses.tab[se].sel
    let f : Force := ⟨Fin.ofNat 4 (x.setCfg.extractLsb' 2 2).toNat, Fin.ofNat 4 (x.setCfg.extractLsb' 4 2).toNat, x.setTgt, x.setVal⟩
    let mask := effWrite s.ses.tab[se]
    let tells (c : Instr) (v : W32) : Prop := Completes c s (fun u => u = setRes se .frc v (asked se s))
    let accepts (c : Instr) (op : ForceOp) (v : W32) : Prop := Completes c s (fun u =>
      u.frc = { s.frc with waiting := s.frc.waiting ++ [⟨op, s.tb.now + 100000⟩] } ∧
      (partnerInRun s = false → u.ses.tab[se].res.frc = v ∧ u.pair.waits = s.pair.waits) ∧
      (partnerFollows s = true → saddleOpen s = true →
        u.out = s.out ++ [Out.saddle [0, 1] (s.pair.seqOut + 1) s.lsk.unchecked (.force s.pair.nextId op (s.tb.now + 100000))]) ∧
      (partnerInRun s = true → saddleUp s = true → s.lease.resync = none →
        ∃ w, u.pair.waits = s.pair.waits ++ [w] ∧ w.id = s.pair.nextId ∧ w.acts = [.result (.here se) .frc v]) ∧
      u = { s with frc := u.frc, ses := u.ses, pair := u.pair, out := u.out, lsk := u.lsk })
    (inRun s = false → tells (.frcSet se) (frcRes 0 9) ∧ tells (.frcClear se) (frcRes 0 9) ∧ tells (.frcClearall se) (frcRes 0 9)) ∧
    (inRun s = true → 4096 ≤ x.frcSel → tells (.frcSet se) (frcRes 0 2) ∧ tells (.frcClear se) (frcRes 0 2)) ∧
    (inRun s = true → x.frcSel < 4096 →
      (∀ c, forceRefused s f = some c → tells (.frcSet se) (frcRes x.frcSel c)) ∧
      (forceRefused s f = none → mayForce s mask f = false → tells (.frcSet se) (frcRes x.frcSel 5)) ∧
      (forceRefused s f = none → mayForce s mask f = true →
        (∀ m g, forceOn ((forcesToCome s.frc).filter (fun y => y.1.val != x.frcSel)) f.kind f.target = some (m, g) → tells (.frcSet se) (frcRes m.val 7)) ∧
        (forceOn ((forcesToCome s.frc).filter (fun y => y.1.val != x.frcSel)) f.kind f.target = none →
          accepts (.frcSet se) (.set (Fin.ofNat 4096 x.frcSel) x.setCfg x.setTgt x.setVal) (frcRes x.frcSel 1))) ∧
      ((forcesToCome s.frc).find? (fun y => y.1.val == x.frcSel) = none → tells (.frcClear se) (frcRes x.frcSel 8)) ∧
      (∀ m g, (forcesToCome s.frc).find? (fun y => y.1.val == x.frcSel) = some (m, g) →
        (mayForce s mask g = false → tells (.frcClear se) (frcRes x.frcSel 5)) ∧
        (mayForce s mask g = true → accepts (.frcClear se) (.clear m) (frcRes x.frcSel 1)))) ∧
    (inRun s = true →
      (∀ m g, (forcesToCome s.frc).find? (fun y => !mayForce s mask y.2) = some (m, g) → tells (.frcClearall se) (frcRes m.val 5)) ∧
      ((forcesToCome s.frc).find? (fun y => !mayForce s mask y.2) = none → accepts (.frcClearall se) .clearAll (frcRes 0 1)))) ∧
  (∀ (s : State) v id op a, firstCopy v s = true →
    (holds s = true → Completes (.forceChangeReceive v id op a) s (fun u => u = noted v s)) ∧
    (holds s = false → s.tb.now < a → Completes (.forceChangeReceive v id op a) s (fun u =>
      u.frc = { s.frc with waiting := s.frc.waiting ++ [⟨op, a⟩], log := u.frc.log } ∧
      u = { noted v s with frc := u.frc, out := u.out, pair := u.pair, lsk := u.lsk } ∧
      (saddleOpen s = true → u.out = s.out ++ [Out.saddle [0, 1] (s.pair.seqOut + 1) s.lsk.unchecked (.confirm id)]))) ∧
    (holds s = false → a ≤ s.tb.now → Completes (.forceChangeReceive v id op a) s (fun u =>
      u.frc.table = forceOpTable op s.frc.table ∧ u.frc.waiting = s.frc.waiting)))) ∧
  ((∀ s : State, Completes .forceActivation s (fun u =>
    let due := s.frc.waiting.filter (fun c => c.at_ ≤ s.tb.now)
    u.frc.table = due.foldl (fun tb c => forceOpTable c.op tb) s.frc.table ∧
    u.frc.waiting = s.frc.waiting.filter (fun c => !decide (c.at_ ≤ s.tb.now)) ∧
    u = { s with frc := u.frc, mem := { s.mem with cells := u.mem.cells }, tsk := { s.tsk with rt := u.tsk.rt }, evr := u.evr } ∧
    ((∀ c ∈ due, ∀ n cfg tgt v, c.op = .set n cfg tgt v → cfg.extractLsb' 2 2 ≠ 2) → u.mem.cells = s.mem.cells))) ∧
  (∀ (s : State) n cfg tgt v a i x, s.frc.waiting = [⟨.set n cfg tgt v, a⟩] → a ≤ s.tb.now → cfg.extractLsb' 2 2 = 2 → s.img.run = some i →
    i.vars.find? (fun y => y.ident == tgt) = some x → Completes .forceActivation s (fun u =>
      u.mem.cells = Memory.writeBytes s.mem.cells (varBase + x.offset) (leBytes (min 8 x.size) v.toNat) ∧ (n, ⟨2, Fin.ofNat 4 (cfg.extractLsb' 4 2).toNat, tgt, v⟩) ∈ u.frc.table)) ∧
  (∀ (s : State) c p w n f, forceOn c.forces 1 (BitVec.ofNat 64 p) = some (n, f) →
    let r := (commitRecord s c p w).1
    recValue r = f.value ∧ recSource r = 5 ∧ recStatus r = recStatus w ∧
    (f.qual = 0 → recQuality r = 0xC0) ∧ (f.qual = 1 → recQuality r = 0x40) ∧ (f.qual = 2 → recQuality r = 0)) ∧
  (∀ table p r n f, forceOn table 0 (BitVec.ofNat 64 p) = some (n, f) →
    recValue (forceRecord table 0 p r) = f.value ∧ recSource (forceRecord table 0 p r) = 5 ∧
    recStatus (forceRecord table 0 p r) = recStatus r ∧ recTime (forceRecord table 0 p r) = recTime r))

/-! ### The structure image and its keys (02) -/

/-- R391 to R393, R396: the services that a session asks for by message (change, chunk, key, firmware) do nothing without an open session; a session with 64 requests outstanding gets BUSY;
FAILED and STOPPED answer NOT_RUN; a session without the class is FORBIDDEN; a standby relays the service to the holder.

R39, R41: a key statement that is not accepted is answered and recorded with its cause; an accepted one is written to the store with the new table, and answered after that. In a
module without an active key a well-formed installation needs no signature but the maintenance colour. A standby stores what its holder has accepted.

Forms whose completion it states: persistentWriteReadback, key, keyOpForwardReceive. -/
def Obligations.ServicesAreCheckedAndKeysChange : Prop :=
  (∀ (c : Instr) (se : Fin 64) (tag : W32) (cls : Nat) (ident : W256) (o : Nat) (data stmt sig : List Byte) (last : Bool),
    (c = .change se tag ident ∧ cls = 1 ∨ c = .imageChunk se tag o data ∧ cls = 1 ∨ c = .key se tag stmt sig ∧ cls = 2 ∨
      c = .firmwareChunk se tag o data last ∧ cls = 11) → ∀ s : State,
    let noted := onSess se (fun x => { x with lastMsg := s.tb.now }) s
    (sesOpen s se = false → Completes c s (fun u => u = s)) ∧
    (sesOpen s se = true → tooMany s se = true → Completes c s (fun u => u = reply se 0x0020 tag 7 [] noted)) ∧
    (sesOpen s se = true → tooMany s se = false → (s.mod.st = .failed ∨ s.mod.st = .stopped) →
      Completes c s (fun u => u = reply se 0x0020 tag 5 [] noted)) ∧
    (sesOpen s se = true → tooMany s se = false → s.mod.st ≠ .failed → s.mod.st ≠ .stopped → s.ses.tab[se].classes.getLsbD cls = false →
      Completes c s (fun u => u = reply se 0x0020 tag 1 [] (if c = .imageChunk se tag o data then setRes se .img 3 noted else noted))) ∧
    (sesOpen s se = true → tooMany s se = false → s.ses.tab[se].classes.getLsbD cls = true → cls ≠ 11 → inRun s = true → holds s = false →
      partnerPresent s = true → holderReachable s = true → saddleOpen s = true → Completes c s (fun u =>
        (∃ body, u.out = s.out ++ [Out.saddle [0, 1] (s.pair.seqOut + 1) s.lsk.unchecked (.relay ⟨s.pair.nextId, se, effRead s.ses.tab[se], effWrite s.ses.tab[se], s.ses.tab[se].classes,
          stagingOf s.ses.tab[se].sel, body⟩)] ∧
          (c = .change se tag ident → body = .change ident) ∧ (c = .imageChunk se tag o data → body = .chunk o data) ∧
          (c = .key se tag stmt sig → body = .key stmt sig)) ∧ u.img = s.img ∧ u.tsk = s.tsk ∧ u.mem = s.mem))) ∧
  ((∀ (s : State) se tag stmt sig, sesOpen s se = true → tooMany s se = false → s.mod.st ≠ .failed → s.mod.st ≠ .stopped → s.ses.tab[se].classes.getLsbD 2 = true →
    (inRun s = false ∨ holds s = true) →
    let noted := onSess se (fun x => { x with lastMsg := s.tb.now }) s
    (∀ k, keyCause stmt sig ((effWrite s.ses.tab[se]).getLsbD 0) s = some k → Completes (.key se tag stmt sig) s (fun u =>
      u.out = s.out ++ [Out.reply s.ses.tab[se].conn 0x0020 tag (if k = 5 then 1 else 8) []] ∧ u.img = s.img ∧ u.mem = s.mem ∧
      (s.evr.queue.length < 256 → ∃ v : Ev, u.evr.queue = s.evr.queue ++ [v] ∧ v.code = 0x8002 ∧ v.sev = 2))) ∧
    (keyCause stmt sig ((effWrite s.ses.tab[se]).getLsbD 0) s = none → Completes (.key se tag stmt sig) s (fun u =>
      let next := applyStmt stmt (pendingKeys s).1 (pendingKeys s).2
      u = { noted with mem := { s.mem with writes := s.mem.writes ++ [⟨.keyTable next.1 next.2, 0, .keyOp se tag stmt⟩] } })) ∧
    ((effWrite s.ses.tab[se]).getLsbD 0 = false → keyCause stmt sig ((effWrite s.ses.tab[se]).getLsbD 0) s = some 5) ∧
    (activeKeys (pendingKeys s).1 = [] → (effWrite s.ses.tab[se]).getLsbD 0 = true → stmt.length = 40 → stmt.take 4 = [0x4C, 0x58, 0x4B, 0x31] →
      stmtSlot stmt < 8 → stmtOp stmt = 1 → stmt.getD 6 0 = 0 → stmt.getD 7 0 = 0 → fingerprint (stmtKey stmt) ∉ (pendingKeys s).2 →
      keyCause stmt sig ((effWrite s.ses.tab[se]).getLsbD 0) s = none)) ∧
  (∀ (s : State) v id stmt, firstCopy v s = true →
    (holds s = false → stmtSlot stmt < 8 → Completes (.keyOpForwardReceive v id stmt) s (fun u =>
      let next := applyStmt stmt (pendingKeys s).1 (pendingKeys s).2
      u = { noted v s with mem := { s.mem with writes := s.mem.writes ++ [⟨.keyTable next.1 next.2, 0, .keyForward id stmt⟩] } })) ∧
    (holds s = true → Completes (.keyOpForwardReceive v id stmt) s (fun u => u = noted v s))) ∧
  (∀ (s : State) w rest keys revoked tag se stmt, s.mem.writes = w :: rest → w.value = .keyTable keys revoked → w.act = .keyOp se tag stmt → stmtOp stmt = 1 →
    partnerInRun s = false → sesOpen s se = true → Completes (.persistentWriteReadback true) s (fun u =>
      u.img.revoked = revoked ∧ (∀ k : Fin 8, u.img.keys[k] = keys.getD k.val .empty) ∧
      u.out.getLast? = some (.reply s.ses.tab[se].conn 0x0020 tag 0 []))))

/-- R45 to R47, R50, R51, R53: a chunk of the session with the claim at offset 0 begins a load, one at its end goes on; any other is out of SEQUENCE. After byte 95 the header is
checked; at the total length the image is verified, in the order of the checks; a verified image is stored, and is VERIFIED once it is read back. A failure shows its code.

Forms whose completion it states: imageChunk, forwardedChunkReceive, verificationComplete, imageStoreComplete. -/
def Obligations.ImagesAreLoadedVerifiedAndStored : Prop :=
  (∀ (s : State) se tag o data, sesOpen s se = true → tooMany s se = false → s.mod.st ≠ .failed → s.mod.st ≠ .stopped → s.ses.tab[se].classes.getLsbD 1 = true →
    (inRun s = false ∨ holds s = true) → mirrors s = false →
    let noted := onSess se (fun x => { x with lastMsg := s.tb.now }) s
    (claimOf s s.pair.slot se = false → Completes (.imageChunk se tag o data) s (fun u =>
      u = reply se 0x0020 tag (if s.ses.claim.isSome then 7 else 1) [] (setRes se .img 3 noted))) ∧
    (claimOf s s.pair.slot se = true → s.img.cmd = none →
      (s.img.idle = .loading → o ≠ s.img.load.length → Completes (.imageChunk se tag o data) s (fun u => u = reply se 0x0020 tag 12 [] noted)) ∧
      (s.img.idle = .loading → o = s.img.load.length → (s.img.load ++ data).length < 96 → Completes (.imageChunk se tag o data) s (fun u =>
        u = reply se 0x0020 tag 0 [] { noted with img := { s.img with load := s.img.load ++ data } })) ∧
      (s.img.idle = .loading → o = s.img.load.length → s.img.load.length < 96 → 96 ≤ (s.img.load ++ data).length →
        checkHeader (s.img.load ++ data) = none → hdrTotal (s.img.load ++ data) = (s.img.load ++ data).length →
        Completes (.imageChunk se tag o data) s (fun u =>
          u = reply se 0x0020 tag 0 [] { noted with img := { s.img with
            load := s.img.load ++ data, total := (s.img.load ++ data).length, idle := .verifying } })) ∧
      (s.img.idle = .loading → o = s.img.load.length → s.img.load.length < 96 → 96 ≤ (s.img.load ++ data).length →
        ∀ code loc, checkHeader (s.img.load ++ data) = some (code, loc) → Completes (.imageChunk se tag o data) s (fun u =>
          u.img.idle = .failed ∧ u.img.errCode = BitVec.ofNat 8 code ∧ u.img.errLoc = loc ∧ u.img.errSource = 0)) ∧
      ((s.img.idle = .empty ∨ s.img.idle = .verified ∨ s.img.idle = .armed ∨ s.img.idle = .failed) → o = 0 → data.length < 96 →
        Completes (.imageChunk se tag o data) s (fun u =>
          u.img.idle = .loading ∧ u.img.load = data ∧ u.img.idleImg = none ∧ u.img.slots[idleSlot s].st = .empty ∧ u.img.run = s.img.run ∧
          u.mem = s.mem ∧ u.tsk = s.tsk)))) ∧
  (∀ (s : State) v o data, firstCopy v s = true →
    (holds s = true → Completes (.forwardedChunkReceive v o data) s (fun u => u = noted v s)) ∧
    (holds s = false → s.img.cmd = none → s.img.idle = .loading → o = s.img.load.length → o ≠ 0 → (s.img.load ++ data).length < 96 →
      Completes (.forwardedChunkReceive v o data) s (fun u => u = { noted v s with img := { s.img with load := s.img.load ++ data } })) ∧
    (holds s = false → s.img.cmd = none → (s.img.idle = .empty ∨ s.img.idle = .verified ∨ s.img.idle = .armed ∨ s.img.idle = .failed) → data.length < 96 →
      Completes (.forwardedChunkReceive v 0 data) s (fun u => u.img.idle = .loading ∧ u.img.load = data ∧ u.img.idleImg = none ∧ u.img.run = s.img.run))) ∧
  (∀ s : State, s.img.idle ≠ .verifying → Completes .verificationComplete s (fun u => u = s)) ∧
  (∀ s : State, s.img.idle = .verifying → verifyImage s.img.load s.img.keys.toList = none → Completes .verificationComplete s (fun u =>
    u.img.idle = .storing ∧ u.img.slots[idleSlot s].st = .invalid ∧ u = { s with img := { s.img with idle := u.img.idle, slots := u.img.slots } })) ∧
  (∀ (s : State) e, s.img.idle = .verifying → verifyImage s.img.load s.img.keys.toList = some e → Completes .verificationComplete s (fun u =>
    u.img = { s.img with
      idle := .failed, errSource := 0, errCode := BitVec.ofNat 8 e.code, errSect := BitVec.ofNat 8 e.sect, errLoc := e.loc, cmd := none, armOrdered := false })) ∧
  (∀ (s : State) ok, s.img.idle ≠ .storing → Completes (.imageStoreComplete ok) s (fun u => u = s)) ∧
  (∀ s : State, s.img.idle = .storing → Completes (.imageStoreComplete true) s (fun u =>
    u.img.idle = .verified ∧ u.img.idleImg = some (readImage s.img.load) ∧ u.img.slots[idleSlot s] = ⟨.valid, s.img.load⟩ ∧
    (∀ k, k ≠ idleSlot s → u.img.slots[k] = s.img.slots[k]) ∧ u = { s with img := u.img })) ∧
  (∀ s : State, s.img.idle = .storing → Completes (.imageStoreComplete false) s (fun u =>
    u.img.idle = .failed ∧ u.img.errCode = 0x12 ∧ u.img.slots = s.img.slots))

/-- R48, R51, R53, R152, R153, R191: a VERIFIED terrace is armed, the standby's first where there is one; lanes that disagree are a fault, a digest that differs from the stream's is code 0x13; a
window of more than 200 µs in either direction is code 0x10; else the plans are made, the variables initialised that can be, and the terrace is ARMED. A sweep that finds a
difference arms it again.

R45, R47, R50, R53, R55: every image command needs the claim (3) and no operation in progress (2); DISARM, ABORT, CLEAR, ARCHIVE and RESTORE act in the states that they name. The copy
of an archive is VALID once it is read back; a restored image is verified like a loaded one.

Forms whose completion it states: arm, armComplete, partnerArmedReport, disarm, abort, clear, archive, restore, idleSweepPass, archiveComplete, restoreCopyComplete, partnerArmOrderReceive. -/
def Obligations.ImagesAreArmedAndCommanded : Prop :=
  ((∀ (s : State) se, admitted regImg se s = true → claimOf s s.pair.slot se = true → s.img.cmd = none →
    (s.img.idle = .verified → mirrors s = false → Completes (.arm se) s (fun u =>
      u = setRes se .img 1 { asked se s with img := { s.img with idle := .arming, loadDone := false } })) ∧
    (s.img.idle = .verified → mirrors s = true → saddleOpen s = true → Completes (.arm se) s (fun u =>
      u.img = { s.img with cmd := some (.arm (some (.here se))) } ∧ u.ses.tab[se].res.img = 1 ∧
      u.out = s.out ++ [Out.saddle [0, 1] (s.pair.seqOut + 1) s.lsk.unchecked .armOrder])) ∧
    ((s.img.idle = .empty ∨ s.img.idle = .armed ∨ s.img.idle = .failed) → Completes (.arm se) s (fun u => u = setRes se .img 4 (asked se s)))) ∧
  (∀ (s : State) ca cb, s.img.idle ≠ .arming → Completes (.armComplete ca cb) s (fun u => u = s)) ∧
  (∀ (s : State) ca cb new, s.img.idle = .arming → s.img.idleImg = some new → s.lsk.halt = .none →
    let stream := Config.streamDigest new.plain new.seq
    let a := ca.getD stream
    let b := cb.getD stream
    (a ≠ b → inRun s = true → s.lsk.stopped = false → s.lsk.fault = none → Completes (.armComplete ca cb) s (fun u =>
      u.mod.st = .failed ∧ u.lsk.failed = true ∧ ∃ f, u.lsk.fault = some f ∧ f.cls = 1 ∧ f.subclass = 5 ∧ f.wordA = a ∧ f.wordB = b)) ∧
    (a = b → a ≠ stream → Completes (.armComplete ca cb) s (fun u => u.img.idle = .failed ∧ u.img.errCode = 0x13)) ∧
    (∀ old, a = stream → b = stream → s.img.run = some old →
      let fwd := planOf old old new
      let rev := planOf old new old
      (gcv fwd ≤ 14000 → gcv rev ≤ 14000 → Completes (.armComplete ca cb) s (fun u =>
        u.img = { s.img with idle := .armed, forward := fwd, reverse := rev, loadDone := true, armDigest := stream, armOrdered := false } ∧
        u.mem = { s.mem with cells := preInitialise fwd s.mem.cells } ∧
        u.laneA = { s.laneA with shadow := some (new.plain, new.seq) } ∧ u.laneB = { s.laneB with shadow := some (new.plain, new.seq) } ∧
        u.lsk.sweepPasses = 0 ∧
        u = { s with img := u.img, mem := u.mem, laneA := u.laneA, laneB := u.laneB, lsk := u.lsk, pair := u.pair, out := u.out })) ∧
      (14000 < gcv fwd ∨ 14000 < gcv rev → Completes (.armComplete ca cb) s (fun u =>
        u.img.idle = .failed ∧ u.img.errCode = 0x10 ∧ u.mem.cells = s.mem.cells)))) ∧
  (∀ (s : State) v code, firstCopy v s = true →
    (∀ k, s.img.cmd = some (.arm k) → Completes (.partnerArmedReport v code) s (fun u =>
      (code = 0 → u = { noted v s with img := { s.img with cmd := none, idle := .arming, loadDone := false } }) ∧
      (code ≠ 0 → u = { noted v s with evr := u.evr, img := { s.img with cmd := none, errSource := 2, errCode := code, errSect := 0xFF, errLoc := 0 } } ∧
        (s.evr.queue.length < 256 → ∃ e, u.evr.queue = s.evr.queue ++ [e] ∧ e.code = BitVec.ofNat 16 (0x8100 + code.toNat))))) ∧
    ((∀ k, s.img.cmd ≠ some (.arm k)) → Completes (.partnerArmedReport v code) s (fun u => u = noted v s))) ∧
  (∀ (s : State) v, firstCopy v s = true →
    (holds s = false → s.img.idle = .verified → s.img.cmd = none → sameIdle s = true → Completes (.partnerArmOrderReceive v) s (fun u =>
      u = { noted v s with img := { s.img with armOrdered := true, idle := .arming, loadDone := false } })) ∧
    (holds s = false → s.img.idle = .armed → sameIdle s = true → saddleOpen s = true → Completes (.partnerArmOrderReceive v) s (fun u =>
      u.out = s.out ++ [Out.saddle [0, 1] (s.pair.seqOut + 1) s.lsk.unchecked (.armed 0)] ∧
      u = { noted v s with out := u.out, pair := u.pair, lsk := u.lsk })) ∧
    (holds s = false → s.img.idle = .failed → s.img.errCode ≠ 0 → saddleOpen s = true → Completes (.partnerArmOrderReceive v) s (fun u =>
      u.out = s.out ++ [Out.saddle [0, 1] (s.pair.seqOut + 1) s.lsk.unchecked (.armed s.img.errCode)])) ∧
    (holds s = true → Completes (.partnerArmOrderReceive v) s (fun u => u = noted v s))) ∧
  (∀ (s : State) ca cb, s.img.idle = .armed → s.img.loadDone = true →
    let a := ca.getD (shadowDigest s.laneA)
    let b := cb.getD (shadowDigest s.laneB)
    Completes (.idleSweepPass ca cb) s (fun u =>
      (a = s.img.armDigest → b = s.img.armDigest →
        u = { s with lsk := { s.lsk with sweepPasses := satSucc 0xFFFF s.lsk.sweepPasses, sweepDiff := false } }) ∧
      (a ≠ s.img.armDigest ∨ b ≠ s.img.armDigest → u.img = { s.img with idle := .arming, loadDone := false } ∧ u.lsk.sweepDiff = true ∧
        u.lsk.acc.idleDiff = satSucc max32 s.lsk.acc.idleDiff ∧ u = { s with img := u.img, lsk := u.lsk, evr := u.evr }))) ∧
  (∀ (s : State) ca cb, s.img.idle ≠ .armed → Completes (.idleSweepPass ca cb) s (fun u => u = s))) ∧
  ((∀ (s : State) se, admitted regImg se s = true → ∀ c, (c = .arm se ∨ c = .disarm se ∨ c = .clear se ∨ (∃ a, c = .archive se a) ∨ (∃ a, c = .restore se a) ∨ c = .abort se) →
    (claimOf s s.pair.slot se = false → Completes c s (fun u => u = setRes se .img 3 (asked se s))) ∧
    (claimOf s s.pair.slot se = true →
      (s.img.cmd ≠ none ∨ s.img.idle = .loading ∨ s.img.idle = .verifying ∨ s.img.idle = .storing ∨ s.img.idle = .arming ∨ s.img.idle = .switching) →
      (c ≠ .abort se ∨ s.img.idle ≠ .loading) →
      Completes c s (fun u => u = setRes se .img 2 (asked se s)))) ∧
  (∀ (s : State) se, admitted regImg se s = true → claimOf s s.pair.slot se = true → s.img.cmd = none →
    (s.img.idle = .armed → Completes (.disarm se) s (fun u => u = setRes se .img 1 { asked se s with img := { s.img with idle := .verified } })) ∧
    ((s.img.idle = .empty ∨ s.img.idle = .verified ∨ s.img.idle = .failed) →
      Completes (.disarm se) s (fun u => u = setRes se .img 4 (asked se s)) ∧ Completes (.abort se) s (fun u => u = setRes se .img 4 (asked se s))) ∧
    (s.img.idle = .loading → Completes (.abort se) s (fun u => u.img.idle = .failed ∧ u.img.errCode = 0x15 ∧ u.img.errLoc = s.img.load.length ∧
      u.ses.tab[se].res.img = 1)) ∧
    ((s.img.idle = .empty ∨ s.img.idle = .verified ∨ s.img.idle = .armed ∨ s.img.idle = .failed) →
      Completes (.clear se) s (fun u =>
        u.img = { s.img with idle := .empty, load := [], total := 0, idleImg := none, forward := ⟨[], []⟩, reverse := ⟨[], []⟩, loadDone := false
                             slots := u.img.slots } ∧
        u.img.slots[idleSlot s] = {} ∧ (∀ k, k ≠ idleSlot s → u.img.slots[k] = s.img.slots[k]) ∧ u.ses.tab[se].res.img = 1 ∧
        u = { s with img := u.img, ses := u.ses }) ∧
      (∀ arg : BitVec 4,
        (s.img.slots[sourceSlot (arg.getLsbD 0) s].st ≠ .valid → Completes (.archive se arg) s (fun u => u = setRes se .img 5 (asked se s))) ∧
        (s.img.slots[sourceSlot (arg.getLsbD 0) s].st = .valid → Completes (.archive se arg) s (fun u =>
          u.img.cmd = some (.archive (arg.getLsbD 0) (arg.getLsbD 1)) ∧ u.img.slots[archiveSlot (arg.getLsbD 1)].st = .invalid ∧
          u.ses.tab[se].res.img = 1)) ∧
        (s.img.slots[archiveSlot (arg.getLsbD 1)].st ≠ .valid → Completes (.restore se arg) s (fun u => u = setRes se .img 5 (asked se s))) ∧
        (s.img.slots[archiveSlot (arg.getLsbD 1)].st = .valid → Completes (.restore se arg) s (fun u =>
          u.img.cmd = some (.restore (arg.getLsbD 1)) ∧ u.img.idle = .empty ∧ u.img.idleImg = none ∧ u.ses.tab[se].res.img = 1))))) ∧
  (∀ (s : State) src dst, s.img.cmd = some (.archive src dst) →
    Completes (.archiveComplete true) s (fun u => u.img.cmd = none ∧
      u.img.slots[archiveSlot dst] = ⟨.valid, s.img.slots[sourceSlot src s].bytes⟩ ∧ (∀ k, k ≠ archiveSlot dst → u.img.slots[k] = s.img.slots[k]) ∧
      u = { s with img := u.img }) ∧
    Completes (.archiveComplete false) s (fun u => u.img = { s.img with cmd := none, errSource := 0, errCode := 0x12, errSect := 0xFF, errLoc := 0 } ∧
      u = { s with img := u.img, evr := u.evr })) ∧
  (∀ (s : State) src, s.img.cmd = some (.restore src) → Completes .restoreCopyComplete s (fun u =>
    u = { s with img := { s.img with
      cmd := none, idle := .verifying, load := s.img.slots[archiveSlot src].bytes, total := s.img.slots[archiveSlot src].bytes.length } })) ∧
  (∀ (s : State) ok, s.img.cmd = none → Completes (.archiveComplete ok) s (fun u => u = s) ∧ Completes .restoreCopyComplete s (fun u => u = s)))

/-! ### Lanes, the col and the debug port (07, 15) -/

/-- R176, R179, R180, R182, R196: the word that a lane has ready on a stream is acknowledged and waits in the delay element for the matching
word of the other lane; with two words of its lane held there it waits, which is counted. A matching word of equal tag and data is compared
with it, and counted. Outside RUN and after a fault nothing is compared; a word of a halted or resumed lane is discarded.

R28, R63, R66, R75, R104, R168, R180, R181, R196: what a compared pair, or a word of the one lane that runs, commits to the cycle of its
task: an output record of the output set to the output image, a persistent word or variable with its byte enables to memory, a digest to its
count; a read returns the word to the routine, and a reading of the time base its value.

Forms whose completion it states: colWordCompare. -/
def Obligations.WordsMeetAndAreCommitted : Prop :=
  ((∀ (s : State) lane (stream : Fin 74) ch w, s.lsk.stopped = false → inRun s = true → ch.or (laneNext s lane stream) = some w →
    let q := s.lsk.delay[stream]
    (s.lsk.halt = .none → matching lane w q = none → (q.filter (fun d => d.lane == lane)).length < 2 →
      Completes (.colWordCompare lane stream ch none .clean) s (fun u =>
        u.lsk.delay = upd s.lsk.delay stream (fun q => q ++ [⟨lane, w, s.tb.now, ch.isSome⟩]) ∧
        laneOf u (laneOther lane) = laneOf s (laneOther lane) ∧
        (∀ (k : Fin 72) x rest, k.val = stream.val → (laneOf s lane).out = (k, x) :: rest → (laneOf u lane).out = rest) ∧
        u = { s with laneA := u.laneA, laneB := u.laneB, lsk := { s.lsk with delay := u.lsk.delay } })) ∧
    (s.lsk.halt = .none → matching lane w q = none → 2 ≤ (q.filter (fun d => d.lane == lane)).length →
      Completes (.colWordCompare lane stream ch none .clean) s (fun u =>
        u = { s with lsk := { s.lsk with acc := { s.lsk.acc with bpress := satSucc max32 s.lsk.acc.bpress } } })) ∧
    (∀ d, s.lsk.halt = .none → matching lane w q = some d → ch = none → d.word.data = w.data → sameTag d.word w = true →
      Completes (.colWordCompare lane stream ch none .clean) s (fun u =>
        u.lsk.delay[stream] = dropFirst (fun x => x == d) q ∧ (∀ k, k ≠ stream → u.lsk.delay[k] = s.lsk.delay[k]) ∧
        u.lsk.acc.cmp = s.lsk.acc.cmp + 1 ∧ u.lsk.failed = s.lsk.failed ∧ u.mod = s.mod)) ∧
    (s.lsk.halt ≠ .none → idles s.lsk.halt lane = true → Completes (.colWordCompare lane stream ch none .clean) s (fun u =>
      u = { s with laneA := u.laneA, laneB := u.laneB } ∧ laneOf u (laneOther lane) = laneOf s (laneOther lane)))) ∧
  (∀ (s : State) lane stream ch, (s.lsk.stopped = true ∨ inRun s = false) → Completes (.colWordCompare lane stream ch none .clean) s (fun u => u = s)) ∧
  (∀ (s : State) lane stream, laneNext s lane stream = none → Completes (.colWordCompare lane stream none none .clean) s (fun u => u = s))) ∧
  (∀ (s : State) lane (stream : Fin 74) w c e, s.lsk.stopped = false → inRun s = true → laneNext s lane stream = some w →
    ((∃ d, s.lsk.halt = .none ∧ matching lane w s.lsk.delay[stream] = some d ∧ d.word = w) ∨ (s.lsk.halt ≠ .none ∧ idles s.lsk.halt lane = false)) →
    s.tsk.rt[w.task].cur = some c → taskEntry s w.task = some e →
    let p := (w.addr - outputBase) / 16
    (w.kind = .outputRecord → inRanges e.outputs p = true → Completes (.colWordCompare lane stream none none .clean) s (fun u =>
      u.mem.cells = Memory.writeWord s.mem.cells (outputAddr p) (commitRecord s c p w.data).1 0xFFFF ∧
      (∃ d, u.tsk.rt[w.task].cur = some d ∧ d.outputs = c.outputs.filter (fun o => o.1 != p) ++ [(p, w.data)] ∧ d.writes = c.writes ∧ d.digests = c.digests) ∧
      (∀ t, t ≠ w.task → u.tsk.rt[t] = s.tsk.rt[t]))) ∧
    (w.kind = .outputRecord → inRanges e.outputs p = false → Completes (.colWordCompare lane stream none none .clean) s (fun u =>
      u.mem = s.mem ∧ u.tsk = s.tsk)) ∧
    ((w.kind = .persistent ∨ w.kind = .varWrite) → (∀ x ∈ c.forces, x.2.kind ≠ 2) → Completes (.colWordCompare lane stream none none .clean) s (fun u =>
      u.mem.cells = Memory.writeWord s.mem.cells w.addr w.data w.enables ∧
      (∃ d, u.tsk.rt[w.task].cur = some d ∧ d.writes = c.writes ++ [(w.addr, w.data, w.enables)] ∧ d.outputs = c.outputs ∧ d.digests = c.digests) ∧
      (∀ t, t ≠ w.task → u.tsk.rt[t] = s.tsk.rt[t]))) ∧
    (w.kind = .digest → Completes (.colWordCompare lane stream none none .clean) s (fun u =>
      u.tsk = { s.tsk with rt := upd s.tsk.rt w.task (fun r => { r with cur := some { c with digests := c.digests + 1 } }) } ∧ u.mem = s.mem)) ∧
    (∀ k : Fin 8, w.kind = .readRequest → stream.val = 64 + k.val → s.lsk.halt = .none →
      (∀ x rd f v, (laneOf s (askingLane s)).cores[k].running = some x → x.wait ≠ some (.rmw rd f v)) →
      Completes (.colWordCompare lane stream none none .clean) s (fun u =>
        u.out = s.out ++ [Out.toLane .A (coreStream k) (Memory.word s.mem.cells w.addr)] ∧ u.mem = s.mem ∧ u.tsk = s.tsk)) ∧
    (∀ k : Fin 8, w.kind = .serviceCall → w.addr = 9 → stream.val = 64 + k.val → s.lsk.halt = .none →
      Completes (.colWordCompare lane stream none none .clean) s (fun u =>
        u.out = s.out ++ [Out.toLane .A (coreStream k) (BitVec.ofNat 128 s.tb.now)] ∧ u.mem = s.mem ∧ u.tsk = s.tsk)))

/-- R13, R14, R181, R183 to R186, R200 to R202: words that differ, a word without its match after 50 µs, and a fault of a check or of the hub are
taken: the first fault is kept with its class, stream and time, the module stops and is FAILED, its lease ends, its islands are told to be
safe; memory stays as it was.

R177, R178: the oldest word of a delivery buffer enters lane B once 10 ns have passed and two later words of its stream have been accepted
or 40 ns have passed; not before.

Forms whose completion it states: inboundWordDelivery, colWordCompare, colMissingWord. -/
def Obligations.DifferentWordsStopInboundWordsArrive : Prop :=
  (let stops (s u : State) (cls : Nat) (stream : Nat) : Prop :=
    u.mod.st = .failed ∧ u.lsk.failed = true ∧ u.lsk.stopped = true ∧ u.lease.holder = false ∧ u.mem.cells = s.mem.cells ∧
    (∀ t : Fin 128, u.tsk.rt[t].cur = none) ∧ u.mod.failCode = 0x2000 + cls ∧
    (s.lsk.fault = none → ∃ f, u.lsk.fault = some f ∧ f.cls.val = cls ∧ f.stream.toNat = stream ∧ f.time = s.tb.now) ∧
    (∀ f, s.lsk.fault = some f → u.lsk.fault = some f)
  (∀ (s : State) lane (stream : Fin 74) ch w d, s.lsk.stopped = false → inRun s = true → s.lsk.halt = .none →
    ch.or (laneNext s lane stream) = some w → matching lane w s.lsk.delay[stream] = some d →
    stream.val < 72 → w.kind ≠ .digest → d.word.kind ≠ .digest → (d.word.data ≠ w.data ∨ sameTag d.word w = false) →
    Completes (.colWordCompare lane stream ch none .clean) s (fun u => stops s u 1 stream.val)) ∧
  (∀ (s : State) lane (stream : Fin 74) ch f chk, s.lsk.stopped = false → inRun s = true → s.lsk.halt = .none →
    Completes (.colWordCompare lane stream ch (some f) chk) s (fun u => stops s u 2 stream.val)) ∧
  (∀ (s : State) lane (stream : Fin 74) ch h, s.lsk.stopped = false → inRun s = true →
    Completes (.colWordCompare lane stream ch none (.hub h)) s (fun u => stops s u 2 0xFE)) ∧
  (∀ (s : State) (stream : Fin 74) d rest, s.lsk.stopped = false → inRun s = true → s.lsk.halt = .none → s.lsk.delay[stream] = d :: rest →
    d.word.kind ≠ .digest →
    (d.arrived + 50000 ≤ s.tb.now → Completes (.colMissingWord stream) s (fun u => stops s u 1 stream.val)) ∧
    (s.tb.now < d.arrived + 50000 → Completes (.colMissingWord stream) s (fun u => u = s))) ∧
  (∀ (s : State) (stream : Fin 74), s.lsk.delay[stream] = [] → Completes (.colMissingWord stream) s (fun u => u = s))) ∧
  (∀ (s : State) (stream : Fin 72) w rest, s.lsk.inbound[stream] = w :: rest → inRun s = true → s.lsk.halt = .none →
    (inboundReady s w = true → Completes (.inboundWordDelivery stream .clean) s (fun u =>
      u.laneB = laneWord (program s) w s.laneB ∧ u.lsk.inbound[stream] = rest ∧ (∀ k, k ≠ stream → u.lsk.inbound[k] = s.lsk.inbound[k]) ∧
      u.out = s.out ++ [Out.toLane .B stream w.data] ∧ u = { s with laneB := u.laneB, lsk := { s.lsk with inbound := u.lsk.inbound }, out := u.out })) ∧
    (inboundReady s w = false → Completes (.inboundWordDelivery stream .clean) s (fun u => u = s)) ∧
    (s.tb.now < w.accepted + 10 → inboundReady s w = false) ∧ (w.accepted + 40 ≤ s.tb.now → inboundReady s w = true) ∧
    (∀ k, inboundReady s w = true → exec (.inboundWordDelivery stream (.correctable k)) s = exec (.inboundWordDelivery stream .clean) (countCorrected k s)) ∧
    (∀ a, inboundReady s w = true → exec (.inboundWordDelivery stream (.uncorrectable a)) s = .next (uncorrectable a s)) ∧
    (∀ h, exec (.inboundWordDelivery stream (.hub h)) s = .next (hubFault h s)))

/-- R195, R387, R388, R408, R409: the debug port has the colours of its credential, never colour 15, until Not after. It reads and writes words of the granules of its colours; another
access gives zeros or is discarded, and is counted. Sealed lane state reads as zeros.

R195, R196, R464: a lane is halted in RUN for the debug port, at once in a standby or in commissioning mode: the module is UNCHECKED. A holder outside commissioning mode refuses.
A step fires one ready slot, or moves one token, of the halted lane, by a free choice; resuming leaves the lane idle until RECHECK. Without a credential nothing changes.

Forms whose completion it states: debugCredential, debugHalt, debugStep, debugResume, debugRead, debugWrite, debugCredentialLapse. -/
def Obligations.TheDebugPortReadsHaltsAndSteps : Prop :=
  ((∀ (s : State) cred probe, let ok := (credCause 2 false cred probe s).isNone && !(credColours cred).getLsbD 15
    Completes (.debugCredential cred probe) s (fun u =>
      u.ses.debug = (if ok then some ⟨credColours cred, credAfter cred, 0, false⟩ else none) ∧ u.ses.debugErr = false ∧
      u.out = s.out ++ [Out.debugStatus ok] ∧ u = { s with ses := { s.ses with debug := u.ses.debug, debugErr := false }, evr := u.evr, out := u.out })) ∧
  (∀ (s : State) d, s.ses.debug = some d → Completes .debugCredentialLapse s (fun u =>
    u = if d.notAfter ≠ 0 ∧ (d.notAfter : Int) ≤ plantTime s then { s with ses := { s.ses with debug := none } } else s)) ∧
  (∀ (s : State) addr g, granuleOf (addr.toNat / 16 * 16) = some g →
    (debugMay g s = true →
      Completes (.debugRead (.memory addr) .clean) s (fun u => u = { s with out := s.out ++ [Out.debug (Memory.word s.mem.cells (addr.toNat / 16 * 16)) false] }) ∧
      ∀ data, Completes (.debugWrite addr data) s (fun u =>
        u.mem.cells = Memory.writeWord s.mem.cells (addr.toNat / 16 * 16) data 0xFFFF ∧
        u = { s with mem := { s.mem with cells := u.mem.cells }, tsk := { s.tsk with rt := u.tsk.rt } })) ∧
    (debugMay g s = false →
      Completes (.debugRead (.memory addr) .clean) s (fun u => u.out = s.out ++ [Out.debug 0 true] ∧ u.ses.debugErr = true ∧
        u.ses.acc.dbgViol = satSucc max32 s.ses.acc.dbgViol ∧ u = { s with ses := u.ses, evr := u.evr, out := u.out }) ∧
      ∀ data, Completes (.debugWrite addr data) s (fun u => u.ses.debugErr = true ∧
        u.ses.acc.dbgViol = satSucc max32 s.ses.acc.dbgViol ∧ u = { s with ses := u.ses, evr := u.evr })) ∧
    (colourOf s g = 15 → debugMay g s = false)) ∧
  (∀ (s : State) lane tile word, s.ses.debug ≠ none →
    Completes (.debugRead (.tile lane tile word false) .clean) s (fun u => u = { s with out := s.out ++ [Out.debug (tileWord (laneOf s lane) tile word) false] }) ∧
    Completes (.debugRead (.tile lane tile word true) .clean) s (fun u => u.out = s.out ++ [Out.debug 0 true] ∧ u.ses.debugErr = true ∧ u.free = s.free + 1))) ∧
  ((∀ (s : State) lane rel, s.ses.debug = none → Completes (.debugHalt lane rel) s (fun u => u = { s with out := s.out ++ [Out.debugStatus false] }) ∧
    Completes .debugStep s (fun u => u = { s with out := s.out ++ [Out.debugStatus false] }) ∧
    Completes .debugResume s (fun u => u = { s with out := s.out ++ [Out.debugStatus false] })) ∧
  (∀ (s : State) lane rel, s.ses.debug ≠ none → inRun s = true → haltedLane s.lsk.halt = none → (holds s = false ∨ s.lsk.commission = true) →
    Completes (.debugHalt lane rel) s (fun u =>
      u.lsk.halt = haltNow lane s.lsk.halt ∧ (s.lsk.halt = .none → u.lsk.halt = .halted lane) ∧ u.lsk.unchecked = true ∧ u.mod.st = .unchecked ∧ u.out.getLast? = some (.debugStatus true) ∧
      (∀ k : Fin 74, u.lsk.delay[k] = []) ∧ (s.lsk.commission = false → u.lease.claim = none) ∧
      ((∀ k : Fin 74, s.lsk.delay[k] = []) → u.mem = s.mem))) ∧
  (∀ (s : State) lane, s.ses.debug ≠ none → inRun s = true → haltedLane s.lsk.halt = none → holds s = true → s.lsk.commission = false →
    Completes (.debugHalt lane false) s (fun u => u = { s with out := s.out ++ [Out.debugStatus false], evr := u.evr })) ∧
  (∀ (s : State) lane, s.ses.debug ≠ none → s.lsk.halt = .halted lane →
    let L := laneOf s lane
    let ready := (program s).slots.filter (fun c => slotReady s L c &&
      (program s).slots.all (fun d => d.tile != c.tile || d.slot == c.slot || !slotReady s L d || firesBefore s c d))
    (ready ≠ [] → Completes .debugStep s (fun u => ∃ c ∈ ready, u = fireSlot lane c { s with free := s.free + 1 })) ∧
    (ready = [] → L.links = [] → Completes .debugStep s (fun u => u = { s with free := s.free + 1 })) ∧
    Completes .debugResume s (fun u => u.lsk = { s.lsk with halt := .resumed lane } ∧ u = { s with lsk := u.lsk, evr := u.evr })) ∧
  (∀ s : State, s.ses.debug ≠ none → s.lsk.halt = .none → Completes .debugStep s (fun u => u = s) ∧ Completes .debugResume s (fun u => u = s)))

/-- R155, R156, R194, R198, R199: commissioning mode is turned on and off by sessions, off not by an UNCHECKED holder. RECHECK searches for a quiet instant of this module; there the
lane is emptied, comparison goes on and the module is CHECKED again; without one for 2 s its result is 5.

Forms whose completion it states: commissionOn, commissionOff, recheck, recheckInstant, recheckTimeout. -/
def Obligations.CommissioningAndRecheck : Prop :=
  (∀ (s : State) se, admitted regLsk se s = true →
    Completes (.commissionOn se) s (fun u => u.lsk.commission = true ∧ u.ses.tab[se].res.lsk = 6 ∧
      u = { s with lsk := { s.lsk with commission := true }, ses := u.ses, evr := u.evr }) ∧
    (s.lsk.unchecked = true → holds s = true → Completes (.commissionOff se) s (fun u => u = setRes se .lsk 4 (asked se s))) ∧
    (s.lsk.unchecked = false ∨ holds s = false → Completes (.commissionOff se) s (fun u => u.lsk.commission = false ∧ u.ses.tab[se].res.lsk = 6 ∧
      u = { s with lsk := { s.lsk with commission := false }, ses := u.ses, evr := u.evr, lease := u.lease })) ∧
    (s.lsk.recheck ≠ none → Completes (.recheck se) s (fun u => u = setRes se .lsk 2 (asked se s))) ∧
    (s.lsk.recheck = none → (haltedLane s.lsk.halt ≠ none ∨ s.lsk.unchecked = false ∨ inRun s = false) →
      Completes (.recheck se) s (fun u => u = setRes se .lsk 4 (asked se s))) ∧
    (s.lsk.recheck = none → haltedLane s.lsk.halt = none → s.lsk.unchecked = true → inRun s = true →
      Completes (.recheck se) s (fun u => u.ses.tab[se].res.lsk = 1 ∧
        (∃ q, u.lsk = { s.lsk with recheck := some q } ∧ q.asker = some (.here se) ∧ q.start = s.tb.now ∧
          (∀ r, nextCandidate s.tb.now s = some r → q.phase = .candidate ∧ q.r = r)) ∧
        u = { s with lsk := u.lsk, ses := u.ses }))) ∧
  (∀ (s : State) q, s.lsk.recheck = some q → q.phase = .candidate →
    (s.tb.now < q.r → Completes .recheckInstant s (fun u => u = s)) ∧
    (q.r ≤ s.tb.now → ready q.r s = true → Completes .recheckInstant s (fun u =>
      u.lsk.halt = .none ∧ u.lsk.unchecked = false ∧ u.lsk.recheck = none ∧ u.mod.st ≠ .unchecked ∧
      ((∀ t ∈ enabledTasks s, releaseDue t s.tb.now s = false) → (∀ t : Fin 128, u.tsk.rt[t].reload = true) ∧
        (∀ l, s.lsk.halt = .resumed l → laneOf u l = emptyLane (laneOf s l)) ∧
        (∀ se, q.asker = some (.here se) → u.ses.tab[se].res.lsk = 6))))) ∧
  (∀ s : State, s.lsk.recheck = none → Completes .recheckInstant s (fun u => u = s) ∧ Completes .recheckTimeout s (fun u => u = s)) ∧
  (∀ (s : State) q, s.lsk.recheck = some q → (q.phase = .searching ∨ q.phase = .candidate) →
    (s.tb.now < q.start + 2000000000 → Completes .recheckTimeout s (fun u => u = s)) ∧
    (q.start + 2000000000 ≤ s.tb.now → Completes .recheckTimeout s (fun u =>
      u.lsk.recheck = none ∧ u.lsk.unchecked = s.lsk.unchecked ∧
      ((∀ t ∈ enabledTasks s, releaseDue t s.tb.now s = false) → ∀ se, q.asker = some (.here se) → u.ses.tab[se].res.lsk = 5))))

/-! ### The pair (08) -/

/-- R204, R205, R229, R234, R472: a saddle link comes up and goes down with a record, once; 1 ms without a message takes it down, and with both silent, or at the contact's report, the partner is lost:
nothing waits for it any more, a search ends, and a standby that finds it again resynchronises.

R135, R204, R205, R208, R210, R488: a heartbeat says who the partner is and what it runs; of two copies the first is taken. One of a holder,
at a module in RUN without the lease, gives its lease and its time: the PTP offset is adopted, and the difference slewed away. In OFF and
BOOT none is taken.

Forms whose completion it states: heartbeatReceive, saddleLinkDown, saddleSilenceTimeout, saddleLinkUp, partnerPresenceChange. -/
def Obligations.PartnersAreFollowedOverTheSaddle : Prop :=
  ((∀ (s : State) (l : Fin 2), s.pair.up[l] = true ∨ s.mod.st = .off → Completes (.saddleLinkUp l) s (fun u => u = s)) ∧
  (∀ (s : State) (l : Fin 2), s.pair.up[l] = false → s.mod.st ≠ .off → Completes (.saddleLinkUp l) s (fun u =>
    u.pair.up[l] = true ∧ u.pair.lastMsg[l] = s.tb.now ∧ (∀ k, k ≠ l → u.pair.up[k] = s.pair.up[k] ∧ u.pair.lastMsg[k] = s.pair.lastMsg[k]) ∧
    ((s.pair.partner ≠ .lost ∨ inRun s = false) → s.mir.queue = [] → u = { s with pair := { s.pair with up := u.pair.up, lastMsg := u.pair.lastMsg }, evr := u.evr }) ∧
    (s.pair.partner = .lost → inRun s = true → s.lease.resync = none → u.lease = { s.lease with resync := some s.tb.now }))) ∧
  (∀ (s : State) (l : Fin 2) n, s.pair.up[l] = false → Completes (.saddleLinkDown l n) s (fun u => u = s)) ∧
  (∀ (s : State) (l : Fin 2) n, s.pair.up[l] = true → Completes (.saddleLinkDown l n) s (fun u =>
    u.pair = { s.pair with up := upd s.pair.up l (fun _ => false), downSeen := true } ∧
    (s.evr.queue.length < 256 → ∃ v : Ev, u.evr.queue = s.evr.queue ++ [v] ∧ v.code = 0x1010 ∧ v.sev = 1 ∧ v.data = recData [(1, l.val), (1, 0)]) ∧
    ((∀ x ∈ s.flight, x.link ≠ l) → u = { s with pair := u.pair, evr := u.evr }) ∧
    (∀ x, s.flight = [x] → x.link = l → 0 < n → s.pair.up[1 - l] = true → saddleOpen s = true →
      u.out = s.out ++ [Out.saddle [1 - l] s.pair.seqOut x.unchecked x.msg]))) ∧
  (∀ (s : State) (l : Fin 2) n, s.tb.now < s.pair.lastMsg[l] + 1000000 → Completes (.saddleSilenceTimeout l n) s (fun u => u = s)) ∧
  (∀ (s : State) (l : Fin 2) n, s.pair.lastMsg[l] + 1000000 ≤ s.tb.now →
    ((∃ k : Fin 2, s.tb.now < s.pair.lastMsg[k] + 1000000) → exec (.saddleSilenceTimeout l n) s = exec (.saddleLinkDown l n) s) ∧
    ((∀ k : Fin 2, s.pair.lastMsg[k] + 1000000 ≤ s.tb.now) → partnerPresent s = true → Completes (.saddleSilenceTimeout l n) s (fun u =>
      u.pair.up[l] = false ∧ u.pair.partner = .lost ∧ u.pair.waits = [] ∧ u.lease.resync = none ∧
      ((∀ q, s.tsk.switch = some q → q.phase ≠ .window) → u.tsk.switch = none)))) ∧
  (∀ s : State, Completes (.partnerPresenceChange true) s (fun u => u = { s with pair := { s.pair with contact := true } })) ∧
  (∀ s : State, Completes (.partnerPresenceChange false) s (fun u => u.pair.contact = false ∧
    (partnerPresent s = false → u = { s with pair := { s.pair with contact := false } }) ∧
    (partnerPresent s = true → u.pair.partner = .lost ∧ u.pair.waits = [])))) ∧
  ((∀ (s : State) v h, s.mod.st = .off ∨ s.mod.st = .boot → Completes (.heartbeatReceive v h) s (fun u => u = s)) ∧
  (∀ (s : State) v h, s.mod.st ≠ .off → s.mod.st ≠ .boot → s.pair.up[v.link] = true → v.seq ≤ s.pair.seqIn →
    Completes (.heartbeatReceive v h) s (fun u => u = heardUp v (measureLink v.link h s))) ∧
  (∀ (s : State) v h, firstCopy v s = true → leaseOver s = false → s.lease.swapPhase = none →
    Completes (.heartbeatReceive v h) s (fun u =>
      u.pair.partner = (if h.holder && !h.noLease then .holder else .without) ∧ u.pair.partnerId = h.ident ∧ u.pair.partnerState = h.modState ∧
      u.pair.seqIn = v.seq ∧ u.img.partnerIdle = h.idleState ∧ u.img.partnerRunId = some h.runId ∧ u.img.partnerIdleId = h.idleId ∧
      u.lease.rxEpoch = some h.epoch ∧
      (holds s = false → inRun s = true → h.holder = true → h.noLease = false → s.lease.hbEpoch ≤ h.epoch →
        u.lease.hbEpoch = h.epoch ∧ u.lease.hbEnd = h.leaseEnd ∧ u.lease.hbAt = s.tb.now ∧ u.lease.hbDur = h.duration ∧
        u.lease.hbNoLease = false ∧ u.lease.ended = false ∧
        u.tb.ptpOfs = h.ptpOfs ∧ u.tb.slew = -((s.tb.now : Int) - ((h.timeBase : Int) + h.delay)) * 4294967296 ∧ u.tb.now = s.tb.now ∧
        u.tb.pairErr = (s.tb.now : Int) - ((h.timeBase : Int) + h.delay) ∧
        (u.tb.pairAligned = true ↔ -50 ≤ u.tb.pairErr ∧ u.tb.pairErr ≤ 50)))) ∧
  (∀ (s : State) v h sent held, s.mod.st ≠ .off → s.mod.st ≠ .boot → s.pair.up[v.link] = true → v.seq ≤ s.pair.seqIn → h.echo = some (sent, held) →
    holds s = true → Completes (.heartbeatReceive v h) s (fun u => u.tb.linkDly[v.link] = (s.tb.now - sent - held) / 2)))

/-- R208, R209, R253: every 100 µs a module sends its heartbeats, and a holder begins a renewal round. An acknowledgement of a witness of its own counts once for its round; the Q-th extends the lease
to the round's send instant plus D. Without witnesses each round has its quorum. R208, R225: at L the lease ends: sessions close, and the module is no longer ACTIVE. R210, R213: the end of the
holder's lease opens claims after G.

Forms whose completion it states: leaseRenewalRound, witnessAckReceive, leaseEnd, standbyLeaseExpiry. -/
def Obligations.LeasesAreRenewedAndEnd : Prop :=
  (∀ s : State, s.mod.st = .off ∨ s.mod.st = .boot ∨ s.tb.now < s.lease.roundAt → Completes (.leaseRenewalRound .clean) s (fun u => u = s)) ∧
  (∀ s : State, s.mod.st ≠ .off → s.mod.st ≠ .boot → s.lease.roundAt ≤ s.tb.now → Completes (.leaseRenewalRound .clean) s (fun u =>
    u.lease.roundAt = s.tb.now + 100000 ∧ u.pair = { s.pair with seqOut := if saddleOpen s then s.pair.seqOut + 2 else s.pair.seqOut } ∧
    (holds s = false → u.lease = { s.lease with roundAt := s.tb.now + 100000 }) ∧
    (holds s = true → u.lease.nextRound = s.lease.nextRound + 1 ∧
      u.lease.rounds = ⟨s.lease.nextRound, s.tb.now, 0, witnesses s == 0, []⟩ :: s.lease.rounds.filter (fun r => decide (s.tb.now < r.sent + leaseD s)) ∧
      u.lease.leaseEnd = (if witnesses s = 0 then s.tb.now + leaseD s else s.lease.leaseEnd)))) ∧
  (∀ (s : State) d, exec (.leaseRenewalRound (.hub d)) s = .next (hubFault d s)) ∧
  (∀ (s : State) m r, holds s = true → m.ident = Config.selfId → m.epoch = s.lease.epoch → isWitness s m.link m.pos = true → s.lease.rounds = [r] → r.k % 2 ^ 32 = m.seq.toNat →
    Completes (.witnessAckReceive m) s (fun u =>
      ((m.link, m.pos) ∉ r.from_ → r.quorum = false →
        u.lease.rounds = [{ r with acks := r.acks + 1, from_ := (m.link, m.pos) :: r.from_, quorum := decide (quorum s ≤ r.acks + 1) }] ∧
        u.lease.leaseEnd = (if quorum s ≤ r.acks + 1 then max s.lease.leaseEnd (r.sent + leaseD s) else s.lease.leaseEnd)) ∧
      ((m.link, m.pos) ∈ r.from_ → u.lease.rounds = [r]))) ∧
  (∀ (s : State) m, (holds s = false ∨ m.ident ≠ Config.selfId ∨ m.epoch ≠ s.lease.epoch ∨ isWitness s m.link m.pos = false) →
    Completes (.witnessAckReceive m) s (fun u => u.lease = { s.lease with seenEpoch := u.lease.seenEpoch } ∧
      m.epoch ≤ u.lease.seenEpoch[m.link])) ∧
  (∀ s : State, leaseOver s = false → Completes .leaseEnd s (fun u => u = s)) ∧
  (∀ s : State, leaseOver s = true → Completes .leaseEnd s (fun u =>
    u.lease.holder = false ∧ (∀ se, sesOpen u se = false) ∧ u.mod.st ≠ .active ∧ u.mir.queue = [] ∧ u.pair.waits = [] ∧
    (inRun s = true → inRun u = true))) ∧
  (∀ s : State, (inRun s = false ∨ s.lease.holder = true ∨ s.lease.ended = true ∨ s.tb.now < min s.lease.hbEnd (s.lease.hbAt + s.lease.hbDur)) →
    Completes .standbyLeaseExpiry s (fun u => u = s)) ∧
  (∀ s : State, inRun s = true → s.lease.holder = false → s.lease.ended = false → min s.lease.hbEnd (s.lease.hbAt + s.lease.hbDur) ≤ s.tb.now →
    Completes .standbyLeaseExpiry s (fun u =>
      u = { s with lease := { s.lease with ended := true, claimFrom := min s.lease.hbEnd (s.lease.hbAt + s.lease.hbDur) + 500000 } }))

/-- R206, R209 to R213, R227, R228, R464: a module that may claim announces its claim and sends it with the next epoch; an announcement of the partner suspends it for 1 ms, but by precedence; the Q-th grant
gains the lease, from the send instant of its round for D, and the module is ACTIVE. Without witnesses the round gains it at once. Denials name the next epoch; without a quorum left and with both
saddle links down the module is ISOLATED.

Forms whose completion it states: claimRound, claimAnnounceReceive, grantReceive, denyReceive. -/
def Obligations.ClaimsGainTheLease : Prop :=
  let gained (s u : State) (e : W32) (l : Nat) : Prop :=
    u.lease.holder = true ∧ u.lease.epoch = e ∧ u.lease.leaseEnd = l ∧ u.lease.claim = none ∧ u.lease.isolated = false ∧
    (s.lsk.unchecked = false → s.tb.now < l → u.mod.st = .active) ∧ (∃ w, u.mem.writes = s.mem.writes ++ [w] ∧ w.value = .epoch e)
  (∀ s : State, mayClaim s = false → Completes .claimRound s (fun u => u = s)) ∧
  (∀ s : State, mayClaim s = true → nextEpoch s < 2 ^ 32 → 0 < witnesses s → Completes .claimRound s (fun u =>
    (∃ c, u.lease.claim = some c ∧ c.epoch = BitVec.ofNat 32 (nextEpoch s) ∧ c.sent = s.tb.now ∧ c.denials = []) ∧
    u.lease.claimFrom = s.tb.now + 100000 ∧ u.lease.announced = some s.tb.now ∧ u.lease.holder = s.lease.holder)) ∧
  (∀ s : State, mayClaim s = true → nextEpoch s < 2 ^ 32 → witnesses s = 0 → Completes .claimRound s (fun u =>
    gained s u (BitVec.ofNat 32 (nextEpoch s)) (s.tb.now + leaseD s))) ∧
  (∀ s : State, mayClaim s = true → 2 ^ 32 ≤ nextEpoch s → Completes .claimRound s (fun u => u.lease.holder = s.lease.holder ∧ u.lease.exhausted = true)) ∧
  (∀ (s : State) v e, firstCopy v s = true →
    ((holds s = true ∨ hasPrecedence s = true) → Completes (.claimAnnounceReceive v e) s (fun u => u = noted v s)) ∧
    (holds s = false → hasPrecedence s = false → Completes (.claimAnnounceReceive v e) s (fun u =>
      u = { noted v s with lease := { s.lease with suspended := s.tb.now + 1000000 } }))) ∧
  (∀ (s : State) m c, s.lease.claim = some c → inRun s = true → holds s = false → mayLead s = true → m.ident = Config.selfId → m.epoch = c.epoch → (m.link, m.pos) ∉ c.grants →
    isWitness s m.link m.pos = true →
    (c.grants.length + 1 < quorum s → Completes (.grantReceive m .clean) s (fun u =>
      u.lease.claim = some { c with grants := (m.link, m.pos) :: c.grants } ∧ u.lease.holder = s.lease.holder ∧ u.mod = s.mod)) ∧
    (quorum s ≤ c.grants.length + 1 → Completes (.grantReceive m .clean) s (fun u => gained s u c.epoch (sentAt c m.seq + leaseD s)))) ∧
  (∀ (s : State) m, s.lease.claim = none → Completes (.grantReceive m .clean) s (fun u => u.lease = { s.lease with seenEpoch := u.lease.seenEpoch })) ∧
  (∀ (s : State) m c, s.lease.claim = some c → m.ident = Config.selfId → m.seq = c.round → (m.link, m.pos) ∉ c.denials → isWitness s m.link m.pos = true →
    Completes (.denyReceive m) s (fun u =>
      (∃ d, u.lease.claim = some d ∧ d.denials = (m.link, m.pos) :: c.denials ∧ d.denied = c.denied + 1 ∧
        d.highest = (if c.highest < m.epoch then m.epoch else c.highest) ∧ d.epoch = c.epoch) ∧
      u.mir.acc.deny = satSucc max32 s.mir.acc.deny ∧ u.lease.holder = s.lease.holder ∧
      (witnesses s - (c.denials.length + 1) < quorum s → saddleUp s = false → u.lease.isolated = true) ∧
      (quorum s ≤ witnesses s - (c.denials.length + 1) → u.lease.isolated = s.lease.isolated)))

/-! ### Role swap, resynchronisation, confirmations (08) -/

/-- R155, R156, R232 to R234: SWAP, or the due time, begins a search where every condition is met; else the result is 4, or the swap is postponed by 1 h, with the condition on record. At the instant both modules
are READY for, the holder yields: it sends YIELD and holds the lease no longer. The successor claims the next epoch at once; 150 µs after a YIELD that no one has taken, the old holder claims the one
after it.

Forms whose completion it states: swap, roleSwapDue, swapInstant, yieldReceive, voltageReleaseConfirmReceive, swapReclaimTimeout. -/
def Obligations.RolesAreSwapped : Prop :=
  (∀ (s : State) se, admitted regPair se s = true →
    (swapRuns s = true → Completes (.swap se) s (fun u => u = setRes se .pair 2 (asked se s))) ∧
    (swapRuns s = false → holds s = false → Completes (.swap se) s (fun u => u = setRes se .pair 4 (asked se s))) ∧
    (swapRuns s = false → holds s = true → ∀ c, swapUnmet s = some c → Completes (.swap se) s (fun u =>
      u.ses.tab[se].res.pair = 4 ∧ u.lease = s.lease ∧ (s.evr.queue.length < 256 → ∃ v : Ev, u.evr.queue = s.evr.queue ++ [v] ∧ v.code = 0x1021 ∧ v.data = recData [(1, c)]))) ∧
    (swapRuns s = false → holds s = true → swapUnmet s = none → Completes (.swap se) s (fun u =>
      u.ses.tab[se].res.pair = 1 ∧ (∃ q, u.lease = { s.lease with swap := some q } ∧ q.asker = some (.here se) ∧ q.start = s.tb.now ∧ q.attempts = 0 ∧
        (∀ r, nextCandidate s.tb.now s = some r → q.phase = .candidate ∧ q.r = r)) ∧ u = { s with lease := u.lease, ses := u.ses, out := u.out }))) ∧
  (∀ s : State, (holds s = false ∨ nextSwap s = 0 ∨ s.tb.now < nextSwap s ∨ swapRuns s = true) → Completes .roleSwapDue s (fun u => u = s)) ∧
  (∀ s : State, holds s = true → nextSwap s ≠ 0 → nextSwap s ≤ s.tb.now → swapRuns s = false →
    (∀ c, swapUnmet s = some c → Completes .roleSwapDue s (fun u => u.lease = { s.lease with postponed := s.lease.postponed + 3600000000000 } ∧ nextSwap u = nextSwap s + 3600000000000 ∧
      u = { s with lease := u.lease, evr := u.evr })) ∧
    (swapUnmet s = none → Completes .roleSwapDue s (fun u => (∃ q, u.lease = { s.lease with swap := some q } ∧ q.asker = none ∧ q.start = s.tb.now) ∧
      u = { s with lease := u.lease, out := u.out }))) ∧
  (∀ s : State, s.lease.swap = none → Completes .swapInstant s (fun u => u = s)) ∧
  (∀ (s : State) q, s.lease.swap = some q → q.phase = .candidate →
    (s.tb.now < q.r → Completes .swapInstant s (fun u => u = s)) ∧
    (q.r ≤ s.tb.now → partnerPresent s = true → q.partnerReady = some true → ready q.r s = true → s.tb.now ≤ q.r + 10000 → holds s = true → saddleOpen s = true → s.mod.st = .active →
      Completes .swapInstant s (fun u =>
        u.lease.holder = false ∧ u.lease.swapPhase = some (.yielded s.pair.partnerId) ∧ u.lease.swapAt = s.tb.now ∧ u.mod.st ≠ .active ∧
        ∃ n, Out.saddle [0, 1] n s.lsk.unchecked (.yield s.lease.epoch s.pair.partnerId) ∈ u.out)) ∧
    (q.r ≤ s.tb.now → partnerPresent s = true → q.partnerReady = none → ready q.r s = true → s.tb.now ≤ q.r + 10000 → Completes .swapInstant s (fun u =>
      u.lease = { s.lease with swap := some { q with phase := .verdicts, ownReady := true } } ∧ u = { s with lease := u.lease, out := u.out, pair := u.pair, lsk := u.lsk }))) ∧
  (∀ (s : State) v epoch successor, firstCopy v s = true → (successor ≠ Config.selfId ∨ inRun s = false ∨ holds s = true ∨ epoch = BitVec.allOnes 32) →
    Completes (.yieldReceive v epoch successor) s (fun u => u = noted v s)) ∧
  (∀ (s : State) v epoch, firstCopy v s = true → inRun s = true → holds s = false → epoch ≠ BitVec.allOnes 32 →
    (∀ c, s.lease.claim = some c → c.epoch ≠ epoch + 1) → mayLead s = true →
    Completes (.yieldReceive v epoch Config.selfId) s (fun u =>
      u.lease.hbEpoch = epoch ∧ u.lease.hbEnd = s.tb.now ∧ u.lease.ended = true ∧ (∃ c, u.lease.claim = some c ∧ c.epoch = epoch + 1 ∧ c.sent = s.tb.now ∧ c.grants = []) ∧
      u.lease.vConfirmed = false ∧ u.lease.swapPhase = (if s.lease.swap.isSome then some .successor else s.lease.swapPhase))) ∧
  (∀ (s : State) v, firstCopy v s = true →
    (s.lease.swapPhase ≠ some .successor → Completes (.voltageReleaseConfirmReceive v) s (fun u => u = noted v s)) ∧
    (s.lease.swapPhase = some .successor → Completes (.voltageReleaseConfirmReceive v) s (fun u =>
      u = { noted v s with lease := { s.lease with vConfirmed := true, swapPhase := if holds s then none else some .successor } }))) ∧
  (∀ (s : State) w, s.lease.swapPhase = some (.yielded w) →
    (s.tb.now < s.lease.swapAt + 150000 → Completes .swapReclaimTimeout s (fun u => u = s)) ∧
    (s.lease.swapAt + 150000 ≤ s.tb.now → s.lease.epoch.toNat + 2 < 2 ^ 32 → s.mod.after = none → mayLead s = true → Completes .swapReclaimTimeout s (fun u =>
      u.lease.swap = none ∧ u.lease.swapPhase = some .reclaiming ∧ u.lease.lastSwapEnd = some s.tb.now ∧
      (∃ c, u.lease.claim = some c ∧ c.epoch = BitVec.ofNat 32 (s.lease.epoch.toNat + 2) ∧ c.sent = s.tb.now))))

/-- R228, R229, R234, R236: RESYNC orders the full mirror; it is one at a time, at a holder with a STANDBY partner. When it is complete a standby holds the mirrored granules and forces and is not ISOLATED, and the asker
has result 6.

R41, R117, R169, R224, R290, R468: a confirmation settles what waits for its message and for no other, and nothing else; that of a full mirror
names the join instant, a whole millisecond at least 1 ms ahead.

Forms whose completion it states: resync, resyncComplete, standbyConfirmationReceive. -/
def Obligations.MirrorsAreCompletedAndConfirmed : Prop :=
  ((∀ (s : State) se, admitted regPair se s = true →
    (s.lease.resync ≠ none → Completes (.resync se) s (fun u => u = setRes se .pair 2 (asked se s))) ∧
    (s.lease.resync = none → (holds s = false ∨ partnerStandby s = false) → Completes (.resync se) s (fun u => u = setRes se .pair 4 (asked se s))) ∧
    (s.lease.resync = none → holds s = true → partnerStandby s = true → Completes (.resync se) s (fun u =>
      u.lease = { s.lease with resync := some s.tb.now, resyncTo := some (.here se) } ∧ u.ses.tab[se].res.pair = 1 ∧ u.frc = { s.frc with log := [] } ∧
      (saddleOpen s = true →
        (∃ m, u.out.getLast? = some (Out.saddle [0, 1] (s.pair.seqOut + 1 + s.frc.waiting.length) s.lsk.unchecked (.relay m)) ∧
          m.id = s.pair.nextId ∧ m.body = .regCmd 0x1438 2) ∧
        (∃ l gs, Out.saddle [l] s.pair.seqOut s.lsk.unchecked (.fullMirror gs s.frc.table) ∈ u.out)) ∧
      u = { s with lease := u.lease, ses := u.ses, pair := u.pair, out := u.out, frc := u.frc, lsk := u.lsk, flight := u.flight }))) ∧
  (∀ (s : State) gs fs, s.lease.resync = none → Completes (.resyncComplete gs fs) s (fun u => u = s)) ∧
  (∀ (s : State) gs fs t0, s.lease.resync = some t0 → Completes (.resyncComplete gs fs) s (fun u =>
    u.lease = { s.lease with resync := none, resyncTo := none, isolated := false } ∧
    (holds s = true → u.mem = s.mem ∧ u.frc = s.frc) ∧
    (holds s = false → u.mem.cells = gs.foldl (fun m g => Memory.writeBytes m (granuleAddr g.1) (leBytes 64 g.2.toNat)) s.mem.cells ∧
      u.frc.waiting = s.frc.waiting ∧ u.frc.log = [] ∧ (fs = [] → s.frc.log = [] → u.frc.table = [])) ∧
    (∀ se, s.lease.resyncTo = some (.here se) → u.ses.tab[se].res.pair = 6) ∧
    (s.evr.queue.length < 256 → ∃ v : Ev, u.evr.queue = s.evr.queue ++ [v] ∧ v.code = 0x1014)))) ∧
  ((∀ (s : State) v id, firstCopy v s = true → id ≠ fullMirrorId → Completes (.standbyConfirmationReceive v id) s (fun u =>
    u.pair.waits = s.pair.waits.filterMap (Wait.strike id) ∧ u.mem = s.mem ∧ u.tsk = s.tsk ∧
    ((∀ se : Fin 64, s.ses.tab[se].fences = []) →
      (∀ no se se' typ tag st body, s.pair.waits = [⟨id, no, se', [.reply se typ tag st body], []⟩] → sesOpen s se = true →
        u.out = s.out ++ [Out.reply s.ses.tab[se].conn typ tag st body]) ∧
      (∀ no se se' g x, s.pair.waits = [⟨id, no, se', [.result (.here se) g x], []⟩] → u.ses.tab[se].res = s.ses.tab[se].res.put g x ∧ u.out = s.out) ∧
      (∀ no se' acts k, k ≠ id → s.pair.waits = [⟨id, no, se', acts, [k]⟩] → u.pair.waits = [⟨k, no, se', acts, []⟩] ∧ u.out = s.out)))) ∧
  (∀ (s : State) v, firstCopy v s = true → holds s = true → partnerPresent s = true → s.pair.partnerState = 4 → saddleOpen s = true →
    Completes (.standbyConfirmationReceive v fullMirrorId) s (fun u =>
      (∃ j, u.out = s.out ++ [Out.saddle [0, 1] (s.pair.seqOut + 1) s.lsk.unchecked (.joinAt j)] ∧
        j % 1000000 = 0 ∧ s.tb.now + 1000000 ≤ j ∧ j < s.tb.now + 2000000) ∧
      u = { noted v s with out := u.out, pair := u.pair, lsk := u.lsk })) ∧
  (∀ (s : State) v, firstCopy v s = true → (holds s = false ∨ partnerPresent s = false ∨ s.pair.partnerState ≠ 4) →
    Completes (.standbyConfirmationReceive v fullMirrorId) s (fun u => u = noted v s)))

/-! ### Plateau accesses (15 R391 to R407) -/

/-- R391 to R394, R399, R402, R404, R405, R479 to R481: a READ of an open session is answered once. It is BUSY, ALIGN or TOO_LONG by its form, UNMAPPED outside R399, NOT_RUN for
images and variables in FAILED and STOPPED, and FORBIDDEN where a granule's colour is not in the effective read mask; else it carries the data. Refusals that count set the violation
registers. A fault of the hub stops the module. Behind a relayed WRITE of the same bytes, or in a switch window, it waits.

Forms whose completion it states: read. -/
def Obligations.ReadsAreServedOrRefusedWhole : Prop :=
  ∀ (s : State) se tag a len,
    (∀ hu, s.mod.st ≠ .failed → s.lsk.stopped = false → Completes (.read se tag a len (.hub hu)) s (fun u => u = hubFault hu s  ∧ ∀ t n b, Out.reply s.ses.tab[se].conn 0x0010 t n b ∈ u.out → Out.reply s.ses.tab[se].conn 0x0010 t n b ∈ s.out)) ∧
    (sesOpen s se = false → Completes (.read se tag a len .clean) s (fun u => u = s)) ∧
    (sesOpen s se = true →
      (tooMany s se = true → Completes (.read se tag a len .clean) s (fun u => u = reply se 0x0010 tag 7 [] (heard se s))) ∧
      (tooMany s se = false → (a.toNat % 4 ≠ 0 ∨ len.toNat % 4 ≠ 0 ∨ len.toNat = 0) →
        Completes (.read se tag a len .clean) s (fun u => u = reply se 0x0010 tag 3 [] (heard se s))) ∧
      (tooMany s se = false → a.toNat % 4 = 0 → len.toNat % 4 = 0 → 65536 < len.toNat →
        Completes (.read se tag a len .clean) s (fun u => u = reply se 0x0010 tag 4 [] (heard se s))) ∧
      (tooMany s se = false → a.toNat % 4 = 0 → len.toNat % 4 = 0 → 0 < len.toNat → len.toNat ≤ 65536 →
        (∀ b, hostRange a.toNat len.toNat = .unmapped b → Completes (.read se tag a len .clean) s (fun u =>
          u.ses.tab[se].violCnt = satSucc max32 s.ses.tab[se].violCnt ∧
          (s.ses.tab[se].violInfo.getLsbD 31 = true → u.ses.tab[se].violAddr = s.ses.tab[se].violAddr ∧ u.ses.tab[se].violInfo = s.ses.tab[se].violInfo ∧
            u.out = s.out ++ [Out.reply s.ses.tab[se].conn 0x0010 tag 2 []]) ∧
          (s.ses.tab[se].violInfo.getLsbD 31 = false → u.ses.tab[se].violAddr = BitVec.ofNat 32 (lowestBad (effRead s.ses.tab[se]) a.toNat b s) ∧ u.ses.tab[se].violInfo = 0x80000004 ∧
            u.out = s.out ++ [Out.notice s.ses.tab[se].conn 1 (BitVec.ofNat 32 (lowestBad (effRead s.ses.tab[se]) a.toNat b s)) (sat32 (satSucc max32 s.ses.tab[se].violCnt)), .reply s.ses.tab[se].conn 0x0010 tag 2 []] ∧
            (s.evr.queue.length < 256 → ∃ v : Ev, u.evr.queue = s.evr.queue ++ [v] ∧ v.code = 0x6010 ∧ v.data = recData [(1, se.val), (1, 4), (4, lowestBad (effRead s.ses.tab[se]) a.toNat b s)])) ∧
          u = { s with ses := u.ses, evr := u.evr, out := u.out })) ∧
        (hostRange a.toNat len.toNat = .registers → len = 4 → Completes (.read se tag a len .clean) s (fun u =>
          u.out = s.out ++ [Out.reply s.ses.tab[se].conn 0x0010 tag 0 (leBytes 4 (regRead (heard se s) se a.toNat).toNat)] ∧ u.mem = s.mem)) ∧
        ((hostRange a.toNat len.toNat = .images ∨ hostRange a.toNat len.toNat = .variables) →
          (isDown s = true → Completes (.read se tag a len .clean) s (fun u => u = reply se 0x0010 tag 5 [] (heard se s))) ∧
          (isDown s = false → windowOpen s = true → Completes (.read se tag a len .clean) s (fun u =>
            u.ses.held = s.ses.held ++ [.read se tag a len .clean] ∧ u.out = s.out ∧ u.mem = s.mem)) ∧
          (isDown s = false → windowOpen s = false → s.ses.tab[se].rdDrop = s.ses.tab[se].rdDropUsed → s.ses.tab[se].wrDrop = s.ses.tab[se].wrDropUsed →
            (∀ b c, firstRefused (effRead s.ses.tab[se]) a.toNat len.toNat s = some (b, c) →
              Completes (.read se tag a len .clean) s (fun u => u = reply se 0x0010 tag 1 [] (violation se ⟨1, 1, b, c⟩ (heard se s)))) ∧
            (firstRefused (effRead s.ses.tab[se]) a.toNat len.toNat s = none → readWaits s se a.toNat len.toNat = false →
              Completes (.read se tag a len .clean) s (fun u =>
                u.out = s.out ++ [Out.reply s.ses.tab[se].conn 0x0010 tag 0 (Memory.readBytes s.mem.cells a.toNat len.toNat)] ∧
                u = { heard se s with out := u.out })) ∧
            (firstRefused (effRead s.ses.tab[se]) a.toNat len.toNat s = none → readWaits s se a.toNat len.toNat = true →
              Completes (.read se tag a len .clean) s (fun u =>
                u.ses.heldReads = s.ses.heldReads ++ [⟨se, tag, a.toNat, len.toNat⟩] ∧ u.out = s.out ∧ u.mem = s.mem))))))

/-- R394 to R397, R399, R402, R404, R405, R481: a WRITE of an open session is refused whole, counted for the FENCE, and answered with its reason where it asks for a reply, or takes effect: registers in ascending order; variables in one step in the holder; in a standby it is relayed with the session's effective masks. No host writes an image. An uncorrectable
word in the session's own buffer is a precise error, and the session ends.

Forms whose completion it states: write. -/
def Obligations.WritesTakeEffectWholeOrNotAtAll : Prop :=
  ∀ (s : State) se ack tag a data,
    (∀ b, sesOpen s se = true → regionOf (reportAddr b) = .session se → Completes (.write se ack tag a data (.uncorrectable b)) s (fun u =>
      (ack = true → Out.reply s.ses.tab[se].conn 0x0011 tag 10 [] ∈ u.out) ∧ sesOpen u se = false ∧ u.mem.cells = s.mem.cells)) ∧
    (sesOpen s se = false → Completes (.write se ack tag a data .clean) s (fun u => u = s)) ∧
    (∀ r, sesOpen s se = true →
      ((ack = true ∧ tooMany s se = true ∧ r = ⟨7, 0, a.toNat, 0⟩) ∨
       ((ack = true → tooMany s se = false) ∧
         ((misaligned a.toNat data.length = true ∧ r = ⟨3, 0, a.toNat, 0⟩) ∨
          (misaligned a.toNat data.length = false ∧
            ((65536 < data.length ∧ r = ⟨4, 0, a.toNat, 0⟩) ∨
             (data.length ≤ 65536 ∧ hostRange a.toNat data.length ≠ .registers ∧
               ((isDown s = true ∧ r = ⟨5, 0, a.toNat, 0⟩) ∨
                (isDown s = false ∧ ((∃ b, hostRange a.toNat data.length = .unmapped b ∧ varBase ≤ a.toNat ∧ r = ⟨2, 4, lowestBad (effWrite s.ses.tab[se]) a.toNat b s, 0⟩) ∨
                  (∃ b, hostRange a.toNat data.length = .unmapped b ∧ a.toNat < inputBase ∧ r = ⟨2, 4, b, 0⟩) ∨
                  (∃ g, hostRange a.toNat data.length = .images ∧ windowOpen s = false ∧ granuleOf a.toNat = some g ∧ r = ⟨1, 5, a.toNat, (colourOf s g).toNat⟩) ∨
                  (hostRange a.toNat data.length = .variables ∧ windowOpen s = false ∧ s.ses.tab[se].rdDrop = s.ses.tab[se].rdDropUsed ∧
                    s.ses.tab[se].wrDrop = s.ses.tab[se].wrDropUsed ∧ writeRefused (effWrite s.ses.tab[se]) a.toNat data.length s = some r)))))))))) →
      Completes (.write se ack tag a data .clean) s (fun u => u = refuseWrite se ack tag r (heard se s))) ∧
    (sesOpen s se = true → (ack = true → tooMany s se = false) → misaligned a.toNat data.length = false → data.length ≤ 65536 →
      (hostRange a.toNat data.length = .registers →
        (∀ r, (regPairs a.toNat data).findSome? (fun p => regRefused p.1 se s) = some r →
          Completes (.write se ack tag a data .clean) s (fun u => u = refuseWrite se ack tag r (classResults se (regPairs a.toNat data) (heard se s)))) ∧
        (ack = false → (regPairs a.toNat data).findSome? (fun p => regRefused p.1 se s) = none →
          Completes (.write se ack tag a data .clean) s (fun u =>
            u = overAll (regPairs a.toNat data) (fun p t => putRegister p.1 p.2 se t) (noteWrite se none (heard se s))))) ∧
      (hostRange a.toNat data.length = .images → isDown s = false → windowOpen s = true → Completes (.write se ack tag a data .clean) s (fun u =>
        u.ses.held = s.ses.held ++ [.write se ack tag a data .clean] ∧ u.out = s.out)) ∧
      (hostRange a.toNat data.length = .variables → isDown s = false → s.ses.tab[se].rdDrop = s.ses.tab[se].rdDropUsed →
        s.ses.tab[se].wrDrop = s.ses.tab[se].wrDropUsed →
        (windowOpen s = true → Completes (.write se ack tag a data .clean) s (fun u =>
          u.ses.held = s.ses.held ++ [.write se ack tag a data .clean] ∧ u.out = s.out ∧ u.mem = s.mem)) ∧
        (windowOpen s = false → writeRefused (effWrite s.ses.tab[se]) a.toNat data.length s = none →
          (holds s = true → Completes (.write se ack tag a data .clean) s (fun u =>
            u.mem = { s.mem with cells := Memory.writeBytes s.mem.cells a.toNat data } ∧
            u.ses.tab[se].fenceWrites = s.ses.tab[se].fenceWrites + 1 ∧ u.ses.tab[se].fenceBad = s.ses.tab[se].fenceBad ∧
            (partnerPresent s = false → u.out = if ack then s.out ++ [Out.reply s.ses.tab[se].conn 0x0011 tag 0 []] else s.out))) ∧
          (holds s = false → inRun s = true → holderReachable s = true → saddleOpen s = true → Completes (.write se ack tag a data .clean) s (fun u =>
            u.out = s.out ++ [Out.saddle [0, 1] (s.pair.seqOut + 1) s.lsk.unchecked (.relay ⟨s.pair.nextId, se, effRead s.ses.tab[se], effWrite s.ses.tab[se], s.ses.tab[se].classes,
              stagingOf s.ses.tab[se].sel, .varWrite a data⟩)] ∧
            u.ses.relayed = s.ses.relayed ++ [⟨s.pair.nextId, se, none, 0x0011, if ack then some tag else none, a.toNat, data.length, false⟩] ∧ u.mem = s.mem)) ∧
          (holds s = false → (inRun s = false ∨ holderReachable s = false) → Completes (.write se ack tag a data .clean) s (fun u =>
            u = refuseWrite se ack tag ⟨5, 0, a.toNat, 0⟩ (heard se s))))))

/-- R21, R391 to R393, R403, R406: FENCE is answered when the session's earlier writes are settled, with the status and the address of the first refused one and the two counts, which start again;
HISTORY_READ needs its class, at most 65 536 bytes, and memory that is not poisoned.

R41, R225, R396 to R398, R405, R406: a write relayed to a module that holds the lease is checked with the masks it carries, carried out as a write of that module's own sessions, and answered with a
verdict; a module that does not hold the lease answers SWITCHED. The verdict's result goes into the session's result register, its status into the reply, and a refusal counts for the FENCE.

Forms whose completion it states: relayedWriteReceive, relayVerdictReceive, fence, historyRead. -/
def Obligations.FencesAndRelayedWritesAreAnswered : Prop :=
  (∀ (s : State) se tag,
    (sesOpen s se = false → Completes (.fence se tag) s (fun u => u = s) ∧ (∀ b o n chk, Completes (.historyRead se tag b o n chk) s (fun u => u = s))) ∧
    (sesOpen s se = true → tooMany s se = true → Completes (.fence se tag) s (fun u => u = reply se 0x0012 tag 7 [] (heard se s)) ∧
      (∀ b o n chk, Completes (.historyRead se tag b o n chk) s (fun u => u = reply se 0x0020 tag 7 [] (heard se s)))) ∧
    (sesOpen s se = true → tooMany s se = false → s.ses.held.any (heldBy se) = true → Completes (.fence se tag) s (fun u =>
      u.ses.held = s.ses.held ++ [.fence se tag] ∧ u.out = s.out)) ∧
    (sesOpen s se = true → tooMany s se = false → s.ses.held.any (heldBy se) = false →
      (s.ses.tab[se].fences = [] → settledBefore se s.pair.nextId s = true → Completes (.fence se tag) s (fun u =>
        u.out = s.out ++ [Out.reply s.ses.tab[se].conn 0x0012 tag s.ses.tab[se].fenceStatus
          (leBytes 4 s.ses.tab[se].fenceWrites ++ leBytes 4 s.ses.tab[se].fenceBad ++ leBytes 4 s.ses.tab[se].fenceAddr.toNat)] ∧
        u = { s with ses := { s.ses with tab := upd s.ses.tab se (fun x => { x with
          lastMsg := s.tb.now, fenceWrites := 0, fenceBad := 0, fenceStatus := 0, fenceAddr := 0 }) }, out := u.out })) ∧
      (s.ses.tab[se].fences = [] → settledBefore se s.pair.nextId s = false → Completes (.fence se tag) s (fun u =>
        u = { s with ses := { s.ses with tab := upd s.ses.tab se (fun x => { x with
          lastMsg := s.tb.now, fenceWrites := 0, fenceBad := 0, fenceStatus := 0, fenceAddr := 0
          fences := [⟨tag, s.pair.nextId, x.fenceWrites, x.fenceBad, x.fenceStatus, x.fenceAddr⟩] }) } }))) ∧
    (∀ b o n chk, sesOpen s se = true → tooMany s se = false →
      (isDown s = true → Completes (.historyRead se tag b o n chk) s (fun u => u = reply se 0x0020 tag 5 [] (heard se s))) ∧
      (isDown s = false → s.ses.tab[se].classes.getLsbD 13 = false → Completes (.historyRead se tag b o n chk) s (fun u =>
        u = reply se 0x0020 tag 1 [] (heard se s))) ∧
      (isDown s = false → s.ses.tab[se].classes.getLsbD 13 = true → 65536 < n.toNat → Completes (.historyRead se tag b o n chk) s (fun u =>
        u = reply se 0x0020 tag 4 [] (heard se s))) ∧
      (isDown s = false → s.ses.tab[se].classes.getLsbD 13 = true → n.toNat ≤ 65536 → chk = .clean →
        (s.mem.poisoned = [] → Completes (.historyRead se tag b o n chk) s (fun u =>
          u = reply se 0x0020 tag 0 ((List.range n.toNat).map (fun k => s.byte (historyAddr b (o + k)))) (heard se s))) ∧
        (∀ k, k < n.toNat → historyAddr b (o + k) / 64 * 64 ∈ s.mem.poisoned → Completes (.historyRead se tag b o n chk) s (fun u =>
          u = reply se 0x0020 tag 10 [] (heard se s)))))) ∧
  ((∀ (s : State) v m, firstCopy v s = true →
    (holds s = false → s.pair.partner ≠ .holder → m.body ≠ .claimGone → Completes (.relayedWriteReceive v m) s (fun u => u = saddle (.verdict m.id 6 0) (noted v s))) ∧
    (∀ a data, m.body = .varWrite a data → holds s = true →
      (windowOpen s = true → Completes (.relayedWriteReceive v m) s (fun u => u = holdAccess (.relayedWriteReceive ⟨0, 0, 0⟩ m) (noted v s))) ∧
      (windowOpen s = false → ∀ r, writeRefused m.writeMask a.toNat data.length s = some r →
        Completes (.relayedWriteReceive v m) s (fun u => u = saddle (.verdict m.id r.status 0) (noted v s))) ∧
      (windowOpen s = false → writeRefused m.writeMask a.toNat data.length s = none → Completes (.relayedWriteReceive v m) s (fun u =>
        u.mem = { s.mem with cells := Memory.writeBytes s.mem.cells a.toNat data }))) ∧
    (∀ off x, m.body = .regCmd off x → holds s = true →
      (∀ k op, commandOf off x s = some (k, op) → Completes (.relayedWriteReceive v m) s (fun u => u = op (reqRelayed m) (noted v s))) ∧
      (commandOf off x s = none → Completes (.relayedWriteReceive v m) s (fun u => u = saddle (.verdict m.id 0 0) (noted v s)))) ∧
    (m.body = .claimGone → (holds s = false ∨ claimOf s (!s.pair.slot) m.session = false) → Completes (.relayedWriteReceive v m) s (fun u => u = noted v s)) ∧
    (m.body = .claimGone → holds s = true → claimOf s (!s.pair.slot) m.session = true → Completes (.relayedWriteReceive v m) s (fun u => u = endClaim 2 (noted v s))) ∧
    (∀ ident, m.body = .change ident → holds s = true → Completes (.relayedWriteReceive v m) s (fun u => u = changeService (reqRelayed m) 0 ident (noted v s))) ∧
    (∀ o data, m.body = .chunk o data → holds s = true → Completes (.relayedWriteReceive v m) s (fun u =>
      ∃ st r, (chunkService (.relayed m.id m.session) o data (noted v s)).1 = st ∧ (chunkService (.relayed m.id m.session) o data (noted v s)).2.1 = r ∧
        u = saddle (.verdict m.id st r) (chunkService (.relayed m.id m.session) o data (noted v s)).2.2)) ∧
    (∀ stmt sig, m.body = .key stmt sig → holds s = true → keyCause stmt sig (m.writeMask.getLsbD 0) s = none →
      Completes (.relayedWriteReceive v m) s (fun u => u = writeKeys stmt (.keyRelayed m.id m.session stmt) (noted v s)))) ∧
  (∀ (s : State) v id status result, firstCopy v s = true → (∀ se : Fin 64, s.ses.tab[se].fences = []) → s.ses.heldReads = [] →
    (∀ (se : Fin 64) tag a len, s.ses.relayed = [⟨id, se, none, 0x0011, some tag, a, len, false⟩] → sesOpen s se = true →
      (status = 0 → Completes (.relayVerdictReceive v id status result) s (fun u => u = reply se 0x0011 tag 0 [] { noted v s with ses := { s.ses with relayed := [] } })) ∧
      (status ≠ 0 → Completes (.relayVerdictReceive v id status result) s (fun u =>
        u.ses.relayed = [] ∧ u.ses.tab[se].fenceBad = s.ses.tab[se].fenceBad + 1 ∧
        u.ses.tab[se].fenceStatus = (if s.ses.tab[se].fenceBad = 0 then status else s.ses.tab[se].fenceStatus) ∧
        u.out.getLast? = some (.reply s.ses.tab[se].conn 0x0011 tag status [])))) ∧
    (∀ (se : Fin 64) g a len, s.ses.relayed = [⟨id, se, some g, 0, none, a, len, false⟩] → status = 0 → a ≠ 0x2428 →
      Completes (.relayVerdictReceive v id status result) s (fun u =>
        u.ses.tab[se].res = s.ses.tab[se].res.put g result ∧ u.out = s.out ∧ u.mem = s.mem)) ∧
    (s.ses.relayed = [] → Completes (.relayVerdictReceive v id status result) s (fun u =>
      u.pair.waits = s.pair.waits.filter (fun w => w.id != id) ∧ u.mem = s.mem))))

/-! ### Sessions (15 R385 to R412) -/

/-- R6, R385, R387 to R389, R391: a connection on a port that serves waits 5 s for OPEN, and an OPEN that comes later closes it. OPEN with a credential that passes the checks, for a role that exists, with a free number, opens a session with the role's
masks and classes and every other field at its reset value, and records 0x6001; else it is answered AUTH, or FULL for want of a number, recorded as 0x6003, and the connection is closed.

R389, R391, R393, R398, R410, R412: KEEPALIVE and CLOSE are answered; a session ends at CLOSE (cause 0), after 20 s without a message (1), on a TLS alert (3), by SES_CMD (5), and 1 s after the first
key of an enrolment (8): its number is free, its fields are as at reset, its connection is closed, and 0x6002 has the cause.

Forms whose completion it states: open_, openTimeout, close, keepalive, sessionIdleTimeout, tlsAlert, enrolmentSessionClose, sesClose, sesViolclr, sesMapsync, mapsyncComplete, tlsHandshakeComplete. -/
def Obligations.SessionsOpenByCredentialAndEndWithACause : Prop :=
  ((∀ (s : State) (conn : Nat) port ip key,
    ((s.mod.st = .off ∨ s.mod.st = .boot ∨ portServes port s = false) → Completes (.tlsHandshakeComplete conn port ip key) s (fun u => u = s)) ∧
    (s.mod.st ≠ .off → s.mod.st ≠ .boot → portServes port s = true → Completes (.tlsHandshakeComplete conn port ip key) s (fun u =>
      u.ses.conns = s.ses.conns.filter (fun c => c.conn != conn) ++ [⟨conn, port, ip, key, s.tb.now⟩] ∧ u = { s with ses := { s.ses with conns := u.ses.conns } }))) ∧
  (∀ (s : State) (conn : Nat), s.ses.conns.find? (fun c => c.conn == conn) = none →
    Completes (.openTimeout conn) s (fun u => u = s) ∧ (∀ (tag : W32) (cred : List Byte), Completes (.open_ conn tag cred) s (fun u => u = s))) ∧
  (∀ (s : State) (conn : Nat) (c : Conn), s.ses.conns.find? (fun c => c.conn == conn) = some c →
    (s.tb.now < c.since + 5000000000 → Completes (.openTimeout conn) s (fun u => u = s)) ∧
    (c.since + 5000000000 ≤ s.tb.now → Completes (.openTimeout conn) s (fun u =>
      u.ses.conns = s.ses.conns.filter (fun c => c.conn != conn) ∧ u.out = s.out ++ [Out.closeConn conn] ∧
      u = { s with ses := { s.ses with conns := u.ses.conns }, out := u.out })) ∧
    (c.since + 5000000000 < s.tb.now → ∀ (tag : W32) (cred : List Byte), Completes (.open_ conn tag cred) s (fun u =>
      u.ses.conns = s.ses.conns.filter (fun c => c.conn != conn) ∧ u.out = s.out ++ [Out.closeConn conn] ∧
      u = { s with ses := { s.ses with conns := u.ses.conns }, out := u.out })) ∧
    (s.tb.now ≤ c.since + 5000000000 → ∀ (tag : W32) (cred : List Byte), Completes (.open_ conn tag cred) s (fun u =>
      u.ses.conns = s.ses.conns.filter (fun c => c.conn != conn) ∧ u = { s with ses := u.ses, evr := u.evr, out := u.out } ∧
      (∀ cause : Nat, openVerdict c cred s = .inl cause →
        u.out = s.out ++ [Out.reply conn 0x0001 tag (if cause = 8 then 9 else 8) [], .closeConn conn] ∧ u.ses.tab = s.ses.tab ∧
        u.ses.acc.refuse = satSucc max32 s.ses.acc.refuse ∧
        (s.evr.queue.length < 256 → ∃ v : Ev, u.evr.queue = s.evr.queue ++ [v] ∧ v.code = 0x6003 ∧ v.data = recData [(1, c.port.val), (1, cause), (4, c.ip.toNat)])) ∧
      (∀ (g : Grant) (n : Fin 64), openVerdict c cred s = .inr (g, n) →
        u.out = s.out ++ [Out.reply conn 0x0001 tag 0
          (leBytes 1 n.val ++ leBytes 1 g.index ++ leBytes 2 0 ++ leBytes 2 g.readMask.toNat ++ leBytes 2 g.writeMask.toNat ++ leBytes 4 g.classes.toNat)] ∧
        (∃ caps, u.ses.tab = upd s.ses.tab n (fun _ => ({ st := .open_, conn := conn, role := g.index, readMask := g.readMask, writeMask := g.writeMask
                                                          classes := g.classes, enrolment := g.enrolment, port := c.port, ip := c.ip, lastMsg := s.tb.now
                                                          caps := caps } : Sess))) ∧
        u.ses.acc.open_ = satSucc max32 s.ses.acc.open_ ∧
        (s.evr.queue.length < 256 → ∃ v : Ev, u.evr.queue = s.evr.queue ++ [v] ∧ v.code = 0x6001 ∧
          v.data = recData [(1, n.val), (1, c.port.val), (4, c.ip.toNat), (1, g.index)]))))) ∧
  (∀ (c : Conn) (cred : List Byte) (s : State) (g : Grant) (n : Fin 64), openVerdict c cred s = .inr (g, n) →
    credCause 1 (isEnrolment cred s) cred c.clientKey s = none ∧ roleOf cred s = some g ∧ s.ses.tab[n].st = .free ∧
    (n = 63 → g.writeMask.getLsbD 0 = true) ∧ (∀ m : Fin 64, m < n → m.val < 63 → s.ses.tab[m].st ≠ .free))) ∧
  ((∀ (s : State) (se : Fin 64) (tag : W32), (sesOpen s se = false → Completes (.close se tag) s (fun u => u = s) ∧ Completes (.keepalive se tag) s (fun u => u = s) ∧
      Completes (.sessionIdleTimeout se) s (fun u => u = s) ∧ Completes (.tlsAlert se) s (fun u => u = s)) ∧
    (sesOpen s se = true → tooMany s se = true → Completes (.close se tag) s (fun u => u = reply se 0x0002 tag 7 [] (heard se s)) ∧
      Completes (.keepalive se tag) s (fun u => u = reply se 0x0003 tag 7 [] (heard se s))) ∧
    (sesOpen s se = true → tooMany s se = false → Completes (.keepalive se tag) s (fun u =>
      u.ses.tab[se] = { s.ses.tab[se] with lastMsg := s.tb.now } ∧ u.out = s.out ++ [Out.reply s.ses.tab[se].conn 0x0003 tag 0 []])) ∧
    (sesOpen s se = true → s.tb.now < s.ses.tab[se].lastMsg + 20000000000 → Completes (.sessionIdleTimeout se) s (fun u => u = s)) ∧
    (sesOpen s se = true → claimOf s s.pair.slot se = false →
      ∀ (c : Instr) (k : Nat), ((c = .close se tag ∧ tooMany s se = false ∧ k = 0) ∨ (c = .sessionIdleTimeout se ∧ s.ses.tab[se].lastMsg + 20000000000 ≤ s.tb.now ∧ k = 1) ∨ (c = .tlsAlert se ∧ k = 3)) →
      Completes c s (fun u =>
        u.ses.tab = upd s.ses.tab se (fun _ => ({} : Sess)) ∧ u.ses.claim = s.ses.claim ∧ u.mem = s.mem ∧ (∀ r ∈ u.ses.relayed, r.se ≠ se) ∧
        u.out = s.out ++ ((if k = 0 then [Out.reply s.ses.tab[se].conn 0x0002 tag 0 []] else []) ++ [Out.closeConn s.ses.tab[se].conn]) ∧
        u.ses.acc.close = (if k = 0 then s.ses.acc.close else satSucc max32 s.ses.acc.close) ∧
        (s.evr.queue.length < 256 → ∃ v : Ev, u.evr.queue = s.evr.queue ++ [v] ∧ v.code = 0x6002 ∧ v.data = recData [(1, se.val), (1, k)] ∧ v.src = BitVec.ofNat 8 (1 + se.val)))) ∧
    (sesOpen s se = true → claimOf s s.pair.slot se = true → holds s = true → Completes (.tlsAlert se) s (fun u =>
      u.ses.tab[se] = ({} : Sess) ∧ u.ses.claim = none))) ∧
  (∀ (s : State) (se : Fin 64), admitted regSes se s = true →
    (sesOpen s s.ses.tab[se].sel.sesSel = false → Completes (.sesClose se) s (fun u => u = setRes se .ses 4 (asked se s))) ∧
    (sesOpen s s.ses.tab[se].sel.sesSel = true → claimOf s s.pair.slot s.ses.tab[se].sel.sesSel = false → Completes (.sesClose se) s (fun u =>
      u.ses.tab[s.ses.tab[se].sel.sesSel].st = .free ∧ (s.ses.tab[se].sel.sesSel ≠ se → u.ses.tab[se].res.ses = 6) ∧
      u.out = s.out ++ [Out.closeConn s.ses.tab[s.ses.tab[se].sel.sesSel].conn] ∧
      (s.evr.queue.length < 256 → ∃ v : Ev, u.evr.queue = s.evr.queue ++ [v] ∧ v.code = 0x6002 ∧ v.data = recData [(1, s.ses.tab[se].sel.sesSel.val), (1, 5)])))) ∧
  (∀ s : State, (s.ses.enrolKeyed = none → Completes .enrolmentSessionClose s (fun u => u = s)) ∧
    (∀ t0 : Nat, s.ses.enrolKeyed = some t0 →
      (s.tb.now < t0 + 1000000000 → Completes .enrolmentSessionClose s (fun u => u = s)) ∧
      (t0 + 1000000000 ≤ s.tb.now → Completes .enrolmentSessionClose s (fun u =>
        u.ses.enrolKeyed = none ∧ (∀ n : Fin 64, s.ses.tab[n].st = .open_ → s.ses.tab[n].enrolment = true → u.ses.tab[n].st = .free) ∧
        (∀ n : Fin 64, s.ses.tab[n].enrolment = false → u.ses.tab[n].st = s.ses.tab[n].st))))) ∧
  (∀ (s : State) (se : Fin 64) (v : W32), (sesOpen s se = false → Completes (.sesViolclr se v) s (fun u => u = s) ∧ Completes (.sesMapsync se v) s (fun u => u = s) ∧ Completes (.mapsyncComplete se) s (fun u => u = s)) ∧
    (sesOpen s se = true →
      Completes (.sesViolclr se v) s (fun u => u = { s with ses := { s.ses with tab := upd s.ses.tab se (fun x => { x with
        lastMsg := s.tb.now, fenceWrites := x.fenceWrites + 1, violCnt := if v.getLsbD 0 then 0 else x.violCnt
        violAddr := if v.getLsbD 0 then 0 else x.violAddr, violInfo := if v.getLsbD 0 then 0 else x.violInfo }) } }) ∧
      Completes (.sesMapsync se v) s (fun u => u = { s with ses := { s.ses with tab := upd s.ses.tab se (fun x => { x with
        lastMsg := s.tb.now, fenceWrites := x.fenceWrites + 1, mapsync := x.mapsync || v.getLsbD 0 }) } }) ∧
      (s.ses.tab[se].mapsync = true → Completes (.mapsyncComplete se) s (fun u => u = { s with ses := { s.ses with tab := upd s.ses.tab se (fun x => { x with
        mapsync := false, rdDropUsed := x.rdDrop, wrDropUsed := x.wrDrop }) } })))))

/-- R389, R398, R410, R412: one session of the pair at a time holds the configuration claim, for 60 s from each grant or renewal; RELEASE is for its holder, BREAK_CLAIM for another session with the
maintenance colour; grants and ends are recorded as 0x6020. The enrolment window opens by the panel's key while every key slot is EMPTY and no partner is in RUN, and closes after 600 s.

Forms whose completion it states: wakeKey, enrolmentWakeHold, enrolmentTimeout, acquire, release, claimLapseTimeout, breakClaim. -/
def Obligations.ClaimsAndEnrolmentAreLimited : Prop :=
  (∀ (s : State) (se : Fin 64), admitted regClaim se s = true →
    (s.ses.claim = none → Completes (.acquire se) s (fun u =>
      u.ses.claim = some ⟨s.pair.slot, se, s.tb.now + 60000000000⟩ ∧ u.ses.tab[se].res.ses = 1 ∧
      (s.evr.queue.length < 256 → ∃ v : Ev, u.evr.queue = s.evr.queue ++ [v] ∧ v.code = 0x6020 ∧ v.data = recData [(1, se.val), (1, 0), (1, bitNat s.pair.slot)]))) ∧
    (∀ c, s.ses.claim = some c →
      (c.slot = s.pair.slot → c.se = se → Completes (.acquire se) s (fun u =>
        u.ses.claim = some ⟨s.pair.slot, se, s.tb.now + 60000000000⟩ ∧ u.ses.tab[se].res.ses = 1 ∧ u.evr = s.evr)) ∧
      ((c.slot ≠ s.pair.slot ∨ c.se ≠ se) → Completes (.acquire se) s (fun u => u = setRes se .ses 2 (asked se s)))) ∧
    (claimOf s s.pair.slot se = false → Completes (.release se) s (fun u => u = setRes se .ses 4 (asked se s))) ∧
    (claimOf s s.pair.slot se = true → s.img.idle ≠ .loading → Completes (.release se) s (fun u =>
      u.ses.claim = none ∧ u.ses.tab[se].res.ses = 1 ∧ u.img = s.img ∧
      (s.evr.queue.length < 256 → ∃ v : Ev, u.evr.queue = s.evr.queue ++ [v] ∧ v.code = 0x6020 ∧ v.data = recData [(1, se.val), (1, 1), (1, bitNat s.pair.slot)])))) ∧
  (∀ (s : State) (se : Fin 64), admitted regBreak se s = true →
    (holdsMaint s.ses.tab[se] = false → Completes (.breakClaim se) s (fun u => u = setRes se .ses 5 (asked se s))) ∧
    (holdsMaint s.ses.tab[se] = true → (s.ses.claim = none ∨ claimOf s s.pair.slot se = true) → Completes (.breakClaim se) s (fun u => u = setRes se .ses 4 (asked se s))) ∧
    (∀ c, holdsMaint s.ses.tab[se] = true → s.ses.claim = some c → claimOf s s.pair.slot se = false → Completes (.breakClaim se) s (fun u =>
      u.ses.claim = none ∧ u.ses.tab[se].res.ses = 6 ∧ (s.img.idle = .loading → u.img.idle ≠ .loading) ∧
      (s.img.idle ≠ .loading → s.evr.queue.length < 256 → ∃ v : Ev, u.evr.queue = s.evr.queue ++ [v] ∧ v.code = 0x6020 ∧ v.data = recData [(1, c.se.val), (1, 3), (1, bitNat c.slot)])))) ∧
  (∀ s : State, (s.ses.claim = none → Completes .claimLapseTimeout s (fun u => u = s)) ∧
    (∀ c, s.ses.claim = some c →
      (s.tb.now < c.until_ → Completes .claimLapseTimeout s (fun u => u = s)) ∧
      (c.until_ ≤ s.tb.now → Completes .claimLapseTimeout s (fun u =>
        u.ses.claim = none ∧ (s.img.idle ≠ .loading → u.ses.tab = s.ses.tab) ∧ (s.img.idle = .loading → u.img.idle ≠ .loading) ∧
        u.out = (if c.slot = s.pair.slot ∧ sesOpen s c.se = true then s.out ++ [Out.notice s.ses.tab[c.se].conn 2 0 0] else s.out))))) ∧
  (∀ s : State, Completes .wakeKey s (fun u => u = { s with lcd := { s.lcd with pendLow := false, lastActivity := s.tb.now } })) ∧
  (∀ s : State, ((s.mod.st = .off ∨ s.mod.st = .boot ∨ (∃ k : Fin 8, s.img.keys[k] ≠ .empty) ∨ partnerInRun s = true ∨ s.ses.enrol ≠ none) →
      Completes .enrolmentWakeHold s (fun u => u = { s with lcd := { s.lcd with pendLow := false, lastActivity := s.tb.now } })) ∧
    (s.mod.st ≠ .off → s.mod.st ≠ .boot → (∀ k : Fin 8, s.img.keys[k] = .empty) → partnerInRun s = false → s.ses.enrol = none →
      Completes .enrolmentWakeHold s (fun u => u.ses.enrol = some s.tb.now ∧
        (s.evr.queue.length < 256 → ∃ v : Ev, u.evr.queue = s.evr.queue ++ [v] ∧ v.code = 0x6004 ∧ v.data = recData [(1, 1), (1, 0)])))) ∧
  (∀ s : State, (s.ses.enrol = none → Completes .enrolmentTimeout s (fun u => u = s)) ∧
    (∀ t0 : Nat, s.ses.enrol = some t0 →
      (s.tb.now < t0 + 600000000000 → Completes .enrolmentTimeout s (fun u => u = s)) ∧
      (t0 + 600000000000 ≤ s.tb.now → Completes .enrolmentTimeout s (fun u => u.ses.enrol = none ∧
        (s.evr.queue.length < 256 → ∃ v : Ev, u.evr.queue = s.evr.queue ++ [v] ∧ v.code = 0x6004 ∧ v.data = recData [(1, 0), (1, 0)])))))

/-! ### Single registers (20 R481 to R490) and firmware (19 R473) -/

/-- R8, R293, R323, R393, R445, R479, R481, R483 to R490: a register write as a message of its own is refused by state or class, or applied: a command, CH_DIAG, which clears status-seen bits, or one of
the session's own registers, which take it; registers without a write ignore it. A read of a low half, of a value's first word or of EVR_WIN0 captures the registers that belong to it; a read
of EVR_WIN7 advances the cursor to the end at most.

Forms whose completion it states: chDiag, loRegisterRead, chAiValLoRead, chAiUrgvalLoRead, evrWin0Read, evrWin7Read, registerWrite. -/
def Obligations.RegistersTakeWritesAndCaptureAtReads : Prop :=
  (∀ (s : State) se off v, let noted := heard se s
    (sesOpen s se = false → Completes (.registerWrite se off v) s (fun u => u = s) ∧ Completes (.chDiag se v) s (fun u => u = s)) ∧
    (sesOpen s se = true →
      (∀ r, regRefused off se s = some r → r.kind = 0 → Completes (.registerWrite se off v) s (fun u => u = noteWrite se (some r) noted)) ∧
      (∀ r c g always, regRefused off se s = some r → r.kind = 3 → writeClass off = some (c, g, always) →
        Completes (.registerWrite se off v) s (fun u => u = setRes se g 3 (noteWrite se (some r) (violation se r noted)))) ∧
      (∀ k op, regRefused off se s = none → commandOf off v s = some (k, op) →
        (mustRelay k s = false → Completes (.registerWrite se off v) s (fun u => u = op (reqOf se (asked se s)) (asked se s))) ∧
        (mustRelay k s = true → holderReachable s = false → Completes (.registerWrite se off v) s (fun u => u = setRes se k.reg k.noHolder (asked se s)))) ∧
      (commandOf off v s = none → off ≠ 0x1C44 → off ≠ 0x240C → off ≠ 0x2410 → off ≠ 0x2414 → off ≠ 0x2424 → Completes (.registerWrite se off v) s (fun u =>
        u = { s with ses := { s.ses with tab := upd s.ses.tab se (fun x => { x with
          lastMsg := s.tb.now, fenceWrites := x.fenceWrites + 1, sel := putSelect off v x.sel }) } })) ∧
      (∀ d, d = 0x240C ∨ d = 0x2410 → Completes (.registerWrite se d v) s (fun u =>
        u.ses.tab[se].rdDrop = (if d = 0x240C then v.extractLsb' 0 16 else s.ses.tab[se].rdDrop) ∧
        u.ses.tab[se].wrDrop = (if d = 0x2410 then v.extractLsb' 0 16 else s.ses.tab[se].wrDrop) ∧
        u.ses.tab[se].sel = s.ses.tab[se].sel ∧ u = { s with ses := u.ses, free := u.free })) ∧
      ((isDown s = true ∨ s.ses.tab[se].classes.getLsbD 4 = false) → Completes (.chDiag se v) s (fun u => u.io = s.io ∧
        u.ses.tab[se].fenceBad = s.ses.tab[se].fenceBad + 1)) ∧
      (isDown s = false → s.ses.tab[se].classes.getLsbD 4 = true → Completes (.chDiag se v) s (fun u =>
        u.io.chan = upd s.io.chan (selChan s.ses.tab[se]) (fun k => { k with seen := k.seen &&& ~~~ (v.extractLsb' 0 16) }) ∧
        u = { s with io := { s.io with chan := u.io.chan }, ses := u.ses })))) ∧
  (∀ (s : State) (se : Fin 64), sesOpen s se = false →
    (∀ off, Completes (.loRegisterRead se off) s (fun u => u = s)) ∧ Completes (.chAiValLoRead se) s (fun u => u = s) ∧ Completes (.chAiUrgvalLoRead se) s (fun u => u = s) ∧
    Completes (.evrWin0Read se) s (fun u => u = s) ∧ Completes (.evrWin7Read se) s (fun u => u = s)) ∧
  (∀ (s : State) (se : Fin 64) off, loRegs.contains off = false → Completes (.loRegisterRead se off) s (fun u => u = s)) ∧
  (∀ (s : State) (se : Fin 64), sesOpen s se = true →
    (∀ off, loRegs.contains off = true → Completes (.loRegisterRead se off) s (fun u =>
      regRead u se (off + 4) = regNow (heard se s) se (off + 4) ∧ u = { s with ses := u.ses })) ∧
    Completes (.chAiValLoRead se) s (fun u => (∀ off, off = 0x1C84 ∨ off = 0x1C88 ∨ off = 0x1C8C → regRead u se off = regNow (heard se s) se off) ∧ u = { s with ses := u.ses }) ∧
    Completes (.chAiUrgvalLoRead se) s (fun u => (∀ off, off = 0x1CAC ∨ off = 0x1CB0 ∨ off = 0x1CB4 → regRead u se off = regNow (heard se s) se off) ∧ u = { s with ses := u.ses }) ∧
    Completes (.evrWin0Read se) s (fun u =>
      (∀ k : Nat, 0 < k → k < 8 → regRead u se (0x2C20 + 4 * k) = windowWord (windowAt s.ses.tab[se].sel.evrCursor s).1 k) ∧
      regRead u se 0x2C40 = (windowAt s.ses.tab[se].sel.evrCursor s).2 ∧ u = { s with ses := u.ses }) ∧
    Completes (.evrWin7Read se) s (fun u =>
      u.ses.tab[se].sel = { s.ses.tab[se].sel with evrCursor :=
        if s.evr.clearing = none ∧ s.ses.tab[se].sel.evrCursor < s.evr.slots.length then s.ses.tab[se].sel.evrCursor + 1 else s.ses.tab[se].sel.evrCursor } ∧
      u = { s with ses := u.ses }))

/-- R391, R470, R471, R473, R474, R476: a package's chunks come in order from a session with class STATE and the maintenance colour; chunk 0 erases the alternate copy, and its check makes that VALID or INVALID.
FW_ABORT ends a load; FW_ACTIVATE selects a VALID copy for the next BOOT.

Forms whose completion it states: firmwareChunk, firmwareVerifyComplete, fwActivate, fwAbort. -/
def Obligations.FirmwareIsLoadedCheckedAndSelected : Prop :=
  (∀ (s : State) se tag o data last,
    (sesOpen s se = false → Completes (.firmwareChunk se tag o data last) s (fun u => u = s)) ∧
    (sesOpen s se = true → tooMany s se = true → Completes (.firmwareChunk se tag o data last) s (fun u => u = reply se 0x0020 tag 7 [] (heard se s))) ∧
    (sesOpen s se = true → tooMany s se = false →
      ((s.mod.st = .failed ∨ s.mod.st = .stopped) → Completes (.firmwareChunk se tag o data last) s (fun u => u = reply se 0x0020 tag 5 [] (heard se s))) ∧
      (s.mod.st ≠ .failed → s.mod.st ≠ .stopped →
        ((s.ses.tab[se].classes.getLsbD 11 = false ∨ holdsMaint s.ses.tab[se] = false) → Completes (.firmwareChunk se tag o data last) s (fun u =>
          u = reply se 0x0020 tag 1 [] (heard se s))) ∧
        (s.ses.tab[se].classes.getLsbD 11 = true → holdsMaint s.ses.tab[se] = true →
          (o ≠ 0 → (s.mod.fwAlt.st ≠ 3 ∨ o ≠ s.mod.fwLoad.length) → Completes (.firmwareChunk se tag o data last) s (fun u => u = reply se 0x0020 tag 12 [] (heard se s))) ∧
          (o = 0 → data.length ≤ 67108864 → Completes (.firmwareChunk se tag o data last) s (fun u =>
            u.mod = { s.mod with fwLoad := data, fwAlt := { st := 3 }, fwDone := last } ∧
            u.out = s.out ++ [Out.reply s.ses.tab[se].conn 0x0020 tag 0 []])) ∧
          (o ≠ 0 → s.mod.fwAlt.st = 3 → o = s.mod.fwLoad.length → o + data.length ≤ 67108864 → Completes (.firmwareChunk se tag o data last) s (fun u =>
            u.mod = { s.mod with fwLoad := s.mod.fwLoad ++ data, fwDone := last } ∧ u.out = s.out ++ [Out.reply s.ses.tab[se].conn 0x0020 tag 0 []])))))) ∧
  (∀ (s : State) version pmin pmax valid,
    ((s.mod.fwAlt.st ≠ 3 ∨ s.mod.fwDone = false) → Completes (.firmwareVerifyComplete version pmin pmax valid) s (fun u => u = s)) ∧
    (s.mod.fwAlt.st = 3 → s.mod.fwDone = true → Completes (.firmwareVerifyComplete version pmin pmax valid) s (fun u =>
      u.mod.fwAlt.version = version ∧ u.mod.fwAlt.pairMin = pmin ∧ u.mod.fwAlt.pairMax = pmax ∧ u.mod.fwAlt.st = (if valid then 1 else 2) ∧ u.mod.fwDone = false ∧
      u = { s with mod := { s.mod with fwAlt := u.mod.fwAlt, fwLoad := [], fwDone := false } }))) ∧
  (∀ (s : State) se, admitted regAbort se s = true →
    (s.mod.fwAlt.st ≠ 3 → Completes (.fwAbort se) s (fun u => u = setRes se .mod 4 (asked se s))) ∧
    (s.mod.fwAlt.st = 3 → Completes (.fwAbort se) s (fun u =>
      u.mod.fwAlt = { s.mod.fwAlt with st := 2 } ∧ u.mod.fwLoad = [] ∧ u.ses.tab[se].res.mod = 6 ∧
      (s.evr.queue.length < 256 → ∃ v : Ev, u.evr.queue = s.evr.queue ++ [v] ∧ v.code = 0x0014 ∧
        v.data = recData [(1, 5), (1, bitNat (s.ses.tab[se].sel.modArg.getLsbD 1)), (1, bitNat (s.ses.tab[se].sel.modArg.getLsbD 0)), (1, se.val)])))) ∧
  (∀ (s : State) se, admitted regMod se s = true → s.ses.tab[se].sel.modArg.getLsbD 1 = false →
    (s.mod.fwAlt.st ≠ 1 → Completes (.fwActivate se) s (fun u => u = setRes se .mod 5 (asked se s))) ∧
    (s.mod.fwAlt.st = 1 → Completes (.fwActivate se) s (fun u =>
      u.mod = { s.mod with fwSelected := true } ∧ u.ses.tab[se].res.mod = 6 ∧
      (s.evr.queue.length < 256 → ∃ v : Ev, u.evr.queue = s.evr.queue ++ [v] ∧ v.code = 0x0014)))) ∧
  (∀ (s : State) se, admitted regMod se s = true → s.ses.tab[se].sel.modArg.getLsbD 1 = true → standbyThere s = false →
    Completes (.fwActivate se) s (fun u => u = setRes se .mod 4 (asked se s)))

/-! ### Vale links (09) -/

/-- R239 to R248, R252, R262, R263, R265, R488: an invalid frame is only counted; a valid one shows the station's Hops and the highest epoch seen; the last part of a sample completes it, and it is kept once, in
falling order of its instant, and relayed to a partner that does not hear the station. At each due instant the sample is complete or missed; at the limit of missed samples the
station goes OUT, and after ten good ones it is IN.

Forms whose completion it states: valeInputReceive, relayedSampleReceive, sampleDue, stationStatusReceive, eventOutputRepeat, partnerStationMapReceive. -/
def Obligations.SamplesAreTakenOnceAndJudgedWhenDue : Prop :=
  (∀ (s : State) (f : InputFrame), (s.links[f.link].up = false ∨ (linkEntry s f.link).enabled = false) → Completes (.valeInputReceive f) s (fun u => u = s)) ∧
  (∀ (s : State) (f : InputFrame), s.links[f.link].up = true → (linkEntry s f.link).enabled = true →
    (f.valid = false → Completes (.valeInputReceive f) s (fun u =>
      u.links[f.link].acc.bad = satSucc max32 s.links[f.link].acc.bad ∧ u.links[f.link].stns = s.links[f.link].stns ∧ u = { s with links := u.links })) ∧
    (f.valid = true →
      (stnEntry s f.link f.pos = none → Completes (.valeInputReceive f) s (fun u =>
        u.links[f.link].acc.rx = satSucc max32 s.links[f.link].acc.rx ∧ u.links[f.link].stns[f.pos].hops = f.hops ∧
        u.lease.seenEpoch[f.link] = (if s.lease.seenEpoch[f.link] < f.epoch then f.epoch else s.lease.seenEpoch[f.link]))) ∧
      (∀ e, stnEntry s f.link f.pos = some e → f.parts.val = 1 → f.part.val = 0 → s.links[f.link].stns[f.pos].parts = [] →
        Completes (.valeInputReceive f) s (fun u =>
          u.links[f.link].stns[f.pos].heardAt = some s.tb.now ∧ u.links[f.link].stns[f.pos].parts = [] ∧
          u.links[f.link].stns[f.pos].samples =
            (if hasSample s.links[f.link].stns[f.pos] f.time then s.links[f.link].stns[f.pos].samples
             else insertSample ⟨f.link, f.pos, f.time, (List.range e.inCount).map (partRecord [f])⟩ s.links[f.link].stns[f.pos].samples) ∧
          (partnerPresent s = true → saddleOpen s = true → s.links[f.link].stns[f.pos].pHeard = false →
            .saddle [0, 1] (s.pair.seqOut + 1) s.lsk.unchecked (.sample ⟨f.link, f.pos, f.time, (List.range e.inCount).map (partRecord [f])⟩) ∈ u.out ∧ u.links[f.link].stns[f.pos].relaying = true) ∧
          ((partnerPresent s = false ∨ saddleUp s = false ∨ s.links[f.link].stns[f.pos].pHeard = true) → u.out = s.out ∧ u.links[f.link].stns[f.pos].relaying = false))))) ∧
  (∀ (s : State) v (m : Sample), firstCopy v s = true → Completes (.relayedSampleReceive v m) s (fun u =>
    u.links[m.link].stns[m.pos].samples = (if hasSample s.links[m.link].stns[m.pos] m.time then s.links[m.link].stns[m.pos].samples
      else insertSample m s.links[m.link].stns[m.pos].samples) ∧
    u.links[m.link].acc.relay = satSucc max32 s.links[m.link].acc.relay ∧ u.links[m.link].stns[m.pos].heardAt = s.links[m.link].stns[m.pos].heardAt ∧ u = { noted v s with links := u.links })) ∧
  (∀ (s : State) (l : Fin 24) (p : Fin 32), (stnEntry s l p = none ∨ s.links[l].stns[p].started = false ∨ s.tb.now < s.links[l].stns[p].nextDue) → Completes (.sampleDue l p) s (fun u => u = s)) ∧
  (∀ (s : State) (l : Fin 24) (p : Fin 32) e, stnEntry s l p = some e → s.links[l].stns[p].started = true → s.links[l].stns[p].nextDue ≤ s.tb.now →
    let got := s.links[l].stns[p].samples.any (fun m => m.time + linkLead s l == s.links[l].stns[p].nextDue && !s.links[l].stns[p].overdue.contains m.time)
    Completes (.sampleDue l p) s (fun u =>
      u.links[l].stns[p].nextDue = s.links[l].stns[p].nextDue + inputPeriod s e ∧ u.mem = s.mem ∧
      (got = true → u.links[l].stns[p].missed = 0) ∧
      (got = false → u.links[l].stns[p].missed = s.links[l].stns[p].missed + 1 ∧ u.links[l].acc.miss = satSucc max32 s.links[l].acc.miss) ∧
      (judges s e = false → u.links[l].stns[p].st = s.links[l].stns[p].st ∧ u.evr = s.evr) ∧
      (judges s e = true → s.links[l].stns[p].st = .in_ → got = false → missLimit s l e ≤ s.links[l].stns[p].missed + 1 →
        u.links[l].stns[p].st = .out ∧ u.mir.linksBad = true ∧ (s.evr.queue.length < 256 → ∃ v : Ev, u.evr.queue = s.evr.queue ++ [v] ∧ v.code = 0x3001)) ∧
      (judges s e = true → s.links[l].stns[p].st = .in_ → (got = true ∨ s.links[l].stns[p].missed + 1 < missLimit s l e) → 0 < missLimit s l e → u.links[l].stns[p].st = .in_) ∧
      (judges s e = true → s.links[l].stns[p].st ≠ .in_ → got = true → 9 ≤ s.links[l].stns[p].good → u.links[l].stns[p].st = .in_) ∧
      (judges s e = true → s.links[l].stns[p].st ≠ .in_ → got = true → s.links[l].stns[p].good < 9 → u.links[l].stns[p].st = s.links[l].stns[p].st))) ∧
  (∀ (s : State) (m : StationStatus),
    (s.links[m.link].stns[m.pos].base = none → Completes (.stationStatusReceive m) s (fun u =>
      u.links[m.link].stns[m.pos].base = some m ∧ u.links[m.link].stns[m.pos].epoch = m.epoch ∧ u.links[m.link].stns[m.pos].acc = s.links[m.link].stns[m.pos].acc)) ∧
    (∀ b, s.links[m.link].stns[m.pos].base = some b → Completes (.stationStatusReceive m) s (fun u =>
      u.links[m.link].stns[m.pos].base = some m ∧
      u.links[m.link].stns[m.pos].acc.twin = satAdd max32 s.links[m.link].stns[m.pos].acc.twin (m.twin - b.twin).toNat ∧
      u.links[m.link].stns[m.pos].acc.stale = satAdd max32 s.links[m.link].stns[m.pos].acc.stale (m.stale - b.stale).toNat ∧
      u.links[m.link].stns[m.pos].acc.wdog = satAdd max32 s.links[m.link].stns[m.pos].acc.wdog (m.watchdog - b.watchdog).toNat))) ∧
  (∀ (s : State) v (l : Fin 24) (w : W32), firstCopy v s = true → Completes (.partnerStationMapReceive v [(l, w)]) s (fun u =>
    (∀ p : Fin 32, u.links[l].stns[p].pHeard = w.getLsbD p.val) ∧ (∀ k : Fin 24, k ≠ l → u.links[k] = s.links[k]) ∧ u = { noted v s with links := u.links })) ∧
  (∀ s : State, (sendsOutputs s = false ∨ inRun s = false ∨ s.tb.now < s.tsk.repeatAt) → Completes .eventOutputRepeat s (fun u => u = s)) ∧
  (∀ s : State, sendsOutputs s = true → inRun s = true → s.tsk.repeatAt ≤ s.tb.now → Completes .eventOutputRepeat s (fun u =>
    u.tsk = { s.tsk with repeatAt := s.tb.now + 250000000 } ∧ u.mem = s.mem ∧
    ((enabledTasks s).filter (fun t => t.event) = [] → u.out = s.out) ∧
    (∀ t c i e, (enabledTasks s).filter (fun t => t.event) = [t] → s.tsk.rt[t.num].doneCycle = some c → s.img.run = some i → i.stations = [e] →
      overlaps t.outputs e.outFirst e.outCount = true → s.links[e.link].stns[e.pos].st = .in_ → (t.trigger ≠ 7 ∨ holds s = true) →
      u = stationOutputs t c s.tsk.rt[t.num].doneTrig s.tsk.rt[t.num].doneUnchecked e { s with tsk := { s.tsk with repeatAt := s.tb.now + 250000000 } })))

/-- R240, R258 to R260, R263, R265, R272: the deciding module brings a station in by IDENT, its parameter block in segments, and START; each request is sent up to three times, a refusal is recorded as 0x3003
and tried again after 10 s; a station that does not identify itself is in SEARCH and is polled every 100 ms.

Forms whose completion it states: identRespReceive, paramAckReceive, startAckReceive, stationReplyTimeout, stationSearchPoll, stationRefusedRetry, lnkRestart, lnkRestartLink, lnkRetry. -/
def Obligations.StationsAreBroughtInStepByStep : Prop :=
  (∀ (s : State) (m : IdentResp), Completes (.identRespReceive m) s (fun u =>
    u.links[m.link].stns[m.pos].ident = ⟨m.vendor, m.device, m.serial⟩ ∧
    (stnEntry s m.link m.pos = none ∨ valeDecides s = false ∨ s.links[m.link].bring[m.pos].phase ≠ .ident → u.links[m.link].bring = s.links[m.link].bring) ∧
    (∀ e, stnEntry s m.link m.pos = some e → valeDecides s = true → s.links[m.link].bring[m.pos].phase = .ident →
      (∀ c, identCause m e (inputPeriod s e) = some c →
        u.links[m.link].stns[m.pos].st = .refused ∧ u.links[m.link].stns[m.pos].cause = c ∧ u.links[m.link].bring[m.pos].phase = .idle ∧
        u.links[m.link].bring[m.pos].retryAt = s.tb.now + 10000000000 ∧
        (s.evr.queue.length < 256 → ∃ v : Ev, u.evr.queue = s.evr.queue ++ [v] ∧ v.code = 0x3003 ∧
          v.data = recData [(1, m.link.val), (1, m.pos.val), (1, c.toNat), (1, 0), (4, m.vendor.toNat), (4, m.device.toNat)])) ∧
      (identCause m e (inputPeriod s e) = none →
        u.links[m.link].bring[m.pos].phase = .param ∧ u.links[m.link].bring[m.pos].offset = 0 ∧ u.links[m.link].bring[m.pos].tries = 1)))) ∧
  (∀ (s : State) (l : Fin 24) (p : Fin 32) ep o (r : Fin 4) w, (stnEntry s l p = none ∨ valeDecides s = false ∨ s.links[l].bring[p].phase ≠ .param) →
    Completes (.paramAckReceive l p ep o r w) s (fun u => u = seeEpoch l ep (heardReply l 8 s))) ∧
  (∀ (s : State) (l : Fin 24) (p : Fin 32) ep o (r : Fin 4) w e, stnEntry s l p = some e → valeDecides s = true → s.links[l].bring[p].phase = .param →
    (r = 0 → o ≠ s.links[l].bring[p].offset → Completes (.paramAckReceive l p ep o r w) s (fun u => u = seeEpoch l ep (heardReply l 8 s))) ∧
    (r = 0 → o = s.links[l].bring[p].offset → o + (segmentAt e o).length < e.param.length → Completes (.paramAckReceive l p ep o r w) s (fun u =>
      u.links[l].bring[p].phase = .param ∧ u.links[l].bring[p].offset = o + (segmentAt e o).length ∧ u.links[l].bring[p].tries = 1)) ∧
    (r = 0 → o = s.links[l].bring[p].offset → e.param.length ≤ o + (segmentAt e o).length → Completes (.paramAckReceive l p ep o r w) s (fun u =>
      u.links[l].bring[p].phase = .start ∧ u.links[l].bring[p].timer = s.tb.now + 10000000)) ∧
    (r = 1 → s.links[l].bring[p].crcTries < 2 → Completes (.paramAckReceive l p ep o r w) s (fun u =>
      u.links[l].bring[p].offset = 0 ∧ u.links[l].bring[p].crcTries = s.links[l].bring[p].crcTries + 1)) ∧
    (r = 1 → 2 ≤ s.links[l].bring[p].crcTries → Completes (.paramAckReceive l p ep o r w) s (fun u =>
      u.links[l].stns[p].st = .refused ∧ u.links[l].stns[p].cause = 6)) ∧
    (r = 2 → Completes (.paramAckReceive l p ep o r w) s (fun u => u.links[l].stns[p].st = .refused ∧ u.links[l].stns[p].cause = 5)) ∧
    (r = 3 → Completes (.paramAckReceive l p ep o r w) s (fun u =>
      (3 ≤ s.links[l].bring[p].tries → u.links[l].stns[p].st = .refused ∧ u.links[l].stns[p].cause = 12) ∧
      (s.links[l].bring[p].tries < 3 → u.links[l].bring[p].offset = o ∧ u.links[l].bring[p].tries = s.links[l].bring[p].tries + 1)))) ∧
  (∀ (s : State) (l : Fin 24) (p : Fin 32) ep (r : Fin 4), stnEntry s l p = none → Completes (.startAckReceive l p ep r) s (fun u => u = seeEpoch l ep (heardReply l 8 s))) ∧
  (∀ (s : State) (l : Fin 24) (p : Fin 32) ep e, stnEntry s l p = some e → Completes (.startAckReceive l p ep 0) s (fun u =>
    u.links[l].stns[p].started = true ∧ u.links[l].stns[p].missed = 0 ∧ u.links[l].stns[p].good = 0 ∧ u.links[l].stns[p].nextDue = nextDue s e ∧
    u.links[l].bring[p].phase = .idle ∧ u.links[l].stns[p].st = s.links[l].stns[p].st)) ∧
  (∀ (s : State) (l : Fin 24) (p : Fin 32) ep (r : Fin 4) e, stnEntry s l p = some e → r ≠ 0 → (valeDecides s = false ∨ s.links[l].bring[p].phase ≠ .start) →
    Completes (.startAckReceive l p ep r) s (fun u => u = seeEpoch l ep (heardReply l 8 s))) ∧
  (∀ (s : State) (l : Fin 24) (p : Fin 32) ep (r : Fin 4) e, stnEntry s l p = some e → r ≠ 0 → valeDecides s = true → s.links[l].bring[p].phase = .start →
    Completes (.startAckReceive l p ep r) s (fun u =>
      (r = 3 → s.links[l].bring[p].noBlock = false → u.links[l].bring[p].phase = .param ∧ u.links[l].bring[p].offset = 0) ∧
      ((r ≠ 3 ∨ s.links[l].bring[p].noBlock = true) → u.links[l].stns[p].st = .refused ∧ u.links[l].stns[p].started = false ∧
        u.links[l].stns[p].cause = (if r = 1 then 8 else if r = 2 then 4 else 11)))) ∧
  (∀ (s : State) (l : Fin 24) (p : Fin 32), (s.links[l].bring[p].phase = .idle ∨ valeDecides s = false ∨ s.tb.now < s.links[l].bring[p].timer) → Completes (.stationReplyTimeout l p) s (fun u => u = s)) ∧
  (∀ (s : State) (l : Fin 24) (p : Fin 32), s.links[l].bring[p].phase ≠ .idle → valeDecides s = true → s.links[l].bring[p].timer ≤ s.tb.now → Completes (.stationReplyTimeout l p) s (fun u =>
    (s.links[l].bring[p].tries < 3 → (s.links[l].bring[p].phase = .ident ∨ stnEntry s l p ≠ none) →
      u.links[l].bring[p].phase = s.links[l].bring[p].phase ∧ u.links[l].bring[p].tries = s.links[l].bring[p].tries + 1 ∧ s.tb.now < u.links[l].bring[p].timer) ∧
    (3 ≤ s.links[l].bring[p].tries → s.links[l].bring[p].phase = .ident → u.links[l].bring[p].phase = .idle ∧
      (s.links[l].stns[p].st ≠ .in_ → s.links[l].stns[p].st ≠ .out → u.links[l].stns[p].st = .search)) ∧
    (3 ≤ s.links[l].bring[p].tries → s.links[l].bring[p].phase ≠ .ident → u.links[l].stns[p].st = .refused ∧ u.links[l].stns[p].cause = 1))) ∧
  (∀ (s : State) (l : Fin 24), ((linkStations s l).filter (fun e => pollNeeded s e) = [] ∨ valeDecides s = false ∨ canSend s l = false ∨ s.tb.now < s.links[l].lastPoll + 100000000) →
    Completes (.stationSearchPoll l) s (fun u => u = s)) ∧
  (∀ (s : State) (l : Fin 24) e, (linkStations s l).filter (fun e => pollNeeded s e) = [e] → valeDecides s = true → canSend s l = true → s.links[l].lastPoll + 100000000 ≤ s.tb.now →
    Completes (.stationSearchPoll l) s (fun u => u.links[l].lastPoll = s.tb.now ∧ u.links[l].bring[e.pos].phase = .ident ∧ u.links[l].bring[e.pos].tries = 1 ∧
      ∃ f g, u.out = s.out ++ [Out.vale l f, .vale l g] ∧ f.typ = 0x01 ∧ f.pos = 0xFF ∧ f.payload = leBytes 4 (linkEntry s l).count ∧ g.typ = 0x02 ∧ g.pos = posByte e.pos)) ∧
  (∀ (s : State) (l : Fin 24) (p : Fin 32), (s.links[l].stns[p].st ≠ .refused ∨ valeDecides s = false ∨ s.tb.now < s.links[l].bring[p].retryAt ∨ s.links[l].bring[p].phase ≠ .idle) →
    Completes (.stationRefusedRetry l p) s (fun u => u = s)) ∧
  (∀ (s : State) (l : Fin 24) (p : Fin 32), s.links[l].stns[p].st = .refused → valeDecides s = true → s.links[l].bring[p].retryAt ≤ s.tb.now → s.links[l].bring[p].phase = .idle →
    Completes (.stationRefusedRetry l p) s (fun u => u.links[l].bring[p].phase = .ident ∧ u.links[l].bring[p].tries = 1)) ∧
  (∀ (s : State) se p, admitted (linkReg s) se s = true →
    let l : Fin 24 := Fin.ofNat 24 s.ses.tab[se].sel.lnkSel.toNat
    ((stnEntry s l p = none ∨ canSend s l = false) → Completes (.lnkRestart se p) s (fun u => u = setRes se .lnk 4 (asked se s))) ∧
    (stnEntry s l p ≠ none → canSend s l = true → (s.links[l].stns[p].asker ≠ none ∨ s.links[l].asker ≠ none) → Completes (.lnkRestart se p) s (fun u => u = setRes se .lnk 2 (asked se s))) ∧
    (stnEntry s l p ≠ none → canSend s l = true → s.links[l].stns[p].asker = none → s.links[l].asker = none → Completes (.lnkRestart se p) s (fun u =>
      u.ses.tab[se].res.lnk = 1 ∧ u.links[l].stns[p].asker = some (.here se) ∧ u.links[l].stns[p].started = false ∧ u.links[l].bring[p].phase = .ident ∧
      (s.links[l].stns[p].st = .in_ → u.links[l].stns[p].st = .out) ∧
      (∃ f, .vale l f ∈ u.out ∧ f.typ = 0x08 ∧ f.pos = posByte p))) ∧
    ((linkStations s l = [] ∨ canSend s l = false) → Completes (.lnkRestartLink se) s (fun u => u = setRes se .lnk 4 (asked se s))) ∧
    (linkStations s l ≠ [] → canSend s l = true → s.links[l].asker ≠ none → Completes (.lnkRestartLink se) s (fun u => u = setRes se .lnk 2 (asked se s))) ∧
    (linkStations s l ≠ [] → canSend s l = true → s.links[l].asker = none → Completes (.lnkRestartLink se) s (fun u =>
      u.ses.tab[se].res.lnk = 1 ∧ u.links[l].asker = some (.here se) ∧ (∃ f, .vale l f ∈ u.out ∧ f.typ = 0x08 ∧ f.pos = 0xFF))) ∧
    ((canSend s l = false ∨ (s.links[l].stns[p].st ≠ .refused ∧ s.links[l].stns[p].st ≠ .search)) → Completes (.lnkRetry se p) s (fun u => u = setRes se .lnk 4 (asked se s))) ∧
    (canSend s l = true → (s.links[l].stns[p].st = .refused ∨ s.links[l].stns[p].st = .search) →
      ((s.links[l].stns[p].asker ≠ none ∨ s.links[l].bring[p].phase ≠ .idle) → Completes (.lnkRetry se p) s (fun u => u = setRes se .lnk 2 (asked se s))) ∧
      (s.links[l].stns[p].asker = none → s.links[l].bring[p].phase = .idle → Completes (.lnkRetry se p) s (fun u =>
        u.ses.tab[se].res.lnk = 1 ∧ u.links[l].stns[p].asker = some (.here se) ∧ u.links[l].bring[p].phase = .ident))))

/-- R139, R244, R254, R255, R259, R268, R270, R272: ports going up and down are recorded as 0x3010; a frame of the partner closes an open ring, and 1 ms without one opens it, recorded as 0x3011; the ENUMERATE of the
partner tells the count of stations. Path delay is measured every 100 ms as half of (t4 − t1) less the turn-around; the module that decides sends TIME once a millisecond.

Forms whose completion it states: valeTimeSend, valePortUp, valePortDown, partnerFrameReceive, pdelayMeasurement, pdelayRespReceive, pdelayReqReceive, ringOpenTimeout. -/
def Obligations.LinksUpDownRingsAndTimeAreFollowed : Prop :=
  (∀ (s : State) (l : Fin 24),
    (s.links[l].up = true → Completes (.valePortUp l) s (fun u => u = s)) ∧
    (s.links[l].up = false → Completes (.valePortUp l) s (fun u =>
      u.links[l].up = true ∧ (s.evr.queue.length < 256 → ∃ v : Ev, u.evr.queue = s.evr.queue ++ [v] ∧ v.code = 0x3010 ∧ v.data = recData [(1, l.val), (1, 1)]) ∧
      ((linkEntry s l).enabled = false ∨ valeDecides s = false → u.out = s.out ∧ u.links[l].enumerated = false) ∧
      ((linkEntry s l).enabled = true → valeDecides s = true → s.lsk.stopped = false → s.mod.st ≠ .off → s.mod.st ≠ .failed → s.mod.st ≠ .stopped →
        u.links[l].enumerated = true ∧ (∃ f, .vale l f ∈ u.out ∧ f.typ = 0x01 ∧ f.pos = 0xFF)))) ∧
    (s.links[l].up = false → Completes (.valePortDown l) s (fun u => u = s)) ∧
    (s.links[l].up = true → Completes (.valePortDown l) s (fun u =>
      u.links = upd s.links l (fun k => { k with up := false, enumerated := false, partnerPath := false, delayReq := none }) ∧
      (s.evr.queue.length < 256 → ∃ v : Ev, u.evr.queue = s.evr.queue ++ [v] ∧ v.code = 0x3010 ∧ v.data = recData [(1, l.val), (1, 0)]) ∧
      u = { s with links := u.links, evr := u.evr })) ∧
    (s.tb.now < s.links[l].partnerAt + 1000000 → Completes (.ringOpenTimeout l) s (fun u => u = s)) ∧
    (s.links[l].partnerAt + 1000000 ≤ s.tb.now →
      ((linkEntry s l).ring = true → (linkEntry s l).enabled = true → partnerPresent s = true → s.links[l].ringOpen = false → Completes (.ringOpenTimeout l) s (fun u =>
        u.links[l].ringOpen = true ∧ u.links[l].partnerPath = false ∧ (s.evr.queue.length < 256 → ∃ v : Ev, u.evr.queue = s.evr.queue ++ [v] ∧ v.code = 0x3011 ∧ v.data = recData [(1, l.val), (1, 0)]))) ∧
      (((linkEntry s l).ring = false ∨ (linkEntry s l).enabled = false ∨ partnerPresent s = false ∨ s.links[l].ringOpen = true) → Completes (.ringOpenTimeout l) s (fun u =>
        u = { s with links := upd s.links l (fun x => { x with partnerPath := false }) })))) ∧
  (∀ (s : State) (m : PartnerFrame), Completes (.partnerFrameReceive m) s (fun u =>
    u.links[m.link].partnerPath = true ∧ u.links[m.link].partnerAt = s.tb.now ∧ u.links[m.link].ringOpen = false ∧ u.links[m.link].acc.rx = satSucc max32 s.links[m.link].acc.rx ∧
    u = { s with links := u.links, evr := u.evr } ∧
    (s.links[m.link].ringOpen = false → (m.type ≠ 0x01 ∨ m.hops.toNat = (linkEntry s m.link).count) → u.evr = s.evr) ∧
    (s.evr.queue.length < 255 → s.links[m.link].ringOpen = true → ∃ v, v ∈ u.evr.queue ∧ v.code = 0x3011 ∧ v.data = recData [(1, m.link.val), (1, 1)]) ∧
    (s.evr.queue.length < 255 → m.type = 0x01 → m.hops.toNat ≠ (linkEntry s m.link).count →
      ∃ v : Ev, u.evr.queue.getLast? = some v ∧ v.code = 0x3012 ∧ v.data = recData [(1, m.link.val), (1, (linkEntry s m.link).count), (1, m.hops.toNat)]))) ∧
  (∀ (s : State) (l : Fin 24), (canSend s l = false ∨ s.tb.now < s.links[l].pdelayAt) → Completes (.pdelayMeasurement l) s (fun u => u = s)) ∧
  (∀ (s : State) (l : Fin 24), canSend s l = true → s.links[l].pdelayAt ≤ s.tb.now → Completes (.pdelayMeasurement l) s (fun u =>
    u.links[l].delayReq = some s.tb.now ∧ u.links[l].pdelayAt = s.tb.now + 100000000 ∧ ∃ f, u.out = s.out ++ [Out.vale l f] ∧ f.typ = 0x21)) ∧
  (∀ (s : State) (l : Fin 24) ep (t4 turn : Nat), (s.links[l].delayReq = none → Completes (.pdelayRespReceive l ep t4 turn) s (fun u => u = seeEpoch l ep (heardReply l 8 s))) ∧
    (∀ t1, s.links[l].delayReq = some t1 → Completes (.pdelayRespReceive l ep t4 turn) s (fun u =>
      u.links[l].delay = Int.tdiv (((t4 : Int) - (t1 : Int)) * 65536 - (turn : Int)) 2 ∧ u.links[l].delayReq = none ∧ u = { s with links := u.links, lease := u.lease }))) ∧
  (∀ (s : State) (l : Fin 24) ep (t2 : Nat), canSend s l = true → Completes (.pdelayReqReceive l ep t2) s (fun u =>
    ∃ f, u.out = s.out ++ [Out.vale l f] ∧ f.typ = 0x22 ∧ f.payload = leBytes 8 ((s.tb.now - t2) * 65536))) ∧
  (∀ (s : State) (l : Fin 24) ep (t2 : Nat), canSend s l = false → Completes (.pdelayReqReceive l ep t2) s (fun u => u = seeEpoch l ep (heardReply l 8 s))) ∧
  (∀ s : State, (valeDecides s = false ∨ s.tb.now < s.tb.valeTimeAt) → Completes .valeTimeSend s (fun u => u = s)) ∧
  (∀ s : State, valeDecides s = true → s.tb.valeTimeAt ≤ s.tb.now → Completes .valeTimeSend s (fun u =>
    u.tb = { s.tb with valeTimeAt := s.tb.now + 1000000 } ∧ u.mem = s.mem ∧
    (∀ l : Fin 24, canSend s l = true → ∃ f, .vale l f ∈ u.out ∧ f.typ = 0x20 ∧ f.time = s.tb.now ∧ f.epoch = frameEpoch s)))

/-! ### Islands and channels (10, 11) -/

/-- R140, R277 to R283, R285 to R287: each period every island that is on gets a frame with the next number; five periods without a valid return take an island out of service. An island accepts numbers 1 to 16
ahead, takes the frame's NEW values unless SAFE is latched, and answers; a valid return brings its readings, and faults, restarts and ten valid returns move it out of service and back.
Its logic-silence time without a frame, or a barrier voltage below 3.60 V, makes its outputs safe.

Forms whose completion it states: fordPeriod, fordReturnFrame, islandFrameAccept, logicSilenceTimeout, islandVbMeasurement, islandRestartPowerOn. -/
def Obligations.FordFramesCarryCommandsAndReadings : Prop :=
  (∀ s : State, (s.tb.now < s.io.fordAt ∨ s.mod.st = .off ∨ s.mod.st = .stopped ∨ s.mod.st = .failed) → Completes .fordPeriod s (fun u => u = s)) ∧
  (∀ s : State, s.io.fordAt ≤ s.tb.now → s.mod.st ≠ .off → s.mod.st ≠ .stopped → s.mod.st ≠ .failed → s.mod.st ≠ .calibrate → Completes .fordPeriod s (fun u =>
    u.io.fordAt = s.tb.now / 10000 * 10000 + 10000 ∧
    (∀ n : Fin 24, (s.io.isl[n].st = .off ∨ s.io.isl[n].restartAt ≠ none) → u.io.isl[n] = s.io.isl[n] ∧ u.io.own[n].down = s.io.own[n].down) ∧
    (∀ n : Fin 24, s.io.isl[n].st ≠ .off → s.io.isl[n].restartAt = none →
      (s.io.isl[n].answered = true → u.io.own[n].down = some (downFrame s n) ∧ .fordDown n (downFrame s n) ∈ u.out ∧ u.io.isl[n].st = s.io.isl[n].st ∧
        u.io.isl[n].seq = s.io.isl[n].seq + 1 ∧ u.io.isl[n].answered = false ∧ u.io.isl[n].sentAt = s.tb.now) ∧
      (s.io.isl[n].answered = false → s.io.isl[n].missed < 4 → u.io.isl[n].missed = s.io.isl[n].missed + 1 ∧ u.io.isl[n].st = s.io.isl[n].st) ∧
      (s.io.isl[n].answered = false → 4 ≤ s.io.isl[n].missed → (s.io.isl[n].st = .in_ ∨ s.io.isl[n].st = .returning) →
        u.io.isl[n].st = .oos ∧ u.io.isl[n].cause = 1)))) ∧
  (∀ (s : State) n, (downFrame s n).seq = s.io.isl[n].seq + 1 ∧ (downFrame s n).beacon = s.tb.now ∧ (downFrame s n).latency = s.io.isl[n].lat ∧ (downFrame s n).rate = s.tb.tempCor + discipline s.tb ∧
    ((inRun s = false ∨ s.io.isl[n].st = .oos ∨ s.io.isl[n].st = .returning) → (downFrame s n).safe = true) ∧
    (inRun s = true → s.io.isl[n].st = .in_ → (downFrame s n).safe = false ∧ (downFrame s n).resume = s.io.isl[n].resumeDue)) ∧
  (∀ (s : State) n crc fault arrival, s.io.own[n].down = none → Completes (.islandFrameAccept n crc fault arrival) s (fun u => u = s)) ∧
  (∀ (s : State) n (crc fault : Bool) arrival f, s.io.own[n].down = some f →
    ((s.io.isl[n].st = .off ∨ s.io.isl[n].restartAt ≠ none ∨ s.io.own[n].inReset = true) → Completes (.islandFrameAccept n crc fault arrival) s (fun u =>
      u = { s with io := { s.io with own := upd s.io.own n (fun k => { k with down := none }) } })) ∧
    (s.io.isl[n].st ≠ .off → s.io.isl[n].restartAt = none → s.io.own[n].inReset = false →
      (∀ q, s.io.own[n].lastSeq = some q → s.tb.now < s.io.own[n].lastAccept + silenceTime s n → (crc = false ∨ (f.seq - q).toNat = 0 ∨ 16 < (f.seq - q).toNat) →
        Completes (.islandFrameAccept n crc fault arrival) s (fun u =>
          u = { s with io := { s.io with own := upd s.io.own n (fun k => { k with down := none, seqGaps := k.seqGaps + 1 }) } })) ∧
      (crc = true → (s.io.own[n].lastSeq = none ∨ (s.tb.now < s.io.own[n].lastAccept + silenceTime s n ∧ ∃ q, s.io.own[n].lastSeq = some q ∧ 1 ≤ (f.seq - q).toNat ∧ (f.seq - q).toNat ≤ 16)) →
        f.islCmd = none → f.chanCmd = none → f.config = false → Completes (.islandFrameAccept n crc fault arrival) s (fun u =>
          u.io.own[n].down = none ∧ u.io.own[n].lastSeq = some f.seq ∧ u.io.own[n].lastAccept = s.tb.now ∧ u.io.own[n].leaseEnd = f.leaseEnd ∧
          (∃ r, u.io.own[n].up = some r ∧ r.seq = f.seq ∧ r.turn = s.tb.now - arrival ∧ r.safe = u.io.own[n].safeLatched ∧ r.fault = fault) ∧
          u.io.own[n].clockRate = f.rate ∧ u.io.own[n].beaconAt = some s.tb.now ∧
          ((s.io.own[n].beaconAt = none ∨ ∃ b, s.io.own[n].beaconAt = some b ∧ b + 1000000 < s.tb.now) →
            u.io.own[n].clock = f.beacon + f.latency + (s.tb.now - arrival) ∧ u.io.own[n].stepAt = some s.tb.now) ∧
          (∀ b, s.io.own[n].beaconAt = some b → s.tb.now ≤ b + 1000000 → u.io.own[n].clock = s.io.own[n].clock ∧ u.io.own[n].slewTicks = 2500) ∧
          (f.safe = true → u.io.own[n].safeLatched = true ∧ (∀ k : Fin 8, u.io.chan[chanOf n k].safe = true)) ∧
          (f.safe = false → f.resume = true → u.io.own[n].safeLatched = false) ∧
          (f.safe = false → f.resume = false → u.io.own[n].safeLatched = s.io.own[n].safeLatched) ∧
          (f.safe = false → (f.resume = true ∨ s.io.own[n].safeLatched = false) → ∀ k v q, f.values.filter (fun x => x.2.2.2) = [(k, v, q, true)] →
            u.io.chan[chanOf n k].command = v ∧ u.io.chan[chanOf n k].commandQ = q ∧ u.io.chan[chanOf n k].commanded = true ∧ u.io.chan[chanOf n k].safe = false))))) ∧
  (∀ (s : State) n crc, s.io.own[n].up = none → Completes (.fordReturnFrame n crc) s (fun u => u = s)) ∧
  (∀ (s : State) n (crc : Bool) r, s.io.own[n].up = some r →
    ((s.io.isl[n].st = .off ∨ (crc = true ∧ r.seq ≠ s.io.isl[n].seq)) → Completes (.fordReturnFrame n crc) s (fun u =>
      u = { s with io := { s.io with own := upd s.io.own n (fun k => { k with up := none }) } })) ∧
    (s.io.isl[n].st ≠ .off → crc = false → Completes (.fordReturnFrame n crc) s (fun u =>
      u.io.own[n].up = none ∧ u.io.isl = s.io.isl ∧ u.io.chan = s.io.chan)) ∧
    (s.io.isl[n].st ≠ .off → crc = true → r.seq = s.io.isl[n].seq → s.io.own[n].reports = [] → s.io.own[n].results = [] → r.events = [] →
      s.mod.st ≠ .calibrate → Completes (.fordReturnFrame n crc) s (fun u =>
        u.io.own[n].up = none ∧ u.io.isl[n].answered = true ∧ u.io.isl[n].vb = r.vb ∧ u.io.isl[n].temp = r.temp ∧ u.io.isl[n].lastReturn = s.tb.now ∧
        (∀ k x, r.chans[(k : Fin 8).val]? = some x → u.io.chan[chanOf n k].value = x.value ∧ u.io.chan[chanOf n k].status = x.status ∧
          u.io.chan[chanOf n k].stamp = x.stamp ∧ u.io.chan[chanOf n k].arrived = s.tb.now) ∧
        (s.io.isl[n].st = .in_ → r.fault = false → r.restarted = false → u.io.isl[n].st = .in_) ∧
        (s.io.isl[n].st = .in_ → r.fault = true → u.io.isl[n].st = .oos ∧ u.io.isl[n].cause = 2) ∧
        (s.io.isl[n].st = .in_ → r.fault = false → r.restarted = true → u.io.isl[n].st = .oos ∧ u.io.isl[n].cause = 3 ∧ u.io.isl[n].configDue = true) ∧
        (s.io.isl[n].st = .oos → r.fault = false → r.restarted = false → u.io.isl[n].st = .returning ∧ u.io.isl[n].valid = 0) ∧
        (s.io.isl[n].st = .returning → r.fault = false → r.restarted = false →
          (9 ≤ s.io.isl[n].valid → u.io.isl[n].st = .in_ ∧ u.io.isl[n].resumeDue = true ∧ (s.evr.queue.length < 256 → ∃ v : Ev, u.evr.queue = s.evr.queue ++ [v] ∧ v.code = 0x4002)) ∧
          (s.io.isl[n].valid < 9 → u.io.isl[n].st = .returning ∧ u.io.isl[n].valid = s.io.isl[n].valid + 1)) ∧
        (s.io.isl[n].st = .boot → r.fault = false → r.restarted = false → u.io.isl[n].st = (if s.io.isl[n].restartedOut then .returning else .in_))))) ∧
  (∀ (s : State) n, (s.io.own[n].silent = true ∨ s.io.own[n].lastSeq = none ∨ s.tb.now < s.io.own[n].lastAccept + silenceTime s n) → Completes (.logicSilenceTimeout n) s (fun u => u = s)) ∧
  (∀ (s : State) n, s.io.own[n].silent = false → s.io.own[n].lastSeq ≠ none → s.io.own[n].lastAccept + silenceTime s n ≤ s.tb.now → Completes (.logicSilenceTimeout n) s (fun u =>
    u.io.own[n].silent = true ∧ u.io.own[n].silentSeen = true ∧ u.io.own[n].lastSeq = none ∧ (∀ k : Fin 8, u.io.chan[chanOf n k].safe = true) ∧
    u.io.own[n].reports.getLast? = some ⟨0x4003, true, [(1, n.val), (4, (islEntry s n).silenceUs)]⟩)) ∧
  (∀ (s : State) n mV temp, ((s.io.isl[n].st = .off ∨ s.io.isl[n].restartAt ≠ none) → Completes (.islandVbMeasurement n mV temp) s (fun u => u = s)) ∧
    (s.io.isl[n].st ≠ .off → s.io.isl[n].restartAt = none → Completes (.islandVbMeasurement n mV temp) s (fun u =>
      u.io.own[n].vb = mV ∧ u.io.own[n].temp = temp ∧ u = { s with io := u.io } ∧
      (mV < 3600 → u.io.own[n].restarted = true ∧ u.io.own[n].inReset = true ∧ u.io.own[n].configured = false ∧ u.io.own[n].lastSeq = none) ∧
      (3600 ≤ mV → mV < 3650 → s.io.own[n].inReset = true → u.io.own[n].inReset = true ∧ u.io.own[n].band = s.io.own[n].band) ∧ (3650 ≤ mV → u.io.own[n].inReset = false) ∧
      (4550 ≤ mV → u.io.own[n].band = 0) ∧ (4250 ≤ mV → mV < 4500 → u.io.own[n].band = 1) ∧ (3950 ≤ mV → mV < 4200 → u.io.own[n].band = 2) ∧
      (3600 ≤ mV → mV < 3900 → (s.io.own[n].inReset = false ∨ 3650 ≤ mV) → u.io.own[n].band = 3) ∧
      (3600 ≤ mV → u.io.own[n].band ≠ s.io.own[n].band → u.io.own[n].reports =
        s.io.own[n].reports ++ [(⟨0x4004, decide (s.io.own[n].band < u.io.own[n].band), [(1, n.val), (1, u.io.own[n].band.val), (2, mV)]⟩ : IslReport)])))) ∧
  (∀ (s : State) n, (s.io.isl[n].restartAt = none → Completes (.islandRestartPowerOn n) s (fun u => u = s)) ∧
    (∀ t0, s.io.isl[n].restartAt = some t0 → (s.tb.now < t0 → Completes (.islandRestartPowerOn n) s (fun u => u = s)) ∧
      (t0 ≤ s.tb.now → Completes (.islandRestartPowerOn n) s (fun u =>
        u.io.isl[n].st = .boot ∧ u.io.isl[n].restartAt = none ∧ u.io.isl[n].configDue = true ∧ u.io.isl[n].restartedOut = true ∧ u.io.own[n].restarted = true))))

/-- R282, R287, R289, R290, R314, R316, R317: a channel or island command is rejected for a command that has not ended (2), its mode (4) or its island (5); else it waits 100 µs and is sent to the partner, and its
session reads 1 once that has confirmed it. At its instant it goes into the next frame; ISL_RESTART turns the island's converter off for 20 ms. A routine of a standby gets the
holder's urgent result, or 50 µs later its own.

Forms whose completion it states: calIsland, urgent, owtest, calload, cntpreset, cntreset, supplyRelease, islRestart, channelCommandForwardReceive, channelCommandActivation, urgentResultReceive, urgentResultTimeout. -/
def Obligations.ChannelCommandsAreCheckedForwardedAndPlaced : Prop :=
  (∀ (s : State) se, admitted regCh se s = true →
    let isl : Fin 24 := Fin.ofNat 24 s.ses.tab[se].sel.islSel.toNat
    let ch : Fin 192 := Fin.ofNat 192 s.ses.tab[se].sel.chSel.toNat
    let arg := s.ses.tab[se].sel.chArg
    ∀ c cmd, ((c = .calIsland se ∧ cmd = .calIsland isl) ∨ (c = .urgent se ∧ cmd = .urgent ch) ∨ (c = .owtest se ∧ cmd = .owtest ch (arg.getLsbD 0)) ∨
        (c = .calload se ∧ cmd = .calload ch (arg.extractLsb' 0 32) (arg.extractLsb' 32 32)) ∨ (c = .cntpreset se ∧ cmd = .cntpreset ch (arg.extractLsb' 0 32)) ∨
        (c = .cntreset se ∧ cmd = .cntreset ch) ∨ (c = .supplyRelease se ∧ cmd = .supplyRelease isl) ∨ (c = .islRestart se ∧ cmd = .islRestart isl)) →
      (cmdBusy s cmd = true → Completes c s (fun u => u.ses.tab[se].res.ch = 2 ∧ u.io.waiting = s.io.waiting ∧
        (c = .urgent se → u.io.ai[ch].drop = satSucc 0xFFFF s.io.ai[ch].drop))) ∧
      (cmdBusy s cmd = false → (∃ x, cmdChan cmd = some x ∧ modeAccepts (chanEntry s x) cmd = false) → Completes c s (fun u => u = setRes se .ch 4 (asked se s))) ∧
      (cmdBusy s cmd = false → (∀ x, cmdChan cmd = some x → modeAccepts (chanEntry s x) cmd = true) →
        ((if cmdCode cmd = 8 then s.io.isl[cmdIsland cmd].st = .off else s.io.isl[cmdIsland cmd].st ≠ .in_) → Completes c s (fun u => u = setRes se .ch 5 (asked se s))) ∧
        ((if cmdCode cmd = 8 then s.io.isl[cmdIsland cmd].st ≠ .off else s.io.isl[cmdIsland cmd].st = .in_) → Completes c s (fun u =>
          u.io = { s.io with waiting := s.io.waiting ++ [⟨.session (.here se), cmd, s.tb.now + 100000⟩] } ∧
          (partnerInRun s = false → u.ses.tab[se].res.ch = 1 ∧ u.out = s.out) ∧
          (partnerInRun s = true → saddleOpen s = true → s.lease.resync = none →
            u.out = s.out ++ [Out.saddle [0, 1] (s.pair.seqOut + 1) s.lsk.unchecked (.chanCmd s.pair.nextId cmd (s.tb.now + 100000))] ∧ u.ses.tab[se].res = s.ses.tab[se].res ∧
            (∃ w, u.pair.waits = s.pair.waits ++ [w] ∧ w.id = s.pair.nextId ∧ w.acts = [.result (.here se) .ch 1])))))) ∧
  (∀ s : State, s.io.waiting.filter (fun w => decide (w.at_ ≤ s.tb.now)) = [] → Completes .channelCommandActivation s (fun u => u = s)) ∧
  (∀ (s : State) w, s.io.waiting = [w] → w.at_ ≤ s.tb.now → Completes .channelCommandActivation s (fun u =>
    u.io.waiting = [] ∧
    (∀ x, cmdChan w.cmd = some x → s.io.isl[cmdIsland w.cmd].st = .in_ → s.io.chan[x].cmd = none → u.io.chan[x].cmd = some (w.asker, w.cmd, false, some w.at_)) ∧
    (cmdChan w.cmd = none → cmdCode w.cmd ≠ 8 → s.io.isl[cmdIsland w.cmd].st = .in_ → s.io.isl[cmdIsland w.cmd].cmd = none →
      u.io.isl[cmdIsland w.cmd].cmd = some (w.asker, w.cmd, false)) ∧
    (∀ se, cmdCode w.cmd ≠ 8 → s.io.isl[cmdIsland w.cmd].st ≠ .in_ → w.asker = .session (.here se) → u.ses.tab[se].res.ch = 7) ∧
    (∀ n, w.cmd = .islRestart n → s.io.isl[n].st ≠ .off → u.io.isl[n].st = .oos ∧ u.io.isl[n].cause = 4 ∧ u.io.isl[n].restartAt = some (s.tb.now + 20000000) ∧
      u.io.isl[n].cmd = some (w.asker, .islRestart n, true) ∧ u.io.own[n].configured = false))) ∧
  (∀ (s : State) v id cmd at_, firstCopy v s = true →
    (holds s = true → Completes (.channelCommandForwardReceive v id cmd at_) s (fun u => u = noted v s)) ∧
    (holds s = false → s.tb.now ≤ at_ → Completes (.channelCommandForwardReceive v id cmd at_) s (fun u =>
      u.io = { s.io with waiting := s.io.waiting ++ [⟨.own, cmd, at_⟩] } ∧
      (saddleOpen s = true → u.out = s.out ++ [Out.saddle [0, 1] (s.pair.seqOut + 1) s.lsk.unchecked (.confirm id)]))) ∧
    (holds s = false → at_ < s.tb.now → s.evr.queue.length < 256 → cmdCode cmd ≠ 8 → Completes (.channelCommandForwardReceive v id cmd at_) s (fun u =>
      (∃ x : Ev, u.evr.queue = s.evr.queue ++ [x] ∧ x.code = 0x4005 ∧ x.data = recData [(1, (cmdIsland cmd).val), (1, cmdCode cmd), (4, min max32 ((s.tb.now - at_) / 1000))]) ∧
      (∀ x, cmdChan cmd = some x → s.io.isl[cmdIsland cmd].st = .in_ → s.io.chan[x].cmd = none → u.io.chan[x].cmd = some (.own, cmd, false, some at_))))) ∧
  (∀ (s : State) v c x stamp, firstCopy v s = true →
    (s.io.ai[c].urgCore = none → Completes (.urgentResultReceive v c x stamp) s (fun u => u = noted v s)) ∧
    (∀ k, s.io.ai[c].urgCore = some k → Completes (.urgentResultReceive v c x stamp) s (fun u =>
      u = serviceReturn k [x.setWidth 128] (onAi c (fun a => { a with urgCore := none, urgOwn := none }) (noted v s))))) ∧
  (∀ (s : State) c, ((s.io.ai[c].urgCore = none ∨ s.io.ai[c].urgOwn = none) → Completes (.urgentResultTimeout c) s (fun u => u = s)) ∧
    (∀ k t0, s.io.ai[c].urgCore = some k → s.io.ai[c].urgOwn = some t0 →
      (s.tb.now < t0 + 50000 → Completes (.urgentResultTimeout c) s (fun u => u = s)) ∧
      (t0 + 50000 ≤ s.tb.now → Completes (.urgentResultTimeout c) s (fun u =>
        u = serviceReturn k [s.io.ai[c].urgVal.setWidth 128]
          (onAi c (fun a => { a with urgCore := none, urgOwn := none, drop := satSucc 0xFFFF a.drop }) s)))))

/-- R294, R296, R297, R302, R303, R305 to R310, R312 to R315, R318 to R321: conversions, urgent conversions, open-wire tests and calibrations of an analogue input end with its result, its verdict or its factors, at
their time and not before; a result lies within its range's clip bounds, with the status of its channel, stamped one group delay back. The cold junction is in fault from the first
reading outside its limits to 1 s of readings within them.

Forms whose completion it states: calibrationComplete, aiConversionComplete, urgentComplete, openwireTestStart, openwireTestComplete, cjMeasurement, cjFaultEnd. -/
def Obligations.AnalogueInputsConvertTestAndCalibrate : Prop :=
  (∀ (s : State) c code m, (converts s c = false ∨ s.io.ai[c].urgRun = true ∨ s.io.ai[c].owRun = true ∨ s.tb.now < s.io.ai[c].ready) →
    Completes (.aiConversionComplete c code m) s (fun u => u = s)) ∧
  (∀ (s : State) c code m, converts s c = true →
    let e := chanEntry s c
    let v := clampMilli (aiValue s c m) (rangeOf e).clipLo (rangeOf e).clipHi
    (s.io.ai[c].urgRun = false → s.io.ai[c].owRun = false → s.io.ai[c].ready ≤ s.tb.now → Completes (.aiConversionComplete c code m) s (fun u =>
      u.io.chan[c].islValue = v ∧ u.io.chan[c].islStatus = aiStatus s c v ∧ u.io.chan[c].islStamp = islandTime s (islandOf c) - groupDelay s.io.ai[c].rate ∧
      u.io.ai[c].raw = Config.calCode code s.io.ai[c].calOfs s.io.ai[c].calGain ∧
      u.io.ai[c].ready = (if deliveredRate s c e.rate = (s.io.ai[c].rate, s.io.ai[c].cap) then s.tb.now + resultPeriod e s.io.ai[c].rate
        else s.tb.now + settleTime (deliveredRate s c e.rate).1) ∧
      (∀ j : Nat, j < 4 → limitOn e j = true → aiStatus s c v &&& badBits = 0 → u.io.ai[c].limits.getLsbD j = limitAfter e j v (s.io.ai[c].limits.getLsbD j)) ∧
      (∀ j : Nat, j < 4 → (limitOn e j = false ∨ aiStatus s c v &&& badBits ≠ 0) → u.io.ai[c].limits.getLsbD j = s.io.ai[c].limits.getLsbD j) ∧
      u = { s with io := u.io })) ∧
    (s.io.ai[c].urgRun = true → s.io.ai[c].urgSince + settleTime s.io.ai[c].rate ≤ s.tb.now → Completes (.urgentComplete c code m) s (fun u =>
      u.io.ai[c].urgRun = false ∧ u.io.ai[c].urgVal = v ∧ u.io.ai[c].urgTs = islandTime s (islandOf c) - groupDelay s.io.ai[c].rate ∧ u.io.ai[c].done = satSucc 0xFFFF s.io.ai[c].done ∧
      u.io.chan[c].islValue = v ∧ u.io.own[islandOf c].results = s.io.own[islandOf c].results ++ [(some c, 6, 0)] ∧ u = { s with io := u.io }))) ∧
  (∀ (s : State) c code m, (converts s c = false ∨ s.io.ai[c].urgRun = false ∨ s.tb.now < s.io.ai[c].urgSince + settleTime s.io.ai[c].rate) →
    Completes (.urgentComplete c code m) s (fun u => u = s)) ∧
  (∀ (s : State) c, (converts s c = false ∨ ((chanEntry s c).owDiag = false ∧ s.io.ai[c].open_ = false) ∨ (chanEntry s c).mode = 2 ∨ s.io.ai[c].urgRun = true ∨ s.io.ai[c].owRun = true ∨ s.tb.now < s.io.ai[c].owNext) →
    Completes (.openwireTestStart c) s (fun u => u = s)) ∧
  (∀ (s : State) c, converts s c = true → ((chanEntry s c).owDiag = true ∨ s.io.ai[c].open_ = true) → (chanEntry s c).mode ≠ 2 → s.io.ai[c].urgRun = false → s.io.ai[c].owRun = false → s.io.ai[c].owNext ≤ s.tb.now →
    Completes (.openwireTestStart c) s (fun u => u = { s with io := { s.io with ai := upd s.io.ai c (fun a => { a with
      owRun := true, owSince := if tvMode (chanEntry s c) then converterFree s c else s.tb.now, owTv := tvMode (chanEntry s c), owCmd := false, owNext := nextTest s c }) } } ∧ s.tb.now < u.io.ai[c].owNext)) ∧
  (∀ (s : State) c obs, (converts s c = false ∨ s.io.ai[c].owRun = false ∨ owFits s c obs = false) → Completes (.openwireTestComplete c obs) s (fun u => u = s)) ∧
  (∀ (s : State) c obs, converts s c = true → s.io.ai[c].owRun = true → owFits s c obs = true → Completes (.openwireTestComplete c obs) s (fun u =>
    ((owVerdict s c obs).1 = 0 → u.io.ai[c].owRun = true ∧ u.io.ai[c].owTv = true ∧ u.io.ai[c].owSince = converterFree s c ∧ u.io.own = s.io.own) ∧
    ((owVerdict s c obs).1 = 1 → u.io.ai[c].owRun = false ∧ u.io.ai[c].open_ = false ∧ u.io.ai[c].verdict = 1) ∧
    ((owVerdict s c obs).1 = 2 → u.io.ai[c].owRun = false ∧ u.io.ai[c].open_ = true ∧ u.io.ai[c].verdict = 2 ∧ u.io.ai[c].owNext = s.tb.now + 1000000000) ∧
    ((owVerdict s c obs).1 = 3 → u.io.ai[c].owRun = false ∧ u.io.ai[c].open_ = s.io.ai[c].open_ ∧ u.io.ai[c].verdict = 3 ∧ u.io.ai[c].undec = satSucc 0xFFFF s.io.ai[c].undec) ∧
    ((owVerdict s c obs).1 ≠ 0 → u.io.ai[c].ready = s.tb.now + settleTime u.io.ai[c].rate ∧
      (s.io.ai[c].owCmd = true → u.io.own[islandOf c].results = s.io.own[islandOf c].results ++ [(some c, 6, (owVerdict s c obs).1.val - 1)])) ∧
    (u.io.ai[c].open_ ≠ s.io.ai[c].open_ → ∃ r : IslReport, u.io.own[islandOf c].reports = s.io.own[islandOf c].reports ++ [r] ∧ r.code = 0x4103 ∧ r.det = u.io.ai[c].open_))) ∧
  (∀ (s : State) c x, ((owVerdict s c (.testVoltage x)).1 = (if 1000000 ≤ x then 2 else if x ≤ 200000 then 1 else 3)) ∧
    ((chanEntry s c).mode = 1 → ∀ k w, (owVerdict s c (.current k w)).1 =
      (if realBelow w 110 1000 = false then 2 else if |ratOf w - ratOf s.io.ai[c].lastV| ≤ pullDrop (chanEntry s c) then 1 else 0)) ∧
    ((chanEntry s c).mode = 3 → (owVerdict s c .excitation).1 = (if s.io.ai[c].scanClip = some true then 2 else 1))) ∧
  (∀ (s : State) n fs, (s.io.own[n].calSince = none → Completes (.calibrationComplete n fs) s (fun u => u = s)) ∧
    (∀ t0, s.io.own[n].calSince = some t0 → (s.tb.now < t0 + 2300000000 → Completes (.calibrationComplete n fs) s (fun u => u = s)) ∧
      (t0 + 2300000000 ≤ s.tb.now → Completes (.calibrationComplete n fs) s (fun u =>
        u.io.own[n].calSince = none ∧ u = { s with io := u.io } ∧
        (∃ r : IslReport, u.io.own[n].reports.getLast? = some r ∧ r.code = 0x4101) ∧ (∃ res det, u.io.own[n].results = s.io.own[n].results ++ [(none, res, det)]) ∧
        (∀ k : Fin 8, (∀ j : Fin 8, (chanEntry s (chanOf n j)).interleave = false) → isAi (chanEntry s (chanOf n k)) = false → u.io.ai[chanOf n k] = s.io.ai[chanOf n k]) ∧
        (∀ (k : Fin 8) o g, (∀ j : Fin 8, (chanEntry s (chanOf n j)).interleave = false) → isAi (chanEntry s (chanOf n k)) = true → fs.find? (fun y => y.1 == k) = some (k, o, g) →
          (gainOk g = true → offsetOk (chanEntry s (chanOf n k)) o = true → u.io.ai[chanOf n k].calOfs = o ∧ u.io.ai[chanOf n k].calGain = g ∧
            u.io.ai[chanOf n k].uncal = false ∧ u.io.ai[chanOf n k].calSource = 1) ∧
          ((gainOk g = false ∨ offsetOk (chanEntry s (chanOf n k)) o = false) → u.io.ai[chanOf n k].calOfs = s.io.ai[chanOf n k].calOfs ∧
            u.io.ai[chanOf n k].calGain = s.io.ai[chanOf n k].calGain ∧ u.io.ai[chanOf n k].calFailed = true ∧ u.io.ai[chanOf n k].uncal = true)) ∧
        (∀ (k : Fin 8) o g o2 g2, (∀ j : Fin 8, j ≠ k → isAi (chanEntry s (chanOf n j)) = false) → isAi (chanEntry s (chanOf n k)) = true → k.val % 2 = 0 →
          (chanEntry s (chanOf n k)).interleave = true → fs.find? (fun y => y.1 == k) = some (k, o, g) → fs.find? (fun y => y.1 == k + 1) = some (k + 1, o2, g2) →
          factorsOk (chanEntry s (chanOf n k)) (o, g) = true → factorsOk (chanEntry s (chanOf n k)) (o2, g2) = true →
          u.io.ai[chanOf n k].calOfs = o ∧ u.io.ai[chanOf n k].calGain = g ∧ u.io.ai[secondPath (chanOf n k)].calOfs = o2 ∧ u.io.ai[secondPath (chanOf n k)].calGain = g2))))) ∧
  (∀ (s : State) n temp, ((s.io.isl[n].st = .off ∨ s.io.isl[n].restartAt ≠ none) → Completes (.cjMeasurement n temp) s (fun u => u = s)) ∧
    (s.io.isl[n].st ≠ .off → s.io.isl[n].restartAt = none →
      (-5000 ≤ temp.toInt → temp.toInt ≤ 13500 → Completes (.cjMeasurement n temp) s (fun u =>
        u = { s with io := { s.io with sup := upd s.io.sup n (fun x => { x with cjTemp := temp, cjGood := some (x.cjGood.getD s.tb.now) }) } })) ∧
      ((temp.toInt < -5000 ∨ 13500 < temp.toInt) → Completes (.cjMeasurement n temp) s (fun u =>
        u.io.sup[n].cjTemp = temp ∧ u.io.sup[n].cjFault = true ∧ u.io.sup[n].cjGood = none ∧
        u.io.own[n].reports = (if s.io.sup[n].cjFault then s.io.own[n].reports else s.io.own[n].reports ++ [(⟨0x4104, true, [(1, n.val), (1, 1), (2, temp.toNat)]⟩ : IslReport)]))))) ∧
  (∀ (s : State) n, ((s.io.sup[n].cjFault = false ∨ s.io.sup[n].cjGood = none) → Completes (.cjFaultEnd n) s (fun u => u = s)) ∧
    (∀ t0, s.io.sup[n].cjFault = true → s.io.sup[n].cjGood = some t0 → (s.tb.now < t0 + 1000000000 → Completes (.cjFaultEnd n) s (fun u => u = s)) ∧
      (t0 + 1000000000 ≤ s.tb.now → Completes (.cjFaultEnd n) s (fun u => u.io.sup[n].cjFault = false ∧
        u.io.own[n].reports = s.io.own[n].reports ++ [(⟨0x4104, false, [(1, n.val), (1, 0), (2, s.io.sup[n].cjTemp.toNat)]⟩ : IslReport)]))))

/-! ### Analogue outputs and digital channels (12, 13) -/

/-- R219, R331 to R333, R337 to R341, R355: readback conversions give stamped values; fold-back is entered above 150 °C and left below 140 °C; compliance and an open loop are entered and cleared, each recorded; a
voltage output's switch opens when island time reaches L; the survivor of a pair restores the totals.

Forms whose completion it states: readbackConversion, aoThermalCrossing, complianceEntry, complianceClearTimeout, aoOpenLoopTimeout, voltageOutputLeaseEnd, partnerShareVanished. -/
def Obligations.AnalogueOutputsAreWatched : Prop :=
  (∀ (s : State) c value own total vterm, (s.io.own[islandOf c].configured = false ∨ isOut (chanEntry s c) = false ∨ s.io.own[islandOf c].calSince ≠ none) →
    Completes (.readbackConversion c value own total vterm) s (fun u => u = s)) ∧
  (∀ (s : State) c value own total vterm, s.io.own[islandOf c].configured = true → isOut (chanEntry s c) = true → s.io.own[islandOf c].calSince = none →
    Completes (.readbackConversion c value own total vterm) s (fun u =>
      u.io.chan[c].islValue = value ∧ u.io.chan[c].islStamp = islandTime s (islandOf c) ∧ u.io.chan[c].islUnc = timeUncertain s.io.own[islandOf c] s.tb.now ∧ u = { s with io := u.io } ∧
      (isAo (chanEntry s c) = true →
        u.io.ao[c].share = min own 0xFFFF ∧ u.io.ao[c].pShare = (if (chanEntry s c).mode = 6 then min (total - own) 0xFFFF else 0) ∧
        u.io.ao[c].vterm = vterm ∧ u.io.ao[c].buck = buckFor vterm ∧ u.io.ao[c].comply = s.io.ao[c].comply ∧
        u.io.ao[c].openLoop = (s.io.ao[c].openLoop && decide (total < 500)) ∧
        (nearCommand (chanEntry s c) value s.io.ao[c].appl = false → u.io.ao[c].clearSince = none) ∧
        (nearCommand (chanEntry s c) value s.io.ao[c].appl = true → u.io.ao[c].clearSince = some (s.io.ao[c].clearSince.getD s.tb.now)) ∧
        ((50 ≤ total ∨ s.io.ao[c].comply = false ∨ (chanEntry s c).owDiag = false ∨ (chanEntry s c).mode ≠ 6) → u.io.ao[c].lowSince = none)) ∧
      (isAo (chanEntry s c) = false →
        u.io.dO[c].micro = own ∧ u.io.dO[c].vterm = signedField 2 (Int.tdiv (BitVec.ofNat 16 vterm).toInt 10) ∧
        (limitMicro s.io.dO[c] s.tb.now ≤ own → u.io.dO[c].limSince = some (s.io.dO[c].limSince.getD s.tb.now) ∧ u.io.dO[c].freeSince = none) ∧
        (own < limitMicro s.io.dO[c] s.tb.now → u.io.dO[c].limSince = none ∧ u.io.dO[c].freeSince = some (s.io.dO[c].freeSince.getD s.tb.now)) ∧
        (leaderOf s c = c → groupOf s c = [c] →
          (s.io.dO[c].openLoad = true → openLoadAbove s.io.own[islandOf c].paired < own → u.io.dO[c].openLoad = false ∧
            u.io.own[islandOf c].reports = s.io.own[islandOf c].reports ++ [(⟨0x4306, false, [(1, c.val), (1, 0)]⟩ : IslReport)]) ∧
          (own ≤ openLoadAbove s.io.own[islandOf c].paired → u.io.dO[c].openLoad = s.io.dO[c].openLoad ∧ u.io.own = s.io.own) ∧
          (openLoadBelow s.io.own[islandOf c].paired ≤ own → u.io.dO[c].lowSince = none))))) ∧
  (∀ (s : State) c temp, (s.io.own[islandOf c].configured = false ∨ isAo (chanEntry s c) = false) → Completes (.aoThermalCrossing c temp) s (fun u => u = s)) ∧
  (∀ (s : State) c (temp : BitVec 16), s.io.own[islandOf c].configured = true → isAo (chanEntry s c) = true → Completes (.aoThermalCrossing c temp) s (fun u =>
    u.io.ao[c].temp = temp ∧ u.io.ao[c].foldback = (if 1500 < temp.toInt then true else if temp.toInt < 1400 then false else s.io.ao[c].foldback) ∧
    (u.io.ao[c].foldback = false → u.io.ao[c].thermal = false) ∧
    u.io.own[islandOf c].reports = s.io.own[islandOf c].reports ++ (if u.io.ao[c].foldback = s.io.ao[c].foldback then [] else
      [(⟨0x4203, u.io.ao[c].foldback, [(1, c.val), (1, bitNat u.io.ao[c].foldback), (2, temp.toNat)]⟩ : IslReport)]))) ∧
  (∀ (s : State) c vterm del, (s.io.own[islandOf c].configured = false ∨ isAo (chanEntry s c) = false ∨ s.io.ao[c].comply = true ∨ drives s.io.ao[c].drive = false ∨ atCompliance s c vterm del = false) →
    Completes (.complianceEntry c vterm del) s (fun u => u = s)) ∧
  (∀ (s : State) c vterm del, s.io.own[islandOf c].configured = true → isAo (chanEntry s c) = true → s.io.ao[c].comply = false → drives s.io.ao[c].drive = true → atCompliance s c vterm del = true →
    Completes (.complianceEntry c vterm del) s (fun u =>
      u.io.ao = upd s.io.ao c (fun x => { x with comply := true, clearSince := none, enter := satSucc 0xFFFF x.enter, vterm := vterm }) ∧
      (∃ r : IslReport, u.io.own[islandOf c].reports = s.io.own[islandOf c].reports ++ [r] ∧ r.code = 0x4201 ∧ r.det = true ∧ r.fields = complyFields s c true vterm del))) ∧
  (∀ (s : State) c, ((s.io.ao[c].comply = false ∨ s.io.ao[c].clearSince = none) → Completes (.complianceClearTimeout c) s (fun u => u = s)) ∧
    (∀ t0, s.io.ao[c].comply = true → s.io.ao[c].clearSince = some t0 → (s.tb.now < t0 + 10000000 → Completes (.complianceClearTimeout c) s (fun u => u = s)) ∧
      (t0 + 10000000 ≤ s.tb.now → Completes (.complianceClearTimeout c) s (fun u => u.io.ao = upd s.io.ao c (fun x => { x with comply := false }) ∧
        ∃ r : IslReport, u.io.own[islandOf c].reports = s.io.own[islandOf c].reports ++ [r] ∧ r.code = 0x4201 ∧ r.det = false)))) ∧
  (∀ (s : State) c, ((s.io.ao[c].openLoop = true ∨ s.io.ao[c].lowSince = none) → Completes (.aoOpenLoopTimeout c) s (fun u => u = s)) ∧
    (∀ t0, s.io.ao[c].openLoop = false → s.io.ao[c].lowSince = some t0 → (s.tb.now < t0 + 10000000 → Completes (.aoOpenLoopTimeout c) s (fun u => u = s)) ∧
      (t0 + 10000000 ≤ s.tb.now → Completes (.aoOpenLoopTimeout c) s (fun u => u.io.ao = upd s.io.ao c (fun x => { x with openLoop := true }) ∧
        ∃ r : IslReport, u.io.own[islandOf c].reports = s.io.own[islandOf c].reports ++ [r] ∧ r.code = 0x4202 ∧ r.det = true)))) ∧
  (∀ (s : State) n, (s.io.own[n].leaseEnd = none ∨ ∃ l, s.io.own[n].leaseEnd = some l ∧ islandTime s n < l) → Completes (.voltageOutputLeaseEnd n) s (fun u => u = s)) ∧
  (∀ (s : State) n l, s.io.own[n].leaseEnd = some l → l ≤ islandTime s n → Completes (.voltageOutputLeaseEnd n) s (fun u =>
    (∀ k : Fin 8, (chanEntry s (chanOf n k)).mode = 7 → s.io.own[n].configured = true → s.io.sup[n].lost = false → s.io.chan[chanOf n k].safe = false →
      s.io.own[n].sharesOff = false → u.io.ao[chanOf n k].drive = .prepared) ∧ u.mem = s.mem ∧ u = { s with io := u.io })) ∧
  (∀ (s : State) n mask m, (sumChans s n mask = [] → Completes (.partnerShareVanished n mask m) s (fun u => u = s)) ∧
    (sumChans s n mask ≠ [] → Completes (.partnerShareVanished n mask m) s (fun u =>
      (∀ k : Fin 8, chanOf n k ∈ sumChans s n mask → u.io.ao[chanOf n k].pShare = 0 ∧ u.io.ao[chanOf n k].loss = satSucc 0xFFFF s.io.ao[chanOf n k].loss) ∧
      (∀ c, c ∉ sumChans s n mask → u.io.ao[c] = s.io.ao[c]) ∧
      ∃ r : IslReport, u.io.own[n].reports = s.io.own[n].reports ++ [r] ∧ r.code = 0x4205)))

/-- R286, R345, R347, R348, R351, R353 to R357, R359 to R362: a terminal's band is accepted after the filter time, a wire break after 20 ms, an edge is stamped and counted; an output's limiting, shutdowns, open
load, external drive and imbalance are set and cleared, each recorded; PWM turns on at multiples of its period; L+ is lost below 16.0 V and back after 10 ms above 17.0 V.

Forms whose completion it states: diTerminalSample, diFilterExpiry, diWirebreakTimeout, doComplianceTimeout, doThermalShutdown, doThermalRetry, doThermalClear, doOpenLoadTimeout, doExtdriveTimeout, gangImbalanceTimeout, pwmPeriodStart, pwmOff, lplusMeasurement, lplusRestoreTimeout. -/
def Obligations.DigitalChannelsAndSupplyAreWatched : Prop :=
  (∀ (s : State) c (v : BitVec 16), (diOn s c = false → Completes (.diTerminalSample c v) s (fun u => u = s)) ∧
    (diOn s c = true → Completes (.diTerminalSample c v) s (fun u =>
      u.io.di[c].vterm = v ∧ u.io.di[c].band = bandOf v ∧ u.io.di[c].candidate = bandClass (chanEntry s c).owDiag (bandOf v) ∧ u.io.chan[c].islStamp = islandTime s (islandOf c) ∧
      u.io.di[c].state = s.io.di[c].state ∧ u.io.di[c].since = (if bandClass (chanEntry s c).owDiag (bandOf v) = s.io.di[c].candidate then s.io.di[c].since else s.tb.now) ∧
      (s.io.ai[c].owRun = true → s.io.ai[c].owSince + filterTime (chanEntry s c).filter + 1000000 ≤ s.tb.now → u.io.ai[c].owRun = false ∧
        u.io.own[islandOf c].results = s.io.own[islandOf c].results ++ [(some c, 6, if bandOf v = 0 then 1 else if bandOf v = 1 ∨ bandOf v = 3 then 2 else 0)])))) ∧
  (∀ (s : State) c, (diOn s c = false ∨ s.io.di[c].openWire = true ∨ s.io.di[c].candidate = 0 ∨ (s.io.di[c].candidate = 3 ∧ s.tb.now ≤ s.io.di[c].since + filterTime (chanEntry s c).filter) ∨
      (s.io.di[c].candidate ≠ 3 ∧ s.tb.now < s.io.di[c].since + max (filterTime (chanEntry s c).filter) 100000)) → Completes (.diFilterExpiry c) s (fun u => u = s)) ∧
  (∀ (s : State) c, diOn s c = true → s.io.di[c].openWire = false →
    (s.io.di[c].candidate = 3 → s.io.di[c].since + filterTime (chanEntry s c).filter < s.tb.now → Completes (.diFilterExpiry c) s (fun u =>
      u = { s with io := { s.io with di := upd s.io.di c (fun x => { x with undef_ := true }) } })) ∧
    ((s.io.di[c].candidate = 1 ∨ s.io.di[c].candidate = 2) → s.io.di[c].since + max (filterTime (chanEntry s c).filter) 100000 ≤ s.tb.now → Completes (.diFilterExpiry c) s (fun u =>
      u.io.di[c].state = decide (s.io.di[c].candidate = 2) ∧ u.io.di[c].known = true ∧ u.io.di[c].undef_ = false ∧
      (s.io.di[c].known = true → s.io.di[c].state ≠ decide (s.io.di[c].candidate = 2) → u.io.di[c].lastEdge = islandStamp s (islandOf c) s.io.di[c].since ∧
        u.io.di[c].count = (if (chanEntry s c).mode = 9 ∧ ((edgesOf (chanEntry s c)).toNat &&& (if s.io.di[c].candidate = 2 then 1 else 2)) ≠ 0 then s.io.di[c].count + 1 else s.io.di[c].count)) ∧
      ((s.io.di[c].known = false ∨ s.io.di[c].state = decide (s.io.di[c].candidate = 2)) → u.io.di[c].count = s.io.di[c].count ∧ u.io.own = s.io.own)))) ∧
  (∀ (s : State) c, let broken := decide (s.io.di[c].candidate = 0)
    ((diOn s c = false ∨ (chanEntry s c).owDiag = false ∨ s.tb.now < s.io.di[c].wbSince + 20000000 ∨ s.io.di[c].openWire = broken ∨ s.io.sup[islandOf c].lost = true ∨
      s.tb.now < s.io.sup[islandOf c].wbInhibit) → Completes (.diWirebreakTimeout c) s (fun u => u = s)) ∧
    (diOn s c = true → (chanEntry s c).owDiag = true → s.io.di[c].wbSince + 20000000 ≤ s.tb.now → s.io.di[c].openWire ≠ broken → s.io.sup[islandOf c].lost = false →
      s.io.sup[islandOf c].wbInhibit ≤ s.tb.now → Completes (.diWirebreakTimeout c) s (fun u => u.io.di[c].openWire = broken ∧
        u.io.own[islandOf c].reports = s.io.own[islandOf c].reports ++ [(⟨0x4305, broken, [(1, c.val), (1, bitNat broken)]⟩ : IslReport)]))) ∧
  (∀ (s : State) c, let set := !s.io.dO[c].comply && heldFor s.io.dO[c].limSince 1000000 s.tb.now
    let clear := s.io.dO[c].comply && heldFor s.io.dO[c].freeSince 10000000 s.tb.now
    ((doLive s c = false ∨ (set = false ∧ clear = false)) → Completes (.doComplianceTimeout c) s (fun u => u = s)) ∧
    (doLive s c = true → (set = true ∨ clear = true) → Completes (.doComplianceTimeout c) s (fun u =>
      u = { s with io := { s.io with dO := upd s.io.dO c (fun d => { d with comply := set }) } }))) ∧
  (∀ (s : State) c (temp : BitVec 16), ((doLive s c = false ∨ s.io.dO[c].on = false ∨ temp.toInt ≤ 1700) → Completes (.doThermalShutdown c temp) s (fun u => u = s)) ∧
    (doLive s c = true → s.io.dO[c].on = true → 1700 < temp.toInt → Completes (.doThermalShutdown c temp) s (fun u =>
      (∀ m ∈ myGroup s c, u.io.dO[m].on = false ∧ u.io.dO[m].thermal = true ∧ u.io.dO[m].thermalOff = true ∧ u.io.dO[m].thermalAt = s.tb.now) ∧
      u.io.own[islandOf c].reports = s.io.own[islandOf c].reports ++ [(⟨0x4301, true, [(1, c.val), (1, 1), (2, s.io.dO[c].retries)]⟩ : IslReport)]))) ∧
  (∀ (s : State) c, ((doLive s c = false ∨ s.io.dO[c].thermalOff = false ∨ s.tb.now < s.io.dO[c].thermalAt + 100000000 ∨ doCommanded s (leaderOf s c) = false) →
      Completes (.doThermalRetry c) s (fun u => u = s)) ∧
    (doLive s c = true → s.io.dO[c].thermalOff = true → s.io.dO[c].thermalAt + 100000000 ≤ s.tb.now → doCommanded s (leaderOf s c) = true → c ∈ myGroup s c →
      Completes (.doThermalRetry c) s (fun u => u.io.dO[c].thermalOff = false ∧ u.io.dO[c].retries = satSucc 0xFFFF s.io.dO[c].retries ∧
        (leaderOf s c = c → (chanEntry s c).pwm = false → u.io.dO[c].on = true)))) ∧
  (∀ (s : State) c (temp : BitVec 16), let done := (s.io.dO[c].on && !s.io.dO[c].thermalOff && decide (s.io.dO[c].onSince + 1000000000 ≤ s.tb.now)) || (!doCommanded s (leaderOf s c) && decide (temp.toInt < 1500))
    ((doLive s c = false ∨ s.io.dO[c].thermal = false ∨ done = false) → Completes (.doThermalClear c temp) s (fun u => u = s)) ∧
    (doLive s c = true → s.io.dO[c].thermal = true → done = true → Completes (.doThermalClear c temp) s (fun u =>
      (∀ m ∈ myGroup s c, u.io.dO[m].thermal = false ∧ u.io.dO[m].thermalOff = false) ∧
      u.io.own[islandOf c].reports = s.io.own[islandOf c].reports ++ [(⟨0x4301, false, [(1, c.val), (1, 0), (2, s.io.dO[c].retries)]⟩ : IslReport)]))) ∧
  (∀ (s : State) c, ((doLive s c = false ∨ (chanEntry s c).owDiag = false ∨ s.io.dO[c].cmd = false ∨ s.io.dO[c].openLoad = true ∨ s.io.dO[c].lowSince = none) → Completes (.doOpenLoadTimeout c) s (fun u => u = s)) ∧
    (∀ t0, doLive s c = true → (chanEntry s c).owDiag = true → s.io.dO[c].cmd = true → s.io.dO[c].openLoad = false → s.io.dO[c].lowSince = some t0 →
      (s.tb.now < t0 + 100000000 → Completes (.doOpenLoadTimeout c) s (fun u => u = s)) ∧
      (t0 + 100000000 ≤ s.tb.now → Completes (.doOpenLoadTimeout c) s (fun u => u.io.dO = upd s.io.dO c (fun x => { x with openLoad := true }) ∧
        u.io.own[islandOf c].reports = s.io.own[islandOf c].reports ++ [(⟨0x4306, true, [(1, c.val), (1, 1)]⟩ : IslReport)])))) ∧
  (∀ (s : State) c, let set := !s.io.dO[c].extDrive && !doCommanded s (leaderOf s c) && !extIgnored s c && heldFor s.io.dO[c].extSince 1000000 s.tb.now && decide (s.io.dO[c].offSince + 1000000 ≤ s.tb.now)
    let clear := s.io.dO[c].extDrive && heldFor s.io.dO[c].calmSince 1000000 s.tb.now
    ((doLive s c = false ∨ (set = false ∧ clear = false)) → Completes (.doExtdriveTimeout c) s (fun u => u = s)) ∧
    (doLive s c = true → (set = true ∨ clear = true) → Completes (.doExtdriveTimeout c) s (fun u => u.io.dO = upd s.io.dO c (fun x => { x with extDrive := set }) ∧
        u.io.own[islandOf c].reports = s.io.own[islandOf c].reports ++ [(⟨0x4302, set, [(1, c.val), (1, bitNat set), (2, s.io.dO[c].vterm)]⟩ : IslReport)]))) ∧
  (∀ (s : State) c, let set := !s.io.dO[c].imbal && heldFor s.io.dO[c].unevenSince 100000000 s.tb.now
    let clear := s.io.dO[c].imbal && heldFor s.io.dO[c].evenSince 100000000 s.tb.now
    ((doLive s c = false ∨ groupSize (chanEntry s c) = 1 ∨ (set = false ∧ clear = false)) → Completes (.gangImbalanceTimeout c) s (fun u => u = s)) ∧
    (doLive s c = true → groupSize (chanEntry s c) ≠ 1 → (set = true ∨ clear = true) → Completes (.gangImbalanceTimeout c) s (fun u =>
      u.io.dO = upd s.io.dO c (fun x => { x with imbal := set }) ∧
      (∃ r : IslReport, u.io.own[islandOf c].reports = s.io.own[islandOf c].reports ++ [r] ∧ r.code = 0x4304 ∧ r.det = set ∧
        r.fields.take 3 = [(1, c.val), (1, bitNat set), (2, sat16 (groupMicro s c / 1000))])))) ∧
  (∀ (s : State) c, let per := pwmPeriod (chanEntry s c)
    ((pwmLive s c = false ∨ s.io.dO[c].pwmAt = some (islandTime s (islandOf c) / per * per)) → Completes (.pwmPeriodStart c) s (fun u => u = s)) ∧
    (pwmLive s c = true → s.io.dO[c].pwmAt ≠ some (islandTime s (islandOf c) / per * per) → c ∈ groupOf s c → Completes (.pwmPeriodStart c) s (fun u =>
      u.io.dO[c].pwmAt = some (islandTime s (islandOf c) / per * per) ∧ u.io.dO[c].onTime = s.io.dO[c].nextOn ∧ u.io.dO[c].on = (doCommanded s c && !s.io.dO[c].thermalOff) ∧ u = { s with io := u.io })) ∧
    ((pwmLive s c = false ∨ s.io.dO[c].on = false ∨ per ≤ s.io.dO[c].onTime ∨ s.io.dO[c].pwmAt = none) → Completes (.pwmOff c) s (fun u => u = s)) ∧
    (∀ t0, pwmLive s c = true → s.io.dO[c].on = true → s.io.dO[c].onTime < per → s.io.dO[c].pwmAt = some t0 →
      (islandTime s (islandOf c) < t0 + s.io.dO[c].onTime → Completes (.pwmOff c) s (fun u => u = s)) ∧
      (t0 + s.io.dO[c].onTime ≤ islandTime s (islandOf c) → Completes (.pwmOff c) s (fun u => (∀ m ∈ groupOf s c, u.io.dO[m].on = false) ∧ u = { s with io := u.io })))) ∧
  (∀ (s : State) n v10, ((s.io.isl[n].st = .off ∨ s.io.isl[n].restartAt ≠ none) → Completes (.lplusMeasurement n v10) s (fun u => u = s)) ∧
    (s.io.isl[n].st ≠ .off → s.io.isl[n].restartAt = none → Completes (.lplusMeasurement n v10) s (fun u =>
      u.io.sup[n].v10 = v10 ∧ u.io.sup[n].warn = (if v10 < 1920 then true else if 1970 < v10 then false else s.io.sup[n].warn) ∧
      u.io.sup[n].lost = (s.io.sup[n].lost || decide (v10 < 1600)) ∧
      u.io.sup[n].latched = (s.io.sup[n].latched || (decide (v10 < 1600) && (islEntry s n).latchOff)) ∧
      (v10 ≤ 1700 → u.io.sup[n].goodSince = none) ∧ (1700 < v10 → u.io.sup[n].goodSince = some (s.io.sup[n].goodSince.getD s.tb.now)) ∧
      (v10 < 1600 → s.io.sup[n].lost = false → (∀ k : Fin 8, isAo (chanEntry s (chanOf n k)) = true → u.io.ao[chanOf n k].drive = .off) ∧
        ∃ r ∈ u.io.own[n].reports, r.code = 0x4303 ∧ r.det = true)))) ∧
  (∀ (s : State) n, ((s.io.sup[n].lost = false ∨ s.io.sup[n].latched = true ∨ s.io.sup[n].goodSince = none) → Completes (.lplusRestoreTimeout n) s (fun u => u = s)) ∧
    (∀ t0, s.io.sup[n].lost = true → s.io.sup[n].latched = false → s.io.sup[n].goodSince = some t0 → (s.tb.now < t0 + 10000000 → Completes (.lplusRestoreTimeout n) s (fun u => u = s)) ∧
      (t0 + 10000000 ≤ s.tb.now → Completes (.lplusRestoreTimeout n) s (fun u => u.io.sup[n].lost = false ∧ u.io.sup[n].wbInhibit = s.tb.now + 20000000 ∧
        ∃ r : IslReport, u.io.own[n].reports.getLast? = some r ∧ r.code = 0x4303 ∧ r.det = false))))

/-! ### CAN ports (14) -/

/-- R226, R365, R366, R368 to R370, R372 to R382: the lease holder's port starts the PENDING frame of highest priority if it ends before the lease; a completed one empties its buffer and is confirmed, a failed one
is PENDING again unless replaced or aborted, and the counters follow ISO 11898-1: error-passive above 127, bus-off above 255. Received frames pass the lowest accepting filter into the FIFO
of 64; a standby's FIFO takes the holder's.

Forms whose completion it states: canTxConfirmReceive, canTxStart, canTxComplete, canTxError, canFrameReceive, canRxNoticeReceive, canBusoffRecovery, canRxError, canIntegrationComplete. -/
def Obligations.CanPortsSendReceiveAndCountErrors : Prop :=
  (∀ (s : State) p, (canLive s p = false ∨ holds s = false ∨ s.can[p].state = 2 ∨ s.can[p].integrating = true ∨ activeBuffer s.can[p] ≠ none ∨ bestBuffer (canEntry s p) s.can[p] = none) →
    Completes (.canTxStart p) s (fun u => u = s)) ∧
  (∀ (s : State) p b f, canLive s p = true → holds s = true → s.can[p].state ≠ 2 → s.can[p].integrating = false → activeBuffer s.can[p] = none →
    bestBuffer (canEntry s p) s.can[p] = some (b, f) →
    (s.lease.leaseEnd ≤ s.tb.now + frameTime (canEntry s p) f → Completes (.canTxStart p) s (fun u => u = s)) ∧
    (s.tb.now + frameTime (canEntry s p) f < s.lease.leaseEnd → Completes (.canTxStart p) s (fun u =>
      u.can[p].tx[b].st = .active ∧ u.can[p].tx[b].frame = s.can[p].tx[b].frame ∧ u.out = s.out ++ [Out.canStart p b (sentFrame (canEntry s p) f)] ∧ u = { s with can := u.can, out := u.out }))) ∧
  (∀ e k b f, bestBuffer e k = some (b, f) → k.tx[b].st = .pending ∧ k.tx[b].frame = some f ∧
    (∀ (c : Fin 32) g, k.tx[c].st = .pending → k.tx[c].frame = some g → portSends e g = true → arbKey f ≤ arbKey g)) ∧
  (∀ (s : State) p, activeBuffer s.can[p] = none → Completes (.canTxComplete p) s (fun u => u = s) ∧ (∀ err d q, Completes (.canTxError p err d q) s (fun u => u = s))) ∧
  (∀ (s : State) p b, activeBuffer s.can[p] = some b →
    Completes (.canTxComplete p) s (fun u =>
      u.can[p].tec = (if s.can[p].tec ≤ 256 ∨ s.can[p].state = 2 ∨ s.can[p].state = 3 then s.can[p].tec - 1 else 255) ∧ u.can[p].ackErrs = 0 ∧ u.can[p].noAck = false ∧
      u.can[p].acc.tx = satSucc max32 s.can[p].acc.tx ∧ u.can[p].tx = upd s.can[p].tx b sentBuf ∧
      (s.can[p].tx[b].next = none → u.can[p].tx[b].st = .empty ∧ u.can[p].tx[b].frame = none) ∧
      (∀ f t c, s.can[p].tx[b].next = some (f, t, c) → u.can[p].tx[b].st = .pending ∧ u.can[p].tx[b].frame = some f) ∧
      (holds s = true → partnerInRun s = true → saddleOpen s = true →
        u.out = s.out ++ [Out.saddle [0, 1] (s.pair.seqOut + 1) s.lsk.unchecked (.canConfirm p b s.can[p].tx[b].task s.can[p].tx[b].cycle)]) ∧
      ((holds s = false ∨ partnerInRun s = false) → u.out = s.out)) ∧
    (∀ d q, Completes (.canTxError p .arbitration d q) s (fun u => u.can[p].tec = s.can[p].tec ∧ u.can[p].state = s.can[p].state ∧ u.out = s.out ∧
      (s.can[p].tx[b].next = none → s.can[p].tx[b].abort = false → u.can[p].tx[b].st = .pending ∧ u.can[p].tx[b].frame = s.can[p].tx[b].frame ∧
        u.can[p].acc.retry = satSucc max32 s.can[p].acc.retry) ∧
      (s.can[p].tx[b].next = none → s.can[p].tx[b].abort = true → u.can[p].tx[b].st = .empty ∧ u.can[p].acc.abort = satSucc max32 s.can[p].acc.abort) ∧
      (∀ f t c, s.can[p].tx[b].next = some (f, t, c) → u.can[p].tx[b].st = .pending ∧ u.can[p].tx[b].frame = some f))) ∧
    (∀ err d q, err ≠ .arbitration → Completes (.canTxError p err d q) s (fun u =>
      let tec := if (err = .ack ∧ s.can[p].state = 1 ∧ q = true) ∨ err = .stuff then s.can[p].tec else s.can[p].tec + 8
      u.can[p].acc.err = satSucc max32 s.can[p].acc.err ∧ u.can[p].lec = lecCode err ∧ u.can[p].lecData = d ∧ u.out = s.out ++ [Out.canErrorFlag p (s.can[p].state == 0)] ∧
      (s.can[p].state = 0 ∨ s.can[p].state = 1 →
        (255 < tec → u.can[p].state = 2 ∧ u.can[p].tec = 255 ∧ u.can[p].busOffAt = s.tb.now ∧ u.can[p].acc.busOff = satSucc max32 s.can[p].acc.busOff) ∧
        (tec ≤ 255 → u.can[p].tec = tec ∧ u.can[p].state = (if 127 < tec ∨ 127 < s.can[p].rec_ then 1 else 0))) ∧
      (err = .ack → 15 ≤ s.can[p].ackErrs → u.can[p].noAck = true) ∧ (err ≠ .ack → u.can[p].ackErrs = 0)))) ∧
  (∀ (s : State) p err d dom, (canLive s p = false ∨ s.can[p].state = 2 ∨ s.can[p].integrating = true ∨ err = .arbitration) → Completes (.canRxError p err d dom) s (fun u => u = s)) ∧
  (∀ (s : State) p err d dom, canLive s p = true → s.can[p].state ≠ 2 → s.can[p].integrating = false → err ≠ .arbitration → Completes (.canRxError p err d dom) s (fun u =>
    u.can[p].acc.err = satSucc max32 s.can[p].acc.err ∧ u.can[p].lec = lecCode err ∧
    (holds s = false → u.can[p].rec_ = s.can[p].rec_ ∧ u.out = s.out) ∧
    (holds s = true → u.can[p].rec_ = min 255 (s.can[p].rec_ + (if dom then 8 else 1)) ∧ u.out = s.out ++ [Out.canErrorFlag p (s.can[p].state == 0)]))) ∧
  (∀ (s : State) p, ((s.can[p].state ≠ 2 ∨ s.tb.now < s.can[p].busOffAt + recoveryTime (canEntry s p)) → Completes (.canBusoffRecovery p) s (fun u => u = s)) ∧
    (s.can[p].state = 2 → s.can[p].busOffAt + recoveryTime (canEntry s p) ≤ s.tb.now → Completes (.canBusoffRecovery p) s (fun u => u.can = upd s.can p (fun x => { x with state := 0, tec := 0, rec_ := 0 }) ∧
      (s.evr.queue.length < 256 → ∃ v : Ev, u.evr.queue = s.evr.queue ++ [v] ∧ v.code = 0x5003 ∧ v.data = recData [(1, p.val), (4, min max32 ((s.tb.now - s.can[p].busOffAt) / 1000))]))) ∧
    Completes (.canIntegrationComplete p) s (fun u => u = { s with can := upd s.can p (fun k => { k with integrating := false }) })) ∧
  (∀ (s : State) p f st, (canLive s p = false ∨ s.can[p].state = 2 ∨ s.can[p].integrating = true) → Completes (.canFrameReceive p f st) s (fun u => u = s)) ∧
  (∀ (s : State) p f st, canLive s p = true → s.can[p].state ≠ 2 → s.can[p].integrating = false →
    (f.fd = true → (canEntry s p).fd = false → Completes (.canFrameReceive p f st) s (fun u => u = { s with can := upd s.can p (fun x => { x with integrating := true }) })) ∧
    ((f.fd = false ∨ (canEntry s p).fd = true) →
      (acceptingFilter (canEntry s p) f = none → Completes (.canFrameReceive p f st) s (fun u => u.can[p].fifo = s.can[p].fifo ∧ u.can[p].acc.noMatch = satSucc max32 s.can[p].acc.noMatch ∧ u.tsk = s.tsk)) ∧
      (∀ n, acceptingFilter (canEntry s p) f = some n →
        Completes (.canFrameReceive p f st) s (fun u => u.can[p].acc.rx = satSucc max32 s.can[p].acc.rx ∧
          (holds s = true → s.can[p].rec_ ≤ 127 → u.can[p].rec_ = s.can[p].rec_ - 1) ∧ (holds s = true → 127 < s.can[p].rec_ → 119 ≤ u.can[p].rec_ ∧ u.can[p].rec_ ≤ 127) ∧
          (ownReception s = true → s.can[p].fifo.length < 64 → u.can[p].fifo = s.can[p].fifo ++ [⟨f, n, st, s.tb.now⟩]) ∧
          (ownReception s = true → 64 ≤ s.can[p].fifo.length → u.can[p].fifo = s.can[p].fifo ∧ u.can[p].overflow = true ∧ u.can[p].acc.ovf = satSucc max32 s.can[p].acc.ovf) ∧
          (ownReception s = false → u.can[p].fifo = s.can[p].fifo ∧ u.can[p].own = s.can[p].own ++ [⟨f, n, st, s.tb.now⟩]))))) ∧
  (∀ e f n, acceptingFilter e f = some n → filterAccepts f e.filters[n] = true ∧ ∀ m : Fin 32, m < n → filterAccepts f e.filters[m] = false) ∧
  (∀ (s : State) v p f n st comp, firstCopy v s = true → ((inRun s = false ∨ ownReception s = true) → Completes (.canRxNoticeReceive v p f n st comp) s (fun u => u = noted v s)) ∧
    (inRun s = true → ownReception s = false → Completes (.canRxNoticeReceive v p f n st comp) s (fun u =>
      u.can[p].noticed = max s.can[p].noticed comp ∧ (s.can[p].fifo.length < 64 → u.can[p].fifo = s.can[p].fifo ++ [⟨f, n, st, comp⟩]) ∧
      (∀ x rest, s.can[p].own = x :: rest → x.frame = f → x.filter = n → u.can[p].own = rest ∧ u.can[p].acc.rxDiff = satAdd max32 s.can[p].acc.rxDiff 0) ∧
      (s.can[p].own = [] → u.can[p].own = [] ∧ u.can[p].acc.rxDiff = satAdd max32 s.can[p].acc.rxDiff 1)))) ∧
  (∀ (s : State) v p b t c, firstCopy v s = true → (holds s = true → Completes (.canTxConfirmReceive v p b t c) s (fun u => u = noted v s)) ∧
    (holds s = false → Completes (.canTxConfirmReceive v p b t c) s (fun u =>
      (s.can[p].tx[b].st = .pending → s.can[p].tx[b].task = t → s.can[p].tx[b].cycle = c → u.can[p].tx[b].st = .empty ∧ u.can[p].tx[b].frame = none) ∧
      ((s.can[p].tx[b].st ≠ .pending ∨ s.can[p].tx[b].task ≠ t ∨ s.can[p].tx[b].cycle ≠ c) → u.can = s.can) ∧
      u.mir.acc.canConf = satSucc max32 s.mir.acc.canConf)))

/-! ### Event recorder and front panel (17, 18) -/

/-- R434 to R436, R441 to R446: the recorder takes the next event while it is ready and idle; an event without a token is suppressed and counted, and a summary 0xF001 goes first once a token is there; the last free
slot takes 0xF003. The second phase makes a record count and closes its slot. CLEAR needs the maintenance colour, and 0xF002 is the first record after it. SETRATE sets a class's
limit, RATEDEFAULT the default, recorded as 0xF004.

Forms whose completion it states: recordWrite, recordComplete, rateBucketFull, evrClear, recorderClearComplete, setrate, ratedefault. -/
def Obligations.EventsAreRecordedLimitedAndCleared : Prop :=
  (∀ s : State, (s.evr.ready = false ∨ recorderShut s = true ∨ s.evr.clearing ≠ none ∨ s.evr.writing ≠ none ∨ (s.evr.afterClear = none ∧ s.evr.queue = [])) →
    Completes (.recordWrite .clean) s (fun u => u = s)) ∧
  (∀ s : State, s.evr.ready = true → recorderShut s = false → s.evr.clearing = none → s.evr.writing = none →
    (∀ e, s.evr.afterClear = some e → Completes (.recordWrite .clean) s (fun u => u.evr.afterClear = none ∧ u.evr.queue = s.evr.queue ∧
      (s.evr.slots.length < 65535 → u.evr.slots = s.evr.slots ++ [evWord e true] ∧ u.evr.writing = some e))) ∧
    (∀ e rest, s.evr.afterClear = none → s.evr.queue = e :: rest → neverLimited e.code = true → Completes (.recordWrite .clean) s (fun u =>
      u.evr.queue = rest ∧ u.evr.buckets = s.evr.buckets ∧
      (s.evr.slots.length < 65535 → u.evr.slots = s.evr.slots ++ [evWord e true] ∧ u.evr.writing = some e) ∧
      (s.evr.slots.length = 65535 → ∃ v : Ev, u.evr.slots = s.evr.slots ++ [evWord v true] ∧ v.code = 0xF003 ∧ v.data = recData [(2, e.code.toNat)]) ∧
      (65536 ≤ s.evr.slots.length → u.evr.slots = s.evr.slots ∧ u.evr.lost = satSucc max32 s.evr.lost))) ∧
    (∀ e rest, s.evr.afterClear = none → s.evr.queue = e :: rest → neverLimited e.code = false →
      let b := bucketNow e.code s
      let r := s.evr.rates[codeClass e.code]
      (b.level < tokenNs r → Completes (.recordWrite .clean) s (fun u => u.evr.queue = rest ∧ u.evr.slots = s.evr.slots ∧ u.evr.writing = none ∧
        u.evr.acc.suppr = satSucc max32 s.evr.acc.suppr ∧
        u.evr.buckets.find? (fun x => x.code == e.code) = some { b with suppressed := b.suppressed + 1, first := if b.suppressed = 0 then e.opTime else b.first })) ∧
      (tokenNs r ≤ b.level → b.suppressed = 0 → s.evr.slots.length < 65535 → Completes (.recordWrite .clean) s (fun u => u.evr.queue = rest ∧ u.evr.slots = s.evr.slots ++ [evWord e true] ∧
        u.evr.writing = some e ∧ u.evr.buckets.find? (fun x => x.code == e.code) = some { b with level := b.level - tokenNs r })) ∧
      (tokenNs r ≤ b.level → 0 < b.suppressed → s.evr.slots.length < 65535 → Completes (.recordWrite .clean) s (fun u => u.evr.queue = s.evr.queue ∧
        ∃ v : Ev, u.evr.writing = some v ∧ u.evr.slots = s.evr.slots ++ [evWord v true] ∧ v.code = 0xF001 ∧ v.data = recData [(2, e.code.toNat), (4, b.suppressed), (6, b.first.toNat)])))) ∧
  (∀ s : State, (s.evr.writing = none → Completes .recordComplete s (fun u => u = s)) ∧
    (∀ e, s.evr.writing = some e → s.evr.slots ≠ [] → Completes .recordComplete s (fun u =>
      u.evr.writing = none ∧ u.evr.slots = s.evr.slots.dropLast ++ [evWord e false] ∧ u.evr.slots.length = s.evr.slots.length ∧ u.evr.acc.write = satSucc max32 s.evr.acc.write ∧
      u.evr.closed = (s.evr.closed || e.code == 0x7004) ∧ u.evr.lastMap = (if e.code = 0x0001 then some (s.evr.slots.length - 1) else s.evr.lastMap) ∧ u = { s with evr := u.evr }))) ∧
  (∀ (s : State) code, let b := bucketNow code s
    ((b.suppressed = 0 ∨ b.level < fullBucket s.evr.rates[codeClass code]) → Completes (.rateBucketFull code) s (fun u => u = s)) ∧
    (b.suppressed ≠ 0 → fullBucket s.evr.rates[codeClass code] ≤ b.level → s.evr.queue.length < 256 → Completes (.rateBucketFull code) s (fun u =>
      ∃ v : Ev, u.evr.queue = s.evr.queue ++ [v] ∧ v.code = 0xF001 ∧ v.data = recData [(2, b.code.toNat), (4, b.suppressed), (6, b.first.toNat)]))) ∧
  (∀ (s : State) se, admitted regEvr se s = true →
    (holdsMaint s.ses.tab[se] = false → Completes (.evrClear se) s (fun u => u = setRes se .evr 5 (asked se s))) ∧
    (holdsMaint s.ses.tab[se] = true → s.evr.clearing ≠ none → Completes (.evrClear se) s (fun u => u = setRes se .evr 2 (asked se s))) ∧
    (holdsMaint s.ses.tab[se] = true → s.evr.clearing = none → Completes (.evrClear se) s (fun u =>
      u.ses.tab[se].res.evr = 1 ∧ u.evr = { s.evr with clearing := some se, clearAsk := some se })) ∧
    (let c := s.ses.tab[se].sel.evrArg.toNat % 16
     let burst := s.ses.tab[se].sel.evrArg.toNat / 256 % 256
     let refill := s.ses.tab[se].sel.evrArg.toNat / 65536
     ((c = 15 ∨ burst = 0 ∨ refill = 0 ∨ 3600 < refill) → Completes (.setrate se) s (fun u => u = setRes se .evr 4 (asked se s))) ∧
     (c ≠ 15 → burst ≠ 0 → refill ≠ 0 → refill ≤ 3600 → Completes (.setrate se) s (fun u =>
       u.ses.tab[se].res.evr = 6 ∧ u.evr.rates = upd s.evr.rates (Fin.ofNat 16 c) (fun _ => ⟨burst, refill⟩) ∧ u.mem.cells = s.mem.cells ∧
       (∃ w, u.mem.writes = s.mem.writes ++ [w] ∧ w.value = .rates u.evr.rates.toList) ∧
       (s.evr.queue.length < 256 → ∃ v : Ev, u.evr.queue = s.evr.queue ++ [v] ∧ v.code = 0xF004 ∧ v.data = recData [(1, c), (1, burst), (2, refill), (1, se.val)]))) ∧
     Completes (.ratedefault se) s (fun u => u.ses.tab[se].res.evr = 6 ∧ u.evr.slots = s.evr.slots ∧
       ∀ k : Fin 16, u.evr.rates[k] = if c = 15 ∨ k.val = c then ⟨8, 10⟩ else s.evr.rates[k]))) ∧
  (∀ s : State, (s.evr.clearing = none → Completes .recorderClearComplete s (fun u => u = s)) ∧
    (∀ se, s.evr.clearing = some se → Completes .recorderClearComplete s (fun u =>
      u.evr.slots = [] ∧ u.evr.lost = 0 ∧ u.evr.gen = satSucc max32 s.evr.gen ∧ u.evr.clearing = none ∧ u.evr.buckets = [] ∧ u.evr.queue = s.evr.queue ∧
      (∃ v : Ev, u.evr.afterClear = some v ∧ v.code = 0xF002 ∧ v.data = recData [(1, se.val), (1, 0), (4, s.evr.slots.length), (4, s.evr.lost)]) ∧
      (∀ x : Fin 64, u.ses.tab[x].sel.evrCursor = 0) ∧ (s.evr.clearAsk = some se → u.ses.tab[se].res.evr = 6))))

/-- R450, R451, R453, R454, R458, R460 to R462: a host's UPDATE of a region of the program runs at once or waits behind the running one, replacing what waits there, which reads 7; at a frame start a running update is
written, and after a full frame it ends with 6 and the waiting one is written. WAKE and a key end low-power mode at a frame start; it is entered after its timeout.
That what a session's earlier updates come to no longer reaches its LCD_CMDRES after a later command is the model's reading (log 57).

Forms whose completion it states: panelFrameStart, update, wake, panelLowpowerTimeout. -/
def Obligations.PanelUpdatesRunFrameByFrame : Prop :=
  (∀ (s : State) se, admitted regLcd se s = true →
    let n := s.ses.tab[se].sel.lcdSel
    let forgotten := fun (p : PanelUpd) => if p.asker = some se then { p with asker := none } else p
    Completes (.wake se) s (fun u => u.ses.tab[se].res.lcd = 6 ∧ u.lcd = { s.lcd with pendLow := false, lastActivity := s.tb.now, regions := u.lcd.regions } ∧
      (∀ m : Fin 16, u.lcd.regions[m] = { s.lcd.regions[m] with running := s.lcd.regions[m].running.map forgotten, queued := s.lcd.regions[m].queued.map forgotten })) ∧
    ((s.lcd.regions[n].entry = none ∨ ∃ e, s.lcd.regions[n].entry = some e ∧ e.program = false) → Completes (.update se) s (fun u =>
      u.ses.tab[se].res.lcd = 4 ∧ u.lcd = { s.lcd with regions := u.lcd.regions } ∧
      (∀ m : Fin 16, u.lcd.regions[m] = { s.lcd.regions[m] with running := s.lcd.regions[m].running.map forgotten, queued := s.lcd.regions[m].queued.map forgotten }))) ∧
    (∀ e, s.lcd.regions[n].entry = some e → e.program = true →
      let upd' := updateOf e (leBytes 4 s.ses.tab[se].sel.textLo.toNat ++ leBytes 2 s.ses.tab[se].sel.textHi.toNat) s.ses.tab[se].sel.icons (some se)
      (s.lcd.regions[n].running = none → Completes (.update se) s (fun u => u.ses.tab[se].res.lcd = 1 ∧ u.lcd.regions[n].running = some upd' ∧ u.lcd.regions[n].text = s.lcd.regions[n].text)) ∧
      (∀ r, s.lcd.regions[n].running = some r → s.lcd.regions[n].queued = none → Completes (.update se) s (fun u =>
        u.ses.tab[se].res.lcd = 1 ∧ u.lcd.regions[n].running = some (forgotten r) ∧ u.lcd.regions[n].queued = some upd')) ∧
      (∀ r q, s.lcd.regions[n].running = some r → s.lcd.regions[n].queued = some q → Completes (.update se) s (fun u =>
        u.lcd.regions[n].running = some (forgotten r) ∧ u.lcd.regions[n].queued = some upd' ∧ u.lcd.acc.repl = satSucc max32 s.lcd.acc.repl ∧
        u.ses.tab[se].res.lcd = 1 ∧ (∀ x, q.asker = some x → x ≠ se → u.ses.tab[x].res.lcd = 7))))) ∧
  (∀ s : State, (s.lcd.frozen ≠ none ∨ s.mod.st = .off ∨ s.tb.now < s.lcd.frameAt) → Completes .panelFrameStart s (fun u => u = s)) ∧
  (∀ s : State, s.lcd.frozen = none → s.mod.st ≠ .off → s.lcd.frameAt ≤ s.tb.now → s.lcd.pendLayout = false → Completes .panelFrameStart s (fun u =>
    u.lcd.frameAt = s.tb.now + frameNs s.lcd.pendRate ∧ u.lcd.rate = s.lcd.pendRate ∧ u.lcd.band = s.lcd.pendBand ∧ (s.lcd.pendLow = false → u.lcd.lowPower = false) ∧
    (∀ n : Fin 16,
      (s.lcd.regions[n].running = none → u.lcd.regions[n] = s.lcd.regions[n]) ∧
      (∀ r, s.lcd.regions[n].running = some r → r.written = false → u.lcd.regions[n].text = r.text ∧ u.lcd.regions[n].icons = r.icons ∧
        u.lcd.regions[n].running = some { r with written := true } ∧ u.lcd.regions[n].queued = s.lcd.regions[n].queued) ∧
      (∀ r, s.lcd.regions[n].running = some r → r.written = true →
        (s.lcd.regions[n].queued = none → u.lcd.regions[n].running = none ∧ u.lcd.regions[n].text = s.lcd.regions[n].text) ∧
        (∀ q, s.lcd.regions[n].queued = some q → u.lcd.regions[n].running = some { q with written := true } ∧ u.lcd.regions[n].queued = none ∧ u.lcd.regions[n].text = q.text))))) ∧
  (∀ (s : State) n r, s.lcd.frozen = none → s.mod.st ≠ .off → s.lcd.frameAt ≤ s.tb.now → s.lcd.pendLayout = false → (∀ m : Fin 16, m ≠ n → s.lcd.regions[m].running = none) →
    s.lcd.regions[n].running = some r → r.written = true → ∀ se, r.asker = some se → Completes .panelFrameStart s (fun u => u.ses.tab[se].res.lcd = 6)) ∧
  (∀ s : State, ((settings s).panelLow = false ∨ s.tb.now < s.lcd.lastActivity + (settings s).panelTimeout * 1000000000) → Completes .panelLowpowerTimeout s (fun u => u = s)) ∧
  (∀ s : State, (settings s).panelLow = true → s.lcd.lastActivity + (settings s).panelTimeout * 1000000000 ≤ s.tb.now → Completes .panelLowpowerTimeout s (fun u =>
    u = { s with lcd := { s.lcd with pendLow := true } }))

/-! ### Power supervision (16) -/

/-- R98, R413 to R423: below 18.5 V on both inputs the supply warning begins and trigger 7 is registered; 1 ms above 19.5 V ends it, and a dip that did not reach 22 V is counted and recorded as 0x7002. An input is
lost after 10 ms. The rails come up in their order, three attempts at most, and BOOT follows. The bus at 22 V stops the module, at 21 V closes the recorder, at 20 V turns the module OFF.

Forms whose completion it states: supplyInputMeasurement, supplyRecovery, inputLossTimeout, inputRestoreTimeout, railPowerGood, railSequenceTimeout, railSequenceRetry, railFault, holdupStopLevel, holdupRecorderCloseLevel, holdupResetLevel, holdupPanelEnd, holdupRecharged, stoppedRecoveryTimeout, powerApplied. -/
def Obligations.PowerIsSequencedAndSupervised : Prop :=
  (∀ (s : State) a b bus, s.mod.st = .off → Completes (.supplyInputMeasurement a b bus) s (fun u =>
    u = if s.pwr.powered then { s with pwr := { s.pwr with inA := a, inB := b, bus := bus } } else s)) ∧
  (∀ (s : State) a b bus, s.mod.st ≠ .off → Completes (.supplyInputMeasurement a b bus) s (fun u =>
    u.pwr.inA = a ∧ u.pwr.inB = b ∧ u.pwr.bus = bus ∧ u.pwr.aOk = decide (1950 < a) ∧ u.pwr.bOk = decide (1950 < b) ∧
    (1850 ≤ max a b → u.pwr.warn = s.pwr.warn ∧ u.tsk = s.tsk) ∧
    (s.pwr.warn = true → u.pwr.warn = true ∧ u.pwr.dipMinBus = min s.pwr.dipMinBus bus ∧ u.tsk = s.tsk) ∧
    (max a b < 1850 → s.pwr.warn = false → u.pwr.warn = true ∧ u.pwr.boost = false ∧ u.pwr.dipStart = s.tb.now ∧ u.pwr.testing = none ∧
      (inRun s = true → s.tsk.switch = none → ∃ tr, u.tsk.trigQ = s.tsk.trigQ ++ [tr])))) ∧
  (∀ s : State, (s.pwr.warn = false ∨ s.mod.st = .off ∨ s.pwr.goodSince = none ∨ ∃ g, s.pwr.goodSince = some g ∧ s.tb.now < g + 1000000) → Completes .supplyRecovery s (fun u => u = s)) ∧
  (∀ (s : State) g, s.pwr.warn = true → s.mod.st ≠ .off → s.pwr.goodSince = some g → g + 1000000 ≤ s.tb.now → Completes .supplyRecovery s (fun u =>
    u.pwr.warn = false ∧ u.pwr.boost = true ∧ u.pwr.recharging = decide (s.pwr.bus < 4000) ∧
    (s.pwr.low = true → u.pwr.recoveredAt = some s.tb.now ∧ u.evr = s.evr) ∧
    (s.pwr.low = false → u.tel.acc.dip = satSucc max32 s.tel.acc.dip ∧ (s.evr.queue.length < 256 → ∃ v : Ev, u.evr.queue = s.evr.queue ++ [v] ∧ v.code = 0x7002 ∧
      v.data = recData [(4, min max32 ((s.tb.now - s.pwr.dipStart) / 1000)), (2, s.pwr.dipMinBus), (2, s.pwr.dipMinIn), (1, bitNat (pfReleased s))])))) ∧
  (∀ (s : State) (b : Bool), let since := if b then s.pwr.bSince else s.pwr.aSince
    let lost := if b then s.pwr.bLost else s.pwr.aLost
    ((lost = true ∨ s.mod.st = .off ∨ since = none ∨ ∃ g, since = some g ∧ s.tb.now < g + 10000000) → Completes (.inputLossTimeout b) s (fun u => u = s)) ∧
    ((lost = false ∨ s.mod.st = .off ∨ since = none ∨ ∃ g, since = some g ∧ s.tb.now < g + 10000000) → Completes (.inputRestoreTimeout b) s (fun u => u = s)) ∧
    (∀ g, s.mod.st ≠ .off → since = some g → g + 10000000 ≤ s.tb.now →
      (lost = false → Completes (.inputLossTimeout b) s (fun u => (if b then u.pwr.bLost else u.pwr.aLost) = true ∧ (if b then u.pwr.aLost = s.pwr.aLost else u.pwr.bLost = s.pwr.bLost) ∧
        (s.evr.queue.length < 256 → ∃ v : Ev, u.evr.queue = s.evr.queue ++ [v] ∧ v.code = 0x7003 ∧ v.data = recData [(1, bitNat b), (1, 1), (2, if b then s.pwr.inB else s.pwr.inA)]))) ∧
      (lost = true → Completes (.inputRestoreTimeout b) s (fun u => (if b then u.pwr.bLost else u.pwr.aLost) = false ∧
        (s.evr.queue.length < 256 → ∃ v : Ev, u.evr.queue = s.evr.queue ++ [v] ∧ v.code = 0x7003 ∧ v.data = recData [(1, bitNat b), (1, 0), (2, if b then s.pwr.inB else s.pwr.inA)]))))) ∧
  (∀ (s : State) a b, (s.mod.st ≠ .off ∨ s.pwr.railNext ≠ none ∨ (s.pwr.railTries ≠ 0 ∧ s.pwr.railTries < 3) ∨ max a b ≤ 1920) → Completes (.powerApplied a b) s (fun u => u = s)) ∧
  (∀ (s : State) a b, s.mod.st = .off → s.pwr.railNext = none → (s.pwr.railTries = 0 ∨ 3 ≤ s.pwr.railTries) → 1920 < max a b → Completes (.powerApplied a b) s (fun u =>
    u.pwr.railNext = some 0 ∧ u.pwr.powered = true ∧ u.pwr.railSince = s.tb.now ∧ u.pwr.railTries = 0 ∧ u.mod.st = .off ∧ u.mod.startBegin = s.tb.now)) ∧
  (∀ (s : State) rail cap, (s.mod.st ≠ .off ∨ s.pwr.railNext ≠ some rail) → Completes (.railPowerGood rail cap) s (fun u => u = s)) ∧
  (∀ (s : State) rail cap, s.mod.st = .off → s.pwr.railNext = some rail →
    (rail ≠ 6 → Completes (.railPowerGood rail cap) s (fun u => u.pwr.railNext = some (rail + 1) ∧ u.pwr.railSince = s.tb.now ∧ u.mod = s.mod ∧ (rail = 0 → u.pwr.cap = cap))) ∧
    (rail = 6 → Completes (.railPowerGood rail cap) s (fun u => u.mod.st = .boot ∧ u.mem.cells = [] ∧ u.pwr.railNext = none ∧ u.pwr.railTries = 0 ∧ u.pwr.warn = false ∧
      u.mod.bootCause = s.mod.bootCause ∧ u.mod.warmStart = false ∧ u.tel.powerCycles = (match stored s 4 with | some (.powerCycles n) => n | _ => 0) + 1))) ∧
  (∀ (s : State) rail, (s.mod.st ≠ .off ∨ s.pwr.railNext ≠ some rail ∨ s.tb.now < s.pwr.railSince + railTime rail) → Completes (.railSequenceTimeout rail) s (fun u => u = s)) ∧
  (∀ (s : State) rail, s.mod.st = .off → s.pwr.railNext = some rail → s.pwr.railSince + railTime rail ≤ s.tb.now → Completes (.railSequenceTimeout rail) s (fun u =>
    u = { s with pwr := { s.pwr with railNext := none, railTries := s.pwr.railTries + 1, railSince := s.tb.now
                                     railFault := if 3 ≤ s.pwr.railTries + 1 then some rail else s.pwr.railFault } })) ∧
  (∀ s : State, (s.mod.st ≠ .off ∨ s.pwr.railNext ≠ none ∨ s.pwr.railTries = 0 ∨ 3 ≤ s.pwr.railTries ∨ s.tb.now < s.pwr.railSince + 1000000000) → Completes .railSequenceRetry s (fun u => u = s)) ∧
  (∀ s : State, s.mod.st = .off → s.pwr.railNext = none → 0 < s.pwr.railTries → s.pwr.railTries < 3 → s.pwr.railSince + 1000000000 ≤ s.tb.now → Completes .railSequenceRetry s (fun u =>
    u = { s with pwr := { s.pwr with powered := true, boost := true, railNext := some 0, railSince := s.tb.now } })) ∧
  (∀ (s : State) rail mV,
    ((s.mod.st = .off ∨ (s.mod.st = .failed ∧ (s.lsk.stopped = false ∨ s.mod.enteredAt ≠ s.tb.now ∨ s.mod.railHit = true))) → Completes (.railFault rail mV) s (fun u => u = s)) ∧
    ((s.mod.st = .boot ∨ s.mod.st = .stopped) → Completes (.railFault rail mV) s (fun u => u = { s with evr := u.evr, mod := { s.mod with railHit := false } } ∧
      (s.evr.queue.length < 256 → ∃ v : Ev, u.evr.queue = s.evr.queue ++ [v] ∧ v.code = 0x7006 ∧ v.data = recData [(1, rail.val), (2, mV)]))) ∧
    (s.mod.st = .failed → s.lsk.stopped = true → s.mod.enteredAt = s.tb.now → s.mod.railHit = false → Completes (.railFault rail mV) s (fun u =>
      u = { s with evr := u.evr, mod := { s.mod with railHit := true } } ∧ (s.evr.queue.length < 256 → ∃ v : Ev, u.evr.queue = s.evr.queue ++ [v] ∧ v.code = 0x7006))) ∧
    (s.mod.st ≠ .off → s.mod.st ≠ .failed → s.mod.st ≠ .boot → s.mod.st ≠ .stopped → Completes (.railFault rail mV) s (fun u =>
      u.mod.st = .failed ∧ u.mod.failCode = 0x7006 ∧ u.lsk.stopped = true ∧ u.lease.holder = false))) ∧
  (∀ s : State, ((s.mod.st = .off ∨ s.pwr.low = true) → Completes .holdupStopLevel s (fun u => u = s)) ∧
    (s.mod.st ≠ .off → s.mod.st ≠ .stopped → s.pwr.low = false → Completes .holdupStopLevel s (fun u =>
      u.mod.st = .stopped ∧ u.pwr.low = true ∧ u.pwr.bus = 2200 ∧ u.pwr.stopping = true ∧ u.lease.holder = false ∧ (∀ n : Fin 24, u.io.isl[n].st = .off))) ∧
    Completes .holdupRecorderCloseLevel s (fun u => u = if s.mod.st = .off then s else { s with pwr := { s.pwr with bus := 2100 }, evr := { s.evr with closed := true, queue := s.evr.queue.filter (fun e => e.code == 0x7004) } }) ∧
    (s.mod.st = .off → Completes .holdupResetLevel s (fun u => u = s)) ∧
    (s.mod.st ≠ .off → Completes .holdupResetLevel s (fun u => u.mod.st = .off ∧ u.mem.cells = [] ∧ u.mem.writes = [] ∧ u.evr.queue = [] ∧ u.evr.slots = s.evr.slots ∧ u.pwr.bus = 2000 ∧
      u.mod.bootCause = 0 ∧ (∀ se : Fin 64, u.ses.tab[se].st = .free))) ∧
    ((s.mod.st ≠ .off ∨ s.pwr.railNext ≠ none) → Completes .holdupPanelEnd s (fun u => u = s)) ∧
    (s.mod.st = .off → s.pwr.railNext = none → Completes .holdupPanelEnd s (fun u => u = { s with pwr := { s.pwr with bus := 800, powered := false }, lcd := { s.lcd with frozen := none } })) ∧
    Completes .holdupRecharged s (fun u => u = if s.pwr.recharging ∧ s.pwr.warn = false then { s with pwr := { s.pwr with recharging := false, bus := 4000 } } else s) ∧
    ((s.mod.st ≠ .stopped ∨ s.pwr.low = false ∨ s.pwr.recoveredAt = none) → Completes .stoppedRecoveryTimeout s (fun u => u = s)) ∧
    (∀ t0, s.mod.st = .stopped → s.pwr.low = true → s.pwr.recoveredAt = some t0 →
      (s.tb.now < t0 + 100000000 → Completes .stoppedRecoveryTimeout s (fun u => u = s)) ∧
      (t0 + 100000000 ≤ s.tb.now → 1920 < max s.pwr.inA s.pwr.inB → Completes .stoppedRecoveryTimeout s (fun u =>
        u.mod.st = .off ∧ u.mod.bootCause = 3 ∧ u.pwr.railNext = some 0 ∧ u.mem.cells = []))))

/-- R81, R418, R425 to R428, R433, R451: CEILING_HOLD raises the core setpoint to the ceiling and holds it there, TRACK lets it follow the margins; after ten quiet periods of 1 ms it falls by 2.5 mV, never below the
floor or the guarantee voltage. A test of the hold-up bus takes 2 ms, and a capacitance below 400 is recorded as 0x7030. Telemetry takes the sensors' values and raises the setpoint to
the guarantee voltage.

Forms whose completion it states: ceilingHold, track, holdupTest, holdupTestComplete, marginControlPeriod, marginlowClearTimeout, telemetryMeasurement. -/
def Obligations.MarginsHoldupAndTelemetryAreTracked : Prop :=
  (∀ (s : State) se, admitted regPwr se s = true →
    Completes (.ceilingHold se) s (fun u => u.tel.ceilHold = true ∧ 2 * (settings s).pwr.ceiling ≤ u.tel.core ∧ s.tel.core ≤ u.tel.core ∧ u.ses.tab[se].res.pwr = 6) ∧
    Completes (.track se) s (fun u => u.tel = { s.tel with ceilHold := false } ∧ u.ses.tab[se].res.pwr = 6) ∧
    (s.pwr.testing ≠ none → Completes (.holdupTest se) s (fun u => u = setRes se .pwr 2 (asked se s))) ∧
    (s.pwr.testing = none → (inRun s = false ∨ s.pwr.warn = true ∨ s.pwr.recharging = true ∨ s.pwr.bus < 4000) → Completes (.holdupTest se) s (fun u => u = setRes se .pwr 4 (asked se s))) ∧
    (s.pwr.testing = none → inRun s = true → s.pwr.warn = false → s.pwr.recharging = false → 4000 ≤ s.pwr.bus → Completes (.holdupTest se) s (fun u =>
      u.pwr = { s.pwr with testing := some (some se), testSince := s.tb.now, boost := false } ∧ u.ses.tab[se].res.pwr = 1))) ∧
  (∀ (s : State) c, ((s.pwr.testing = none ∨ s.tb.now < s.pwr.testSince + 2000000) → Completes (.holdupTestComplete c) s (fun u => u = s)) ∧
    (∀ a, s.pwr.testing = some a → s.pwr.testSince + 2000000 ≤ s.tb.now → Completes (.holdupTestComplete c) s (fun u =>
      u.pwr.testing = none ∧ u.pwr.boost = true ∧ u.pwr.cap = c ∧ u.pwr.holdupLow = decide (c < 400) ∧ (∀ se, a = some se → u.ses.tab[se].res.pwr = 6) ∧
      (400 ≤ c → u.evr = s.evr) ∧ (c < 400 → s.evr.queue.length < 256 → ∃ v : Ev, u.evr.queue = s.evr.queue ++ [v] ∧ v.code = 0x7030 ∧ v.data = recData [(2, c)])))) ∧
  (∀ s : State, (s.mod.st = .off ∨ s.tb.now < s.tel.ctlAt) → Completes .marginControlPeriod s (fun u => u = s)) ∧
  (∀ s : State, s.mod.st ≠ .off → s.tel.ctlAt ≤ s.tb.now →
    let good := s.tel.periodTask = 0xFF ∨ ((settings s).pwr.target : Int) + 100 ≤ s.tel.periodMargin
    Completes .marginControlPeriod s (fun u =>
      u = { s with tel := u.tel } ∧ u.tel.ctlAt = s.tb.now + 1000000 ∧ u.tel.margin = marginReg s.tel ∧ u.tel.periodMargin = 1000 ∧ u.tel.periodTask = 0xFF ∧
      ((inRun s = false ∨ s.tel.ceilHold = true) → u.tel.core = 2 * (settings s).pwr.ceiling ∧ u.tel.quiet = 0) ∧
      (inRun s = true → s.tel.ceilHold = false → good → 9 ≤ s.tel.quiet → u.tel.core = max (lowestCore s) (s.tel.core - 5) ∧ u.tel.quiet = 0) ∧
      (inRun s = true → s.tel.ceilHold = false → good → s.tel.quiet < 9 → u.tel.core = s.tel.core ∧ u.tel.quiet = s.tel.quiet + 1) ∧
      (inRun s = true → s.tel.ceilHold = false → ¬ good → u.tel.core = s.tel.core ∧ u.tel.quiet = 0))) ∧
  (∀ s : State, ((s.tel.marginLow = false ∨ s.tb.now < s.tel.lowSince + 1000000000) → Completes .marginlowClearTimeout s (fun u => u = s)) ∧
    (s.tel.marginLow = true → s.tel.lowSince + 1000000000 ≤ s.tb.now → Completes .marginlowClearTimeout s (fun u => u.tel = { s.tel with marginLow := false } ∧
      (s.evr.queue.length < 256 → ∃ v : Ev, u.evr.queue = s.evr.queue ++ [v] ∧ v.code = 0x7010)))) ∧
  (∀ (s : State) ts rs pin, (s.mod.st = .off → Completes (.telemetryMeasurement ts rs pin .clean) s (fun u => u = s)) ∧
    (s.mod.st ≠ .off → Completes (.telemetryMeasurement ts rs pin .clean) s (fun u =>
      (∀ k : Fin 12, u.tel.temps[k] = ts.getD k.val s.tel.temps[k]) ∧ (∀ k : Fin 10, u.tel.rails[k] = rs.getD k.val s.tel.rails[k]) ∧ u.tel.pin = pin ∧
      u.tel.guarantee = guaranteeAt (u.tel.temps[(0 : Fin 12)]).toInt ∧ u.tel.core = max s.tel.core (2 * guaranteeAt (u.tel.temps[(0 : Fin 12)]).toInt) ∧
      u.lcd.pendBand = panelBand s.lcd.pendBand (u.tel.temps[(0 : Fin 12)]).toInt ∧
      u.tel.acc.pinMax = max s.tel.acc.pinMax (min max32 pin) ∧ u.mod = s.mod)))

/-! ### Restart and start-up (19) -/

/-- R6, R171, R410, R421, R464, R465, R469 to R471, R476: RESTART_WARM, RESTART_COLD and STOP act on this module, or on the standby with TARGET; they need their states, and a holder without a STANDBY partner
needs FORCE. A restart closes every session, ends the lease and enters BOOT, warm with memory, forces and the working image kept, cold with them lost; a holder with a STANDBY partner
restarts after a role swap.

Forms whose completion it states: restartWarm, restartCold, stop. -/
def Obligations.StateCommandsRestartAndStop : Prop :=
  ∀ (s : State) se, admitted regMod se s = true →
    let target := s.ses.tab[se].sel.modArg.getLsbD 1
    let force := s.ses.tab[se].sel.modArg.getLsbD 0
    ∀ c (code : Nat), ((c = .restartWarm se ∧ code = 1) ∨ (c = .restartCold se ∧ code = 2) ∨ (c = .stop se ∧ code = 3)) →
      (target = true → standbyThere s = false → Completes c s (fun u => u = setRes se .mod 4 (asked se s))) ∧
      (target = true → standbyThere s = true → saddleOpen s = true → Completes c s (fun u =>
        u.mod = s.mod ∧ u.ses.tab[se].res.mod = 1 ∧ (∃ m, u.out = s.out ++ [Out.saddle [0, 1] (s.pair.seqOut + 1) s.lsk.unchecked (.relay m)] ∧ m.id = s.pair.nextId ∧ m.body = .regCmd 0x0008 (BitVec.ofNat 32 code)) ∧
        (s.evr.queue.length < 256 → ∃ v : Ev, u.evr.queue = s.evr.queue ++ [v] ∧ v.code = 0x0014))) ∧
      (target = false → (cmdValid code s = false ∨ (holds s = true ∧ standbyThere s = false ∧ force = false)) → Completes c s (fun u => u = setRes se .mod 4 (asked se s))) ∧
      (target = false → cmdValid code s = true → standbyThere s = true → code ≠ 3 →
        ((swapRuns s = true ∨ s.mod.after ≠ none) → Completes c s (fun u => u = setRes se .mod 2 (asked se s))) ∧
        (swapRuns s = false → s.mod.after = none → swapUnmet s ≠ none → Completes c s (fun u => u.ses.tab[se].res.mod = 7 ∧ u.mod.st = s.mod.st)) ∧
        (swapRuns s = false → s.mod.after = none → swapUnmet s = none → Completes c s (fun u => u.mod.st = s.mod.st ∧ u.ses.tab[se].res.mod = 1 ∧ u.lease.swap ≠ none ∧ u.mod.after ≠ none))) ∧
      (target = false → cmdValid code s = true → standbyThere s = false → (holds s = false ∨ force = true) → code ≠ 3 → Completes c s (fun u =>
        u.mod.st = .boot ∧ u.mod.warmStart = decide (code = 1) ∧ u.mod.bootCause = code ∧ u.lease.holder = false ∧ (∀ n : Fin 64, s.ses.tab[n].st = .open_ → u.ses.tab[n].st = .free) ∧
        (∀ n : Fin 64, s.ses.tab[n].st = .open_ → .closeConn s.ses.tab[n].conn ∈ u.out) ∧
        (code = 1 → u.frc.table = s.frc.table ∧ u.lease.epoch = s.lease.epoch ∧ u.img.run = s.img.run) ∧
        (code = 2 → u.mem.cells = [] ∧ u.frc = {} ∧ u.img.run = none ∧ u.tel.powerCycles = s.tel.powerCycles + 1 ∧ (∀ n : Fin 24, u.io.isl[n].st = .off)))) ∧
      (target = false → cmdValid code s = true → (standbyThere s = true ∨ holds s = false ∨ force = true) → code = 3 → Completes c s (fun u =>
        u.mod.st = .stopped ∧ u.lease.holder = false ∧ u.pwr.stopping = true ∧ (∀ n : Fin 24, u.io.isl[n].st = .off) ∧ u.ses.tab[se].res.mod = 6))

/-- R41, R52, R92, R94, R127, R192, R282, R389, R435, R464 to R469, R473, R474: BOOT ends in CONFIG, or in FAILED for want of a firmware copy or for a failed self-test; CONFIG listens 10 ms for a partner, takes the image of
the running slot or fetches the partner's, and ends when every island is configured or out; after CALIBRATE the module joins: alone with a new schedule origin, beside a
partner in RUN with its time, origin and numbers, at the join instant.

Forms whose completion it states: bootComplete, configPartnerListen, imageFetchComplete, configComplete, joinDecision, joinWaitTimeout, fullMirrorComplete, joinInstant, idleImageFetchComplete. -/
def Obligations.StartupLeadsToRun : Prop :=
  (∀ (s : State) a b st k, s.mod.st ≠ .boot → Completes (.bootComplete a b st k) s (fun u => u = s)) ∧
  (∀ (s : State) a b k, s.mod.st = .boot →
    (copyOk s.mod.fwSelected a s = false → copyOk (!s.mod.fwSelected) b s = false → ∀ st, Completes (.bootComplete a b st k) s (fun u =>
      u.mod.st = .failed ∧ u.mod.failCode = 0x0011 ∧ u.evr.ready = true ∧ u.mod.fwSelected = false ∧ u.pair.slot = k)) ∧
    (∀ lane m i, (copyOk s.mod.fwSelected a s = true ∨ copyOk (!s.mod.fwSelected) b s = true) → Completes (.bootComplete a b (some (lane, m, i)) k) s (fun u =>
      u.mod.st = .failed ∧ u.mod.failCode = 0x2040 ∧ u.evr.ready = true)) ∧
    ((copyOk s.mod.fwSelected a s = true ∨ copyOk (!s.mod.fwSelected) b s = true) → Completes (.bootComplete a b none k) s (fun u =>
      u.mod.st = .config ∧ u.evr.ready = true ∧ u.evr.closed = false ∧ (∀ n : Fin 24, u.io.isl[n].st ≠ .off) ∧ u.mod.fwSelected = false ∧ u.pair.slot = k ∧
      u.mod.fwCopy = (if copyOk s.mod.fwSelected a s = s.mod.fwSelected then !s.mod.fwCopy else s.mod.fwCopy) ∧
      (s.mod.warmStart = true → workingMatches s = false → u.mod.warmStart = false ∧ u.mod.bootCause = 4 ∧ u.mem.cells = [])))) ∧
  (∀ (s : State) p, (s.mod.st ≠ .config ∨ s.tb.now < s.mod.enteredAt + 10000000 ∨ s.mod.fetching = true ∨ (s.img.run ≠ none ∧ s.mod.warmStart = false)) →
    Completes (.configPartnerListen p) s (fun u => u = s)) ∧
  (∀ (s : State) p, s.mod.st = .config → s.mod.enteredAt + 10000000 ≤ s.tb.now → s.mod.fetching = false → s.img.run = none → s.tsk.rt.any (fun r => r.st != .absent) = false →
    ((p = none ∨ ∃ q, p = some q ∧ infoInRun q = false) → s.img.loadedHere = false → Completes (.configPartnerListen p) s (fun u =>
      u.mod.st = .config ∧ u.mod.fetching = false ∧
      (match verifyWhole (runSlot s).bytes s.img.keys.toList with
        | some e => u.img.run = none ∧ u.img.errCode = BitVec.ofNat 8 e.code ∧ u.img.errSource = 1
        | none => u.img.run = some (readImage (runSlot s).bytes) ∧ u.img.runBytes = (runSlot s).bytes))) ∧
    (∀ q, p = some q → infoInRun q = true → sameKeys q.keys (adoptKeys q.keys (closeEnrolment 2 s)) = true → ownVerifies q.runId (adoptKeys q.keys (closeEnrolment 2 s)) = false →
      Completes (.configPartnerListen p) s (fun u => u.mod.fetching = true ∧ u.ses.enrol = none ∧ (saddleOpen s = true → .saddle [0, 1] (s.pair.seqOut + 1) s.lsk.unchecked (.fetchImage false) ∈ u.out)))) ∧
  (∀ (s : State) d, (s.mod.st ≠ .config ∨ s.mod.fetching = false) → Completes (.imageFetchComplete d) s (fun u => u = s)) ∧
  (∀ (s : State) d, s.mod.st = .config → s.mod.fetching = true → Completes (.imageFetchComplete d) s (fun u =>
    u.mod.fetching = false ∧ u.mod.st = .config ∧
    (match verifyWhole d s.img.keys.toList with
      | some e => u.img.run = s.img.run ∧ u.img.errCode = BitVec.ofNat 8 e.code ∧ u.img.errSource = 2
      | none => u.img.run = some (readImage d) ∧ u.img.runTerr = !s.img.runTerr ∧ u.mod.joinFetched = true))) ∧
  (∀ s : State, (s.mod.st ≠ .config ∨ imageConfigured s = false ∨ (∃ n : Fin 24, s.io.isl[n].st = .boot ∨ s.io.isl[n].st = .off)) → Completes .configComplete s (fun u => u = s)) ∧
  (∀ s : State, s.mod.st = .config → imageConfigured s = true → (∀ n : Fin 24, s.io.isl[n].st ≠ .boot ∧ s.io.isl[n].st ≠ .off) → Completes .configComplete s (fun u =>
    ((∃ n : Fin 24, s.io.isl[n].st = .in_ ∧ s.io.isl[n].calDone = false) → u.mod.st = .calibrate) ∧
    ((∀ n : Fin 24, s.io.isl[n].st = .in_ → s.io.isl[n].calDone = true) → u.mod.st = .join) ∧
    (∀ n : Fin 24, s.io.isl[n].st = .in_ → s.io.isl[n].calDone = false → u.io.isl[n].cmd = some (.own, .calIsland n, false)))) ∧
  (∀ (s : State) p, (s.mod.st ≠ .join ∨ s.mod.joinBegan ≠ none) → Completes (.joinDecision p) s (fun u => u = s)) ∧
  (∀ s : State, s.mod.st = .join → s.mod.joinBegan = none →
    (s.pair.slot = false → Completes (.joinDecision none) s (fun u => u.mod.st = .standby ∧ u.tsk.origin = (s.tb.now + 1009999999) / 1000000000 * 1000000000 ∧ u.lease.claimFrom = s.tb.now)) ∧
    (s.pair.slot = true → s.pair.contact = true → s.mod.joinWait = none → Completes (.joinDecision none) s (fun u => u = { s with mod := { s.mod with joinWait := some s.tb.now } })) ∧
    (∀ q, infoInRun q = true → sameKeys q.keys s = false → Completes (.joinDecision (some q)) s (fun u => u.mod = s.mod ∧
      (s.evr.queue.length < 256 → ∃ v : Ev, u.evr.queue = s.evr.queue ++ [v] ∧ v.code = 0x0013 ∧ v.data = recData [(1, 1)]))) ∧
    (∀ q, infoInRun q = true → sameKeys q.keys s = true → rangesOverlap q s = false → Completes (.joinDecision (some q)) s (fun u => u.mod = s.mod ∧
      (s.evr.queue.length < 256 → ∃ v : Ev, u.evr.queue = s.evr.queue ++ [v] ∧ v.code = 0x0013 ∧ v.data = recData [(1, 2)]))) ∧
    (∀ q, infoInRun q = true → sameKeys q.keys s = true → rangesOverlap q s = true → Completes (.joinDecision (some q)) s (fun u =>
      u.mod.st = .join ∧ u.mod.joinBegan = some q.timeBase ∧ u.tb.now = q.timeBase ∧ u.tb.ptpOfs = q.ptpOfs ∧ u.tsk.origin = q.origin ∧ u.lease.hbEpoch = q.epoch ∧ u.lease.hbEnd = q.leaseEnd))) ∧
  (∀ s : State, (s.mod.st ≠ .join ∨ s.mod.joinWait = none ∨ s.mod.joinBegan ≠ none ∨ partnerInRun s = true ∨ ∃ t, s.mod.joinWait = some t ∧ s.tb.now < t + 30000000000) →
    Completes .joinWaitTimeout s (fun u => u = s)) ∧
  (∀ (s : State) t, s.mod.st = .join → s.mod.joinWait = some t → s.mod.joinBegan = none → partnerInRun s = false → t + 30000000000 ≤ s.tb.now → Completes .joinWaitTimeout s (fun u =>
    u.mod.st = .standby ∧ u.mod.joinWait = none ∧ u.tsk.origin = (s.tb.now + 1009999999) / 1000000000 * 1000000000)) ∧
  (∀ (s : State) gs fs j, (s.mod.st ≠ .join ∨ s.mod.joinBegan = none ∨ s.mod.joinAt ≠ none) → Completes (.fullMirrorComplete gs fs j) s (fun u => u = s)) ∧
  (∀ (s : State) gs fs j, s.mod.st = .join → s.mod.joinBegan ≠ none → s.mod.joinAt = none → s.mir.inbox = [] → Completes (.fullMirrorComplete gs fs j) s (fun u =>
    u.mod = { s.mod with joinAt := some j, joinGranules := gs.length } ∧
    u.mem.cells = gs.foldl (fun m g => Memory.writeBytes m (granuleAddr g.1) (leBytes 64 g.2.toNat)) s.mem.cells ∧ u.frc.waiting = s.frc.waiting ∧ u.frc.log = [] ∧ (fs = [] → s.frc.log = [] → u.frc.table = []) ∧
    (saddleOpen s = true → u.out = s.out ++ [Out.saddle [0, 1] (s.pair.seqOut + 1) s.lsk.unchecked (.confirm fullMirrorId)]))) ∧
  (∀ s : State, (s.mod.joinAt = none ∨ s.mod.joinBegan = none ∨ s.mod.st ≠ .join ∨ ∃ j, s.mod.joinAt = some j ∧ s.tb.now < j) → Completes .joinInstant s (fun u => u = s)) ∧
  (∀ (s : State) j t0, s.mod.st = .join → s.mod.joinAt = some j → s.mod.joinBegan = some t0 → j ≤ s.tb.now → Completes .joinInstant s (fun u =>
    u.mod.st = .standby ∧ u.mod.joinAt = none ∧ u.tsk.origin = s.tsk.origin ∧ u.mod.idleFetch = (s.mod.idleFetch || (s.img.partnerIdle == 4 || s.img.partnerIdle == 6)) ∧
    (∀ e, taskEntry s e.num = some e → e.event = false → u.tsk.rt[e.num].next = s.tsk.origin + e.phase * 10000 + u.tsk.rt[e.num].index * (e.period * 10000)))) ∧
  (∀ (s : State) d arm, (s.mod.idleFetch = false ∨ inRun s = false) → Completes (.idleImageFetchComplete d arm) s (fun u => u = s)) ∧
  (∀ (s : State) d arm, s.mod.idleFetch = true → inRun s = true → Completes (.idleImageFetchComplete d arm) s (fun u =>
    u.mod.idleFetch = false ∧
    (s.img.cmd ≠ none → u = { s with mod := { s.mod with idleFetch := false } }) ∧
    (s.img.cmd = none → s.img.idle = .empty →
      (∀ e, verifyWhole d s.img.keys.toList = some e → u.img.idle = .failed ∧ u.img.errSource = 2) ∧
      (verifyWhole d s.img.keys.toList = none → arm = false → u.img.idle = .verified ∧ u.img.load = d))))

/-! ### Single rules -/

/-- R443: the event that would be written into the last erased slot, slot 65 535, is recorded there as 0xF003; from then on every event that would be written
is counted in EVR_LOST, which saturates, and EVR_STATUS.FULL reads 1. Suppressed events and events that find the queue full do not count there.

Forms whose completion it states: recordWrite. -/
def Obligations.TheLastSlotTellsThatTheRecorderIsFull : Prop :=
  (∀ (s : State) e rest, s.evr.ready = true → s.evr.closed = false → s.evr.clearing = none → s.evr.writing = none → s.evr.afterClear = none → s.evr.queue = e :: rest →
    (neverLimited e.code = true ∨ (tokenNs s.evr.rates[codeClass e.code] ≤ (bucketNow e.code s).level ∧ (bucketNow e.code s).suppressed = 0)) →
    (s.evr.slots.length = 65535 → Completes (.recordWrite .clean) s (fun u => u.evr.queue = rest ∧ u.evr.lost = s.evr.lost ∧
      (∃ v : Ev, u.evr.slots = s.evr.slots ++ [evWord v true] ∧ v.code = 0xF003) ∧ ∀ se, (regRead u se 0x2C00).getLsbD 2 = true)) ∧
    (65536 ≤ s.evr.slots.length → Completes (.recordWrite .clean) s (fun u => u.evr.queue = rest ∧ u.evr.slots = s.evr.slots ∧
      u.evr.lost = min (s.evr.lost + 1) 0xFFFFFFFF ∧ ∀ se, (regRead u se 0x2C00).getLsbD 2 = true))) ∧
  (∀ (s : State) e rest, s.evr.ready = true → s.evr.closed = false → s.evr.clearing = none → s.evr.writing = none → s.evr.afterClear = none → s.evr.queue = e :: rest →
    neverLimited e.code = false → (bucketNow e.code s).level < tokenNs s.evr.rates[codeClass e.code] →
    Completes (.recordWrite .clean) s (fun u => u.evr.queue = rest ∧ u.evr.slots = s.evr.slots ∧ u.evr.lost = s.evr.lost)) ∧
  (∀ (s : State) code det fields, 256 ≤ s.evr.queue.length →
    (logEv code det fields s).evr.queue = s.evr.queue ∧ (logEv code det fields s).evr.lost = s.evr.lost)

/-- R377: the sixteenth acknowledgement error in a row of a port's own transmissions sets NOACK, an acknowledged transmission clears it, and both are
recorded as 0x5004; another error ends the row.

Forms whose completion it states: canTxComplete, canTxError. -/
def Obligations.SixteenMissingAcknowledgementsSetNoack : Prop :=
  (∀ (s : State) p b d q, activeBuffer s.can[p] = some b → Completes (.canTxError p .ack d q) s (fun u =>
    u.can[p].ackErrs = s.can[p].ackErrs + 1 ∧ u.can[p].noAck = (s.can[p].noAck || decide (16 ≤ s.can[p].ackErrs + 1)) ∧
    (s.can[p].noAck = false → 16 ≤ s.can[p].ackErrs + 1 → s.evr.queue.length < 256 →
      ∃ v : Ev, u.evr.queue[s.evr.queue.length]? = some v ∧ v.code = 0x5004 ∧ v.data = recData [(1, p.val), (1, 1)]))) ∧
  (∀ (s : State) p b err d q, activeBuffer s.can[p] = some b → err ≠ .ack → err ≠ .arbitration → Completes (.canTxError p err d q) s (fun u =>
    u.can[p].ackErrs = 0 ∧ (s.can[p].ackErrs < 16 → u.can[p].noAck = s.can[p].noAck))) ∧
  (∀ (s : State) p b, activeBuffer s.can[p] = some b → Completes (.canTxComplete p) s (fun u =>
    u.can[p].ackErrs = 0 ∧ u.can[p].noAck = false ∧
    (s.can[p].noAck = true → s.evr.queue.length < 256 →
      ∃ v : Ev, u.evr.queue[s.evr.queue.length]? = some v ∧ v.code = 0x5004 ∧ v.data = recData [(1, p.val), (1, 0)])))

/-- R7: a register write to a select register or a cursor changes what the writing session's select shows, and nothing that another session holds or reads.

Forms whose completion it states: registerWrite. -/
def Obligations.SelectsBelongToTheirSession : Prop :=
  ∀ (s : State) (se other : Fin 64) off v, sesOpen s se = true → other ≠ se →
    (off = 0x0460 ∨ off = 0x0488 ∨ off = 0x0800 ∨ off = 0x1800 ∨ off = 0x1804 ∨ off = 0x1C00 ∨ off = 0x1C04 ∨ off = 0x2000 ∨ off = 0x2024 ∨ off = 0x2438 ∨
      off = 0x2C10 ∨ off = 0x2C48 ∨ off = 0x300C ∨ off = 0x3800) →
    Completes (.registerWrite se off v) s (fun u => u.ses.tab[other] = s.ses.tab[other] ∧ (∀ a, regRead u other a = regRead s other a) ∧
      u.ses.tab[se].sel = putSelect off v s.ses.tab[se].sel)
end

