-- ==== Sys2Proof/Laws/Memory.lean ====
section
/-!
SUPPORT. Laws of memory (01 R18, R511): what a write does to every read, and the canonical form that every operation keeps.
-/

namespace Sys2Proof.Machine

/-! ### The canonical form -/

/-- Every listed address of a memory in canonical form lies above `lo`. -/
def Memory.above (lo : Nat) (m : List Host.Cell) : Bool :=
  match m with
  | [] => true
  | (a, _) :: _ => decide (lo < a)

theorem Memory.wf_cons (a : Nat) (v : Byte) (m : List Host.Cell) :
    Memory.wf ((a, v) :: m) = (v != 0 && Memory.above a m && Memory.wf m) := by
  cases m with
  | nil => simp [Memory.wf, Memory.above]
  | cons c rest => obtain ⟨b, w⟩ := c; simp [Memory.wf, Memory.above]

theorem Memory.above_mono {lo hi : Nat} {m : List Host.Cell} (h : lo < hi) (hm : Memory.above hi m = true) : Memory.above lo m = true := by
  cases m with
  | nil => rfl
  | cons c rest => simp only [Memory.above, decide_eq_true_eq] at hm ⊢; omega

/-- A write keeps the canonical form, and every bound below both the memory and the address. -/
theorem Memory.write_canonical (m : List Host.Cell) (a : Nat) (v : Byte) (hw : Memory.wf m = true) :
    Memory.wf (Memory.write m a v) = true ∧
    ∀ lo, lo < a → Memory.above lo m = true → Memory.above lo (Memory.write m a v) = true := by
  induction m with
  | nil => unfold Memory.write; split <;> simp_all [Memory.wf, Memory.above]
  | cons c rest ih =>
    obtain ⟨b, w⟩ := c
    rw [Memory.wf_cons] at hw
    simp only [Bool.and_eq_true, bne_iff_ne, ne_eq] at hw
    obtain ⟨⟨hv, hab⟩, hr⟩ := hw
    obtain ⟨ih1, ih2⟩ := ih hr
    unfold Memory.write
    by_cases h1 : a < b
    · by_cases h0 : v = 0 <;> simp_all [Memory.wf_cons, Memory.above]
    · by_cases h2 : a = b
      · subst h2
        by_cases h0 : v = 0
        · simp only [Nat.lt_irrefl, h0, if_true, if_false]
          exact ⟨hr, fun lo hlo _ => Memory.above_mono hlo hab⟩
        · simp_all [Memory.wf_cons, Memory.above]
      · have h3 : b < a := by omega
        simp only [h1, h2, if_false, Memory.wf_cons, Bool.and_eq_true, bne_iff_ne, ne_eq]
        exact ⟨⟨⟨hv, ih2 b h3 hab⟩, ih1⟩, fun lo _ hl => hl⟩

theorem Memory.write_wf (m : List Host.Cell) (a : Nat) (v : Byte) (h : Memory.wf m = true) : Memory.wf (Memory.write m a v) = true :=
  (Memory.write_canonical m a v h).1

theorem Memory.writeBytes_wf (m : List Host.Cell) (a : Nat) (bs : List Byte) (h : Memory.wf m = true) :
    Memory.wf (Memory.writeBytes m a bs) = true := by
  induction bs generalizing m a with
  | nil => exact h
  | cons v rest ih => exact ih _ _ (Memory.write_wf m a v h)

theorem Memory.foldl_wf {α : Type} (xs : List α) (f : List Host.Cell → α → List Host.Cell)
    (hf : ∀ m x, Memory.wf m = true → Memory.wf (f m x) = true) (m : List Host.Cell) (h : Memory.wf m = true) :
    Memory.wf (xs.foldl f m) = true := by
  induction xs generalizing m with
  | nil => exact h
  | cons x rest ih => exact ih _ (hf m x h)

theorem Memory.writeWord_wf (m : List Host.Cell) (a : Nat) (w : W128) (en : BitVec 16) (h : Memory.wf m = true) :
    Memory.wf (Memory.writeWord m a w en) = true := by
  refine Memory.foldl_wf _ _ (fun m k hm => ?_) m h
  split
  · exact Memory.write_wf _ _ _ hm
  · exact hm

/-! ### Reads after writes -/

/-- Below everything that is listed a canonical memory reads 0. -/
theorem Memory.read_below (m : List Host.Cell) (a : Nat) (h : Memory.above a m = true) : Memory.read m a = 0 := by
  cases m with
  | nil => rfl
  | cons c rest =>
    obtain ⟨b, w⟩ := c
    simp only [Memory.above, decide_eq_true_eq] at h
    unfold Memory.read
    rw [if_neg (by omega), if_pos h]

theorem Memory.read_write_same (m : List Host.Cell) (a : Nat) (v : Byte) (h : Memory.wf m = true) :
    Memory.read (Memory.write m a v) a = v := by
  induction m with
  | nil => unfold Memory.write; split <;> simp_all [Memory.read]
  | cons c rest ih =>
    obtain ⟨b, w⟩ := c
    rw [Memory.wf_cons] at h
    simp only [Bool.and_eq_true, bne_iff_ne, ne_eq] at h
    unfold Memory.write
    by_cases h1 : a < b
    · by_cases h0 : v = 0
      · simp [h1, h0, Memory.read, show a ≠ b by omega]
      · simp only [h1, h0, if_true, if_false, Memory.read]
    · by_cases h2 : a = b
      · subst h2
        by_cases h0 : v = 0
        · simp only [Nat.lt_irrefl, h0, if_true, if_false]
          exact Memory.read_below _ _ h.1.2
        · simp only [Nat.lt_irrefl, h0, if_true, if_false, Memory.read]
      · simp only [h1, h2, if_false, Memory.read]
        exact ih h.2

theorem Memory.read_write_other (m : List Host.Cell) (a b : Nat) (v : Byte) (h : Memory.wf m = true) (hn : b ≠ a) :
    Memory.read (Memory.write m a v) b = Memory.read m b := by
  induction m with
  | nil => unfold Memory.write; split <;> simp [Memory.read, hn]
  | cons c rest ih =>
    obtain ⟨d, w⟩ := c
    rw [Memory.wf_cons] at h
    simp only [Bool.and_eq_true, bne_iff_ne, ne_eq] at h
    obtain ⟨⟨hv, hab⟩, hr⟩ := h
    unfold Memory.write
    by_cases h1 : a < d
    · by_cases h0 : v = 0
      · simp [h1, h0]
      · simp only [h1, h0, if_true, if_false]
        rw [Memory.read, if_neg hn]
        split
        · next hb =>
          rw [Memory.read, if_neg (by omega), if_pos (by omega)]
        · rfl
    · by_cases h2 : a = d
      · subst h2
        by_cases h0 : v = 0
        · simp only [Nat.lt_irrefl, h0, if_true, if_false]
          conv_rhs => rw [Memory.read, if_neg hn]
          split
          · next hb => exact Memory.read_below _ _ (Memory.above_mono hb hab)
          · rfl
        · simp only [Nat.lt_irrefl, h0, if_true, if_false, Memory.read, hn]
      · simp only [h1, h2, if_false, Memory.read]
        rw [ih hr]

theorem Memory.read_writeBytes_outside (m : List Host.Cell) (a b : Nat) (bs : List Byte) (h : Memory.wf m = true)
    (hb : b < a ∨ a + bs.length ≤ b) : Memory.read (Memory.writeBytes m a bs) b = Memory.read m b := by
  induction bs generalizing m a with
  | nil => rfl
  | cons v rest ih =>
    simp only [List.length_cons] at hb
    have h1 := ih (Memory.write m a v) (a + 1) (Memory.write_wf m a v h) (by omega)
    rw [Memory.writeBytes, h1, Memory.read_write_other m a b v h (by omega)]

theorem Memory.read_writeBytes_inside (m : List Host.Cell) (a k : Nat) (bs : List Byte) (h : Memory.wf m = true) (hk : k < bs.length) :
    Memory.read (Memory.writeBytes m a bs) (a + k) = bs[k] := by
  induction bs generalizing m a k with
  | nil => simp at hk
  | cons v rest ih =>
    rw [Memory.writeBytes]
    cases k with
    | zero =>
      rw [Memory.read_writeBytes_outside _ _ _ _ (Memory.write_wf m a v h) (by omega)]
      exact Memory.read_write_same m a v h
    | succ j =>
      simp only [List.length_cons] at hk
      have := ih (Memory.write m a v) (a + 1) j (Memory.write_wf m a v h) (by omega)
      rw [show a + 1 + j = a + (j + 1) by omega] at this
      simpa using this

end Sys2Proof.Machine
end

