-- ==== Sys2Proof/Laws/Parts.lean ====
section
/-!
SUPPORT. What an operation keeps: which parts of the state it changes, and beside them the queue of commands, the canonical form of memory,
what has been sent and the counter of free values. The lemmas by which the files KeepsShared, KeepsUnits, KeepsModule and KeepsCommands follow an operation.
-/

namespace Sys2Proof.Machine

/-! ### Which parts, and what is kept beside them -/

/-- The parts of both. -/
def Parts.or (p q : Parts) : Parts :=
  { cells := p.cells || q.cells
    store := p.store || q.store
    tb := p.tb || q.tb
    tbAcc := p.tbAcc || q.tbAcc
    tbLat := p.tbLat || q.tbLat
    tsk := p.tsk || q.tsk
    img := p.img || q.img
    keys := p.keys || q.keys
    frc := p.frc || q.frc
    laneA := p.laneA || q.laneA
    laneB := p.laneB || q.laneB
    lsk := p.lsk || q.lsk
    pair := p.pair || q.pair
    lease := p.lease || q.lease
    mir := p.mir || q.mir
    links := p.links || q.links
    io := p.io || q.io
    can := p.can || q.can
    ses := p.ses || q.ses
    pwr := p.pwr || q.pwr
    tel := p.tel || q.tel
    evr := p.evr || q.evr
    lcd := p.lcd || q.lcd
    mod := p.mod || q.mod
    out := p.out || q.out
    flight := p.flight || q.flight
    free := p.free || q.free }

/-- Every part of `p` is one of `q`. -/
def Parts.le (p q : Parts) : Prop := p.or q = q

theorem Parts.le_of_or {p q : Parts} (h : p.or q = q) : p.le q := h

theorem Parts.le_refl (p : Parts) : p.le p := by simp [Parts.le, Parts.or]

theorem Parts.or_assoc (p q r : Parts) : (p.or q).or r = p.or (q.or r) := by simp [Parts.or, Bool.or_assoc]

theorem Parts.le_trans {p q r : Parts} (h : p.le q) (k : q.le r) : p.le r := by
  unfold Parts.le at *
  rw [← k, ← Parts.or_assoc, h]

/-- A part that is not in `q` is not in `p` either. -/
theorem Parts.not_of {a b : Bool} (h : (a || b) = b) (n : b = false) : a = false := by
  subst n; simpa using h

/-- What every shared operation keeps: it changes its parts only, the queue stays, memory keeps its canonical form, what was sent stays
sent, and the counter of free values does not go back. -/
structure Keeps (p : Parts) (s t : State) : Prop where
  only : ChangesOnly p s t
  wf : Memory.wf s.mem.cells = true → Memory.wf t.mem.cells = true
  sent : s.out <+: t.out
  fresh : s.free ≤ t.free

/-- The named parts of one state with the other parts of another. -/
@[reducible] def Parts.pick (p : Parts) (s t : State) : State :=
  { pending := s.pending
    free := match p.free with | true => t.free | false => s.free
    out := match p.out with | true => t.out | false => s.out
    mem := { (match p.store with | true => t.mem | false => s.mem) with cells := match p.cells with | true => t.mem.cells | false => s.mem.cells }
    img := { (match p.img with | true => t.img | false => s.img) with
      keys := match p.keys with | true => t.img.keys | false => s.img.keys
      revoked := match p.keys with | true => t.img.revoked | false => s.img.revoked }
    flight := match p.flight with | true => t.flight | false => s.flight
    tb := match p.tb with | true => t.tb | false => s.tb
    tbAcc := match p.tbAcc with | true => t.tbAcc | false => s.tbAcc
    tbLat := match p.tbLat with | true => t.tbLat | false => s.tbLat
    tsk := match p.tsk with | true => t.tsk | false => s.tsk
    frc := match p.frc with | true => t.frc | false => s.frc
    laneA := match p.laneA with | true => t.laneA | false => s.laneA
    laneB := match p.laneB with | true => t.laneB | false => s.laneB
    lsk := match p.lsk with | true => t.lsk | false => s.lsk
    pair := match p.pair with | true => t.pair | false => s.pair
    lease := match p.lease with | true => t.lease | false => s.lease
    mir := match p.mir with | true => t.mir | false => s.mir
    links := match p.links with | true => t.links | false => s.links
    io := match p.io with | true => t.io | false => s.io
    can := match p.can with | true => t.can | false => s.can
    ses := match p.ses with | true => t.ses | false => s.ses
    pwr := match p.pwr with | true => t.pwr | false => s.pwr
    tel := match p.tel with | true => t.tel | false => s.tel
    evr := match p.evr with | true => t.evr | false => s.evr
    lcd := match p.lcd with | true => t.lcd | false => s.lcd
    mod := match p.mod with | true => t.mod | false => s.mod }

theorem changesOnly_of_pick {p : Parts} {s t : State} (e : t = p.pick s t) : ChangesOnly p s t where
  pending := by rw [e]
  cells := fun h => by rw [e]; simp [h]
  store := fun h => by rw [e]; simp [h]
  img := fun h => by rw [e]; simp [h]
  keys := fun h => by rw [e]; simp [h]
  tb := fun h => by rw [e]; simp [h]
  tbAcc := fun h => by rw [e]; simp [h]
  tbLat := fun h => by rw [e]; simp [h]
  tsk := fun h => by rw [e]; simp [h]
  frc := fun h => by rw [e]; simp [h]
  laneA := fun h => by rw [e]; simp [h]
  laneB := fun h => by rw [e]; simp [h]
  lsk := fun h => by rw [e]; simp [h]
  pair := fun h => by rw [e]; simp [h]
  lease := fun h => by rw [e]; simp [h]
  mir := fun h => by rw [e]; simp [h]
  links := fun h => by rw [e]; simp [h]
  io := fun h => by rw [e]; simp [h]
  can := fun h => by rw [e]; simp [h]
  ses := fun h => by rw [e]; simp [h]
  pwr := fun h => by rw [e]; simp [h]
  tel := fun h => by rw [e]; simp [h]
  evr := fun h => by rw [e]; simp [h]
  lcd := fun h => by rw [e]; simp [h]
  mod := fun h => by rw [e]; simp [h]
  out := fun h => by rw [e]; simp [h]
  flight := fun h => by rw [e]; simp [h]
  free := fun h => by rw [e]; simp [h]

theorem ChangesOnly.refl (p : Parts) (s : State) : ChangesOnly p s s where
  pending := rfl
  keys := fun _ => ⟨rfl, rfl⟩
  cells := fun _ => rfl
  store := fun _ => rfl
  tb := fun _ => rfl
  tbAcc := fun _ => rfl
  tbLat := fun _ => rfl
  tsk := fun _ => rfl
  img := fun _ => rfl
  frc := fun _ => rfl
  laneA := fun _ => rfl
  laneB := fun _ => rfl
  lsk := fun _ => rfl
  pair := fun _ => rfl
  lease := fun _ => rfl
  mir := fun _ => rfl
  links := fun _ => rfl
  io := fun _ => rfl
  can := fun _ => rfl
  ses := fun _ => rfl
  pwr := fun _ => rfl
  tel := fun _ => rfl
  evr := fun _ => rfl
  lcd := fun _ => rfl
  mod := fun _ => rfl
  out := fun _ => rfl
  flight := fun _ => rfl
  free := fun _ => rfl

theorem ChangesOnly.trans {p q : Parts} {s t u : State} (h : ChangesOnly p s t) (k : ChangesOnly q t u) (hq : q.le p) :
    ChangesOnly p s u := by
  exact {
    pending := k.pending.trans h.pending
    store := fun e => by have a := h.store e; have b := k.store (Parts.not_of (congrArg Parts.store hq) e); rw [b, a]
    img := fun e => by have a := h.img e; have b := k.img (Parts.not_of (congrArg Parts.img hq) e); rw [b, a]
    keys := fun e => ⟨((k.keys (Parts.not_of (congrArg Parts.keys hq) e)).1).trans (h.keys e).1, ((k.keys (Parts.not_of (congrArg Parts.keys hq) e)).2).trans (h.keys e).2⟩
    cells := fun e => (k.cells (Parts.not_of (congrArg Parts.cells hq) e)).trans (h.cells e)
    tb := fun e => (k.tb (Parts.not_of (congrArg Parts.tb hq) e)).trans (h.tb e)
    tbAcc := fun e => (k.tbAcc (Parts.not_of (congrArg Parts.tbAcc hq) e)).trans (h.tbAcc e)
    tbLat := fun e => (k.tbLat (Parts.not_of (congrArg Parts.tbLat hq) e)).trans (h.tbLat e)
    tsk := fun e => (k.tsk (Parts.not_of (congrArg Parts.tsk hq) e)).trans (h.tsk e)
    frc := fun e => (k.frc (Parts.not_of (congrArg Parts.frc hq) e)).trans (h.frc e)
    laneA := fun e => (k.laneA (Parts.not_of (congrArg Parts.laneA hq) e)).trans (h.laneA e)
    laneB := fun e => (k.laneB (Parts.not_of (congrArg Parts.laneB hq) e)).trans (h.laneB e)
    lsk := fun e => (k.lsk (Parts.not_of (congrArg Parts.lsk hq) e)).trans (h.lsk e)
    pair := fun e => (k.pair (Parts.not_of (congrArg Parts.pair hq) e)).trans (h.pair e)
    lease := fun e => (k.lease (Parts.not_of (congrArg Parts.lease hq) e)).trans (h.lease e)
    mir := fun e => (k.mir (Parts.not_of (congrArg Parts.mir hq) e)).trans (h.mir e)
    links := fun e => (k.links (Parts.not_of (congrArg Parts.links hq) e)).trans (h.links e)
    io := fun e => (k.io (Parts.not_of (congrArg Parts.io hq) e)).trans (h.io e)
    can := fun e => (k.can (Parts.not_of (congrArg Parts.can hq) e)).trans (h.can e)
    ses := fun e => (k.ses (Parts.not_of (congrArg Parts.ses hq) e)).trans (h.ses e)
    pwr := fun e => (k.pwr (Parts.not_of (congrArg Parts.pwr hq) e)).trans (h.pwr e)
    tel := fun e => (k.tel (Parts.not_of (congrArg Parts.tel hq) e)).trans (h.tel e)
    evr := fun e => (k.evr (Parts.not_of (congrArg Parts.evr hq) e)).trans (h.evr e)
    lcd := fun e => (k.lcd (Parts.not_of (congrArg Parts.lcd hq) e)).trans (h.lcd e)
    mod := fun e => (k.mod (Parts.not_of (congrArg Parts.mod hq) e)).trans (h.mod e)
    out := fun e => (k.out (Parts.not_of (congrArg Parts.out hq) e)).trans (h.out e)
    flight := fun e => (k.flight (Parts.not_of (congrArg Parts.flight hq) e)).trans (h.flight e)
    free := fun e => (k.free (Parts.not_of (congrArg Parts.free hq) e)).trans (h.free e) }

theorem Keeps.refl (p : Parts) (s : State) : Keeps p s s := ⟨.refl p s, id, List.prefix_refl _, Nat.le_refl _⟩

/-- An operation with parts `q`, after operations with parts `p` that hold those of `q`. -/
theorem Keeps.via {q p : Parts} {s0 s t : State} (k : Keeps q s t) (hq : q.le p) (h : Keeps p s0 s) : Keeps p s0 t :=
  ⟨h.only.trans k.only hq, fun w => k.wf (h.wf w), h.sent.trans k.sent, Nat.le_trans h.fresh k.fresh⟩

theorem Keeps.mono {q p : Parts} {s t : State} (k : Keeps q s t) (hq : q.le p) : Keeps p s t := Keeps.via k hq (.refl p s)

/-- To show what an operation keeps, follow it from any earlier state, with any parts that hold its own. -/
theorem Keeps.start {q : Parts} {s t : State} (k : ∀ p s0, q.le p → Keeps p s0 s → Keeps p s0 t) : Keeps q s t :=
  k q s (Parts.le_refl q) (.refl q s)

/-- A record update. -/
theorem Keeps.upd {p q : Parts} {s0 s : State} {fl : List InFlight} {m : MemState} {x0 x1 x2 x3 x4 x5 x6 x7 x8 x9 x10 x11 x12 x13 x14 x15 x16 x17 x18 x19 x20}
    (hq : q.le p) (h : Keeps p s0 s) (hm : m.cells = s.mem.cells)
    (e : State.mk s.pending s.free s.out fl m x0 x1 x2 x3 x4 x5 x6 x7 x8 x9 x10 x11 x12 x13 x14 x15 x16 x17 x18 x19 x20 =
      q.pick s (State.mk s.pending s.free s.out fl m x0 x1 x2 x3 x4 x5 x6 x7 x8 x9 x10 x11 x12 x13 x14 x15 x16 x17 x18 x19 x20)) :
    Keeps p s0 (State.mk s.pending s.free s.out fl m x0 x1 x2 x3 x4 x5 x6 x7 x8 x9 x10 x11 x12 x13 x14 x15 x16 x17 x18 x19 x20) :=
  Keeps.via ⟨changesOnly_of_pick e, fun w => by rw [hm]; exact w, List.prefix_refl _, Nat.le_refl _⟩ hq h

theorem Keeps.of_snd {α : Type} {p : Parts} {s0 : State} {x : α × State} {a : α} {t : State} (e : x = (a, t)) (h : Keeps p s0 x.2) :
    Keeps p s0 t := by
  subst e; exact h

theorem Keeps.of_fst {α : Type} {p : Parts} {s0 : State} {x : State × α} {a : α} {t : State} (e : x = (t, a)) (h : Keeps p s0 x.1) :
    Keeps p s0 t := by
  subst e; exact h

theorem keeps_overAll {α : Type} {p : Parts} {s0 : State} (xs : List α) (f : α → State → State) (s : State)
    (hf : ∀ x t, Keeps p s0 t → Keeps p s0 (f x t)) (h : Keeps p s0 s) : Keeps p s0 (overAll xs f s) := by
  unfold overAll
  induction xs generalizing s with
  | nil => exact h
  | cons x rest ih => exact ih (f x s) (hf x s h)

theorem keeps_foldl {α β : Type} {p : Parts} {s0 : State} (xs : List α) (f : State × β → α → State × β) (x : State × β)
    (hf : ∀ y a, Keeps p s0 y.1 → Keeps p s0 (f y a).1) (h : Keeps p s0 x.1) : Keeps p s0 (xs.foldl f x).1 := by
  induction xs generalizing x with
  | nil => exact h
  | cons a rest ih => exact ih (f x a) (hf x a h)

theorem keeps_withMem (s : State) (m : List Host.Cell) (hm : Memory.wf s.mem.cells = true → Memory.wf m = true) :
    Keeps { cells := true } s (withMem s m) :=
  ⟨changesOnly_of_pick rfl, hm, List.prefix_refl _, Nat.le_refl _⟩

theorem keeps_emit (o : Out) (s : State) : Keeps { out := true } s (emit o s) :=
  ⟨changesOnly_of_pick rfl, id, List.prefix_append _ _, Nat.le_refl _⟩

theorem keeps_freeValue (w : Nat) (s : State) : Keeps { free := true } s (freeValue w s).2 :=
  ⟨changesOnly_of_pick rfl, id, List.prefix_refl _, Nat.le_succ _⟩

theorem writeInputs_wf (snap : List (Nat × W128)) (m : List Host.Cell) (h : Memory.wf m = true) : Memory.wf (writeInputs snap m) = true :=
  Memory.foldl_wf _ _ (fun _ _ hm => Memory.writeWord_wf _ _ _ _ hm) m h

theorem initVars_wf (i : Image) (m : List Host.Cell) (h : Memory.wf m = true) : Memory.wf (initVars i m) = true :=
  Memory.foldl_wf _ _ (fun _ _ hm => Memory.writeBytes_wf _ _ _ hm) m h

theorem preInitialise_wf (p : Plan) (m : List Host.Cell) (h : Memory.wf m = true) : Memory.wf (preInitialise p m) = true :=
  Memory.foldl_wf _ _ (fun _ _ hm => Memory.writeBytes_wf _ _ _ hm) m h

theorem granules_wf (gs : List (Nat × Granule)) (m : List Host.Cell) (h : Memory.wf m = true) :
    Memory.wf (gs.foldl (fun m g => Memory.writeBytes m (granuleAddr g.1) (leBytes 64 g.2.toNat)) m) = true :=
  Memory.foldl_wf _ _ (fun _ _ hm => Memory.writeBytes_wf _ _ _ hm) m h

theorem carry_wf (i : Image) (table : List (Fin 4096 × Force)) (p : Plan) (forced : List W64) (m : List Host.Cell)
    (h : Memory.wf m = true) : Memory.wf (writeForced i table (carryOver p forced m)) = true := by
  refine Memory.foldl_wf _ _ (fun c x hm => ?_) _ (Memory.foldl_wf _ _ (fun _ _ hm => Memory.writeBytes_wf _ _ _ hm) m h)
  split
  · exact Memory.writeBytes_wf _ _ _ hm
  · exact hm

theorem forceVars_wf (s : State) (c : Cycle) (a : Nat) (m : List Host.Cell) (h : Memory.wf m = true) : Memory.wf (forceVars s c a m).1 = true := by
  unfold forceVars
  split
  · exact h
  · generalize (c.forces.filter _) = xs
    have k : ∀ (xs : List (Fin 4096 × Force)) (y : List Host.Cell × List Nat), Memory.wf y.1 = true → ∀ f : List Host.Cell × List Nat → Fin 4096 × Force → List Host.Cell × List Nat,
        (∀ y x, Memory.wf y.1 = true → Memory.wf (f y x).1 = true) → Memory.wf (xs.foldl f y).1 = true := by
      intro xs
      induction xs with
      | nil => exact fun y hy f hf => hy
      | cons x rest ih => exact fun y hy f hf => ih (f y x) (hf y x hy) f hf
    refine k xs _ h _ (fun y x hy => ?_)
    dsimp only
    split
    · split
      · exact Memory.writeBytes_wf _ _ _ hy
      · exact hy
    · exact hy

/-- Memory and store emptied of what a cold start or the loss of power takes. -/
theorem Keeps.clear {p q : Parts} {s0 s : State} {fl : List InFlight} {m : MemState} {x0 x1 x2 x3 x4 x5 x6 x7 x8 x9 x10 x11 x12 x13 x14 x15 x16 x17 x18 x19 x20}
    (hq : q.le p) (h : Keeps p s0 s) (hm : m.cells = [])
    (e : State.mk s.pending s.free s.out fl m x0 x1 x2 x3 x4 x5 x6 x7 x8 x9 x10 x11 x12 x13 x14 x15 x16 x17 x18 x19 x20 =
      q.pick s (State.mk s.pending s.free s.out fl m x0 x1 x2 x3 x4 x5 x6 x7 x8 x9 x10 x11 x12 x13 x14 x15 x16 x17 x18 x19 x20)) :
    Keeps p s0 (State.mk s.pending s.free s.out fl m x0 x1 x2 x3 x4 x5 x6 x7 x8 x9 x10 x11 x12 x13 x14 x15 x16 x17 x18 x19 x20) :=
  Keeps.via ⟨changesOnly_of_pick e, fun _ => by rw [hm]; rfl, List.prefix_refl _, Nat.le_refl _⟩ hq h

end Sys2Proof.Machine
end

