-- ==== Sys2Proof/Laws/KeepsShared.lean ====
section
/-!
SUPPORT. What each operation of these files keeps: Ops, Req, PanelBase, Tick, Common, ValeBase, Mesh, Snapshot, Commit, Stats, Release, IslandBase, AnalogIn, AnalogOut, Plain, CanPort, Tasks, Force.
-/

namespace Sys2Proof.Machine

/-! ### Operations of Machine/Ops.lean -/

theorem keeps_countUnchecked (unchecked : Bool) (n : Nat) (s : State) :
    Keeps { lsk := true } s (countUnchecked unchecked n s) := by
  refine Keeps.start fun p s0 hp h => ?_
  unfold countUnchecked
  repeat' (first
    | with_reducible assumption
    | (intro x; clear_value x)
    | lift_lets
    | split
    | fail_if_no_progress ((with_reducible apply Keeps.upd hp) <;> [skip; (with_reducible rfl); (with_reducible rfl)]))

theorem keeps_saddle (m : Saddle) (s : State) :
    Keeps { lsk := true, pair := true, out := true } s (saddle m s) := by
  refine Keeps.start fun p s0 hp h => ?_
  unfold saddle
  repeat' (first
    | ((with_reducible refine Parts.le_trans ?_ hp); exact rfl)
    | with_reducible assumption
    | (intro x; refine_lift have hx : Keeps p s0 x := ?_; ?_; on_goal 2 => unfold x; on_goal 1 => clear_value x)
    | (intro x; clear_value x)
    | lift_lets
    | split
    | with_reducible apply Keeps.via (keeps_emit _ _)
    | with_reducible apply Keeps.via (keeps_countUnchecked _ _ _)
    | fail_if_no_progress ((with_reducible apply Keeps.upd hp) <;> [skip; (with_reducible rfl); (with_reducible rfl)]))

theorem keeps_sendPart (l : Fin 2) (unchecked : Bool) (m : Saddle) (s : State) :
    Keeps { lsk := true, out := true, flight := true } s (sendPart l unchecked m s) := by
  refine Keeps.start fun p s0 hp h => ?_
  unfold sendPart
  repeat' (first
    | ((with_reducible refine Parts.le_trans ?_ hp); exact rfl)
    | with_reducible assumption
    | lift_lets
    | with_reducible apply Keeps.via (keeps_emit _ _)
    | with_reducible apply Keeps.via (keeps_countUnchecked _ _ _)
    | fail_if_no_progress ((with_reducible apply Keeps.upd hp) <;> [skip; (with_reducible rfl); (with_reducible rfl)]))

theorem keeps_saddleData (unchecked : Bool) (msg : List (Nat × Granule) → Saddle) (gs : List (Nat × Granule)) (s : State) :
    Keeps { lsk := true, out := true, flight := true } s (saddleData unchecked msg gs s) := by
  refine Keeps.start fun p s0 hp h => ?_
  unfold saddleData
  repeat' (first
    | ((with_reducible refine Parts.le_trans ?_ hp); exact rfl)
    | with_reducible assumption
    | (intro x; clear_value x)
    | intro x
    | lift_lets
    | split
    | with_reducible apply Keeps.via (keeps_sendPart _ _ _ _)
    | with_reducible apply keeps_overAll)

theorem keeps_freshId (s : State) :
    Keeps { pair := true } s (freshId s).2 := by
  refine Keeps.start fun p s0 hp h => ?_
  unfold freshId
  repeat' (first
    | with_reducible assumption
    | (intro x; clear_value x)
    | lift_lets
    | dsimp -zeta only
    | fail_if_no_progress ((with_reducible apply Keeps.upd hp) <;> [skip; (with_reducible rfl); (with_reducible rfl)]))

theorem keeps_enqueueEv (e : Ev) (s : State) :
    Keeps { evr := true } s (enqueueEv e s) := by
  refine Keeps.start fun p s0 hp h => ?_
  unfold enqueueEv
  repeat' (first
    | with_reducible assumption
    | (intro x; clear_value x)
    | lift_lets
    | split
    | fail_if_no_progress ((with_reducible apply Keeps.upd hp) <;> [skip; (with_reducible rfl); (with_reducible rfl)]))

theorem keeps_logEv (code : Nat) (det : Bool) (fields : List (Nat × Nat)) (s : State) :
    Keeps { evr := true } s (logEv code det fields s) := by
  refine Keeps.start fun p s0 hp h => ?_
  unfold logEv
  repeat' (first
    | ((with_reducible refine Parts.le_trans ?_ hp); exact rfl)
    | with_reducible assumption
    | with_reducible apply Keeps.via (keeps_enqueueEv _ _))

theorem keeps_logSes (code : Nat) (det : Bool) (se : Fin 64) (fields : List (Nat × Nat)) (s : State) :
    Keeps { evr := true } s (logSes code det se fields s) := by
  refine Keeps.start fun p s0 hp h => ?_
  unfold logSes
  repeat' (first
    | ((with_reducible refine Parts.le_trans ?_ hp); exact rfl)
    | with_reducible assumption
    | with_reducible apply Keeps.via (keeps_enqueueEv _ _))

theorem keeps_logOpen (s : State) :
    Keeps { evr := true, free := true } s (logOpen s) := by
  refine Keeps.start fun p s0 hp h => ?_
  unfold logOpen
  repeat' (first
    | ((with_reducible refine Parts.le_trans ?_ hp); exact rfl)
    | with_reducible assumption
    | lift_lets
    | split
    | with_reducible apply Keeps.of_snd (by assumption)
    | with_reducible apply Keeps.via (keeps_freeValue _ _)
    | with_reducible apply Keeps.via (keeps_enqueueEv _ _))

theorem keeps_trigger (t : TrigReg) (s : State) :
    Keeps { tsk := true } s (trigger t s) := by
  refine Keeps.start fun p s0 hp h => ?_
  unfold trigger
  repeat' (first
    | with_reducible assumption
    | (intro x; clear_value x)
    | lift_lets
    | split
    | fail_if_no_progress ((with_reducible apply Keeps.upd hp) <;> [skip; (with_reducible rfl); (with_reducible rfl)]))

theorem keeps_triggerMatch (code a b stamp : Nat) (arg info : W32) (s : State) :
    Keeps { tsk := true } s (triggerMatch code a b stamp arg info s) := by
  refine Keeps.start fun p s0 hp h => ?_
  unfold triggerMatch
  repeat' (first
    | ((with_reducible refine Parts.le_trans ?_ hp); exact rfl)
    | with_reducible assumption
    | with_reducible apply Keeps.via (keeps_trigger _ _))

theorem keeps_triggerReason (task : Option (Fin 128)) (reason : Byte) (arg info : W32) (s : State) :
    Keeps { tsk := true } s (triggerReason task reason arg info s) := by
  refine Keeps.start fun p s0 hp h => ?_
  unfold triggerReason
  repeat' (first
    | ((with_reducible refine Parts.le_trans ?_ hp); exact rfl)
    | with_reducible assumption
    | split
    | with_reducible apply Keeps.via (keeps_trigger _ _))

theorem keeps_onTask (t : Fin 128) (f : TaskRt → TaskRt) (s : State) :
    Keeps { tsk := true } s (onTask t f s) := by
  refine Keeps.start fun p s0 hp h => ?_
  unfold onTask
  repeat' (first
    | with_reducible assumption
    | (intro x; clear_value x)
    | lift_lets
    | fail_if_no_progress ((with_reducible apply Keeps.upd hp) <;> [skip; (with_reducible rfl); (with_reducible rfl)]))

theorem keeps_onTaskStats (t : Fin 128) (f : TaskStats → TaskStats) (s : State) :
    Keeps { tsk := true } s (onTaskStats t f s) := by
  refine Keeps.start fun p s0 hp h => ?_
  unfold onTaskStats
  repeat' (first
    | with_reducible assumption
    | (intro x; clear_value x)
    | lift_lets
    | fail_if_no_progress ((with_reducible apply Keeps.upd hp) <;> [skip; (with_reducible rfl); (with_reducible rfl)]))

theorem keeps_onCycle (t : Fin 128) (f : Cycle → Cycle) (s : State) :
    Keeps { tsk := true } s (onCycle t f s) := by
  refine Keeps.start fun p s0 hp h => ?_
  unfold onCycle
  repeat' (first
    | ((with_reducible refine Parts.le_trans ?_ hp); exact rfl)
    | with_reducible assumption
    | with_reducible apply Keeps.via (keeps_onTask _ _ _))

theorem keeps_onChan (c : Fin 192) (f : Chan → Chan) (s : State) :
    Keeps { io := true } s (onChan c f s) := by
  refine Keeps.start fun p s0 hp h => ?_
  unfold onChan
  repeat' (first
    | with_reducible assumption
    | (intro x; clear_value x)
    | lift_lets
    | fail_if_no_progress ((with_reducible apply Keeps.upd hp) <;> [skip; (with_reducible rfl); (with_reducible rfl)]))

theorem keeps_onAi (c : Fin 192) (f : AiChan → AiChan) (s : State) :
    Keeps { io := true } s (onAi c f s) := by
  refine Keeps.start fun p s0 hp h => ?_
  unfold onAi
  repeat' (first
    | with_reducible assumption
    | (intro x; clear_value x)
    | lift_lets
    | fail_if_no_progress ((with_reducible apply Keeps.upd hp) <;> [skip; (with_reducible rfl); (with_reducible rfl)]))

theorem keeps_onAo (c : Fin 192) (f : AoChan → AoChan) (s : State) :
    Keeps { io := true } s (onAo c f s) := by
  refine Keeps.start fun p s0 hp h => ?_
  unfold onAo
  repeat' (first
    | with_reducible assumption
    | (intro x; clear_value x)
    | lift_lets
    | fail_if_no_progress ((with_reducible apply Keeps.upd hp) <;> [skip; (with_reducible rfl); (with_reducible rfl)]))

theorem keeps_onDi (c : Fin 192) (f : DiChan → DiChan) (s : State) :
    Keeps { io := true } s (onDi c f s) := by
  refine Keeps.start fun p s0 hp h => ?_
  unfold onDi
  repeat' (first
    | with_reducible assumption
    | (intro x; clear_value x)
    | lift_lets
    | fail_if_no_progress ((with_reducible apply Keeps.upd hp) <;> [skip; (with_reducible rfl); (with_reducible rfl)]))

theorem keeps_onDo (c : Fin 192) (f : DoChan → DoChan) (s : State) :
    Keeps { io := true } s (onDo c f s) := by
  refine Keeps.start fun p s0 hp h => ?_
  unfold onDo
  repeat' (first
    | with_reducible assumption
    | (intro x; clear_value x)
    | lift_lets
    | fail_if_no_progress ((with_reducible apply Keeps.upd hp) <;> [skip; (with_reducible rfl); (with_reducible rfl)]))

theorem keeps_onIsl (n : Fin 24) (f : Isl → Isl) (s : State) :
    Keeps { io := true } s (onIsl n f s) := by
  refine Keeps.start fun p s0 hp h => ?_
  unfold onIsl
  repeat' (first
    | with_reducible assumption
    | (intro x; clear_value x)
    | lift_lets
    | fail_if_no_progress ((with_reducible apply Keeps.upd hp) <;> [skip; (with_reducible rfl); (with_reducible rfl)]))

theorem keeps_onOwn (n : Fin 24) (f : IslSelf → IslSelf) (s : State) :
    Keeps { io := true } s (onOwn n f s) := by
  refine Keeps.start fun p s0 hp h => ?_
  unfold onOwn
  repeat' (first
    | with_reducible assumption
    | (intro x; clear_value x)
    | lift_lets
    | fail_if_no_progress ((with_reducible apply Keeps.upd hp) <;> [skip; (with_reducible rfl); (with_reducible rfl)]))

theorem keeps_onSup (n : Fin 24) (f : IslSupply → IslSupply) (s : State) :
    Keeps { io := true } s (onSup n f s) := by
  refine Keeps.start fun p s0 hp h => ?_
  unfold onSup
  repeat' (first
    | with_reducible assumption
    | (intro x; clear_value x)
    | lift_lets
    | fail_if_no_progress ((with_reducible apply Keeps.upd hp) <;> [skip; (with_reducible rfl); (with_reducible rfl)]))

theorem keeps_onIslStats (n : Fin 24) (f : IslStats → IslStats) (s : State) :
    Keeps { io := true } s (onIslStats n f s) := by
  refine Keeps.start fun p s0 hp h => ?_
  unfold onIslStats
  repeat' (first
    | with_reducible assumption
    | (intro x; clear_value x)
    | lift_lets
    | fail_if_no_progress ((with_reducible apply Keeps.upd hp) <;> [skip; (with_reducible rfl); (with_reducible rfl)]))

theorem keeps_onLink (l : Fin 24) (f : Lnk → Lnk) (s : State) :
    Keeps { links := true } s (onLink l f s) := by
  refine Keeps.start fun p s0 hp h => ?_
  unfold onLink
  repeat' (first
    | with_reducible assumption
    | fail_if_no_progress ((with_reducible apply Keeps.upd hp) <;> [skip; (with_reducible rfl); (with_reducible rfl)]))

theorem keeps_onStn (l : Fin 24) (p : Fin 32) (f : Stn → Stn) (s : State) :
    Keeps { links := true } s (onStn l p f s) := by
  refine Keeps.start fun p s0 hp h => ?_
  unfold onStn
  repeat' (first
    | ((with_reducible refine Parts.le_trans ?_ hp); exact rfl)
    | with_reducible assumption
    | with_reducible apply Keeps.via (keeps_onLink _ _ _))

theorem keeps_onBring (l : Fin 24) (p : Fin 32) (f : Bring → Bring) (s : State) :
    Keeps { links := true } s (onBring l p f s) := by
  refine Keeps.start fun p s0 hp h => ?_
  unfold onBring
  repeat' (first
    | ((with_reducible refine Parts.le_trans ?_ hp); exact rfl)
    | with_reducible assumption
    | with_reducible apply Keeps.via (keeps_onLink _ _ _))

theorem keeps_onCan (p : Fin 4) (f : Can → Can) (s : State) :
    Keeps { can := true } s (onCan p f s) := by
  refine Keeps.start fun p s0 hp h => ?_
  unfold onCan
  repeat' (first
    | with_reducible assumption
    | fail_if_no_progress ((with_reducible apply Keeps.upd hp) <;> [skip; (with_reducible rfl); (with_reducible rfl)]))

theorem keeps_onSess (se : Fin 64) (f : Sess → Sess) (s : State) :
    Keeps { ses := true } s (onSess se f s) := by
  refine Keeps.start fun p s0 hp h => ?_
  unfold onSess
  repeat' (first
    | with_reducible assumption
    | (intro x; clear_value x)
    | lift_lets
    | fail_if_no_progress ((with_reducible apply Keeps.upd hp) <;> [skip; (with_reducible rfl); (with_reducible rfl)]))

theorem keeps_setRes (se : Fin 64) (g : ResReg) (v : W32) (s : State) :
    Keeps { ses := true } s (setRes se g v s) := by
  refine Keeps.start fun p s0 hp h => ?_
  unfold setRes
  repeat' (first
    | ((with_reducible refine Parts.le_trans ?_ hp); exact rfl)
    | with_reducible assumption
    | with_reducible apply Keeps.via (keeps_onSess _ _ _))

theorem keeps_answer (asker : Origin) (g : ResReg) (v : W32) (s : State) :
    Keeps { lsk := true, pair := true, ses := true, out := true } s (answer asker g v s) := by
  refine Keeps.start fun p s0 hp h => ?_
  unfold answer
  repeat' (first
    | ((with_reducible refine Parts.le_trans ?_ hp); exact rfl)
    | with_reducible assumption
    | split
    | with_reducible apply Keeps.via (keeps_saddle _ _)
    | with_reducible apply Keeps.via (keeps_setRes _ _ _ _))

theorem keeps_answerOpt (asker : Option Origin) (g : ResReg) (v : W32) (s : State) :
    Keeps { lsk := true, pair := true, ses := true, out := true } s (answerOpt asker g v s) := by
  refine Keeps.start fun p s0 hp h => ?_
  unfold answerOpt
  repeat' (first
    | ((with_reducible refine Parts.le_trans ?_ hp); exact rfl)
    | with_reducible assumption
    | split
    | with_reducible apply Keeps.via (keeps_answer _ _ _ _))

theorem keeps_reply (se : Fin 64) (typ : Nat) (tag : W32) (status : Status) (body : List Byte) (s : State) :
    Keeps { out := true } s (reply se typ tag status body s) := by
  refine Keeps.start fun p s0 hp h => ?_
  unfold reply
  repeat' (first
    | ((with_reducible refine Parts.le_trans ?_ hp); exact rfl)
    | with_reducible assumption
    | split
    | with_reducible apply Keeps.via (keeps_emit _ _))

theorem keeps_settle (a : Owed) (s : State) :
    Keeps { lsk := true, pair := true, mir := true, ses := true, out := true } s (settle a s) := by
  refine Keeps.start fun p s0 hp h => ?_
  unfold settle
  repeat' (first
    | ((with_reducible refine Parts.le_trans ?_ hp); exact rfl)
    | with_reducible assumption
    | (intro x; clear_value x)
    | lift_lets
    | split
    | with_reducible apply Keeps.via (keeps_saddle _ _)
    | with_reducible apply Keeps.via (keeps_answer _ _ _ _)
    | with_reducible apply Keeps.via (keeps_reply _ _ _ _ _ _)
    | fail_if_no_progress ((with_reducible apply Keeps.upd hp) <;> [skip; (with_reducible rfl); (with_reducible rfl)]))

theorem keeps_settleAll (as : List Owed) (s : State) :
    Keeps { lsk := true, pair := true, mir := true, ses := true, out := true } s (settleAll as s) := by
  refine Keeps.start fun p s0 hp h => ?_
  unfold settleAll
  repeat' (first
    | ((with_reducible refine Parts.le_trans ?_ hp); exact rfl)
    | with_reducible assumption
    | intro x
    | lift_lets
    | with_reducible apply Keeps.via (keeps_settle _ _)
    | with_reducible apply keeps_overAll)

theorem keeps_addWait (id : Nat) (se : Option (Fin 64)) (acts : List Owed) (s : State) :
    Keeps { pair := true } s (addWait id se acts s) := by
  refine Keeps.start fun p s0 hp h => ?_
  unfold addWait
  repeat' (first
    | with_reducible assumption
    | (intro x; clear_value x)
    | lift_lets
    | fail_if_no_progress ((with_reducible apply Keeps.upd hp) <;> [skip; (with_reducible rfl); (with_reducible rfl)]))

theorem keeps_oweOn (id : Nat) (se : Option (Fin 64)) (acts : List Owed) (s : State) :
    Keeps { lsk := true, pair := true, mir := true, ses := true, out := true } s (oweOn id se acts s) := by
  refine Keeps.start fun p s0 hp h => ?_
  unfold oweOn
  repeat' (first
    | ((with_reducible refine Parts.le_trans ?_ hp); exact rfl)
    | with_reducible assumption
    | split
    | with_reducible apply Keeps.via (keeps_settleAll _ _)
    | with_reducible apply Keeps.via (keeps_addWait _ _ _ _))

theorem keeps_confirmed (id : Nat) (s : State) :
    Keeps { lsk := true, pair := true, mir := true, ses := true, out := true } s (confirmed id s) := by
  refine Keeps.start fun p s0 hp h => ?_
  unfold confirmed
  repeat' (first
    | ((with_reducible refine Parts.le_trans ?_ hp); exact rfl)
    | with_reducible assumption
    | (intro x; clear_value x)
    | intro x
    | lift_lets
    | with_reducible apply Keeps.via (keeps_settle _ _)
    | with_reducible apply keeps_overAll
    | fail_if_no_progress ((with_reducible apply Keeps.upd hp) <;> [skip; (with_reducible rfl); (with_reducible rfl)]))

theorem keeps_oweAll (ids : List Nat) (acts : List Owed) (s : State) :
    Keeps { lsk := true, pair := true, mir := true, ses := true, out := true } s (oweAll ids acts s) := by
  refine Keeps.start fun p s0 hp h => ?_
  unfold oweAll
  repeat' (first
    | ((with_reducible refine Parts.le_trans ?_ hp); exact rfl)
    | with_reducible assumption
    | (intro x; clear_value x)
    | lift_lets
    | split
    | with_reducible apply Keeps.via (keeps_settleAll _ _)
    | fail_if_no_progress ((with_reducible apply Keeps.upd hp) <;> [skip; (with_reducible rfl); (with_reducible rfl)]))

theorem keeps_releaseWaits (s : State) :
    Keeps { lsk := true, pair := true, mir := true, ses := true, out := true } s (releaseWaits s) := by
  refine Keeps.start fun p s0 hp h => ?_
  unfold releaseWaits
  repeat' (first
    | ((with_reducible refine Parts.le_trans ?_ hp); exact rfl)
    | with_reducible assumption
    | (intro x; clear_value x)
    | intro x
    | lift_lets
    | with_reducible apply Keeps.via (keeps_settle _ _)
    | with_reducible apply keeps_overAll
    | fail_if_no_progress ((with_reducible apply Keeps.upd hp) <;> [skip; (with_reducible rfl); (with_reducible rfl)]))

theorem keeps_persist (v : PValue) (act : PAct) (s : State) :
    Keeps { store := true } s (persist v act s) := by
  refine Keeps.start fun p s0 hp h => ?_
  unfold persist
  repeat' (first
    | with_reducible assumption
    | intro (x : MemState)
    | lift_lets
    | fail_if_no_progress ((with_reducible apply Keeps.upd hp) <;> [skip; (with_reducible rfl); (with_reducible rfl)]))

/-! ### Operations of Machine/Req.lean -/

theorem keeps_violation (se : Fin 64) (r : Refuse) (s : State) :
    Keeps { ses := true, evr := true, out := true } s (violation se r s) := by
  refine Keeps.start fun p s0 hp h => ?_
  unfold violation
  repeat' (first
    | ((with_reducible refine Parts.le_trans ?_ hp); exact rfl)
    | with_reducible assumption
    | (intro x; refine_lift have hx : Keeps p s0 x := ?_; ?_; on_goal 2 => unfold x; on_goal 1 => clear_value x)
    | (intro x; clear_value x)
    | lift_lets
    | split
    | with_reducible apply Keeps.via (keeps_emit _ _)
    | with_reducible apply Keeps.via (keeps_logSes _ _ _ _ _)
    | with_reducible apply Keeps.via (keeps_onSess _ _ _)
    | fail_if_no_progress ((with_reducible apply Keeps.upd hp) <;> [skip; (with_reducible rfl); (with_reducible rfl)]))

theorem keeps_noteWrite (se : Fin 64) (bad : Option Refuse) (s : State) :
    Keeps { ses := true } s (noteWrite se bad s) := by
  refine Keeps.start fun p s0 hp h => ?_
  unfold noteWrite
  repeat' (first
    | ((with_reducible refine Parts.le_trans ?_ hp); exact rfl)
    | with_reducible assumption
    | split
    | with_reducible apply Keeps.via (keeps_onSess _ _ _))

theorem keeps_noteLate (se : Fin 64) (id : Nat) (r : Refuse) (s : State) :
    Keeps { ses := true } s (noteLate se id r s) := by
  refine Keeps.start fun p s0 hp h => ?_
  unfold noteLate
  repeat' (first
    | ((with_reducible refine Parts.le_trans ?_ hp); exact rfl)
    | with_reducible assumption
    | with_reducible apply Keeps.via (keeps_onSess _ _ _))

theorem keeps_serveFence (se : Fin 64) (s : State) :
    Keeps { ses := true, out := true } s (serveFence se s) := by
  refine Keeps.start fun p s0 hp h => ?_
  unfold serveFence
  repeat' (first
    | ((with_reducible refine Parts.le_trans ?_ hp); exact rfl)
    | with_reducible assumption
    | (intro x; clear_value x)
    | intro x
    | lift_lets
    | with_reducible apply Keeps.via (keeps_onSess _ _ _)
    | with_reducible apply Keeps.via (keeps_reply _ _ _ _ _ _)
    | with_reducible apply keeps_overAll)

theorem keeps_serveFences (s : State) :
    Keeps { ses := true, out := true } s (serveFences s) := by
  refine Keeps.start fun p s0 hp h => ?_
  unfold serveFences
  repeat' (first
    | ((with_reducible refine Parts.le_trans ?_ hp); exact rfl)
    | with_reducible assumption
    | intro x
    | lift_lets
    | with_reducible apply Keeps.via (keeps_serveFence _ _)
    | with_reducible apply keeps_overAll)

theorem keeps_serveHeldReads (s : State) :
    Keeps { ses := true, out := true } s (serveHeldReads s) := by
  refine Keeps.start fun p s0 hp h => ?_
  unfold serveHeldReads
  repeat' (first
    | ((with_reducible refine Parts.le_trans ?_ hp); exact rfl)
    | with_reducible assumption
    | (intro x; clear_value x)
    | intro x
    | lift_lets
    | with_reducible apply Keeps.via (keeps_reply _ _ _ _ _ _)
    | with_reducible apply keeps_overAll
    | fail_if_no_progress ((with_reducible apply Keeps.upd hp) <;> [skip; (with_reducible rfl); (with_reducible rfl)]))

theorem keeps_refusal (se : Fin 64) (r : Refuse) (s : State) :
    Keeps { ses := true, evr := true, out := true } s (refusal se r s) := by
  refine Keeps.start fun p s0 hp h => ?_
  unfold refusal
  repeat' (first
    | ((with_reducible refine Parts.le_trans ?_ hp); exact rfl)
    | with_reducible assumption
    | split
    | with_reducible apply Keeps.via (keeps_violation _ _ _))

theorem keeps_relay (se : Fin 64) (reg : Option ResReg) (typ : Nat) (tag : Option W32) (addr len : Nat) (body : RelayBody) (s : State) :
    Keeps { lsk := true, pair := true, mir := true, ses := true, out := true } s (relay se reg typ tag addr len body s) := by
  refine Keeps.start fun p s0 hp h => ?_
  unfold relay
  repeat' (first
    | ((with_reducible refine Parts.le_trans ?_ hp); exact rfl)
    | with_reducible assumption
    | (intro x; clear_value x)
    | lift_lets
    | with_reducible apply Keeps.via (keeps_saddle _ _)
    | with_reducible apply Keeps.via (keeps_freshId _)
    | fail_if_no_progress ((with_reducible apply Keeps.upd hp) <;> [skip; (with_reducible rfl); (with_reducible rfl)]))

theorem keeps_applyCmd {p : Parts} {s0 : State} {k : CmdReg} {value : W32} {se : Fin 64} {op : Req → State → State} {s : State} (hp : ({ lsk := true, pair := true, mir := true, ses := true, out := true } : Parts).le p) (hop : ∀ x0 x1, Keeps p s0 x1 → Keeps p s0 (op x0 x1))
    (h : Keeps p s0 s) : Keeps p s0 (applyCmd k value se op s) := by
  unfold applyCmd
  repeat' (first
    | ((with_reducible refine Parts.le_trans ?_ hp); exact rfl)
    | with_reducible assumption
    | split
    | with_reducible apply hop
    | with_reducible apply Keeps.via (keeps_setRes _ _ _ _)
    | with_reducible apply Keeps.via (keeps_relay _ _ _ _ _ _ _ _))

theorem keeps_sessionCmd {p : Parts} {s0 : State} {k : CmdReg} {value : W32} {se : Fin 64} {op : Req → State → State} {s : State} (hp : ({ lsk := true, pair := true, mir := true, ses := true, evr := true, out := true } : Parts).le p) (hop : ∀ x0 x1, Keeps p s0 x1 → Keeps p s0 (op x0 x1))
    (h : Keeps p s0 s) : Keeps p s0 (sessionCmd k value se op s) := by
  unfold sessionCmd
  repeat' (first
    | ((with_reducible refine Parts.le_trans ?_ hp); exact rfl)
    | with_reducible assumption
    | (intro x; refine_lift have hx : Keeps p s0 x := ?_; ?_; on_goal 2 => unfold x; on_goal 1 => clear_value x)
    | lift_lets
    | split
    | with_reducible apply Keeps.via (keeps_onSess _ _ _)
    | with_reducible apply Keeps.via (keeps_setRes _ _ _ _)
    | with_reducible apply Keeps.via (keeps_noteWrite _ _ _)
    | with_reducible apply Keeps.via (keeps_refusal _ _ _)
    | with_reducible apply keeps_applyCmd)

/-! ### Operations of Machine/PanelBase.lean -/

theorem keeps_onRegion (n : Fin 16) (f : Region → Region) (s : State) :
    Keeps { lcd := true } s (onRegion n f s) := by
  refine Keeps.start fun p s0 hp h => ?_
  unfold onRegion
  repeat' (first
    | with_reducible assumption
    | (intro x; clear_value x)
    | lift_lets
    | fail_if_no_progress ((with_reducible apply Keeps.upd hp) <;> [skip; (with_reducible rfl); (with_reducible rfl)]))

theorem keeps_countRepl (s : State) :
    Keeps { lcd := true } s (countRepl s) := by
  refine Keeps.start fun p s0 hp h => ?_
  unfold countRepl
  repeat' (first
    | with_reducible assumption
    | (intro x; clear_value x)
    | lift_lets
    | fail_if_no_progress ((with_reducible apply Keeps.upd hp) <;> [skip; (with_reducible rfl); (with_reducible rfl)]))

theorem keeps_updResult (u : PanelUpd) (r : W32) (s : State) :
    Keeps { ses := true } s (updResult u r s) := by
  refine Keeps.start fun p s0 hp h => ?_
  unfold updResult
  repeat' (first
    | ((with_reducible refine Parts.le_trans ?_ hp); exact rfl)
    | with_reducible assumption
    | split
    | with_reducible apply Keeps.via (keeps_setRes _ _ _ _))

theorem keeps_panelActive (s : State) :
    Keeps { lcd := true } s (panelActive s) := by
  refine Keeps.start fun p s0 hp h => ?_
  unfold panelActive
  repeat' (first
    | with_reducible assumption
    | (intro x; clear_value x)
    | lift_lets
    | fail_if_no_progress ((with_reducible apply Keeps.upd hp) <;> [skip; (with_reducible rfl); (with_reducible rfl)]))

theorem keeps_startUpdate (n : Fin 16) (u : PanelUpd) (s : State) :
    Keeps { ses := true, lcd := true } s (startUpdate n u s) := by
  refine Keeps.start fun p s0 hp h => ?_
  unfold startUpdate
  repeat' (first
    | ((with_reducible refine Parts.le_trans ?_ hp); exact rfl)
    | with_reducible assumption
    | (intro x; refine_lift have hx : Keeps p s0 x := ?_; ?_; on_goal 2 => unfold x; on_goal 1 => clear_value x)
    | (intro x; clear_value x)
    | lift_lets
    | split
    | with_reducible apply Keeps.via (keeps_onRegion _ _ _)
    | with_reducible apply Keeps.via (keeps_countRepl _)
    | with_reducible apply Keeps.via (keeps_updResult _ _ _)
    | with_reducible apply Keeps.via (keeps_panelActive _))

theorem keeps_showModule (s : State) :
    Keeps { ses := true, lcd := true } s (showModule s) := by
  refine Keeps.start fun p s0 hp h => ?_
  unfold showModule
  repeat' (first
    | ((with_reducible refine Parts.le_trans ?_ hp); exact rfl)
    | with_reducible assumption
    | (intro x; clear_value x)
    | intro x
    | lift_lets
    | split
    | with_reducible apply Keeps.via (keeps_startUpdate _ _ _)
    | with_reducible apply keeps_overAll)

/-! ### Operations of Machine/Tick.lean -/

theorem keeps_tick (s : State) :
    Keeps { tb := true, io := true, tel := true } s (tick s) := by
  refine Keeps.start fun p s0 hp h => ?_
  unfold tick
  repeat' (first
    | with_reducible assumption
    | (intro x; clear_value x)
    | lift_lets
    | split
    | fail_if_no_progress ((with_reducible apply Keeps.upd hp) <;> [skip; (with_reducible rfl); (with_reducible rfl)]))

/-! ### Operations of Machine/Common.lean -/

theorem keeps_imgFail (source : Fin 4) (code sect : Byte) (loc : Nat) (s : State) :
    Keeps { img := true, ses := true, evr := true, lcd := true } s (imgFail source code sect loc s) := by
  refine Keeps.start fun p s0 hp h => ?_
  unfold imgFail
  repeat' (first
    | ((with_reducible refine Parts.le_trans ?_ hp); exact rfl)
    | with_reducible assumption
    | intro (x : Img)
    | lift_lets
    | with_reducible apply Keeps.via (keeps_logEv _ _ _ _)
    | with_reducible apply Keeps.via (keeps_showModule _)
    | fail_if_no_progress ((with_reducible apply Keeps.upd hp) <;> [skip; (with_reducible rfl); (with_reducible rfl)]))

theorem keeps_abortLoad (s : State) :
    Keeps { img := true, ses := true, evr := true, lcd := true } s (abortLoad s) := by
  refine Keeps.start fun p s0 hp h => ?_
  unfold abortLoad
  repeat' (first
    | ((with_reducible refine Parts.le_trans ?_ hp); exact rfl)
    | with_reducible assumption
    | split
    | with_reducible apply Keeps.via (keeps_imgFail _ _ _ _ _))

theorem keeps_endClaim (event : Nat) (s : State) :
    Keeps { img := true, ses := true, evr := true, lcd := true, out := true } s (endClaim event s) := by
  refine Keeps.start fun p s0 hp h => ?_
  unfold endClaim
  repeat' (first
    | ((with_reducible refine Parts.le_trans ?_ hp); exact rfl)
    | with_reducible assumption
    | (intro x; refine_lift have hx : Keeps p s0 x := ?_; ?_; on_goal 2 => unfold x; on_goal 1 => clear_value x)
    | (intro x; clear_value x)
    | lift_lets
    | split
    | with_reducible apply Keeps.via (keeps_emit _ _)
    | with_reducible apply Keeps.via (keeps_logSes _ _ _ _ _)
    | with_reducible apply Keeps.via (keeps_abortLoad _)
    | fail_if_no_progress ((with_reducible apply Keeps.upd hp) <;> [skip; (with_reducible rfl); (with_reducible rfl)]))

theorem keeps_forgetSession (se : Fin 64) (s : State) :
    Keeps { tsk := true, img := true, lsk := true, pair := true, lease := true, links := true, io := true, pwr := true, evr := true, lcd := true, mod := true } s (forgetSession se s) := by
  refine Keeps.start fun p s0 hp h => ?_
  unfold forgetSession
  repeat' (first
    | with_reducible assumption
    | intro (x : Img)
    | (intro x; clear_value x)
    | lift_lets
    | split
    | fail_if_no_progress ((with_reducible apply Keeps.upd hp) <;> [skip; (with_reducible rfl); (with_reducible rfl)]))

theorem keeps_closeSession (cause : Nat) (se : Fin 64) (s : State) :
    Keeps { tsk := true, img := true, lsk := true, pair := true, lease := true, mir := true, links := true, io := true, ses := true, pwr := true, evr := true, lcd := true, mod := true, out := true } s (closeSession cause se s) := by
  refine Keeps.start fun p s0 hp h => ?_
  unfold closeSession
  repeat' (first
    | ((with_reducible refine Parts.le_trans ?_ hp); exact rfl)
    | with_reducible assumption
    | (intro x; refine_lift have hx : Keeps p s0 x := ?_; ?_; on_goal 2 => unfold x; on_goal 1 => clear_value x)
    | (intro x; clear_value x)
    | lift_lets
    | split
    | with_reducible apply Keeps.via (keeps_emit _ _)
    | with_reducible apply Keeps.via (keeps_logSes _ _ _ _ _)
    | with_reducible apply Keeps.via (keeps_relay _ _ _ _ _ _ _ _)
    | with_reducible apply Keeps.via (keeps_endClaim _ _)
    | with_reducible apply Keeps.via (keeps_forgetSession _ _)
    | fail_if_no_progress ((with_reducible apply Keeps.upd hp) <;> [skip; (with_reducible rfl); (with_reducible rfl)]))

theorem keeps_closeAll (cause : Nat) (s : State) :
    Keeps { tsk := true, img := true, lsk := true, pair := true, lease := true, mir := true, links := true, io := true, ses := true, pwr := true, evr := true, lcd := true, mod := true, out := true } s (closeAll cause s) := by
  refine Keeps.start fun p s0 hp h => ?_
  unfold closeAll
  repeat' (first
    | ((with_reducible refine Parts.le_trans ?_ hp); exact rfl)
    | with_reducible assumption
    | intro x
    | lift_lets
    | with_reducible apply Keeps.via (keeps_closeSession _ _ _)
    | with_reducible apply keeps_overAll)

theorem keeps_noticeAll (kind : Nat) (s : State) :
    Keeps { out := true } s (noticeAll kind s) := by
  refine Keeps.start fun p s0 hp h => ?_
  unfold noticeAll
  repeat' (first
    | ((with_reducible refine Parts.le_trans ?_ hp); exact rfl)
    | with_reducible assumption
    | intro x
    | lift_lets
    | split
    | with_reducible apply Keeps.via (keeps_emit _ _)
    | with_reducible apply keeps_overAll)

theorem keeps_endRelayed (status : Status) (s : State) :
    Keeps { ses := true, out := true } s (endRelayed status s) := by
  refine Keeps.start fun p s0 hp h => ?_
  unfold endRelayed
  repeat' (first
    | ((with_reducible refine Parts.le_trans ?_ hp); exact rfl)
    | with_reducible assumption
    | (intro x; refine_lift have hx : Keeps p s0 x := ?_; ?_; on_goal 2 => unfold x; on_goal 1 => clear_value x)
    | (intro x; clear_value x)
    | intro x
    | lift_lets
    | split
    | with_reducible apply Keeps.via (keeps_reply _ _ _ _ _ _)
    | with_reducible apply Keeps.via (keeps_noteLate _ _ _ _)
    | with_reducible apply Keeps.via (keeps_serveFences _)
    | with_reducible apply Keeps.via (keeps_serveHeldReads _)
    | with_reducible apply keeps_overAll
    | fail_if_no_progress ((with_reducible apply Keeps.upd hp) <;> [skip; (with_reducible rfl); (with_reducible rfl)]))

theorem keeps_dropRelayed (s : State) :
    Keeps { ses := true, out := true } s (dropRelayed s) := by
  refine Keeps.start fun p s0 hp h => ?_
  unfold dropRelayed
  repeat' (first
    | ((with_reducible refine Parts.le_trans ?_ hp); exact rfl)
    | with_reducible assumption
    | with_reducible apply Keeps.via (keeps_endRelayed _ _))

theorem keeps_switchedReply (a : Owed) (s : State) :
    Keeps { out := true } s (switchedReply a s) := by
  refine Keeps.start fun p s0 hp h => ?_
  unfold switchedReply
  repeat' (first
    | ((with_reducible refine Parts.le_trans ?_ hp); exact rfl)
    | with_reducible assumption
    | split
    | with_reducible apply Keeps.via (keeps_reply _ _ _ _ _ _))

theorem keeps_dropWaits (s : State) :
    Keeps { pair := true, ses := true, out := true } s (dropWaits s) := by
  refine Keeps.start fun p s0 hp h => ?_
  unfold dropWaits
  repeat' (first
    | ((with_reducible refine Parts.le_trans ?_ hp); exact rfl)
    | with_reducible assumption
    | (intro x; clear_value x)
    | intro x
    | lift_lets
    | with_reducible apply Keeps.via (keeps_serveFences _)
    | with_reducible apply Keeps.via (keeps_switchedReply _ _)
    | with_reducible apply keeps_overAll
    | fail_if_no_progress ((with_reducible apply Keeps.upd hp) <;> [skip; (with_reducible rfl); (with_reducible rfl)]))

theorem keeps_enterState (st : ModState) (cause se : Nat) (s : State) :
    Keeps { ses := true, evr := true, lcd := true, mod := true } s (enterState st cause se s) := by
  refine Keeps.start fun p s0 hp h => ?_
  unfold enterState
  repeat' (first
    | ((with_reducible refine Parts.le_trans ?_ hp); exact rfl)
    | with_reducible assumption
    | (intro x; refine_lift have hx : Keeps p s0 x := ?_; ?_; on_goal 2 => unfold x; on_goal 1 => clear_value x)
    | (intro x; clear_value x)
    | lift_lets
    | split
    | with_reducible apply Keeps.via (keeps_logEv _ _ _ _)
    | with_reducible apply Keeps.via (keeps_showModule _)
    | fail_if_no_progress ((with_reducible apply Keeps.upd hp) <;> [skip; (with_reducible rfl); (with_reducible rfl)]))

theorem keeps_showRole (s : State) :
    Keeps { ses := true, evr := true, lcd := true, mod := true } s (showRole s) := by
  refine Keeps.start fun p s0 hp h => ?_
  unfold showRole
  repeat' (first
    | ((with_reducible refine Parts.le_trans ?_ hp); exact rfl)
    | with_reducible assumption
    | (intro x; clear_value x)
    | lift_lets
    | split
    | with_reducible apply Keeps.via (keeps_enterState _ _ _ _))

theorem keeps_changeReply (asker : Option Origin) (tag : W32) (result instant : Nat) (data : BitVec 112) (s : State) :
    Keeps { lsk := true, pair := true, out := true } s (changeReply asker tag result instant data s) := by
  refine Keeps.start fun p s0 hp h => ?_
  unfold changeReply
  repeat' (first
    | ((with_reducible refine Parts.le_trans ?_ hp); exact rfl)
    | with_reducible assumption
    | split
    | with_reducible apply Keeps.via (keeps_saddle _ _)
    | with_reducible apply Keeps.via (keeps_reply _ _ _ _ _ _))

theorem keeps_endChange (result : Nat) (s : State) :
    Keeps { tsk := true, img := true, lsk := true, pair := true, evr := true, out := true } s (endChange result s) := by
  refine Keeps.start fun p s0 hp h => ?_
  unfold endChange
  repeat' (first
    | ((with_reducible refine Parts.le_trans ?_ hp); exact rfl)
    | with_reducible assumption
    | (intro x; refine_lift have hx : Keeps p s0 x := ?_; ?_; on_goal 2 => unfold x; on_goal 1 => clear_value x)
    | intro (x : Img)
    | (intro x; clear_value x)
    | lift_lets
    | split
    | with_reducible apply Keeps.via (keeps_logEv _ _ _ _)
    | with_reducible apply Keeps.via (keeps_changeReply _ _ _ _ _ _)
    | fail_if_no_progress ((with_reducible apply Keeps.upd hp) <;> [skip; (with_reducible rfl); (with_reducible rfl)]))

theorem keeps_dropHeld (s : State) :
    Keeps { lsk := true, pair := true, ses := true, out := true } s (dropHeld s) := by
  refine Keeps.start fun p s0 hp h => ?_
  unfold dropHeld
  repeat' (first
    | ((with_reducible refine Parts.le_trans ?_ hp); exact rfl)
    | with_reducible assumption
    | (intro x; refine_lift have hx : Keeps p s0 x := ?_; ?_; on_goal 2 => unfold x; on_goal 1 => clear_value x)
    | (intro x; clear_value x)
    | intro x
    | lift_lets
    | split
    | with_reducible apply Keeps.via (keeps_saddle _ _)
    | with_reducible apply Keeps.via (keeps_onSess _ _ _)
    | with_reducible apply Keeps.via (keeps_reply _ _ _ _ _ _)
    | with_reducible apply Keeps.via (keeps_noteLate _ _ _ _)
    | with_reducible apply Keeps.via (keeps_serveFences _)
    | with_reducible apply keeps_overAll
    | fail_if_no_progress ((with_reducible apply Keeps.upd hp) <;> [skip; (with_reducible rfl); (with_reducible rfl)]))

theorem keeps_dropReads (s : State) :
    Keeps { ses := true, out := true } s (dropReads s) := by
  refine Keeps.start fun p s0 hp h => ?_
  unfold dropReads
  repeat' (first
    | ((with_reducible refine Parts.le_trans ?_ hp); exact rfl)
    | with_reducible assumption
    | (intro x; clear_value x)
    | intro x
    | lift_lets
    | with_reducible apply Keeps.via (keeps_reply _ _ _ _ _ _)
    | with_reducible apply keeps_overAll
    | fail_if_no_progress ((with_reducible apply Keeps.upd hp) <;> [skip; (with_reducible rfl); (with_reducible rfl)]))

theorem keeps_cutWindow (s : State) :
    Keeps { tsk := true, img := true } s (cutWindow s) := by
  refine Keeps.start fun p s0 hp h => ?_
  unfold cutWindow
  repeat' (first
    | with_reducible assumption
    | intro (x : Img)
    | (intro x; clear_value x)
    | lift_lets
    | split
    | fail_if_no_progress ((with_reducible apply Keeps.upd hp) <;> [skip; (with_reducible rfl); (with_reducible rfl)]))

theorem keeps_leaveRun (s : State) :
    Keeps { tsk := true, img := true, lsk := true, pair := true, lease := true, can := true, ses := true, evr := true, out := true } s (leaveRun s) := by
  refine Keeps.start fun p s0 hp h => ?_
  unfold leaveRun
  repeat' (first
    | ((with_reducible refine Parts.le_trans ?_ hp); exact rfl)
    | with_reducible assumption
    | (intro x; refine_lift have hx : Keeps p s0 x := ?_; ?_; on_goal 2 => unfold x; on_goal 1 => clear_value x)
    | (intro x; clear_value x)
    | lift_lets
    | with_reducible apply Keeps.via (keeps_endRelayed _ _)
    | with_reducible apply Keeps.via (keeps_dropWaits _)
    | with_reducible apply Keeps.via (keeps_endChange _ _)
    | with_reducible apply Keeps.via (keeps_dropHeld _)
    | with_reducible apply Keeps.via (keeps_dropReads _)
    | with_reducible apply Keeps.via (keeps_cutWindow _)
    | fail_if_no_progress ((with_reducible apply Keeps.upd hp) <;> [skip; (with_reducible rfl); (with_reducible rfl)]))

theorem keeps_endLease (cause : Nat) (s : State) :
    Keeps { lease := true, evr := true } s (endLease cause s) := by
  refine Keeps.start fun p s0 hp h => ?_
  unfold endLease
  repeat' (first
    | ((with_reducible refine Parts.le_trans ?_ hp); exact rfl)
    | with_reducible assumption
    | (intro x; refine_lift have hx : Keeps p s0 x := ?_; ?_; on_goal 2 => unfold x; on_goal 1 => clear_value x)
    | (intro x; clear_value x)
    | lift_lets
    | split
    | with_reducible apply Keeps.via (keeps_logEv _ _ _ _)
    | fail_if_no_progress ((with_reducible apply Keeps.upd hp) <;> [skip; (with_reducible rfl); (with_reducible rfl)]))

theorem keeps_safeAll (s : State) :
    Keeps { lsk := true, io := true, out := true } s (safeAll s) := by
  refine Keeps.start fun p s0 hp h => ?_
  unfold safeAll
  repeat' (first
    | ((with_reducible refine Parts.le_trans ?_ hp); exact rfl)
    | with_reducible assumption
    | (intro x; clear_value x)
    | intro x
    | lift_lets
    | split
    | with_reducible apply Keeps.via (keeps_emit _ _)
    | with_reducible apply Keeps.via (keeps_countUnchecked _ _ _)
    | with_reducible apply Keeps.via (keeps_onIsl _ _ _)
    | with_reducible apply Keeps.via (keeps_onOwn _ _ _)
    | with_reducible apply keeps_overAll)

theorem keeps_failSteps (s : State) :
    Keeps { tsk := true, img := true, lsk := true, pair := true, lease := true, io := true, can := true, ses := true, evr := true, lcd := true, mod := true, out := true } s (failSteps s) := by
  refine Keeps.start fun p s0 hp h => ?_
  unfold failSteps
  repeat' (first
    | ((with_reducible refine Parts.le_trans ?_ hp); exact rfl)
    | with_reducible assumption
    | (intro x; refine_lift have hx : Keeps p s0 x := ?_; ?_; on_goal 2 => unfold x; on_goal 1 => clear_value x)
    | (intro x; clear_value x)
    | lift_lets
    | split
    | with_reducible apply Keeps.via (keeps_endClaim _ _)
    | with_reducible apply Keeps.via (keeps_enterState _ _ _ _)
    | with_reducible apply Keeps.via (keeps_leaveRun _)
    | with_reducible apply Keeps.via (keeps_endLease _ _)
    | with_reducible apply Keeps.via (keeps_safeAll _)
    | fail_if_no_progress ((with_reducible apply Keeps.upd hp) <;> [skip; (with_reducible rfl); (with_reducible rfl)]))

theorem keeps_logFault (r : ColRecord) (s : State) :
    Keeps { evr := true } s (logFault r s) := by
  refine Keeps.start fun p s0 hp h => ?_
  unfold logFault
  repeat' (first
    | ((with_reducible refine Parts.le_trans ?_ hp); exact rfl)
    | with_reducible assumption
    | with_reducible apply Keeps.via (keeps_logEv _ _ _ _))

theorem keeps_dropFaultRecords (s : State) :
    Keeps { evr := true } s (dropFaultRecords s) := by
  refine Keeps.start fun p s0 hp h => ?_
  unfold dropFaultRecords
  repeat' (first
    | with_reducible assumption
    | (intro x; clear_value x)
    | lift_lets
    | fail_if_no_progress ((with_reducible apply Keeps.upd hp) <;> [skip; (with_reducible rfl); (with_reducible rfl)]))

theorem keeps_furtherFault (r : ColRecord) (s : State) :
    Keeps { lsk := true, evr := true, mod := true } s (furtherFault r s) := by
  refine Keeps.start fun p s0 hp h => ?_
  unfold furtherFault
  repeat' (first
    | ((with_reducible refine Parts.le_trans ?_ hp); exact rfl)
    | with_reducible assumption
    | (intro x; clear_value x)
    | lift_lets
    | split
    | with_reducible apply Keeps.via (keeps_logFault _ _)
    | with_reducible apply Keeps.via (keeps_dropFaultRecords _)
    | fail_if_no_progress ((with_reducible apply Keeps.upd hp) <;> [skip; (with_reducible rfl); (with_reducible rfl)]))

theorem keeps_takeFault (r : ColRecord) (s : State) :
    Keeps { tsk := true, img := true, lsk := true, pair := true, lease := true, io := true, can := true, ses := true, evr := true, lcd := true, mod := true, out := true } s (takeFault r s) := by
  refine Keeps.start fun p s0 hp h => ?_
  unfold takeFault
  repeat' (first
    | ((with_reducible refine Parts.le_trans ?_ hp); exact rfl)
    | with_reducible assumption
    | (intro x; refine_lift have hx : Keeps p s0 x := ?_; ?_; on_goal 2 => unfold x; on_goal 1 => clear_value x)
    | (intro x; clear_value x)
    | lift_lets
    | split
    | with_reducible apply Keeps.via (keeps_failSteps _)
    | with_reducible apply Keeps.via (keeps_logFault _ _)
    | with_reducible apply Keeps.via (keeps_furtherFault _ _)
    | fail_if_no_progress ((with_reducible apply Keeps.upd hp) <;> [skip; (with_reducible rfl); (with_reducible rfl)]))

theorem keeps_hubFault (u : HubUnit) (s : State) :
    Keeps { tsk := true, img := true, lsk := true, pair := true, lease := true, io := true, can := true, ses := true, evr := true, lcd := true, mod := true, out := true } s (hubFault u s) := by
  refine Keeps.start fun p s0 hp h => ?_
  unfold hubFault
  repeat' (first
    | ((with_reducible refine Parts.le_trans ?_ hp); exact rfl)
    | with_reducible assumption
    | with_reducible apply Keeps.via (keeps_takeFault _ _))

theorem keeps_countCorrected (n : Nat) (s : State) :
    Keeps { tel := true } s (countCorrected n s) := by
  refine Keeps.start fun p s0 hp h => ?_
  unfold countCorrected
  repeat' (first
    | with_reducible assumption
    | (intro x; clear_value x)
    | lift_lets
    | fail_if_no_progress ((with_reducible apply Keeps.upd hp) <;> [skip; (with_reducible rfl); (with_reducible rfl)]))

theorem keeps_uncorrectable (a : Nat) (s : State) :
    Keeps { store := true, tsk := true, img := true, lsk := true, pair := true, lease := true, mir := true, links := true, io := true, can := true, ses := true, pwr := true, evr := true, lcd := true, mod := true, out := true, free := true } s (uncorrectable a s) := by
  refine Keeps.start fun p s0 hp h => ?_
  unfold uncorrectable
  repeat' (first
    | ((with_reducible refine Parts.le_trans ?_ hp); exact rfl)
    | with_reducible assumption
    | intro (x : MemState)
    | lift_lets
    | split
    | with_reducible apply Keeps.via (keeps_logOpen _)
    | with_reducible apply Keeps.via (keeps_closeSession _ _ _)
    | with_reducible apply Keeps.via (keeps_takeFault _ _)
    | fail_if_no_progress ((with_reducible apply Keeps.upd hp) <;> [skip; (with_reducible rfl); (with_reducible rfl)]))

theorem keeps_memCheck (c : MemCheck) (s : State) :
    Keeps { store := true, tsk := true, img := true, lsk := true, pair := true, lease := true, mir := true, links := true, io := true, can := true, ses := true, pwr := true, tel := true, evr := true, lcd := true, mod := true, out := true, free := true } s (memCheck c s) := by
  refine Keeps.start fun p s0 hp h => ?_
  unfold memCheck
  repeat' (first
    | ((with_reducible refine Parts.le_trans ?_ hp); exact rfl)
    | with_reducible assumption
    | split
    | with_reducible apply Keeps.via (keeps_hubFault _ _)
    | with_reducible apply Keeps.via (keeps_countCorrected _ _)
    | with_reducible apply Keeps.via (keeps_uncorrectable _ _))

theorem keeps_afterCheck {p : Parts} {s0 : State} {c : MemCheck} {f : State → State} {s : State} (hp : ({ store := true, tsk := true, img := true, lsk := true, pair := true, lease := true, mir := true, links := true, io := true, can := true, ses := true, pwr := true, tel := true, evr := true, lcd := true, mod := true, out := true, free := true } : Parts).le p) (hf : ∀ x0, Keeps p s0 x0 → Keeps p s0 (f x0))
    (h : Keeps p s0 s) : Keeps p s0 (afterCheck c f s) := by
  unfold afterCheck
  repeat' (first
    | ((with_reducible refine Parts.le_trans ?_ hp); exact rfl)
    | with_reducible assumption
    | lift_lets
    | split
    | with_reducible apply hf
    | with_reducible apply Keeps.via (keeps_memCheck _ _))

/-! ### Operations of Machine/ValeBase.lean -/

theorem keeps_valePut (l : Fin 24) (unchecked : Bool) (f : VFrame) (s : State) :
    Keeps { lsk := true, links := true, out := true } s (valePut l unchecked f s) := by
  refine Keeps.start fun p s0 hp h => ?_
  unfold valePut
  repeat' (first
    | ((with_reducible refine Parts.le_trans ?_ hp); exact rfl)
    | with_reducible assumption
    | (intro x; refine_lift have hx : Keeps p s0 x := ?_; ?_; on_goal 2 => unfold x; on_goal 1 => clear_value x)
    | lift_lets
    | split
    | with_reducible apply Keeps.via (keeps_emit _ _)
    | with_reducible apply Keeps.via (keeps_countUnchecked _ _ _)
    | with_reducible apply Keeps.via (keeps_onLink _ _ _))

theorem keeps_valeSend (l : Fin 24) (typ : Nat) (pos : Byte) (epoch : W32) (seq : Option W32) (payload : List Byte) (s : State) :
    Keeps { lsk := true, links := true, out := true } s (valeSend l typ pos epoch seq payload s) := by
  refine Keeps.start fun p s0 hp h => ?_
  unfold valeSend
  repeat' (first
    | ((with_reducible refine Parts.le_trans ?_ hp); exact rfl)
    | with_reducible assumption
    | with_reducible apply Keeps.via (keeps_valePut _ _ _ _))

theorem keeps_manage (l : Fin 24) (typ : Nat) (pos : Byte) (payload : List Byte) (s : State) :
    Keeps { lsk := true, links := true, out := true } s (manage l typ pos payload s) := by
  refine Keeps.start fun p s0 hp h => ?_
  unfold manage
  repeat' (first
    | ((with_reducible refine Parts.le_trans ?_ hp); exact rfl)
    | with_reducible assumption
    | with_reducible apply Keeps.via (keeps_valeSend _ _ _ _ _ _ _))

theorem keeps_enumerate (l : Fin 24) (s : State) :
    Keeps { lsk := true, links := true, out := true } s (enumerate l s) := by
  refine Keeps.start fun p s0 hp h => ?_
  unfold enumerate
  repeat' (first
    | ((with_reducible refine Parts.le_trans ?_ hp); exact rfl)
    | with_reducible assumption
    | lift_lets
    | with_reducible apply Keeps.via (keeps_onLink _ _ _)
    | with_reducible apply Keeps.via (keeps_manage _ _ _ _ _))

theorem keeps_leaseFrame (typ : Nat) (epoch seq : W32) (payload : List Byte) (s : State) :
    Keeps { lsk := true, links := true, out := true } s (leaseFrame typ epoch seq payload s) := by
  refine Keeps.start fun p s0 hp h => ?_
  unfold leaseFrame
  repeat' (first
    | ((with_reducible refine Parts.le_trans ?_ hp); exact rfl)
    | with_reducible assumption
    | intro x
    | lift_lets
    | with_reducible apply Keeps.via (keeps_valeSend _ _ _ _ _ _ _)
    | with_reducible apply keeps_overAll)

theorem keeps_askIdent (l : Fin 24) (p : Fin 32) (s : State) :
    Keeps { lsk := true, links := true, out := true } s (askIdent l p s) := by
  refine Keeps.start fun p s0 hp h => ?_
  unfold askIdent
  repeat' (first
    | ((with_reducible refine Parts.le_trans ?_ hp); exact rfl)
    | with_reducible assumption
    | lift_lets
    | with_reducible apply Keeps.via (keeps_onBring _ _ _ _)
    | with_reducible apply Keeps.via (keeps_manage _ _ _ _ _))

theorem keeps_showStep (l : Fin 24) (p : Fin 32) (st : StnState) (s : State) :
    Keeps { links := true } s (showStep l p st s) := by
  refine Keeps.start fun p s0 hp h => ?_
  unfold showStep
  repeat' (first
    | ((with_reducible refine Parts.le_trans ?_ hp); exact rfl)
    | with_reducible assumption
    | with_reducible apply Keeps.via (keeps_onStn _ _ _ _))

theorem keeps_sendSegment (l : Fin 24) (p : Fin 32) (off tries : Nat) (s : State) :
    Keeps { lsk := true, links := true, out := true } s (sendSegment l p off tries s) := by
  refine Keeps.start fun p s0 hp h => ?_
  unfold sendSegment
  repeat' (first
    | ((with_reducible refine Parts.le_trans ?_ hp); exact rfl)
    | with_reducible assumption
    | (intro x; clear_value x)
    | intro x
    | lift_lets
    | split
    | with_reducible apply Keeps.via (keeps_onBring _ _ _ _)
    | with_reducible apply Keeps.via (keeps_manage _ _ _ _ _))

theorem keeps_sendStart (l : Fin 24) (p : Fin 32) (tries : Nat) (s : State) :
    Keeps { lsk := true, links := true, out := true } s (sendStart l p tries s) := by
  refine Keeps.start fun p s0 hp h => ?_
  unfold sendStart
  repeat' (first
    | ((with_reducible refine Parts.le_trans ?_ hp); exact rfl)
    | with_reducible assumption
    | (intro x; clear_value x)
    | lift_lets
    | split
    | with_reducible apply Keeps.via (keeps_onBring _ _ _ _)
    | with_reducible apply Keeps.via (keeps_manage _ _ _ _ _))

theorem keeps_stationDone (l : Fin 24) (p : Fin 32) (s : State) :
    Keeps { lsk := true, pair := true, links := true, ses := true, out := true } s (stationDone l p s) := by
  refine Keeps.start fun p s0 hp h => ?_
  unfold stationDone
  repeat' (first
    | ((with_reducible refine Parts.le_trans ?_ hp); exact rfl)
    | with_reducible assumption
    | (intro x; refine_lift have hx : Keeps p s0 x := ?_; ?_; on_goal 2 => unfold x; on_goal 1 => clear_value x)
    | (intro x; clear_value x)
    | lift_lets
    | split
    | with_reducible apply Keeps.via (keeps_onLink _ _ _)
    | with_reducible apply Keeps.via (keeps_onStn _ _ _ _)
    | with_reducible apply Keeps.via (keeps_answerOpt _ _ _ _))

theorem keeps_refuseStation (l : Fin 24) (p : Fin 32) (cause reason : Byte) (s : State) :
    Keeps { tsk := true, lsk := true, pair := true, links := true, ses := true, evr := true, out := true } s (refuseStation l p cause reason s) := by
  refine Keeps.start fun p s0 hp h => ?_
  unfold refuseStation
  repeat' (first
    | ((with_reducible refine Parts.le_trans ?_ hp); exact rfl)
    | with_reducible assumption
    | (intro x; refine_lift have hx : Keeps p s0 x := ?_; ?_; on_goal 2 => unfold x; on_goal 1 => clear_value x)
    | (intro x; clear_value x)
    | lift_lets
    | split
    | with_reducible apply Keeps.via (keeps_logEv _ _ _ _)
    | with_reducible apply Keeps.via (keeps_triggerReason _ _ _ _ _)
    | with_reducible apply Keeps.via (keeps_onStn _ _ _ _)
    | with_reducible apply Keeps.via (keeps_onBring _ _ _ _)
    | with_reducible apply Keeps.via (keeps_stationDone _ _ _))

theorem keeps_goOut (l : Fin 24) (p : Fin 32) (missed : Nat) (s : State) :
    Keeps { tsk := true, mir := true, links := true, evr := true, out := true } s (goOut l p missed s) := by
  refine Keeps.start fun p s0 hp h => ?_
  unfold goOut
  repeat' (first
    | ((with_reducible refine Parts.le_trans ?_ hp); exact rfl)
    | with_reducible assumption
    | (intro x; refine_lift have hx : Keeps p s0 x := ?_; ?_; on_goal 2 => unfold x; on_goal 1 => clear_value x)
    | (intro x; clear_value x)
    | lift_lets
    | with_reducible apply Keeps.via (keeps_logEv _ _ _ _)
    | with_reducible apply Keeps.via (keeps_triggerReason _ _ _ _ _)
    | with_reducible apply Keeps.via (keeps_onStn _ _ _ _)
    | fail_if_no_progress ((with_reducible apply Keeps.upd hp) <;> [skip; (with_reducible rfl); (with_reducible rfl)]))

theorem keeps_comeIn (l : Fin 24) (p : Fin 32) (s : State) :
    Keeps { tsk := true, lsk := true, pair := true, links := true, ses := true, evr := true, out := true } s (comeIn l p s) := by
  refine Keeps.start fun p s0 hp h => ?_
  unfold comeIn
  repeat' (first
    | ((with_reducible refine Parts.le_trans ?_ hp); exact rfl)
    | with_reducible assumption
    | (intro x; refine_lift have hx : Keeps p s0 x := ?_; ?_; on_goal 2 => unfold x; on_goal 1 => clear_value x)
    | (intro x; clear_value x)
    | lift_lets
    | split
    | with_reducible apply Keeps.via (keeps_logEv _ _ _ _)
    | with_reducible apply Keeps.via (keeps_triggerReason _ _ _ _ _)
    | with_reducible apply Keeps.via (keeps_onStn _ _ _ _)
    | with_reducible apply Keeps.via (keeps_stationDone _ _ _))

theorem keeps_applyVerdict (v : StnVerdict) (s : State) :
    Keeps { tsk := true, lsk := true, pair := true, mir := true, links := true, ses := true, evr := true, out := true } s (applyVerdict v s) := by
  refine Keeps.start fun p s0 hp h => ?_
  unfold applyVerdict
  repeat' (first
    | ((with_reducible refine Parts.le_trans ?_ hp); exact rfl)
    | with_reducible assumption
    | (intro x; clear_value x)
    | lift_lets
    | split
    | with_reducible apply Keeps.via (keeps_goOut _ _ _ _)
    | with_reducible apply Keeps.via (keeps_comeIn _ _ _))

theorem keeps_showRelay (l : Fin 24) (p : Fin 32) (on : Bool) (s : State) :
    Keeps { links := true, evr := true } s (showRelay l p on s) := by
  refine Keeps.start fun p s0 hp h => ?_
  unfold showRelay
  repeat' (first
    | ((with_reducible refine Parts.le_trans ?_ hp); exact rfl)
    | with_reducible assumption
    | lift_lets
    | split
    | with_reducible apply Keeps.via (keeps_logEv _ _ _ _)
    | with_reducible apply Keeps.via (keeps_onStn _ _ _ _))

theorem keeps_keepSample (m : Sample) (s : State) :
    Keeps { links := true } s (keepSample m s) := by
  refine Keeps.start fun p s0 hp h => ?_
  unfold keepSample
  repeat' (first
    | ((with_reducible refine Parts.le_trans ?_ hp); exact rfl)
    | with_reducible assumption
    | (intro x; clear_value x)
    | lift_lets
    | split
    | with_reducible apply Keeps.via (keeps_onStn _ _ _ _))

theorem keeps_takeSample (m : Sample) (s : State) :
    Keeps { lsk := true, pair := true, links := true, evr := true, out := true } s (takeSample m s) := by
  refine Keeps.start fun p s0 hp h => ?_
  unfold takeSample
  repeat' (first
    | ((with_reducible refine Parts.le_trans ?_ hp); exact rfl)
    | with_reducible assumption
    | (intro x; refine_lift have hx : Keeps p s0 x := ?_; ?_; on_goal 2 => unfold x; on_goal 1 => clear_value x)
    | (intro x; clear_value x)
    | lift_lets
    | split
    | with_reducible apply Keeps.via (keeps_saddle _ _)
    | with_reducible apply Keeps.via (keeps_onLink _ _ _)
    | with_reducible apply Keeps.via (keeps_onStn _ _ _ _)
    | with_reducible apply Keeps.via (keeps_showRelay _ _ _ _)
    | with_reducible apply Keeps.via (keeps_keepSample _ _))

theorem keeps_stationOutputs (t : TaskEntry) (cycle : W32) (trigts : Nat) (unchecked : Bool) (e : StationEntry) (s : State) :
    Keeps { lsk := true, links := true, out := true } s (stationOutputs t cycle trigts unchecked e s) := by
  refine Keeps.start fun p s0 hp h => ?_
  unfold stationOutputs
  repeat' (first
    | ((with_reducible refine Parts.le_trans ?_ hp); exact rfl)
    | with_reducible assumption
    | (intro x; clear_value x)
    | intro x
    | lift_lets
    | split
    | with_reducible apply Keeps.via (keeps_onLink _ _ _)
    | with_reducible apply Keeps.via (keeps_valePut _ _ _ _)
    | with_reducible apply keeps_overAll)

theorem keeps_outputFrames (t : TaskEntry) (cycle : W32) (trigts : Nat) (unchecked : Bool) (s : State) :
    Keeps { lsk := true, links := true, out := true } s (outputFrames t cycle trigts unchecked s) := by
  refine Keeps.start fun p s0 hp h => ?_
  unfold outputFrames
  repeat' (first
    | ((with_reducible refine Parts.le_trans ?_ hp); exact rfl)
    | with_reducible assumption
    | intro x
    | lift_lets
    | split
    | with_reducible apply Keeps.via (keeps_stationOutputs _ _ _ _ _ _)
    | with_reducible apply keeps_overAll)

/-! ### Operations of Machine/Mesh.lean -/

theorem keeps_onLane (l : Lane) (f : LaneState → LaneState) (s : State) :
    Keeps { laneA := true, laneB := true } s (onLane l f s) := by
  refine Keeps.start fun p s0 hp h => ?_
  unfold onLane
  repeat' (first
    | with_reducible assumption
    | split
    | fail_if_no_progress ((with_reducible apply Keeps.upd hp) <;> [skip; (with_reducible rfl); (with_reducible rfl)]))

theorem keeps_inboundWord (stream : Fin 72) (w : Inbound) (s : State) :
    Keeps { laneA := true, laneB := true, lsk := true, out := true } s (inboundWord stream w s) := by
  refine Keeps.start fun p s0 hp h => ?_
  unfold inboundWord
  repeat' (first
    | ((with_reducible refine Parts.le_trans ?_ hp); exact rfl)
    | with_reducible assumption
    | (intro x; refine_lift have hx : Keeps p s0 x := ?_; ?_; on_goal 2 => unfold x; on_goal 1 => clear_value x)
    | (intro x; clear_value x)
    | intro x
    | lift_lets
    | split
    | with_reducible apply Keeps.via (keeps_emit _ _)
    | with_reducible apply Keeps.via (keeps_onLane _ _ _)
    | with_reducible apply keeps_overAll
    | fail_if_no_progress ((with_reducible apply Keeps.upd hp) <;> [skip; (with_reducible rfl); (with_reducible rfl)]))

theorem keeps_returnWords (k : Fin 8) (task : Fin 128) (vs : List W128) (s : State) :
    Keeps { laneA := true, laneB := true, lsk := true, out := true } s (returnWords k task vs s) := by
  refine Keeps.start fun p s0 hp h => ?_
  unfold returnWords
  repeat' (first
    | ((with_reducible refine Parts.le_trans ?_ hp); exact rfl)
    | with_reducible assumption
    | intro x
    | lift_lets
    | with_reducible apply Keeps.via (keeps_inboundWord _ _ _)
    | with_reducible apply keeps_overAll)

theorem keeps_serviceReturn (k : Fin 8) (vs : List W128) (s : State) :
    Keeps { laneA := true, laneB := true, lsk := true, out := true } s (serviceReturn k vs s) := by
  refine Keeps.start fun p s0 hp h => ?_
  unfold serviceReturn
  repeat' (first
    | ((with_reducible refine Parts.le_trans ?_ hp); exact rfl)
    | with_reducible assumption
    | split
    | with_reducible apply Keeps.via (keeps_returnWords _ _ _ _))

/-! ### Operations of Machine/Snapshot.lean -/

theorem keeps_countLate (es : List StationEntry) (s : State) :
    Keeps { links := true } s (countLate es s) := by
  refine Keeps.start fun p s0 hp h => ?_
  unfold countLate
  repeat' (first
    | ((with_reducible refine Parts.le_trans ?_ hp); exact rfl)
    | with_reducible assumption
    | intro x
    | lift_lets
    | with_reducible apply Keeps.via (keeps_onLink _ _ _)
    | with_reducible apply keeps_overAll)

theorem keeps_injectKept (t : Fin 128) (s : State) :
    Keeps { laneA := true, laneB := true, lsk := true, out := true } s (injectKept t s) := by
  refine Keeps.start fun p s0 hp h => ?_
  unfold injectKept
  repeat' (first
    | ((with_reducible refine Parts.le_trans ?_ hp); exact rfl)
    | with_reducible assumption
    | intro x
    | lift_lets
    | with_reducible apply Keeps.via (keeps_inboundWord _ _ _)
    | with_reducible apply keeps_overAll)

theorem keeps_inject (t : Fin 128) (c : Cycle) (s : State) :
    Keeps { laneA := true, laneB := true, lsk := true, out := true } s (inject t c s) := by
  refine Keeps.start fun p s0 hp h => ?_
  unfold inject
  repeat' (first
    | ((with_reducible refine Parts.le_trans ?_ hp); exact rfl)
    | with_reducible assumption
    | (intro x; refine_lift have hx : Keeps p s0 x := ?_; ?_; on_goal 2 => unfold x; on_goal 1 => clear_value x)
    | (intro x; clear_value x)
    | intro x
    | lift_lets
    | split
    | with_reducible apply Keeps.via (keeps_inboundWord _ _ _)
    | with_reducible apply Keeps.via (keeps_injectKept _ _)
    | with_reducible apply keeps_overAll)

theorem keeps_deliver (t : Fin 128) (s : State) :
    Keeps { cells := true, tsk := true, laneA := true, laneB := true, lsk := true, out := true } s (deliver t s) := by
  refine Keeps.start fun p s0 hp h => ?_
  unfold deliver
  repeat' (first
    | (intro (hw : Memory.wf _ = true); with_reducible exact writeInputs_wf _ _ hw)
    | ((with_reducible refine Parts.le_trans ?_ hp); exact rfl)
    | with_reducible assumption
    | (intro x; refine_lift have hx : Keeps p s0 x := ?_; ?_; on_goal 2 => unfold x; on_goal 1 => clear_value x)
    | (intro x; clear_value x)
    | lift_lets
    | split
    | with_reducible apply Keeps.via (keeps_onTask _ _ _)
    | with_reducible apply Keeps.via (keeps_onLane _ _ _)
    | with_reducible apply Keeps.via (keeps_inject _ _ _)
    | (with_reducible refine Keeps.via (keeps_withMem _ _ ?_) ?_ ?_))

/-! ### Operations of Machine/Commit.lean -/

theorem keeps_reloadOwners (granules : List Nat) (s : State) :
    Keeps { tsk := true } s (reloadOwners granules s) := by
  refine Keeps.start fun p s0 hp h => ?_
  unfold reloadOwners
  repeat' (first
    | ((with_reducible refine Parts.le_trans ?_ hp); exact rfl)
    | with_reducible assumption
    | (intro x; clear_value x)
    | intro x
    | lift_lets
    | with_reducible apply Keeps.via (keeps_onTask _ _ _)
    | with_reducible apply keeps_overAll)

theorem keeps_clearPoison (addrs : List Nat) (s : State) :
    Keeps { store := true } s (clearPoison addrs s) := by
  refine Keeps.start fun p s0 hp h => ?_
  unfold clearPoison
  repeat' (first
    | with_reducible assumption
    | intro (x : MemState)
    | lift_lets
    | fail_if_no_progress ((with_reducible apply Keeps.upd hp) <;> [skip; (with_reducible rfl); (with_reducible rfl)]))

theorem keeps_commitBytes (t : Fin 128) (a : Nat) (v : W128) (en : BitVec 16) (s : State) :
    Keeps { cells := true, tsk := true } s (commitBytes t a v en s) := by
  refine Keeps.start fun p s0 hp h => ?_
  unfold commitBytes
  repeat' (first
    | (intro (hw : Memory.wf _ = true); with_reducible exact Memory.writeWord_wf _ _ _ _ hw)
    | ((with_reducible refine Parts.le_trans ?_ hp); exact rfl)
    | with_reducible assumption
    | lift_lets
    | with_reducible apply Keeps.via (keeps_onCycle _ _ _)
    | (with_reducible refine Keeps.via (keeps_withMem _ _ ?_) ?_ ?_))

theorem keeps_commitPoint (e : TaskEntry) (c : Cycle) (p : Nat) (v : W128) (s : State) :
    Keeps { cells := true, tsk := true } s (commitPoint e c p v s) := by
  refine Keeps.start fun p s0 hp h => ?_
  unfold commitPoint
  repeat' (first
    | ((with_reducible refine Parts.le_trans ?_ hp); exact rfl)
    | with_reducible assumption
    | lift_lets
    | split
    | with_reducible apply Keeps.via (keeps_onCycle _ _ _)
    | with_reducible apply Keeps.via (keeps_commitBytes _ _ _ _ _))

theorem keeps_commitVar (c : Cycle) (t : Fin 128) (a : Nat) (v : W128) (en : BitVec 16) (s : State) :
    Keeps { cells := true, store := true, tsk := true } s (commitVar c t a v en s) := by
  have k := Keeps.via (p := { cells := true, store := true, tsk := true }) (keeps_onCycle t (fun x => { x with writes := x.writes ++ [(a, v, en)] }) _) rfl (Keeps.mono (p := { cells := true, store := true, tsk := true }) (keeps_commitBytes t a v en s) rfl)
  exact Keeps.via (keeps_reloadOwners _ _) rfl (Keeps.via (keeps_clearPoison _ _) rfl
    (Keeps.via (keeps_withMem _ _ (fun hw => forceVars_wf _ c a _ hw)) rfl k))
/-! ### Operations of Machine/Stats.lean -/

theorem keeps_copyStats (s : State) :
    Keeps { tbLat := true, tsk := true, frc := true, lsk := true, mir := true, links := true, io := true, can := true, ses := true, tel := true, evr := true, lcd := true } s (copyStats s) := by
  refine Keeps.start fun p s0 hp h => ?_
  unfold copyStats
  repeat' (first
    | with_reducible assumption
    | (intro x; clear_value x)
    | lift_lets
    | fail_if_no_progress ((with_reducible apply Keeps.upd hp) <;> [skip; (with_reducible rfl); (with_reducible rfl)]))

theorem keeps_clearStats (s : State) :
    Keeps { tbAcc := true, tsk := true, frc := true, lsk := true, mir := true, links := true, io := true, can := true, ses := true, tel := true, evr := true, lcd := true } s (clearStats s) := by
  refine Keeps.start fun p s0 hp h => ?_
  unfold clearStats
  repeat' (first
    | with_reducible assumption
    | (intro x; clear_value x)
    | lift_lets
    | fail_if_no_progress ((with_reducible apply Keeps.upd hp) <;> [skip; (with_reducible rfl); (with_reducible rfl)]))

theorem keeps_shortInterval (s : State) :
    Keeps { tbAcc := true, tsk := true, frc := true, lsk := true, mir := true, links := true, io := true, can := true, ses := true, tel := true, evr := true, lcd := true } s (shortInterval s) := by
  refine Keeps.start fun p s0 hp h => ?_
  unfold shortInterval
  repeat' (first
    | ((with_reducible refine Parts.le_trans ?_ hp); exact rfl)
    | with_reducible assumption
    | (intro x; refine_lift have hx : Keeps p s0 x := ?_; ?_; on_goal 2 => unfold x; on_goal 1 => clear_value x)
    | (intro x; clear_value x)
    | lift_lets
    | with_reducible apply Keeps.via (keeps_clearStats _)
    | fail_if_no_progress ((with_reducible apply Keeps.upd hp) <;> [skip; (with_reducible rfl); (with_reducible rfl)]))

theorem keeps_recordHealth (partner : Bool) (old new : W32) (s : State) :
    Keeps { evr := true } s (recordHealth partner old new s) := by
  refine Keeps.start fun p s0 hp h => ?_
  unfold recordHealth
  repeat' (first
    | ((with_reducible refine Parts.le_trans ?_ hp); exact rfl)
    | with_reducible assumption
    | split
    | with_reducible apply Keeps.via (keeps_logEv _ _ _ _))

theorem keeps_reportHealth (s : State) :
    Keeps { lsk := true, pair := true, mir := true, evr := true, out := true } s (reportHealth s) := by
  refine Keeps.start fun p s0 hp h => ?_
  unfold reportHealth
  repeat' (first
    | ((with_reducible refine Parts.le_trans ?_ hp); exact rfl)
    | with_reducible assumption
    | (intro x; refine_lift have hx : Keeps p s0 x := ?_; ?_; on_goal 2 => unfold x; on_goal 1 => clear_value x)
    | (intro x; clear_value x)
    | lift_lets
    | with_reducible apply Keeps.via (keeps_saddle _ _)
    | with_reducible apply Keeps.via (keeps_recordHealth _ _ _ _)
    | fail_if_no_progress ((with_reducible apply Keeps.upd hp) <;> [skip; (with_reducible rfl); (with_reducible rfl)]))

theorem keeps_boundary (at_ : Nat) (s : State) :
    Keeps { tbAcc := true, tbLat := true, tsk := true, frc := true, lsk := true, pair := true, mir := true, links := true, io := true, can := true, ses := true, tel := true, evr := true, lcd := true, out := true } s (boundary at_ s) := by
  refine Keeps.start fun p s0 hp h => ?_
  unfold boundary
  repeat' (first
    | ((with_reducible refine Parts.le_trans ?_ hp); exact rfl)
    | with_reducible assumption
    | (intro x; refine_lift have hx : Keeps p s0 x := ?_; ?_; on_goal 2 => unfold x; on_goal 1 => clear_value x)
    | (intro x; clear_value x)
    | lift_lets
    | split
    | with_reducible apply Keeps.via (keeps_copyStats _)
    | with_reducible apply Keeps.via (keeps_clearStats _)
    | with_reducible apply Keeps.via (keeps_reportHealth _)
    | fail_if_no_progress ((with_reducible apply Keeps.upd hp) <;> [skip; (with_reducible rfl); (with_reducible rfl)]))

/-! ### Operations of Machine/Release.lean -/

theorem keeps_raiseToCeiling (s : State) :
    Keeps { tel := true } s (raiseToCeiling s) := by
  refine Keeps.start fun p s0 hp h => ?_
  unfold raiseToCeiling
  repeat' (first
    | with_reducible assumption
    | fail_if_no_progress ((with_reducible apply Keeps.upd hp) <;> [skip; (with_reducible rfl); (with_reducible rfl)]))

theorem keeps_reportMargin (t : Fin 128) (m : Int) (s : State) :
    Keeps { tel := true, evr := true } s (reportMargin t m s) := by
  refine Keeps.start fun p s0 hp h => ?_
  unfold reportMargin
  repeat' (first
    | ((with_reducible refine Parts.le_trans ?_ hp); exact rfl)
    | with_reducible assumption
    | (intro x; refine_lift have hx : Keeps p s0 x := ?_; ?_; on_goal 2 => unfold x; on_goal 1 => clear_value x)
    | (intro x; clear_value x)
    | lift_lets
    | split
    | with_reducible apply Keeps.via (keeps_logEv _ _ _ _)
    | fail_if_no_progress ((with_reducible apply Keeps.upd hp) <;> [skip; (with_reducible rfl); (with_reducible rfl)]))

theorem keeps_countRelease (t : TaskEntry) (jitter : Option Nat) (late : Bool) (s : State) :
    Keeps { tsk := true } s (countRelease t jitter late s) := by
  refine Keeps.start fun p s0 hp h => ?_
  unfold countRelease
  repeat' (first
    | ((with_reducible refine Parts.le_trans ?_ hp); exact rfl)
    | with_reducible assumption
    | (intro x; refine_lift have hx : Keeps p s0 x := ?_; ?_; on_goal 2 => unfold x; on_goal 1 => clear_value x)
    | (intro x; clear_value x)
    | lift_lets
    | split
    | with_reducible apply Keeps.via (keeps_onTaskStats _ _ _)
    | fail_if_no_progress ((with_reducible apply Keeps.upd hp) <;> [skip; (with_reducible rfl); (with_reducible rfl)]))

theorem keeps_makeRelease (t : TaskEntry) (g : Trig) (notice : Option Notice) (held : Bool) (s0 : State) :
    Keeps { cells := true, tbAcc := true, tbLat := true, tsk := true, frc := true, laneA := true, laneB := true, lsk := true, pair := true, mir := true, links := true, io := true, can := true, ses := true, tel := true, evr := true, lcd := true, out := true } s0 (makeRelease t g notice held s0) := by
  refine Keeps.start fun p s0 hp h => ?_
  unfold makeRelease
  repeat' (first
    | ((with_reducible refine Parts.le_trans ?_ hp); exact rfl)
    | with_reducible assumption
    | (intro x; refine_lift have hx : Keeps p s0 x := ?_; ?_; on_goal 2 => unfold x; on_goal 1 => clear_value x)
    | (intro x; clear_value x)
    | lift_lets
    | split
    | with_reducible apply Keeps.via (keeps_saddle _ _)
    | with_reducible apply Keeps.via (keeps_onTask _ _ _)
    | with_reducible apply Keeps.via (keeps_countLate _ _)
    | with_reducible apply Keeps.via (keeps_deliver _ _)
    | with_reducible apply Keeps.via (keeps_boundary _ _)
    | with_reducible apply Keeps.via (keeps_countRelease _ _ _ _))

theorem keeps_applyNotice (n : Notice) (s : State) :
    Keeps { cells := true, tsk := true, laneA := true, laneB := true, lsk := true, pair := true, mir := true, links := true, ses := true, evr := true, out := true } s (applyNotice n s) := by
  refine Keeps.start fun p s0 hp h => ?_
  unfold applyNotice
  repeat' (first
    | ((with_reducible refine Parts.le_trans ?_ hp); exact rfl)
    | with_reducible assumption
    | (intro x; refine_lift have hx : Keeps p s0 x := ?_; ?_; on_goal 2 => unfold x; on_goal 1 => clear_value x)
    | (intro x; clear_value x)
    | intro x
    | lift_lets
    | with_reducible apply Keeps.via (keeps_onCycle _ _ _)
    | with_reducible apply Keeps.via (keeps_applyVerdict _ _)
    | with_reducible apply Keeps.via (keeps_deliver _ _)
    | with_reducible apply keeps_overAll
    | fail_if_no_progress ((with_reducible apply Keeps.upd hp) <;> [skip; (with_reducible rfl); (with_reducible rfl)]))

theorem keeps_applyPartnerReadings (t : Fin 128) (rs : List (BitVec 16 × W128)) (s : State) :
    Keeps { cells := true, tsk := true, laneA := true, laneB := true, lsk := true, out := true } s (applyPartnerReadings t rs s) := by
  refine Keeps.start fun p s0 hp h => ?_
  unfold applyPartnerReadings
  repeat' (first
    | ((with_reducible refine Parts.le_trans ?_ hp); exact rfl)
    | with_reducible assumption
    | (intro x; clear_value x)
    | lift_lets
    | with_reducible apply Keeps.via (keeps_onCycle _ _ _)
    | with_reducible apply Keeps.via (keeps_deliver _ _))

theorem keeps_takeEarly (t : TaskEntry) (s : State) :
    Keeps { cells := true, tsk := true, laneA := true, laneB := true, lsk := true, pair := true, mir := true, links := true, ses := true, evr := true, out := true } s (takeEarly t s) := by
  refine Keeps.start fun p s0 hp h => ?_
  unfold takeEarly
  repeat' (first
    | ((with_reducible refine Parts.le_trans ?_ hp); exact rfl)
    | with_reducible assumption
    | (intro x; clear_value x)
    | lift_lets
    | split
    | with_reducible apply Keeps.via (keeps_onTask _ _ _)
    | with_reducible apply Keeps.via (keeps_applyNotice _ _)
    | with_reducible apply Keeps.via (keeps_applyPartnerReadings _ _ _))

theorem keeps_overrun (t : TaskEntry) (at_ : Nat) (s : State) :
    Keeps { tsk := true } s (overrun t at_ s) := by
  refine Keeps.start fun p s0 hp h => ?_
  unfold overrun
  repeat' (first
    | ((with_reducible refine Parts.le_trans ?_ hp); exact rfl)
    | with_reducible assumption
    | (intro x; clear_value x)
    | lift_lets
    | split
    | with_reducible apply Keeps.via (keeps_trigger _ _)
    | with_reducible apply Keeps.via (keeps_onTask _ _ _))

/-- An update of the tasks' part alone. -/
theorem Keeps.updTsk {p : Parts} {s0 s : State} (x : Tsk) (hp : ({ tsk := true } : Parts).le p) (h : Keeps p s0 s) :
    Keeps p s0 { s with tsk := x } :=
  Keeps.upd hp h (by with_reducible rfl) (by with_reducible rfl)

theorem keeps_skipRelease (t : TaskEntry) (s0 : State) :
    Keeps { tbAcc := true, tbLat := true, tsk := true, frc := true, lsk := true, pair := true, mir := true, links := true, io := true, can := true, ses := true, tel := true, evr := true, lcd := true, out := true } s0 (skipRelease t s0) := by
  refine Keeps.start fun p s0 hp h => ?_
  unfold skipRelease
  repeat' (first
    | ((with_reducible refine Parts.le_trans ?_ hp); exact rfl)
    | with_reducible assumption
    | (intro x; refine_lift have hx : Keeps p s0 x := ?_; ?_; on_goal 2 => unfold x; on_goal 1 => clear_value x)
    | (intro x; clear_value x)
    | lift_lets
    | with_reducible apply Keeps.via (keeps_onTask _ _ _)
    | with_reducible apply Keeps.via (keeps_onTaskStats _ _ _)
    | with_reducible apply Keeps.via (keeps_boundary _ _)
    | with_reducible apply Keeps.via (keeps_raiseToCeiling _)
    | with_reducible apply Keeps.via (keeps_overrun _ _ _)
    | with_reducible apply Keeps.updTsk _ (Parts.le_trans (Parts.le_of_or rfl) hp))

theorem keeps_cyclicRelease (t : TaskEntry) (s : State) :
    Keeps { cells := true, tbAcc := true, tbLat := true, tsk := true, frc := true, laneA := true, laneB := true, lsk := true, pair := true, mir := true, links := true, io := true, can := true, ses := true, tel := true, evr := true, lcd := true, out := true } s (cyclicRelease t s) := by
  refine Keeps.start fun p s0 hp h => ?_
  unfold cyclicRelease
  repeat' (first
    | ((with_reducible refine Parts.le_trans ?_ hp); exact rfl)
    | with_reducible assumption
    | (intro x; clear_value x)
    | lift_lets
    | split
    | with_reducible apply Keeps.via (keeps_makeRelease _ _ _ _ _)
    | with_reducible apply Keeps.via (keeps_takeEarly _ _)
    | with_reducible apply Keeps.via (keeps_skipRelease _ _))

theorem keeps_releaseHeld (t : TaskEntry) (until_ : Nat) (change : Bool) (s : State) :
    Keeps { cells := true, tbAcc := true, tbLat := true, tsk := true, frc := true, laneA := true, laneB := true, lsk := true, pair := true, mir := true, links := true, io := true, can := true, ses := true, tel := true, evr := true, lcd := true, out := true } s (releaseHeld t until_ change s).1 := by
  refine Keeps.start fun p s0 hp h => ?_
  unfold releaseHeld
  repeat' (first
    | ((with_reducible refine Parts.le_trans ?_ hp); exact rfl)
    | with_reducible assumption
    | (intro x; refine_lift have hx : Keeps p s0 x := ?_; ?_; on_goal 2 => unfold x; on_goal 1 => clear_value x)
    | (intro x; clear_value x)
    | lift_lets
    | split
    | with_reducible apply Keeps.via (keeps_onTask _ _ _)
    | with_reducible apply Keeps.via (keeps_makeRelease _ _ _ _ _)
    | with_reducible apply Keeps.via (keeps_takeEarly _ _)
    | with_reducible apply Keeps.via (keeps_skipRelease _ _))

theorem keeps_releaseAllHeld (until_ : Nat) (change : Bool) (s : State) :
    Keeps { cells := true, tbAcc := true, tbLat := true, tsk := true, frc := true, laneA := true, laneB := true, lsk := true, pair := true, mir := true, links := true, io := true, can := true, ses := true, tel := true, evr := true, lcd := true, out := true } s (releaseAllHeld until_ change s).1 := by
  unfold releaseAllHeld
  refine keeps_foldl _ _ _ (fun y t hy => ?_) (Keeps.refl _ s)
  exact Keeps.via (keeps_releaseHeld t until_ change y.1) rfl hy
theorem keeps_releaseEvent (t : TaskEntry) (g : Trig) (s : State) :
    Keeps { cells := true, tbAcc := true, tbLat := true, tsk := true, frc := true, laneA := true, laneB := true, lsk := true, pair := true, mir := true, links := true, io := true, can := true, ses := true, tel := true, evr := true, lcd := true, out := true } s (releaseEvent t g s) := by
  refine Keeps.start fun p s0 hp h => ?_
  unfold releaseEvent
  repeat' (first
    | ((with_reducible refine Parts.le_trans ?_ hp); exact rfl)
    | with_reducible assumption
    | with_reducible apply Keeps.via (keeps_makeRelease _ _ _ _ _))

theorem keeps_holdTrigger (t : TaskEntry) (g : Trig) (s : State) :
    Keeps { tsk := true } s (holdTrigger t g s) := by
  refine Keeps.start fun p s0 hp h => ?_
  unfold holdTrigger
  repeat' (first
    | ((with_reducible refine Parts.le_trans ?_ hp); exact rfl)
    | with_reducible assumption
    | (intro (f : State → State); refine_lift have hf : ∀ y, Keeps p s0 y → Keeps p s0 (f y) := ?_; ?_; on_goal 2 => (unfold f; intro y hy; try dsimp only); on_goal 1 => clear_value f)
    | (intro x; clear_value x)
    | lift_lets
    | split
    | with_reducible apply Keeps.via (keeps_onTask _ _ _)
    | with_reducible apply Keeps.via (keeps_onTaskStats _ _ _))

theorem keeps_offerTrigger (t : TaskEntry) (g : Trig) (s : State) :
    Keeps { cells := true, tbAcc := true, tbLat := true, tsk := true, frc := true, laneA := true, laneB := true, lsk := true, pair := true, mir := true, links := true, io := true, can := true, ses := true, tel := true, evr := true, lcd := true, out := true } s (offerTrigger t g s) := by
  refine Keeps.start fun p s0 hp h => ?_
  unfold offerTrigger
  repeat' (first
    | ((with_reducible refine Parts.le_trans ?_ hp); exact rfl)
    | with_reducible assumption
    | split
    | with_reducible apply Keeps.via (keeps_releaseEvent _ _ _)
    | with_reducible apply Keeps.via (keeps_holdTrigger _ _ _))

theorem keeps_settleNotices (stamp : Nat) (s : State) :
    Keeps { lsk := true, pair := true, mir := true, ses := true, out := true } s (settleNotices stamp s) := by
  refine Keeps.start fun p s0 hp h => ?_
  unfold settleNotices
  repeat' (first
    | ((with_reducible refine Parts.le_trans ?_ hp); exact rfl)
    | with_reducible assumption
    | intro x
    | lift_lets
    | split
    | with_reducible apply Keeps.via (keeps_confirmed _ _)
    | with_reducible apply keeps_overAll)

theorem keeps_handleTrigger (g : TrigReg) (s : State) :
    Keeps { cells := true, tbAcc := true, tbLat := true, tsk := true, frc := true, laneA := true, laneB := true, lsk := true, pair := true, mir := true, links := true, io := true, can := true, ses := true, tel := true, evr := true, lcd := true, out := true } s (handleTrigger g s) := by
  refine Keeps.start fun p s0 hp h => ?_
  unfold handleTrigger
  repeat' (first
    | ((with_reducible refine Parts.le_trans ?_ hp); exact rfl)
    | with_reducible assumption
    | (intro x; refine_lift have hx : Keeps p s0 x := ?_; ?_; on_goal 2 => unfold x; on_goal 1 => clear_value x)
    | intro x
    | lift_lets
    | split
    | with_reducible apply Keeps.via (keeps_offerTrigger _ _ _)
    | with_reducible apply Keeps.via (keeps_settleNotices _ _)
    | with_reducible apply keeps_overAll)

theorem keeps_releaseNotified (t : TaskEntry) (n : Notice) (s : State) :
    Keeps { cells := true, tbAcc := true, tbLat := true, tsk := true, frc := true, laneA := true, laneB := true, lsk := true, pair := true, mir := true, links := true, io := true, can := true, ses := true, tel := true, evr := true, lcd := true, out := true } s (releaseNotified t n s) := by
  refine Keeps.start fun p s0 hp h => ?_
  unfold releaseNotified
  repeat' (first
    | ((with_reducible refine Parts.le_trans ?_ hp); exact rfl)
    | with_reducible assumption
    | (intro x; refine_lift have hx : Keeps p s0 x := ?_; ?_; on_goal 2 => unfold x; on_goal 1 => clear_value x)
    | (intro x; clear_value x)
    | intro x
    | lift_lets
    | with_reducible apply Keeps.via (keeps_onCycle _ _ _)
    | with_reducible apply Keeps.via (keeps_applyVerdict _ _)
    | with_reducible apply Keeps.via (keeps_deliver _ _)
    | with_reducible apply Keeps.via (keeps_makeRelease _ _ _ _ _)
    | with_reducible apply keeps_overAll)

theorem keeps_takeNotices (t : TaskEntry) (s : State) :
    Keeps { cells := true, tbAcc := true, tbLat := true, tsk := true, frc := true, laneA := true, laneB := true, lsk := true, pair := true, mir := true, links := true, io := true, can := true, ses := true, tel := true, evr := true, lcd := true, out := true } s (takeNotices t s) := by
  refine Keeps.start fun p s0 hp h => ?_
  unfold takeNotices
  repeat' (first
    | ((with_reducible refine Parts.le_trans ?_ hp); exact rfl)
    | with_reducible assumption
    | lift_lets
    | split
    | with_reducible apply Keeps.via (keeps_onTask _ _ _)
    | with_reducible apply Keeps.via (keeps_releaseNotified _ _ _))

theorem keeps_takeAllNotices (s : State) :
    Keeps { cells := true, tbAcc := true, tbLat := true, tsk := true, frc := true, laneA := true, laneB := true, lsk := true, pair := true, mir := true, links := true, io := true, can := true, ses := true, tel := true, evr := true, lcd := true, out := true } s (takeAllNotices s) := by
  refine Keeps.start fun p s0 hp h => ?_
  unfold takeAllNotices
  repeat' (first
    | ((with_reducible refine Parts.le_trans ?_ hp); exact rfl)
    | with_reducible assumption
    | intro x
    | lift_lets
    | with_reducible apply Keeps.via (keeps_takeNotices _ _)
    | with_reducible apply keeps_overAll)

/-! ### Operations of Machine/IslandBase.lean -/

theorem keeps_filterReset (c : Fin 192) (s : State) :
    Keeps { io := true } s (filterReset c s) := by
  refine Keeps.start fun p s0 hp h => ?_
  unfold filterReset
  repeat' (first
    | ((with_reducible refine Parts.le_trans ?_ hp); exact rfl)
    | with_reducible assumption
    | (intro x; clear_value x)
    | lift_lets
    | with_reducible apply Keeps.via (keeps_onAi _ _ _))

theorem keeps_report (n : Fin 24) (code : Nat) (det : Bool) (fields : List (Nat × Nat)) (s : State) :
    Keeps { io := true } s (report n code det fields s) := by
  refine Keeps.start fun p s0 hp h => ?_
  unfold report
  repeat' (first
    | ((with_reducible refine Parts.le_trans ?_ hp); exact rfl)
    | with_reducible assumption
    | with_reducible apply Keeps.via (keeps_onOwn _ _ _))

theorem keeps_islResult (n : Fin 24) (c : Option (Fin 192)) (res detail : Nat) (s : State) :
    Keeps { io := true } s (islResult n c res detail s) := by
  refine Keeps.start fun p s0 hp h => ?_
  unfold islResult
  repeat' (first
    | ((with_reducible refine Parts.le_trans ?_ hp); exact rfl)
    | with_reducible assumption
    | with_reducible apply Keeps.via (keeps_onOwn _ _ _))

theorem keeps_islEvent (n : Fin 24) (e : IslEvent) (s : State) :
    Keeps { io := true } s (islEvent n e s) := by
  refine Keeps.start fun p s0 hp h => ?_
  unfold islEvent
  repeat' (first
    | ((with_reducible refine Parts.le_trans ?_ hp); exact rfl)
    | with_reducible assumption
    | with_reducible apply Keeps.via (keeps_onOwn _ _ _))

theorem keeps_refreshAo (c : Fin 192) (s : State) :
    Keeps { io := true } s (refreshAo c s) := by
  refine Keeps.start fun p s0 hp h => ?_
  unfold refreshAo
  repeat' (first
    | ((with_reducible refine Parts.le_trans ?_ hp); exact rfl)
    | with_reducible assumption
    | (intro x; refine_lift have hx : Keeps p s0 x := ?_; ?_; on_goal 2 => unfold x; on_goal 1 => clear_value x)
    | (intro x; clear_value x)
    | split
    | lift_lets
    | with_reducible apply Keeps.via (keeps_onAo _ _ _)
    | with_reducible apply Keeps.via (keeps_report _ _ _ _ _))

theorem keeps_switchGroup (l : Fin 192) (on : Bool) (s : State) :
    Keeps { io := true } s (switchGroup l on s) := by
  refine Keeps.start fun p s0 hp h => ?_
  unfold switchGroup
  repeat' (first
    | ((with_reducible refine Parts.le_trans ?_ hp); exact rfl)
    | with_reducible assumption
    | intro x
    | lift_lets
    | with_reducible apply Keeps.via (keeps_onDo _ _ _)
    | with_reducible apply keeps_overAll)

theorem keeps_refreshDo (c : Fin 192) (s : State) :
    Keeps { io := true } s (refreshDo c s) := by
  refine Keeps.start fun p s0 hp h => ?_
  unfold refreshDo
  repeat' (first
    | ((with_reducible refine Parts.le_trans ?_ hp); exact rfl)
    | with_reducible assumption
    | (intro x; refine_lift have hx : Keeps p s0 x := ?_; ?_; on_goal 2 => unfold x; on_goal 1 => clear_value x)
    | (intro x; clear_value x)
    | lift_lets
    | split
    | with_reducible apply Keeps.via (keeps_onDo _ _ _)
    | with_reducible apply Keeps.via (keeps_report _ _ _ _ _)
    | with_reducible apply Keeps.via (keeps_switchGroup _ _ _))

theorem keeps_refreshOutputs (n : Fin 24) (s : State) :
    Keeps { io := true } s (refreshOutputs n s) := by
  refine Keeps.start fun p s0 hp h => ?_
  unfold refreshOutputs
  repeat' (first
    | ((with_reducible refine Parts.le_trans ?_ hp); exact rfl)
    | with_reducible assumption
    | intro x
    | lift_lets
    | split
    | with_reducible apply Keeps.via (keeps_refreshAo _ _)
    | with_reducible apply Keeps.via (keeps_refreshDo _ _)
    | with_reducible apply keeps_overAll)

theorem keeps_safeOutputs (n : Fin 24) (s : State) :
    Keeps { io := true } s (safeOutputs n s) := by
  refine Keeps.start fun p s0 hp h => ?_
  unfold safeOutputs
  repeat' (first
    | ((with_reducible refine Parts.le_trans ?_ hp); exact rfl)
    | with_reducible assumption
    | intro x
    | lift_lets
    | with_reducible apply Keeps.via (keeps_onChan _ _ _)
    | with_reducible apply Keeps.via (keeps_refreshOutputs _ _)
    | with_reducible apply keeps_overAll)

theorem keeps_takeCommand (c : Fin 192) (v : W64) (q : Byte) (s : State) :
    Keeps { io := true } s (takeCommand c v q s) := by
  refine Keeps.start fun p s0 hp h => ?_
  unfold takeCommand
  repeat' (first
    | ((with_reducible refine Parts.le_trans ?_ hp); exact rfl)
    | with_reducible assumption
    | (intro x; refine_lift have hx : Keeps p s0 x := ?_; ?_; on_goal 2 => unfold x; on_goal 1 => clear_value x)
    | (intro x; clear_value x)
    | lift_lets
    | split
    | with_reducible apply Keeps.via (keeps_onChan _ _ _)
    | with_reducible apply Keeps.via (keeps_onAo _ _ _)
    | with_reducible apply Keeps.via (keeps_onDo _ _ _)
    | with_reducible apply Keeps.via (keeps_refreshAo _ _)
    | with_reducible apply Keeps.via (keeps_refreshDo _ _))

theorem keeps_configureChan (c : Fin 192) (s : State) :
    Keeps { io := true } s (configureChan c s) := by
  refine Keeps.start fun p s0 hp h => ?_
  unfold configureChan
  repeat' (first
    | ((with_reducible refine Parts.le_trans ?_ hp); exact rfl)
    | with_reducible assumption
    | lift_lets
    | with_reducible apply Keeps.via (keeps_onChan _ _ _)
    | with_reducible apply Keeps.via (keeps_onAi _ _ _)
    | with_reducible apply Keeps.via (keeps_onDi _ _ _)
    | with_reducible apply Keeps.via (keeps_filterReset _ _))

theorem keeps_configureIsland (n : Fin 24) (s : State) :
    Keeps { io := true } s (configureIsland n s) := by
  refine Keeps.start fun p s0 hp h => ?_
  unfold configureIsland
  repeat' (first
    | ((with_reducible refine Parts.le_trans ?_ hp); exact rfl)
    | with_reducible assumption
    | (intro x; refine_lift have hx : Keeps p s0 x := ?_; ?_; on_goal 2 => unfold x; on_goal 1 => clear_value x)
    | intro x
    | lift_lets
    | with_reducible apply Keeps.via (keeps_onOwn _ _ _)
    | with_reducible apply Keeps.via (keeps_refreshOutputs _ _)
    | with_reducible apply Keeps.via (keeps_configureChan _ _)
    | with_reducible apply keeps_overAll)

theorem keeps_resetIsland (n : Fin 24) (s : State) :
    Keeps { io := true } s (resetIsland n s) := by
  refine Keeps.start fun p s0 hp h => ?_
  unfold resetIsland
  repeat' (first
    | ((with_reducible refine Parts.le_trans ?_ hp); exact rfl)
    | with_reducible assumption
    | (intro x; refine_lift have hx : Keeps p s0 x := ?_; ?_; on_goal 2 => unfold x; on_goal 1 => clear_value x)
    | (intro x; clear_value x)
    | intro x
    | lift_lets
    | with_reducible apply Keeps.via (keeps_onChan _ _ _)
    | with_reducible apply Keeps.via (keeps_onAi _ _ _)
    | with_reducible apply Keeps.via (keeps_onAo _ _ _)
    | with_reducible apply Keeps.via (keeps_onDi _ _ _)
    | with_reducible apply Keeps.via (keeps_onDo _ _ _)
    | with_reducible apply Keeps.via (keeps_onOwn _ _ _)
    | with_reducible apply Keeps.via (keeps_onSup _ _ _)
    | with_reducible apply keeps_overAll)

theorem keeps_dropOwed (o : Origin) (g : ResReg) (s : State) :
    Keeps { pair := true } s (dropOwed o g s) := by
  refine Keeps.start fun p s0 hp h => ?_
  unfold dropOwed
  repeat' (first
    | with_reducible assumption
    | (intro x; clear_value x)
    | lift_lets
    | fail_if_no_progress ((with_reducible apply Keeps.upd hp) <;> [skip; (with_reducible rfl); (with_reducible rfl)]))

theorem keeps_endCmd (a : CmdAsker) (res detail : Nat) (s : State) :
    Keeps { laneA := true, laneB := true, lsk := true, pair := true, ses := true, out := true } s (endCmd a res detail s) := by
  refine Keeps.start fun p s0 hp h => ?_
  unfold endCmd
  repeat' (first
    | ((with_reducible refine Parts.le_trans ?_ hp); exact rfl)
    | with_reducible assumption
    | lift_lets
    | split
    | with_reducible apply Keeps.via (keeps_answer _ _ _ _)
    | with_reducible apply Keeps.via (keeps_serviceReturn _ _ _)
    | with_reducible apply Keeps.via (keeps_dropOwed _ _ _))

theorem keeps_endIslandCmds (n : Fin 24) (s : State) :
    Keeps { laneA := true, laneB := true, lsk := true, pair := true, io := true, ses := true, out := true } s (endIslandCmds n s) := by
  refine Keeps.start fun p s0 hp h => ?_
  unfold endIslandCmds
  repeat' (first
    | ((with_reducible refine Parts.le_trans ?_ hp); exact rfl)
    | with_reducible assumption
    | (intro x; refine_lift have hx : Keeps p s0 x := ?_; ?_; on_goal 2 => unfold x; on_goal 1 => clear_value x)
    | (intro x; clear_value x)
    | intro x
    | lift_lets
    | split
    | with_reducible apply Keeps.via (keeps_onChan _ _ _)
    | with_reducible apply Keeps.via (keeps_onIsl _ _ _)
    | with_reducible apply Keeps.via (keeps_endCmd _ _ _ _)
    | with_reducible apply keeps_overAll
    | fail_if_no_progress ((with_reducible apply Keeps.upd hp) <;> [skip; (with_reducible rfl); (with_reducible rfl)]))

theorem keeps_islandOut (n : Fin 24) (cause : Fin 16) (s : State) :
    Keeps { laneA := true, laneB := true, lsk := true, pair := true, mir := true, io := true, ses := true, evr := true, out := true } s (islandOut n cause s) := by
  refine Keeps.start fun p s0 hp h => ?_
  unfold islandOut
  repeat' (first
    | ((with_reducible refine Parts.le_trans ?_ hp); exact rfl)
    | with_reducible assumption
    | (intro x; refine_lift have hx : Keeps p s0 x := ?_; ?_; on_goal 2 => unfold x; on_goal 1 => clear_value x)
    | (intro x; clear_value x)
    | intro x
    | lift_lets
    | split
    | with_reducible apply Keeps.via (keeps_logEv _ _ _ _)
    | with_reducible apply Keeps.via (keeps_onChan _ _ _)
    | with_reducible apply Keeps.via (keeps_onIsl _ _ _)
    | with_reducible apply Keeps.via (keeps_onIslStats _ _ _)
    | with_reducible apply Keeps.via (keeps_endIslandCmds _ _)
    | with_reducible apply keeps_overAll
    | fail_if_no_progress ((with_reducible apply Keeps.upd hp) <;> [skip; (with_reducible rfl); (with_reducible rfl)]))

/-! ### Operations of Machine/AnalogIn.lean -/

theorem keeps_judgeLimit (c : Fin 192) (v : W64) (stamp : Nat) (unc : Bool) (j : Nat) (s : State) :
    Keeps { io := true } s (judgeLimit c v stamp unc j s) := by
  refine Keeps.start fun p s0 hp h => ?_
  unfold judgeLimit
  repeat' (first
    | ((with_reducible refine Parts.le_trans ?_ hp); exact rfl)
    | with_reducible assumption
    | (intro x; refine_lift have hx : Keeps p s0 x := ?_; ?_; on_goal 2 => unfold x; on_goal 1 => clear_value x)
    | (intro x; clear_value x)
    | lift_lets
    | split
    | with_reducible apply Keeps.via (keeps_onAi _ _ _)
    | with_reducible apply Keeps.via (keeps_islEvent _ _ _))

theorem keeps_judgeLimits (c : Fin 192) (v : W64) (st : BitVec 16) (stamp : Nat) (s : State) :
    Keeps { io := true } s (judgeLimits c v st stamp s) := by
  refine Keeps.start fun p s0 hp h => ?_
  unfold judgeLimits
  repeat' (first
    | ((with_reducible refine Parts.le_trans ?_ hp); exact rfl)
    | with_reducible assumption
    | intro x
    | lift_lets
    | split
    | with_reducible apply Keeps.via (keeps_judgeLimit _ _ _ _ _ _)
    | with_reducible apply keeps_overAll)

theorem keeps_aiResult (c : Fin 192) (code : BitVec 24) (m : AiInput) (delay : Nat) (s : State) :
    Keeps { io := true } s (aiResult c code m delay s) := by
  refine Keeps.start fun p s0 hp h => ?_
  unfold aiResult
  repeat' (first
    | ((with_reducible refine Parts.le_trans ?_ hp); exact rfl)
    | with_reducible assumption
    | (intro x; clear_value x)
    | lift_lets
    | with_reducible apply Keeps.via (keeps_onChan _ _ _)
    | with_reducible apply Keeps.via (keeps_onAi _ _ _)
    | with_reducible apply Keeps.via (keeps_judgeLimits _ _ _ _ _))

theorem keeps_noteClip (c : Fin 192) (s : State) :
    Keeps { io := true } s (noteClip c s) := by
  refine Keeps.start fun p s0 hp h => ?_
  unfold noteClip
  repeat' (first
    | ((with_reducible refine Parts.le_trans ?_ hp); exact rfl)
    | with_reducible assumption
    | with_reducible apply Keeps.via (keeps_onAi _ _ _))

theorem keeps_aiConversionComplete (c : Fin 192) (code : BitVec 24) (m : AiInput) (s : State) :
    Keeps { io := true } s (aiConversionComplete c code m s) := by
  refine Keeps.start fun p s0 hp h => ?_
  unfold aiConversionComplete
  repeat' (first
    | ((with_reducible refine Parts.le_trans ?_ hp); exact rfl)
    | with_reducible assumption
    | (intro x; refine_lift have hx : Keeps p s0 x := ?_; ?_; on_goal 2 => unfold x; on_goal 1 => clear_value x)
    | (intro x; clear_value x)
    | lift_lets
    | split
    | with_reducible apply Keeps.via (keeps_onAi _ _ _)
    | with_reducible apply Keeps.via (keeps_filterReset _ _)
    | with_reducible apply Keeps.via (keeps_aiResult _ _ _ _ _)
    | with_reducible apply Keeps.via (keeps_noteClip _ _))

theorem keeps_startUrgent (c : Fin 192) (s : State) :
    Keeps { io := true } s (startUrgent c s) := by
  refine Keeps.start fun p s0 hp h => ?_
  unfold startUrgent
  repeat' (first
    | ((with_reducible refine Parts.le_trans ?_ hp); exact rfl)
    | with_reducible assumption
    | (intro x; clear_value x)
    | lift_lets
    | split
    | with_reducible apply Keeps.via (keeps_onAi _ _ _)
    | with_reducible apply Keeps.via (keeps_islResult _ _ _ _ _))

theorem keeps_urgentComplete (c : Fin 192) (code : BitVec 24) (m : AiInput) (s : State) :
    Keeps { io := true } s (urgentComplete c code m s) := by
  refine Keeps.start fun p s0 hp h => ?_
  unfold urgentComplete
  repeat' (first
    | ((with_reducible refine Parts.le_trans ?_ hp); exact rfl)
    | with_reducible assumption
    | (intro x; refine_lift have hx : Keeps p s0 x := ?_; ?_; on_goal 2 => unfold x; on_goal 1 => clear_value x)
    | (intro x; clear_value x)
    | lift_lets
    | split
    | with_reducible apply Keeps.via (keeps_onAi _ _ _)
    | with_reducible apply Keeps.via (keeps_filterReset _ _)
    | with_reducible apply Keeps.via (keeps_islResult _ _ _ _ _)
    | with_reducible apply Keeps.via (keeps_aiResult _ _ _ _ _))

theorem keeps_startTest (c : Fin 192) (tv cmd : Bool) (s : State) :
    Keeps { io := true } s (startTest c tv cmd s) := by
  refine Keeps.start fun p s0 hp h => ?_
  unfold startTest
  repeat' (first
    | ((with_reducible refine Parts.le_trans ?_ hp); exact rfl)
    | with_reducible assumption
    | split
    | with_reducible apply Keeps.via (keeps_onAi _ _ _))

theorem keeps_openwireTestStart (c : Fin 192) (s : State) :
    Keeps { io := true } s (openwireTestStart c s) := by
  refine Keeps.start fun p s0 hp h => ?_
  unfold openwireTestStart
  repeat' (first
    | ((with_reducible refine Parts.le_trans ?_ hp); exact rfl)
    | with_reducible assumption
    | (intro x; clear_value x)
    | lift_lets
    | split
    | with_reducible apply Keeps.via (keeps_onAi _ _ _)
    | with_reducible apply Keeps.via (keeps_startTest _ _ _ _))

theorem keeps_setOpen (c : Fin 192) (v method : Fin 4) (delta : Nat) (s : State) :
    Keeps { io := true } s (setOpen c v method delta s) := by
  refine Keeps.start fun p s0 hp h => ?_
  unfold setOpen
  repeat' (first
    | ((with_reducible refine Parts.le_trans ?_ hp); exact rfl)
    | with_reducible assumption
    | (intro x; refine_lift have hx : Keeps p s0 x := ?_; ?_; on_goal 2 => unfold x; on_goal 1 => clear_value x)
    | (intro x; clear_value x)
    | lift_lets
    | split
    | with_reducible apply Keeps.via (keeps_onAi _ _ _)
    | with_reducible apply Keeps.via (keeps_report _ _ _ _ _))

theorem keeps_openwireTestComplete (c : Fin 192) (obs : OwObs) (s : State) :
    Keeps { io := true } s (openwireTestComplete c obs s) := by
  refine Keeps.start fun p s0 hp h => ?_
  unfold openwireTestComplete
  repeat' (first
    | ((with_reducible refine Parts.le_trans ?_ hp); exact rfl)
    | with_reducible assumption
    | (intro x; refine_lift have hx : Keeps p s0 x := ?_; ?_; on_goal 2 => unfold x; on_goal 1 => clear_value x)
    | (intro x; clear_value x)
    | lift_lets
    | split
    | with_reducible apply Keeps.via (keeps_onAi _ _ _)
    | with_reducible apply Keeps.via (keeps_filterReset _ _)
    | with_reducible apply Keeps.via (keeps_islResult _ _ _ _ _)
    | with_reducible apply Keeps.via (keeps_startTest _ _ _ _)
    | with_reducible apply Keeps.via (keeps_setOpen _ _ _ _ _))

theorem keeps_calibrateChan (c : Fin 192) (first second : W32 × W32) (s : State) :
    Keeps { io := true } s (calibrateChan c first second s).1 := by
  refine Keeps.start fun p s0 hp h => ?_
  unfold calibrateChan
  repeat' (first
    | ((with_reducible refine Parts.le_trans ?_ hp); exact rfl)
    | with_reducible assumption
    | (intro x; clear_value x)
    | lift_lets
    | split
    | with_reducible apply Keeps.via (keeps_onAi _ _ _)
    | with_reducible apply Keeps.via (keeps_report _ _ _ _ _))

theorem keeps_calibrateChans (n : Fin 24) (factors : List (Fin 8 × W32 × W32)) (s : State) :
    Keeps { io := true } s (calibrateChans n factors s).1 := by
  unfold calibrateChans
  refine keeps_foldl _ _ _ (fun y k hy => ?_) (Keeps.refl _ s)
  dsimp only
  split
  · exact Keeps.via (keeps_filterReset _ _) rfl (Keeps.via (keeps_calibrateChan _ _ _ _) rfl hy)
  · exact hy
theorem keeps_startCal (n : Fin 24) (s : State) :
    Keeps { io := true } s (startCal n s) := by
  refine Keeps.start fun p s0 hp h => ?_
  unfold startCal
  repeat' (first
    | ((with_reducible refine Parts.le_trans ?_ hp); exact rfl)
    | with_reducible assumption
    | (intro x; refine_lift have hx : Keeps p s0 x := ?_; ?_; on_goal 2 => unfold x; on_goal 1 => clear_value x)
    | (intro x; clear_value x)
    | intro x
    | lift_lets
    | split
    | with_reducible apply Keeps.via (keeps_onAi _ _ _)
    | with_reducible apply Keeps.via (keeps_onOwn _ _ _)
    | with_reducible apply Keeps.via (keeps_islResult _ _ _ _ _)
    | with_reducible apply keeps_overAll)

theorem keeps_calibrationComplete (n : Fin 24) (factors : List (Fin 8 × W32 × W32)) (s : State) :
    Keeps { io := true } s (calibrationComplete n factors s) := by
  refine Keeps.start fun p s0 hp h => ?_
  unfold calibrationComplete
  repeat' (first
    | ((with_reducible refine Parts.le_trans ?_ hp); exact rfl)
    | with_reducible assumption
    | (intro x; refine_lift have hx : Keeps p s0 x := ?_; ?_; on_goal 2 => unfold x; on_goal 1 => clear_value x)
    | lift_lets
    | split
    | with_reducible apply Keeps.of_fst (by assumption)
    | with_reducible apply Keeps.via (keeps_onOwn _ _ _)
    | with_reducible apply Keeps.via (keeps_report _ _ _ _ _)
    | with_reducible apply Keeps.via (keeps_islResult _ _ _ _ _)
    | with_reducible apply Keeps.via (keeps_calibrateChans _ _ _))

theorem keeps_calload (c : Fin 192) (ofs gain : W32) (s : State) :
    Keeps { io := true } s (calload c ofs gain s) := by
  refine Keeps.start fun p s0 hp h => ?_
  unfold calload
  repeat' (first
    | ((with_reducible refine Parts.le_trans ?_ hp); exact rfl)
    | with_reducible assumption
    | intro x
    | lift_lets
    | split
    | with_reducible apply Keeps.via (keeps_onAi _ _ _)
    | with_reducible apply Keeps.via (keeps_islResult _ _ _ _ _))

theorem keeps_cjMeasurement (n : Fin 24) (temp : BitVec 16) (s : State) :
    Keeps { io := true } s (cjMeasurement n temp s) := by
  refine Keeps.start fun p s0 hp h => ?_
  unfold cjMeasurement
  repeat' (first
    | ((with_reducible refine Parts.le_trans ?_ hp); exact rfl)
    | with_reducible assumption
    | (intro x; refine_lift have hx : Keeps p s0 x := ?_; ?_; on_goal 2 => unfold x; on_goal 1 => clear_value x)
    | (intro x; clear_value x)
    | lift_lets
    | split
    | with_reducible apply Keeps.via (keeps_onSup _ _ _)
    | with_reducible apply Keeps.via (keeps_report _ _ _ _ _))

theorem keeps_cjFaultEnd (n : Fin 24) (s : State) :
    Keeps { io := true } s (cjFaultEnd n s) := by
  refine Keeps.start fun p s0 hp h => ?_
  unfold cjFaultEnd
  repeat' (first
    | ((with_reducible refine Parts.le_trans ?_ hp); exact rfl)
    | with_reducible assumption
    | (intro x; clear_value x)
    | lift_lets
    | split
    | with_reducible apply Keeps.via (keeps_onSup _ _ _)
    | with_reducible apply Keeps.via (keeps_report _ _ _ _ _))

/-! ### Operations of Machine/AnalogOut.lean -/

theorem keeps_readbackAo (c : Fin 192) (value : W64) (own total vterm : Nat) (s : State) :
    Keeps { io := true } s (readbackAo c value own total vterm s) := by
  refine Keeps.start fun p s0 hp h => ?_
  unfold readbackAo
  repeat' (first
    | ((with_reducible refine Parts.le_trans ?_ hp); exact rfl)
    | with_reducible assumption
    | (intro x; refine_lift have hx : Keeps p s0 x := ?_; ?_; on_goal 2 => unfold x; on_goal 1 => clear_value x)
    | (intro x; clear_value x)
    | lift_lets
    | split
    | with_reducible apply Keeps.via (keeps_onAo _ _ _)
    | with_reducible apply Keeps.via (keeps_report _ _ _ _ _))

theorem keeps_judgeGroup (l : Fin 192) (s : State) :
    Keeps { io := true } s (judgeGroup l s) := by
  refine Keeps.start fun p s0 hp h => ?_
  unfold judgeGroup
  repeat' (first
    | ((with_reducible refine Parts.le_trans ?_ hp); exact rfl)
    | with_reducible assumption
    | (intro x; refine_lift have hx : Keeps p s0 x := ?_; ?_; on_goal 2 => unfold x; on_goal 1 => clear_value x)
    | (intro x; clear_value x)
    | lift_lets
    | split
    | with_reducible apply Keeps.via (keeps_onDo _ _ _)
    | with_reducible apply Keeps.via (keeps_report _ _ _ _ _))

theorem keeps_readbackDo (c : Fin 192) (own vterm : Nat) (s : State) :
    Keeps { io := true } s (readbackDo c own vterm s) := by
  refine Keeps.start fun p s0 hp h => ?_
  unfold readbackDo
  repeat' (first
    | ((with_reducible refine Parts.le_trans ?_ hp); exact rfl)
    | with_reducible assumption
    | (intro x; clear_value x)
    | lift_lets
    | with_reducible apply Keeps.via (keeps_onDo _ _ _)
    | with_reducible apply Keeps.via (keeps_judgeGroup _ _))

theorem keeps_readbackConversion (c : Fin 192) (value : W64) (own total vterm : Nat) (s : State) :
    Keeps { io := true } s (readbackConversion c value own total vterm s) := by
  refine Keeps.start fun p s0 hp h => ?_
  unfold readbackConversion
  repeat' (first
    | ((with_reducible refine Parts.le_trans ?_ hp); exact rfl)
    | with_reducible assumption
    | (intro x; refine_lift have hx : Keeps p s0 x := ?_; ?_; on_goal 2 => unfold x; on_goal 1 => clear_value x)
    | (intro x; clear_value x)
    | lift_lets
    | split
    | with_reducible apply Keeps.via (keeps_onChan _ _ _)
    | with_reducible apply Keeps.via (keeps_readbackAo _ _ _ _ _ _)
    | with_reducible apply Keeps.via (keeps_readbackDo _ _ _ _))

theorem keeps_aoThermalCrossing (c : Fin 192) (temp : BitVec 16) (s : State) :
    Keeps { io := true } s (aoThermalCrossing c temp s) := by
  refine Keeps.start fun p s0 hp h => ?_
  unfold aoThermalCrossing
  repeat' (first
    | ((with_reducible refine Parts.le_trans ?_ hp); exact rfl)
    | with_reducible assumption
    | (intro x; refine_lift have hx : Keeps p s0 x := ?_; ?_; on_goal 2 => unfold x; on_goal 1 => clear_value x)
    | (intro x; clear_value x)
    | lift_lets
    | split
    | with_reducible apply Keeps.via (keeps_onAo _ _ _)
    | with_reducible apply Keeps.via (keeps_report _ _ _ _ _))

theorem keeps_complianceEntry (c : Fin 192) (vterm delivered : Nat) (s : State) :
    Keeps { io := true } s (complianceEntry c vterm delivered s) := by
  refine Keeps.start fun p s0 hp h => ?_
  unfold complianceEntry
  repeat' (first
    | ((with_reducible refine Parts.le_trans ?_ hp); exact rfl)
    | with_reducible assumption
    | (intro x; clear_value x)
    | lift_lets
    | split
    | with_reducible apply Keeps.via (keeps_onAo _ _ _)
    | with_reducible apply Keeps.via (keeps_report _ _ _ _ _))

theorem keeps_complianceClearTimeout (c : Fin 192) (s : State) :
    Keeps { io := true } s (complianceClearTimeout c s) := by
  refine Keeps.start fun p s0 hp h => ?_
  unfold complianceClearTimeout
  repeat' (first
    | ((with_reducible refine Parts.le_trans ?_ hp); exact rfl)
    | with_reducible assumption
    | (intro x; clear_value x)
    | lift_lets
    | split
    | with_reducible apply Keeps.via (keeps_onAo _ _ _)
    | with_reducible apply Keeps.via (keeps_report _ _ _ _ _))

theorem keeps_aoOpenLoopTimeout (c : Fin 192) (s : State) :
    Keeps { io := true } s (aoOpenLoopTimeout c s) := by
  refine Keeps.start fun p s0 hp h => ?_
  unfold aoOpenLoopTimeout
  repeat' (first
    | ((with_reducible refine Parts.le_trans ?_ hp); exact rfl)
    | with_reducible assumption
    | (intro x; clear_value x)
    | lift_lets
    | split
    | with_reducible apply Keeps.via (keeps_onAo _ _ _)
    | with_reducible apply Keeps.via (keeps_report _ _ _ _ _))

theorem keeps_voltageOutputLeaseEnd (n : Fin 24) (s : State) :
    Keeps { io := true } s (voltageOutputLeaseEnd n s) := by
  refine Keeps.start fun p s0 hp h => ?_
  unfold voltageOutputLeaseEnd
  repeat' (first
    | ((with_reducible refine Parts.le_trans ?_ hp); exact rfl)
    | with_reducible assumption
    | split
    | with_reducible apply Keeps.via (keeps_refreshOutputs _ _))

theorem keeps_partnerShareVanished (n : Fin 24) (mask : Byte) (micros : Nat) (s : State) :
    Keeps { io := true } s (partnerShareVanished n mask micros s) := by
  refine Keeps.start fun p s0 hp h => ?_
  unfold partnerShareVanished
  repeat' (first
    | ((with_reducible refine Parts.le_trans ?_ hp); exact rfl)
    | with_reducible assumption
    | (intro x; clear_value x)
    | intro x
    | lift_lets
    | split
    | with_reducible apply Keeps.via (keeps_onAo _ _ _)
    | with_reducible apply Keeps.via (keeps_report _ _ _ _ _)
    | with_reducible apply keeps_overAll)

/-! ### Operations of Machine/Plain.lean -/

theorem keeps_joinCycleFlags (t : Fin 128) (f : Flags) (s : State) :
    Keeps { tsk := true } s (joinCycleFlags t f s) := by
  refine Keeps.start fun p s0 hp h => ?_
  unfold joinCycleFlags
  repeat' (first
    | ((with_reducible refine Parts.le_trans ?_ hp); exact rfl)
    | with_reducible assumption
    | with_reducible apply Keeps.via (keeps_onCycle _ _ _))

theorem keeps_fireSlot (lane : Lane) (c : SlotConf) (s : State) :
    Keeps { tsk := true, laneA := true, laneB := true } s (fireSlot lane c s) := by
  refine Keeps.start fun p s0 hp h => ?_
  unfold fireSlot
  repeat' (first
    | ((with_reducible refine Parts.le_trans ?_ hp); exact rfl)
    | with_reducible assumption
    | (intro x; clear_value x)
    | lift_lets
    | with_reducible apply Keeps.via (keeps_onLane _ _ _)
    | with_reducible apply Keeps.via (keeps_joinCycleFlags _ _ _))

theorem keeps_laneDies (lane : Lane) (s : State) :
    Keeps { laneA := true, laneB := true } s (laneDies lane s) := by
  refine Keeps.start fun p s0 hp h => ?_
  unfold laneDies
  repeat' (first
    | ((with_reducible refine Parts.le_trans ?_ hp); exact rfl)
    | with_reducible assumption
    | with_reducible apply Keeps.via (keeps_onLane _ _ _))

theorem keeps_slotFiring (lane : Lane) (tile : Fin 16384) (slot : Fin 16) (s : State) :
    Keeps { tsk := true, laneA := true, laneB := true } s (slotFiring lane tile slot s) := by
  refine Keeps.start fun p s0 hp h => ?_
  unfold slotFiring
  repeat' (first
    | ((with_reducible refine Parts.le_trans ?_ hp); exact rfl)
    | with_reducible assumption
    | (intro x; clear_value x)
    | lift_lets
    | split
    | with_reducible apply Keeps.via (keeps_fireSlot _ _ _))

theorem keeps_tokenHop (lane : Lane) (tile : Fin 16384) (dir : Fin 4) (s : State) :
    Keeps { laneA := true, laneB := true } s (tokenHop lane tile dir s) := by
  refine Keeps.start fun p s0 hp h => ?_
  unfold tokenHop
  repeat' (first
    | ((with_reducible refine Parts.le_trans ?_ hp); exact rfl)
    | with_reducible assumption
    | (intro x; clear_value x)
    | lift_lets
    | split
    | with_reducible apply Keeps.via (keeps_onLane _ _ _))

theorem keeps_onCore (lane : Lane) (k : Fin 8) (f : Core → Core) (s : State) :
    Keeps { laneA := true, laneB := true } s (onCore lane k f s) := by
  refine Keeps.start fun p s0 hp h => ?_
  unfold onCore
  repeat' (first
    | ((with_reducible refine Parts.le_trans ?_ hp); exact rfl)
    | with_reducible assumption
    | with_reducible apply Keeps.via (keeps_onLane _ _ _))

theorem keeps_routineStart (lane : Lane) (k : Fin 8) (s : State) :
    Keeps { laneA := true, laneB := true } s (routineStart lane k s) := by
  refine Keeps.start fun p s0 hp h => ?_
  unfold routineStart
  repeat' (first
    | ((with_reducible refine Parts.le_trans ?_ hp); exact rfl)
    | with_reducible assumption
    | (intro x; clear_value x)
    | lift_lets
    | split
    | with_reducible apply Keeps.via (keeps_onCore _ _ _ _))

theorem keeps_sendOutput (lane : Lane) (k : Fin 8) (task : Fin 128) (o : RoutineOut) (v : W128) (s : State) :
    Keeps { laneA := true, laneB := true } s (sendOutput lane k task o v s) := by
  refine Keeps.start fun p s0 hp h => ?_
  unfold sendOutput
  repeat' (first
    | ((with_reducible refine Parts.le_trans ?_ hp); exact rfl)
    | with_reducible assumption
    | with_reducible apply Keeps.via (keeps_onLane _ _ _))

theorem keeps_coreFault (lane : Lane) (k : Fin 8) (task : Fin 128) (reason : Byte) (info : W32) (s : State) :
    Keeps { tsk := true, evr := true, free := true } s (coreFault lane k task reason info s) := by
  refine Keeps.start fun p s0 hp h => ?_
  unfold coreFault
  repeat' (first
    | ((with_reducible refine Parts.le_trans ?_ hp); exact rfl)
    | with_reducible assumption
    | (intro x; refine_lift have hx : Keeps p s0 x := ?_; ?_; on_goal 2 => unfold x; on_goal 1 => clear_value x)
    | (intro x; clear_value x)
    | lift_lets
    | split
    | with_reducible apply Keeps.via (keeps_logOpen _)
    | with_reducible apply Keeps.via (keeps_triggerReason _ _ _ _ _)
    | with_reducible apply Keeps.via (keeps_joinCycleFlags _ _ _)
    | fail_if_no_progress ((with_reducible apply Keeps.upd hp) <;> [skip; (with_reducible rfl); (with_reducible rfl)]))

theorem keeps_preciseFault (lane : Lane) (k : Fin 8) (cls : Nat) (s : State) :
    Keeps { tsk := true, laneA := true, laneB := true, evr := true, free := true } s (preciseFault lane k cls s) := by
  refine Keeps.start fun p s0 hp h => ?_
  unfold preciseFault
  repeat' (first
    | ((with_reducible refine Parts.le_trans ?_ hp); exact rfl)
    | with_reducible assumption
    | (intro x; refine_lift have hx : Keeps p s0 x := ?_; ?_; on_goal 2 => unfold x; on_goal 1 => clear_value x)
    | (intro x; clear_value x)
    | intro x
    | lift_lets
    | split
    | with_reducible apply Keeps.via (keeps_onCore _ _ _ _)
    | with_reducible apply Keeps.via (keeps_sendOutput _ _ _ _ _ _)
    | with_reducible apply Keeps.via (keeps_coreFault _ _ _ _ _ _)
    | with_reducible apply keeps_overAll)

theorem keeps_onCtx (lane : Lane) (k : Fin 8) (f : Context → Context) (s : State) :
    Keeps { laneA := true, laneB := true } s (onCtx lane k f s) := by
  refine Keeps.start fun p s0 hp h => ?_
  unfold onCtx
  repeat' (first
    | ((with_reducible refine Parts.le_trans ?_ hp); exact rfl)
    | with_reducible assumption
    | with_reducible apply Keeps.via (keeps_onCore _ _ _ _))

theorem keeps_sendAndWait (lane : Lane) (k : Fin 8) (w : LaneWord) (wait : Option CoreWait) (s : State) :
    Keeps { laneA := true, laneB := true } s (sendAndWait lane k w wait s) := by
  refine Keeps.start fun p s0 hp h => ?_
  unfold sendAndWait
  repeat' (first
    | ((with_reducible refine Parts.le_trans ?_ hp); exact rfl)
    | with_reducible assumption
    | lift_lets
    | with_reducible apply Keeps.via (keeps_onLane _ _ _)
    | with_reducible apply Keeps.via (keeps_onCtx _ _ _ _))

theorem keeps_stepRoutine (lane : Lane) (k : Fin 8) (op : CoreOp) (x : Context) (r : Routine) (s : State) :
    Keeps { tsk := true, laneA := true, laneB := true, evr := true, free := true } s (stepRoutine lane k op x r s) := by
  refine Keeps.start fun p s0 hp h => ?_
  unfold stepRoutine
  repeat' (first
    | ((with_reducible refine Parts.le_trans ?_ hp); exact rfl)
    | with_reducible assumption
    | (intro x; clear_value x)
    | lift_lets
    | split
    | with_reducible apply Keeps.via (keeps_onLane _ _ _)
    | with_reducible apply Keeps.via (keeps_joinCycleFlags _ _ _)
    | with_reducible apply Keeps.via (keeps_onCore _ _ _ _)
    | with_reducible apply Keeps.via (keeps_sendOutput _ _ _ _ _ _)
    | with_reducible apply Keeps.via (keeps_coreFault _ _ _ _ _ _)
    | with_reducible apply Keeps.via (keeps_preciseFault _ _ _ _)
    | with_reducible apply Keeps.via (keeps_onCtx _ _ _ _)
    | with_reducible apply Keeps.via (keeps_sendAndWait _ _ _ _ _))

theorem keeps_coreInstruction (lane : Lane) (k : Fin 8) (op : CoreOp) (s : State) :
    Keeps { tsk := true, laneA := true, laneB := true, evr := true, free := true } s (coreInstruction lane k op s) := by
  refine Keeps.start fun p s0 hp h => ?_
  unfold coreInstruction
  repeat' (first
    | ((with_reducible refine Parts.le_trans ?_ hp); exact rfl)
    | with_reducible assumption
    | (intro x; clear_value x)
    | lift_lets
    | split
    | with_reducible apply Keeps.via (keeps_stepRoutine _ _ _ _ _ _))

theorem keeps_laneCheck (lane : Lane) (chk : LaneCheck) (s : State) :
    Keeps { laneA := true, laneB := true, tel := true } s (laneCheck lane chk s) := by
  refine Keeps.start fun p s0 hp h => ?_
  unfold laneCheck
  repeat' (first
    | ((with_reducible refine Parts.le_trans ?_ hp); exact rfl)
    | with_reducible assumption
    | split
    | with_reducible apply Keeps.via (keeps_countCorrected _ _)
    | with_reducible apply Keeps.via (keeps_laneDies _ _))

theorem keeps_forbidService (k : Fin 8) (s : State) :
    Keeps { tsk := true, laneA := true, laneB := true, evr := true, free := true } s (forbidService k s) := by
  refine Keeps.start fun p s0 hp h => ?_
  unfold forbidService
  repeat' (first
    | ((with_reducible refine Parts.le_trans ?_ hp); exact rfl)
    | with_reducible assumption
    | intro x
    | lift_lets
    | with_reducible apply Keeps.via (keeps_preciseFault _ _ _ _)
    | with_reducible apply keeps_overAll)

theorem keeps_inboundWordDelivery (stream : Fin 72) (chk : MemCheck) (s : State) :
    Keeps { store := true, tsk := true, img := true, laneA := true, laneB := true, lsk := true, pair := true, lease := true, mir := true, links := true, io := true, can := true, ses := true, pwr := true, tel := true, evr := true, lcd := true, mod := true, out := true, free := true } s (inboundWordDelivery stream chk s) := by
  refine Keeps.start fun p s0 hp h => ?_
  unfold inboundWordDelivery
  repeat' (first
    | ((with_reducible refine Parts.le_trans ?_ hp); exact rfl)
    | with_reducible assumption
    | (intro x; refine_lift have hx : Keeps p s0 x := ?_; ?_; on_goal 2 => unfold x; on_goal 1 => clear_value x)
    | (intro x; clear_value x)
    | lift_lets
    | split
    | with_reducible apply Keeps.via (keeps_emit _ _)
    | with_reducible apply Keeps.via (keeps_memCheck _ _)
    | with_reducible apply Keeps.via (keeps_onLane _ _ _)
    | fail_if_no_progress ((with_reducible apply Keeps.upd hp) <;> [skip; (with_reducible rfl); (with_reducible rfl)]))

/-! ### Operations of Machine/CanPort.lean -/

theorem keeps_canTxStart (p : Fin 4) (s : State) :
    Keeps { can := true, out := true } s (canTxStart p s) := by
  refine Keeps.start fun p s0 hp h => ?_
  unfold canTxStart
  repeat' (first
    | ((with_reducible refine Parts.le_trans ?_ hp); exact rfl)
    | with_reducible assumption
    | (intro x; clear_value x)
    | lift_lets
    | split
    | with_reducible apply Keeps.via (keeps_emit _ _)
    | with_reducible apply Keeps.via (keeps_onCan _ _ _))

theorem keeps_judgeCan (p : Fin 4) (s : State) :
    Keeps { mir := true, can := true, evr := true } s (judgeCan p s) := by
  refine Keeps.start fun p s0 hp h => ?_
  unfold judgeCan
  repeat' (first
    | ((with_reducible refine Parts.le_trans ?_ hp); exact rfl)
    | with_reducible assumption
    | (intro x; refine_lift have hx : Keeps p s0 x := ?_; ?_; on_goal 2 => unfold x; on_goal 1 => clear_value x)
    | (intro x; clear_value x)
    | lift_lets
    | split
    | with_reducible apply Keeps.via (keeps_logEv _ _ _ _)
    | with_reducible apply Keeps.via (keeps_onCan _ _ _)
    | fail_if_no_progress ((with_reducible apply Keeps.upd hp) <;> [skip; (with_reducible rfl); (with_reducible rfl)]))

theorem keeps_setNoAck (p : Fin 4) (on : Bool) (s : State) :
    Keeps { can := true, evr := true } s (setNoAck p on s) := by
  refine Keeps.start fun p s0 hp h => ?_
  unfold setNoAck
  repeat' (first
    | ((with_reducible refine Parts.le_trans ?_ hp); exact rfl)
    | with_reducible assumption
    | lift_lets
    | split
    | with_reducible apply Keeps.via (keeps_logEv _ _ _ _)
    | with_reducible apply Keeps.via (keeps_onCan _ _ _))

theorem keeps_canTxComplete (p : Fin 4) (s : State) :
    Keeps { lsk := true, pair := true, mir := true, can := true, evr := true, out := true } s (canTxComplete p s) := by
  refine Keeps.start fun p s0 hp h => ?_
  unfold canTxComplete
  repeat' (first
    | ((with_reducible refine Parts.le_trans ?_ hp); exact rfl)
    | with_reducible assumption
    | (intro x; refine_lift have hx : Keeps p s0 x := ?_; ?_; on_goal 2 => unfold x; on_goal 1 => clear_value x)
    | (intro x; clear_value x)
    | lift_lets
    | split
    | with_reducible apply Keeps.via (keeps_saddle _ _)
    | with_reducible apply Keeps.via (keeps_onCan _ _ _)
    | with_reducible apply Keeps.via (keeps_judgeCan _ _)
    | with_reducible apply Keeps.via (keeps_setNoAck _ _ _)
    | fail_if_no_progress ((with_reducible apply Keeps.upd hp) <;> [skip; (with_reducible rfl); (with_reducible rfl)]))

theorem keeps_canTxError (p : Fin 4) (err : CanErr) (dataPhase quiet : Bool) (s : State) :
    Keeps { mir := true, can := true, evr := true, out := true } s (canTxError p err dataPhase quiet s) := by
  refine Keeps.start fun p s0 hp h => ?_
  unfold canTxError
  repeat' (first
    | ((with_reducible refine Parts.le_trans ?_ hp); exact rfl)
    | with_reducible assumption
    | (intro x; refine_lift have hx : Keeps p s0 x := ?_; ?_; on_goal 2 => unfold x; on_goal 1 => clear_value x)
    | (intro x; clear_value x)
    | lift_lets
    | split
    | with_reducible apply Keeps.via (keeps_emit _ _)
    | with_reducible apply Keeps.via (keeps_onCan _ _ _)
    | with_reducible apply Keeps.via (keeps_judgeCan _ _)
    | with_reducible apply Keeps.via (keeps_setNoAck _ _ _))

theorem keeps_canRxError (p : Fin 4) (err : CanErr) (dataPhase dominant : Bool) (s : State) :
    Keeps { mir := true, can := true, evr := true, out := true } s (canRxError p err dataPhase dominant s) := by
  refine Keeps.start fun p s0 hp h => ?_
  unfold canRxError
  repeat' (first
    | ((with_reducible refine Parts.le_trans ?_ hp); exact rfl)
    | with_reducible assumption
    | (intro x; refine_lift have hx : Keeps p s0 x := ?_; ?_; on_goal 2 => unfold x; on_goal 1 => clear_value x)
    | (intro x; clear_value x)
    | lift_lets
    | split
    | with_reducible apply Keeps.via (keeps_emit _ _)
    | with_reducible apply Keeps.via (keeps_onCan _ _ _)
    | with_reducible apply Keeps.via (keeps_judgeCan _ _))

theorem keeps_canBusoffRecovery (p : Fin 4) (s : State) :
    Keeps { can := true, evr := true } s (canBusoffRecovery p s) := by
  refine Keeps.start fun p s0 hp h => ?_
  unfold canBusoffRecovery
  repeat' (first
    | ((with_reducible refine Parts.le_trans ?_ hp); exact rfl)
    | with_reducible assumption
    | (intro x; clear_value x)
    | lift_lets
    | split
    | with_reducible apply Keeps.via (keeps_logEv _ _ _ _)
    | with_reducible apply Keeps.via (keeps_onCan _ _ _))

theorem keeps_pushFifo (p : Fin 4) (x : RxEntry) (s : State) :
    Keeps { can := true, evr := true } s (pushFifo p x s).1 := by
  refine Keeps.start fun p s0 hp h => ?_
  unfold pushFifo
  repeat' (first
    | ((with_reducible refine Parts.le_trans ?_ hp); exact rfl)
    | with_reducible assumption
    | (intro x; refine_lift have hx : Keeps p s0 x := ?_; ?_; on_goal 2 => unfold x; on_goal 1 => clear_value x)
    | (intro x; clear_value x)
    | lift_lets
    | split
    | with_reducible apply Keeps.via (keeps_logEv _ _ _ _)
    | with_reducible apply Keeps.via (keeps_onCan _ _ _))

theorem keeps_goodReception (p : Fin 4) (s : State) :
    Keeps { mir := true, can := true, evr := true, free := true } s (goodReception p s) := by
  refine Keeps.start fun p s0 hp h => ?_
  unfold goodReception
  repeat' (first
    | ((with_reducible refine Parts.le_trans ?_ hp); exact rfl)
    | with_reducible assumption
    | (intro x; clear_value x)
    | lift_lets
    | split
    | with_reducible apply Keeps.of_snd (by assumption)
    | with_reducible apply Keeps.via (keeps_freeValue _ _)
    | with_reducible apply Keeps.via (keeps_onCan _ _ _)
    | with_reducible apply Keeps.via (keeps_judgeCan _ _))

theorem keeps_acceptFrame (p : Fin 4) (x : RxEntry) (s : State) :
    Keeps { tsk := true, lsk := true, pair := true, can := true, evr := true, out := true } s (acceptFrame p x s) := by
  refine Keeps.start fun p s0 hp h => ?_
  unfold acceptFrame
  repeat' (first
    | ((with_reducible refine Parts.le_trans ?_ hp); exact rfl)
    | with_reducible assumption
    | (intro (f : State → State); refine_lift have hf : ∀ y, Keeps p s0 y → Keeps p s0 (f y) := ?_; ?_; on_goal 2 => (unfold f; intro y hy; try dsimp only); on_goal 1 => clear_value f)
    | (intro x; refine_lift have hx : Keeps p s0 x := ?_; ?_; on_goal 2 => unfold x; on_goal 1 => clear_value x)
    | (intro x; refine_lift have hx : Keeps p s0 x.1 := ?_; ?_; on_goal 2 => unfold x; on_goal 1 => clear_value x)
    | lift_lets
    | split
    | with_reducible apply Keeps.via (keeps_saddle _ _)
    | with_reducible apply Keeps.via (keeps_triggerMatch _ _ _ _ _ _ _)
    | with_reducible apply Keeps.via (keeps_onCan _ _ _)
    | with_reducible apply Keeps.via (keeps_pushFifo _ _ _))

theorem keeps_canFrameReceive (p : Fin 4) (f : CanFrame) (stamp : Nat) (s : State) :
    Keeps { tsk := true, lsk := true, pair := true, mir := true, can := true, evr := true, out := true, free := true } s (canFrameReceive p f stamp s) := by
  refine Keeps.start fun p s0 hp h => ?_
  unfold canFrameReceive
  repeat' (first
    | ((with_reducible refine Parts.le_trans ?_ hp); exact rfl)
    | with_reducible assumption
    | (intro x; refine_lift have hx : Keeps p s0 x := ?_; ?_; on_goal 2 => unfold x; on_goal 1 => clear_value x)
    | (intro x; clear_value x)
    | lift_lets
    | split
    | with_reducible apply Keeps.via (keeps_onCan _ _ _)
    | with_reducible apply Keeps.via (keeps_goodReception _ _)
    | with_reducible apply Keeps.via (keeps_acceptFrame _ _ _))

theorem keeps_canRxNoticeReceive (p : Fin 4) (f : CanFrame) (n : Fin 32) (stamp completion : Nat) (s : State) :
    Keeps { can := true, evr := true } s (canRxNoticeReceive p f n stamp completion s) := by
  refine Keeps.start fun p s0 hp h => ?_
  unfold canRxNoticeReceive
  repeat' (first
    | ((with_reducible refine Parts.le_trans ?_ hp); exact rfl)
    | with_reducible assumption
    | (intro x; refine_lift have hx : Keeps p s0 x := ?_; ?_; on_goal 2 => unfold x; on_goal 1 => clear_value x)
    | (intro x; clear_value x)
    | lift_lets
    | split
    | with_reducible apply Keeps.via (keeps_onCan _ _ _)
    | with_reducible apply Keeps.via (keeps_pushFifo _ _ _))

theorem keeps_canTxConfirmReceive (p : Fin 4) (b : Fin 32) (t : Fin 128) (cycle : W32) (s : State) :
    Keeps { mir := true, can := true } s (canTxConfirmReceive p b t cycle s) := by
  refine Keeps.start fun p s0 hp h => ?_
  unfold canTxConfirmReceive
  repeat' (first
    | ((with_reducible refine Parts.le_trans ?_ hp); exact rfl)
    | with_reducible assumption
    | (intro x; refine_lift have hx : Keeps p s0 x := ?_; ?_; on_goal 2 => unfold x; on_goal 1 => clear_value x)
    | (intro x; clear_value x)
    | lift_lets
    | split
    | with_reducible apply Keeps.via (keeps_onCan _ _ _)
    | fail_if_no_progress ((with_reducible apply Keeps.upd hp) <;> [skip; (with_reducible rfl); (with_reducible rfl)]))

theorem keeps_canTakeover (s : State) :
    Keeps { can := true, evr := true } s (canTakeover s) := by
  refine Keeps.start fun p s0 hp h => ?_
  unfold canTakeover
  repeat' (first
    | ((with_reducible refine Parts.le_trans ?_ hp); exact rfl)
    | with_reducible assumption
    | (intro x; refine_lift have hx : Keeps p s0 x := ?_; ?_; on_goal 2 => unfold x; on_goal 1 => clear_value x)
    | (intro x; clear_value x)
    | intro x
    | lift_lets
    | split
    | with_reducible apply Keeps.via (keeps_onCan _ _ _)
    | with_reducible apply Keeps.via (keeps_pushFifo _ _ _)
    | with_reducible apply keeps_overAll)

theorem keeps_canMonitor (s : State) :
    Keeps { can := true } s (canMonitor s) := by
  refine Keeps.start fun p s0 hp h => ?_
  unfold canMonitor
  repeat' (first
    | with_reducible assumption
    | fail_if_no_progress ((with_reducible apply Keeps.upd hp) <;> [skip; (with_reducible rfl); (with_reducible rfl)]))

theorem keeps_stageCan (p : Fin 4) (b : Fin 32) (call : CanCall) (t : Fin 128) (s : State) :
    Keeps { tsk := true } s (stageCan p b call t s) := by
  refine Keeps.start fun p s0 hp h => ?_
  unfold stageCan
  repeat' (first
    | ((with_reducible refine Parts.le_trans ?_ hp); exact rfl)
    | with_reducible assumption
    | (intro x; clear_value x)
    | lift_lets
    | with_reducible apply Keeps.via (keeps_onCycle _ _ _))

theorem keeps_canService (k : Fin 8) (svc : Nat) (p : Fin 4) (b : Fin 32) (call : CanCall) (s : State) :
    Keeps { tsk := true, laneA := true, laneB := true, lsk := true, evr := true, out := true, free := true } s (canService k svc p b call s) := by
  refine Keeps.start fun p s0 hp h => ?_
  unfold canService
  repeat' (first
    | ((with_reducible refine Parts.le_trans ?_ hp); exact rfl)
    | with_reducible assumption
    | lift_lets
    | split
    | with_reducible apply Keeps.via (keeps_serviceReturn _ _ _)
    | with_reducible apply Keeps.via (keeps_forbidService _ _)
    | with_reducible apply Keeps.via (keeps_stageCan _ _ _ _ _))

theorem keeps_returnFrame (k : Fin 8) (e : Option RxEntry) (s : State) :
    Keeps { laneA := true, laneB := true, lsk := true, out := true } s (returnFrame k e s) := by
  refine Keeps.start fun p s0 hp h => ?_
  unfold returnFrame
  repeat' (first
    | ((with_reducible refine Parts.le_trans ?_ hp); exact rfl)
    | with_reducible assumption
    | lift_lets
    | with_reducible apply Keeps.via (keeps_emit _ _)
    | with_reducible apply Keeps.via (keeps_serviceReturn _ _ _))

theorem keeps_svcCanRead (k : Fin 8) (p : Fin 4) (s : State) :
    Keeps { laneA := true, laneB := true, lsk := true, can := true, out := true } s (svcCanRead k p s) := by
  refine Keeps.start fun p s0 hp h => ?_
  unfold svcCanRead
  repeat' (first
    | ((with_reducible refine Parts.le_trans ?_ hp); exact rfl)
    | with_reducible assumption
    | lift_lets
    | split
    | with_reducible apply Keeps.via (keeps_onCan _ _ _)
    | with_reducible apply Keeps.via (keeps_returnFrame _ _ _))

/-! ### Operations of Machine/Tasks.lean -/

theorem keeps_taskRelease (t : Fin 128) (chk : MemCheck) (s : State) :
    Keeps { cells := true, store := true, tbAcc := true, tbLat := true, tsk := true, img := true, frc := true, laneA := true, laneB := true, lsk := true, pair := true, lease := true, mir := true, links := true, io := true, can := true, ses := true, pwr := true, tel := true, evr := true, lcd := true, mod := true, out := true, free := true } s (taskRelease t chk s) := by
  refine Keeps.start fun p s0 hp h => ?_
  unfold taskRelease
  repeat' (first
    | ((with_reducible refine Parts.le_trans ?_ hp); exact rfl)
    | with_reducible assumption
    | lift_lets
    | split
    | with_reducible apply Keeps.via (keeps_memCheck _ _)
    | with_reducible apply Keeps.via (keeps_cyclicRelease _ _))

theorem keeps_eventRelease (chk : MemCheck) (s : State) :
    Keeps { cells := true, store := true, tbAcc := true, tbLat := true, tsk := true, img := true, frc := true, laneA := true, laneB := true, lsk := true, pair := true, lease := true, mir := true, links := true, io := true, can := true, ses := true, pwr := true, tel := true, evr := true, lcd := true, mod := true, out := true, free := true } s (eventRelease chk s) := by
  refine Keeps.start fun p s0 hp h => ?_
  unfold eventRelease
  repeat' (first
    | ((with_reducible refine Parts.le_trans ?_ hp); exact rfl)
    | with_reducible assumption
    | (intro x; refine_lift have hx : Keeps p s0 x := ?_; ?_; on_goal 2 => unfold x; on_goal 1 => clear_value x)
    | (intro x; clear_value x)
    | lift_lets
    | split
    | with_reducible apply Keeps.via (keeps_memCheck _ _)
    | with_reducible apply Keeps.via (keeps_handleTrigger _ _)
    | fail_if_no_progress ((with_reducible apply Keeps.upd hp) <;> [skip; (with_reducible rfl); (with_reducible rfl)]))

theorem keeps_noticeTimeout (t : Fin 128) (s : State) :
    Keeps { cells := true, tbAcc := true, tbLat := true, tsk := true, frc := true, laneA := true, laneB := true, lsk := true, pair := true, mir := true, links := true, io := true, can := true, ses := true, tel := true, evr := true, lcd := true, out := true } s (noticeTimeout t s) := by
  refine Keeps.start fun p s0 hp h => ?_
  unfold noticeTimeout
  repeat' (first
    | ((with_reducible refine Parts.le_trans ?_ hp); exact rfl)
    | with_reducible assumption
    | (intro x; refine_lift have hx : Keeps p s0 x := ?_; ?_; on_goal 2 => unfold x; on_goal 1 => clear_value x)
    | (intro x; clear_value x)
    | lift_lets
    | split
    | with_reducible apply Keeps.via (keeps_onTaskStats _ _ _)
    | with_reducible apply Keeps.via (keeps_onCycle _ _ _)
    | with_reducible apply Keeps.via (keeps_deliver _ _)
    | with_reducible apply Keeps.via (keeps_boundary _ _)
    | with_reducible apply Keeps.updTsk _ (Parts.le_trans (Parts.le_of_or rfl) hp))

theorem keeps_releaseNoticeReceive (n : Notice) (s : State) :
    Keeps { cells := true, tbAcc := true, tbLat := true, tsk := true, frc := true, laneA := true, laneB := true, lsk := true, pair := true, mir := true, links := true, io := true, can := true, ses := true, tel := true, evr := true, lcd := true, out := true } s (releaseNoticeReceive n s) := by
  refine Keeps.start fun p s0 hp h => ?_
  unfold releaseNoticeReceive
  repeat' (first
    | ((with_reducible refine Parts.le_trans ?_ hp); exact rfl)
    | with_reducible assumption
    | (intro (f : State → State); refine_lift have hf : ∀ y, Keeps p s0 y → Keeps p s0 (f y) := ?_; ?_; on_goal 2 => (unfold f; intro y hy; try dsimp only); on_goal 1 => clear_value f)
    | (intro x; refine_lift have hx : Keeps p s0 x := ?_; ?_; on_goal 2 => unfold x; on_goal 1 => clear_value x)
    | (intro x; clear_value x)
    | lift_lets
    | split
    | with_reducible apply Keeps.via (keeps_saddle _ _)
    | with_reducible apply Keeps.via (keeps_onTask _ _ _)
    | with_reducible apply Keeps.via (keeps_applyNotice _ _)
    | with_reducible apply Keeps.via (keeps_releaseNotified _ _ _)
    | with_reducible apply Keeps.via (keeps_noticeTimeout _ _))

theorem keeps_partnerReadingsReceive (t : Fin 128) (cycle : W32) (rs : List (BitVec 16 × W128)) (s : State) :
    Keeps { cells := true, tsk := true, laneA := true, laneB := true, lsk := true, out := true } s (partnerReadingsReceive t cycle rs s) := by
  refine Keeps.start fun p s0 hp h => ?_
  unfold partnerReadingsReceive
  repeat' (first
    | ((with_reducible refine Parts.le_trans ?_ hp); exact rfl)
    | with_reducible assumption
    | (intro (f : State → State); refine_lift have hf : ∀ y, Keeps p s0 y → Keeps p s0 (f y) := ?_; ?_; on_goal 2 => (unfold f; intro y hy; try dsimp only); on_goal 1 => clear_value f)
    | lift_lets
    | split
    | with_reducible apply Keeps.via (keeps_onTask _ _ _)
    | with_reducible apply Keeps.via (keeps_deliver _ _)
    | with_reducible apply Keeps.via (keeps_applyPartnerReadings _ _ _))

theorem keeps_partnerReadingsTimeout (t : Fin 128) (s : State) :
    Keeps { cells := true, tsk := true, laneA := true, laneB := true, lsk := true, out := true } s (partnerReadingsTimeout t s) := by
  refine Keeps.start fun p s0 hp h => ?_
  unfold partnerReadingsTimeout
  repeat' (first
    | ((with_reducible refine Parts.le_trans ?_ hp); exact rfl)
    | with_reducible assumption
    | split
    | with_reducible apply Keeps.via (keeps_deliver _ _))

theorem keeps_sendMirror (task : Option (Fin 128)) (cycle : W32) (gs : List Nat) (unchecked : Bool) (s : State) :
    Keeps { lsk := true, mir := true, out := true, flight := true } s (sendMirror task cycle gs unchecked s) := by
  refine Keeps.start fun p s0 hp h => ?_
  unfold sendMirror
  repeat' (first
    | ((with_reducible refine Parts.le_trans ?_ hp); exact rfl)
    | with_reducible assumption
    | (intro (f : State → State); refine_lift have hf : ∀ y, Keeps p s0 y → Keeps p s0 (f y) := ?_; ?_; on_goal 2 => (unfold f; intro y hy; try dsimp only); on_goal 1 => clear_value f)
    | (intro x; clear_value x)
    | lift_lets
    | split
    | with_reducible apply Keeps.via (keeps_saddleData _ _ _ _)
    | with_reducible apply hf
    | fail_if_no_progress ((with_reducible apply Keeps.upd hp) <;> [skip; (with_reducible rfl); (with_reducible rfl)]))

theorem keeps_applyGranules (gs : List (Nat × Granule)) (s : State) :
    Keeps { cells := true, tsk := true } s (applyGranules gs s) := by
  refine Keeps.start fun p s0 hp h => ?_
  unfold applyGranules
  repeat' (first
    | (intro (hw : Memory.wf _ = true); with_reducible exact granules_wf _ _ hw)
    | ((with_reducible refine Parts.le_trans ?_ hp); exact rfl)
    | with_reducible assumption
    | lift_lets
    | with_reducible apply Keeps.via (keeps_reloadOwners _ _)
    | (with_reducible refine Keeps.via (keeps_withMem _ _ ?_) ?_ ?_))

theorem keeps_applyMirror (m : MirrorMsg) (s : State) :
    Keeps { cells := true, tsk := true, lsk := true, pair := true, mir := true, out := true } s (applyMirror m s) := by
  refine Keeps.start fun p s0 hp h => ?_
  unfold applyMirror
  repeat' (first
    | ((with_reducible refine Parts.le_trans ?_ hp); exact rfl)
    | with_reducible assumption
    | (intro x; refine_lift have hx : Keeps p s0 x := ?_; ?_; on_goal 2 => unfold x; on_goal 1 => clear_value x)
    | (intro x; clear_value x)
    | lift_lets
    | split
    | with_reducible apply Keeps.via (keeps_saddle _ _)
    | with_reducible apply Keeps.via (keeps_applyGranules _ _)
    | fail_if_no_progress ((with_reducible apply Keeps.upd hp) <;> [skip; (with_reducible rfl); (with_reducible rfl)]))

theorem keeps_mirrorApply (m : MirrorMsg) (s : State) :
    Keeps { cells := true, tsk := true, lsk := true, pair := true, mir := true, out := true } s (mirrorApply m s) := by
  refine Keeps.start fun p s0 hp h => ?_
  unfold mirrorApply
  repeat' (first
    | ((with_reducible refine Parts.le_trans ?_ hp); exact rfl)
    | with_reducible assumption
    | (intro x; clear_value x)
    | lift_lets
    | split
    | with_reducible apply Keeps.via (keeps_applyMirror _ _)
    | fail_if_no_progress ((with_reducible apply Keeps.upd hp) <;> [skip; (with_reducible rfl); (with_reducible rfl)]))

theorem keeps_takeInbox (t : Fin 128) (s : State) :
    Keeps { cells := true, tsk := true, lsk := true, pair := true, mir := true, out := true } s (takeInbox t s) := by
  refine Keeps.start fun p s0 hp h => ?_
  unfold takeInbox
  repeat' (first
    | ((with_reducible refine Parts.le_trans ?_ hp); exact rfl)
    | with_reducible assumption
    | (intro x; clear_value x)
    | intro x
    | lift_lets
    | with_reducible apply Keeps.via (keeps_applyMirror _ _)
    | with_reducible apply keeps_overAll
    | fail_if_no_progress ((with_reducible apply Keeps.upd hp) <;> [skip; (with_reducible rfl); (with_reducible rfl)]))

theorem keeps_fordValues (c : Cycle) (unchecked : Bool) (s : State) :
    Keeps { io := true } s (fordValues c unchecked s) := by
  refine Keeps.start fun p s0 hp h => ?_
  unfold fordValues
  repeat' (first
    | ((with_reducible refine Parts.le_trans ?_ hp); exact rfl)
    | with_reducible assumption
    | (intro x; clear_value x)
    | intro x
    | lift_lets
    | split
    | with_reducible apply Keeps.via (keeps_onChan _ _ _)
    | with_reducible apply keeps_overAll)

theorem keeps_commitCan (t : Fin 128) (cycle : W32) (call : CanCall) (s : State) :
    Keeps { can := true } s (commitCan t cycle call s) := by
  refine Keeps.start fun p s0 hp h => ?_
  unfold commitCan
  repeat' (first
    | ((with_reducible refine Parts.le_trans ?_ hp); exact rfl)
    | with_reducible assumption
    | lift_lets
    | split
    | with_reducible apply Keeps.via (keeps_onCan _ _ _))

theorem keeps_sendOutputs (t : TaskEntry) (c : Cycle) (unchecked : Bool) (s : State) :
    Keeps { lsk := true, links := true, io := true, can := true, out := true } s (sendOutputs t c unchecked s) := by
  refine Keeps.start fun p s0 hp h => ?_
  unfold sendOutputs
  repeat' (first
    | ((with_reducible refine Parts.le_trans ?_ hp); exact rfl)
    | with_reducible assumption
    | (intro x; refine_lift have hx : Keeps p s0 x := ?_; ?_; on_goal 2 => unfold x; on_goal 1 => clear_value x)
    | intro x
    | lift_lets
    | split
    | with_reducible apply Keeps.via (keeps_outputFrames _ _ _ _ _)
    | with_reducible apply Keeps.via (keeps_fordValues _ _ _)
    | with_reducible apply Keeps.via (keeps_commitCan _ _ _ _)
    | with_reducible apply keeps_overAll)

theorem keeps_countCompletion (t : TaskEntry) (c : Cycle) (flags : BitVec 7) (s : State) :
    Keeps { tsk := true, tel := true, evr := true } s (countCompletion t c flags s) := by
  refine Keeps.start fun p s0 hp h => ?_
  unfold countCompletion
  repeat' (first
    | ((with_reducible refine Parts.le_trans ?_ hp); exact rfl)
    | with_reducible assumption
    | (intro x; refine_lift have hx : Keeps p s0 x := ?_; ?_; on_goal 2 => unfold x; on_goal 1 => clear_value x)
    | (intro x; clear_value x)
    | lift_lets
    | split
    | with_reducible apply Keeps.via (keeps_onTask _ _ _)
    | with_reducible apply Keeps.via (keeps_onTaskStats _ _ _)
    | with_reducible apply Keeps.via (keeps_reportMargin _ _ _)
    | with_reducible apply Keeps.via (keeps_overrun _ _ _)
    | fail_if_no_progress ((with_reducible apply Keeps.upd hp) <;> [skip; (with_reducible rfl); (with_reducible rfl)]))

theorem keeps_releaseAgain (t : TaskEntry) (s : State) :
    Keeps { cells := true, tbAcc := true, tbLat := true, tsk := true, frc := true, laneA := true, laneB := true, lsk := true, pair := true, mir := true, links := true, io := true, can := true, ses := true, tel := true, evr := true, lcd := true, out := true } s (releaseAgain t s) := by
  refine Keeps.start fun p s0 hp h => ?_
  unfold releaseAgain
  repeat' (first
    | ((with_reducible refine Parts.le_trans ?_ hp); exact rfl)
    | with_reducible assumption
    | (intro x; clear_value x)
    | lift_lets
    | split
    | with_reducible apply Keeps.via (keeps_onTask _ _ _)
    | with_reducible apply Keeps.via (keeps_releaseEvent _ _ _))

theorem keeps_completeCycle (t : TaskEntry) (c : Cycle) (s0 : State) :
    Keeps { cells := true, tbAcc := true, tbLat := true, tsk := true, frc := true, laneA := true, laneB := true, lsk := true, pair := true, mir := true, links := true, io := true, can := true, ses := true, tel := true, evr := true, lcd := true, out := true, flight := true } s0 (completeCycle t c s0) := by
  refine Keeps.start fun p s0 hp h => ?_
  unfold completeCycle
  repeat' (first
    | ((with_reducible refine Parts.le_trans ?_ hp); exact rfl)
    | with_reducible assumption
    | (intro x; refine_lift have hx : Keeps p s0 x := ?_; ?_; on_goal 2 => unfold x; on_goal 1 => clear_value x)
    | (intro x; clear_value x)
    | lift_lets
    | with_reducible apply Keeps.via (keeps_triggerMatch _ _ _ _ _ _ _)
    | with_reducible apply Keeps.via (keeps_onTask _ _ _)
    | with_reducible apply Keeps.via (keeps_serveHeldReads _)
    | with_reducible apply Keeps.via (keeps_boundary _ _)
    | with_reducible apply Keeps.via (keeps_takeAllNotices _)
    | with_reducible apply Keeps.via (keeps_sendMirror _ _ _ _ _)
    | with_reducible apply Keeps.via (keeps_takeInbox _ _)
    | with_reducible apply Keeps.via (keeps_sendOutputs _ _ _ _)
    | with_reducible apply Keeps.via (keeps_countCompletion _ _ _ _)
    | with_reducible apply Keeps.via (keeps_releaseAgain _ _))

theorem keeps_taskCompletion (t : Fin 128) (s : State) :
    Keeps { cells := true, tbAcc := true, tbLat := true, tsk := true, frc := true, laneA := true, laneB := true, lsk := true, pair := true, mir := true, links := true, io := true, can := true, ses := true, tel := true, evr := true, lcd := true, out := true, flight := true } s (taskCompletion t s) := by
  refine Keeps.start fun p s0 hp h => ?_
  unfold taskCompletion
  repeat' (first
    | ((with_reducible refine Parts.le_trans ?_ hp); exact rfl)
    | with_reducible assumption
    | split
    | with_reducible apply Keeps.via (keeps_completeCycle _ _ _))

theorem keeps_healthReportReceive (report : W32) (s : State) :
    Keeps { mir := true, evr := true } s (healthReportReceive report s) := by
  refine Keeps.start fun p s0 hp h => ?_
  unfold healthReportReceive
  repeat' (first
    | ((with_reducible refine Parts.le_trans ?_ hp); exact rfl)
    | with_reducible assumption
    | (intro x; refine_lift have hx : Keeps p s0 x := ?_; ?_; on_goal 2 => unfold x; on_goal 1 => clear_value x)
    | (intro x; clear_value x)
    | lift_lets
    | with_reducible apply Keeps.via (keeps_recordHealth _ _ _ _)
    | fail_if_no_progress ((with_reducible apply Keeps.upd hp) <;> [skip; (with_reducible rfl); (with_reducible rfl)]))

theorem keeps_hostEvent (value : W32) (q : Req) (s : State) :
    Keeps { tsk := true, lsk := true, pair := true, mir := true, ses := true, out := true } s (hostEvent value q s) := by
  refine Keeps.start fun p s0 hp h => ?_
  unfold hostEvent
  repeat' (first
    | ((with_reducible refine Parts.le_trans ?_ hp); exact rfl)
    | with_reducible assumption
    | (intro x; refine_lift have hx : Keeps p s0 x := ?_; ?_; on_goal 2 => unfold x; on_goal 1 => clear_value x)
    | (intro x; clear_value x)
    | lift_lets
    | split
    | with_reducible apply Keeps.via (keeps_triggerMatch _ _ _ _ _ _ _)
    | with_reducible apply Keeps.via (keeps_answer _ _ _ _)
    | with_reducible apply Keeps.via (keeps_oweAll _ _ _))

/-! ### Operations of Machine/Force.lean -/

theorem keeps_writeForcedVar (f : Force) (s : State) :
    Keeps { cells := true, tsk := true } s (writeForcedVar f s) := by
  refine Keeps.start fun p s0 hp h => ?_
  unfold writeForcedVar
  repeat' (first
    | (intro (hw : Memory.wf _ = true); with_reducible exact Memory.writeBytes_wf _ _ _ hw)
    | ((with_reducible refine Parts.le_trans ?_ hp); exact rfl)
    | with_reducible assumption
    | (intro x; clear_value x)
    | lift_lets
    | split
    | with_reducible apply Keeps.via (keeps_reloadOwners _ _)
    | (with_reducible refine Keeps.via (keeps_withMem _ _ ?_) ?_ ?_))

theorem keeps_applyForceOp (op : ForceOp) (at_ : Nat) (s : State) :
    Keeps { cells := true, tsk := true, frc := true, evr := true } s (applyForceOp op at_ s) := by
  refine Keeps.start fun p s0 hp h => ?_
  unfold applyForceOp
  repeat' (first
    | ((with_reducible refine Parts.le_trans ?_ hp); exact rfl)
    | with_reducible assumption
    | (intro x; refine_lift have hx : Keeps p s0 x := ?_; ?_; on_goal 2 => unfold x; on_goal 1 => clear_value x)
    | (intro x; clear_value x)
    | lift_lets
    | split
    | with_reducible apply Keeps.via (keeps_logEv _ _ _ _)
    | with_reducible apply Keeps.via (keeps_writeForcedVar _ _)
    | fail_if_no_progress ((with_reducible apply Keeps.upd hp) <;> [skip; (with_reducible rfl); (with_reducible rfl)]))

theorem keeps_forceActivation (s : State) :
    Keeps { cells := true, tsk := true, frc := true, evr := true } s (forceActivation s) := by
  refine Keeps.start fun p s0 hp h => ?_
  unfold forceActivation
  repeat' (first
    | ((with_reducible refine Parts.le_trans ?_ hp); exact rfl)
    | with_reducible assumption
    | (intro x; clear_value x)
    | intro x
    | lift_lets
    | with_reducible apply Keeps.via (keeps_applyForceOp _ _ _)
    | with_reducible apply keeps_overAll
    | fail_if_no_progress ((with_reducible apply Keeps.upd hp) <;> [skip; (with_reducible rfl); (with_reducible rfl)]))

theorem keeps_forceChangeReceive (id : Nat) (op : ForceOp) (at_ : Nat) (s : State) :
    Keeps { cells := true, tsk := true, frc := true, lsk := true, pair := true, evr := true, out := true } s (forceChangeReceive id op at_ s) := by
  refine Keeps.start fun p s0 hp h => ?_
  unfold forceChangeReceive
  repeat' (first
    | ((with_reducible refine Parts.le_trans ?_ hp); exact rfl)
    | with_reducible assumption
    | (intro x; refine_lift have hx : Keeps p s0 x := ?_; ?_; on_goal 2 => unfold x; on_goal 1 => clear_value x)
    | (intro x; clear_value x)
    | lift_lets
    | split
    | with_reducible apply Keeps.via (keeps_saddle _ _)
    | with_reducible apply Keeps.via (keeps_applyForceOp _ _ _)
    | fail_if_no_progress ((with_reducible apply Keeps.upd hp) <;> [skip; (with_reducible rfl); (with_reducible rfl)]))

theorem keeps_acceptForce (op : ForceOp) (res : W32) (q : Req) (s : State) :
    Keeps { frc := true, lsk := true, pair := true, mir := true, ses := true, out := true } s (acceptForce op res q s) := by
  refine Keeps.start fun p s0 hp h => ?_
  unfold acceptForce
  repeat' (first
    | ((with_reducible refine Parts.le_trans ?_ hp); exact rfl)
    | with_reducible assumption
    | (intro x; clear_value x)
    | lift_lets
    | split
    | with_reducible apply Keeps.of_snd (by assumption)
    | with_reducible apply Keeps.via (keeps_saddle _ _)
    | with_reducible apply Keeps.via (keeps_freshId _)
    | with_reducible apply Keeps.via (keeps_oweOn _ _ _ _)
    | fail_if_no_progress ((with_reducible apply Keeps.upd hp) <;> [skip; (with_reducible rfl); (with_reducible rfl)]))

theorem keeps_frcSet (q : Req) (s : State) :
    Keeps { frc := true, lsk := true, pair := true, mir := true, ses := true, out := true } s (frcSet q s) := by
  refine Keeps.start fun p s0 hp h => ?_
  unfold frcSet
  repeat' (first
    | ((with_reducible refine Parts.le_trans ?_ hp); exact rfl)
    | with_reducible assumption
    | (intro x; clear_value x)
    | lift_lets
    | split
    | with_reducible apply Keeps.via (keeps_answer _ _ _ _)
    | with_reducible apply Keeps.via (keeps_acceptForce _ _ _ _))

theorem keeps_frcClear (q : Req) (s : State) :
    Keeps { frc := true, lsk := true, pair := true, mir := true, ses := true, out := true } s (frcClear q s) := by
  refine Keeps.start fun p s0 hp h => ?_
  unfold frcClear
  repeat' (first
    | ((with_reducible refine Parts.le_trans ?_ hp); exact rfl)
    | with_reducible assumption
    | (intro x; clear_value x)
    | lift_lets
    | split
    | with_reducible apply Keeps.via (keeps_answer _ _ _ _)
    | with_reducible apply Keeps.via (keeps_acceptForce _ _ _ _))

theorem keeps_frcClearall (q : Req) (s : State) :
    Keeps { frc := true, lsk := true, pair := true, mir := true, ses := true, out := true } s (frcClearall q s) := by
  refine Keeps.start fun p s0 hp h => ?_
  unfold frcClearall
  repeat' (first
    | ((with_reducible refine Parts.le_trans ?_ hp); exact rfl)
    | with_reducible assumption
    | split
    | with_reducible apply Keeps.via (keeps_answer _ _ _ _)
    | with_reducible apply Keeps.via (keeps_acceptForce _ _ _ _))

end Sys2Proof.Machine
end

