-- ==== Sys2Proof/Laws/KeepsUnits.lean ====
section
/-!
SUPPORT. What each operation of these files keeps: Hold, Change, Col, Panel, TimeBase, Digital, Islands, Memory, Image, Recorder, RegsIo, Restart, Power, Sessions.
-/

namespace Sys2Proof.Machine

/-! ### Operations of Machine/Hold.lean -/

theorem keeps_setHold (k : HoldFor) (q : Option SwitchReq) (s : State) :
    Keeps { tsk := true, lsk := true, lease := true } s (setHold k q s) := by
  refine Keeps.start fun p s0 hp h => ?_
  unfold setHold
  repeat' (first
    | with_reducible assumption
    | (intro x; clear_value x)
    | lift_lets
    | split
    | fail_if_no_progress ((with_reducible apply Keeps.upd hp) <;> [skip; (with_reducible rfl); (with_reducible rfl)]))

theorem keeps_seek (k : HoldFor) (q : SwitchReq) (s : State) :
    Keeps { tsk := true, lsk := true, pair := true, lease := true, out := true } s (seek k q s) := by
  refine Keeps.start fun p s0 hp h => ?_
  unfold seek
  repeat' (first
    | ((with_reducible refine Parts.le_trans ?_ hp); exact rfl)
    | with_reducible assumption
    | (intro x; refine_lift have hx : Keeps p s0 x := ?_; ?_; on_goal 2 => unfold x; on_goal 1 => clear_value x)
    | lift_lets
    | split
    | with_reducible apply Keeps.via (keeps_saddle _ _)
    | with_reducible apply Keeps.via (keeps_setHold _ _ _))

theorem keeps_openHold (k : HoldFor) (asker : Option Origin) (tag : W32) (s : State) :
    Keeps { tsk := true, lsk := true, pair := true, lease := true, out := true } s (openHold k asker tag s) := by
  refine Keeps.start fun p s0 hp h => ?_
  unfold openHold
  repeat' (first
    | ((with_reducible refine Parts.le_trans ?_ hp); exact rfl)
    | with_reducible assumption
    | with_reducible apply Keeps.via (keeps_seek _ _ _))

theorem keeps_releaseHolds (s : State) :
    Keeps { cells := true, tbAcc := true, tbLat := true, tsk := true, frc := true, laneA := true, laneB := true, lsk := true, pair := true, mir := true, links := true, io := true, can := true, ses := true, tel := true, evr := true, lcd := true, out := true } s (releaseHolds s) := by
  refine Keeps.start fun p s0 hp h => ?_
  unfold releaseHolds
  repeat' (first
    | ((with_reducible refine Parts.le_trans ?_ hp); exact rfl)
    | with_reducible assumption
    | with_reducible apply Keeps.via (keeps_releaseAllHeld _ _ _))

theorem keeps_abandon {p : Parts} {s0 : State} {k : HoldFor} {ended : SwitchReq → State → State} {q : SwitchReq} {s : State} (hp : ({ cells := true, tbAcc := true, tbLat := true, tsk := true, frc := true, laneA := true, laneB := true, lsk := true, pair := true, lease := true, mir := true, links := true, io := true, can := true, ses := true, tel := true, evr := true, lcd := true, out := true } : Parts).le p) (hended : ∀ x0 x1, Keeps p s0 x1 → Keeps p s0 (ended x0 x1))
    (h : Keeps p s0 s) : Keeps p s0 (abandon k ended q s) := by
  unfold abandon
  repeat' (first
    | ((with_reducible refine Parts.le_trans ?_ hp); exact rfl)
    | with_reducible assumption
    | (intro x; refine_lift have hx : Keeps p s0 x := ?_; ?_; on_goal 2 => unfold x; on_goal 1 => clear_value x)
    | (intro x; clear_value x)
    | lift_lets
    | split
    | with_reducible apply hended
    | with_reducible apply Keeps.via (keeps_setHold _ _ _)
    | with_reducible apply Keeps.via (keeps_seek _ _ _)
    | with_reducible apply Keeps.via (keeps_releaseHolds _))

theorem keeps_judgeVerdicts {p : Parts} {s0 : State} {k : HoldFor} {go ended : SwitchReq → State → State} {q : SwitchReq} {s : State} (hp : ({ cells := true, tbAcc := true, tbLat := true, tsk := true, frc := true, laneA := true, laneB := true, lsk := true, pair := true, lease := true, mir := true, links := true, io := true, can := true, ses := true, tel := true, evr := true, lcd := true, out := true } : Parts).le p) (hgo : ∀ x0 x1, Keeps p s0 x1 → Keeps p s0 (go x0 x1)) (hended : ∀ x0 x1, Keeps p s0 x1 → Keeps p s0 (ended x0 x1))
    (h : Keeps p s0 s) : Keeps p s0 (judgeVerdicts k go ended q s) := by
  unfold judgeVerdicts
  repeat' (first
    | ((with_reducible refine Parts.le_trans ?_ hp); exact rfl)
    | with_reducible assumption
    | split
    | with_reducible apply hgo
    | with_reducible apply Keeps.via (keeps_setHold _ _ _)
    | with_reducible apply keeps_abandon)

theorem keeps_atInstant {p : Parts} {s0 : State} {k : HoldFor} {go ended : SwitchReq → State → State} {s : State} (hp : ({ cells := true, tbAcc := true, tbLat := true, tsk := true, frc := true, laneA := true, laneB := true, lsk := true, pair := true, lease := true, mir := true, links := true, io := true, can := true, ses := true, tel := true, evr := true, lcd := true, out := true } : Parts).le p) (hgo : ∀ x0 x1, Keeps p s0 x1 → Keeps p s0 (go x0 x1)) (hended : ∀ x0 x1, Keeps p s0 x1 → Keeps p s0 (ended x0 x1))
    (h : Keeps p s0 s) : Keeps p s0 (atInstant k go ended s) := by
  unfold atInstant
  repeat' (first
    | ((with_reducible refine Parts.le_trans ?_ hp); exact rfl)
    | with_reducible assumption
    | (intro x; refine_lift have hx : Keeps p s0 x := ?_; ?_; on_goal 2 => unfold x; on_goal 1 => clear_value x)
    | (intro x; clear_value x)
    | lift_lets
    | split
    | with_reducible apply hended
    | with_reducible apply Keeps.via (keeps_saddle _ _)
    | with_reducible apply Keeps.via (keeps_setHold _ _ _)
    | with_reducible apply Keeps.via (keeps_seek _ _ _)
    | with_reducible apply keeps_judgeVerdicts)

theorem keeps_partnerVerdict {p : Parts} {s0 : State} {k : HoldFor} {go ended : SwitchReq → State → State} {yes : Bool} {q : SwitchReq} {s : State} (hp : ({ cells := true, tbAcc := true, tbLat := true, tsk := true, frc := true, laneA := true, laneB := true, lsk := true, pair := true, lease := true, mir := true, links := true, io := true, can := true, ses := true, tel := true, evr := true, lcd := true, out := true } : Parts).le p) (hgo : ∀ x0 x1, Keeps p s0 x1 → Keeps p s0 (go x0 x1)) (hended : ∀ x0 x1, Keeps p s0 x1 → Keeps p s0 (ended x0 x1))
    (h : Keeps p s0 s) : Keeps p s0 (partnerVerdict k go ended yes q s) := by
  unfold partnerVerdict
  repeat' (first
    | ((with_reducible refine Parts.le_trans ?_ hp); exact rfl)
    | with_reducible assumption
    | (intro x; clear_value x)
    | lift_lets
    | split
    | with_reducible apply Keeps.via (keeps_setHold _ _ _)
    | with_reducible apply keeps_judgeVerdicts)

theorem keeps_verdictLate {p : Parts} {s0 : State} {k : HoldFor} {ended : SwitchReq → State → State} {s : State} (hp : ({ cells := true, tbAcc := true, tbLat := true, tsk := true, frc := true, laneA := true, laneB := true, lsk := true, pair := true, lease := true, mir := true, links := true, io := true, can := true, ses := true, tel := true, evr := true, lcd := true, out := true } : Parts).le p) (hended : ∀ x0 x1, Keeps p s0 x1 → Keeps p s0 (ended x0 x1))
    (h : Keeps p s0 s) : Keeps p s0 (verdictLate k ended s) := by
  unfold verdictLate
  repeat' (first
    | ((with_reducible refine Parts.le_trans ?_ hp); exact rfl)
    | with_reducible assumption
    | split
    | with_reducible apply keeps_abandon)

theorem keeps_searchLate {p : Parts} {s0 : State} {k : HoldFor} {ended : SwitchReq → State → State} {s : State} (hp : ({ cells := true, tbAcc := true, tbLat := true, tsk := true, frc := true, laneA := true, laneB := true, lsk := true, pair := true, mir := true, links := true, io := true, can := true, ses := true, tel := true, evr := true, lcd := true, out := true } : Parts).le p) (hended : ∀ x0 x1, Keeps p s0 x1 → Keeps p s0 (ended x0 x1))
    (h : Keeps p s0 s) : Keeps p s0 (searchLate k ended s) := by
  unfold searchLate
  repeat' (first
    | ((with_reducible refine Parts.le_trans ?_ hp); exact rfl)
    | with_reducible assumption
    | lift_lets
    | split
    | with_reducible apply hended
    | with_reducible apply Keeps.via (keeps_releaseHolds _))

theorem keeps_takeCandidate (k : HoldFor) (r : Nat) (s : State) :
    Keeps { tsk := true, lsk := true, pair := true, lease := true, out := true } s (takeCandidate k r s) := by
  refine Keeps.start fun p s0 hp h => ?_
  unfold takeCandidate
  repeat' (first
    | ((with_reducible refine Parts.le_trans ?_ hp); exact rfl)
    | with_reducible assumption
    | (intro x; clear_value x)
    | lift_lets
    | split
    | with_reducible apply Keeps.via (keeps_saddle _ _)
    | with_reducible apply Keeps.via (keeps_setHold _ _ _))

/-! ### Operations of Machine/Change.lean -/

theorem keeps_changeService (q : Req) (tag : W32) (ident : W256) (s : State) :
    Keeps { tsk := true, img := true, lsk := true, pair := true, lease := true, out := true } s (changeService q tag ident s) := by
  refine Keeps.start fun p s0 hp h => ?_
  unfold changeService
  repeat' (first
    | ((with_reducible refine Parts.le_trans ?_ hp); exact rfl)
    | with_reducible assumption
    | intro (x : Img)
    | lift_lets
    | split
    | with_reducible apply Keeps.via (keeps_changeReply _ _ _ _ _ _)
    | with_reducible apply Keeps.via (keeps_openHold _ _ _ _)
    | fail_if_no_progress ((with_reducible apply Keeps.upd hp) <;> [skip; (with_reducible rfl); (with_reducible rfl)]))

theorem keeps_flipTerraces (old new : Image) (s : State) :
    Keeps { img := true, laneA := true, laneB := true, lsk := true } s (flipTerraces old new s) := by
  refine Keeps.start fun p s0 hp h => ?_
  unfold flipTerraces
  repeat' (first
    | with_reducible assumption
    | intro (x : Img)
    | (intro x; clear_value x)
    | lift_lets
    | fail_if_no_progress ((with_reducible apply Keeps.upd hp) <;> [skip; (with_reducible rfl); (with_reducible rfl)]))

theorem keeps_beginWindow (q : SwitchReq) (s : State) :
    Keeps { cells := true, tsk := true, img := true, frc := true, laneA := true, laneB := true, lsk := true, lease := true, evr := true } s (beginWindow q s) := by
  refine Keeps.start fun p s0 hp h => ?_
  unfold beginWindow
  repeat' (first
    | (intro (hw : Memory.wf _ = true); with_reducible exact carry_wf _ _ _ _ _ hw)
    | ((with_reducible refine Parts.le_trans ?_ hp); exact rfl)
    | with_reducible assumption
    | (intro x; refine_lift have hx : Keeps p s0 x := ?_; ?_; on_goal 2 => unfold x; on_goal 1 => clear_value x)
    | (intro x; clear_value x)
    | intro x
    | split
    | lift_lets
    | fail_if_no_progress ((with_reducible apply Keeps.upd hp) <;> [skip; (with_reducible rfl); (with_reducible rfl)])
    | with_reducible apply Keeps.via (keeps_logEv _ _ _ _)
    | with_reducible apply Keeps.via (keeps_setHold _ _ _)
    | with_reducible apply Keeps.via (keeps_flipTerraces _ _ _)
    | with_reducible apply keeps_overAll
    | (with_reducible refine Keeps.via (keeps_withMem _ _ ?_) ?_ ?_))

theorem keeps_changeEnded (_q : SwitchReq) (s : State) :
    Keeps { tsk := true, img := true, lsk := true, pair := true, evr := true, out := true } s (changeEnded _q s) := by
  refine Keeps.start fun p s0 hp h => ?_
  unfold changeEnded
  repeat' (first
    | ((with_reducible refine Parts.le_trans ?_ hp); exact rfl)
    | with_reducible assumption
    | with_reducible apply Keeps.via (keeps_endChange _ _))

theorem keeps_terraceRecordWrite (s : State) :
    Keeps { store := true } s (terraceRecordWrite s) := by
  refine Keeps.start fun p s0 hp h => ?_
  unfold terraceRecordWrite
  repeat' (first
    | ((with_reducible refine Parts.le_trans ?_ hp); exact rfl)
    | with_reducible assumption
    | intro (x : MemState)
    | lift_lets
    | split
    | with_reducible apply Keeps.via (keeps_persist _ _ _)
    | fail_if_no_progress ((with_reducible apply Keeps.upd hp) <;> [skip; (with_reducible rfl); (with_reducible rfl)]))

/-! ### Operations of Machine/Col.lean -/

theorem keeps_performRead (stream : Fin 74) (w : LaneWord) (bad : Bool) (s : State) :
    Keeps { cells := true, store := true, tsk := true, laneA := true, laneB := true, lsk := true, out := true } s (performRead stream w bad s) := by
  refine Keeps.start fun p s0 hp h => ?_
  unfold performRead
  repeat' (first
    | ((with_reducible refine Parts.le_trans ?_ hp); exact rfl)
    | with_reducible assumption
    | (intro x; clear_value x)
    | intro x
    | lift_lets
    | split
    | with_reducible apply Keeps.via (keeps_returnWords _ _ _ _)
    | with_reducible apply Keeps.via (keeps_commitVar _ _ _ _ _ _)
    | with_reducible apply Keeps.via (keeps_joinCycleFlags _ _ _))

theorem keeps_performCall (stream : Fin 74) (w : LaneWord) (s : State) :
    Keeps { laneA := true, laneB := true, lsk := true, out := true, free := true } s (performCall stream w s) := by
  refine Keeps.start fun p s0 hp h => ?_
  unfold performCall
  repeat' (first
    | ((with_reducible refine Parts.le_trans ?_ hp); exact rfl)
    | with_reducible assumption
    | (intro x; refine_lift have hx : Keeps p s0 x := ?_; ?_; on_goal 2 => unfold x; on_goal 1 => clear_value x)
    | (intro x; clear_value x)
    | intro x
    | lift_lets
    | split
    | with_reducible apply Keeps.of_snd (by assumption)
    | with_reducible apply Keeps.via (keeps_freeValue _ _)
    | with_reducible apply Keeps.via (keeps_returnWords _ _ _ _)
    | with_reducible apply Keeps.via (keeps_onCtx _ _ _ _)
    | with_reducible apply keeps_overAll)

theorem keeps_commitWord (stream : Fin 74) (w : LaneWord) (chk : MemCheck) (s : State) :
    Keeps { cells := true, store := true, tsk := true, img := true, laneA := true, laneB := true, lsk := true, pair := true, lease := true, mir := true, links := true, io := true, can := true, ses := true, pwr := true, tel := true, evr := true, lcd := true, mod := true, out := true, free := true } s (commitWord stream w chk s) := by
  refine Keeps.start fun p s0 hp h => ?_
  unfold commitWord
  repeat' (first
    | ((with_reducible refine Parts.le_trans ?_ hp); exact rfl)
    | with_reducible assumption
    | (intro x; refine_lift have hx : Keeps p s0 x := ?_; ?_; on_goal 2 => unfold x; on_goal 1 => clear_value x)
    | lift_lets
    | split
    | with_reducible apply Keeps.via (keeps_onCycle _ _ _)
    | with_reducible apply Keeps.via (keeps_memCheck _ _)
    | with_reducible apply Keeps.via (keeps_commitPoint _ _ _ _ _)
    | with_reducible apply Keeps.via (keeps_commitVar _ _ _ _ _ _)
    | with_reducible apply Keeps.via (keeps_performRead _ _ _ _)
    | with_reducible apply Keeps.via (keeps_performCall _ _ _))

theorem keeps_comparePair (stream : Fin 74) (a b : LaneWord) (waited : Nat) (chk : MemCheck) (s : State) :
    Keeps { cells := true, store := true, tsk := true, img := true, laneA := true, laneB := true, lsk := true, pair := true, lease := true, mir := true, links := true, io := true, can := true, ses := true, pwr := true, tel := true, evr := true, lcd := true, mod := true, out := true, free := true } s (comparePair stream a b waited chk s) := by
  refine Keeps.start fun p s0 hp h => ?_
  unfold comparePair
  repeat' (first
    | ((with_reducible refine Parts.le_trans ?_ hp); exact rfl)
    | with_reducible assumption
    | (intro x; refine_lift have hx : Keeps p s0 x := ?_; ?_; on_goal 2 => unfold x; on_goal 1 => clear_value x)
    | (intro x; clear_value x)
    | lift_lets
    | split
    | with_reducible apply Keeps.via (keeps_takeFault _ _)
    | with_reducible apply Keeps.via (keeps_commitWord _ _ _ _)
    | fail_if_no_progress ((with_reducible apply Keeps.upd hp) <;> [skip; (with_reducible rfl); (with_reducible rfl)]))

theorem keeps_colFault (lane : Lane) (stream : Fin 74) (f : ColFault) (arriving : Option LaneWord) (s : State) :
    Keeps { tsk := true, img := true, lsk := true, pair := true, lease := true, io := true, can := true, ses := true, evr := true, lcd := true, mod := true, out := true } s (colFault lane stream f arriving s) := by
  refine Keeps.start fun p s0 hp h => ?_
  unfold colFault
  repeat' (first
    | ((with_reducible refine Parts.le_trans ?_ hp); exact rfl)
    | with_reducible assumption
    | (intro x; clear_value x)
    | lift_lets
    | split
    | with_reducible apply Keeps.via (keeps_takeFault _ _))

theorem keeps_acknowledge (lane : Lane) (stream : Fin 74) (s : State) :
    Keeps { laneA := true, laneB := true, out := true } s (acknowledge lane stream s) := by
  refine Keeps.start fun p s0 hp h => ?_
  unfold acknowledge
  repeat' (first
    | ((with_reducible refine Parts.le_trans ?_ hp); exact rfl)
    | with_reducible assumption
    | split
    | with_reducible apply Keeps.via (keeps_onLane _ _ _))

theorem keeps_takeWord (lane : Lane) (stream : Fin 74) (w : LaneWord) (changed : Bool) (chk : MemCheck) (s : State) :
    Keeps { cells := true, store := true, tsk := true, img := true, laneA := true, laneB := true, lsk := true, pair := true, lease := true, mir := true, links := true, io := true, can := true, ses := true, pwr := true, tel := true, evr := true, lcd := true, mod := true, out := true, free := true } s (takeWord lane stream w changed chk s) := by
  refine Keeps.start fun p s0 hp h => ?_
  unfold takeWord
  repeat' (first
    | ((with_reducible refine Parts.le_trans ?_ hp); exact rfl)
    | with_reducible assumption
    | (intro x; refine_lift have hx : Keeps p s0 x := ?_; ?_; on_goal 2 => unfold x; on_goal 1 => clear_value x)
    | (intro x; clear_value x)
    | lift_lets
    | split
    | with_reducible apply Keeps.via (keeps_comparePair _ _ _ _ _ _)
    | with_reducible apply Keeps.via (keeps_acknowledge _ _ _)
    | fail_if_no_progress ((with_reducible apply Keeps.upd hp) <;> [skip; (with_reducible rfl); (with_reducible rfl)]))

theorem keeps_takeAlone (lane : Lane) (stream : Fin 74) (w : LaneWord) (chk : MemCheck) (s : State) :
    Keeps { cells := true, store := true, tsk := true, img := true, laneA := true, laneB := true, lsk := true, pair := true, lease := true, mir := true, links := true, io := true, can := true, ses := true, pwr := true, tel := true, evr := true, lcd := true, mod := true, out := true, free := true } s (takeAlone lane stream w chk s) := by
  refine Keeps.start fun p s0 hp h => ?_
  unfold takeAlone
  repeat' (first
    | ((with_reducible refine Parts.le_trans ?_ hp); exact rfl)
    | with_reducible assumption
    | (intro x; refine_lift have hx : Keeps p s0 x := ?_; ?_; on_goal 2 => unfold x; on_goal 1 => clear_value x)
    | lift_lets
    | split
    | with_reducible apply Keeps.via (keeps_commitWord _ _ _ _)
    | with_reducible apply Keeps.via (keeps_acknowledge _ _ _))

theorem keeps_colWordCompare (lane : Lane) (stream : Fin 74) (changed : Option LaneWord) (fault : Option ColFault) (chk : MemCheck) (s : State) :
    Keeps { cells := true, store := true, tsk := true, img := true, laneA := true, laneB := true, lsk := true, pair := true, lease := true, mir := true, links := true, io := true, can := true, ses := true, pwr := true, tel := true, evr := true, lcd := true, mod := true, out := true, free := true } s (colWordCompare lane stream changed fault chk s) := by
  refine Keeps.start fun p s0 hp h => ?_
  unfold colWordCompare
  repeat' (first
    | ((with_reducible refine Parts.le_trans ?_ hp); exact rfl)
    | with_reducible assumption
    | (intro x; clear_value x)
    | lift_lets
    | split
    | with_reducible apply Keeps.via (keeps_memCheck _ _)
    | with_reducible apply Keeps.via (keeps_colFault _ _ _ _ _)
    | with_reducible apply Keeps.via (keeps_takeWord _ _ _ _ _ _)
    | with_reducible apply Keeps.via (keeps_takeAlone _ _ _ _ _))

theorem keeps_colMissingWord (stream : Fin 74) (s : State) :
    Keeps { tsk := true, img := true, lsk := true, pair := true, lease := true, io := true, can := true, ses := true, evr := true, lcd := true, mod := true, out := true } s (colMissingWord stream s) := by
  refine Keeps.start fun p s0 hp h => ?_
  unfold colMissingWord
  repeat' (first
    | ((with_reducible refine Parts.le_trans ?_ hp); exact rfl)
    | with_reducible assumption
    | (intro x; clear_value x)
    | split
    | lift_lets
    | with_reducible apply Keeps.via (keeps_takeFault _ _))

/-! ### Operations of Machine/Panel.lean -/

theorem keeps_takeLayout (s : State) :
    Keeps { ses := true, lcd := true } s (takeLayout s) := by
  refine Keeps.start fun p s0 hp h => ?_
  unfold takeLayout
  repeat' (first
    | ((with_reducible refine Parts.le_trans ?_ hp); exact rfl)
    | with_reducible assumption
    | (intro x; clear_value x)
    | lift_lets
    | split
    | with_reducible apply Keeps.via (keeps_showModule _)
    | fail_if_no_progress ((with_reducible apply Keeps.upd hp) <;> [skip; (with_reducible rfl); (with_reducible rfl)]))

theorem keeps_changeLayout (s : State) :
    Keeps { ses := true, lcd := true } s (changeLayout s) := by
  refine Keeps.start fun p s0 hp h => ?_
  unfold changeLayout
  repeat' (first
    | ((with_reducible refine Parts.le_trans ?_ hp); exact rfl)
    | with_reducible assumption
    | (intro x; clear_value x)
    | intro x
    | lift_lets
    | split
    | with_reducible apply Keeps.via (keeps_onRegion _ _ _)
    | with_reducible apply Keeps.via (keeps_countRepl _)
    | with_reducible apply Keeps.via (keeps_updResult _ _ _)
    | with_reducible apply keeps_overAll
    | fail_if_no_progress ((with_reducible apply Keeps.upd hp) <;> [skip; (with_reducible rfl); (with_reducible rfl)]))

theorem keeps_writeUpdate (n : Fin 16) (u : PanelUpd) (s : State) :
    Keeps { lcd := true } s (writeUpdate n u s) := by
  refine Keeps.start fun p s0 hp h => ?_
  unfold writeUpdate
  repeat' (first
    | ((with_reducible refine Parts.le_trans ?_ hp); exact rfl)
    | with_reducible assumption
    | with_reducible apply Keeps.via (keeps_onRegion _ _ _))

theorem keeps_frameRegion (n : Fin 16) (s : State) :
    Keeps { ses := true, lcd := true } s (frameRegion n s) := by
  refine Keeps.start fun p s0 hp h => ?_
  unfold frameRegion
  repeat' (first
    | ((with_reducible refine Parts.le_trans ?_ hp); exact rfl)
    | with_reducible assumption
    | (intro x; refine_lift have hx : Keeps p s0 x := ?_; ?_; on_goal 2 => unfold x; on_goal 1 => clear_value x)
    | (intro x; clear_value x)
    | lift_lets
    | split
    | with_reducible apply Keeps.via (keeps_onRegion _ _ _)
    | with_reducible apply Keeps.via (keeps_updResult _ _ _)
    | with_reducible apply Keeps.via (keeps_writeUpdate _ _ _)
    | fail_if_no_progress ((with_reducible apply Keeps.upd hp) <;> [skip; (with_reducible rfl); (with_reducible rfl)]))

theorem keeps_panelFrameStart (s : State) :
    Keeps { ses := true, lcd := true } s (panelFrameStart s) := by
  refine Keeps.start fun p s0 hp h => ?_
  unfold panelFrameStart
  repeat' (first
    | ((with_reducible refine Parts.le_trans ?_ hp); exact rfl)
    | with_reducible assumption
    | (intro x; refine_lift have hx : Keeps p s0 x := ?_; ?_; on_goal 2 => unfold x; on_goal 1 => clear_value x)
    | (intro x; clear_value x)
    | intro x
    | lift_lets
    | split
    | with_reducible apply Keeps.via (keeps_takeLayout _)
    | with_reducible apply Keeps.via (keeps_frameRegion _ _)
    | with_reducible apply keeps_overAll
    | fail_if_no_progress ((with_reducible apply Keeps.upd hp) <;> [skip; (with_reducible rfl); (with_reducible rfl)]))

theorem keeps_supersede (se : Fin 64) (s : State) :
    Keeps { lcd := true } s (supersede se s) := by
  refine Keeps.start fun p s0 hp h => ?_
  unfold supersede
  repeat' (first
    | with_reducible assumption
    | (intro x; clear_value x)
    | lift_lets
    | fail_if_no_progress ((with_reducible apply Keeps.upd hp) <;> [skip; (with_reducible rfl); (with_reducible rfl)]))

theorem keeps_hostUpdate (q : Req) (s : State) :
    Keeps { lsk := true, pair := true, ses := true, lcd := true, out := true } s (hostUpdate q s) := by
  refine Keeps.start fun p s0 hp h => ?_
  unfold hostUpdate
  repeat' (first
    | ((with_reducible refine Parts.le_trans ?_ hp); exact rfl)
    | with_reducible assumption
    | (intro x; clear_value x)
    | lift_lets
    | split
    | with_reducible apply Keeps.via (keeps_answer _ _ _ _)
    | with_reducible apply Keeps.via (keeps_startUpdate _ _ _)
    | with_reducible apply Keeps.via (keeps_supersede _ _))

theorem keeps_svcPanelUpdate (k : Fin 8) (region : Nat) (text : BitVec 48) (icons : W32) (s : State) :
    Keeps { laneA := true, laneB := true, lsk := true, ses := true, lcd := true, out := true } s (svcPanelUpdate k region text icons s) := by
  refine Keeps.start fun p s0 hp h => ?_
  unfold svcPanelUpdate
  repeat' (first
    | ((with_reducible refine Parts.le_trans ?_ hp); exact rfl)
    | with_reducible assumption
    | (intro x; refine_lift have hx : Keeps p s0 x := ?_; ?_; on_goal 2 => unfold x; on_goal 1 => clear_value x)
    | (intro x; clear_value x)
    | lift_lets
    | split
    | with_reducible apply Keeps.via (keeps_startUpdate _ _ _)
    | with_reducible apply Keeps.via (keeps_serviceReturn _ _ _)
    | fail_if_no_progress ((with_reducible apply Keeps.upd hp) <;> [skip; (with_reducible rfl); (with_reducible rfl)]))

theorem keeps_hostWake (q : Req) (s : State) :
    Keeps { lsk := true, pair := true, ses := true, lcd := true, out := true } s (hostWake q s) := by
  refine Keeps.start fun p s0 hp h => ?_
  unfold hostWake
  repeat' (first
    | ((with_reducible refine Parts.le_trans ?_ hp); exact rfl)
    | with_reducible assumption
    | lift_lets
    | with_reducible apply Keeps.via (keeps_answer _ _ _ _)
    | with_reducible apply Keeps.via (keeps_panelActive _)
    | with_reducible apply Keeps.via (keeps_supersede _ _))

theorem keeps_panelLowpowerTimeout (s : State) :
    Keeps { lcd := true } s (panelLowpowerTimeout s) := by
  refine Keeps.start fun p s0 hp h => ?_
  unfold panelLowpowerTimeout
  repeat' (first
    | with_reducible assumption
    | (intro x; clear_value x)
    | lift_lets
    | split
    | fail_if_no_progress ((with_reducible apply Keeps.upd hp) <;> [skip; (with_reducible rfl); (with_reducible rfl)]))

/-! ### Operations of Machine/TimeBase.lean -/

theorem keeps_envSet (k : Fin 8) (on : Bool) (value : Nat) (s : State) :
    Keeps { store := true, tel := true, evr := true } s (envSet k on value s) := by
  refine Keeps.start fun p s0 hp h => ?_
  unfold envSet
  repeat' (first
    | ((with_reducible refine Parts.le_trans ?_ hp); exact rfl)
    | with_reducible assumption
    | (intro x; refine_lift have hx : Keeps p s0 x := ?_; ?_; on_goal 2 => unfold x; on_goal 1 => clear_value x)
    | (intro x; clear_value x)
    | lift_lets
    | split
    | with_reducible apply Keeps.via (keeps_logEv _ _ _ _)
    | with_reducible apply Keeps.via (keeps_persist _ _ _)
    | fail_if_no_progress ((with_reducible apply Keeps.upd hp) <;> [skip; (with_reducible rfl); (with_reducible rfl)]))

theorem keeps_envJudge (k : Fin 8) (enter leave : Bool) (value : Nat) (s : State) :
    Keeps { store := true, tel := true, evr := true } s (envJudge k enter leave value s) := by
  refine Keeps.start fun p s0 hp h => ?_
  unfold envJudge
  repeat' (first
    | ((with_reducible refine Parts.le_trans ?_ hp); exact rfl)
    | with_reducible assumption
    | split
    | with_reducible apply Keeps.via (keeps_envSet _ _ _ _))

theorem keeps_setTime (t : Nat) (source : Fin 8) (s : State) :
    Keeps { tb := true, tsk := true, pair := true, lease := true, links := true, io := true, can := true, ses := true, pwr := true, tel := true, evr := true, lcd := true, mod := true } s (setTime t source s) := by
  refine Keeps.start fun p s0 hp h => ?_
  unfold setTime
  repeat' (first
    | with_reducible assumption
    | (intro x; clear_value x)
    | lift_lets
    | fail_if_no_progress ((with_reducible apply Keeps.upd hp) <;> [skip; (with_reducible rfl); (with_reducible rfl)]))

theorem keeps_oscillatorCompensation (temp : BitVec 16) (plDiffPpm : Nat) (s : State) :
    Keeps { store := true, tb := true, tel := true, evr := true } s (oscillatorCompensation temp plDiffPpm s) := by
  refine Keeps.start fun p s0 hp h => ?_
  unfold oscillatorCompensation
  repeat' (first
    | ((with_reducible refine Parts.le_trans ?_ hp); exact rfl)
    | with_reducible assumption
    | (intro x; refine_lift have hx : Keeps p s0 x := ?_; ?_; on_goal 2 => unfold x; on_goal 1 => clear_value x)
    | (intro x; clear_value x)
    | lift_lets
    | with_reducible apply Keeps.via (keeps_envJudge _ _ _ _ _)
    | fail_if_no_progress ((with_reducible apply Keeps.upd hp) <;> [skip; (with_reducible rfl); (with_reducible rfl)]))

theorem keeps_timeMapping (cause : Nat) (s : State) :
    Keeps { store := true, tb := true, evr := true } s (timeMapping cause s) := by
  refine Keeps.start fun p s0 hp h => ?_
  unfold timeMapping
  repeat' (first
    | ((with_reducible refine Parts.le_trans ?_ hp); exact rfl)
    | with_reducible assumption
    | (intro x; refine_lift have hx : Keeps p s0 x := ?_; ?_; on_goal 2 => unfold x; on_goal 1 => clear_value x)
    | (intro x; clear_value x)
    | lift_lets
    | with_reducible apply Keeps.via (keeps_logEv _ _ _ _)
    | with_reducible apply Keeps.via (keeps_persist _ _ _)
    | fail_if_no_progress ((with_reducible apply Keeps.upd hp) <;> [skip; (with_reducible rfl); (with_reducible rfl)]))

theorem keeps_timeMappingInterval (s : State) :
    Keeps { store := true, tb := true, evr := true } s (timeMappingInterval s) := by
  refine Keeps.start fun p s0 hp h => ?_
  unfold timeMappingInterval
  repeat' (first
    | ((with_reducible refine Parts.le_trans ?_ hp); exact rfl)
    | with_reducible assumption
    | split
    | with_reducible apply Keeps.via (keeps_timeMapping _ _))

theorem keeps_setPtpState (st : Fin 4) (s : State) :
    Keeps { store := true, tb := true, tbAcc := true, evr := true } s (setPtpState st s) := by
  refine Keeps.start fun p s0 hp h => ?_
  unfold setPtpState
  repeat' (first
    | ((with_reducible refine Parts.le_trans ?_ hp); exact rfl)
    | with_reducible assumption
    | (intro x; refine_lift have hx : Keeps p s0 x := ?_; ?_; on_goal 2 => unfold x; on_goal 1 => clear_value x)
    | (intro x; clear_value x)
    | lift_lets
    | split
    | with_reducible apply Keeps.via (keeps_logEv _ _ _ _)
    | with_reducible apply Keeps.via (keeps_timeMapping _ _)
    | fail_if_no_progress ((with_reducible apply Keeps.upd hp) <;> [skip; (with_reducible rfl); (with_reducible rfl)]))

theorem keeps_configurePtp (s : State) :
    Keeps { store := true, tb := true, tbAcc := true, evr := true } s (configurePtp s) := by
  refine Keeps.start fun p s0 hp h => ?_
  unfold configurePtp
  repeat' (first
    | ((with_reducible refine Parts.le_trans ?_ hp); exact rfl)
    | with_reducible assumption
    | (intro x; clear_value x)
    | lift_lets
    | split
    | with_reducible apply Keeps.via (keeps_setPtpState _ _)
    | fail_if_no_progress ((with_reducible apply Keeps.upd hp) <;> [skip; (with_reducible rfl); (with_reducible rfl)]))

theorem keeps_selectMaster (best : Option PtpAnnounce) (s : State) :
    Keeps { store := true, tb := true, tbAcc := true, evr := true } s (selectMaster best s) := by
  refine Keeps.start fun p s0 hp h => ?_
  unfold selectMaster
  repeat' (first
    | ((with_reducible refine Parts.le_trans ?_ hp); exact rfl)
    | with_reducible assumption
    | (intro x; refine_lift have hx : Keeps p s0 x := ?_; ?_; on_goal 2 => unfold x; on_goal 1 => clear_value x)
    | (intro x; clear_value x)
    | lift_lets
    | split
    | with_reducible apply Keeps.via (keeps_setPtpState _ _)
    | fail_if_no_progress ((with_reducible apply Keeps.upd hp) <;> [skip; (with_reducible rfl); (with_reducible rfl)]))

theorem keeps_ptpAnnounceReceive (m : PtpAnnounce) (s : State) :
    Keeps { store := true, tb := true, tbAcc := true, ses := true, evr := true } s (ptpAnnounceReceive m s) := by
  refine Keeps.start fun p s0 hp h => ?_
  unfold ptpAnnounceReceive
  repeat' (first
    | ((with_reducible refine Parts.le_trans ?_ hp); exact rfl)
    | with_reducible assumption
    | (intro x; clear_value x)
    | lift_lets
    | split
    | with_reducible apply Keeps.via (keeps_selectMaster _ _)
    | fail_if_no_progress ((with_reducible apply Keeps.upd hp) <;> [skip; (with_reducible rfl); (with_reducible rfl)]))

theorem keeps_matchRate (s : State) :
    Keeps { tb := true, free := true } s (matchRate s) := by
  refine Keeps.start fun p s0 hp h => ?_
  unfold matchRate
  repeat' (first
    | ((with_reducible refine Parts.le_trans ?_ hp); exact rfl)
    | with_reducible assumption
    | (intro x; clear_value x)
    | lift_lets
    | split
    | with_reducible apply Keeps.of_snd (by assumption)
    | with_reducible apply Keeps.via (keeps_freeValue _ _)
    | fail_if_no_progress ((with_reducible apply Keeps.upd hp) <;> [skip; (with_reducible rfl); (with_reducible rfl)]))

theorem keeps_setPtpOfs (v : Int) (s : State) :
    Keeps { tb := true } s (setPtpOfs v s) := by
  refine Keeps.start fun p s0 hp h => ?_
  unfold setPtpOfs
  repeat' (first
    | with_reducible assumption
    | (intro x; clear_value x)
    | lift_lets
    | fail_if_no_progress ((with_reducible apply Keeps.upd hp) <;> [skip; (with_reducible rfl); (with_reducible rfl)]))

theorem keeps_steer (err : Int) (s : State) :
    Keeps { store := true, tb := true, tbAcc := true, evr := true, free := true } s (steer err s) := by
  refine Keeps.start fun p s0 hp h => ?_
  unfold steer
  repeat' (first
    | ((with_reducible refine Parts.le_trans ?_ hp); exact rfl)
    | with_reducible assumption
    | (intro x; refine_lift have hx : Keeps p s0 x := ?_; ?_; on_goal 2 => unfold x; on_goal 1 => clear_value x)
    | (intro x; clear_value x)
    | lift_lets
    | split
    | with_reducible apply Keeps.via (keeps_logEv _ _ _ _)
    | with_reducible apply Keeps.via (keeps_timeMapping _ _)
    | with_reducible apply Keeps.via (keeps_matchRate _)
    | with_reducible apply Keeps.via (keeps_setPtpOfs _ _)
    | fail_if_no_progress ((with_reducible apply Keeps.upd hp) <;> [skip; (with_reducible rfl); (with_reducible rfl)]))

theorem keeps_setFromPtp (err : Int) (s : State) :
    Keeps { tb := true, tsk := true, pair := true, lease := true, links := true, io := true, can := true, ses := true, pwr := true, tel := true, evr := true, lcd := true, mod := true } s (setFromPtp err s) := by
  refine Keeps.start fun p s0 hp h => ?_
  unfold setFromPtp
  repeat' (first
    | ((with_reducible refine Parts.le_trans ?_ hp); exact rfl)
    | with_reducible assumption
    | (intro x; clear_value x)
    | lift_lets
    | with_reducible apply Keeps.via (keeps_setTime _ _ _)
    | with_reducible apply Keeps.via (keeps_setPtpOfs _ _)
    | fail_if_no_progress ((with_reducible apply Keeps.upd hp) <;> [skip; (with_reducible rfl); (with_reducible rfl)]))

theorem keeps_enterLocked (err : Int) (s : State) :
    Keeps { store := true, tb := true, tbAcc := true, tsk := true, pair := true, lease := true, links := true, io := true, can := true, ses := true, pwr := true, tel := true, evr := true, lcd := true, mod := true, free := true } s (enterLocked err s) := by
  refine Keeps.start fun p s0 hp h => ?_
  unfold enterLocked
  repeat' (first
    | ((with_reducible refine Parts.le_trans ?_ hp); exact rfl)
    | with_reducible assumption
    | (intro x; refine_lift have hx : Keeps p s0 x := ?_; ?_; on_goal 2 => unfold x; on_goal 1 => clear_value x)
    | lift_lets
    | split
    | with_reducible apply Keeps.via (keeps_setPtpState _ _)
    | with_reducible apply Keeps.via (keeps_steer _ _)
    | with_reducible apply Keeps.via (keeps_setFromPtp _ _))

theorem keeps_countSync (err : Int) (s : State) :
    Keeps { tb := true } s (countSync err s) := by
  refine Keeps.start fun p s0 hp h => ?_
  unfold countSync
  repeat' (first
    | with_reducible assumption
    | (intro x; clear_value x)
    | lift_lets
    | split
    | fail_if_no_progress ((with_reducible apply Keeps.upd hp) <;> [skip; (with_reducible rfl); (with_reducible rfl)]))

theorem keeps_takeOffset (err : Int) (s : State) :
    Keeps { store := true, tb := true, tbAcc := true, tsk := true, pair := true, lease := true, links := true, io := true, can := true, ses := true, pwr := true, tel := true, evr := true, lcd := true, mod := true, free := true } s (takeOffset err s) := by
  refine Keeps.start fun p s0 hp h => ?_
  unfold takeOffset
  repeat' (first
    | ((with_reducible refine Parts.le_trans ?_ hp); exact rfl)
    | with_reducible assumption
    | (intro x; refine_lift have hx : Keeps p s0 x := ?_; ?_; on_goal 2 => unfold x; on_goal 1 => clear_value x)
    | (intro x; clear_value x)
    | lift_lets
    | split
    | with_reducible apply Keeps.via (keeps_steer _ _)
    | with_reducible apply Keeps.via (keeps_enterLocked _ _)
    | with_reducible apply Keeps.via (keeps_countSync _ _)
    | fail_if_no_progress ((with_reducible apply Keeps.upd hp) <;> [skip; (with_reducible rfl); (with_reducible rfl)]))

theorem keeps_measureSync (origin rx : Nat) (correction : Int) (s : State) :
    Keeps { store := true, tb := true, tbAcc := true, tsk := true, pair := true, lease := true, links := true, io := true, can := true, ses := true, pwr := true, tel := true, evr := true, lcd := true, mod := true, out := true, free := true } s (measureSync origin rx correction s) := by
  refine Keeps.start fun p s0 hp h => ?_
  unfold measureSync
  repeat' (first
    | ((with_reducible refine Parts.le_trans ?_ hp); exact rfl)
    | with_reducible assumption
    | (intro x; refine_lift have hx : Keeps p s0 x := ?_; ?_; on_goal 2 => unfold x; on_goal 1 => clear_value x)
    | (intro x; clear_value x)
    | lift_lets
    | with_reducible apply Keeps.via (keeps_emit _ _)
    | with_reducible apply Keeps.via (keeps_takeOffset _ _)
    | fail_if_no_progress ((with_reducible apply Keeps.upd hp) <;> [skip; (with_reducible rfl); (with_reducible rfl)]))

theorem keeps_ptpSyncReceive (m : PtpSync) (s : State) :
    Keeps { store := true, tb := true, tbAcc := true, tsk := true, pair := true, lease := true, links := true, io := true, can := true, ses := true, pwr := true, tel := true, evr := true, lcd := true, mod := true, out := true, free := true } s (ptpSyncReceive m s) := by
  refine Keeps.start fun p s0 hp h => ?_
  unfold ptpSyncReceive
  repeat' (first
    | ((with_reducible refine Parts.le_trans ?_ hp); exact rfl)
    | with_reducible assumption
    | (intro x; clear_value x)
    | lift_lets
    | split
    | with_reducible apply Keeps.via (keeps_measureSync _ _ _ _)
    | fail_if_no_progress ((with_reducible apply Keeps.upd hp) <;> [skip; (with_reducible rfl); (with_reducible rfl)]))

theorem keeps_ptpFollowUpReceive (m : PtpFollowUp) (s : State) :
    Keeps { store := true, tb := true, tbAcc := true, tsk := true, pair := true, lease := true, links := true, io := true, can := true, ses := true, pwr := true, tel := true, evr := true, lcd := true, mod := true, out := true, free := true } s (ptpFollowUpReceive m s) := by
  refine Keeps.start fun p s0 hp h => ?_
  unfold ptpFollowUpReceive
  repeat' (first
    | ((with_reducible refine Parts.le_trans ?_ hp); exact rfl)
    | with_reducible assumption
    | split
    | with_reducible apply Keeps.via (keeps_measureSync _ _ _ _))

theorem keeps_ptpDelayRespReceive (m : PtpDelayResp) (s : State) :
    Keeps { tb := true } s (ptpDelayRespReceive m s) := by
  refine Keeps.start fun p s0 hp h => ?_
  unfold ptpDelayRespReceive
  repeat' (first
    | with_reducible assumption
    | (intro x; clear_value x)
    | lift_lets
    | split
    | fail_if_no_progress ((with_reducible apply Keeps.upd hp) <;> [skip; (with_reducible rfl); (with_reducible rfl)]))

theorem keeps_ptpHoldoverTimeout (s : State) :
    Keeps { store := true, tb := true, tbAcc := true, evr := true } s (ptpHoldoverTimeout s) := by
  refine Keeps.start fun p s0 hp h => ?_
  unfold ptpHoldoverTimeout
  repeat' (first
    | ((with_reducible refine Parts.le_trans ?_ hp); exact rfl)
    | with_reducible assumption
    | split
    | with_reducible apply Keeps.via (keeps_setPtpState _ _))

theorem keeps_ptpListeningTimeout (s : State) :
    Keeps { store := true, tb := true, tbAcc := true, evr := true } s (ptpListeningTimeout s) := by
  refine Keeps.start fun p s0 hp h => ?_
  unfold ptpListeningTimeout
  repeat' (first
    | ((with_reducible refine Parts.le_trans ?_ hp); exact rfl)
    | with_reducible assumption
    | (intro x; clear_value x)
    | lift_lets
    | split
    | with_reducible apply Keeps.via (keeps_setPtpState _ _)
    | fail_if_no_progress ((with_reducible apply Keeps.upd hp) <;> [skip; (with_reducible rfl); (with_reducible rfl)]))

theorem keeps_pairAlignmentLoss (s : State) :
    Keeps { tb := true } s (pairAlignmentLoss s) := by
  refine Keeps.start fun p s0 hp h => ?_
  unfold pairAlignmentLoss
  repeat' (first
    | with_reducible assumption
    | (intro x; clear_value x)
    | lift_lets
    | split
    | fail_if_no_progress ((with_reducible apply Keeps.upd hp) <;> [skip; (with_reducible rfl); (with_reducible rfl)]))

theorem keeps_measureLink (l : Fin 2) (h : Heartbeat) (s : State) :
    Keeps { tb := true, pair := true } s (measureLink l h s) := by
  refine Keeps.start fun p s0 hp h => ?_
  unfold measureLink
  repeat' (first
    | with_reducible assumption
    | (intro x; refine_lift have hx : Keeps p s0 x := ?_; ?_; on_goal 2 => unfold x; on_goal 1 => clear_value x)
    | (intro x; clear_value x)
    | lift_lets
    | split
    | fail_if_no_progress ((with_reducible apply Keeps.upd hp) <;> [skip; (with_reducible rfl); (with_reducible rfl)]))

theorem keeps_followHolder (h : Heartbeat) (s : State) :
    Keeps { tb := true, tbAcc := true, free := true } s (followHolder h s) := by
  refine Keeps.start fun p s0 hp h => ?_
  unfold followHolder
  repeat' (first
    | ((with_reducible refine Parts.le_trans ?_ hp); exact rfl)
    | with_reducible assumption
    | (intro x; clear_value x)
    | lift_lets
    | with_reducible apply Keeps.via (keeps_matchRate _)
    | with_reducible apply Keeps.via (keeps_setPtpOfs _ _)
    | fail_if_no_progress ((with_reducible apply Keeps.upd hp) <;> [skip; (with_reducible rfl); (with_reducible rfl)]))

/-! ### Operations of Machine/Digital.lean -/

theorem keeps_endDiTest (c : Fin 192) (s : State) :
    Keeps { io := true } s (endDiTest c s) := by
  refine Keeps.start fun p s0 hp h => ?_
  unfold endDiTest
  repeat' (first
    | ((with_reducible refine Parts.le_trans ?_ hp); exact rfl)
    | with_reducible assumption
    | (intro x; clear_value x)
    | lift_lets
    | split
    | with_reducible apply Keeps.via (keeps_onAi _ _ _)
    | with_reducible apply Keeps.via (keeps_islResult _ _ _ _ _))

theorem keeps_diTerminalSample (c : Fin 192) (vterm : BitVec 16) (s : State) :
    Keeps { io := true } s (diTerminalSample c vterm s) := by
  refine Keeps.start fun p s0 hp h => ?_
  unfold diTerminalSample
  repeat' (first
    | ((with_reducible refine Parts.le_trans ?_ hp); exact rfl)
    | with_reducible assumption
    | (intro x; refine_lift have hx : Keeps p s0 x := ?_; ?_; on_goal 2 => unfold x; on_goal 1 => clear_value x)
    | (intro x; clear_value x)
    | lift_lets
    | split
    | with_reducible apply Keeps.via (keeps_onChan _ _ _)
    | with_reducible apply Keeps.via (keeps_onDi _ _ _)
    | with_reducible apply Keeps.via (keeps_endDiTest _ _))

theorem keeps_acceptEdge (c : Fin 192) (rising : Bool) (at_ : Nat) (s : State) :
    Keeps { io := true } s (acceptEdge c rising at_ s) := by
  refine Keeps.start fun p s0 hp h => ?_
  unfold acceptEdge
  repeat' (first
    | ((with_reducible refine Parts.le_trans ?_ hp); exact rfl)
    | with_reducible assumption
    | (intro x; refine_lift have hx : Keeps p s0 x := ?_; ?_; on_goal 2 => unfold x; on_goal 1 => clear_value x)
    | (intro x; clear_value x)
    | lift_lets
    | split
    | with_reducible apply Keeps.via (keeps_onDi _ _ _)
    | with_reducible apply Keeps.via (keeps_islEvent _ _ _))

theorem keeps_acceptState (c : Fin 192) (on : Bool) (s : State) :
    Keeps { io := true } s (acceptState c on s) := by
  refine Keeps.start fun p s0 hp h => ?_
  unfold acceptState
  repeat' (first
    | ((with_reducible refine Parts.le_trans ?_ hp); exact rfl)
    | with_reducible assumption
    | (intro x; refine_lift have hx : Keeps p s0 x := ?_; ?_; on_goal 2 => unfold x; on_goal 1 => clear_value x)
    | (intro x; clear_value x)
    | lift_lets
    | split
    | with_reducible apply Keeps.via (keeps_onDi _ _ _)
    | with_reducible apply Keeps.via (keeps_acceptEdge _ _ _ _))

theorem keeps_diFilterExpiry (c : Fin 192) (s : State) :
    Keeps { io := true } s (diFilterExpiry c s) := by
  refine Keeps.start fun p s0 hp h => ?_
  unfold diFilterExpiry
  repeat' (first
    | ((with_reducible refine Parts.le_trans ?_ hp); exact rfl)
    | with_reducible assumption
    | (intro x; clear_value x)
    | lift_lets
    | split
    | with_reducible apply Keeps.via (keeps_onDi _ _ _)
    | with_reducible apply Keeps.via (keeps_acceptState _ _ _))

theorem keeps_diWirebreakTimeout (c : Fin 192) (s : State) :
    Keeps { io := true } s (diWirebreakTimeout c s) := by
  refine Keeps.start fun p s0 hp h => ?_
  unfold diWirebreakTimeout
  repeat' (first
    | ((with_reducible refine Parts.le_trans ?_ hp); exact rfl)
    | with_reducible assumption
    | (intro x; clear_value x)
    | lift_lets
    | split
    | with_reducible apply Keeps.via (keeps_onDi _ _ _)
    | with_reducible apply Keeps.via (keeps_report _ _ _ _ _))

theorem keeps_presetCount (c : Fin 192) (v : W32) (at_ : Nat) (s : State) :
    Keeps { io := true } s (presetCount c v at_ s) := by
  refine Keeps.start fun p s0 hp h => ?_
  unfold presetCount
  repeat' (first
    | ((with_reducible refine Parts.le_trans ?_ hp); exact rfl)
    | with_reducible assumption
    | (intro x; clear_value x)
    | lift_lets
    | with_reducible apply Keeps.via (keeps_onDi _ _ _)
    | with_reducible apply Keeps.via (keeps_islResult _ _ _ _ _))

theorem keeps_doComplianceTimeout (c : Fin 192) (s : State) :
    Keeps { io := true } s (doComplianceTimeout c s) := by
  refine Keeps.start fun p s0 hp h => ?_
  unfold doComplianceTimeout
  repeat' (first
    | ((with_reducible refine Parts.le_trans ?_ hp); exact rfl)
    | with_reducible assumption
    | (intro x; clear_value x)
    | lift_lets
    | split
    | with_reducible apply Keeps.via (keeps_onDo _ _ _))

theorem keeps_doThermalShutdown (c : Fin 192) (temp : BitVec 16) (s : State) :
    Keeps { io := true } s (doThermalShutdown c temp s) := by
  refine Keeps.start fun p s0 hp h => ?_
  unfold doThermalShutdown
  repeat' (first
    | ((with_reducible refine Parts.le_trans ?_ hp); exact rfl)
    | with_reducible assumption
    | (intro x; refine_lift have hx : Keeps p s0 x := ?_; ?_; on_goal 2 => unfold x; on_goal 1 => clear_value x)
    | (intro x; clear_value x)
    | intro x
    | lift_lets
    | split
    | with_reducible apply Keeps.via (keeps_onDo _ _ _)
    | with_reducible apply Keeps.via (keeps_report _ _ _ _ _)
    | with_reducible apply keeps_overAll)

theorem keeps_doThermalRetry (c : Fin 192) (s : State) :
    Keeps { io := true } s (doThermalRetry c s) := by
  refine Keeps.start fun p s0 hp h => ?_
  unfold doThermalRetry
  repeat' (first
    | ((with_reducible refine Parts.le_trans ?_ hp); exact rfl)
    | with_reducible assumption
    | (intro x; clear_value x)
    | intro x
    | lift_lets
    | split
    | with_reducible apply Keeps.via (keeps_onDo _ _ _)
    | with_reducible apply Keeps.via (keeps_refreshDo _ _)
    | with_reducible apply keeps_overAll)

theorem keeps_doThermalClear (c : Fin 192) (temp : BitVec 16) (s : State) :
    Keeps { io := true } s (doThermalClear c temp s) := by
  refine Keeps.start fun p s0 hp h => ?_
  unfold doThermalClear
  repeat' (first
    | ((with_reducible refine Parts.le_trans ?_ hp); exact rfl)
    | with_reducible assumption
    | (intro x; clear_value x)
    | intro x
    | lift_lets
    | split
    | with_reducible apply Keeps.via (keeps_onDo _ _ _)
    | with_reducible apply Keeps.via (keeps_report _ _ _ _ _)
    | with_reducible apply keeps_overAll)

theorem keeps_doOpenLoadTimeout (c : Fin 192) (s : State) :
    Keeps { io := true } s (doOpenLoadTimeout c s) := by
  refine Keeps.start fun p s0 hp h => ?_
  unfold doOpenLoadTimeout
  repeat' (first
    | ((with_reducible refine Parts.le_trans ?_ hp); exact rfl)
    | with_reducible assumption
    | (intro x; clear_value x)
    | lift_lets
    | split
    | with_reducible apply Keeps.via (keeps_onDo _ _ _)
    | with_reducible apply Keeps.via (keeps_report _ _ _ _ _))

theorem keeps_doExtdriveTimeout (c : Fin 192) (s : State) :
    Keeps { io := true } s (doExtdriveTimeout c s) := by
  refine Keeps.start fun p s0 hp h => ?_
  unfold doExtdriveTimeout
  repeat' (first
    | ((with_reducible refine Parts.le_trans ?_ hp); exact rfl)
    | with_reducible assumption
    | (intro x; clear_value x)
    | lift_lets
    | split
    | with_reducible apply Keeps.via (keeps_onDo _ _ _)
    | with_reducible apply Keeps.via (keeps_report _ _ _ _ _))

theorem keeps_gangImbalanceTimeout (c : Fin 192) (s : State) :
    Keeps { io := true } s (gangImbalanceTimeout c s) := by
  refine Keeps.start fun p s0 hp h => ?_
  unfold gangImbalanceTimeout
  repeat' (first
    | ((with_reducible refine Parts.le_trans ?_ hp); exact rfl)
    | with_reducible assumption
    | (intro x; clear_value x)
    | lift_lets
    | split
    | with_reducible apply Keeps.via (keeps_onDo _ _ _)
    | with_reducible apply Keeps.via (keeps_report _ _ _ _ _))

theorem keeps_pwmPeriodStart (c : Fin 192) (s : State) :
    Keeps { io := true } s (pwmPeriodStart c s) := by
  refine Keeps.start fun p s0 hp h => ?_
  unfold pwmPeriodStart
  repeat' (first
    | ((with_reducible refine Parts.le_trans ?_ hp); exact rfl)
    | with_reducible assumption
    | (intro x; clear_value x)
    | lift_lets
    | split
    | with_reducible apply Keeps.via (keeps_onDo _ _ _)
    | with_reducible apply Keeps.via (keeps_switchGroup _ _ _))

theorem keeps_pwmOff (c : Fin 192) (s : State) :
    Keeps { io := true } s (pwmOff c s) := by
  refine Keeps.start fun p s0 hp h => ?_
  unfold pwmOff
  repeat' (first
    | ((with_reducible refine Parts.le_trans ?_ hp); exact rfl)
    | with_reducible assumption
    | (intro x; clear_value x)
    | lift_lets
    | split
    | with_reducible apply Keeps.via (keeps_switchGroup _ _ _))

theorem keeps_judgeField (v10 : Nat) (s : State) :
    Keeps { store := true, tel := true, evr := true } s (judgeField v10 s) := by
  refine Keeps.start fun p s0 hp h => ?_
  unfold judgeField
  repeat' (first
    | ((with_reducible refine Parts.le_trans ?_ hp); exact rfl)
    | with_reducible assumption
    | with_reducible apply Keeps.via (keeps_envJudge _ _ _ _ _))

theorem keeps_lplusMeasurement (n : Fin 24) (v10 : Nat) (s : State) :
    Keeps { store := true, io := true, tel := true, evr := true } s (lplusMeasurement n v10 s) := by
  refine Keeps.start fun p s0 hp h => ?_
  unfold lplusMeasurement
  repeat' (first
    | ((with_reducible refine Parts.le_trans ?_ hp); exact rfl)
    | with_reducible assumption
    | (intro x; refine_lift have hx : Keeps p s0 x := ?_; ?_; on_goal 2 => unfold x; on_goal 1 => clear_value x)
    | (intro x; clear_value x)
    | lift_lets
    | split
    | with_reducible apply Keeps.via (keeps_onSup _ _ _)
    | with_reducible apply Keeps.via (keeps_report _ _ _ _ _)
    | with_reducible apply Keeps.via (keeps_refreshOutputs _ _)
    | with_reducible apply Keeps.via (keeps_judgeField _ _))

theorem keeps_restoreSupply (n : Fin 24) (s : State) :
    Keeps { io := true } s (restoreSupply n s) := by
  refine Keeps.start fun p s0 hp h => ?_
  unfold restoreSupply
  repeat' (first
    | ((with_reducible refine Parts.le_trans ?_ hp); exact rfl)
    | with_reducible assumption
    | lift_lets
    | with_reducible apply Keeps.via (keeps_onSup _ _ _)
    | with_reducible apply Keeps.via (keeps_refreshOutputs _ _))

theorem keeps_lplusRestoreTimeout (n : Fin 24) (s : State) :
    Keeps { io := true } s (lplusRestoreTimeout n s) := by
  refine Keeps.start fun p s0 hp h => ?_
  unfold lplusRestoreTimeout
  repeat' (first
    | ((with_reducible refine Parts.le_trans ?_ hp); exact rfl)
    | with_reducible assumption
    | (intro x; clear_value x)
    | lift_lets
    | split
    | with_reducible apply Keeps.via (keeps_report _ _ _ _ _)
    | with_reducible apply Keeps.via (keeps_restoreSupply _ _))

theorem keeps_supplyRelease (n : Fin 24) (s : State) :
    Keeps { io := true } s (supplyRelease n s) := by
  refine Keeps.start fun p s0 hp h => ?_
  unfold supplyRelease
  repeat' (first
    | ((with_reducible refine Parts.le_trans ?_ hp); exact rfl)
    | with_reducible assumption
    | (intro x; clear_value x)
    | lift_lets
    | split
    | with_reducible apply Keeps.via (keeps_report _ _ _ _ _)
    | with_reducible apply Keeps.via (keeps_islResult _ _ _ _ _)
    | with_reducible apply Keeps.via (keeps_restoreSupply _ _))

/-! ### Operations of Machine/Islands.lean -/

theorem keeps_answerFrame (n : Fin 24) (f : DownFrame) (fault : Bool) (turn : Nat) (s : State) :
    Keeps { io := true } s (answerFrame n f fault turn s) := by
  refine Keeps.start fun p s0 hp h => ?_
  unfold answerFrame
  repeat' (first
    | ((with_reducible refine Parts.le_trans ?_ hp); exact rfl)
    | with_reducible assumption
    | (intro x; clear_value x)
    | lift_lets
    | with_reducible apply Keeps.via (keeps_onOwn _ _ _))

theorem keeps_islandCommand (cmd : ChanCmd) (at_ : Option Nat) (s : State) :
    Keeps { io := true } s (islandCommand cmd at_ s) := by
  refine Keeps.start fun p s0 hp h => ?_
  unfold islandCommand
  repeat' (first
    | ((with_reducible refine Parts.le_trans ?_ hp); exact rfl)
    | with_reducible assumption
    | intro x
    | lift_lets
    | split
    | with_reducible apply Keeps.via (keeps_islResult _ _ _ _ _)
    | with_reducible apply Keeps.via (keeps_startUrgent _ _)
    | with_reducible apply Keeps.via (keeps_startTest _ _ _ _)
    | with_reducible apply Keeps.via (keeps_startCal _ _)
    | with_reducible apply Keeps.via (keeps_calload _ _ _ _)
    | with_reducible apply Keeps.via (keeps_presetCount _ _ _ _)
    | with_reducible apply Keeps.via (keeps_supplyRelease _ _))

theorem keeps_reportDriven (n : Fin 24) (before : List (Fin 192)) (s : State) :
    Keeps { io := true } s (reportDriven n before s) := by
  refine Keeps.start fun p s0 hp h => ?_
  unfold reportDriven
  repeat' (first
    | ((with_reducible refine Parts.le_trans ?_ hp); exact rfl)
    | with_reducible assumption
    | (intro x; clear_value x)
    | lift_lets
    | split
    | with_reducible apply Keeps.via (keeps_report _ _ _ _ _))

theorem keeps_frameSafety (n : Fin 24) (f : DownFrame) (s : State) :
    Keeps { io := true } s (frameSafety n f s) := by
  refine Keeps.start fun p s0 hp h => ?_
  unfold frameSafety
  repeat' (first
    | ((with_reducible refine Parts.le_trans ?_ hp); exact rfl)
    | with_reducible assumption
    | lift_lets
    | split
    | with_reducible apply Keeps.via (keeps_onOwn _ _ _)
    | with_reducible apply Keeps.via (keeps_safeOutputs _ _))

theorem keeps_frameValues (n : Fin 24) (f : DownFrame) (s : State) :
    Keeps { io := true } s (frameValues n f s) := by
  refine Keeps.start fun p s0 hp h => ?_
  unfold frameValues
  repeat' (first
    | ((with_reducible refine Parts.le_trans ?_ hp); exact rfl)
    | with_reducible assumption
    | intro x
    | lift_lets
    | split
    | with_reducible apply Keeps.via (keeps_takeCommand _ _ _ _)
    | with_reducible apply keeps_overAll)

theorem keeps_frameActs (n : Fin 24) (f : DownFrame) (age : Nat) (s : State) :
    Keeps { io := true } s (frameActs n f age s) := by
  refine Keeps.start fun p s0 hp h => ?_
  unfold frameActs
  repeat' (first
    | ((with_reducible refine Parts.le_trans ?_ hp); exact rfl)
    | with_reducible assumption
    | (intro x; refine_lift have hx : Keeps p s0 x := ?_; ?_; on_goal 2 => unfold x; on_goal 1 => clear_value x)
    | (intro x; clear_value x)
    | lift_lets
    | split
    | with_reducible apply Keeps.via (keeps_onOwn _ _ _)
    | with_reducible apply Keeps.via (keeps_refreshOutputs _ _)
    | with_reducible apply Keeps.via (keeps_configureIsland _ _)
    | with_reducible apply Keeps.via (keeps_islandCommand _ _ _)
    | with_reducible apply Keeps.via (keeps_reportDriven _ _ _)
    | with_reducible apply Keeps.via (keeps_frameSafety _ _ _)
    | with_reducible apply Keeps.via (keeps_frameValues _ _ _))

theorem keeps_logicSilenceTimeout (n : Fin 24) (s : State) :
    Keeps { io := true } s (logicSilenceTimeout n s) := by
  refine Keeps.start fun p s0 hp h => ?_
  unfold logicSilenceTimeout
  repeat' (first
    | ((with_reducible refine Parts.le_trans ?_ hp); exact rfl)
    | with_reducible assumption
    | (intro x; clear_value x)
    | lift_lets
    | split
    | with_reducible apply Keeps.via (keeps_onOwn _ _ _)
    | with_reducible apply Keeps.via (keeps_report _ _ _ _ _)
    | with_reducible apply Keeps.via (keeps_safeOutputs _ _))

theorem keeps_islandFrameAccept (n : Fin 24) (crcOk fault : Bool) (arrival : Nat) (s : State) :
    Keeps { io := true } s (islandFrameAccept n crcOk fault arrival s) := by
  refine Keeps.start fun p s0 hp h => ?_
  unfold islandFrameAccept
  repeat' (first
    | ((with_reducible refine Parts.le_trans ?_ hp); exact rfl)
    | with_reducible assumption
    | (intro x; refine_lift have hx : Keeps p s0 x := ?_; ?_; on_goal 2 => unfold x; on_goal 1 => clear_value x)
    | lift_lets
    | split
    | with_reducible apply Keeps.via (keeps_onOwn _ _ _)
    | with_reducible apply Keeps.via (keeps_answerFrame _ _ _ _ _)
    | with_reducible apply Keeps.via (keeps_frameActs _ _ _ _)
    | with_reducible apply Keeps.via (keeps_logicSilenceTimeout _ _))

theorem keeps_islandVbMeasurement (n : Fin 24) (mV : Nat) (temp : BitVec 16) (s : State) :
    Keeps { io := true } s (islandVbMeasurement n mV temp s) := by
  refine Keeps.start fun p s0 hp h => ?_
  unfold islandVbMeasurement
  repeat' (first
    | ((with_reducible refine Parts.le_trans ?_ hp); exact rfl)
    | with_reducible assumption
    | (intro x; refine_lift have hx : Keeps p s0 x := ?_; ?_; on_goal 2 => unfold x; on_goal 1 => clear_value x)
    | (intro x; clear_value x)
    | lift_lets
    | split
    | with_reducible apply Keeps.via (keeps_onOwn _ _ _)
    | with_reducible apply Keeps.via (keeps_report _ _ _ _ _)
    | with_reducible apply Keeps.via (keeps_resetIsland _ _))

theorem keeps_endCalibrate (s : State) :
    Keeps { ses := true, evr := true, lcd := true, mod := true } s (endCalibrate s) := by
  refine Keeps.start fun p s0 hp h => ?_
  unfold endCalibrate
  repeat' (first
    | ((with_reducible refine Parts.le_trans ?_ hp); exact rfl)
    | with_reducible assumption
    | split
    | with_reducible apply Keeps.via (keeps_enterState _ _ _ _))

theorem keeps_judgeMissing (n : Fin 24) (s : State) :
    Keeps { laneA := true, laneB := true, lsk := true, pair := true, mir := true, io := true, ses := true, evr := true, out := true } s (judgeMissing n s) := by
  refine Keeps.start fun p s0 hp h => ?_
  unfold judgeMissing
  repeat' (first
    | ((with_reducible refine Parts.le_trans ?_ hp); exact rfl)
    | with_reducible assumption
    | (intro x; refine_lift have hx : Keeps p s0 x := ?_; ?_; on_goal 2 => unfold x; on_goal 1 => clear_value x)
    | (intro x; clear_value x)
    | lift_lets
    | split
    | with_reducible apply Keeps.via (keeps_onIsl _ _ _)
    | with_reducible apply Keeps.via (keeps_onIslStats _ _ _)
    | with_reducible apply Keeps.via (keeps_islandOut _ _ _))

theorem keeps_markPlaced (n : Fin 24) (s : State) :
    Keeps { io := true } s (markPlaced n s) := by
  refine Keeps.start fun p s0 hp h => ?_
  unfold markPlaced
  repeat' (first
    | ((with_reducible refine Parts.le_trans ?_ hp); exact rfl)
    | with_reducible assumption
    | (intro x; refine_lift have hx : Keeps p s0 x := ?_; ?_; on_goal 2 => unfold x; on_goal 1 => clear_value x)
    | lift_lets
    | split
    | with_reducible apply Keeps.via (keeps_onChan _ _ _)
    | with_reducible apply Keeps.via (keeps_onIsl _ _ _))

theorem keeps_sendFord (n : Fin 24) (s : State) :
    Keeps { laneA := true, laneB := true, lsk := true, pair := true, mir := true, io := true, ses := true, evr := true, out := true } s (sendFord n s) := by
  refine Keeps.start fun p s0 hp h => ?_
  unfold sendFord
  repeat' (first
    | ((with_reducible refine Parts.le_trans ?_ hp); exact rfl)
    | with_reducible assumption
    | (intro x; refine_lift have hx : Keeps p s0 x := ?_; ?_; on_goal 2 => unfold x; on_goal 1 => clear_value x)
    | (intro x; clear_value x)
    | intro x
    | lift_lets
    | split
    | with_reducible apply Keeps.via (keeps_emit _ _)
    | with_reducible apply Keeps.via (keeps_countUnchecked _ _ _)
    | with_reducible apply Keeps.via (keeps_onChan _ _ _)
    | with_reducible apply Keeps.via (keeps_onIsl _ _ _)
    | with_reducible apply Keeps.via (keeps_onOwn _ _ _)
    | with_reducible apply Keeps.via (keeps_judgeMissing _ _)
    | with_reducible apply Keeps.via (keeps_markPlaced _ _)
    | with_reducible apply keeps_overAll)

theorem keeps_fordPeriod (s : State) :
    Keeps { laneA := true, laneB := true, lsk := true, pair := true, mir := true, io := true, ses := true, evr := true, lcd := true, mod := true, out := true } s (fordPeriod s) := by
  refine Keeps.start fun p s0 hp h => ?_
  unfold fordPeriod
  repeat' (first
    | ((with_reducible refine Parts.le_trans ?_ hp); exact rfl)
    | with_reducible assumption
    | (intro x; refine_lift have hx : Keeps p s0 x := ?_; ?_; on_goal 2 => unfold x; on_goal 1 => clear_value x)
    | (intro x; clear_value x)
    | intro x
    | lift_lets
    | split
    | with_reducible apply Keeps.via (keeps_endCalibrate _)
    | with_reducible apply Keeps.via (keeps_sendFord _ _)
    | with_reducible apply keeps_overAll
    | fail_if_no_progress ((with_reducible apply Keeps.upd hp) <;> [skip; (with_reducible rfl); (with_reducible rfl)]))

theorem keeps_enterService (n : Fin 24) (s : State) :
    Keeps { laneA := true, laneB := true, lsk := true, pair := true, io := true, ses := true, evr := true, out := true } s (enterService n s) := by
  refine Keeps.start fun p s0 hp h => ?_
  unfold enterService
  repeat' (first
    | ((with_reducible refine Parts.le_trans ?_ hp); exact rfl)
    | with_reducible assumption
    | (intro x; refine_lift have hx : Keeps p s0 x := ?_; ?_; on_goal 2 => unfold x; on_goal 1 => clear_value x)
    | (intro x; clear_value x)
    | lift_lets
    | split
    | with_reducible apply Keeps.via (keeps_logEv _ _ _ _)
    | with_reducible apply Keeps.via (keeps_onIsl _ _ _)
    | with_reducible apply Keeps.via (keeps_endCmd _ _ _ _))

theorem keeps_noteRestart (n : Fin 24) (s : State) :
    Keeps { io := true } s (noteRestart n s) := by
  refine Keeps.start fun p s0 hp h => ?_
  unfold noteRestart
  repeat' (first
    | ((with_reducible refine Parts.le_trans ?_ hp); exact rfl)
    | with_reducible assumption
    | split
    | with_reducible apply Keeps.via (keeps_onIsl _ _ _))

theorem keeps_islandAfter (n : Fin 24) (u : UpFrame) (s : State) :
    Keeps { laneA := true, laneB := true, lsk := true, pair := true, mir := true, io := true, ses := true, evr := true, out := true } s (islandAfter n u s) := by
  refine Keeps.start fun p s0 hp h => ?_
  unfold islandAfter
  repeat' (first
    | ((with_reducible refine Parts.le_trans ?_ hp); exact rfl)
    | with_reducible assumption
    | (intro x; refine_lift have hx : Keeps p s0 x := ?_; ?_; on_goal 2 => unfold x; on_goal 1 => clear_value x)
    | lift_lets
    | split
    | with_reducible apply Keeps.via (keeps_onIsl _ _ _)
    | with_reducible apply Keeps.via (keeps_islandOut _ _ _)
    | with_reducible apply Keeps.via (keeps_enterService _ _)
    | with_reducible apply Keeps.via (keeps_noteRestart _ _))

theorem keeps_logReport (n : Fin 24) (r : IslReport) (s : State) :
    Keeps { evr := true } s (logReport n r s) := by
  refine Keeps.start fun p s0 hp h => ?_
  unfold logReport
  repeat' (first
    | ((with_reducible refine Parts.le_trans ?_ hp); exact rfl)
    | with_reducible assumption
    | (intro x; clear_value x)
    | lift_lets
    | split
    | with_reducible apply Keeps.via (keeps_logEv _ _ _ _))

theorem keeps_hubEvent (e : IslEvent) (s : State) :
    Keeps { tsk := true, io := true } s (hubEvent e s) := by
  refine Keeps.start fun p s0 hp h => ?_
  unfold hubEvent
  repeat' (first
    | ((with_reducible refine Parts.le_trans ?_ hp); exact rfl)
    | with_reducible assumption
    | (intro x; refine_lift have hx : Keeps p s0 x := ?_; ?_; on_goal 2 => unfold x; on_goal 1 => clear_value x)
    | (intro x; clear_value x)
    | lift_lets
    | split
    | with_reducible apply Keeps.via (keeps_triggerMatch _ _ _ _ _ _ _)
    | with_reducible apply Keeps.via (keeps_onChan _ _ _))

theorem keeps_urgentDone (k : Fin 8) (c : Fin 192) (s : State) :
    Keeps { laneA := true, laneB := true, lsk := true, pair := true, io := true, out := true } s (urgentDone k c s) := by
  refine Keeps.start fun p s0 hp h => ?_
  unfold urgentDone
  repeat' (first
    | ((with_reducible refine Parts.le_trans ?_ hp); exact rfl)
    | with_reducible assumption
    | (intro x; refine_lift have hx : Keeps p s0 x := ?_; ?_; on_goal 2 => unfold x; on_goal 1 => clear_value x)
    | (intro x; clear_value x)
    | lift_lets
    | split
    | with_reducible apply Keeps.via (keeps_saddle _ _)
    | with_reducible apply Keeps.via (keeps_onAi _ _ _)
    | with_reducible apply Keeps.via (keeps_serviceReturn _ _ _))

theorem keeps_chanResult (c : Fin 192) (res detail : Nat) (s : State) :
    Keeps { laneA := true, laneB := true, lsk := true, pair := true, io := true, ses := true, evr := true, out := true } s (chanResult c res detail s) := by
  refine Keeps.start fun p s0 hp h => ?_
  unfold chanResult
  repeat' (first
    | ((with_reducible refine Parts.le_trans ?_ hp); exact rfl)
    | with_reducible assumption
    | (intro x; refine_lift have hx : Keeps p s0 x := ?_; ?_; on_goal 2 => unfold x; on_goal 1 => clear_value x)
    | lift_lets
    | split
    | with_reducible apply Keeps.via (keeps_logEv _ _ _ _)
    | with_reducible apply Keeps.via (keeps_onChan _ _ _)
    | with_reducible apply Keeps.via (keeps_onAi _ _ _)
    | with_reducible apply Keeps.via (keeps_endCmd _ _ _ _)
    | with_reducible apply Keeps.via (keeps_urgentDone _ _ _))

theorem keeps_islandResult (n : Fin 24) (res detail : Nat) (s : State) :
    Keeps { laneA := true, laneB := true, lsk := true, pair := true, io := true, ses := true, out := true } s (islandResult n res detail s) := by
  refine Keeps.start fun p s0 hp h => ?_
  unfold islandResult
  repeat' (first
    | ((with_reducible refine Parts.le_trans ?_ hp); exact rfl)
    | with_reducible assumption
    | (intro x; refine_lift have hx : Keeps p s0 x := ?_; ?_; on_goal 2 => unfold x; on_goal 1 => clear_value x)
    | split
    | lift_lets
    | with_reducible apply Keeps.via (keeps_onIsl _ _ _)
    | with_reducible apply Keeps.via (keeps_endCmd _ _ _ _))

theorem keeps_takeReadings (n : Fin 24) (u : UpFrame) (s : State) :
    Keeps { io := true } s (takeReadings n u s) := by
  refine Keeps.start fun p s0 hp h => ?_
  unfold takeReadings
  repeat' (first
    | ((with_reducible refine Parts.le_trans ?_ hp); exact rfl)
    | with_reducible assumption
    | intro x
    | lift_lets
    | split
    | with_reducible apply Keeps.via (keeps_onChan _ _ _)
    | with_reducible apply keeps_overAll)

theorem keeps_confirmReleased (s : State) :
    Keeps { lsk := true, pair := true, lease := true, out := true } s (confirmReleased s) := by
  refine Keeps.start fun p s0 hp h => ?_
  unfold confirmReleased
  repeat' (first
    | ((with_reducible refine Parts.le_trans ?_ hp); exact rfl)
    | with_reducible assumption
    | (intro x; clear_value x)
    | lift_lets
    | split
    | with_reducible apply Keeps.via (keeps_saddle _ _)
    | fail_if_no_progress ((with_reducible apply Keeps.upd hp) <;> [skip; (with_reducible rfl); (with_reducible rfl)]))

theorem keeps_takeReturn (n : Fin 24) (u : UpFrame) (s : State) :
    Keeps { tbAcc := true, tsk := true, laneA := true, laneB := true, lsk := true, pair := true, lease := true, mir := true, io := true, ses := true, evr := true, lcd := true, mod := true, out := true } s (takeReturn n u s) := by
  refine Keeps.start fun p s0 hp h => ?_
  unfold takeReturn
  repeat' (first
    | ((with_reducible refine Parts.le_trans ?_ hp); exact rfl)
    | with_reducible assumption
    | (intro x; refine_lift have hx : Keeps p s0 x := ?_; ?_; on_goal 2 => unfold x; on_goal 1 => clear_value x)
    | (intro x; clear_value x)
    | intro x
    | lift_lets
    | split
    | with_reducible apply Keeps.via (keeps_onIsl _ _ _)
    | with_reducible apply Keeps.via (keeps_onOwn _ _ _)
    | with_reducible apply Keeps.via (keeps_onIslStats _ _ _)
    | with_reducible apply Keeps.via (keeps_endCalibrate _)
    | with_reducible apply Keeps.via (keeps_islandAfter _ _ _)
    | with_reducible apply Keeps.via (keeps_logReport _ _ _)
    | with_reducible apply Keeps.via (keeps_hubEvent _ _)
    | with_reducible apply Keeps.via (keeps_chanResult _ _ _ _)
    | with_reducible apply Keeps.via (keeps_islandResult _ _ _ _)
    | with_reducible apply Keeps.via (keeps_takeReadings _ _ _)
    | with_reducible apply Keeps.via (keeps_confirmReleased _)
    | with_reducible apply keeps_overAll
    | fail_if_no_progress ((with_reducible apply Keeps.upd hp) <;> [skip; (with_reducible rfl); (with_reducible rfl)]))

theorem keeps_fordReturnFrame (n : Fin 24) (crcOk : Bool) (s : State) :
    Keeps { tbAcc := true, tsk := true, laneA := true, laneB := true, lsk := true, pair := true, lease := true, mir := true, io := true, ses := true, evr := true, lcd := true, mod := true, out := true } s (fordReturnFrame n crcOk s) := by
  refine Keeps.start fun p s0 hp h => ?_
  unfold fordReturnFrame
  repeat' (first
    | ((with_reducible refine Parts.le_trans ?_ hp); exact rfl)
    | with_reducible assumption
    | (intro x; refine_lift have hx : Keeps p s0 x := ?_; ?_; on_goal 2 => unfold x; on_goal 1 => clear_value x)
    | lift_lets
    | split
    | with_reducible apply Keeps.via (keeps_onOwn _ _ _)
    | with_reducible apply Keeps.via (keeps_onIslStats _ _ _)
    | with_reducible apply Keeps.via (keeps_takeReturn _ _ _))

theorem keeps_countDrop (cmd : ChanCmd) (s : State) :
    Keeps { io := true } s (countDrop cmd s) := by
  refine Keeps.start fun p s0 hp h => ?_
  unfold countDrop
  repeat' (first
    | ((with_reducible refine Parts.le_trans ?_ hp); exact rfl)
    | with_reducible assumption
    | split
    | with_reducible apply Keeps.via (keeps_onAi _ _ _))

theorem keeps_hostCmd (cmd : ChanCmd) (q : Req) (s : State) :
    Keeps { lsk := true, pair := true, mir := true, io := true, ses := true, out := true } s (hostCmd cmd q s) := by
  refine Keeps.start fun p s0 hp h => ?_
  unfold hostCmd
  repeat' (first
    | ((with_reducible refine Parts.le_trans ?_ hp); exact rfl)
    | with_reducible assumption
    | (intro x; clear_value x)
    | lift_lets
    | split
    | with_reducible apply Keeps.of_snd (by assumption)
    | with_reducible apply Keeps.via (keeps_saddle _ _)
    | with_reducible apply Keeps.via (keeps_freshId _)
    | with_reducible apply Keeps.via (keeps_answer _ _ _ _)
    | with_reducible apply Keeps.via (keeps_oweOn _ _ _ _)
    | with_reducible apply Keeps.via (keeps_countDrop _ _)
    | fail_if_no_progress ((with_reducible apply Keeps.upd hp) <;> [skip; (with_reducible rfl); (with_reducible rfl)]))

theorem keeps_converterOff (n : Fin 24) (a : CmdAsker) (s : State) :
    Keeps { laneA := true, laneB := true, lsk := true, pair := true, mir := true, io := true, ses := true, evr := true, out := true } s (converterOff n a s) := by
  refine Keeps.start fun p s0 hp h => ?_
  unfold converterOff
  repeat' (first
    | ((with_reducible refine Parts.le_trans ?_ hp); exact rfl)
    | with_reducible assumption
    | (intro x; refine_lift have hx : Keeps p s0 x := ?_; ?_; on_goal 2 => unfold x; on_goal 1 => clear_value x)
    | lift_lets
    | split
    | with_reducible apply Keeps.via (keeps_onIsl _ _ _)
    | with_reducible apply Keeps.via (keeps_resetIsland _ _)
    | with_reducible apply Keeps.via (keeps_endCmd _ _ _ _)
    | with_reducible apply Keeps.via (keeps_islandOut _ _ _))

theorem keeps_placeCmd (w : WaitCmd) (s : State) :
    Keeps { laneA := true, laneB := true, lsk := true, pair := true, mir := true, io := true, ses := true, evr := true, out := true } s (placeCmd w s) := by
  refine Keeps.start fun p s0 hp h => ?_
  unfold placeCmd
  repeat' (first
    | ((with_reducible refine Parts.le_trans ?_ hp); exact rfl)
    | with_reducible assumption
    | intro x
    | lift_lets
    | split
    | with_reducible apply Keeps.via (keeps_onChan _ _ _)
    | with_reducible apply Keeps.via (keeps_onIsl _ _ _)
    | with_reducible apply Keeps.via (keeps_endCmd _ _ _ _)
    | with_reducible apply Keeps.via (keeps_converterOff _ _ _))

theorem keeps_channelCommandActivation (s : State) :
    Keeps { laneA := true, laneB := true, lsk := true, pair := true, mir := true, io := true, ses := true, evr := true, out := true } s (channelCommandActivation s) := by
  refine Keeps.start fun p s0 hp h => ?_
  unfold channelCommandActivation
  repeat' (first
    | ((with_reducible refine Parts.le_trans ?_ hp); exact rfl)
    | with_reducible assumption
    | (intro x; clear_value x)
    | intro x
    | lift_lets
    | with_reducible apply Keeps.via (keeps_placeCmd _ _)
    | with_reducible apply keeps_overAll
    | fail_if_no_progress ((with_reducible apply Keeps.upd hp) <;> [skip; (with_reducible rfl); (with_reducible rfl)]))

theorem keeps_channelCommandForwardReceive (id : Nat) (cmd : ChanCmd) (at_ : Nat) (s : State) :
    Keeps { laneA := true, laneB := true, lsk := true, pair := true, mir := true, io := true, ses := true, evr := true, out := true } s (channelCommandForwardReceive id cmd at_ s) := by
  refine Keeps.start fun p s0 hp h => ?_
  unfold channelCommandForwardReceive
  repeat' (first
    | ((with_reducible refine Parts.le_trans ?_ hp); exact rfl)
    | with_reducible assumption
    | (intro x; refine_lift have hx : Keeps p s0 x := ?_; ?_; on_goal 2 => unfold x; on_goal 1 => clear_value x)
    | (intro x; clear_value x)
    | lift_lets
    | split
    | with_reducible apply Keeps.via (keeps_saddle _ _)
    | with_reducible apply Keeps.via (keeps_logEv _ _ _ _)
    | with_reducible apply Keeps.via (keeps_onIslStats _ _ _)
    | with_reducible apply Keeps.via (keeps_placeCmd _ _)
    | fail_if_no_progress ((with_reducible apply Keeps.upd hp) <;> [skip; (with_reducible rfl); (with_reducible rfl)]))

theorem keeps_startIsland (n : Fin 24) (s : State) :
    Keeps { io := true } s (startIsland n s) := by
  refine Keeps.start fun p s0 hp h => ?_
  unfold startIsland
  repeat' (first
    | ((with_reducible refine Parts.le_trans ?_ hp); exact rfl)
    | with_reducible assumption
    | lift_lets
    | with_reducible apply Keeps.via (keeps_onIsl _ _ _)
    | with_reducible apply Keeps.via (keeps_resetIsland _ _))

theorem keeps_islandRestartPowerOn (n : Fin 24) (s : State) :
    Keeps { io := true } s (islandRestartPowerOn n s) := by
  refine Keeps.start fun p s0 hp h => ?_
  unfold islandRestartPowerOn
  repeat' (first
    | ((with_reducible refine Parts.le_trans ?_ hp); exact rfl)
    | with_reducible assumption
    | lift_lets
    | split
    | with_reducible apply Keeps.via (keeps_noteRestart _ _)
    | with_reducible apply Keeps.via (keeps_startIsland _ _))

theorem keeps_serviceCmd (k : Fin 8) (svc : Nat) (cmd : ChanCmd) (s : State) :
    Keeps { laneA := true, laneB := true, lsk := true, pair := true, io := true, ses := true, out := true } s (serviceCmd k svc cmd s) := by
  refine Keeps.start fun p s0 hp h => ?_
  unfold serviceCmd
  repeat' (first
    | ((with_reducible refine Parts.le_trans ?_ hp); exact rfl)
    | with_reducible assumption
    | (intro x; refine_lift have hx : Keeps p s0 x := ?_; ?_; on_goal 2 => unfold x; on_goal 1 => clear_value x)
    | lift_lets
    | split
    | with_reducible apply Keeps.via (keeps_onChan _ _ _)
    | with_reducible apply Keeps.via (keeps_onAi _ _ _)
    | with_reducible apply Keeps.via (keeps_endCmd _ _ _ _)
    | with_reducible apply Keeps.via (keeps_countDrop _ _))

theorem keeps_urgentResultReceive (c : Fin 192) (value : W64) (s : State) :
    Keeps { laneA := true, laneB := true, lsk := true, io := true, out := true } s (urgentResultReceive c value s) := by
  refine Keeps.start fun p s0 hp h => ?_
  unfold urgentResultReceive
  repeat' (first
    | ((with_reducible refine Parts.le_trans ?_ hp); exact rfl)
    | with_reducible assumption
    | lift_lets
    | split
    | with_reducible apply Keeps.via (keeps_onAi _ _ _)
    | with_reducible apply Keeps.via (keeps_serviceReturn _ _ _))

theorem keeps_urgentResultTimeout (c : Fin 192) (s : State) :
    Keeps { laneA := true, laneB := true, lsk := true, io := true, out := true } s (urgentResultTimeout c s) := by
  refine Keeps.start fun p s0 hp h => ?_
  unfold urgentResultTimeout
  repeat' (first
    | ((with_reducible refine Parts.le_trans ?_ hp); exact rfl)
    | with_reducible assumption
    | (intro x; clear_value x)
    | lift_lets
    | split
    | with_reducible apply Keeps.via (keeps_onAi _ _ _)
    | with_reducible apply Keeps.via (keeps_serviceReturn _ _ _))

/-! ### Operations of Machine/Memory.lean -/

theorem keeps_memoryScrub (chk : MemCheck) (s : State) :
    Keeps { store := true, tsk := true, img := true, lsk := true, pair := true, lease := true, mir := true, links := true, io := true, can := true, ses := true, pwr := true, tel := true, evr := true, lcd := true, mod := true, out := true, free := true } s (memoryScrub chk s) := by
  refine Keeps.start fun p s0 hp h => ?_
  unfold memoryScrub
  repeat' (first
    | ((with_reducible refine Parts.le_trans ?_ hp); exact rfl)
    | with_reducible assumption
    | intro (x : MemState)
    | lift_lets
    | split
    | with_reducible apply Keeps.via (keeps_memCheck _ _)
    | fail_if_no_progress ((with_reducible apply Keeps.upd hp) <;> [skip; (with_reducible rfl); (with_reducible rfl)]))

theorem keeps_dropRevoked (fp : W256) (s : State) :
    Keeps { cells := true, tbAcc := true, tbLat := true, tsk := true, img := true, frc := true, laneA := true, laneB := true, lsk := true, pair := true, mir := true, links := true, io := true, can := true, ses := true, tel := true, evr := true, lcd := true, out := true } s (dropRevoked fp s) := by
  refine Keeps.start fun p s0 hp h => ?_
  unfold dropRevoked
  repeat' (first
    | ((with_reducible refine Parts.le_trans ?_ hp); exact rfl)
    | with_reducible assumption
    | (intro x; refine_lift have hx : Keeps p s0 x := ?_; ?_; on_goal 2 => unfold x; on_goal 1 => clear_value x)
    | intro (x : Img)
    | (intro x; clear_value x)
    | lift_lets
    | split
    | with_reducible apply Keeps.via (keeps_imgFail _ _ _ _ _)
    | with_reducible apply Keeps.via (keeps_endChange _ _)
    | with_reducible apply Keeps.via (keeps_releaseHolds _)
    | fail_if_no_progress ((with_reducible apply Keeps.upd hp) <;> [skip; (with_reducible rfl); (with_reducible rfl)]))

theorem keeps_logKey (stmt : List Byte) (se : Nat) (cause : Option Nat) (s : State) :
    Keeps { evr := true } s (logKey stmt se cause s) := by
  refine Keeps.start fun p s0 hp h => ?_
  unfold logKey
  repeat' (first
    | ((with_reducible refine Parts.le_trans ?_ hp); exact rfl)
    | with_reducible assumption
    | (intro x; clear_value x)
    | lift_lets
    | split
    | with_reducible apply Keeps.via (keeps_logEv _ _ _ _))

theorem keeps_enrolKeyInstalled (s : State) :
    Keeps { ses := true, evr := true, lcd := true } s (enrolKeyInstalled s) := by
  refine Keeps.start fun p s0 hp h => ?_
  unfold enrolKeyInstalled
  repeat' (first
    | ((with_reducible refine Parts.le_trans ?_ hp); exact rfl)
    | with_reducible assumption
    | (intro x; clear_value x)
    | lift_lets
    | split
    | with_reducible apply Keeps.via (keeps_logEv _ _ _ _)
    | with_reducible apply Keeps.via (keeps_showModule _)
    | fail_if_no_progress ((with_reducible apply Keeps.upd hp) <;> [skip; (with_reducible rfl); (with_reducible rfl)]))

theorem keeps_takeKeys (keys : List KeySlot) (revoked : List W256) (s : State) :
    Keeps { keys := true, ses := true, evr := true, lcd := true } s (takeKeys keys revoked s) := by
  refine Keeps.start fun p s0 hp h => ?_
  unfold takeKeys
  repeat' (first
    | ((with_reducible refine Parts.le_trans ?_ hp); exact rfl)
    | with_reducible assumption
    | (intro x; refine_lift have hx : Keeps p s0 x := ?_; ?_; on_goal 2 => unfold x; on_goal 1 => clear_value x)
    | intro (x : Img)
    | (intro x; clear_value x)
    | lift_lets
    | split
    | with_reducible apply Keeps.via (keeps_enrolKeyInstalled _)
    | fail_if_no_progress ((with_reducible apply Keeps.upd hp) <;> [skip; (with_reducible rfl); (with_reducible rfl)]))

theorem keeps_afterWrite (act : PAct) (ok : Bool) (s : State) :
    Keeps { cells := true, tbAcc := true, tbLat := true, tsk := true, img := true, frc := true, laneA := true, laneB := true, lsk := true, pair := true, mir := true, links := true, io := true, can := true, ses := true, tel := true, evr := true, lcd := true, out := true } s (afterWrite act ok s) := by
  refine Keeps.start fun p s0 hp h => ?_
  unfold afterWrite
  repeat' (first
    | ((with_reducible refine Parts.le_trans ?_ hp); exact rfl)
    | with_reducible assumption
    | (intro x; refine_lift have hx : Keeps p s0 x := ?_; ?_; on_goal 2 => unfold x; on_goal 1 => clear_value x)
    | lift_lets
    | split
    | with_reducible apply Keeps.of_snd (by assumption)
    | with_reducible apply Keeps.via (keeps_saddle _ _)
    | with_reducible apply Keeps.via (keeps_freshId _)
    | with_reducible apply Keeps.via (keeps_reply _ _ _ _ _ _)
    | with_reducible apply Keeps.via (keeps_oweOn _ _ _ _)
    | with_reducible apply Keeps.via (keeps_dropRevoked _ _)
    | with_reducible apply Keeps.via (keeps_logKey _ _ _ _))

theorem keeps_takeStored (v : PValue) (s : State) :
    Keeps { keys := true, ses := true, evr := true, lcd := true } s (takeStored v s) := by
  refine Keeps.start fun p s0 hp h => ?_
  unfold takeStored
  repeat' (first
    | ((with_reducible refine Parts.le_trans ?_ hp); exact rfl)
    | with_reducible assumption
    | split
    | with_reducible apply Keeps.via (keeps_takeKeys _ _ _))

theorem keeps_persistentWriteReadback (ok : Bool) (s : State) :
    Keeps { cells := true, store := true, tbAcc := true, tbLat := true, tsk := true, img := true, keys := true, frc := true, laneA := true, laneB := true, lsk := true, pair := true, mir := true, links := true, io := true, can := true, ses := true, tel := true, evr := true, lcd := true, out := true } s (persistentWriteReadback ok s) := by
  refine Keeps.start fun p s0 hp h => ?_
  unfold persistentWriteReadback
  repeat' (first
    | ((with_reducible refine Parts.le_trans ?_ hp); exact rfl)
    | with_reducible assumption
    | (intro x; refine_lift have hx : Keeps p s0 x := ?_; ?_; on_goal 2 => unfold x; on_goal 1 => clear_value x)
    | intro (x : MemState)
    | (intro x; clear_value x)
    | lift_lets
    | split
    | with_reducible apply Keeps.via (keeps_logEv _ _ _ _)
    | with_reducible apply Keeps.via (keeps_afterWrite _ _ _)
    | with_reducible apply Keeps.via (keeps_takeStored _ _)
    | fail_if_no_progress ((with_reducible apply Keeps.upd hp) <;> [skip; (with_reducible rfl); (with_reducible rfl)]))

theorem keeps_writeKeys (stmt : List Byte) (act : PAct) (s : State) :
    Keeps { store := true } s (writeKeys stmt act s) := by
  refine Keeps.start fun p s0 hp h => ?_
  unfold writeKeys
  repeat' (first
    | ((with_reducible refine Parts.le_trans ?_ hp); exact rfl)
    | with_reducible assumption
    | split
    | with_reducible apply Keeps.via (keeps_persist _ _ _))

theorem keeps_keyService (se : Fin 64) (tag : W32) (stmt sig : List Byte) (maint : Bool) (s : State) :
    Keeps { store := true, evr := true, out := true } s (keyService se tag stmt sig maint s) := by
  refine Keeps.start fun p s0 hp h => ?_
  unfold keyService
  repeat' (first
    | ((with_reducible refine Parts.le_trans ?_ hp); exact rfl)
    | with_reducible assumption
    | lift_lets
    | split
    | with_reducible apply Keeps.via (keeps_reply _ _ _ _ _ _)
    | with_reducible apply Keeps.via (keeps_logKey _ _ _ _)
    | with_reducible apply Keeps.via (keeps_writeKeys _ _ _))

theorem keeps_keyOpForward (id : Nat) (stmt : List Byte) (s : State) :
    Keeps { store := true } s (keyOpForward id stmt s) := by
  refine Keeps.start fun p s0 hp h => ?_
  unfold keyOpForward
  repeat' (first
    | ((with_reducible refine Parts.le_trans ?_ hp); exact rfl)
    | with_reducible assumption
    | split
    | with_reducible apply Keeps.via (keeps_writeKeys _ _ _))

/-! ### Operations of Machine/Image.lean -/

theorem keeps_setSlot (n : Fin 4) (x : ImgSlot) (s : State) :
    Keeps { img := true } s (setSlot n x s) := by
  refine Keeps.start fun p s0 hp h => ?_
  unfold setSlot
  repeat' (first
    | with_reducible assumption
    | intro (x : Img)
    | lift_lets
    | fail_if_no_progress ((with_reducible apply Keeps.upd hp) <;> [skip; (with_reducible rfl); (with_reducible rfl)]))

theorem keeps_storeIdle (ok : Bool) (s : State) :
    Keeps { img := true } s (storeIdle ok s) := by
  refine Keeps.start fun p s0 hp h => ?_
  unfold storeIdle
  repeat' (first
    | ((with_reducible refine Parts.le_trans ?_ hp); exact rfl)
    | with_reducible assumption
    | split
    | with_reducible apply Keeps.via (keeps_setSlot _ _ _))

theorem keeps_discardIdle (st : IdleState) (s : State) :
    Keeps { img := true } s (discardIdle st s) := by
  refine Keeps.start fun p s0 hp h => ?_
  unfold discardIdle
  repeat' (first
    | ((with_reducible refine Parts.le_trans ?_ hp); exact rfl)
    | with_reducible assumption
    | intro (x : Img)
    | lift_lets
    | with_reducible apply Keeps.via (keeps_setSlot _ _ _)
    | fail_if_no_progress ((with_reducible apply Keeps.upd hp) <;> [skip; (with_reducible rfl); (with_reducible rfl)]))

theorem keeps_appendChunk (data : List Byte) (s : State) :
    Keeps { img := true, ses := true, evr := true, lcd := true } s (appendChunk data s) := by
  refine Keeps.start fun p s0 hp h => ?_
  unfold appendChunk
  repeat' (first
    | ((with_reducible refine Parts.le_trans ?_ hp); exact rfl)
    | with_reducible assumption
    | (intro x; refine_lift have hx : Keeps p s0 x := ?_; ?_; on_goal 2 => unfold x; on_goal 1 => clear_value x)
    | intro (x : Img)
    | (intro x; clear_value x)
    | lift_lets
    | split
    | with_reducible apply Keeps.via (keeps_imgFail _ _ _ _ _)
    | fail_if_no_progress ((with_reducible apply Keeps.upd hp) <;> [skip; (with_reducible rfl); (with_reducible rfl)]))

theorem keeps_takeChunk (offset : Nat) (data : List Byte) (s : State) :
    Keeps { img := true, ses := true, evr := true, lcd := true } s (takeChunk offset data s).2 := by
  refine Keeps.start fun p s0 hp h => ?_
  unfold takeChunk
  repeat' (first
    | ((with_reducible refine Parts.le_trans ?_ hp); exact rfl)
    | with_reducible assumption
    | (intro x; clear_value x)
    | lift_lets
    | split
    | with_reducible apply Keeps.via (keeps_discardIdle _ _)
    | with_reducible apply Keeps.via (keeps_appendChunk _ _))

theorem keeps_chunkService (asker : Origin) (offset : Nat) (data : List Byte) (s : State) :
    Keeps { img := true, lsk := true, pair := true, ses := true, evr := true, lcd := true, out := true } s (chunkService asker offset data s).2.2 := by
  refine Keeps.start fun p s0 hp h => ?_
  unfold chunkService
  repeat' (first
    | ((with_reducible refine Parts.le_trans ?_ hp); exact rfl)
    | with_reducible assumption
    | lift_lets
    | split
    | with_reducible apply Keeps.of_snd (by assumption)
    | with_reducible apply Keeps.via (keeps_saddle _ _)
    | with_reducible apply Keeps.via (keeps_takeChunk _ _ _))

theorem keeps_forwardedChunkReceive (offset : Nat) (data : List Byte) (s : State) :
    Keeps { img := true, ses := true, evr := true, lcd := true } s (forwardedChunkReceive offset data s) := by
  refine Keeps.start fun p s0 hp h => ?_
  unfold forwardedChunkReceive
  repeat' (first
    | ((with_reducible refine Parts.le_trans ?_ hp); exact rfl)
    | with_reducible assumption
    | lift_lets
    | split
    | with_reducible apply Keeps.via (keeps_abortLoad _)
    | with_reducible apply Keeps.via (keeps_takeChunk _ _ _))

theorem keeps_endForwardedLoad (holderIdle : BitVec 4) (s : State) :
    Keeps { img := true, ses := true, evr := true, lcd := true } s (endForwardedLoad holderIdle s) := by
  refine Keeps.start fun p s0 hp h => ?_
  unfold endForwardedLoad
  repeat' (first
    | ((with_reducible refine Parts.le_trans ?_ hp); exact rfl)
    | with_reducible assumption
    | split
    | with_reducible apply Keeps.via (keeps_abortLoad _))

theorem keeps_imgError (source : Fin 4) (e : ImgError) (s : State) :
    Keeps { img := true, ses := true, evr := true, lcd := true } s (imgError source e s) := by
  refine Keeps.start fun p s0 hp h => ?_
  unfold imgError
  repeat' (first
    | ((with_reducible refine Parts.le_trans ?_ hp); exact rfl)
    | with_reducible assumption
    | with_reducible apply Keeps.via (keeps_imgFail _ _ _ _ _))

theorem keeps_verificationComplete (s : State) :
    Keeps { img := true, ses := true, evr := true, lcd := true } s (verificationComplete s) := by
  refine Keeps.start fun p s0 hp h => ?_
  unfold verificationComplete
  repeat' (first
    | ((with_reducible refine Parts.le_trans ?_ hp); exact rfl)
    | with_reducible assumption
    | intro (x : Img)
    | lift_lets
    | split
    | with_reducible apply Keeps.via (keeps_storeIdle _ _)
    | with_reducible apply Keeps.via (keeps_imgError _ _ _)
    | fail_if_no_progress ((with_reducible apply Keeps.upd hp) <;> [skip; (with_reducible rfl); (with_reducible rfl)]))

theorem keeps_imageStoreComplete (ok : Bool) (s : State) :
    Keeps { img := true, ses := true, evr := true, lcd := true } s (imageStoreComplete ok s) := by
  refine Keeps.start fun p s0 hp h => ?_
  unfold imageStoreComplete
  repeat' (first
    | ((with_reducible refine Parts.le_trans ?_ hp); exact rfl)
    | with_reducible assumption
    | intro (x : Img)
    | lift_lets
    | split
    | with_reducible apply Keeps.via (keeps_imgFail _ _ _ _ _)
    | with_reducible apply Keeps.via (keeps_storeIdle _ _)
    | fail_if_no_progress ((with_reducible apply Keeps.upd hp) <;> [skip; (with_reducible rfl); (with_reducible rfl)]))

theorem keeps_imgCmd {p : Parts} {s0 : State} {op : Req → State → State} {q : Req} {s : State} (hp : ({ lsk := true, pair := true, ses := true, out := true } : Parts).le p) (hop : ∀ x0 x1, Keeps p s0 x1 → Keeps p s0 (op x0 x1))
    (h : Keeps p s0 s) : Keeps p s0 (imgCmd op q s) := by
  unfold imgCmd
  repeat' (first
    | ((with_reducible refine Parts.le_trans ?_ hp); exact rfl)
    | with_reducible assumption
    | split
    | with_reducible apply hop
    | with_reducible apply Keeps.via (keeps_answer _ _ _ _))

theorem keeps_beginArming (s : State) :
    Keeps { img := true } s (beginArming s) := by
  refine Keeps.start fun p s0 hp h => ?_
  unfold beginArming
  repeat' (first
    | with_reducible assumption
    | intro (x : Img)
    | lift_lets
    | fail_if_no_progress ((with_reducible apply Keeps.upd hp) <;> [skip; (with_reducible rfl); (with_reducible rfl)]))

theorem keeps_armCmd (q : Req) (s : State) :
    Keeps { img := true, lsk := true, pair := true, ses := true, out := true } s (armCmd q s) := by
  refine Keeps.start fun p s0 hp h => ?_
  unfold armCmd
  repeat' (first
    | ((with_reducible refine Parts.le_trans ?_ hp); exact rfl)
    | with_reducible assumption
    | intro (x : Img)
    | lift_lets
    | split
    | with_reducible apply Keeps.via (keeps_saddle _ _)
    | with_reducible apply Keeps.via (keeps_answer _ _ _ _)
    | with_reducible apply Keeps.via (keeps_beginArming _)
    | fail_if_no_progress ((with_reducible apply Keeps.upd hp) <;> [skip; (with_reducible rfl); (with_reducible rfl)]))

theorem keeps_disarmCmd (q : Req) (s : State) :
    Keeps { img := true, lsk := true, pair := true, ses := true, out := true } s (disarmCmd q s) := by
  refine Keeps.start fun p s0 hp h => ?_
  unfold disarmCmd
  repeat' (first
    | ((with_reducible refine Parts.le_trans ?_ hp); exact rfl)
    | with_reducible assumption
    | intro (x : Img)
    | lift_lets
    | split
    | with_reducible apply Keeps.via (keeps_answer _ _ _ _)
    | fail_if_no_progress ((with_reducible apply Keeps.upd hp) <;> [skip; (with_reducible rfl); (with_reducible rfl)]))

theorem keeps_abortCmd (q : Req) (s : State) :
    Keeps { img := true, lsk := true, pair := true, ses := true, evr := true, lcd := true, out := true } s (abortCmd q s) := by
  refine Keeps.start fun p s0 hp h => ?_
  unfold abortCmd
  repeat' (first
    | ((with_reducible refine Parts.le_trans ?_ hp); exact rfl)
    | with_reducible assumption
    | intro x
    | lift_lets
    | split
    | with_reducible apply Keeps.via (keeps_answer _ _ _ _)
    | with_reducible apply Keeps.via (keeps_abortLoad _)
    | with_reducible apply keeps_imgCmd)

theorem keeps_clearCmd (q : Req) (s : State) :
    Keeps { img := true, lsk := true, pair := true, ses := true, out := true } s (clearCmd q s) := by
  refine Keeps.start fun p s0 hp h => ?_
  unfold clearCmd
  repeat' (first
    | ((with_reducible refine Parts.le_trans ?_ hp); exact rfl)
    | with_reducible assumption
    | lift_lets
    | with_reducible apply Keeps.via (keeps_answer _ _ _ _)
    | with_reducible apply Keeps.via (keeps_discardIdle _ _))

theorem keeps_archiveCmd (arg : BitVec 4) (q : Req) (s : State) :
    Keeps { img := true, lsk := true, pair := true, ses := true, out := true } s (archiveCmd arg q s) := by
  refine Keeps.start fun p s0 hp h => ?_
  unfold archiveCmd
  repeat' (first
    | ((with_reducible refine Parts.le_trans ?_ hp); exact rfl)
    | with_reducible assumption
    | intro (x : Img)
    | (intro x; clear_value x)
    | intro x
    | lift_lets
    | split
    | with_reducible apply Keeps.via (keeps_answer _ _ _ _)
    | with_reducible apply Keeps.via (keeps_setSlot _ _ _)
    | fail_if_no_progress ((with_reducible apply Keeps.upd hp) <;> [skip; (with_reducible rfl); (with_reducible rfl)]))

theorem keeps_archiveComplete (ok : Bool) (s : State) :
    Keeps { img := true, evr := true } s (archiveComplete ok s) := by
  refine Keeps.start fun p s0 hp h => ?_
  unfold archiveComplete
  repeat' (first
    | ((with_reducible refine Parts.le_trans ?_ hp); exact rfl)
    | with_reducible assumption
    | (intro x; refine_lift have hx : Keeps p s0 x := ?_; ?_; on_goal 2 => unfold x; on_goal 1 => clear_value x)
    | intro (x : Img)
    | lift_lets
    | split
    | with_reducible apply Keeps.via (keeps_logEv _ _ _ _)
    | with_reducible apply Keeps.via (keeps_setSlot _ _ _)
    | fail_if_no_progress ((with_reducible apply Keeps.upd hp) <;> [skip; (with_reducible rfl); (with_reducible rfl)]))

theorem keeps_restoreCmd (arg : BitVec 4) (q : Req) (s : State) :
    Keeps { img := true, lsk := true, pair := true, ses := true, out := true } s (restoreCmd arg q s) := by
  refine Keeps.start fun p s0 hp h => ?_
  unfold restoreCmd
  repeat' (first
    | ((with_reducible refine Parts.le_trans ?_ hp); exact rfl)
    | with_reducible assumption
    | (intro x; refine_lift have hx : Keeps p s0 x := ?_; ?_; on_goal 2 => unfold x; on_goal 1 => clear_value x)
    | intro (x : Img)
    | intro x
    | lift_lets
    | split
    | with_reducible apply Keeps.via (keeps_answer _ _ _ _)
    | with_reducible apply Keeps.via (keeps_discardIdle _ _)
    | fail_if_no_progress ((with_reducible apply Keeps.upd hp) <;> [skip; (with_reducible rfl); (with_reducible rfl)]))

theorem keeps_restoreCopyComplete (s : State) :
    Keeps { img := true } s (restoreCopyComplete s) := by
  refine Keeps.start fun p s0 hp h => ?_
  unfold restoreCopyComplete
  repeat' (first
    | with_reducible assumption
    | intro (x : Img)
    | (intro x; clear_value x)
    | lift_lets
    | split
    | fail_if_no_progress ((with_reducible apply Keeps.upd hp) <;> [skip; (with_reducible rfl); (with_reducible rfl)]))

theorem keeps_reportArmed (code : Byte) (s : State) :
    Keeps { img := true, lsk := true, pair := true, out := true } s (reportArmed code s) := by
  refine Keeps.start fun p s0 hp h => ?_
  unfold reportArmed
  repeat' (first
    | ((with_reducible refine Parts.le_trans ?_ hp); exact rfl)
    | with_reducible assumption
    | intro (x : Img)
    | lift_lets
    | split
    | with_reducible apply Keeps.via (keeps_saddle _ _)
    | fail_if_no_progress ((with_reducible apply Keeps.upd hp) <;> [skip; (with_reducible rfl); (with_reducible rfl)]))

theorem keeps_armFail (code : Byte) (s : State) :
    Keeps { img := true, lsk := true, pair := true, ses := true, evr := true, lcd := true, out := true } s (armFail code s) := by
  refine Keeps.start fun p s0 hp h => ?_
  unfold armFail
  repeat' (first
    | ((with_reducible refine Parts.le_trans ?_ hp); exact rfl)
    | with_reducible assumption
    | lift_lets
    | with_reducible apply Keeps.via (keeps_imgFail _ _ _ _ _)
    | with_reducible apply Keeps.via (keeps_reportArmed _ _))

theorem keeps_finishArming (stream : W128) (s : State) :
    Keeps { cells := true, img := true, lsk := true, pair := true, ses := true, evr := true, lcd := true, out := true } s (finishArming stream s) := by
  refine Keeps.start fun p s0 hp h => ?_
  unfold finishArming
  repeat' (first
    | (intro (hw : Memory.wf _ = true); with_reducible exact preInitialise_wf _ _ hw)
    | ((with_reducible refine Parts.le_trans ?_ hp); exact rfl)
    | with_reducible assumption
    | intro (x : Img)
    | (intro x; clear_value x)
    | lift_lets
    | split
    | with_reducible apply Keeps.via (keeps_reportArmed _ _)
    | with_reducible apply Keeps.via (keeps_armFail _ _)
    | (with_reducible refine Keeps.via (keeps_withMem _ _ ?_) ?_ ?_)
    | fail_if_no_progress ((with_reducible apply Keeps.upd hp) <;> [skip; (with_reducible rfl); (with_reducible rfl)]))

theorem keeps_writeShadows (s : State) :
    Keeps { laneA := true, laneB := true } s (writeShadows s) := by
  refine Keeps.start fun p s0 hp h => ?_
  unfold writeShadows
  repeat' (first
    | ((with_reducible refine Parts.le_trans ?_ hp); exact rfl)
    | with_reducible assumption
    | lift_lets
    | split
    | with_reducible apply Keeps.via (keeps_onLane _ _ _))

theorem keeps_armComplete (changedA changedB : Option W128) (s : State) :
    Keeps { cells := true, tsk := true, img := true, laneA := true, laneB := true, lsk := true, pair := true, lease := true, io := true, can := true, ses := true, evr := true, lcd := true, mod := true, out := true } s (armComplete changedA changedB s) := by
  refine Keeps.start fun p s0 hp h => ?_
  unfold armComplete
  repeat' (first
    | ((with_reducible refine Parts.le_trans ?_ hp); exact rfl)
    | with_reducible assumption
    | (intro x; refine_lift have hx : Keeps p s0 x := ?_; ?_; on_goal 2 => unfold x; on_goal 1 => clear_value x)
    | (intro x; clear_value x)
    | lift_lets
    | split
    | with_reducible apply Keeps.via (keeps_takeFault _ _)
    | with_reducible apply Keeps.via (keeps_armFail _ _)
    | with_reducible apply Keeps.via (keeps_finishArming _ _)
    | with_reducible apply Keeps.via (keeps_writeShadows _))

theorem keeps_partnerArmedReport (code : Byte) (s : State) :
    Keeps { img := true, evr := true } s (partnerArmedReport code s) := by
  refine Keeps.start fun p s0 hp h => ?_
  unfold partnerArmedReport
  repeat' (first
    | ((with_reducible refine Parts.le_trans ?_ hp); exact rfl)
    | with_reducible assumption
    | (intro x; refine_lift have hx : Keeps p s0 x := ?_; ?_; on_goal 2 => unfold x; on_goal 1 => clear_value x)
    | intro (x : Img)
    | lift_lets
    | split
    | with_reducible apply Keeps.via (keeps_logEv _ _ _ _)
    | with_reducible apply Keeps.via (keeps_beginArming _)
    | fail_if_no_progress ((with_reducible apply Keeps.upd hp) <;> [skip; (with_reducible rfl); (with_reducible rfl)]))

theorem keeps_partnerArmOrderReceive (s : State) :
    Keeps { img := true, lsk := true, pair := true, evr := true, out := true, free := true } s (partnerArmOrderReceive s) := by
  refine Keeps.start fun p s0 hp h => ?_
  unfold partnerArmOrderReceive
  repeat' (first
    | ((with_reducible refine Parts.le_trans ?_ hp); exact rfl)
    | with_reducible assumption
    | intro (x : Img)
    | lift_lets
    | split
    | with_reducible apply Keeps.via (keeps_saddle _ _)
    | with_reducible apply Keeps.via (keeps_freeValue _ _)
    | with_reducible apply Keeps.via (keeps_logEv _ _ _ _)
    | with_reducible apply Keeps.via (keeps_beginArming _)
    | fail_if_no_progress ((with_reducible apply Keeps.upd hp) <;> [skip; (with_reducible rfl); (with_reducible rfl)]))

theorem keeps_dropArmWait (s : State) :
    Keeps { img := true } s (dropArmWait s) := by
  refine Keeps.start fun p s0 hp h => ?_
  unfold dropArmWait
  repeat' (first
    | with_reducible assumption
    | intro (x : Img)
    | lift_lets
    | split
    | fail_if_no_progress ((with_reducible apply Keeps.upd hp) <;> [skip; (with_reducible rfl); (with_reducible rfl)]))

/-! ### Operations of Machine/Recorder.lean -/

theorem keeps_putBucket (b : Bucket) (s : State) :
    Keeps { evr := true } s (putBucket b s) := by
  refine Keeps.start fun p s0 hp h => ?_
  unfold putBucket
  repeat' (first
    | with_reducible assumption
    | (intro x; clear_value x)
    | lift_lets
    | fail_if_no_progress ((with_reducible apply Keeps.upd hp) <;> [skip; (with_reducible rfl); (with_reducible rfl)]))

theorem keeps_beginRecord (e : Ev) (s : State) :
    Keeps { evr := true } s (beginRecord e s) := by
  refine Keeps.start fun p s0 hp h => ?_
  unfold beginRecord
  repeat' (first
    | with_reducible assumption
    | (intro x; clear_value x)
    | lift_lets
    | split
    | fail_if_no_progress ((with_reducible apply Keeps.upd hp) <;> [skip; (with_reducible rfl); (with_reducible rfl)]))

theorem keeps_popEv (s : State) :
    Keeps { evr := true } s (popEv s) := by
  refine Keeps.start fun p s0 hp h => ?_
  unfold popEv
  repeat' (first
    | with_reducible assumption
    | (intro x; clear_value x)
    | lift_lets
    | fail_if_no_progress ((with_reducible apply Keeps.upd hp) <;> [skip; (with_reducible rfl); (with_reducible rfl)]))

theorem keeps_recordWrite (s : State) :
    Keeps { evr := true } s (recordWrite s) := by
  refine Keeps.start fun p s0 hp h => ?_
  unfold recordWrite
  repeat' (first
    | ((with_reducible refine Parts.le_trans ?_ hp); exact rfl)
    | with_reducible assumption
    | (intro x; refine_lift have hx : Keeps p s0 x := ?_; ?_; on_goal 2 => unfold x; on_goal 1 => clear_value x)
    | (intro x; clear_value x)
    | split
    | lift_lets
    | with_reducible apply Keeps.via (keeps_putBucket _ _)
    | with_reducible apply Keeps.via (keeps_beginRecord _ _)
    | with_reducible apply Keeps.via (keeps_popEv _)
    | fail_if_no_progress ((with_reducible apply Keeps.upd hp) <;> [skip; (with_reducible rfl); (with_reducible rfl)]))

theorem keeps_recordComplete (s : State) :
    Keeps { evr := true } s (recordComplete s) := by
  refine Keeps.start fun p s0 hp h => ?_
  unfold recordComplete
  repeat' (first
    | with_reducible assumption
    | (intro x; clear_value x)
    | lift_lets
    | split
    | fail_if_no_progress ((with_reducible apply Keeps.upd hp) <;> [skip; (with_reducible rfl); (with_reducible rfl)]))

theorem keeps_evrClear (q : Req) (s : State) :
    Keeps { lsk := true, pair := true, ses := true, evr := true, out := true } s (evrClear q s) := by
  refine Keeps.start fun p s0 hp h => ?_
  unfold evrClear
  repeat' (first
    | ((with_reducible refine Parts.le_trans ?_ hp); exact rfl)
    | with_reducible assumption
    | (intro x; clear_value x)
    | lift_lets
    | split
    | with_reducible apply Keeps.via (keeps_answer _ _ _ _)
    | fail_if_no_progress ((with_reducible apply Keeps.upd hp) <;> [skip; (with_reducible rfl); (with_reducible rfl)]))

theorem keeps_recorderClearComplete (s : State) :
    Keeps { ses := true, evr := true } s (recorderClearComplete s) := by
  refine Keeps.start fun p s0 hp h => ?_
  unfold recorderClearComplete
  repeat' (first
    | ((with_reducible refine Parts.le_trans ?_ hp); exact rfl)
    | with_reducible assumption
    | (intro x; refine_lift have hx : Keeps p s0 x := ?_; ?_; on_goal 2 => unfold x; on_goal 1 => clear_value x)
    | (intro x; clear_value x)
    | lift_lets
    | split
    | with_reducible apply Keeps.via (keeps_setRes _ _ _ _)
    | fail_if_no_progress ((with_reducible apply Keeps.upd hp) <;> [skip; (with_reducible rfl); (with_reducible rfl)]))

theorem keeps_setRate (c : Fin 16) (r : Rate) (se : Fin 64) (s : State) :
    Keeps { store := true, evr := true } s (setRate c r se s) := by
  refine Keeps.start fun p s0 hp h => ?_
  unfold setRate
  repeat' (first
    | ((with_reducible refine Parts.le_trans ?_ hp); exact rfl)
    | with_reducible assumption
    | (intro x; refine_lift have hx : Keeps p s0 x := ?_; ?_; on_goal 2 => unfold x; on_goal 1 => clear_value x)
    | (intro x; clear_value x)
    | intro x
    | lift_lets
    | with_reducible apply Keeps.via (keeps_logSes _ _ _ _ _)
    | with_reducible apply Keeps.via (keeps_persist _ _ _)
    | with_reducible apply Keeps.via (keeps_putBucket _ _)
    | with_reducible apply keeps_overAll
    | fail_if_no_progress ((with_reducible apply Keeps.upd hp) <;> [skip; (with_reducible rfl); (with_reducible rfl)]))

theorem keeps_setrateCmd (q : Req) (s : State) :
    Keeps { store := true, lsk := true, pair := true, ses := true, evr := true, out := true } s (setrateCmd q s) := by
  refine Keeps.start fun p s0 hp h => ?_
  unfold setrateCmd
  repeat' (first
    | ((with_reducible refine Parts.le_trans ?_ hp); exact rfl)
    | with_reducible assumption
    | (intro x; clear_value x)
    | lift_lets
    | split
    | with_reducible apply Keeps.via (keeps_answer _ _ _ _)
    | with_reducible apply Keeps.via (keeps_setRate _ _ _ _))

theorem keeps_ratedefaultCmd (q : Req) (s : State) :
    Keeps { store := true, lsk := true, pair := true, ses := true, evr := true, out := true } s (ratedefaultCmd q s) := by
  refine Keeps.start fun p s0 hp h => ?_
  unfold ratedefaultCmd
  repeat' (first
    | ((with_reducible refine Parts.le_trans ?_ hp); exact rfl)
    | with_reducible assumption
    | (intro x; clear_value x)
    | intro x
    | lift_lets
    | with_reducible apply Keeps.via (keeps_answer _ _ _ _)
    | with_reducible apply Keeps.via (keeps_setRate _ _ _ _)
    | with_reducible apply keeps_overAll)

theorem keeps_putCaps (se : Fin 64) (cs : List (Nat × W32)) (s : State) :
    Keeps { ses := true } s (putCaps se cs s) := by
  refine Keeps.start fun p s0 hp h => ?_
  unfold putCaps
  repeat' (first
    | ((with_reducible refine Parts.le_trans ?_ hp); exact rfl)
    | with_reducible assumption
    | with_reducible apply Keeps.via (keeps_onSess _ _ _))

theorem keeps_captureWindow (se : Fin 64) (s : State) :
    Keeps { ses := true } s (captureWindow se s) := by
  refine Keeps.start fun p s0 hp h => ?_
  unfold captureWindow
  repeat' (first
    | ((with_reducible refine Parts.le_trans ?_ hp); exact rfl)
    | with_reducible assumption
    | split
    | with_reducible apply Keeps.via (keeps_putCaps _ _ _))

theorem keeps_advanceCursor (se : Fin 64) (s : State) :
    Keeps { ses := true } s (advanceCursor se s) := by
  refine Keeps.start fun p s0 hp h => ?_
  unfold advanceCursor
  repeat' (first
    | ((with_reducible refine Parts.le_trans ?_ hp); exact rfl)
    | with_reducible assumption
    | lift_lets
    | with_reducible apply Keeps.via (keeps_onSess _ _ _))

theorem keeps_heard (se : Fin 64) (s : State) :
    Keeps { ses := true } s (heard se s) := by
  refine Keeps.start fun p s0 hp h => ?_
  unfold heard
  repeat' (first
    | ((with_reducible refine Parts.le_trans ?_ hp); exact rfl)
    | with_reducible assumption
    | with_reducible apply Keeps.via (keeps_onSess _ _ _))

/-! ### Operations of Machine/RegsIo.lean -/

theorem keeps_captureFrom (off : Nat) (se : Fin 64) (s : State) :
    Keeps { ses := true } s (captureFrom off se s) := by
  refine Keeps.start fun p s0 hp h => ?_
  unfold captureFrom
  repeat' (first
    | ((with_reducible refine Parts.le_trans ?_ hp); exact rfl)
    | with_reducible assumption
    | (intro x; clear_value x)
    | lift_lets
    | split
    | with_reducible apply Keeps.via (keeps_putCaps _ _ _))

theorem keeps_readEffect (off : Nat) (se : Fin 64) (s : State) :
    Keeps { ses := true, free := true } s (readEffect off se s) := by
  unfold readEffect
  split
  · exact Keeps.via (keeps_advanceCursor _ _) rfl (.refl _ s)
  · split
    · exact ⟨changesOnly_of_pick rfl, id, List.prefix_refl _, Nat.le_succ _⟩
    · exact Keeps.via (keeps_captureFrom _ _ _) rfl (.refl _ s)
/-! ### Operations of Machine/Restart.lean -/

theorem keeps_powerOffIslands (s : State) :
    Keeps { laneA := true, laneB := true, lsk := true, pair := true, io := true, ses := true, out := true } s (powerOffIslands s) := by
  refine Keeps.start fun p s0 hp h => ?_
  unfold powerOffIslands
  repeat' (first
    | ((with_reducible refine Parts.le_trans ?_ hp); exact rfl)
    | with_reducible assumption
    | intro x
    | lift_lets
    | split
    | with_reducible apply Keeps.via (keeps_onIsl _ _ _)
    | with_reducible apply Keeps.via (keeps_resetIsland _ _)
    | with_reducible apply Keeps.via (keeps_endIslandCmds _ _)
    | with_reducible apply keeps_overAll)

theorem keeps_powerOnIslands (s : State) :
    Keeps { io := true } s (powerOnIslands s) := by
  refine Keeps.start fun p s0 hp h => ?_
  unfold powerOnIslands
  repeat' (first
    | ((with_reducible refine Parts.le_trans ?_ hp); exact rfl)
    | with_reducible assumption
    | intro x
    | lift_lets
    | split
    | with_reducible apply Keeps.via (keeps_onIsl _ _ _)
    | with_reducible apply keeps_overAll)

theorem keeps_sendYield (s : State) :
    Keeps { lsk := true, pair := true, links := true, out := true } s (sendYield s) := by
  refine Keeps.start fun p s0 hp h => ?_
  unfold sendYield
  repeat' (first
    | ((with_reducible refine Parts.le_trans ?_ hp); exact rfl)
    | with_reducible assumption
    | lift_lets
    | with_reducible apply Keeps.via (keeps_saddle _ _)
    | with_reducible apply Keeps.via (keeps_leaseFrame _ _ _ _ _))

theorem keeps_lapseOwn (held : Bool) (s : State) :
    Keeps { img := true, ses := true, evr := true, lcd := true, out := true } s (lapseOwn held s) := by
  refine Keeps.start fun p s0 hp h => ?_
  unfold lapseOwn
  repeat' (first
    | ((with_reducible refine Parts.le_trans ?_ hp); exact rfl)
    | with_reducible assumption
    | split
    | with_reducible apply Keeps.via (keeps_endClaim _ _))

theorem keeps_saveAtStop (s : State) :
    Keeps { store := true } s (saveAtStop s) := by
  refine Keeps.start fun p s0 hp h => ?_
  unfold saveAtStop
  repeat' (first
    | ((with_reducible refine Parts.le_trans ?_ hp); exact rfl)
    | with_reducible assumption
    | intro (x : MemState)
    | lift_lets
    | with_reducible apply Keeps.via (keeps_persist _ _ _)
    | fail_if_no_progress ((with_reducible apply Keeps.upd hp) <;> [skip; (with_reducible rfl); (with_reducible rfl)]))

theorem keeps_controlledStop (cause se : Nat) (s : State) :
    Keeps { store := true, tsk := true, img := true, laneA := true, laneB := true, lsk := true, pair := true, lease := true, links := true, io := true, can := true, ses := true, pwr := true, evr := true, lcd := true, mod := true, out := true } s (controlledStop cause se s) := by
  refine Keeps.start fun p s0 hp h => ?_
  unfold controlledStop
  repeat' (first
    | ((with_reducible refine Parts.le_trans ?_ hp); exact rfl)
    | with_reducible assumption
    | (intro x; refine_lift have hx : Keeps p s0 x := ?_; ?_; on_goal 2 => unfold x; on_goal 1 => clear_value x)
    | (intro x; clear_value x)
    | lift_lets
    | split
    | with_reducible apply Keeps.via (keeps_logEv _ _ _ _)
    | with_reducible apply Keeps.via (keeps_noticeAll _ _)
    | with_reducible apply Keeps.via (keeps_enterState _ _ _ _)
    | with_reducible apply Keeps.via (keeps_leaveRun _)
    | with_reducible apply Keeps.via (keeps_endLease _ _)
    | with_reducible apply Keeps.via (keeps_safeAll _)
    | with_reducible apply Keeps.via (keeps_powerOffIslands _)
    | with_reducible apply Keeps.via (keeps_sendYield _)
    | with_reducible apply Keeps.via (keeps_lapseOwn _ _)
    | with_reducible apply Keeps.via (keeps_saveAtStop _)
    | fail_if_no_progress ((with_reducible apply Keeps.upd hp) <;> [skip; (with_reducible rfl); (with_reducible rfl)]))

theorem keeps_idleAfter (s : State) :
    Keeps { img := true } s (idleAfter s) := by
  refine Keeps.start fun p s0 hp h => ?_
  unfold idleAfter
  repeat' (first
    | ((with_reducible refine Parts.le_trans ?_ hp); exact rfl)
    | with_reducible assumption
    | intro (x : Img)
    | (intro x; clear_value x)
    | lift_lets
    | split
    | with_reducible apply Keeps.via (keeps_setSlot _ _ _)
    | with_reducible apply Keeps.via (keeps_discardIdle _ _)
    | fail_if_no_progress ((with_reducible apply Keeps.upd hp) <;> [skip; (with_reducible rfl); (with_reducible rfl)]))

theorem keeps_warmImg (s : State) :
    Keeps { img := true } s (warmImg s) := by
  refine Keeps.start fun p s0 hp h => ?_
  unfold warmImg
  repeat' (first
    | ((with_reducible refine Parts.le_trans ?_ hp); exact rfl)
    | with_reducible assumption
    | (intro x; refine_lift have hx : Keeps p s0 x := ?_; ?_; on_goal 2 => unfold x; on_goal 1 => clear_value x)
    | intro (x : Img)
    | lift_lets
    | split
    | with_reducible apply Keeps.via (keeps_idleAfter _)
    | fail_if_no_progress ((with_reducible apply Keeps.upd hp) <;> [skip; (with_reducible rfl); (with_reducible rfl)]))

theorem keeps_coldImg (s : State) :
    Keeps { store := true, img := true } s (coldImg s) := by
  refine Keeps.start fun p s0 hp h => ?_
  unfold coldImg
  repeat' (first
    | ((with_reducible refine Parts.le_trans ?_ hp); exact rfl)
    | with_reducible assumption
    | (intro x; refine_lift have hx : Keeps p s0 x := ?_; ?_; on_goal 2 => unfold x; on_goal 1 => clear_value x)
    | intro (x : MemState)
    | intro (x : Img)
    | lift_lets
    | with_reducible apply Keeps.via (keeps_idleAfter _)
    | fail_if_no_progress ((with_reducible apply Keeps.upd hp) <;> [skip; (with_reducible rfl); (with_reducible rfl)]))

theorem keeps_startAnew (s : State) :
    Keeps { tb := true, tbAcc := true, tbLat := true, tsk := true, laneA := true, laneB := true, lsk := true, pair := true, mir := true, links := true, can := true, ses := true, pwr := true, tel := true, evr := true, lcd := true, mod := true } s (startAnew s) := by
  refine Keeps.start fun p s0 hp h => ?_
  unfold startAnew
  repeat' (first
    | with_reducible assumption
    | (intro x; clear_value x)
    | lift_lets
    | split
    | fail_if_no_progress ((with_reducible apply Keeps.upd hp) <;> [skip; (with_reducible rfl); (with_reducible rfl)]))

theorem keeps_warmLoss (s : State) :
    Keeps { tb := true, tbAcc := true, tbLat := true, tsk := true, img := true, frc := true, laneA := true, laneB := true, lsk := true, pair := true, lease := true, mir := true, links := true, io := true, can := true, ses := true, pwr := true, tel := true, evr := true, lcd := true, mod := true } s (warmLoss s) := by
  refine Keeps.start fun p s0 hp h => ?_
  unfold warmLoss
  repeat' (first
    | ((with_reducible refine Parts.le_trans ?_ hp); exact rfl)
    | with_reducible assumption
    | (intro x; refine_lift have hx : Keeps p s0 x := ?_; ?_; on_goal 2 => unfold x; on_goal 1 => clear_value x)
    | (intro x; clear_value x)
    | lift_lets
    | with_reducible apply Keeps.via (keeps_warmImg _)
    | with_reducible apply Keeps.via (keeps_startAnew _)
    | fail_if_no_progress ((with_reducible apply Keeps.upd hp) <;> [skip; (with_reducible rfl); (with_reducible rfl)]))

theorem keeps_coldLoss (s : State) :
    Keeps { cells := true, store := true, tb := true, tbAcc := true, tbLat := true, tsk := true, img := true, frc := true, laneA := true, laneB := true, lsk := true, pair := true, lease := true, mir := true, links := true, io := true, can := true, ses := true, pwr := true, tel := true, evr := true, lcd := true, mod := true, out := true } s (coldLoss s) := by
  refine Keeps.start fun p s0 hp h => ?_
  unfold coldLoss
  repeat' (first
    | ((with_reducible refine Parts.le_trans ?_ hp); exact rfl)
    | with_reducible assumption
    | (intro x; refine_lift have hx : Keeps p s0 x := ?_; ?_; on_goal 2 => unfold x; on_goal 1 => clear_value x)
    | intro (x : MemState)
    | (intro x; clear_value x)
    | lift_lets
    | with_reducible apply Keeps.via (keeps_powerOffIslands _)
    | with_reducible apply Keeps.via (keeps_coldImg _)
    | with_reducible apply Keeps.via (keeps_startAnew _)
    | fail_if_no_progress ((with_reducible apply Keeps.clear hp) <;> [skip; (with_reducible rfl); (with_reducible rfl)]))

theorem keeps_takeCapacitance (c : Nat) (s : State) :
    Keeps { pwr := true, evr := true } s (takeCapacitance c s) := by
  refine Keeps.start fun p s0 hp h => ?_
  unfold takeCapacitance
  repeat' (first
    | ((with_reducible refine Parts.le_trans ?_ hp); exact rfl)
    | with_reducible assumption
    | (intro x; refine_lift have hx : Keeps p s0 x := ?_; ?_; on_goal 2 => unfold x; on_goal 1 => clear_value x)
    | (intro x; clear_value x)
    | lift_lets
    | split
    | with_reducible apply Keeps.via (keeps_logEv _ _ _ _)
    | fail_if_no_progress ((with_reducible apply Keeps.upd hp) <;> [skip; (with_reducible rfl); (with_reducible rfl)]))

theorem keeps_raiseCycles (s : State) :
    Keeps { store := true, tel := true } s (raiseCycles s) := by
  refine Keeps.start fun p s0 hp h => ?_
  unfold raiseCycles
  repeat' (first
    | ((with_reducible refine Parts.le_trans ?_ hp); exact rfl)
    | with_reducible assumption
    | (intro x; clear_value x)
    | lift_lets
    | with_reducible apply Keeps.via (keeps_persist _ _ _)
    | fail_if_no_progress ((with_reducible apply Keeps.upd hp) <;> [skip; (with_reducible rfl); (with_reducible rfl)]))

theorem keeps_enterBoot (warm : Bool) (bootCause cause se : Nat) (s : State) :
    Keeps { cells := true, store := true, tb := true, tbAcc := true, tbLat := true, tsk := true, img := true, frc := true, laneA := true, laneB := true, lsk := true, pair := true, lease := true, mir := true, links := true, io := true, can := true, ses := true, pwr := true, tel := true, evr := true, lcd := true, mod := true, out := true } s (enterBoot warm bootCause cause se s) := by
  refine Keeps.start fun p s0 hp h => ?_
  unfold enterBoot
  repeat' (first
    | ((with_reducible refine Parts.le_trans ?_ hp); exact rfl)
    | with_reducible assumption
    | (intro x; refine_lift have hx : Keeps p s0 x := ?_; ?_; on_goal 2 => unfold x; on_goal 1 => clear_value x)
    | (intro x; clear_value x)
    | lift_lets
    | split
    | with_reducible apply Keeps.via (keeps_enterState _ _ _ _)
    | with_reducible apply Keeps.via (keeps_warmLoss _)
    | with_reducible apply Keeps.via (keeps_coldLoss _)
    | with_reducible apply Keeps.via (keeps_raiseCycles _)
    | fail_if_no_progress ((with_reducible apply Keeps.upd hp) <;> [skip; (with_reducible rfl); (with_reducible rfl)]))

theorem keeps_restart (warm : Bool) (se : Nat) (s : State) :
    Keeps { cells := true, store := true, tb := true, tbAcc := true, tbLat := true, tsk := true, img := true, frc := true, laneA := true, laneB := true, lsk := true, pair := true, lease := true, mir := true, links := true, io := true, can := true, ses := true, pwr := true, tel := true, evr := true, lcd := true, mod := true, out := true } s (restart warm se s) := by
  refine Keeps.start fun p s0 hp h => ?_
  unfold restart
  repeat' (first
    | ((with_reducible refine Parts.le_trans ?_ hp); exact rfl)
    | with_reducible assumption
    | (intro x; refine_lift have hx : Keeps p s0 x := ?_; ?_; on_goal 2 => unfold x; on_goal 1 => clear_value x)
    | lift_lets
    | split
    | with_reducible apply Keeps.via (keeps_closeAll _ _)
    | with_reducible apply Keeps.via (keeps_leaveRun _)
    | with_reducible apply Keeps.via (keeps_endLease _ _)
    | with_reducible apply Keeps.via (keeps_lapseOwn _ _)
    | with_reducible apply Keeps.via (keeps_takeCapacitance _ _)
    | with_reducible apply Keeps.via (keeps_enterBoot _ _ _ _ _))

theorem keeps_madeCold (s : State) :
    Keeps { cells := true, store := true, tb := true, tbAcc := true, tbLat := true, tsk := true, img := true, frc := true, laneA := true, laneB := true, lsk := true, pair := true, lease := true, mir := true, links := true, io := true, can := true, ses := true, pwr := true, tel := true, evr := true, lcd := true, mod := true, out := true } s (madeCold s) := by
  refine Keeps.start fun p s0 hp h => ?_
  unfold madeCold
  repeat' (first
    | ((with_reducible refine Parts.le_trans ?_ hp); exact rfl)
    | with_reducible assumption
    | (intro x; refine_lift have hx : Keeps p s0 x := ?_; ?_; on_goal 2 => unfold x; on_goal 1 => clear_value x)
    | (intro x; clear_value x)
    | lift_lets
    | with_reducible apply Keeps.via (keeps_coldLoss _)
    | with_reducible apply Keeps.via (keeps_takeCapacitance _ _)
    | with_reducible apply Keeps.via (keeps_raiseCycles _)
    | fail_if_no_progress ((with_reducible apply Keeps.upd hp) <;> [skip; (with_reducible rfl); (with_reducible rfl)]))

theorem keeps_powerOff (recovery : Bool) (s : State) :
    Keeps { cells := true, store := true, tsk := true, img := true, laneA := true, laneB := true, lsk := true, pair := true, lease := true, links := true, io := true, can := true, ses := true, pwr := true, evr := true, lcd := true, mod := true, out := true } s (powerOff recovery s) := by
  refine Keeps.start fun p s0 hp h => ?_
  unfold powerOff
  repeat' (first
    | ((with_reducible refine Parts.le_trans ?_ hp); exact rfl)
    | with_reducible assumption
    | (intro x; refine_lift have hx : Keeps p s0 x := ?_; ?_; on_goal 2 => unfold x; on_goal 1 => clear_value x)
    | intro (x : MemState)
    | (intro x; clear_value x)
    | lift_lets
    | split
    | with_reducible apply Keeps.via (keeps_enterState _ _ _ _)
    | with_reducible apply Keeps.via (keeps_leaveRun _)
    | with_reducible apply Keeps.via (keeps_powerOffIslands _)
    | fail_if_no_progress ((with_reducible apply Keeps.clear hp) <;> [skip; (with_reducible rfl); (with_reducible rfl)]))

/-! ### Operations of Machine/Power.lean -/

theorem keeps_onPwr (f : Pwr → Pwr) (s : State) :
    Keeps { pwr := true } s (onPwr f s) := by
  refine Keeps.start fun p s0 hp h => ?_
  unfold onPwr
  repeat' (first
    | with_reducible assumption
    | fail_if_no_progress ((with_reducible apply Keeps.upd hp) <;> [skip; (with_reducible rfl); (with_reducible rfl)]))

theorem keeps_endTest (r : W32) (s : State) :
    Keeps { ses := true, pwr := true } s (endTest r s) := by
  refine Keeps.start fun p s0 hp h => ?_
  unfold endTest
  repeat' (first
    | ((with_reducible refine Parts.le_trans ?_ hp); exact rfl)
    | with_reducible assumption
    | (intro x; refine_lift have hx : Keeps p s0 x := ?_; ?_; on_goal 2 => unfold x; on_goal 1 => clear_value x)
    | lift_lets
    | split
    | with_reducible apply Keeps.via (keeps_setRes _ _ _ _)
    | with_reducible apply Keeps.via (keeps_onPwr _ _))

theorem keeps_supplyWarning (s : State) :
    Keeps { cells := true, tbAcc := true, tbLat := true, tsk := true, img := true, frc := true, laneA := true, laneB := true, lsk := true, pair := true, mir := true, links := true, io := true, can := true, ses := true, pwr := true, tel := true, evr := true, lcd := true, out := true } s (supplyWarning s) := by
  refine Keeps.start fun p s0 hp h => ?_
  unfold supplyWarning
  repeat' (first
    | ((with_reducible refine Parts.le_trans ?_ hp); exact rfl)
    | with_reducible assumption
    | (intro x; refine_lift have hx : Keeps p s0 x := ?_; ?_; on_goal 2 => unfold x; on_goal 1 => clear_value x)
    | (intro x; clear_value x)
    | lift_lets
    | split
    | with_reducible apply Keeps.via (keeps_logEv _ _ _ _)
    | with_reducible apply Keeps.via (keeps_triggerMatch _ _ _ _ _ _ _)
    | with_reducible apply Keeps.via (keeps_endChange _ _)
    | with_reducible apply Keeps.via (keeps_releaseHolds _)
    | with_reducible apply Keeps.via (keeps_onPwr _ _)
    | with_reducible apply Keeps.via (keeps_endTest _ _))

theorem keeps_judgeInputs (inA inB bus : Nat) (s : State) :
    Keeps { cells := true, store := true, tbAcc := true, tbLat := true, tsk := true, img := true, frc := true, laneA := true, laneB := true, lsk := true, pair := true, mir := true, links := true, io := true, can := true, ses := true, pwr := true, tel := true, evr := true, lcd := true, out := true } s (judgeInputs inA inB bus s) := by
  refine Keeps.start fun p s0 hp h => ?_
  unfold judgeInputs
  repeat' (first
    | ((with_reducible refine Parts.le_trans ?_ hp); exact rfl)
    | with_reducible assumption
    | (intro x; refine_lift have hx : Keeps p s0 x := ?_; ?_; on_goal 2 => unfold x; on_goal 1 => clear_value x)
    | (intro x; clear_value x)
    | lift_lets
    | split
    | with_reducible apply Keeps.via (keeps_envJudge _ _ _ _ _)
    | with_reducible apply Keeps.via (keeps_onPwr _ _)
    | with_reducible apply Keeps.via (keeps_supplyWarning _))

theorem keeps_supplyInputMeasurement (inA inB bus : Nat) (s : State) :
    Keeps { cells := true, store := true, tbAcc := true, tbLat := true, tsk := true, img := true, frc := true, laneA := true, laneB := true, lsk := true, pair := true, mir := true, links := true, io := true, can := true, ses := true, pwr := true, tel := true, evr := true, lcd := true, out := true } s (supplyInputMeasurement inA inB bus s) := by
  refine Keeps.start fun p s0 hp h => ?_
  unfold supplyInputMeasurement
  repeat' (first
    | ((with_reducible refine Parts.le_trans ?_ hp); exact rfl)
    | with_reducible assumption
    | split
    | with_reducible apply Keeps.via (keeps_onPwr _ _)
    | with_reducible apply Keeps.via (keeps_judgeInputs _ _ _ _))

theorem keeps_supplyRecovery (s : State) :
    Keeps { pwr := true, tel := true, evr := true } s (supplyRecovery s) := by
  refine Keeps.start fun p s0 hp h => ?_
  unfold supplyRecovery
  repeat' (first
    | ((with_reducible refine Parts.le_trans ?_ hp); exact rfl)
    | with_reducible assumption
    | (intro x; refine_lift have hx : Keeps p s0 x := ?_; ?_; on_goal 2 => unfold x; on_goal 1 => clear_value x)
    | (intro x; clear_value x)
    | lift_lets
    | split
    | with_reducible apply Keeps.via (keeps_logEv _ _ _ _)
    | with_reducible apply Keeps.via (keeps_onPwr _ _)
    | fail_if_no_progress ((with_reducible apply Keeps.upd hp) <;> [skip; (with_reducible rfl); (with_reducible rfl)]))

theorem keeps_inputLossTimeout (b : Bool) (s : State) :
    Keeps { pwr := true, evr := true } s (inputLossTimeout b s) := by
  refine Keeps.start fun p s0 hp h => ?_
  unfold inputLossTimeout
  repeat' (first
    | ((with_reducible refine Parts.le_trans ?_ hp); exact rfl)
    | with_reducible assumption
    | (intro x; clear_value x)
    | lift_lets
    | split
    | with_reducible apply Keeps.via (keeps_logEv _ _ _ _)
    | with_reducible apply Keeps.via (keeps_onPwr _ _))

theorem keeps_inputRestoreTimeout (b : Bool) (s : State) :
    Keeps { pwr := true, evr := true } s (inputRestoreTimeout b s) := by
  refine Keeps.start fun p s0 hp h => ?_
  unfold inputRestoreTimeout
  repeat' (first
    | ((with_reducible refine Parts.le_trans ?_ hp); exact rfl)
    | with_reducible assumption
    | (intro x; clear_value x)
    | lift_lets
    | split
    | with_reducible apply Keeps.via (keeps_logEv _ _ _ _)
    | with_reducible apply Keeps.via (keeps_onPwr _ _))

theorem keeps_beginRails (s : State) :
    Keeps { pwr := true } s (beginRails s) := by
  refine Keeps.start fun p s0 hp h => ?_
  unfold beginRails
  repeat' (first
    | ((with_reducible refine Parts.le_trans ?_ hp); exact rfl)
    | with_reducible assumption
    | with_reducible apply Keeps.via (keeps_onPwr _ _))

theorem keeps_powerApplied (inA inB : Nat) (s : State) :
    Keeps { pwr := true, tel := true, mod := true } s (powerApplied inA inB s) := by
  refine Keeps.start fun p s0 hp h => ?_
  unfold powerApplied
  repeat' (first
    | ((with_reducible refine Parts.le_trans ?_ hp); exact rfl)
    | with_reducible assumption
    | (intro x; clear_value x)
    | lift_lets
    | split
    | with_reducible apply Keeps.via (keeps_beginRails _)
    | fail_if_no_progress ((with_reducible apply Keeps.upd hp) <;> [skip; (with_reducible rfl); (with_reducible rfl)]))

theorem keeps_restoreStore (s : State) :
    Keeps { img := true, keys := true, tel := true, evr := true } s (restoreStore s) := by
  refine Keeps.start fun p s0 hp h => ?_
  unfold restoreStore
  repeat' (first
    | with_reducible assumption
    | intro (x : Img)
    | (intro x; clear_value x)
    | lift_lets
    | split
    | fail_if_no_progress ((with_reducible apply Keeps.upd hp) <;> [skip; (with_reducible rfl); (with_reducible rfl)]))

theorem keeps_railsGood (s : State) :
    Keeps { cells := true, store := true, tb := true, tbAcc := true, tbLat := true, tsk := true, img := true, keys := true, frc := true, laneA := true, laneB := true, lsk := true, pair := true, lease := true, mir := true, links := true, io := true, can := true, ses := true, pwr := true, tel := true, evr := true, lcd := true, mod := true, out := true } s (railsGood s) := by
  refine Keeps.start fun p s0 hp h => ?_
  unfold railsGood
  repeat' (first
    | ((with_reducible refine Parts.le_trans ?_ hp); exact rfl)
    | with_reducible assumption
    | (intro x; refine_lift have hx : Keeps p s0 x := ?_; ?_; on_goal 2 => unfold x; on_goal 1 => clear_value x)
    | (intro x; clear_value x)
    | lift_lets
    | split
    | with_reducible apply Keeps.via (keeps_logEv _ _ _ _)
    | with_reducible apply Keeps.via (keeps_takeCapacitance _ _)
    | with_reducible apply Keeps.via (keeps_enterBoot _ _ _ _ _)
    | with_reducible apply Keeps.via (keeps_onPwr _ _)
    | with_reducible apply Keeps.via (keeps_restoreStore _)
    | fail_if_no_progress ((with_reducible apply Keeps.upd hp) <;> [skip; (with_reducible rfl); (with_reducible rfl)]))

theorem keeps_railPowerGood (rail : Fin 7) (capacitance : Nat) (s : State) :
    Keeps { cells := true, store := true, tb := true, tbAcc := true, tbLat := true, tsk := true, img := true, keys := true, frc := true, laneA := true, laneB := true, lsk := true, pair := true, lease := true, mir := true, links := true, io := true, can := true, ses := true, pwr := true, tel := true, evr := true, lcd := true, mod := true, out := true } s (railPowerGood rail capacitance s) := by
  refine Keeps.start fun p s0 hp h => ?_
  unfold railPowerGood
  repeat' (first
    | ((with_reducible refine Parts.le_trans ?_ hp); exact rfl)
    | with_reducible assumption
    | (intro x; refine_lift have hx : Keeps p s0 x := ?_; ?_; on_goal 2 => unfold x; on_goal 1 => clear_value x)
    | lift_lets
    | split
    | with_reducible apply Keeps.via (keeps_onPwr _ _)
    | with_reducible apply Keeps.via (keeps_railsGood _))

theorem keeps_railSequenceTimeout (rail : Fin 7) (s : State) :
    Keeps { pwr := true } s (railSequenceTimeout rail s) := by
  refine Keeps.start fun p s0 hp h => ?_
  unfold railSequenceTimeout
  repeat' (first
    | ((with_reducible refine Parts.le_trans ?_ hp); exact rfl)
    | with_reducible assumption
    | split
    | with_reducible apply Keeps.via (keeps_onPwr _ _))

theorem keeps_railSequenceRetry (s : State) :
    Keeps { pwr := true } s (railSequenceRetry s) := by
  refine Keeps.start fun p s0 hp h => ?_
  unfold railSequenceRetry
  repeat' (first
    | ((with_reducible refine Parts.le_trans ?_ hp); exact rfl)
    | with_reducible assumption
    | split
    | with_reducible apply Keeps.via (keeps_beginRails _))

theorem keeps_railFault (rail : Fin 7) (mV : Nat) (s : State) :
    Keeps { tsk := true, img := true, lsk := true, pair := true, lease := true, io := true, can := true, ses := true, evr := true, lcd := true, mod := true, out := true } s (railFault rail mV s) := by
  refine Keeps.start fun p s0 hp h => ?_
  unfold railFault
  repeat' (first
    | ((with_reducible refine Parts.le_trans ?_ hp); exact rfl)
    | with_reducible assumption
    | (intro x; refine_lift have hx : Keeps p s0 x := ?_; ?_; on_goal 2 => unfold x; on_goal 1 => clear_value x)
    | (intro x; clear_value x)
    | lift_lets
    | split
    | with_reducible apply Keeps.via (keeps_logEv _ _ _ _)
    | with_reducible apply Keeps.via (keeps_failSteps _)
    | fail_if_no_progress ((with_reducible apply Keeps.upd hp) <;> [skip; (with_reducible rfl); (with_reducible rfl)]))

theorem keeps_holdupStopLevel (s : State) :
    Keeps { store := true, tsk := true, img := true, laneA := true, laneB := true, lsk := true, pair := true, lease := true, links := true, io := true, can := true, ses := true, pwr := true, evr := true, lcd := true, mod := true, out := true } s (holdupStopLevel s) := by
  refine Keeps.start fun p s0 hp h => ?_
  unfold holdupStopLevel
  repeat' (first
    | ((with_reducible refine Parts.le_trans ?_ hp); exact rfl)
    | with_reducible assumption
    | lift_lets
    | split
    | with_reducible apply Keeps.via (keeps_controlledStop _ _ _)
    | with_reducible apply Keeps.via (keeps_onPwr _ _))

theorem keeps_stoppedRecoveryTimeout (s : State) :
    Keeps { cells := true, store := true, tsk := true, img := true, laneA := true, laneB := true, lsk := true, pair := true, lease := true, links := true, io := true, can := true, ses := true, pwr := true, tel := true, evr := true, lcd := true, mod := true, out := true } s (stoppedRecoveryTimeout s) := by
  refine Keeps.start fun p s0 hp h => ?_
  unfold stoppedRecoveryTimeout
  repeat' (first
    | ((with_reducible refine Parts.le_trans ?_ hp); exact rfl)
    | with_reducible assumption
    | lift_lets
    | split
    | with_reducible apply Keeps.via (keeps_powerOff _ _)
    | with_reducible apply Keeps.via (keeps_powerApplied _ _ _))

theorem keeps_holdupTest (q : Req) (s : State) :
    Keeps { lsk := true, pair := true, ses := true, pwr := true, out := true } s (holdupTest q s) := by
  refine Keeps.start fun p s0 hp h => ?_
  unfold holdupTest
  repeat' (first
    | ((with_reducible refine Parts.le_trans ?_ hp); exact rfl)
    | with_reducible assumption
    | lift_lets
    | split
    | with_reducible apply Keeps.via (keeps_answer _ _ _ _)
    | with_reducible apply Keeps.via (keeps_onPwr _ _))

theorem keeps_holdupTestComplete (capacitance : Nat) (s : State) :
    Keeps { ses := true, pwr := true, evr := true } s (holdupTestComplete capacitance s) := by
  refine Keeps.start fun p s0 hp h => ?_
  unfold holdupTestComplete
  repeat' (first
    | ((with_reducible refine Parts.le_trans ?_ hp); exact rfl)
    | with_reducible assumption
    | lift_lets
    | split
    | with_reducible apply Keeps.via (keeps_takeCapacitance _ _)
    | with_reducible apply Keeps.via (keeps_onPwr _ _)
    | with_reducible apply Keeps.via (keeps_endTest _ _))

theorem keeps_ceilingHold (on : Bool) (q : Req) (s : State) :
    Keeps { lsk := true, pair := true, ses := true, tel := true, out := true } s (ceilingHold on q s) := by
  refine Keeps.start fun p s0 hp h => ?_
  unfold ceilingHold
  repeat' (first
    | ((with_reducible refine Parts.le_trans ?_ hp); exact rfl)
    | with_reducible assumption
    | (intro x; refine_lift have hx : Keeps p s0 x := ?_; ?_; on_goal 2 => unfold x; on_goal 1 => clear_value x)
    | (intro x; clear_value x)
    | lift_lets
    | split
    | with_reducible apply Keeps.via (keeps_answer _ _ _ _)
    | with_reducible apply Keeps.via (keeps_raiseToCeiling _)
    | fail_if_no_progress ((with_reducible apply Keeps.upd hp) <;> [skip; (with_reducible rfl); (with_reducible rfl)]))

theorem keeps_marginControlPeriod (s : State) :
    Keeps { tel := true } s (marginControlPeriod s) := by
  refine Keeps.start fun p s0 hp h => ?_
  unfold marginControlPeriod
  repeat' (first
    | with_reducible assumption
    | (intro x; clear_value x)
    | lift_lets
    | split
    | fail_if_no_progress ((with_reducible apply Keeps.upd hp) <;> [skip; (with_reducible rfl); (with_reducible rfl)]))

theorem keeps_marginlowClearTimeout (s : State) :
    Keeps { tel := true, evr := true, free := true } s (marginlowClearTimeout s) := by
  refine Keeps.start fun p s0 hp h => ?_
  unfold marginlowClearTimeout
  repeat' (first
    | ((with_reducible refine Parts.le_trans ?_ hp); exact rfl)
    | with_reducible assumption
    | (intro x; clear_value x)
    | lift_lets
    | split
    | with_reducible apply Keeps.of_snd (by assumption)
    | with_reducible apply Keeps.via (keeps_freeValue _ _)
    | with_reducible apply Keeps.via (keeps_logEv _ _ _ _)
    | fail_if_no_progress ((with_reducible apply Keeps.upd hp) <;> [skip; (with_reducible rfl); (with_reducible rfl)]))

theorem keeps_telemetryMeasurement (temps : List (BitVec 16)) (rails : List Nat) (pin : Nat) (s : State) :
    Keeps { store := true, tb := true, tel := true, evr := true, lcd := true } s (telemetryMeasurement temps rails pin s) := by
  refine Keeps.start fun p s0 hp h => ?_
  unfold telemetryMeasurement
  repeat' (first
    | ((with_reducible refine Parts.le_trans ?_ hp); exact rfl)
    | with_reducible assumption
    | (intro x; refine_lift have hx : Keeps p s0 x := ?_; ?_; on_goal 2 => unfold x; on_goal 1 => clear_value x)
    | (intro x; clear_value x)
    | lift_lets
    | split
    | with_reducible apply Keeps.via (keeps_envJudge _ _ _ _ _)
    | fail_if_no_progress ((with_reducible apply Keeps.upd hp) <;> [skip; (with_reducible rfl); (with_reducible rfl)]))

theorem keeps_operatingTimeSave (s : State) :
    Keeps { store := true, tel := true } s (operatingTimeSave s) := by
  refine Keeps.start fun p s0 hp h => ?_
  unfold operatingTimeSave
  repeat' (first
    | ((with_reducible refine Parts.le_trans ?_ hp); exact rfl)
    | with_reducible assumption
    | (intro x; clear_value x)
    | lift_lets
    | split
    | with_reducible apply Keeps.via (keeps_persist _ _ _)
    | fail_if_no_progress ((with_reducible apply Keeps.upd hp) <;> [skip; (with_reducible rfl); (with_reducible rfl)]))

/-! ### Operations of Machine/Sessions.lean -/

theorem keeps_tlsHandshakeComplete (conn : Nat) (port : Fin 2) (ip : W32) (clientKey : W256) (s : State) :
    Keeps { ses := true } s (tlsHandshakeComplete conn port ip clientKey s) := by
  refine Keeps.start fun p s0 hp h => ?_
  unfold tlsHandshakeComplete
  repeat' (first
    | with_reducible assumption
    | (intro x; clear_value x)
    | lift_lets
    | split
    | fail_if_no_progress ((with_reducible apply Keeps.upd hp) <;> [skip; (with_reducible rfl); (with_reducible rfl)]))

theorem keeps_dropConn (conn : Nat) (s : State) :
    Keeps { ses := true } s (dropConn conn s) := by
  refine Keeps.start fun p s0 hp h => ?_
  unfold dropConn
  repeat' (first
    | with_reducible assumption
    | (intro x; clear_value x)
    | lift_lets
    | fail_if_no_progress ((with_reducible apply Keeps.upd hp) <;> [skip; (with_reducible rfl); (with_reducible rfl)]))

theorem keeps_openTimeout (conn : Nat) (s : State) :
    Keeps { ses := true, out := true } s (openTimeout conn s) := by
  refine Keeps.start fun p s0 hp h => ?_
  unfold openTimeout
  repeat' (first
    | ((with_reducible refine Parts.le_trans ?_ hp); exact rfl)
    | with_reducible assumption
    | lift_lets
    | split
    | with_reducible apply Keeps.via (keeps_emit _ _)
    | with_reducible apply Keeps.via (keeps_dropConn _ _))

theorem keeps_refuseOpen (c : Conn) (tag : W32) (cause : Nat) (s : State) :
    Keeps { ses := true, evr := true, out := true } s (refuseOpen c tag cause s) := by
  refine Keeps.start fun p s0 hp h => ?_
  unfold refuseOpen
  repeat' (first
    | ((with_reducible refine Parts.le_trans ?_ hp); exact rfl)
    | with_reducible assumption
    | (intro x; refine_lift have hx : Keeps p s0 x := ?_; ?_; on_goal 2 => unfold x; on_goal 1 => clear_value x)
    | (intro x; clear_value x)
    | lift_lets
    | split
    | with_reducible apply Keeps.via (keeps_emit _ _)
    | with_reducible apply Keeps.via (keeps_logEv _ _ _ _)
    | with_reducible apply Keeps.via (keeps_dropConn _ _)
    | fail_if_no_progress ((with_reducible apply Keeps.upd hp) <;> [skip; (with_reducible rfl); (with_reducible rfl)]))

theorem keeps_acceptOpen (c : Conn) (tag : W32) (g : Grant) (n : Fin 64) (s : State) :
    Keeps { ses := true, evr := true, out := true } s (acceptOpen c tag g n s) := by
  refine Keeps.start fun p s0 hp h => ?_
  unfold acceptOpen
  repeat' (first
    | ((with_reducible refine Parts.le_trans ?_ hp); exact rfl)
    | with_reducible assumption
    | (intro x; refine_lift have hx : Keeps p s0 x := ?_; ?_; on_goal 2 => unfold x; on_goal 1 => clear_value x)
    | (intro x; clear_value x)
    | lift_lets
    | with_reducible apply Keeps.via (keeps_logSes _ _ _ _ _)
    | with_reducible apply Keeps.via (keeps_onSess _ _ _)
    | with_reducible apply Keeps.via (keeps_reply _ _ _ _ _ _)
    | with_reducible apply Keeps.via (keeps_dropConn _ _)
    | fail_if_no_progress ((with_reducible apply Keeps.upd hp) <;> [skip; (with_reducible rfl); (with_reducible rfl)]))

theorem keeps_openService (conn : Nat) (tag : W32) (cred : List Byte) (s : State) :
    Keeps { ses := true, evr := true, out := true } s (openService conn tag cred s) := by
  refine Keeps.start fun p s0 hp h => ?_
  unfold openService
  repeat' (first
    | ((with_reducible refine Parts.le_trans ?_ hp); exact rfl)
    | with_reducible assumption
    | lift_lets
    | split
    | with_reducible apply Keeps.via (keeps_emit _ _)
    | with_reducible apply Keeps.via (keeps_dropConn _ _)
    | with_reducible apply Keeps.via (keeps_refuseOpen _ _ _ _)
    | with_reducible apply Keeps.via (keeps_acceptOpen _ _ _ _ _))

theorem keeps_closeEnrolment (cause : Nat) (s : State) :
    Keeps { ses := true, evr := true, lcd := true } s (closeEnrolment cause s) := by
  refine Keeps.start fun p s0 hp h => ?_
  unfold closeEnrolment
  repeat' (first
    | ((with_reducible refine Parts.le_trans ?_ hp); exact rfl)
    | with_reducible assumption
    | (intro x; clear_value x)
    | lift_lets
    | split
    | with_reducible apply Keeps.via (keeps_logEv _ _ _ _)
    | with_reducible apply Keeps.via (keeps_showModule _)
    | fail_if_no_progress ((with_reducible apply Keeps.upd hp) <;> [skip; (with_reducible rfl); (with_reducible rfl)]))

theorem keeps_enrolmentWakeHold (s : State) :
    Keeps { ses := true, evr := true, lcd := true } s (enrolmentWakeHold s) := by
  refine Keeps.start fun p s0 hp h => ?_
  unfold enrolmentWakeHold
  repeat' (first
    | ((with_reducible refine Parts.le_trans ?_ hp); exact rfl)
    | with_reducible assumption
    | (intro x; refine_lift have hx : Keeps p s0 x := ?_; ?_; on_goal 2 => unfold x; on_goal 1 => clear_value x)
    | (intro x; clear_value x)
    | lift_lets
    | split
    | with_reducible apply Keeps.via (keeps_logEv _ _ _ _)
    | with_reducible apply Keeps.via (keeps_panelActive _)
    | with_reducible apply Keeps.via (keeps_showModule _)
    | fail_if_no_progress ((with_reducible apply Keeps.upd hp) <;> [skip; (with_reducible rfl); (with_reducible rfl)]))

theorem keeps_enrolmentSessionClose (s : State) :
    Keeps { tsk := true, img := true, lsk := true, pair := true, lease := true, mir := true, links := true, io := true, ses := true, pwr := true, evr := true, lcd := true, mod := true, out := true } s (enrolmentSessionClose s) := by
  refine Keeps.start fun p s0 hp h => ?_
  unfold enrolmentSessionClose
  repeat' (first
    | ((with_reducible refine Parts.le_trans ?_ hp); exact rfl)
    | with_reducible assumption
    | (intro x; clear_value x)
    | intro x
    | lift_lets
    | split
    | with_reducible apply Keeps.via (keeps_closeSession _ _ _)
    | with_reducible apply keeps_overAll
    | fail_if_no_progress ((with_reducible apply Keeps.upd hp) <;> [skip; (with_reducible rfl); (with_reducible rfl)]))

theorem keeps_acquire (q : Req) (s : State) :
    Keeps { lsk := true, pair := true, ses := true, evr := true, out := true } s (acquire q s) := by
  refine Keeps.start fun p s0 hp h => ?_
  unfold acquire
  repeat' (first
    | ((with_reducible refine Parts.le_trans ?_ hp); exact rfl)
    | with_reducible assumption
    | (intro x; clear_value x)
    | lift_lets
    | split
    | with_reducible apply Keeps.via (keeps_logSes _ _ _ _ _)
    | with_reducible apply Keeps.via (keeps_answer _ _ _ _)
    | fail_if_no_progress ((with_reducible apply Keeps.upd hp) <;> [skip; (with_reducible rfl); (with_reducible rfl)]))

theorem keeps_releaseClaim (q : Req) (s : State) :
    Keeps { img := true, lsk := true, pair := true, ses := true, evr := true, lcd := true, out := true } s (releaseClaim q s) := by
  refine Keeps.start fun p s0 hp h => ?_
  unfold releaseClaim
  repeat' (first
    | ((with_reducible refine Parts.le_trans ?_ hp); exact rfl)
    | with_reducible assumption
    | lift_lets
    | split
    | with_reducible apply Keeps.via (keeps_answer _ _ _ _)
    | with_reducible apply Keeps.via (keeps_endClaim _ _))

theorem keeps_sesClose (q : Req) (s : State) :
    Keeps { tsk := true, img := true, lsk := true, pair := true, lease := true, mir := true, links := true, io := true, ses := true, pwr := true, evr := true, lcd := true, mod := true, out := true } s (sesClose q s) := by
  refine Keeps.start fun p s0 hp h => ?_
  unfold sesClose
  repeat' (first
    | ((with_reducible refine Parts.le_trans ?_ hp); exact rfl)
    | with_reducible assumption
    | lift_lets
    | split
    | with_reducible apply Keeps.via (keeps_answer _ _ _ _)
    | with_reducible apply Keeps.via (keeps_closeSession _ _ _))

theorem keeps_breakClaim (q : Req) (s : State) :
    Keeps { img := true, lsk := true, pair := true, ses := true, evr := true, lcd := true, out := true } s (breakClaim q s) := by
  refine Keeps.start fun p s0 hp h => ?_
  unfold breakClaim
  repeat' (first
    | ((with_reducible refine Parts.le_trans ?_ hp); exact rfl)
    | with_reducible assumption
    | lift_lets
    | split
    | with_reducible apply Keeps.via (keeps_answer _ _ _ _)
    | with_reducible apply Keeps.via (keeps_endClaim _ _))

theorem keeps_violClr (value : W32) (se : Fin 64) (s : State) :
    Keeps { ses := true } s (violClr value se s) := by
  refine Keeps.start fun p s0 hp h => ?_
  unfold violClr
  repeat' (first
    | ((with_reducible refine Parts.le_trans ?_ hp); exact rfl)
    | with_reducible assumption
    | split
    | with_reducible apply Keeps.via (keeps_onSess _ _ _))

theorem keeps_mapsync (value : W32) (se : Fin 64) (s : State) :
    Keeps { ses := true } s (mapsync value se s) := by
  refine Keeps.start fun p s0 hp h => ?_
  unfold mapsync
  repeat' (first
    | ((with_reducible refine Parts.le_trans ?_ hp); exact rfl)
    | with_reducible assumption
    | split
    | with_reducible apply Keeps.via (keeps_onSess _ _ _))

theorem keeps_mapsyncComplete (se : Fin 64) (s : State) :
    Keeps { ses := true } s (mapsyncComplete se s) := by
  refine Keeps.start fun p s0 hp h => ?_
  unfold mapsyncComplete
  repeat' (first
    | ((with_reducible refine Parts.le_trans ?_ hp); exact rfl)
    | with_reducible assumption
    | split
    | with_reducible apply Keeps.via (keeps_onSess _ _ _))

end Sys2Proof.Machine
end

