-- ==== Sys2Proof/Laws/KeepsModule.lean ====
section
/-!
SUPPORT. What each operation of these files keeps: Vale, Startup, Debug, Pair, StateCmd, Commands, Host, Relay, Window.
-/

namespace Sys2Proof.Machine

/-! ### Operations of Machine/Vale.lean -/

theorem keeps_seeEpoch (l : Fin 24) (e : W32) (s : State) :
    Keeps { lease := true } s (seeEpoch l e s) := by
  refine Keeps.start fun p s0 hp h => ?_
  unfold seeEpoch
  repeat' (first
    | with_reducible assumption
    | (intro x; clear_value x)
    | lift_lets
    | fail_if_no_progress ((with_reducible apply Keeps.upd hp) <;> [skip; (with_reducible rfl); (with_reducible rfl)]))

theorem keeps_forgetEpoch (l : Fin 24) (s : State) :
    Keeps { lease := true } s (forgetEpoch l s) := by
  refine Keeps.start fun p s0 hp h => ?_
  unfold forgetEpoch
  repeat' (first
    | with_reducible assumption
    | (intro x; clear_value x)
    | lift_lets
    | fail_if_no_progress ((with_reducible apply Keeps.upd hp) <;> [skip; (with_reducible rfl); (with_reducible rfl)]))

theorem keeps_heardFrame (l : Fin 24) (p : Fin 32) (payload : Nat) (hops : Byte) (s : State) :
    Keeps { links := true } s (heardFrame l p payload hops s) := by
  refine Keeps.start fun p s0 hp h => ?_
  unfold heardFrame
  repeat' (first
    | ((with_reducible refine Parts.le_trans ?_ hp); exact rfl)
    | with_reducible assumption
    | lift_lets
    | with_reducible apply Keeps.via (keeps_onLink _ _ _)
    | with_reducible apply Keeps.via (keeps_onStn _ _ _ _))

theorem keeps_heardReply (l : Fin 24) (payload : Nat) (s : State) :
    Keeps { links := true } s (heardReply l payload s) := by
  refine Keeps.start fun p s0 hp h => ?_
  unfold heardReply
  repeat' (first
    | ((with_reducible refine Parts.le_trans ?_ hp); exact rfl)
    | with_reducible assumption
    | lift_lets
    | with_reducible apply Keeps.via (keeps_onLink _ _ _))

theorem keeps_valeInputReceive (f : InputFrame) (s : State) :
    Keeps { lsk := true, pair := true, lease := true, links := true, evr := true, out := true } s (valeInputReceive f s) := by
  refine Keeps.start fun p s0 hp h => ?_
  unfold valeInputReceive
  repeat' (first
    | ((with_reducible refine Parts.le_trans ?_ hp); exact rfl)
    | with_reducible assumption
    | (intro x; refine_lift have hx : Keeps p s0 x := ?_; ?_; on_goal 2 => unfold x; on_goal 1 => clear_value x)
    | (intro x; clear_value x)
    | lift_lets
    | split
    | with_reducible apply Keeps.via (keeps_onLink _ _ _)
    | with_reducible apply Keeps.via (keeps_onStn _ _ _ _)
    | with_reducible apply Keeps.via (keeps_takeSample _ _)
    | with_reducible apply Keeps.via (keeps_seeEpoch _ _ _)
    | with_reducible apply Keeps.via (keeps_heardFrame _ _ _ _ _))

theorem keeps_relayedSampleReceive (m : Sample) (s : State) :
    Keeps { links := true } s (relayedSampleReceive m s) := by
  refine Keeps.start fun p s0 hp h => ?_
  unfold relayedSampleReceive
  repeat' (first
    | ((with_reducible refine Parts.le_trans ?_ hp); exact rfl)
    | with_reducible assumption
    | lift_lets
    | with_reducible apply Keeps.via (keeps_onLink _ _ _)
    | with_reducible apply Keeps.via (keeps_onStn _ _ _ _)
    | with_reducible apply Keeps.via (keeps_keepSample _ _))

theorem keeps_verdictOf (l : Fin 24) (p : Fin 32) (e : StationEntry) (s : State) :
    Keeps { tsk := true, lsk := true, pair := true, mir := true, links := true, ses := true, evr := true, out := true } s (verdictOf l p e s) := by
  refine Keeps.start fun p s0 hp h => ?_
  unfold verdictOf
  repeat' (first
    | ((with_reducible refine Parts.le_trans ?_ hp); exact rfl)
    | with_reducible assumption
    | (intro x; clear_value x)
    | lift_lets
    | split
    | with_reducible apply Keeps.via (keeps_goOut _ _ _ _)
    | with_reducible apply Keeps.via (keeps_comeIn _ _ _))

theorem keeps_sampleDue (l : Fin 24) (p : Fin 32) (s : State) :
    Keeps { tsk := true, lsk := true, pair := true, mir := true, links := true, ses := true, evr := true, out := true } s (sampleDue l p s) := by
  refine Keeps.start fun p s0 hp h => ?_
  unfold sampleDue
  repeat' (first
    | ((with_reducible refine Parts.le_trans ?_ hp); exact rfl)
    | with_reducible assumption
    | (intro x; refine_lift have hx : Keeps p s0 x := ?_; ?_; on_goal 2 => unfold x; on_goal 1 => clear_value x)
    | (intro x; clear_value x)
    | lift_lets
    | split
    | with_reducible apply Keeps.via (keeps_onLink _ _ _)
    | with_reducible apply Keeps.via (keeps_onStn _ _ _ _)
    | with_reducible apply Keeps.via (keeps_verdictOf _ _ _ _))

theorem keeps_identRespReceive (m : IdentResp) (s : State) :
    Keeps { tsk := true, lsk := true, pair := true, lease := true, links := true, ses := true, evr := true, out := true } s (identRespReceive m s) := by
  refine Keeps.start fun p s0 hp h => ?_
  unfold identRespReceive
  repeat' (first
    | ((with_reducible refine Parts.le_trans ?_ hp); exact rfl)
    | with_reducible assumption
    | (intro x; refine_lift have hx : Keeps p s0 x := ?_; ?_; on_goal 2 => unfold x; on_goal 1 => clear_value x)
    | lift_lets
    | split
    | with_reducible apply Keeps.via (keeps_onStn _ _ _ _)
    | with_reducible apply Keeps.via (keeps_showStep _ _ _ _)
    | with_reducible apply Keeps.via (keeps_sendSegment _ _ _ _ _)
    | with_reducible apply Keeps.via (keeps_refuseStation _ _ _ _ _)
    | with_reducible apply Keeps.via (keeps_seeEpoch _ _ _)
    | with_reducible apply Keeps.via (keeps_heardFrame _ _ _ _ _))

theorem keeps_paramAckReceive (l : Fin 24) (p : Fin 32) (epoch : W32) (offset : Nat) (result : Fin 4) (reason : Byte) (s : State) :
    Keeps { tsk := true, lsk := true, pair := true, lease := true, links := true, ses := true, evr := true, out := true } s (paramAckReceive l p epoch offset result reason s) := by
  refine Keeps.start fun p s0 hp h => ?_
  unfold paramAckReceive
  repeat' (first
    | ((with_reducible refine Parts.le_trans ?_ hp); exact rfl)
    | with_reducible assumption
    | (intro x; refine_lift have hx : Keeps p s0 x := ?_; ?_; on_goal 2 => unfold x; on_goal 1 => clear_value x)
    | (intro x; clear_value x)
    | lift_lets
    | split
    | with_reducible apply Keeps.via (keeps_onBring _ _ _ _)
    | with_reducible apply Keeps.via (keeps_showStep _ _ _ _)
    | with_reducible apply Keeps.via (keeps_sendSegment _ _ _ _ _)
    | with_reducible apply Keeps.via (keeps_sendStart _ _ _ _)
    | with_reducible apply Keeps.via (keeps_refuseStation _ _ _ _ _)
    | with_reducible apply Keeps.via (keeps_seeEpoch _ _ _)
    | with_reducible apply Keeps.via (keeps_heardReply _ _ _))

theorem keeps_startAckReceive (l : Fin 24) (p : Fin 32) (epoch : W32) (result : Fin 4) (s : State) :
    Keeps { tsk := true, lsk := true, pair := true, lease := true, links := true, ses := true, evr := true, out := true } s (startAckReceive l p epoch result s) := by
  refine Keeps.start fun p s0 hp h => ?_
  unfold startAckReceive
  repeat' (first
    | ((with_reducible refine Parts.le_trans ?_ hp); exact rfl)
    | with_reducible assumption
    | (intro x; refine_lift have hx : Keeps p s0 x := ?_; ?_; on_goal 2 => unfold x; on_goal 1 => clear_value x)
    | (intro x; clear_value x)
    | lift_lets
    | split
    | with_reducible apply Keeps.via (keeps_onStn _ _ _ _)
    | with_reducible apply Keeps.via (keeps_onBring _ _ _ _)
    | with_reducible apply Keeps.via (keeps_showStep _ _ _ _)
    | with_reducible apply Keeps.via (keeps_sendSegment _ _ _ _ _)
    | with_reducible apply Keeps.via (keeps_refuseStation _ _ _ _ _)
    | with_reducible apply Keeps.via (keeps_seeEpoch _ _ _)
    | with_reducible apply Keeps.via (keeps_heardReply _ _ _))

theorem keeps_stationStatusReceive (m : StationStatus) (s : State) :
    Keeps { lease := true, mir := true, links := true } s (stationStatusReceive m s) := by
  refine Keeps.start fun p s0 hp h => ?_
  unfold stationStatusReceive
  repeat' (first
    | ((with_reducible refine Parts.le_trans ?_ hp); exact rfl)
    | with_reducible assumption
    | (intro x; refine_lift have hx : Keeps p s0 x := ?_; ?_; on_goal 2 => unfold x; on_goal 1 => clear_value x)
    | (intro x; clear_value x)
    | lift_lets
    | split
    | with_reducible apply Keeps.via (keeps_onStn _ _ _ _)
    | with_reducible apply Keeps.via (keeps_seeEpoch _ _ _)
    | with_reducible apply Keeps.via (keeps_heardFrame _ _ _ _ _)
    | fail_if_no_progress ((with_reducible apply Keeps.upd hp) <;> [skip; (with_reducible rfl); (with_reducible rfl)]))

theorem keeps_stationReplyTimeout (l : Fin 24) (p : Fin 32) (s : State) :
    Keeps { tsk := true, lsk := true, pair := true, links := true, ses := true, evr := true, out := true } s (stationReplyTimeout l p s) := by
  refine Keeps.start fun p s0 hp h => ?_
  unfold stationReplyTimeout
  repeat' (first
    | ((with_reducible refine Parts.le_trans ?_ hp); exact rfl)
    | with_reducible assumption
    | (intro x; clear_value x)
    | lift_lets
    | split
    | with_reducible apply Keeps.via (keeps_onStn _ _ _ _)
    | with_reducible apply Keeps.via (keeps_onBring _ _ _ _)
    | with_reducible apply Keeps.via (keeps_manage _ _ _ _ _)
    | with_reducible apply Keeps.via (keeps_showStep _ _ _ _)
    | with_reducible apply Keeps.via (keeps_sendSegment _ _ _ _ _)
    | with_reducible apply Keeps.via (keeps_sendStart _ _ _ _)
    | with_reducible apply Keeps.via (keeps_stationDone _ _ _)
    | with_reducible apply Keeps.via (keeps_refuseStation _ _ _ _ _))

theorem keeps_stationSearchPoll (l : Fin 24) (s : State) :
    Keeps { lsk := true, links := true, out := true } s (stationSearchPoll l s) := by
  refine Keeps.start fun p s0 hp h => ?_
  unfold stationSearchPoll
  repeat' (first
    | ((with_reducible refine Parts.le_trans ?_ hp); exact rfl)
    | with_reducible assumption
    | (intro x; clear_value x)
    | intro x
    | lift_lets
    | split
    | with_reducible apply Keeps.via (keeps_onLink _ _ _)
    | with_reducible apply Keeps.via (keeps_enumerate _ _)
    | with_reducible apply Keeps.via (keeps_askIdent _ _ _)
    | with_reducible apply keeps_overAll)

theorem keeps_stationRefusedRetry (l : Fin 24) (p : Fin 32) (s : State) :
    Keeps { lsk := true, links := true, out := true } s (stationRefusedRetry l p s) := by
  refine Keeps.start fun p s0 hp h => ?_
  unfold stationRefusedRetry
  repeat' (first
    | ((with_reducible refine Parts.le_trans ?_ hp); exact rfl)
    | with_reducible assumption
    | split
    | with_reducible apply Keeps.via (keeps_askIdent _ _ _))

theorem keeps_bringLink (l : Fin 24) (s : State) :
    Keeps { lsk := true, links := true, out := true } s (bringLink l s) := by
  refine Keeps.start fun p s0 hp h => ?_
  unfold bringLink
  repeat' (first
    | ((with_reducible refine Parts.le_trans ?_ hp); exact rfl)
    | with_reducible assumption
    | intro x
    | lift_lets
    | with_reducible apply Keeps.via (keeps_enumerate _ _)
    | with_reducible apply Keeps.via (keeps_askIdent _ _ _)
    | with_reducible apply Keeps.via (keeps_showStep _ _ _ _)
    | with_reducible apply keeps_overAll)

theorem keeps_valePortUp (l : Fin 24) (s : State) :
    Keeps { lsk := true, lease := true, links := true, evr := true, out := true } s (valePortUp l s) := by
  refine Keeps.start fun p s0 hp h => ?_
  unfold valePortUp
  repeat' (first
    | ((with_reducible refine Parts.le_trans ?_ hp); exact rfl)
    | with_reducible assumption
    | (intro x; refine_lift have hx : Keeps p s0 x := ?_; ?_; on_goal 2 => unfold x; on_goal 1 => clear_value x)
    | lift_lets
    | split
    | with_reducible apply Keeps.via (keeps_logEv _ _ _ _)
    | with_reducible apply Keeps.via (keeps_onLink _ _ _)
    | with_reducible apply Keeps.via (keeps_forgetEpoch _ _)
    | with_reducible apply Keeps.via (keeps_bringLink _ _))

theorem keeps_valePortDown (l : Fin 24) (s : State) :
    Keeps { links := true, evr := true } s (valePortDown l s) := by
  refine Keeps.start fun p s0 hp h => ?_
  unfold valePortDown
  repeat' (first
    | ((with_reducible refine Parts.le_trans ?_ hp); exact rfl)
    | with_reducible assumption
    | lift_lets
    | split
    | with_reducible apply Keeps.via (keeps_logEv _ _ _ _)
    | with_reducible apply Keeps.via (keeps_onLink _ _ _))

theorem keeps_partnerFrameReceive (m : PartnerFrame) (s : State) :
    Keeps { links := true, evr := true } s (partnerFrameReceive m s) := by
  refine Keeps.start fun p s0 hp h => ?_
  unfold partnerFrameReceive
  repeat' (first
    | ((with_reducible refine Parts.le_trans ?_ hp); exact rfl)
    | with_reducible assumption
    | (intro x; refine_lift have hx : Keeps p s0 x := ?_; ?_; on_goal 2 => unfold x; on_goal 1 => clear_value x)
    | (intro x; clear_value x)
    | lift_lets
    | split
    | with_reducible apply Keeps.via (keeps_logEv _ _ _ _)
    | with_reducible apply Keeps.via (keeps_onLink _ _ _)
    | with_reducible apply Keeps.via (keeps_heardReply _ _ _))

theorem keeps_ringOpenTimeout (l : Fin 24) (s : State) :
    Keeps { links := true, evr := true } s (ringOpenTimeout l s) := by
  refine Keeps.start fun p s0 hp h => ?_
  unfold ringOpenTimeout
  repeat' (first
    | ((with_reducible refine Parts.le_trans ?_ hp); exact rfl)
    | with_reducible assumption
    | (intro x; refine_lift have hx : Keeps p s0 x := ?_; ?_; on_goal 2 => unfold x; on_goal 1 => clear_value x)
    | (intro x; clear_value x)
    | lift_lets
    | split
    | with_reducible apply Keeps.via (keeps_logEv _ _ _ _)
    | with_reducible apply Keeps.via (keeps_onLink _ _ _))

theorem keeps_partnerStationMapReceive (maps : List (Fin 24 × W32)) (s : State) :
    Keeps { links := true } s (partnerStationMapReceive maps s) := by
  refine Keeps.start fun p s0 hp h => ?_
  unfold partnerStationMapReceive
  repeat' (first
    | ((with_reducible refine Parts.le_trans ?_ hp); exact rfl)
    | with_reducible assumption
    | intro x
    | lift_lets
    | with_reducible apply Keeps.via (keeps_onLink _ _ _)
    | with_reducible apply keeps_overAll)

theorem keeps_pdelayMeasurement (l : Fin 24) (s : State) :
    Keeps { lsk := true, links := true, out := true } s (pdelayMeasurement l s) := by
  refine Keeps.start fun p s0 hp h => ?_
  unfold pdelayMeasurement
  repeat' (first
    | ((with_reducible refine Parts.le_trans ?_ hp); exact rfl)
    | with_reducible assumption
    | lift_lets
    | split
    | with_reducible apply Keeps.via (keeps_onLink _ _ _)
    | with_reducible apply Keeps.via (keeps_valeSend _ _ _ _ _ _ _))

theorem keeps_pdelayRespReceive (l : Fin 24) (epoch : W32) (t4 turn : Nat) (s : State) :
    Keeps { lease := true, links := true } s (pdelayRespReceive l epoch t4 turn s) := by
  refine Keeps.start fun p s0 hp h => ?_
  unfold pdelayRespReceive
  repeat' (first
    | ((with_reducible refine Parts.le_trans ?_ hp); exact rfl)
    | with_reducible assumption
    | (intro x; refine_lift have hx : Keeps p s0 x := ?_; ?_; on_goal 2 => unfold x; on_goal 1 => clear_value x)
    | lift_lets
    | split
    | with_reducible apply Keeps.via (keeps_onLink _ _ _)
    | with_reducible apply Keeps.via (keeps_seeEpoch _ _ _)
    | with_reducible apply Keeps.via (keeps_heardReply _ _ _))

theorem keeps_sendTime (l : Fin 24) (s : State) :
    Keeps { lsk := true, links := true, out := true } s (sendTime l s) := by
  refine Keeps.start fun p s0 hp h => ?_
  unfold sendTime
  repeat' (first
    | ((with_reducible refine Parts.le_trans ?_ hp); exact rfl)
    | with_reducible assumption
    | with_reducible apply Keeps.via (keeps_valePut _ _ _ _))

theorem keeps_valeTimeSend (s : State) :
    Keeps { tb := true, lsk := true, links := true, out := true } s (valeTimeSend s) := by
  refine Keeps.start fun p s0 hp h => ?_
  unfold valeTimeSend
  repeat' (first
    | ((with_reducible refine Parts.le_trans ?_ hp); exact rfl)
    | with_reducible assumption
    | (intro x; clear_value x)
    | intro x
    | lift_lets
    | split
    | with_reducible apply Keeps.via (keeps_sendTime _ _)
    | with_reducible apply keeps_overAll
    | fail_if_no_progress ((with_reducible apply Keeps.upd hp) <;> [skip; (with_reducible rfl); (with_reducible rfl)]))

theorem keeps_repeatTask (t : TaskEntry) (s : State) :
    Keeps { lsk := true, links := true, out := true } s (repeatTask t s) := by
  refine Keeps.start fun p s0 hp h => ?_
  unfold repeatTask
  repeat' (first
    | ((with_reducible refine Parts.le_trans ?_ hp); exact rfl)
    | with_reducible assumption
    | (intro x; clear_value x)
    | intro x
    | lift_lets
    | split
    | with_reducible apply Keeps.via (keeps_stationOutputs _ _ _ _ _ _)
    | with_reducible apply keeps_overAll)

theorem keeps_eventOutputRepeat (s : State) :
    Keeps { tsk := true, lsk := true, links := true, out := true } s (eventOutputRepeat s) := by
  refine Keeps.start fun p s0 hp h => ?_
  unfold eventOutputRepeat
  repeat' (first
    | ((with_reducible refine Parts.le_trans ?_ hp); exact rfl)
    | with_reducible assumption
    | (intro x; clear_value x)
    | intro x
    | lift_lets
    | split
    | with_reducible apply Keeps.via (keeps_repeatTask _ _)
    | with_reducible apply keeps_overAll
    | fail_if_no_progress ((with_reducible apply Keeps.upd hp) <;> [skip; (with_reducible rfl); (with_reducible rfl)]))

theorem keeps_resetStation (l : Fin 24) (p : Fin 32) (s : State) :
    Keeps { tsk := true, mir := true, links := true, evr := true, out := true } s (resetStation l p s) := by
  refine Keeps.start fun p s0 hp h => ?_
  unfold resetStation
  repeat' (first
    | ((with_reducible refine Parts.le_trans ?_ hp); exact rfl)
    | with_reducible assumption
    | (intro x; refine_lift have hx : Keeps p s0 x := ?_; ?_; on_goal 2 => unfold x; on_goal 1 => clear_value x)
    | lift_lets
    | split
    | with_reducible apply Keeps.via (keeps_onStn _ _ _ _)
    | with_reducible apply Keeps.via (keeps_showStep _ _ _ _)
    | with_reducible apply Keeps.via (keeps_goOut _ _ _ _))

theorem keeps_restartStation (p : Fin 32) (q : Req) (s : State) :
    Keeps { tsk := true, lsk := true, pair := true, mir := true, links := true, ses := true, evr := true, out := true } s (restartStation p q s) := by
  refine Keeps.start fun p s0 hp h => ?_
  unfold restartStation
  repeat' (first
    | ((with_reducible refine Parts.le_trans ?_ hp); exact rfl)
    | with_reducible assumption
    | (intro x; refine_lift have hx : Keeps p s0 x := ?_; ?_; on_goal 2 => unfold x; on_goal 1 => clear_value x)
    | intro x
    | lift_lets
    | split
    | with_reducible apply Keeps.via (keeps_onStn _ _ _ _)
    | with_reducible apply Keeps.via (keeps_answer _ _ _ _)
    | with_reducible apply Keeps.via (keeps_manage _ _ _ _ _)
    | with_reducible apply Keeps.via (keeps_enumerate _ _)
    | with_reducible apply Keeps.via (keeps_askIdent _ _ _)
    | with_reducible apply Keeps.via (keeps_resetStation _ _ _))

theorem keeps_restartLink (q : Req) (s : State) :
    Keeps { tsk := true, lsk := true, pair := true, mir := true, links := true, ses := true, evr := true, out := true } s (restartLink q s) := by
  refine Keeps.start fun p s0 hp h => ?_
  unfold restartLink
  repeat' (first
    | ((with_reducible refine Parts.le_trans ?_ hp); exact rfl)
    | with_reducible assumption
    | (intro x; refine_lift have hx : Keeps p s0 x := ?_; ?_; on_goal 2 => unfold x; on_goal 1 => clear_value x)
    | intro x
    | lift_lets
    | split
    | with_reducible apply Keeps.via (keeps_onLink _ _ _)
    | with_reducible apply Keeps.via (keeps_answer _ _ _ _)
    | with_reducible apply Keeps.via (keeps_manage _ _ _ _ _)
    | with_reducible apply Keeps.via (keeps_bringLink _ _)
    | with_reducible apply Keeps.via (keeps_resetStation _ _ _)
    | with_reducible apply keeps_overAll)

theorem keeps_retryStation (p : Fin 32) (q : Req) (s : State) :
    Keeps { lsk := true, pair := true, links := true, ses := true, out := true } s (retryStation p q s) := by
  refine Keeps.start fun p s0 hp h => ?_
  unfold retryStation
  repeat' (first
    | ((with_reducible refine Parts.le_trans ?_ hp); exact rfl)
    | with_reducible assumption
    | (intro x; clear_value x)
    | intro x
    | lift_lets
    | split
    | with_reducible apply Keeps.via (keeps_onStn _ _ _ _)
    | with_reducible apply Keeps.via (keeps_answer _ _ _ _)
    | with_reducible apply Keeps.via (keeps_askIdent _ _ _))

/-! ### Operations of Machine/Startup.lean -/

theorem keeps_swapFw (s : State) :
    Keeps { mod := true } s (swapFw s) := by
  refine Keeps.start fun p s0 hp h => ?_
  unfold swapFw
  repeat' (first
    | with_reducible assumption
    | (intro x; clear_value x)
    | lift_lets
    | fail_if_no_progress ((with_reducible apply Keeps.upd hp) <;> [skip; (with_reducible rfl); (with_reducible rfl)]))

theorem keeps_logFirmware (alt : Bool) (s : State) :
    Keeps { evr := true } s (logFirmware alt s) := by
  refine Keeps.start fun p s0 hp h => ?_
  unfold logFirmware
  repeat' (first
    | ((with_reducible refine Parts.le_trans ?_ hp); exact rfl)
    | with_reducible assumption
    | (intro x; clear_value x)
    | lift_lets
    | with_reducible apply Keeps.via (keeps_logEv _ _ _ _))

theorem keeps_chooseFirmware (selOk otherOk : Bool) (s : State) :
    Keeps { evr := true, mod := true } s (chooseFirmware selOk otherOk s).2 := by
  refine Keeps.start fun p s0 hp h => ?_
  unfold chooseFirmware
  repeat' (first
    | ((with_reducible refine Parts.le_trans ?_ hp); exact rfl)
    | with_reducible assumption
    | (intro x; refine_lift have hx : Keeps p s0 x := ?_; ?_; on_goal 2 => unfold x; on_goal 1 => clear_value x)
    | (intro x; clear_value x)
    | lift_lets
    | split
    | with_reducible apply Keeps.via (keeps_logFirmware _ _)
    | fail_if_no_progress ((with_reducible apply Keeps.upd hp) <;> [skip; (with_reducible rfl); (with_reducible rfl)]))

theorem keeps_savedTime (s : State) :
    Keeps { tb := true, tsk := true, pair := true, lease := true, links := true, io := true, can := true, ses := true, pwr := true, tel := true, evr := true, lcd := true, mod := true } s (savedTime s) := by
  refine Keeps.start fun p s0 hp h => ?_
  unfold savedTime
  repeat' (first
    | ((with_reducible refine Parts.le_trans ?_ hp); exact rfl)
    | with_reducible assumption
    | (intro x; clear_value x)
    | lift_lets
    | split
    | with_reducible apply Keeps.via (keeps_setTime _ _ _)
    | fail_if_no_progress ((with_reducible apply Keeps.upd hp) <;> [skip; (with_reducible rfl); (with_reducible rfl)]))

theorem keeps_enterConfig (s : State) :
    Keeps { cells := true, store := true, tb := true, tbAcc := true, tbLat := true, tsk := true, img := true, frc := true, laneA := true, laneB := true, lsk := true, pair := true, lease := true, mir := true, links := true, io := true, can := true, ses := true, pwr := true, tel := true, evr := true, lcd := true, mod := true, out := true } s (enterConfig s) := by
  refine Keeps.start fun p s0 hp h => ?_
  unfold enterConfig
  repeat' (first
    | ((with_reducible refine Parts.le_trans ?_ hp); exact rfl)
    | with_reducible assumption
    | (intro x; refine_lift have hx : Keeps p s0 x := ?_; ?_; on_goal 2 => unfold x; on_goal 1 => clear_value x)
    | (intro x; clear_value x)
    | lift_lets
    | split
    | with_reducible apply Keeps.via (keeps_enterState _ _ _ _)
    | with_reducible apply Keeps.via (keeps_powerOnIslands _)
    | with_reducible apply Keeps.via (keeps_madeCold _)
    | with_reducible apply Keeps.via (keeps_savedTime _)
    | fail_if_no_progress ((with_reducible apply Keeps.upd hp) <;> [skip; (with_reducible rfl); (with_reducible rfl)]))

theorem keeps_bootFails (code : Nat) (s : State) :
    Keeps { ses := true, evr := true, lcd := true, mod := true } s (bootFails code s) := by
  refine Keeps.start fun p s0 hp h => ?_
  unfold bootFails
  repeat' (first
    | ((with_reducible refine Parts.le_trans ?_ hp); exact rfl)
    | with_reducible assumption
    | (intro x; clear_value x)
    | lift_lets
    | with_reducible apply Keeps.via (keeps_enterState _ _ _ _)
    | fail_if_no_progress ((with_reducible apply Keeps.upd hp) <;> [skip; (with_reducible rfl); (with_reducible rfl)]))

theorem keeps_chooseFirmware_some (selOk otherOk : Bool) (s t : State) (e : (chooseFirmware selOk otherOk s).1 = some t) :
    Keeps { evr := true, mod := true } s t := by
  have h1 : ∀ s : State, Keeps { evr := true, mod := true } s { s with mod := { s.mod with fwSelected := false } } := fun s =>
    ⟨changesOnly_of_pick rfl, id, List.prefix_refl _, Nat.le_refl _⟩
  unfold chooseFirmware at e
  dsimp only at e
  split at e
  · cases e
    split
    · exact Keeps.via (keeps_swapFw _) rfl (h1 s)
    · exact h1 s
  · split at e
    · cases e
      split
      · exact Keeps.via (keeps_logFirmware _ _) rfl (h1 s)
      · exact Keeps.via (keeps_swapFw _) rfl (Keeps.via (keeps_logFirmware _ _) rfl (h1 s))
    · cases e

theorem keeps_bootComplete (selOk otherOk : Bool) (selfTest : Option (Lane × Fin 4 × W32)) (slot : Bool) (s : State) :
    Keeps { cells := true, store := true, tb := true, tbAcc := true, tbLat := true, tsk := true, img := true, frc := true, laneA := true, laneB := true, lsk := true, pair := true, lease := true, mir := true, links := true, io := true, can := true, ses := true, pwr := true, tel := true, evr := true, lcd := true, mod := true, out := true } s (bootComplete selOk otherOk selfTest slot s) := by
  refine Keeps.via (s := { s with pair := { s.pair with slot := slot } }) (q := { cells := true, store := true, tb := true, tbAcc := true, tbLat := true, tsk := true, img := true, frc := true, laneA := true, laneB := true, lsk := true, pair := true, lease := true, mir := true, links := true, io := true, can := true, ses := true, pwr := true, tel := true, evr := true, lcd := true, mod := true, out := true }) ?_ rfl ⟨changesOnly_of_pick rfl, id, List.prefix_refl _, Nat.le_refl _⟩
  have h := Keeps.mono (p := { cells := true, store := true, tb := true, tbAcc := true, tbLat := true, tsk := true, img := true, frc := true, laneA := true, laneB := true, lsk := true, pair := true, lease := true, mir := true, links := true, io := true, can := true, ses := true, pwr := true, tel := true, evr := true, lcd := true, mod := true, out := true }) (keeps_chooseFirmware selOk otherOk { s with pair := { s.pair with slot := slot } }) rfl
  have k := fun t e => Keeps.mono (p := { cells := true, store := true, tb := true, tbAcc := true, tbLat := true, tsk := true, img := true, frc := true, laneA := true, laneB := true, lsk := true, pair := true, lease := true, mir := true, links := true, io := true, can := true, ses := true, pwr := true, tel := true, evr := true, lcd := true, mod := true, out := true }) (keeps_chooseFirmware_some selOk otherOk { s with pair := { s.pair with slot := slot } } t e) rfl
  unfold bootComplete
  split
  · exact ⟨changesOnly_of_pick rfl, id, List.prefix_refl _, Nat.le_refl _⟩
  · generalize chooseFirmware selOk otherOk { s with pair := { s.pair with slot := slot } } = r at h k ⊢
    obtain ⟨a, t⟩ := r
    cases a with
    | none => exact Keeps.via (keeps_bootFails _ _) rfl h
    | some x =>
      cases selfTest with
      | none => exact Keeps.via (keeps_enterConfig _) rfl (k x rfl)
      | some y => exact Keeps.via (keeps_logEv _ _ _ _) rfl (Keeps.via (keeps_bootFails _ _) rfl (k x rfl))
theorem keeps_configureFrom (i : Image) (bytes : List Byte) (s : State) :
    Keeps { cells := true, store := true, tb := true, tbAcc := true, tsk := true, img := true, laneA := true, laneB := true, lsk := true, links := true, io := true, can := true, ses := true, tel := true, evr := true, lcd := true, out := true } s (configureFrom i bytes s) := by
  refine Keeps.start fun p s0 hp h => ?_
  unfold configureFrom
  repeat' (first
    | (intro (hw : Memory.wf _ = true); with_reducible exact initVars_wf _ _ hw)
    | ((with_reducible refine Parts.le_trans ?_ hp); exact rfl)
    | with_reducible assumption
    | (intro x; refine_lift have hx : Keeps p s0 x := ?_; ?_; on_goal 2 => unfold x; on_goal 1 => clear_value x)
    | intro (x : Img)
    | (intro x; clear_value x)
    | intro x
    | lift_lets
    | split
    | fail_if_no_progress ((with_reducible apply Keeps.upd hp) <;> [skip; (with_reducible rfl); (with_reducible rfl)])
    | with_reducible apply Keeps.via (keeps_raiseToCeiling _)
    | with_reducible apply Keeps.via (keeps_takeLayout _)
    | with_reducible apply Keeps.via (keeps_configurePtp _)
    | with_reducible apply Keeps.via (keeps_bringLink _ _)
    | with_reducible apply keeps_overAll
    | (with_reducible refine Keeps.via (keeps_withMem _ _ ?_) ?_ ?_))

theorem keeps_slotFails (source : Fin 4) (e : ImgError) (s : State) :
    Keeps { img := true, ses := true, evr := true, lcd := true } s (slotFails source e s) := by
  refine Keeps.start fun p s0 hp h => ?_
  unfold slotFails
  repeat' (first
    | ((with_reducible refine Parts.le_trans ?_ hp); exact rfl)
    | with_reducible assumption
    | intro (x : Img)
    | lift_lets
    | with_reducible apply Keeps.via (keeps_logEv _ _ _ _)
    | with_reducible apply Keeps.via (keeps_showModule _)
    | fail_if_no_progress ((with_reducible apply Keeps.upd hp) <;> [skip; (with_reducible rfl); (with_reducible rfl)]))

theorem keeps_recordOther (s : State) :
    Keeps { store := true, img := true } s (recordOther s) := by
  refine Keeps.start fun p s0 hp h => ?_
  unfold recordOther
  repeat' (first
    | ((with_reducible refine Parts.le_trans ?_ hp); exact rfl)
    | with_reducible assumption
    | (intro x; refine_lift have hx : Keeps p s0 x := ?_; ?_; on_goal 2 => unfold x; on_goal 1 => clear_value x)
    | intro (x : Img)
    | lift_lets
    | with_reducible apply Keeps.via (keeps_persist _ _ _)
    | with_reducible apply Keeps.via (keeps_idleAfter _)
    | fail_if_no_progress ((with_reducible apply Keeps.upd hp) <;> [skip; (with_reducible rfl); (with_reducible rfl)]))

theorem keeps_configureOwn (s : State) :
    Keeps { cells := true, store := true, tb := true, tbAcc := true, tsk := true, img := true, laneA := true, laneB := true, lsk := true, links := true, io := true, can := true, ses := true, tel := true, evr := true, lcd := true, out := true } s (configureOwn s) := by
  refine Keeps.start fun p s0 hp h => ?_
  unfold configureOwn
  repeat' (first
    | ((with_reducible refine Parts.le_trans ?_ hp); exact rfl)
    | with_reducible assumption
    | (intro x; refine_lift have hx : Keeps p s0 x := ?_; ?_; on_goal 2 => unfold x; on_goal 1 => clear_value x)
    | intro (x : Img)
    | (intro x; clear_value x)
    | lift_lets
    | split
    | with_reducible apply Keeps.via (keeps_configureFrom _ _ _)
    | with_reducible apply Keeps.via (keeps_slotFails _ _ _)
    | with_reducible apply Keeps.via (keeps_recordOther _)
    | fail_if_no_progress ((with_reducible apply Keeps.upd hp) <;> [skip; (with_reducible rfl); (with_reducible rfl)]))

theorem keeps_adoptKeys (keys : List KeySlot) (s : State) :
    Keeps { store := true, keys := true } s (adoptKeys keys s) := by
  refine Keeps.start fun p s0 hp h => ?_
  unfold adoptKeys
  repeat' (first
    | ((with_reducible refine Parts.le_trans ?_ hp); exact rfl)
    | with_reducible assumption
    | intro (x : Img)
    | lift_lets
    | split
    | with_reducible apply Keeps.via (keeps_persist _ _ _)
    | fail_if_no_progress ((with_reducible apply Keeps.upd hp) <;> [skip; (with_reducible rfl); (with_reducible rfl)]))

theorem keeps_configPartnerListen (partner : Option PartnerInfo) (s : State) :
    Keeps { cells := true, store := true, tb := true, tbAcc := true, tsk := true, img := true, keys := true, laneA := true, laneB := true, lsk := true, pair := true, links := true, io := true, can := true, ses := true, tel := true, evr := true, lcd := true, mod := true, out := true } s (configPartnerListen partner s) := by
  refine Keeps.start fun p s0 hp h => ?_
  unfold configPartnerListen
  repeat' (first
    | ((with_reducible refine Parts.le_trans ?_ hp); exact rfl)
    | with_reducible assumption
    | (intro x; refine_lift have hx : Keeps p s0 x := ?_; ?_; on_goal 2 => unfold x; on_goal 1 => clear_value x)
    | (intro x; clear_value x)
    | lift_lets
    | split
    | with_reducible apply Keeps.via (keeps_saddle _ _)
    | with_reducible apply Keeps.via (keeps_closeEnrolment _ _)
    | with_reducible apply Keeps.via (keeps_configureOwn _)
    | with_reducible apply Keeps.via (keeps_adoptKeys _ _)
    | fail_if_no_progress ((with_reducible apply Keeps.upd hp) <;> [skip; (with_reducible rfl); (with_reducible rfl)]))

theorem keeps_imageFetchComplete (data : List Byte) (s : State) :
    Keeps { cells := true, store := true, tb := true, tbAcc := true, tsk := true, img := true, laneA := true, laneB := true, lsk := true, links := true, io := true, can := true, ses := true, tel := true, evr := true, lcd := true, mod := true, out := true } s (imageFetchComplete data s) := by
  refine Keeps.start fun p s0 hp h => ?_
  unfold imageFetchComplete
  repeat' (first
    | ((with_reducible refine Parts.le_trans ?_ hp); exact rfl)
    | with_reducible assumption
    | (intro x; refine_lift have hx : Keeps p s0 x := ?_; ?_; on_goal 2 => unfold x; on_goal 1 => clear_value x)
    | (intro x; clear_value x)
    | lift_lets
    | split
    | with_reducible apply Keeps.via (keeps_logEv _ _ _ _)
    | with_reducible apply Keeps.via (keeps_setSlot _ _ _)
    | with_reducible apply Keeps.via (keeps_discardIdle _ _)
    | with_reducible apply Keeps.via (keeps_configureFrom _ _ _)
    | with_reducible apply Keeps.via (keeps_slotFails _ _ _)
    | with_reducible apply Keeps.via (keeps_recordOther _)
    | fail_if_no_progress ((with_reducible apply Keeps.upd hp) <;> [skip; (with_reducible rfl); (with_reducible rfl)]))

theorem keeps_configComplete (s : State) :
    Keeps { io := true, ses := true, evr := true, lcd := true, mod := true } s (configComplete s) := by
  refine Keeps.start fun p s0 hp h => ?_
  unfold configComplete
  repeat' (first
    | ((with_reducible refine Parts.le_trans ?_ hp); exact rfl)
    | with_reducible assumption
    | (intro x; refine_lift have hx : Keeps p s0 x := ?_; ?_; on_goal 2 => unfold x; on_goal 1 => clear_value x)
    | (intro x; clear_value x)
    | lift_lets
    | split
    | with_reducible apply Keeps.via (keeps_enterState _ _ _ _)
    | with_reducible apply Keeps.via (keeps_endCalibrate _)
    | fail_if_no_progress ((with_reducible apply Keeps.upd hp) <;> [skip; (with_reducible rfl); (with_reducible rfl)]))

theorem keeps_enterRun (s : State) :
    Keeps { store := true, tb := true, tbAcc := true, tsk := true, frc := true, lsk := true, lease := true, mir := true, links := true, io := true, can := true, ses := true, tel := true, evr := true, lcd := true, mod := true } s (enterRun s) := by
  refine Keeps.start fun p s0 hp h => ?_
  unfold enterRun
  repeat' (first
    | ((with_reducible refine Parts.le_trans ?_ hp); exact rfl)
    | with_reducible assumption
    | (intro x; refine_lift have hx : Keeps p s0 x := ?_; ?_; on_goal 2 => unfold x; on_goal 1 => clear_value x)
    | (intro x; clear_value x)
    | lift_lets
    | with_reducible apply Keeps.via (keeps_enterState _ _ _ _)
    | with_reducible apply Keeps.via (keeps_shortInterval _)
    | with_reducible apply Keeps.via (keeps_timeMapping _ _)
    | fail_if_no_progress ((with_reducible apply Keeps.upd hp) <;> [skip; (with_reducible rfl); (with_reducible rfl)]))

theorem keeps_scheduleAll (start from_ : Nat) (s : State) :
    Keeps { tsk := true } s (scheduleAll start from_ s) := by
  refine Keeps.start fun p s0 hp h => ?_
  unfold scheduleAll
  repeat' (first
    | with_reducible assumption
    | (intro x; clear_value x)
    | lift_lets
    | fail_if_no_progress ((with_reducible apply Keeps.upd hp) <;> [skip; (with_reducible rfl); (with_reducible rfl)]))

theorem keeps_resample (old : State) (e : StationEntry) (s : State) :
    Keeps { lsk := true, links := true, out := true } s (resample old e s) := by
  refine Keeps.start fun p s0 hp h => ?_
  unfold resample
  repeat' (first
    | ((with_reducible refine Parts.le_trans ?_ hp); exact rfl)
    | with_reducible assumption
    | (intro x; clear_value x)
    | lift_lets
    | split
    | with_reducible apply Keeps.via (keeps_sendStart _ _ _ _))

theorem keeps_resampleAll (old s : State) :
    Keeps { lsk := true, links := true, out := true } s (resampleAll old s) := by
  refine Keeps.start fun p s0 hp h => ?_
  unfold resampleAll
  repeat' (first
    | ((with_reducible refine Parts.le_trans ?_ hp); exact rfl)
    | with_reducible assumption
    | intro x
    | lift_lets
    | with_reducible apply Keeps.via (keeps_resample _ _ _)
    | with_reducible apply keeps_overAll)

theorem keeps_enterAlone (s : State) :
    Keeps { store := true, tb := true, tbAcc := true, tsk := true, frc := true, lsk := true, lease := true, mir := true, links := true, io := true, can := true, ses := true, tel := true, evr := true, lcd := true, mod := true, out := true } s (enterAlone s) := by
  refine Keeps.start fun p s0 hp h => ?_
  unfold enterAlone
  repeat' (first
    | ((with_reducible refine Parts.le_trans ?_ hp); exact rfl)
    | with_reducible assumption
    | (intro x; refine_lift have hx : Keeps p s0 x := ?_; ?_; on_goal 2 => unfold x; on_goal 1 => clear_value x)
    | (intro x; clear_value x)
    | lift_lets
    | with_reducible apply Keeps.via (keeps_enterRun _)
    | with_reducible apply Keeps.via (keeps_scheduleAll _ _ _)
    | with_reducible apply Keeps.via (keeps_resampleAll _ _)
    | fail_if_no_progress ((with_reducible apply Keeps.upd hp) <;> [skip; (with_reducible rfl); (with_reducible rfl)]))

theorem keeps_beginJoin (p : PartnerInfo) (s : State) :
    Keeps { tb := true, tsk := true, img := true, pair := true, lease := true, links := true, io := true, can := true, ses := true, pwr := true, tel := true, evr := true, lcd := true, mod := true } s (beginJoin p s) := by
  refine Keeps.start fun p s0 hp h => ?_
  unfold beginJoin
  repeat' (first
    | ((with_reducible refine Parts.le_trans ?_ hp); exact rfl)
    | with_reducible assumption
    | (intro x; refine_lift have hx : Keeps p s0 x := ?_; ?_; on_goal 2 => unfold x; on_goal 1 => clear_value x)
    | intro (x : Img)
    | (intro x; clear_value x)
    | lift_lets
    | with_reducible apply Keeps.via (keeps_setTime _ _ _)
    | fail_if_no_progress ((with_reducible apply Keeps.upd hp) <;> [skip; (with_reducible rfl); (with_reducible rfl)]))

theorem keeps_joinDecision (partner : Option PartnerInfo) (s : State) :
    Keeps { store := true, tb := true, tbAcc := true, tsk := true, img := true, frc := true, lsk := true, pair := true, lease := true, mir := true, links := true, io := true, can := true, ses := true, pwr := true, tel := true, evr := true, lcd := true, mod := true, out := true } s (joinDecision partner s) := by
  refine Keeps.start fun p s0 hp h => ?_
  unfold joinDecision
  repeat' (first
    | ((with_reducible refine Parts.le_trans ?_ hp); exact rfl)
    | with_reducible assumption
    | (intro x; clear_value x)
    | lift_lets
    | split
    | with_reducible apply Keeps.via (keeps_logEv _ _ _ _)
    | with_reducible apply Keeps.via (keeps_enterAlone _)
    | with_reducible apply Keeps.via (keeps_beginJoin _ _)
    | fail_if_no_progress ((with_reducible apply Keeps.upd hp) <;> [skip; (with_reducible rfl); (with_reducible rfl)]))

theorem keeps_joinWaitTimeout (s : State) :
    Keeps { store := true, tb := true, tbAcc := true, tsk := true, frc := true, lsk := true, lease := true, mir := true, links := true, io := true, can := true, ses := true, tel := true, evr := true, lcd := true, mod := true, out := true } s (joinWaitTimeout s) := by
  refine Keeps.start fun p s0 hp h => ?_
  unfold joinWaitTimeout
  repeat' (first
    | ((with_reducible refine Parts.le_trans ?_ hp); exact rfl)
    | with_reducible assumption
    | split
    | with_reducible apply Keeps.via (keeps_enterAlone _))

theorem keeps_takeMirror (gs : List (Nat × Granule)) (s : State) :
    Keeps { cells := true, tsk := true } s (takeMirror gs s) := by
  refine Keeps.start fun p s0 hp h => ?_
  unfold takeMirror
  repeat' (first
    | ((with_reducible refine Parts.le_trans ?_ hp); exact rfl)
    | with_reducible assumption
    | with_reducible apply Keeps.via (keeps_applyGranules _ _))

theorem keeps_takeForces (fs : List (Fin 4096 × BitVec 6 × W64 × W64)) (s : State) :
    Keeps { frc := true } s (takeForces fs s) := by
  refine Keeps.start fun p s0 hp h => ?_
  unfold takeForces
  repeat' (first
    | with_reducible assumption
    | (intro x; clear_value x)
    | lift_lets
    | fail_if_no_progress ((with_reducible apply Keeps.upd hp) <;> [skip; (with_reducible rfl); (with_reducible rfl)]))

theorem keeps_fullMirrorComplete (gs : List (Nat × Granule)) (fs : List (Fin 4096 × BitVec 6 × W64 × W64)) (join : Nat) (s : State) :
    Keeps { cells := true, tsk := true, frc := true, lsk := true, pair := true, mir := true, mod := true, out := true } s (fullMirrorComplete gs fs join s) := by
  refine Keeps.start fun p s0 hp h => ?_
  unfold fullMirrorComplete
  repeat' (first
    | ((with_reducible refine Parts.le_trans ?_ hp); exact rfl)
    | with_reducible assumption
    | (intro x; refine_lift have hx : Keeps p s0 x := ?_; ?_; on_goal 2 => unfold x; on_goal 1 => clear_value x)
    | (intro x; clear_value x)
    | intro x
    | lift_lets
    | split
    | with_reducible apply Keeps.via (keeps_saddle _ _)
    | with_reducible apply Keeps.via (keeps_applyMirror _ _)
    | with_reducible apply Keeps.via (keeps_takeMirror _ _)
    | with_reducible apply Keeps.via (keeps_takeForces _ _)
    | with_reducible apply keeps_overAll
    | fail_if_no_progress ((with_reducible apply Keeps.upd hp) <;> [skip; (with_reducible rfl); (with_reducible rfl)]))

theorem keeps_joinInstant (s : State) :
    Keeps { store := true, tb := true, tbAcc := true, tsk := true, frc := true, lsk := true, pair := true, lease := true, mir := true, links := true, io := true, can := true, ses := true, tel := true, evr := true, lcd := true, mod := true, out := true } s (joinInstant s) := by
  refine Keeps.start fun p s0 hp h => ?_
  unfold joinInstant
  repeat' (first
    | ((with_reducible refine Parts.le_trans ?_ hp); exact rfl)
    | with_reducible assumption
    | (intro x; refine_lift have hx : Keeps p s0 x := ?_; ?_; on_goal 2 => unfold x; on_goal 1 => clear_value x)
    | (intro x; clear_value x)
    | split
    | lift_lets
    | with_reducible apply Keeps.via (keeps_saddle _ _)
    | with_reducible apply Keeps.via (keeps_logEv _ _ _ _)
    | with_reducible apply Keeps.via (keeps_enterRun _)
    | with_reducible apply Keeps.via (keeps_scheduleAll _ _ _)
    | fail_if_no_progress ((with_reducible apply Keeps.upd hp) <;> [skip; (with_reducible rfl); (with_reducible rfl)]))

theorem keeps_idleImageFetchComplete (data : List Byte) (arm : Bool) (s : State) :
    Keeps { img := true, ses := true, evr := true, lcd := true, mod := true } s (idleImageFetchComplete data arm s) := by
  refine Keeps.start fun p s0 hp h => ?_
  unfold idleImageFetchComplete
  repeat' (first
    | ((with_reducible refine Parts.le_trans ?_ hp); exact rfl)
    | with_reducible assumption
    | (intro x; refine_lift have hx : Keeps p s0 x := ?_; ?_; on_goal 2 => unfold x; on_goal 1 => clear_value x)
    | (intro x; clear_value x)
    | lift_lets
    | split
    | with_reducible apply Keeps.via (keeps_setSlot _ _ _)
    | with_reducible apply Keeps.via (keeps_discardIdle _ _)
    | with_reducible apply Keeps.via (keeps_imgError _ _ _)
    | with_reducible apply Keeps.via (keeps_beginArming _)
    | with_reducible apply Keeps.via (keeps_idleAfter _)
    | fail_if_no_progress ((with_reducible apply Keeps.upd hp) <;> [skip; (with_reducible rfl); (with_reducible rfl)]))

theorem keeps_firmwareChunk (offset : Nat) (data : List Byte) (last : Bool) (q : Req) (s : State) :
    Keeps { mod := true } s (firmwareChunk offset data last q s).2 := by
  refine Keeps.start fun p s0 hp h => ?_
  unfold firmwareChunk
  repeat' (first
    | with_reducible assumption
    | (intro x; clear_value x)
    | lift_lets
    | split
    | dsimp -zeta only
    | fail_if_no_progress ((with_reducible apply Keeps.upd hp) <;> [skip; (with_reducible rfl); (with_reducible rfl)]))

theorem keeps_firmwareVerifyComplete (version : BitVec 16) (pairMin pairMax : BitVec 4) (valid : Bool) (s : State) :
    Keeps { mod := true } s (firmwareVerifyComplete version pairMin pairMax valid s) := by
  refine Keeps.start fun p s0 hp h => ?_
  unfold firmwareVerifyComplete
  repeat' (first
    | with_reducible assumption
    | (intro x; clear_value x)
    | lift_lets
    | split
    | fail_if_no_progress ((with_reducible apply Keeps.upd hp) <;> [skip; (with_reducible rfl); (with_reducible rfl)]))

/-! ### Operations of Machine/Debug.lean -/

theorem keeps_debugCredential (cred : List Byte) (probe : W256) (s : State) :
    Keeps { ses := true, evr := true, out := true } s (debugCredential cred probe s) := by
  refine Keeps.start fun p s0 hp h => ?_
  unfold debugCredential
  repeat' (first
    | ((with_reducible refine Parts.le_trans ?_ hp); exact rfl)
    | with_reducible assumption
    | (intro x; refine_lift have hx : Keeps p s0 x := ?_; ?_; on_goal 2 => unfold x; on_goal 1 => clear_value x)
    | (intro x; clear_value x)
    | lift_lets
    | split
    | with_reducible apply Keeps.via (keeps_emit _ _)
    | with_reducible apply Keeps.via (keeps_logEv _ _ _ _)
    | fail_if_no_progress ((with_reducible apply Keeps.upd hp) <;> [skip; (with_reducible rfl); (with_reducible rfl)]))

theorem keeps_debugViolation (write : Bool) (addr colour : Nat) (s : State) :
    Keeps { ses := true, evr := true } s (debugViolation write addr colour s) := by
  refine Keeps.start fun p s0 hp h => ?_
  unfold debugViolation
  repeat' (first
    | ((with_reducible refine Parts.le_trans ?_ hp); exact rfl)
    | with_reducible assumption
    | (intro x; refine_lift have hx : Keeps p s0 x := ?_; ?_; on_goal 2 => unfold x; on_goal 1 => clear_value x)
    | (intro x; clear_value x)
    | lift_lets
    | split
    | with_reducible apply Keeps.via (keeps_logEv _ _ _ _)
    | fail_if_no_progress ((with_reducible apply Keeps.upd hp) <;> [skip; (with_reducible rfl); (with_reducible rfl)]))

theorem keeps_debugZeros (addr colour : Nat) (s : State) :
    Keeps { ses := true, evr := true, out := true } s (debugZeros addr colour s) := by
  refine Keeps.start fun p s0 hp h => ?_
  unfold debugZeros
  repeat' (first
    | ((with_reducible refine Parts.le_trans ?_ hp); exact rfl)
    | with_reducible assumption
    | lift_lets
    | with_reducible apply Keeps.via (keeps_emit _ _)
    | with_reducible apply Keeps.via (keeps_debugViolation _ _ _ _))

theorem keeps_debugLane (isSealed : Bool) (data : W128) (s : State) :
    Keeps { ses := true, evr := true, out := true, free := true } s (debugLane isSealed data s) := by
  refine Keeps.start fun p s0 hp h => ?_
  unfold debugLane
  repeat' (first
    | ((with_reducible refine Parts.le_trans ?_ hp); exact rfl)
    | with_reducible assumption
    | lift_lets
    | split
    | with_reducible apply Keeps.of_snd (by assumption)
    | with_reducible apply Keeps.via (keeps_emit _ _)
    | with_reducible apply Keeps.via (keeps_freeValue _ _)
    | with_reducible apply Keeps.via (keeps_debugZeros _ _ _))

theorem keeps_debugRead (t : DebugTarget) (chk : MemCheck) (s : State) :
    Keeps { store := true, tsk := true, img := true, lsk := true, pair := true, lease := true, mir := true, links := true, io := true, can := true, ses := true, pwr := true, tel := true, evr := true, lcd := true, mod := true, out := true, free := true } s (debugRead t chk s) := by
  refine Keeps.start fun p s0 hp h => ?_
  unfold debugRead
  repeat' (first
    | ((with_reducible refine Parts.le_trans ?_ hp); exact rfl)
    | with_reducible assumption
    | (intro x; clear_value x)
    | lift_lets
    | split
    | with_reducible apply Keeps.of_snd (by assumption)
    | with_reducible apply Keeps.via (keeps_emit _ _)
    | with_reducible apply Keeps.via (keeps_freeValue _ _)
    | with_reducible apply Keeps.via (keeps_memCheck _ _)
    | with_reducible apply Keeps.via (keeps_debugZeros _ _ _)
    | with_reducible apply Keeps.via (keeps_debugLane _ _ _))

theorem keeps_debugWrite (addr : W32) (data : W128) (s : State) :
    Keeps { cells := true, tsk := true, ses := true, evr := true } s (debugWrite addr data s) := by
  refine Keeps.start fun p s0 hp h => ?_
  unfold debugWrite
  repeat' (first
    | (intro (hw : Memory.wf _ = true); with_reducible exact Memory.writeWord_wf _ _ _ _ hw)
    | ((with_reducible refine Parts.le_trans ?_ hp); exact rfl)
    | with_reducible assumption
    | (intro x; clear_value x)
    | lift_lets
    | split
    | with_reducible apply Keeps.via (keeps_reloadOwners _ _)
    | with_reducible apply Keeps.via (keeps_debugViolation _ _ _ _)
    | (with_reducible refine Keeps.via (keeps_withMem _ _ ?_) ?_ ?_))

theorem keeps_flushDelay (halted : Lane) (s : State) :
    Keeps { cells := true, store := true, tsk := true, img := true, laneA := true, laneB := true, lsk := true, pair := true, lease := true, mir := true, links := true, io := true, can := true, ses := true, pwr := true, tel := true, evr := true, lcd := true, mod := true, out := true, free := true } s (flushDelay halted s) := by
  refine Keeps.start fun p s0 hp h => ?_
  unfold flushDelay
  repeat' (first
    | ((with_reducible refine Parts.le_trans ?_ hp); exact rfl)
    | with_reducible assumption
    | (intro x; clear_value x)
    | intro x
    | lift_lets
    | split
    | with_reducible apply Keeps.via (keeps_commitWord _ _ _ _)
    | with_reducible apply keeps_overAll
    | fail_if_no_progress ((with_reducible apply Keeps.upd hp) <;> [skip; (with_reducible rfl); (with_reducible rfl)]))

theorem keeps_flushInbound (halted : Lane) (s : State) :
    Keeps { laneA := true, laneB := true, lsk := true, out := true } s (flushInbound halted s) := by
  refine Keeps.start fun p s0 hp h => ?_
  unfold flushInbound
  repeat' (first
    | ((with_reducible refine Parts.le_trans ?_ hp); exact rfl)
    | with_reducible assumption
    | (intro x; refine_lift have hx : Keeps p s0 x := ?_; ?_; on_goal 2 => unfold x; on_goal 1 => clear_value x)
    | (intro x; clear_value x)
    | intro x
    | lift_lets
    | split
    | with_reducible apply Keeps.via (keeps_emit _ _)
    | with_reducible apply Keeps.via (keeps_onLane _ _ _)
    | with_reducible apply keeps_overAll
    | fail_if_no_progress ((with_reducible apply Keeps.upd hp) <;> [skip; (with_reducible rfl); (with_reducible rfl)]))

theorem keeps_acceptHalt (lane : Lane) (s : State) :
    Keeps { cells := true, store := true, tsk := true, img := true, laneA := true, laneB := true, lsk := true, pair := true, lease := true, mir := true, links := true, io := true, can := true, ses := true, pwr := true, tel := true, evr := true, lcd := true, mod := true, out := true, free := true } s (acceptHalt lane s) := by
  refine Keeps.start fun p s0 hp h => ?_
  unfold acceptHalt
  repeat' (first
    | ((with_reducible refine Parts.le_trans ?_ hp); exact rfl)
    | with_reducible assumption
    | (intro x; refine_lift have hx : Keeps p s0 x := ?_; ?_; on_goal 2 => unfold x; on_goal 1 => clear_value x)
    | (intro x; clear_value x)
    | lift_lets
    | split
    | with_reducible apply Keeps.via (keeps_emit _ _)
    | with_reducible apply Keeps.via (keeps_logEv _ _ _ _)
    | with_reducible apply Keeps.via (keeps_showRole _)
    | with_reducible apply Keeps.via (keeps_flushDelay _ _)
    | with_reducible apply Keeps.via (keeps_flushInbound _ _)
    | fail_if_no_progress ((with_reducible apply Keeps.upd hp) <;> [skip; (with_reducible rfl); (with_reducible rfl)]))

theorem keeps_refuseHalt (lane : Lane) (reason : Nat) (s : State) :
    Keeps { evr := true, out := true } s (refuseHalt lane reason s) := by
  refine Keeps.start fun p s0 hp h => ?_
  unfold refuseHalt
  repeat' (first
    | ((with_reducible refine Parts.le_trans ?_ hp); exact rfl)
    | with_reducible assumption
    | lift_lets
    | with_reducible apply Keeps.via (keeps_emit _ _)
    | with_reducible apply Keeps.via (keeps_logEv _ _ _ _))

theorem keeps_debugStep (s : State) :
    Keeps { tsk := true, laneA := true, laneB := true, free := true } s (debugStep s) := by
  refine Keeps.start fun p s0 hp h => ?_
  unfold debugStep
  repeat' (first
    | ((with_reducible refine Parts.le_trans ?_ hp); exact rfl)
    | with_reducible assumption
    | (intro x; clear_value x)
    | lift_lets
    | split
    | with_reducible apply Keeps.of_snd (by assumption)
    | with_reducible apply Keeps.via (keeps_freeValue _ _)
    | with_reducible apply Keeps.via (keeps_onLane _ _ _)
    | with_reducible apply Keeps.via (keeps_fireSlot _ _ _))

theorem keeps_debugResume (s : State) :
    Keeps { lsk := true, evr := true } s (debugResume s) := by
  refine Keeps.start fun p s0 hp h => ?_
  unfold debugResume
  repeat' (first
    | ((with_reducible refine Parts.le_trans ?_ hp); exact rfl)
    | with_reducible assumption
    | (intro x; clear_value x)
    | lift_lets
    | split
    | with_reducible apply Keeps.via (keeps_logEv _ _ _ _)
    | fail_if_no_progress ((with_reducible apply Keeps.upd hp) <;> [skip; (with_reducible rfl); (with_reducible rfl)]))

theorem keeps_commissionOn (q : Req) (s : State) :
    Keeps { lsk := true, pair := true, ses := true, evr := true, out := true } s (commissionOn q s) := by
  refine Keeps.start fun p s0 hp h => ?_
  unfold commissionOn
  repeat' (first
    | ((with_reducible refine Parts.le_trans ?_ hp); exact rfl)
    | with_reducible assumption
    | (intro x; refine_lift have hx : Keeps p s0 x := ?_; ?_; on_goal 2 => unfold x; on_goal 1 => clear_value x)
    | (intro x; clear_value x)
    | lift_lets
    | split
    | with_reducible apply Keeps.via (keeps_logSes _ _ _ _ _)
    | with_reducible apply Keeps.via (keeps_answer _ _ _ _)
    | fail_if_no_progress ((with_reducible apply Keeps.upd hp) <;> [skip; (with_reducible rfl); (with_reducible rfl)]))

theorem keeps_commissionOff (q : Req) (s : State) :
    Keeps { lsk := true, pair := true, lease := true, ses := true, evr := true, out := true } s (commissionOff q s) := by
  refine Keeps.start fun p s0 hp h => ?_
  unfold commissionOff
  repeat' (first
    | ((with_reducible refine Parts.le_trans ?_ hp); exact rfl)
    | with_reducible assumption
    | (intro x; refine_lift have hx : Keeps p s0 x := ?_; ?_; on_goal 2 => unfold x; on_goal 1 => clear_value x)
    | (intro x; clear_value x)
    | lift_lets
    | split
    | with_reducible apply Keeps.via (keeps_logSes _ _ _ _ _)
    | with_reducible apply Keeps.via (keeps_answer _ _ _ _)
    | fail_if_no_progress ((with_reducible apply Keeps.upd hp) <;> [skip; (with_reducible rfl); (with_reducible rfl)]))

theorem keeps_recheckCmd (q : Req) (s : State) :
    Keeps { tsk := true, lsk := true, pair := true, lease := true, ses := true, out := true } s (recheckCmd q s) := by
  refine Keeps.start fun p s0 hp h => ?_
  unfold recheckCmd
  repeat' (first
    | ((with_reducible refine Parts.le_trans ?_ hp); exact rfl)
    | with_reducible assumption
    | (intro x; clear_value x)
    | lift_lets
    | split
    | with_reducible apply Keeps.via (keeps_answer _ _ _ _)
    | with_reducible apply Keeps.via (keeps_openHold _ _ _ _))

theorem keeps_recheckGo (q : SwitchReq) (s : State) :
    Keeps { cells := true, tbAcc := true, tbLat := true, tsk := true, frc := true, laneA := true, laneB := true, lsk := true, pair := true, mir := true, links := true, io := true, can := true, ses := true, tel := true, evr := true, lcd := true, mod := true, out := true } s (recheckGo q s) := by
  refine Keeps.start fun p s0 hp h => ?_
  unfold recheckGo
  repeat' (first
    | ((with_reducible refine Parts.le_trans ?_ hp); exact rfl)
    | with_reducible assumption
    | (intro x; refine_lift have hx : Keeps p s0 x := ?_; ?_; on_goal 2 => unfold x; on_goal 1 => clear_value x)
    | (intro x; clear_value x)
    | intro x
    | lift_lets
    | with_reducible apply Keeps.via (keeps_logEv _ _ _ _)
    | with_reducible apply Keeps.via (keeps_answerOpt _ _ _ _)
    | with_reducible apply Keeps.via (keeps_showRole _)
    | with_reducible apply Keeps.via (keeps_onLane _ _ _)
    | with_reducible apply Keeps.via (keeps_releaseHolds _)
    | with_reducible apply keeps_overAll
    | fail_if_no_progress ((with_reducible apply Keeps.upd hp) <;> [skip; (with_reducible rfl); (with_reducible rfl)]))

theorem keeps_recheckEnded (q : SwitchReq) (s : State) :
    Keeps { lsk := true, pair := true, ses := true, evr := true, out := true } s (recheckEnded q s) := by
  refine Keeps.start fun p s0 hp h => ?_
  unfold recheckEnded
  repeat' (first
    | ((with_reducible refine Parts.le_trans ?_ hp); exact rfl)
    | with_reducible assumption
    | (intro x; clear_value x)
    | lift_lets
    | with_reducible apply Keeps.via (keeps_logEv _ _ _ _)
    | with_reducible apply Keeps.via (keeps_answerOpt _ _ _ _)
    | fail_if_no_progress ((with_reducible apply Keeps.upd hp) <;> [skip; (with_reducible rfl); (with_reducible rfl)]))

theorem keeps_idleSweepPass (changedA changedB : Option W128) (s : State) :
    Keeps { img := true, lsk := true, evr := true } s (idleSweepPass changedA changedB s) := by
  refine Keeps.start fun p s0 hp h => ?_
  unfold idleSweepPass
  repeat' (first
    | ((with_reducible refine Parts.le_trans ?_ hp); exact rfl)
    | with_reducible assumption
    | (intro x; refine_lift have hx : Keeps p s0 x := ?_; ?_; on_goal 2 => unfold x; on_goal 1 => clear_value x)
    | (intro x; clear_value x)
    | lift_lets
    | split
    | with_reducible apply Keeps.via (keeps_logEv _ _ _ _)
    | with_reducible apply Keeps.via (keeps_beginArming _)
    | fail_if_no_progress ((with_reducible apply Keeps.upd hp) <;> [skip; (with_reducible rfl); (with_reducible rfl)]))

theorem keeps_svcRecorderEntry (k : Fin 8) (code : BitVec 12) (sev : BitVec 2) (data : BitVec 112) (s : State) :
    Keeps { laneA := true, laneB := true, lsk := true, evr := true, out := true } s (svcRecorderEntry k code sev data s) := by
  refine Keeps.start fun p s0 hp h => ?_
  unfold svcRecorderEntry
  repeat' (first
    | ((with_reducible refine Parts.le_trans ?_ hp); exact rfl)
    | with_reducible assumption
    | lift_lets
    | split
    | with_reducible apply Keeps.via (keeps_enqueueEv _ _)
    | with_reducible apply Keeps.via (keeps_serviceReturn _ _ _))

/-! ### Operations of Machine/Pair.lean -/

theorem keeps_stopSearch (result : Nat) (s : State) :
    Keeps { cells := true, tbAcc := true, tbLat := true, tsk := true, img := true, frc := true, laneA := true, laneB := true, lsk := true, pair := true, mir := true, links := true, io := true, can := true, ses := true, tel := true, evr := true, lcd := true, out := true } s (stopSearch result s) := by
  refine Keeps.start fun p s0 hp h => ?_
  unfold stopSearch
  repeat' (first
    | ((with_reducible refine Parts.le_trans ?_ hp); exact rfl)
    | with_reducible assumption
    | lift_lets
    | split
    | with_reducible apply Keeps.via (keeps_endChange _ _)
    | with_reducible apply Keeps.via (keeps_releaseHolds _))

theorem keeps_failAfter (s : State) :
    Keeps { lsk := true, pair := true, ses := true, evr := true, mod := true, out := true } s (failAfter s) := by
  refine Keeps.start fun p s0 hp h => ?_
  unfold failAfter
  repeat' (first
    | ((with_reducible refine Parts.le_trans ?_ hp); exact rfl)
    | with_reducible assumption
    | (intro x; refine_lift have hx : Keeps p s0 x := ?_; ?_; on_goal 2 => unfold x; on_goal 1 => clear_value x)
    | (intro x; clear_value x)
    | lift_lets
    | split
    | with_reducible apply Keeps.via (keeps_answerOpt _ _ _ _)
    | with_reducible apply Keeps.via (keeps_refuseHalt _ _ _)
    | fail_if_no_progress ((with_reducible apply Keeps.upd hp) <;> [skip; (with_reducible rfl); (with_reducible rfl)]))

theorem keeps_runAfter (s : State) :
    Keeps { cells := true, store := true, tb := true, tbAcc := true, tbLat := true, tsk := true, img := true, frc := true, laneA := true, laneB := true, lsk := true, pair := true, lease := true, mir := true, links := true, io := true, can := true, ses := true, pwr := true, tel := true, evr := true, lcd := true, mod := true, out := true, free := true } s (runAfter s) := by
  refine Keeps.start fun p s0 hp h => ?_
  unfold runAfter
  repeat' (first
    | ((with_reducible refine Parts.le_trans ?_ hp); exact rfl)
    | with_reducible assumption
    | (intro x; refine_lift have hx : Keeps p s0 x := ?_; ?_; on_goal 2 => unfold x; on_goal 1 => clear_value x)
    | (intro x; clear_value x)
    | lift_lets
    | split
    | with_reducible apply Keeps.via (keeps_answerOpt _ _ _ _)
    | with_reducible apply Keeps.via (keeps_restart _ _ _)
    | with_reducible apply Keeps.via (keeps_acceptHalt _ _)
    | fail_if_no_progress ((with_reducible apply Keeps.upd hp) <;> [skip; (with_reducible rfl); (with_reducible rfl)]))

theorem keeps_swapStops (result : W32) (q : SwitchReq) (s : State) :
    Keeps { lsk := true, pair := true, lease := true, ses := true, evr := true, mod := true, out := true } s (swapStops result q s) := by
  refine Keeps.start fun p s0 hp h => ?_
  unfold swapStops
  repeat' (first
    | ((with_reducible refine Parts.le_trans ?_ hp); exact rfl)
    | with_reducible assumption
    | (intro x; clear_value x)
    | lift_lets
    | split
    | with_reducible apply Keeps.via (keeps_answerOpt _ _ _ _)
    | with_reducible apply Keeps.via (keeps_failAfter _)
    | fail_if_no_progress ((with_reducible apply Keeps.upd hp) <;> [skip; (with_reducible rfl); (with_reducible rfl)]))

theorem keeps_swapEnded (q : SwitchReq) (s : State) :
    Keeps { lsk := true, pair := true, lease := true, ses := true, evr := true, mod := true, out := true } s (swapEnded q s) := by
  refine Keeps.start fun p s0 hp h => ?_
  unfold swapEnded
  repeat' (first
    | ((with_reducible refine Parts.le_trans ?_ hp); exact rfl)
    | with_reducible assumption
    | with_reducible apply Keeps.via (keeps_swapStops _ _ _))

theorem keeps_settleAfter (s : State) :
    Keeps { cells := true, store := true, tb := true, tbAcc := true, tbLat := true, tsk := true, img := true, frc := true, laneA := true, laneB := true, lsk := true, pair := true, lease := true, mir := true, links := true, io := true, can := true, ses := true, pwr := true, tel := true, evr := true, lcd := true, mod := true, out := true, free := true } s (settleAfter s) := by
  refine Keeps.start fun p s0 hp h => ?_
  unfold settleAfter
  repeat' (first
    | ((with_reducible refine Parts.le_trans ?_ hp); exact rfl)
    | with_reducible assumption
    | split
    | with_reducible apply Keeps.via (keeps_failAfter _)
    | with_reducible apply Keeps.via (keeps_runAfter _))

theorem keeps_stopSwap (s : State) :
    Keeps { cells := true, store := true, tb := true, tbAcc := true, tbLat := true, tsk := true, img := true, frc := true, laneA := true, laneB := true, lsk := true, pair := true, lease := true, mir := true, links := true, io := true, can := true, ses := true, pwr := true, tel := true, evr := true, lcd := true, mod := true, out := true, free := true } s (stopSwap s) := by
  refine Keeps.start fun p s0 hp h => ?_
  unfold stopSwap
  repeat' (first
    | ((with_reducible refine Parts.le_trans ?_ hp); exact rfl)
    | with_reducible assumption
    | (intro x; clear_value x)
    | lift_lets
    | split
    | with_reducible apply Keeps.via (keeps_releaseHolds _)
    | with_reducible apply Keeps.via (keeps_swapStops _ _ _)
    | with_reducible apply Keeps.via (keeps_settleAfter _)
    | fail_if_no_progress ((with_reducible apply Keeps.upd hp) <;> [skip; (with_reducible rfl); (with_reducible rfl)]))

theorem keeps_partnerLost (s : State) :
    Keeps { cells := true, store := true, tb := true, tbAcc := true, tbLat := true, tsk := true, img := true, frc := true, laneA := true, laneB := true, lsk := true, pair := true, lease := true, mir := true, links := true, io := true, can := true, ses := true, pwr := true, tel := true, evr := true, lcd := true, mod := true, out := true, flight := true, free := true } s (partnerLost s) := by
  refine Keeps.start fun p s0 hp h => ?_
  unfold partnerLost
  repeat' (first
    | ((with_reducible refine Parts.le_trans ?_ hp); exact rfl)
    | with_reducible assumption
    | (intro x; refine_lift have hx : Keeps p s0 x := ?_; ?_; on_goal 2 => unfold x; on_goal 1 => clear_value x)
    | (intro x; clear_value x)
    | lift_lets
    | split
    | with_reducible apply Keeps.via (keeps_logEv _ _ _ _)
    | with_reducible apply Keeps.via (keeps_answerOpt _ _ _ _)
    | with_reducible apply Keeps.via (keeps_releaseWaits _)
    | with_reducible apply Keeps.via (keeps_serveFences _)
    | with_reducible apply Keeps.via (keeps_dropRelayed _)
    | with_reducible apply Keeps.via (keeps_dropArmWait _)
    | with_reducible apply Keeps.via (keeps_stopSearch _ _)
    | with_reducible apply Keeps.via (keeps_stopSwap _)
    | fail_if_no_progress ((with_reducible apply Keeps.upd hp) <;> [skip; (with_reducible rfl); (with_reducible rfl)]))

theorem keeps_sendFullMirror (s : State) :
    Keeps { lsk := true, pair := true, out := true, flight := true } s (sendFullMirror s) := by
  refine Keeps.start fun p s0 hp h => ?_
  unfold sendFullMirror
  repeat' (first
    | ((with_reducible refine Parts.le_trans ?_ hp); exact rfl)
    | with_reducible assumption
    | (intro x; clear_value x)
    | intro x
    | lift_lets
    | split
    | with_reducible apply Keeps.of_snd (by assumption)
    | with_reducible apply Keeps.via (keeps_saddle _ _)
    | with_reducible apply Keeps.via (keeps_saddleData _ _ _ _)
    | with_reducible apply Keeps.via (keeps_freshId _)
    | with_reducible apply keeps_overAll)

theorem keeps_beginResync (s : State) :
    Keeps { frc := true, lsk := true, pair := true, lease := true, out := true, flight := true } s (beginResync s) := by
  refine Keeps.start fun p s0 hp h => ?_
  unfold beginResync
  repeat' (first
    | ((with_reducible refine Parts.le_trans ?_ hp); exact rfl)
    | with_reducible assumption
    | (intro x; refine_lift have hx : Keeps p s0 x := ?_; ?_; on_goal 2 => unfold x; on_goal 1 => clear_value x)
    | (intro x; clear_value x)
    | lift_lets
    | split
    | with_reducible apply Keeps.via (keeps_sendFullMirror _)
    | fail_if_no_progress ((with_reducible apply Keeps.upd hp) <;> [skip; (with_reducible rfl); (with_reducible rfl)]))

theorem keeps_drainMirror (s : State) :
    Keeps { lsk := true, mir := true, out := true, flight := true } s (drainMirror s) := by
  refine Keeps.start fun p s0 hp h => ?_
  unfold drainMirror
  repeat' (first
    | ((with_reducible refine Parts.le_trans ?_ hp); exact rfl)
    | with_reducible assumption
    | (intro x; clear_value x)
    | intro x
    | lift_lets
    | with_reducible apply Keeps.via (keeps_sendMirror _ _ _ _ _)
    | with_reducible apply keeps_overAll
    | fail_if_no_progress ((with_reducible apply Keeps.upd hp) <;> [skip; (with_reducible rfl); (with_reducible rfl)]))

theorem keeps_saddleLinkUp (l : Fin 2) (s : State) :
    Keeps { frc := true, lsk := true, pair := true, lease := true, mir := true, evr := true, out := true, flight := true } s (saddleLinkUp l s) := by
  refine Keeps.start fun p s0 hp h => ?_
  unfold saddleLinkUp
  repeat' (first
    | ((with_reducible refine Parts.le_trans ?_ hp); exact rfl)
    | with_reducible assumption
    | (intro x; refine_lift have hx : Keeps p s0 x := ?_; ?_; on_goal 2 => unfold x; on_goal 1 => clear_value x)
    | (intro x; clear_value x)
    | lift_lets
    | split
    | with_reducible apply Keeps.via (keeps_logEv _ _ _ _)
    | with_reducible apply Keeps.via (keeps_beginResync _)
    | with_reducible apply Keeps.via (keeps_drainMirror _)
    | fail_if_no_progress ((with_reducible apply Keeps.upd hp) <;> [skip; (with_reducible rfl); (with_reducible rfl)]))

theorem keeps_resend (l : Fin 2) (n : Nat) (s : State) :
    Keeps { lsk := true, out := true, flight := true } s (resend l n s) := by
  refine Keeps.start fun p s0 hp h => ?_
  unfold resend
  repeat' (first
    | ((with_reducible refine Parts.le_trans ?_ hp); exact rfl)
    | with_reducible assumption
    | (intro x; refine_lift have hx : Keeps p s0 x := ?_; ?_; on_goal 2 => unfold x; on_goal 1 => clear_value x)
    | (intro x; clear_value x)
    | intro x
    | lift_lets
    | split
    | with_reducible apply Keeps.via (keeps_sendPart _ _ _ _)
    | with_reducible apply keeps_overAll
    | fail_if_no_progress ((with_reducible apply Keeps.upd hp) <;> [skip; (with_reducible rfl); (with_reducible rfl)]))

theorem keeps_linkDown (l : Fin 2) (inFlight : Nat) (s : State) :
    Keeps { lsk := true, pair := true, evr := true, out := true, flight := true } s (linkDown l inFlight s) := by
  refine Keeps.start fun p s0 hp h => ?_
  unfold linkDown
  repeat' (first
    | ((with_reducible refine Parts.le_trans ?_ hp); exact rfl)
    | with_reducible assumption
    | (intro x; clear_value x)
    | lift_lets
    | split
    | with_reducible apply Keeps.via (keeps_logEv _ _ _ _)
    | with_reducible apply Keeps.via (keeps_resend _ _ _)
    | fail_if_no_progress ((with_reducible apply Keeps.upd hp) <;> [skip; (with_reducible rfl); (with_reducible rfl)]))

theorem keeps_saddleSilenceTimeout (l : Fin 2) (inFlight : Nat) (s : State) :
    Keeps { cells := true, store := true, tb := true, tbAcc := true, tbLat := true, tsk := true, img := true, frc := true, laneA := true, laneB := true, lsk := true, pair := true, lease := true, mir := true, links := true, io := true, can := true, ses := true, pwr := true, tel := true, evr := true, lcd := true, mod := true, out := true, flight := true, free := true } s (saddleSilenceTimeout l inFlight s) := by
  refine Keeps.start fun p s0 hp h => ?_
  unfold saddleSilenceTimeout
  repeat' (first
    | ((with_reducible refine Parts.le_trans ?_ hp); exact rfl)
    | with_reducible assumption
    | (intro x; refine_lift have hx : Keeps p s0 x := ?_; ?_; on_goal 2 => unfold x; on_goal 1 => clear_value x)
    | lift_lets
    | split
    | with_reducible apply Keeps.via (keeps_partnerLost _)
    | with_reducible apply Keeps.via (keeps_linkDown _ _ _))

theorem keeps_heardOn (v : Via) (s : State) :
    Keeps { frc := true, lsk := true, pair := true, lease := true, mir := true, evr := true, out := true, flight := true } s (heardOn v s) := by
  refine Keeps.start fun p s0 hp h => ?_
  unfold heardOn
  repeat' (first
    | ((with_reducible refine Parts.le_trans ?_ hp); exact rfl)
    | with_reducible assumption
    | (intro x; refine_lift have hx : Keeps p s0 x := ?_; ?_; on_goal 2 => unfold x; on_goal 1 => clear_value x)
    | (intro x; clear_value x)
    | lift_lets
    | split
    | with_reducible apply Keeps.via (keeps_saddleLinkUp _ _)
    | fail_if_no_progress ((with_reducible apply Keeps.upd hp) <;> [skip; (with_reducible rfl); (with_reducible rfl)]))

theorem keeps_bySaddle {p : Parts} {s0 : State} {v : Via} {f : State → State} {s : State} (hp : ({ frc := true, lsk := true, pair := true, lease := true, mir := true, evr := true, out := true, flight := true } : Parts).le p) (hf : ∀ x0, Keeps p s0 x0 → Keeps p s0 (f x0))
    (h : Keeps p s0 s) : Keeps p s0 (bySaddle v f s) := by
  unfold bySaddle
  repeat' (first
    | ((with_reducible refine Parts.le_trans ?_ hp); exact rfl)
    | with_reducible assumption
    | (intro x; refine_lift have hx : Keeps p s0 x := ?_; ?_; on_goal 2 => unfold x; on_goal 1 => clear_value x)
    | (intro x; clear_value x)
    | lift_lets
    | split
    | with_reducible apply hf
    | with_reducible apply Keeps.via (keeps_heardOn _ _)
    | with_reducible apply hf
    | fail_if_no_progress ((with_reducible apply Keeps.upd hp) <;> [skip; (with_reducible rfl); (with_reducible rfl)]))

theorem keeps_byMirror {p : Parts} {s0 : State} {v : Via} {f : State → State} {s : State} (hp : ({ frc := true, lsk := true, pair := true, lease := true, mir := true, evr := true, out := true, flight := true } : Parts).le p) (hf : ∀ x0, Keeps p s0 x0 → Keeps p s0 (f x0))
    (h : Keeps p s0 s) : Keeps p s0 (byMirror v f s) := by
  unfold byMirror
  repeat' (first
    | ((with_reducible refine Parts.le_trans ?_ hp); exact rfl)
    | with_reducible assumption
    | lift_lets
    | split
    | with_reducible apply hf
    | with_reducible apply Keeps.via (keeps_heardOn _ _))

theorem keeps_sendHeartbeats (s : State) :
    Keeps { lsk := true, pair := true, out := true } s (sendHeartbeats s) := by
  refine Keeps.start fun p s0 hp h => ?_
  unfold sendHeartbeats
  repeat' (first
    | ((with_reducible refine Parts.le_trans ?_ hp); exact rfl)
    | with_reducible assumption
    | (intro x; refine_lift have hx : Keeps p s0 x := ?_; ?_; on_goal 2 => unfold x; on_goal 1 => clear_value x)
    | (intro x; clear_value x)
    | intro x
    | lift_lets
    | split
    | with_reducible apply Keeps.via (keeps_emit _ _)
    | with_reducible apply Keeps.via (keeps_countUnchecked _ _ _)
    | with_reducible apply Keeps.via (keeps_saddle _ _)
    | with_reducible apply keeps_overAll
    | fail_if_no_progress ((with_reducible apply Keeps.upd hp) <;> [skip; (with_reducible rfl); (with_reducible rfl)]))

theorem keeps_renewalRound (s : State) :
    Keeps { lsk := true, lease := true, mir := true, links := true, out := true } s (renewalRound s) := by
  refine Keeps.start fun p s0 hp h => ?_
  unfold renewalRound
  repeat' (first
    | ((with_reducible refine Parts.le_trans ?_ hp); exact rfl)
    | with_reducible assumption
    | (intro x; refine_lift have hx : Keeps p s0 x := ?_; ?_; on_goal 2 => unfold x; on_goal 1 => clear_value x)
    | (intro x; clear_value x)
    | lift_lets
    | split
    | with_reducible apply Keeps.via (keeps_leaseFrame _ _ _ _ _)
    | fail_if_no_progress ((with_reducible apply Keeps.upd hp) <;> [skip; (with_reducible rfl); (with_reducible rfl)]))

theorem keeps_leaseRenewalRound (s : State) :
    Keeps { lsk := true, pair := true, lease := true, mir := true, links := true, out := true } s (leaseRenewalRound s) := by
  refine Keeps.start fun p s0 hp h => ?_
  unfold leaseRenewalRound
  repeat' (first
    | ((with_reducible refine Parts.le_trans ?_ hp); exact rfl)
    | with_reducible assumption
    | (intro x; refine_lift have hx : Keeps p s0 x := ?_; ?_; on_goal 2 => unfold x; on_goal 1 => clear_value x)
    | (intro x; clear_value x)
    | lift_lets
    | split
    | with_reducible apply Keeps.via (keeps_sendHeartbeats _)
    | with_reducible apply Keeps.via (keeps_renewalRound _)
    | fail_if_no_progress ((with_reducible apply Keeps.upd hp) <;> [skip; (with_reducible rfl); (with_reducible rfl)]))

theorem keeps_witnessAckReceive (m : WitnessMsg) (s : State) :
    Keeps { lease := true, links := true } s (witnessAckReceive m s) := by
  refine Keeps.start fun p s0 hp h => ?_
  unfold witnessAckReceive
  repeat' (first
    | ((with_reducible refine Parts.le_trans ?_ hp); exact rfl)
    | with_reducible assumption
    | (intro x; refine_lift have hx : Keeps p s0 x := ?_; ?_; on_goal 2 => unfold x; on_goal 1 => clear_value x)
    | (intro x; clear_value x)
    | lift_lets
    | split
    | with_reducible apply Keeps.via (keeps_seeEpoch _ _ _)
    | with_reducible apply Keeps.via (keeps_heardReply _ _ _)
    | fail_if_no_progress ((with_reducible apply Keeps.upd hp) <;> [skip; (with_reducible rfl); (with_reducible rfl)]))

theorem keeps_leaseLapses (s : State) :
    Keeps { cells := true, store := true, tb := true, tbAcc := true, tbLat := true, tsk := true, img := true, frc := true, laneA := true, laneB := true, lsk := true, pair := true, lease := true, mir := true, links := true, io := true, can := true, ses := true, pwr := true, tel := true, evr := true, lcd := true, mod := true, out := true, free := true } s (leaseLapses s) := by
  refine Keeps.start fun p s0 hp h => ?_
  unfold leaseLapses
  repeat' (first
    | ((with_reducible refine Parts.le_trans ?_ hp); exact rfl)
    | with_reducible assumption
    | (intro x; refine_lift have hx : Keeps p s0 x := ?_; ?_; on_goal 2 => unfold x; on_goal 1 => clear_value x)
    | (intro x; clear_value x)
    | lift_lets
    | with_reducible apply Keeps.via (keeps_closeAll _ _)
    | with_reducible apply Keeps.via (keeps_noticeAll _ _)
    | with_reducible apply Keeps.via (keeps_dropWaits _)
    | with_reducible apply Keeps.via (keeps_showRole _)
    | with_reducible apply Keeps.via (keeps_endLease _ _)
    | with_reducible apply Keeps.via (keeps_canMonitor _)
    | with_reducible apply Keeps.via (keeps_lapseOwn _ _)
    | with_reducible apply Keeps.via (keeps_stopSearch _ _)
    | with_reducible apply Keeps.via (keeps_stopSwap _)
    | with_reducible apply Keeps.via (keeps_sendHeartbeats _)
    | fail_if_no_progress ((with_reducible apply Keeps.upd hp) <;> [skip; (with_reducible rfl); (with_reducible rfl)]))

theorem keeps_standbyLeaseExpiry (s : State) :
    Keeps { lease := true } s (standbyLeaseExpiry s) := by
  refine Keeps.start fun p s0 hp h => ?_
  unfold standbyLeaseExpiry
  repeat' (first
    | with_reducible assumption
    | (intro x; clear_value x)
    | lift_lets
    | split
    | fail_if_no_progress ((with_reducible apply Keeps.upd hp) <;> [skip; (with_reducible rfl); (with_reducible rfl)]))

theorem keeps_dropOfOld (s : State) :
    Keeps { img := true, mir := true, ses := true, evr := true, lcd := true, out := true } s (dropOfOld s) := by
  refine Keeps.start fun p s0 hp h => ?_
  unfold dropOfOld
  repeat' (first
    | ((with_reducible refine Parts.le_trans ?_ hp); exact rfl)
    | with_reducible assumption
    | (intro x; refine_lift have hx : Keeps p s0 x := ?_; ?_; on_goal 2 => unfold x; on_goal 1 => clear_value x)
    | (intro x; clear_value x)
    | lift_lets
    | split
    | with_reducible apply Keeps.via (keeps_endClaim _ _)
    | with_reducible apply Keeps.via (keeps_dropRelayed _)
    | fail_if_no_progress ((with_reducible apply Keeps.upd hp) <;> [skip; (with_reducible rfl); (with_reducible rfl)]))

theorem keeps_swapFailed (cause : Nat) (s : State) :
    Keeps { lease := true, evr := true } s (swapFailed cause s) := by
  refine Keeps.start fun p s0 hp h => ?_
  unfold swapFailed
  repeat' (first
    | ((with_reducible refine Parts.le_trans ?_ hp); exact rfl)
    | with_reducible assumption
    | (intro x; clear_value x)
    | lift_lets
    | with_reducible apply Keeps.via (keeps_logEv _ _ _ _)
    | fail_if_no_progress ((with_reducible apply Keeps.upd hp) <;> [skip; (with_reducible rfl); (with_reducible rfl)]))

theorem keeps_gainLease (epoch : W32) (end_ grants : Nat) (s : State) :
    Keeps { cells := true, store := true, tb := true, tbAcc := true, tbLat := true, tsk := true, img := true, frc := true, laneA := true, laneB := true, lsk := true, pair := true, lease := true, mir := true, links := true, io := true, can := true, ses := true, tel := true, evr := true, lcd := true, mod := true, out := true } s (gainLease epoch end_ grants s) := by
  refine Keeps.start fun p s0 hp h => ?_
  unfold gainLease
  repeat' (first
    | ((with_reducible refine Parts.le_trans ?_ hp); exact rfl)
    | with_reducible assumption
    | (intro x; refine_lift have hx : Keeps p s0 x := ?_; ?_; on_goal 2 => unfold x; on_goal 1 => clear_value x)
    | (intro x; clear_value x)
    | lift_lets
    | split
    | with_reducible apply Keeps.via (keeps_logEv _ _ _ _)
    | with_reducible apply Keeps.via (keeps_persist _ _ _)
    | with_reducible apply Keeps.via (keeps_showRole _)
    | with_reducible apply Keeps.via (keeps_canTakeover _)
    | with_reducible apply Keeps.via (keeps_releaseHolds _)
    | with_reducible apply Keeps.via (keeps_stopSearch _ _)
    | with_reducible apply Keeps.via (keeps_dropOfOld _)
    | with_reducible apply Keeps.via (keeps_swapFailed _ _)
    | fail_if_no_progress ((with_reducible apply Keeps.upd hp) <;> [skip; (with_reducible rfl); (with_reducible rfl)]))

theorem keeps_sendClaim (epoch : W32) (s : State) :
    Keeps { lsk := true, pair := true, lease := true, mir := true, links := true, out := true } s (sendClaim epoch s) := by
  refine Keeps.start fun p s0 hp h => ?_
  unfold sendClaim
  repeat' (first
    | ((with_reducible refine Parts.le_trans ?_ hp); exact rfl)
    | with_reducible assumption
    | (intro x; refine_lift have hx : Keeps p s0 x := ?_; ?_; on_goal 2 => unfold x; on_goal 1 => clear_value x)
    | (intro x; clear_value x)
    | lift_lets
    | with_reducible apply Keeps.via (keeps_saddle _ _)
    | with_reducible apply Keeps.via (keeps_leaseFrame _ _ _ _ _)
    | fail_if_no_progress ((with_reducible apply Keeps.upd hp) <;> [skip; (with_reducible rfl); (with_reducible rfl)]))

theorem keeps_epochExhausted (s : State) :
    Keeps { lease := true, evr := true } s (epochExhausted s) := by
  refine Keeps.start fun p s0 hp h => ?_
  unfold epochExhausted
  repeat' (first
    | ((with_reducible refine Parts.le_trans ?_ hp); exact rfl)
    | with_reducible assumption
    | (intro x; clear_value x)
    | lift_lets
    | split
    | with_reducible apply Keeps.via (keeps_logEv _ _ _ _)
    | fail_if_no_progress ((with_reducible apply Keeps.upd hp) <;> [skip; (with_reducible rfl); (with_reducible rfl)]))

theorem keeps_claimRound (s : State) :
    Keeps { cells := true, store := true, tb := true, tbAcc := true, tbLat := true, tsk := true, img := true, frc := true, laneA := true, laneB := true, lsk := true, pair := true, lease := true, mir := true, links := true, io := true, can := true, ses := true, tel := true, evr := true, lcd := true, mod := true, out := true } s (claimRound s) := by
  refine Keeps.start fun p s0 hp h => ?_
  unfold claimRound
  repeat' (first
    | ((with_reducible refine Parts.le_trans ?_ hp); exact rfl)
    | with_reducible assumption
    | (intro x; refine_lift have hx : Keeps p s0 x := ?_; ?_; on_goal 2 => unfold x; on_goal 1 => clear_value x)
    | (intro x; clear_value x)
    | lift_lets
    | split
    | with_reducible apply Keeps.via (keeps_gainLease _ _ _ _)
    | with_reducible apply Keeps.via (keeps_sendClaim _ _)
    | with_reducible apply Keeps.via (keeps_epochExhausted _))

theorem keeps_claimAnnounce (s : State) :
    Keeps { lease := true } s (claimAnnounce s) := by
  refine Keeps.start fun p s0 hp h => ?_
  unfold claimAnnounce
  repeat' (first
    | with_reducible assumption
    | (intro x; clear_value x)
    | lift_lets
    | split
    | fail_if_no_progress ((with_reducible apply Keeps.upd hp) <;> [skip; (with_reducible rfl); (with_reducible rfl)]))

theorem keeps_grantReceive (m : WitnessMsg) (s : State) :
    Keeps { cells := true, store := true, tb := true, tbAcc := true, tbLat := true, tsk := true, img := true, frc := true, laneA := true, laneB := true, lsk := true, pair := true, lease := true, mir := true, links := true, io := true, can := true, ses := true, tel := true, evr := true, lcd := true, mod := true, out := true } s (grantReceive m s) := by
  refine Keeps.start fun p s0 hp h => ?_
  unfold grantReceive
  repeat' (first
    | ((with_reducible refine Parts.le_trans ?_ hp); exact rfl)
    | with_reducible assumption
    | (intro x; refine_lift have hx : Keeps p s0 x := ?_; ?_; on_goal 2 => unfold x; on_goal 1 => clear_value x)
    | (intro x; clear_value x)
    | lift_lets
    | split
    | with_reducible apply Keeps.via (keeps_seeEpoch _ _ _)
    | with_reducible apply Keeps.via (keeps_heardReply _ _ _)
    | with_reducible apply Keeps.via (keeps_gainLease _ _ _ _)
    | fail_if_no_progress ((with_reducible apply Keeps.upd hp) <;> [skip; (with_reducible rfl); (with_reducible rfl)]))

theorem keeps_claimFails (c : Claim) (s : State) :
    Keeps { lease := true, evr := true } s (claimFails c s) := by
  refine Keeps.start fun p s0 hp h => ?_
  unfold claimFails
  repeat' (first
    | ((with_reducible refine Parts.le_trans ?_ hp); exact rfl)
    | with_reducible assumption
    | (intro x; refine_lift have hx : Keeps p s0 x := ?_; ?_; on_goal 2 => unfold x; on_goal 1 => clear_value x)
    | (intro x; clear_value x)
    | lift_lets
    | split
    | with_reducible apply Keeps.via (keeps_logEv _ _ _ _)
    | with_reducible apply Keeps.via (keeps_swapFailed _ _)
    | fail_if_no_progress ((with_reducible apply Keeps.upd hp) <;> [skip; (with_reducible rfl); (with_reducible rfl)]))

theorem keeps_denyReceive (m : WitnessMsg) (s : State) :
    Keeps { lease := true, mir := true, links := true, evr := true } s (denyReceive m s) := by
  refine Keeps.start fun p s0 hp h => ?_
  unfold denyReceive
  repeat' (first
    | ((with_reducible refine Parts.le_trans ?_ hp); exact rfl)
    | with_reducible assumption
    | (intro x; refine_lift have hx : Keeps p s0 x := ?_; ?_; on_goal 2 => unfold x; on_goal 1 => clear_value x)
    | (intro x; clear_value x)
    | lift_lets
    | split
    | with_reducible apply Keeps.via (keeps_logEv _ _ _ _)
    | with_reducible apply Keeps.via (keeps_seeEpoch _ _ _)
    | with_reducible apply Keeps.via (keeps_heardReply _ _ _)
    | with_reducible apply Keeps.via (keeps_claimFails _ _)
    | fail_if_no_progress ((with_reducible apply Keeps.upd hp) <;> [skip; (with_reducible rfl); (with_reducible rfl)]))

theorem keeps_swapComplete (s : State) :
    Keeps { cells := true, store := true, tb := true, tbAcc := true, tbLat := true, tsk := true, img := true, frc := true, laneA := true, laneB := true, lsk := true, pair := true, lease := true, mir := true, links := true, io := true, can := true, ses := true, pwr := true, tel := true, evr := true, lcd := true, mod := true, out := true, free := true } s (swapComplete s) := by
  refine Keeps.start fun p s0 hp h => ?_
  unfold swapComplete
  repeat' (first
    | ((with_reducible refine Parts.le_trans ?_ hp); exact rfl)
    | with_reducible assumption
    | (intro x; refine_lift have hx : Keeps p s0 x := ?_; ?_; on_goal 2 => unfold x; on_goal 1 => clear_value x)
    | (intro x; clear_value x)
    | lift_lets
    | split
    | with_reducible apply Keeps.via (keeps_logEv _ _ _ _)
    | with_reducible apply Keeps.via (keeps_answerOpt _ _ _ _)
    | with_reducible apply Keeps.via (keeps_releaseHolds _)
    | with_reducible apply Keeps.via (keeps_runAfter _)
    | fail_if_no_progress ((with_reducible apply Keeps.upd hp) <;> [skip; (with_reducible rfl); (with_reducible rfl)]))

theorem keeps_followLease (h : Heartbeat) (s : State) :
    Keeps { cells := true, store := true, tb := true, tbAcc := true, tbLat := true, tsk := true, img := true, frc := true, laneA := true, laneB := true, lsk := true, pair := true, lease := true, mir := true, links := true, io := true, can := true, ses := true, pwr := true, tel := true, evr := true, lcd := true, mod := true, out := true, free := true } s (followLease h s) := by
  refine Keeps.start fun p s0 hp h => ?_
  unfold followLease
  repeat' (first
    | ((with_reducible refine Parts.le_trans ?_ hp); exact rfl)
    | with_reducible assumption
    | (intro x; refine_lift have hx : Keeps p s0 x := ?_; ?_; on_goal 2 => unfold x; on_goal 1 => clear_value x)
    | (intro x; clear_value x)
    | lift_lets
    | split
    | with_reducible apply Keeps.via (keeps_dropRelayed _)
    | with_reducible apply Keeps.via (keeps_releaseHolds _)
    | with_reducible apply Keeps.via (keeps_followHolder _ _)
    | with_reducible apply Keeps.via (keeps_swapFailed _ _)
    | with_reducible apply Keeps.via (keeps_swapComplete _)
    | fail_if_no_progress ((with_reducible apply Keeps.upd hp) <;> [skip; (with_reducible rfl); (with_reducible rfl)]))

theorem keeps_holderStopped (h : Heartbeat) (s : State) :
    Keeps { lease := true } s (holderStopped h s) := by
  refine Keeps.start fun p s0 hp h => ?_
  unfold holderStopped
  repeat' (first
    | with_reducible assumption
    | (intro x; refine_lift have hx : Keeps p s0 x := ?_; ?_; on_goal 2 => unfold x; on_goal 1 => clear_value x)
    | (intro x; clear_value x)
    | lift_lets
    | split
    | fail_if_no_progress ((with_reducible apply Keeps.upd hp) <;> [skip; (with_reducible rfl); (with_reducible rfl)]))

theorem keeps_partnerMoves (old : Fin 10) (oldIdle : W256) (h : Heartbeat) (s : State) :
    Keeps { cells := true, store := true, tb := true, tbAcc := true, tbLat := true, tsk := true, img := true, frc := true, laneA := true, laneB := true, lsk := true, pair := true, lease := true, mir := true, links := true, io := true, can := true, ses := true, pwr := true, tel := true, evr := true, lcd := true, mod := true, out := true, flight := true, free := true } s (partnerMoves old oldIdle h s) := by
  refine Keeps.start fun p s0 hp h => ?_
  unfold partnerMoves
  repeat' (first
    | ((with_reducible refine Parts.le_trans ?_ hp); exact rfl)
    | with_reducible assumption
    | (intro x; refine_lift have hx : Keeps p s0 x := ?_; ?_; on_goal 2 => unfold x; on_goal 1 => clear_value x)
    | (intro x; clear_value x)
    | lift_lets
    | split
    | with_reducible apply Keeps.via (keeps_releaseWaits _)
    | with_reducible apply Keeps.via (keeps_serveFences _)
    | with_reducible apply Keeps.via (keeps_stopSearch _ _)
    | with_reducible apply Keeps.via (keeps_stopSwap _)
    | with_reducible apply Keeps.via (keeps_sendFullMirror _)
    | fail_if_no_progress ((with_reducible apply Keeps.upd hp) <;> [skip; (with_reducible rfl); (with_reducible rfl)]))

theorem keeps_takeHeartbeat (h : Heartbeat) (s : State) :
    Keeps { cells := true, store := true, tb := true, tbAcc := true, tbLat := true, tsk := true, img := true, frc := true, laneA := true, laneB := true, lsk := true, pair := true, lease := true, mir := true, links := true, io := true, can := true, ses := true, pwr := true, tel := true, evr := true, lcd := true, mod := true, out := true, flight := true, free := true } s (takeHeartbeat h s) := by
  refine Keeps.start fun p s0 hp h => ?_
  unfold takeHeartbeat
  repeat' (first
    | ((with_reducible refine Parts.le_trans ?_ hp); exact rfl)
    | with_reducible assumption
    | (intro x; refine_lift have hx : Keeps p s0 x := ?_; ?_; on_goal 2 => unfold x; on_goal 1 => clear_value x)
    | intro (x : Img)
    | (intro x; clear_value x)
    | lift_lets
    | split
    | with_reducible apply Keeps.via (keeps_logEv _ _ _ _)
    | with_reducible apply Keeps.via (keeps_endForwardedLoad _ _)
    | with_reducible apply Keeps.via (keeps_closeEnrolment _ _)
    | with_reducible apply Keeps.via (keeps_leaseLapses _)
    | with_reducible apply Keeps.via (keeps_followLease _ _)
    | with_reducible apply Keeps.via (keeps_holderStopped _ _)
    | with_reducible apply Keeps.via (keeps_partnerMoves _ _ _ _)
    | fail_if_no_progress ((with_reducible apply Keeps.upd hp) <;> [skip; (with_reducible rfl); (with_reducible rfl)]))

theorem keeps_heartbeatReceive (v : Via) (h : Heartbeat) (s : State) :
    Keeps { cells := true, store := true, tb := true, tbAcc := true, tbLat := true, tsk := true, img := true, frc := true, laneA := true, laneB := true, lsk := true, pair := true, lease := true, mir := true, links := true, io := true, can := true, ses := true, pwr := true, tel := true, evr := true, lcd := true, mod := true, out := true, flight := true, free := true } s (heartbeatReceive v h s) := by
  refine Keeps.start fun p s0 hp h => ?_
  unfold heartbeatReceive
  repeat' (first
    | ((with_reducible refine Parts.le_trans ?_ hp); exact rfl)
    | with_reducible assumption
    | intro x
    | lift_lets
    | split
    | with_reducible apply Keeps.via (keeps_measureLink _ _ _)
    | with_reducible apply keeps_bySaddle
    | with_reducible apply Keeps.via (keeps_takeHeartbeat _ _))

theorem keeps_swapCmd (q : Req) (s : State) :
    Keeps { tsk := true, lsk := true, pair := true, lease := true, ses := true, evr := true, out := true } s (swapCmd q s) := by
  refine Keeps.start fun p s0 hp h => ?_
  unfold swapCmd
  repeat' (first
    | ((with_reducible refine Parts.le_trans ?_ hp); exact rfl)
    | with_reducible assumption
    | lift_lets
    | split
    | with_reducible apply Keeps.via (keeps_logEv _ _ _ _)
    | with_reducible apply Keeps.via (keeps_answer _ _ _ _)
    | with_reducible apply Keeps.via (keeps_openHold _ _ _ _))

theorem keeps_roleSwapDue (s : State) :
    Keeps { tsk := true, lsk := true, pair := true, lease := true, evr := true, out := true } s (roleSwapDue s) := by
  refine Keeps.start fun p s0 hp h => ?_
  unfold roleSwapDue
  repeat' (first
    | ((with_reducible refine Parts.le_trans ?_ hp); exact rfl)
    | with_reducible assumption
    | (intro x; clear_value x)
    | lift_lets
    | split
    | with_reducible apply Keeps.via (keeps_logEv _ _ _ _)
    | with_reducible apply Keeps.via (keeps_openHold _ _ _ _)
    | fail_if_no_progress ((with_reducible apply Keeps.upd hp) <;> [skip; (with_reducible rfl); (with_reducible rfl)]))

theorem keeps_handClaim (s : State) :
    Keeps { ses := true } s (handClaim s) := by
  refine Keeps.start fun p s0 hp h => ?_
  unfold handClaim
  repeat' (first
    | with_reducible assumption
    | (intro x; clear_value x)
    | lift_lets
    | split
    | fail_if_no_progress ((with_reducible apply Keeps.upd hp) <;> [skip; (with_reducible rfl); (with_reducible rfl)]))

theorem keeps_swapGo (q : SwitchReq) (s : State) :
    Keeps { tsk := true, lsk := true, pair := true, lease := true, mir := true, links := true, can := true, ses := true, evr := true, lcd := true, mod := true, out := true, flight := true } s (swapGo q s) := by
  refine Keeps.start fun p s0 hp h => ?_
  unfold swapGo
  repeat' (first
    | ((with_reducible refine Parts.le_trans ?_ hp); exact rfl)
    | with_reducible assumption
    | (intro x; refine_lift have hx : Keeps p s0 x := ?_; ?_; on_goal 2 => unfold x; on_goal 1 => clear_value x)
    | (intro x; clear_value x)
    | lift_lets
    | split
    | with_reducible apply Keeps.via (keeps_showRole _)
    | with_reducible apply Keeps.via (keeps_endLease _ _)
    | with_reducible apply Keeps.via (keeps_canMonitor _)
    | with_reducible apply Keeps.via (keeps_setHold _ _ _)
    | with_reducible apply Keeps.via (keeps_confirmReleased _)
    | with_reducible apply Keeps.via (keeps_sendYield _)
    | with_reducible apply Keeps.via (keeps_drainMirror _)
    | with_reducible apply Keeps.via (keeps_handClaim _)
    | fail_if_no_progress ((with_reducible apply Keeps.upd hp) <;> [skip; (with_reducible rfl); (with_reducible rfl)]))

theorem keeps_yieldReceive (epoch : W32) (successor : W64) (s : State) :
    Keeps { lsk := true, pair := true, lease := true, mir := true, links := true, out := true } s (yieldReceive epoch successor s) := by
  refine Keeps.start fun p s0 hp h => ?_
  unfold yieldReceive
  repeat' (first
    | ((with_reducible refine Parts.le_trans ?_ hp); exact rfl)
    | with_reducible assumption
    | (intro x; refine_lift have hx : Keeps p s0 x := ?_; ?_; on_goal 2 => unfold x; on_goal 1 => clear_value x)
    | (intro x; clear_value x)
    | lift_lets
    | split
    | with_reducible apply Keeps.via (keeps_sendClaim _ _)
    | fail_if_no_progress ((with_reducible apply Keeps.upd hp) <;> [skip; (with_reducible rfl); (with_reducible rfl)]))

theorem keeps_reclaim (s : State) :
    Keeps { cells := true, tbAcc := true, tbLat := true, tsk := true, frc := true, laneA := true, laneB := true, lsk := true, pair := true, lease := true, mir := true, links := true, io := true, can := true, ses := true, tel := true, evr := true, lcd := true, mod := true, out := true } s (reclaim s) := by
  refine Keeps.start fun p s0 hp h => ?_
  unfold reclaim
  repeat' (first
    | ((with_reducible refine Parts.le_trans ?_ hp); exact rfl)
    | with_reducible assumption
    | (intro x; refine_lift have hx : Keeps p s0 x := ?_; ?_; on_goal 2 => unfold x; on_goal 1 => clear_value x)
    | (intro x; clear_value x)
    | lift_lets
    | split
    | with_reducible apply Keeps.via (keeps_answerOpt _ _ _ _)
    | with_reducible apply Keeps.via (keeps_releaseHolds _)
    | with_reducible apply Keeps.via (keeps_failAfter _)
    | with_reducible apply Keeps.via (keeps_swapFailed _ _)
    | with_reducible apply Keeps.via (keeps_sendClaim _ _)
    | with_reducible apply Keeps.via (keeps_epochExhausted _)
    | fail_if_no_progress ((with_reducible apply Keeps.upd hp) <;> [skip; (with_reducible rfl); (with_reducible rfl)]))

theorem keeps_takeVoltageConfirm (s : State) :
    Keeps { lease := true } s (takeVoltageConfirm s) := by
  refine Keeps.start fun p s0 hp h => ?_
  unfold takeVoltageConfirm
  repeat' (first
    | with_reducible assumption
    | (intro x; clear_value x)
    | lift_lets
    | split
    | fail_if_no_progress ((with_reducible apply Keeps.upd hp) <;> [skip; (with_reducible rfl); (with_reducible rfl)]))

theorem keeps_successorGivesUp (s : State) :
    Keeps { cells := true, tbAcc := true, tbLat := true, tsk := true, frc := true, laneA := true, laneB := true, lsk := true, pair := true, lease := true, mir := true, links := true, io := true, can := true, ses := true, tel := true, evr := true, lcd := true, out := true } s (successorGivesUp s) := by
  refine Keeps.start fun p s0 hp h => ?_
  unfold successorGivesUp
  repeat' (first
    | ((with_reducible refine Parts.le_trans ?_ hp); exact rfl)
    | with_reducible assumption
    | (intro x; clear_value x)
    | lift_lets
    | split
    | with_reducible apply Keeps.via (keeps_releaseHolds _)
    | fail_if_no_progress ((with_reducible apply Keeps.upd hp) <;> [skip; (with_reducible rfl); (with_reducible rfl)]))

theorem keeps_swapReclaimTimeout (s : State) :
    Keeps { cells := true, tbAcc := true, tbLat := true, tsk := true, frc := true, laneA := true, laneB := true, lsk := true, pair := true, lease := true, mir := true, links := true, io := true, can := true, ses := true, tel := true, evr := true, lcd := true, mod := true, out := true } s (swapReclaimTimeout s) := by
  refine Keeps.start fun p s0 hp h => ?_
  unfold swapReclaimTimeout
  repeat' (first
    | ((with_reducible refine Parts.le_trans ?_ hp); exact rfl)
    | with_reducible assumption
    | split
    | with_reducible apply Keeps.via (keeps_reclaim _)
    | with_reducible apply Keeps.via (keeps_successorGivesUp _))

theorem keeps_resyncCmd (value : W32) (q : Req) (s : State) :
    Keeps { frc := true, lsk := true, pair := true, lease := true, ses := true, out := true, flight := true } s (resyncCmd value q s) := by
  refine Keeps.start fun p s0 hp h => ?_
  unfold resyncCmd
  repeat' (first
    | ((with_reducible refine Parts.le_trans ?_ hp); exact rfl)
    | with_reducible assumption
    | (intro x; clear_value x)
    | lift_lets
    | split
    | with_reducible apply Keeps.of_snd (by assumption)
    | with_reducible apply Keeps.via (keeps_saddle _ _)
    | with_reducible apply Keeps.via (keeps_freshId _)
    | with_reducible apply Keeps.via (keeps_answer _ _ _ _)
    | with_reducible apply Keeps.via (keeps_beginResync _)
    | fail_if_no_progress ((with_reducible apply Keeps.upd hp) <;> [skip; (with_reducible rfl); (with_reducible rfl)]))

theorem keeps_resyncComplete (gs : List (Nat × Granule)) (fs : List (Fin 4096 × BitVec 6 × W64 × W64)) (s : State) :
    Keeps { cells := true, tsk := true, frc := true, lsk := true, pair := true, lease := true, ses := true, evr := true, out := true } s (resyncComplete gs fs s) := by
  refine Keeps.start fun p s0 hp h => ?_
  unfold resyncComplete
  repeat' (first
    | ((with_reducible refine Parts.le_trans ?_ hp); exact rfl)
    | with_reducible assumption
    | (intro x; refine_lift have hx : Keeps p s0 x := ?_; ?_; on_goal 2 => unfold x; on_goal 1 => clear_value x)
    | (intro x; clear_value x)
    | lift_lets
    | split
    | with_reducible apply Keeps.via (keeps_logEv _ _ _ _)
    | with_reducible apply Keeps.via (keeps_answerOpt _ _ _ _)
    | with_reducible apply Keeps.via (keeps_takeMirror _ _)
    | with_reducible apply Keeps.via (keeps_takeForces _ _)
    | fail_if_no_progress ((with_reducible apply Keeps.upd hp) <;> [skip; (with_reducible rfl); (with_reducible rfl)]))

theorem keeps_standbyConfirmation (id : Nat) (s : State) :
    Keeps { lsk := true, pair := true, mir := true, ses := true, out := true } s (standbyConfirmation id s) := by
  refine Keeps.start fun p s0 hp h => ?_
  unfold standbyConfirmation
  repeat' (first
    | ((with_reducible refine Parts.le_trans ?_ hp); exact rfl)
    | with_reducible assumption
    | lift_lets
    | split
    | with_reducible apply Keeps.via (keeps_saddle _ _)
    | with_reducible apply Keeps.via (keeps_confirmed _ _)
    | with_reducible apply Keeps.via (keeps_serveFences _))

theorem keeps_switchVerdictReceive (yes : Bool) (s : State) :
    Keeps { cells := true, tbAcc := true, tbLat := true, tsk := true, img := true, frc := true, laneA := true, laneB := true, lsk := true, pair := true, lease := true, mir := true, links := true, io := true, can := true, ses := true, tel := true, evr := true, lcd := true, mod := true, out := true, flight := true } s (switchVerdictReceive yes s) := by
  refine Keeps.start fun p s0 hp h => ?_
  unfold switchVerdictReceive
  repeat' (first
    | ((with_reducible refine Parts.le_trans ?_ hp); exact rfl)
    | with_reducible assumption
    | intro x
    | lift_lets
    | split
    | with_reducible apply keeps_partnerVerdict
    | with_reducible apply Keeps.via (keeps_beginWindow _ _)
    | with_reducible apply Keeps.via (keeps_changeEnded _ _)
    | with_reducible apply Keeps.via (keeps_swapEnded _ _)
    | with_reducible apply Keeps.via (keeps_swapGo _ _))

theorem keeps_debugHalt (lane : Lane) (relinquish : Bool) (s : State) :
    Keeps { cells := true, store := true, tsk := true, img := true, laneA := true, laneB := true, lsk := true, pair := true, lease := true, mir := true, links := true, io := true, can := true, ses := true, pwr := true, tel := true, evr := true, lcd := true, mod := true, out := true, free := true } s (debugHalt lane relinquish s) := by
  refine Keeps.start fun p s0 hp h => ?_
  unfold debugHalt
  repeat' (first
    | ((with_reducible refine Parts.le_trans ?_ hp); exact rfl)
    | with_reducible assumption
    | (intro x; clear_value x)
    | lift_lets
    | split
    | with_reducible apply Keeps.via (keeps_emit _ _)
    | with_reducible apply Keeps.via (keeps_openHold _ _ _ _)
    | with_reducible apply Keeps.via (keeps_acceptHalt _ _)
    | with_reducible apply Keeps.via (keeps_refuseHalt _ _ _)
    | fail_if_no_progress ((with_reducible apply Keeps.upd hp) <;> [skip; (with_reducible rfl); (with_reducible rfl)]))

/-! ### Operations of Machine/StateCmd.lean -/

theorem keeps_stateAccepted (code : Nat) (q : Req) (s : State) :
    Keeps { evr := true } s (stateAccepted code q s) := by
  refine Keeps.start fun p s0 hp h => ?_
  unfold stateAccepted
  repeat' (first
    | ((with_reducible refine Parts.le_trans ?_ hp); exact rfl)
    | with_reducible assumption
    | with_reducible apply Keeps.via (keeps_logSes _ _ _ _ _))

theorem keeps_selectFirmware (a : Origin) (s : State) :
    Keeps { lsk := true, pair := true, ses := true, mod := true, out := true } s (selectFirmware a s) := by
  refine Keeps.start fun p s0 hp h => ?_
  unfold selectFirmware
  repeat' (first
    | ((with_reducible refine Parts.le_trans ?_ hp); exact rfl)
    | with_reducible assumption
    | (intro x; clear_value x)
    | lift_lets
    | split
    | with_reducible apply Keeps.via (keeps_answer _ _ _ _)
    | fail_if_no_progress ((with_reducible apply Keeps.upd hp) <;> [skip; (with_reducible rfl); (with_reducible rfl)]))

theorem keeps_actOnSelf (code se : Nat) (a : Origin) (s : State) :
    Keeps { cells := true, store := true, tb := true, tbAcc := true, tbLat := true, tsk := true, img := true, frc := true, laneA := true, laneB := true, lsk := true, pair := true, lease := true, mir := true, links := true, io := true, can := true, ses := true, pwr := true, tel := true, evr := true, lcd := true, mod := true, out := true } s (actOnSelf code se a s) := by
  refine Keeps.start fun p s0 hp h => ?_
  unfold actOnSelf
  repeat' (first
    | ((with_reducible refine Parts.le_trans ?_ hp); exact rfl)
    | with_reducible assumption
    | (intro x; refine_lift have hx : Keeps p s0 x := ?_; ?_; on_goal 2 => unfold x; on_goal 1 => clear_value x)
    | lift_lets
    | split
    | with_reducible apply Keeps.via (keeps_answer _ _ _ _)
    | with_reducible apply Keeps.via (keeps_controlledStop _ _ _)
    | with_reducible apply Keeps.via (keeps_restart _ _ _)
    | with_reducible apply Keeps.via (keeps_selectFirmware _ _))

theorem keeps_orderStandby (code : Nat) (q : Req) (s : State) :
    Keeps { lsk := true, pair := true, ses := true, out := true } s (orderStandby code q s) := by
  refine Keeps.start fun p s0 hp h => ?_
  unfold orderStandby
  repeat' (first
    | ((with_reducible refine Parts.le_trans ?_ hp); exact rfl)
    | with_reducible assumption
    | lift_lets
    | split
    | with_reducible apply Keeps.of_snd (by assumption)
    | with_reducible apply Keeps.via (keeps_saddle _ _)
    | with_reducible apply Keeps.via (keeps_freshId _)
    | with_reducible apply Keeps.via (keeps_answer _ _ _ _)
    | with_reducible apply Keeps.via (keeps_addWait _ _ _ _))

theorem keeps_restartAfterSwap (code : Nat) (q : Req) (s : State) :
    Keeps { tsk := true, lsk := true, pair := true, lease := true, ses := true, mod := true, out := true } s (restartAfterSwap code q s) := by
  refine Keeps.start fun p s0 hp h => ?_
  unfold restartAfterSwap
  repeat' (first
    | ((with_reducible refine Parts.le_trans ?_ hp); exact rfl)
    | with_reducible assumption
    | (intro x; clear_value x)
    | lift_lets
    | split
    | with_reducible apply Keeps.via (keeps_answer _ _ _ _)
    | with_reducible apply Keeps.via (keeps_openHold _ _ _ _)
    | fail_if_no_progress ((with_reducible apply Keeps.upd hp) <;> [skip; (with_reducible rfl); (with_reducible rfl)]))

theorem keeps_modCmd (code : Nat) (q : Req) (s : State) :
    Keeps { cells := true, store := true, tb := true, tbAcc := true, tbLat := true, tsk := true, img := true, frc := true, laneA := true, laneB := true, lsk := true, pair := true, lease := true, mir := true, links := true, io := true, can := true, ses := true, pwr := true, tel := true, evr := true, lcd := true, mod := true, out := true } s (modCmd code q s) := by
  refine Keeps.start fun p s0 hp h => ?_
  unfold modCmd
  repeat' (first
    | ((with_reducible refine Parts.le_trans ?_ hp); exact rfl)
    | with_reducible assumption
    | (intro x; refine_lift have hx : Keeps p s0 x := ?_; ?_; on_goal 2 => unfold x; on_goal 1 => clear_value x)
    | (intro x; clear_value x)
    | lift_lets
    | split
    | with_reducible apply Keeps.via (keeps_answer _ _ _ _)
    | with_reducible apply Keeps.via (keeps_stateAccepted _ _ _)
    | with_reducible apply Keeps.via (keeps_actOnSelf _ _ _ _)
    | with_reducible apply Keeps.via (keeps_orderStandby _ _ _)
    | with_reducible apply Keeps.via (keeps_restartAfterSwap _ _ _))

theorem keeps_fwAbort (q : Req) (s : State) :
    Keeps { lsk := true, pair := true, ses := true, evr := true, mod := true, out := true } s (fwAbort q s) := by
  refine Keeps.start fun p s0 hp h => ?_
  unfold fwAbort
  repeat' (first
    | ((with_reducible refine Parts.le_trans ?_ hp); exact rfl)
    | with_reducible assumption
    | (intro x; clear_value x)
    | lift_lets
    | split
    | with_reducible apply Keeps.via (keeps_answer _ _ _ _)
    | with_reducible apply Keeps.via (keeps_stateAccepted _ _ _)
    | fail_if_no_progress ((with_reducible apply Keeps.upd hp) <;> [skip; (with_reducible rfl); (with_reducible rfl)]))

/-! ### Operations of Machine/Commands.lean -/

theorem keeps_undefinedCode (k : CmdReg) (q : Req) (s : State) : Keeps { lsk := true, pair := true, ses := true, out := true } s ((undefinedCode k).2 q s) :=
  Keeps.via (keeps_answer _ _ _ s) rfl (.refl _ s)

theorem keeps_modOp (code : Nat) (q : Req) (s : State) :
    Keeps { cells := true, store := true, tb := true, tbAcc := true, tbLat := true, tsk := true, img := true, frc := true, laneA := true, laneB := true, lsk := true, pair := true, lease := true, mir := true, links := true, io := true, can := true, ses := true, pwr := true, tel := true, evr := true, lcd := true, mod := true, out := true } s ((modOp code).2 q s) := by
  unfold modOp
  split <;> first
    | exact Keeps.mono (keeps_modCmd _ _ s) rfl
    | exact Keeps.mono (keeps_fwAbort _ s) rfl
    | exact Keeps.mono (keeps_undefinedCode _ q s) rfl

theorem keeps_imgOp (code : Nat) (arg : BitVec 4) (q : Req) (s : State) :
    Keeps { img := true, lsk := true, pair := true, ses := true, evr := true, lcd := true, out := true } s ((imgOp code arg).2 q s) := by
  unfold imgOp
  split
  · exact keeps_imgCmd rfl (fun q x h => Keeps.via (keeps_armCmd q x) rfl h) (.refl _ s)
  · exact keeps_imgCmd rfl (fun q x h => Keeps.via (keeps_disarmCmd q x) rfl h) (.refl _ s)
  · exact Keeps.mono (keeps_abortCmd q s) rfl
  · exact keeps_imgCmd rfl (fun q x h => Keeps.via (keeps_clearCmd q x) rfl h) (.refl _ s)
  · exact keeps_imgCmd rfl (fun q x h => Keeps.via (keeps_archiveCmd arg q x) rfl h) (.refl _ s)
  · exact keeps_imgCmd rfl (fun q x h => Keeps.via (keeps_restoreCmd arg q x) rfl h) (.refl _ s)
  · exact Keeps.mono (keeps_undefinedCode _ q s) rfl

theorem keeps_lskOp (code : Nat) (q : Req) (s : State) :
    Keeps { tsk := true, lsk := true, pair := true, lease := true, ses := true, evr := true, out := true } s ((lskOp code).2 q s) := by
  unfold lskOp
  split <;> first
    | exact Keeps.mono (keeps_commissionOff _ s) rfl
    | exact Keeps.mono (keeps_undefinedCode _ q s) rfl
    | exact Keeps.mono (keeps_recheckCmd _ s) rfl
    | exact Keeps.mono (keeps_commissionOn _ s) rfl

theorem keeps_pairOp (code : Nat) (q : Req) (s : State) :
    Keeps { tsk := true, frc := true, lsk := true, pair := true, lease := true, ses := true, evr := true, out := true, flight := true } s ((pairOp code).2 q s) := by
  unfold pairOp
  split <;> first
    | exact Keeps.mono (keeps_undefinedCode _ q s) rfl
    | exact Keeps.mono (keeps_resyncCmd _ _ s) rfl
    | exact Keeps.mono (keeps_swapCmd _ s) rfl

theorem keeps_lnkOp (code : Nat) (p : Fin 32) (s : State) (q : Req) (t : State) :
    Keeps { tsk := true, lsk := true, pair := true, mir := true, links := true, ses := true, evr := true, out := true } t ((lnkOp code p s).2 q t) := by
  unfold lnkOp
  split <;> first
    | exact Keeps.mono (keeps_restartStation _ _ t) rfl
    | exact Keeps.mono (keeps_retryStation _ _ t) rfl
    | exact Keeps.mono (keeps_undefinedCode _ q t) rfl
    | exact Keeps.mono (keeps_restartLink _ t) rfl

theorem keeps_chanOp (mk : Req → ChanCmd) (q : Req) (s : State) : Keeps { lsk := true, pair := true, mir := true, io := true, ses := true, out := true } s ((chanOp mk).2 q s) :=
  Keeps.via (keeps_hostCmd _ _ s) rfl (.refl _ s)

theorem keeps_chOp (code : Nat) (q : Req) (s : State) :
    Keeps { lsk := true, pair := true, mir := true, io := true, ses := true, out := true } s ((chOp code).2 q s) := by
  unfold chOp
  split <;> first
    | exact Keeps.mono (keeps_chanOp _ q s) rfl
    | exact Keeps.mono (keeps_undefinedCode _ q s) rfl

theorem keeps_claimOp (code : Nat) (q : Req) (s : State) :
    Keeps { img := true, lsk := true, pair := true, ses := true, evr := true, lcd := true, out := true } s ((claimOp code).2 q s) := by
  unfold claimOp
  split <;> first
    | exact Keeps.mono (keeps_acquire _ s) rfl
    | exact Keeps.mono (keeps_releaseClaim _ s) rfl
    | exact Keeps.mono (keeps_undefinedCode _ q s) rfl

theorem keeps_sesOp (code : Nat) (q : Req) (s : State) :
    Keeps { tsk := true, img := true, lsk := true, pair := true, lease := true, mir := true, links := true, io := true, ses := true, pwr := true, evr := true, lcd := true, mod := true, out := true } s ((sesOp code).2 q s) := by
  unfold sesOp
  split <;> first
    | exact Keeps.mono (keeps_sesClose _ s) rfl
    | exact Keeps.mono (keeps_undefinedCode _ q s) rfl
    | exact Keeps.mono (keeps_breakClaim _ s) rfl

theorem keeps_pwrOp (code : Nat) (q : Req) (s : State) :
    Keeps { lsk := true, pair := true, ses := true, pwr := true, tel := true, out := true } s ((pwrOp code).2 q s) := by
  unfold pwrOp
  split <;> first
    | exact Keeps.mono (keeps_holdupTest _ s) rfl
    | exact Keeps.mono (keeps_ceilingHold _ _ s) rfl
    | exact Keeps.mono (keeps_undefinedCode _ q s) rfl

theorem keeps_evrOp (code : Nat) (q : Req) (s : State) :
    Keeps { store := true, lsk := true, pair := true, ses := true, evr := true, out := true } s ((evrOp code).2 q s) := by
  unfold evrOp
  split <;> first
    | exact Keeps.mono (keeps_evrClear _ s) rfl
    | exact Keeps.mono (keeps_setrateCmd _ s) rfl
    | exact Keeps.mono (keeps_ratedefaultCmd _ s) rfl
    | exact Keeps.mono (keeps_undefinedCode _ q s) rfl

theorem keeps_lcdOp (code : Nat) (q : Req) (s : State) :
    Keeps { lsk := true, pair := true, ses := true, lcd := true, out := true } s ((lcdOp code).2 q s) := by
  unfold lcdOp
  split
  · exact Keeps.mono (keeps_hostUpdate q s) rfl
  · exact Keeps.mono (keeps_hostWake q s) rfl
  · exact Keeps.mono (keeps_undefinedCode _ q s) rfl

theorem keeps_frcOp (code : Nat) (q : Req) (s : State) :
    Keeps { frc := true, lsk := true, pair := true, mir := true, ses := true, out := true } s ((frcOp code).2 q s) := by
  unfold frcOp
  split <;> first
    | exact Keeps.mono (keeps_frcClear _ s) rfl
    | exact Keeps.mono (keeps_frcClearall _ s) rfl
    | exact Keeps.mono (keeps_undefinedCode _ q s) rfl
    | exact Keeps.mono (keeps_frcSet _ s) rfl

theorem keeps_commandOf (off : Nat) (v : W32) (s : State) (x : CmdOp) (e : commandOf off v s = some x) (q : Req) (t : State) :
    Keeps { cells := true, store := true, tb := true, tbAcc := true, tbLat := true, tsk := true, img := true, frc := true, laneA := true, laneB := true, lsk := true, pair := true, lease := true, mir := true, links := true, io := true, can := true, ses := true, pwr := true, tel := true, evr := true, lcd := true, mod := true, out := true, flight := true } t (x.2 q t) := by
  unfold commandOf at e
  split at e <;> first
    | (cases e; first
      | exact Keeps.mono (keeps_pwrOp _ q t) rfl
      | exact Keeps.mono (keeps_chOp _ q t) rfl
      | exact Keeps.mono (keeps_lskOp _ q t) rfl
      | exact Keeps.mono (keeps_frcOp _ q t) rfl
      | exact Keeps.mono (keeps_lnkOp _ _ _ q t) rfl
      | exact Keeps.mono (keeps_hostEvent _ q t) rfl
      | exact Keeps.mono (keeps_pairOp _ q t) rfl
      | exact Keeps.mono (keeps_sesOp _ q t) rfl
      | exact Keeps.mono (keeps_claimOp _ q t) rfl
      | exact Keeps.mono (keeps_modOp _ q t) rfl
      | exact Keeps.mono (keeps_evrOp _ q t) rfl
      | exact Keeps.mono (keeps_lcdOp _ q t) rfl
      | exact Keeps.mono (keeps_imgOp _ _ q t) rfl)
    | cases e

theorem keeps_settleMasks (se : Fin 64) (s : State) :
    Keeps { ses := true, free := true } s (settleMasks se s) := by
  refine Keeps.start fun p s0 hp h => ?_
  unfold settleMasks
  repeat' (first
    | ((with_reducible refine Parts.le_trans ?_ hp); exact rfl)
    | with_reducible assumption
    | (intro x; clear_value x)
    | lift_lets
    | split
    | with_reducible apply Keeps.of_snd (by assumption)
    | with_reducible apply Keeps.via (keeps_freeValue _ _)
    | with_reducible apply Keeps.via (keeps_onSess _ _ _))

theorem keeps_putOwn (off : Nat) (v : W32) (se : Fin 64) (s : State) :
    Keeps { ses := true, free := true } s (putOwn off v se s) := by
  refine Keeps.start fun p s0 hp h => ?_
  unfold putOwn
  repeat' (first
    | ((with_reducible refine Parts.le_trans ?_ hp); exact rfl)
    | with_reducible assumption
    | lift_lets
    | split
    | with_reducible apply Keeps.via (keeps_onSess _ _ _)
    | with_reducible apply Keeps.via (keeps_violClr _ _ _)
    | with_reducible apply Keeps.via (keeps_mapsync _ _ _)
    | with_reducible apply Keeps.via (keeps_settleMasks _ _))

theorem keeps_chDiag (v : W32) (se : Fin 64) (s : State) :
    Keeps { io := true } s (chDiag v se s) := by
  refine Keeps.start fun p s0 hp h => ?_
  unfold chDiag
  repeat' (first
    | ((with_reducible refine Parts.le_trans ?_ hp); exact rfl)
    | with_reducible assumption
    | with_reducible apply Keeps.via (keeps_onChan _ _ _))

theorem keeps_putRegister (off : Nat) (v : W32) (se : Fin 64) (s : State) :
    Keeps { cells := true, store := true, tb := true, tbAcc := true, tbLat := true, tsk := true, img := true, frc := true, laneA := true, laneB := true, lsk := true, pair := true, lease := true, mir := true, links := true, io := true, can := true, ses := true, pwr := true, tel := true, evr := true, lcd := true, mod := true, out := true, flight := true, free := true } s (putRegister off v se s) := by
  unfold putRegister
  split
  next k op e =>
    exact keeps_applyCmd rfl (fun q t h => Keeps.via (keeps_commandOf off v s (k, op) e q t) rfl h) (.refl _ s)
  · split
    · exact Keeps.via (keeps_chDiag _ _ _) rfl (.refl _ s)
    · exact Keeps.via (keeps_putOwn _ _ _ _) rfl (.refl _ s)
theorem keeps_registerWrite (off : Nat) (v : W32) (se : Fin 64) (s : State) :
    Keeps { cells := true, store := true, tb := true, tbAcc := true, tbLat := true, tsk := true, img := true, frc := true, laneA := true, laneB := true, lsk := true, pair := true, lease := true, mir := true, links := true, io := true, can := true, ses := true, pwr := true, tel := true, evr := true, lcd := true, mod := true, out := true, flight := true, free := true } s (registerWrite off v se s) := by
  refine Keeps.start fun p s0 hp h => ?_
  unfold registerWrite
  repeat' (first
    | ((with_reducible refine Parts.le_trans ?_ hp); exact rfl)
    | with_reducible assumption
    | (intro x; refine_lift have hx : Keeps p s0 x := ?_; ?_; on_goal 2 => unfold x; on_goal 1 => clear_value x)
    | lift_lets
    | split
    | with_reducible apply Keeps.via (keeps_setRes _ _ _ _)
    | with_reducible apply Keeps.via (keeps_noteWrite _ _ _)
    | with_reducible apply Keeps.via (keeps_refusal _ _ _)
    | with_reducible apply Keeps.via (keeps_heard _ _)
    | with_reducible apply Keeps.via (keeps_putRegister _ _ _ _))

/-! ### Operations of Machine/Host.lean -/

theorem keeps_holdAccess (i : Instr) (s : State) :
    Keeps { ses := true } s (holdAccess i s) := by
  refine Keeps.start fun p s0 hp h => ?_
  unfold holdAccess
  repeat' (first
    | with_reducible assumption
    | (intro x; clear_value x)
    | lift_lets
    | fail_if_no_progress ((with_reducible apply Keeps.upd hp) <;> [skip; (with_reducible rfl); (with_reducible rfl)]))

theorem keeps_readWord (se : Fin 64) (offs : List Nat) (s : State) :
    Keeps { ses := true, free := true } s (readWord se offs s).2 := by
  refine Keeps.start fun p s0 hp h => ?_
  unfold readWord
  repeat' (first
    | ((with_reducible refine Parts.le_trans ?_ hp); exact rfl)
    | with_reducible assumption
    | intro x
    | lift_lets
    | with_reducible apply Keeps.via (keeps_readEffect _ _ _)
    | with_reducible apply keeps_overAll)

theorem keeps_readWords (se : Fin 64) (l : List (List Nat)) (s : State) :
    Keeps { ses := true, free := true } s (readWords se l s).2 := by
  induction l generalizing s with
  | nil => exact .refl _ s
  | cons w rest ih => exact Keeps.via (ih (readWord se w s).2) rfl (Keeps.via (keeps_readWord se w s) rfl (.refl _ s))
theorem keeps_readMemory (se : Fin 64) (tag : W32) (a len : Nat) (chk : MemCheck) (s : State) :
    Keeps { store := true, tsk := true, img := true, lsk := true, pair := true, lease := true, mir := true, links := true, io := true, can := true, ses := true, pwr := true, tel := true, evr := true, lcd := true, mod := true, out := true, free := true } s (readMemory se tag a len chk s) := by
  refine Keeps.start fun p s0 hp h => ?_
  unfold readMemory
  repeat' (first
    | ((with_reducible refine Parts.le_trans ?_ hp); exact rfl)
    | with_reducible assumption
    | (intro x; refine_lift have hx : Keeps p s0 x := ?_; ?_; on_goal 2 => unfold x; on_goal 1 => clear_value x)
    | (intro x; clear_value x)
    | lift_lets
    | split
    | with_reducible apply Keeps.via (keeps_reply _ _ _ _ _ _)
    | with_reducible apply Keeps.via (keeps_violation _ _ _)
    | with_reducible apply Keeps.via (keeps_memCheck _ _)
    | fail_if_no_progress ((with_reducible apply Keeps.upd hp) <;> [skip; (with_reducible rfl); (with_reducible rfl)]))

theorem keeps_readAt (se : Fin 64) (tag : W32) (addr len : W32) (chk : MemCheck) (s : State) :
    Keeps { store := true, tsk := true, img := true, lsk := true, pair := true, lease := true, mir := true, links := true, io := true, can := true, ses := true, pwr := true, tel := true, evr := true, lcd := true, mod := true, out := true, free := true } s (readAt se tag addr len chk s) := by
  refine Keeps.start fun p s0 hp h => ?_
  unfold readAt
  repeat' (first
    | ((with_reducible refine Parts.le_trans ?_ hp); exact rfl)
    | with_reducible assumption
    | lift_lets
    | split
    | with_reducible apply Keeps.of_snd (by assumption)
    | with_reducible apply Keeps.via (keeps_reply _ _ _ _ _ _)
    | with_reducible apply Keeps.via (keeps_violation _ _ _)
    | with_reducible apply Keeps.via (keeps_settleMasks _ _)
    | with_reducible apply Keeps.via (keeps_holdAccess _ _)
    | with_reducible apply Keeps.via (keeps_readMemory _ _ _ _ _ _)
    | with_reducible apply Keeps.via (keeps_readWords _ _ _))

theorem keeps_checkedAccess {p : Parts} {s0 : State} {se : Fin 64} {chk : MemCheck} {refuse serve : State → State} {s : State} (hp : ({ store := true, tsk := true, img := true, lsk := true, pair := true, lease := true, mir := true, links := true, io := true, can := true, ses := true, pwr := true, tel := true, evr := true, lcd := true, mod := true, out := true, free := true } : Parts).le p) (hrefuse : ∀ x0, Keeps p s0 x0 → Keeps p s0 (refuse x0)) (hserve : ∀ x0, Keeps p s0 x0 → Keeps p s0 (serve x0))
    (h : Keeps p s0 s) : Keeps p s0 (checkedAccess se chk refuse serve s) := by
  unfold checkedAccess
  repeat' (first
    | ((with_reducible refine Parts.le_trans ?_ hp); exact rfl)
    | with_reducible assumption
    | lift_lets
    | split
    | with_reducible apply hrefuse
    | with_reducible apply hserve
    | with_reducible apply Keeps.via (keeps_hubFault _ _)
    | with_reducible apply Keeps.via (keeps_memCheck _ _))

theorem keeps_readService (se : Fin 64) (tag : W32) (addr len : W32) (chk : MemCheck) (s : State) :
    Keeps { store := true, tsk := true, img := true, lsk := true, pair := true, lease := true, mir := true, links := true, io := true, can := true, ses := true, pwr := true, tel := true, evr := true, lcd := true, mod := true, out := true, free := true } s (readService se tag addr len chk s) := by
  refine Keeps.start fun p s0 hp h => ?_
  unfold readService
  repeat' (first
    | ((with_reducible refine Parts.le_trans ?_ hp); exact rfl)
    | with_reducible assumption
    | (intro x; refine_lift have hx : Keeps p s0 x := ?_; ?_; on_goal 2 => unfold x; on_goal 1 => clear_value x)
    | lift_lets
    | split
    | with_reducible apply Keeps.via (keeps_reply _ _ _ _ _ _)
    | with_reducible apply Keeps.via (keeps_heard _ _)
    | with_reducible apply Keeps.via (keeps_readAt _ _ _ _ _ _))

theorem keeps_refuseWrite (se : Fin 64) (ack : Bool) (tag : W32) (r : Refuse) (s : State) :
    Keeps { ses := true, evr := true, out := true } s (refuseWrite se ack tag r s) := by
  refine Keeps.start fun p s0 hp h => ?_
  unfold refuseWrite
  repeat' (first
    | ((with_reducible refine Parts.le_trans ?_ hp); exact rfl)
    | with_reducible assumption
    | (intro x; refine_lift have hx : Keeps p s0 x := ?_; ?_; on_goal 2 => unfold x; on_goal 1 => clear_value x)
    | lift_lets
    | split
    | with_reducible apply Keeps.via (keeps_reply _ _ _ _ _ _)
    | with_reducible apply Keeps.via (keeps_noteWrite _ _ _)
    | with_reducible apply Keeps.via (keeps_refusal _ _ _))

theorem keeps_commitHost (se : Option (Fin 64)) (a : Nat) (data : List Byte) (acts : List Owed) (s : State) :
    Keeps { cells := true, tsk := true, lsk := true, pair := true, mir := true, ses := true, out := true, flight := true } s (commitHost se a data acts s) := by
  refine Keeps.start fun p s0 hp h => ?_
  unfold commitHost
  repeat' (first
    | (intro (hw : Memory.wf _ = true); with_reducible exact Memory.writeBytes_wf _ _ _ hw)
    | ((with_reducible refine Parts.le_trans ?_ hp); exact rfl)
    | with_reducible assumption
    | (intro x; refine_lift have hx : Keeps p s0 x := ?_; ?_; on_goal 2 => unfold x; on_goal 1 => clear_value x)
    | (intro x; clear_value x)
    | lift_lets
    | split
    | with_reducible apply Keeps.of_snd (by assumption)
    | with_reducible apply Keeps.via (keeps_freshId _)
    | with_reducible apply Keeps.via (keeps_oweOn _ _ _ _)
    | with_reducible apply Keeps.via (keeps_reloadOwners _ _)
    | with_reducible apply Keeps.via (keeps_sendMirror _ _ _ _ _)
    | (with_reducible refine Keeps.via (keeps_withMem _ _ ?_) ?_ ?_))

theorem keeps_writeVars (se : Fin 64) (ack : Bool) (tag : W32) (addr : W32) (data : List Byte) (s : State) :
    Keeps { cells := true, tsk := true, lsk := true, pair := true, mir := true, ses := true, evr := true, out := true, flight := true } s (writeVars se ack tag addr data s) := by
  refine Keeps.start fun p s0 hp h => ?_
  unfold writeVars
  repeat' (first
    | ((with_reducible refine Parts.le_trans ?_ hp); exact rfl)
    | with_reducible assumption
    | (intro x; clear_value x)
    | lift_lets
    | split
    | with_reducible apply Keeps.via (keeps_noteWrite _ _ _)
    | with_reducible apply Keeps.via (keeps_relay _ _ _ _ _ _ _ _)
    | with_reducible apply Keeps.via (keeps_holdAccess _ _)
    | with_reducible apply Keeps.via (keeps_refuseWrite _ _ _ _ _)
    | with_reducible apply Keeps.via (keeps_commitHost _ _ _ _ _))

theorem keeps_classResults (se : Fin 64) (ps : List (Nat × W32)) (s : State) :
    Keeps { ses := true } s (classResults se ps s) := by
  refine Keeps.start fun p s0 hp h => ?_
  unfold classResults
  repeat' (first
    | ((with_reducible refine Parts.le_trans ?_ hp); exact rfl)
    | with_reducible assumption
    | intro x
    | lift_lets
    | split
    | with_reducible apply Keeps.via (keeps_setRes _ _ _ _)
    | with_reducible apply keeps_overAll)

theorem keeps_ackRegisters (se : Fin 64) (tag : W32) (before : Nat) (s : State) :
    Keeps { pair := true, ses := true, out := true } s (ackRegisters se tag before s) := by
  refine Keeps.start fun p s0 hp h => ?_
  unfold ackRegisters
  repeat' (first
    | ((with_reducible refine Parts.le_trans ?_ hp); exact rfl)
    | with_reducible assumption
    | (intro x; clear_value x)
    | lift_lets
    | split
    | with_reducible apply Keeps.via (keeps_reply _ _ _ _ _ _)
    | fail_if_no_progress ((with_reducible apply Keeps.upd hp) <;> [skip; (with_reducible rfl); (with_reducible rfl)]))

theorem keeps_writeRegs (se : Fin 64) (ack : Bool) (tag : W32) (a : Nat) (data : List Byte) (s : State) :
    Keeps { cells := true, store := true, tb := true, tbAcc := true, tbLat := true, tsk := true, img := true, frc := true, laneA := true, laneB := true, lsk := true, pair := true, lease := true, mir := true, links := true, io := true, can := true, ses := true, pwr := true, tel := true, evr := true, lcd := true, mod := true, out := true, flight := true, free := true } s (writeRegs se ack tag a data s) := by
  refine Keeps.start fun p s0 hp h => ?_
  unfold writeRegs
  repeat' (first
    | ((with_reducible refine Parts.le_trans ?_ hp); exact rfl)
    | with_reducible assumption
    | (intro x; refine_lift have hx : Keeps p s0 x := ?_; ?_; on_goal 2 => unfold x; on_goal 1 => clear_value x)
    | (intro x; clear_value x)
    | intro x
    | lift_lets
    | split
    | with_reducible apply Keeps.via (keeps_noteWrite _ _ _)
    | with_reducible apply Keeps.via (keeps_putRegister _ _ _ _)
    | with_reducible apply Keeps.via (keeps_refuseWrite _ _ _ _ _)
    | with_reducible apply Keeps.via (keeps_classResults _ _ _)
    | with_reducible apply Keeps.via (keeps_ackRegisters _ _ _ _)
    | with_reducible apply keeps_overAll)

theorem keeps_writeAt (se : Fin 64) (ack : Bool) (tag : W32) (addr : W32) (data : List Byte) (s : State) :
    Keeps { cells := true, store := true, tb := true, tbAcc := true, tbLat := true, tsk := true, img := true, frc := true, laneA := true, laneB := true, lsk := true, pair := true, lease := true, mir := true, links := true, io := true, can := true, ses := true, pwr := true, tel := true, evr := true, lcd := true, mod := true, out := true, flight := true, free := true } s (writeAt se ack tag addr data s) := by
  refine Keeps.start fun p s0 hp h => ?_
  unfold writeAt
  repeat' (first
    | ((with_reducible refine Parts.le_trans ?_ hp); exact rfl)
    | with_reducible assumption
    | (intro x; clear_value x)
    | lift_lets
    | split
    | with_reducible apply Keeps.via (keeps_settleMasks _ _)
    | with_reducible apply Keeps.via (keeps_holdAccess _ _)
    | with_reducible apply Keeps.via (keeps_refuseWrite _ _ _ _ _)
    | with_reducible apply Keeps.via (keeps_writeVars _ _ _ _ _ _)
    | with_reducible apply Keeps.via (keeps_writeRegs _ _ _ _ _ _))

theorem keeps_writeService (se : Fin 64) (ack : Bool) (tag : W32) (addr : W32) (data : List Byte) (s : State) :
    Keeps { cells := true, store := true, tb := true, tbAcc := true, tbLat := true, tsk := true, img := true, frc := true, laneA := true, laneB := true, lsk := true, pair := true, lease := true, mir := true, links := true, io := true, can := true, ses := true, pwr := true, tel := true, evr := true, lcd := true, mod := true, out := true, flight := true, free := true } s (writeService se ack tag addr data s) := by
  refine Keeps.start fun p s0 hp h => ?_
  unfold writeService
  repeat' (first
    | ((with_reducible refine Parts.le_trans ?_ hp); exact rfl)
    | with_reducible assumption
    | (intro x; refine_lift have hx : Keeps p s0 x := ?_; ?_; on_goal 2 => unfold x; on_goal 1 => clear_value x)
    | lift_lets
    | split
    | with_reducible apply Keeps.via (keeps_heard _ _)
    | with_reducible apply Keeps.via (keeps_refuseWrite _ _ _ _ _)
    | with_reducible apply Keeps.via (keeps_writeAt _ _ _ _ _ _))

theorem keeps_openFence (se : Fin 64) (tag : W32) (s : State) :
    Keeps { ses := true, out := true } s (openFence se tag s) := by
  refine Keeps.start fun p s0 hp h => ?_
  unfold openFence
  repeat' (first
    | ((with_reducible refine Parts.le_trans ?_ hp); exact rfl)
    | with_reducible assumption
    | lift_lets
    | with_reducible apply Keeps.via (keeps_onSess _ _ _)
    | with_reducible apply Keeps.via (keeps_serveFence _ _))

theorem keeps_fenceService (se : Fin 64) (tag : W32) (s : State) :
    Keeps { ses := true, out := true } s (fenceService se tag s) := by
  refine Keeps.start fun p s0 hp h => ?_
  unfold fenceService
  repeat' (first
    | ((with_reducible refine Parts.le_trans ?_ hp); exact rfl)
    | with_reducible assumption
    | (intro x; refine_lift have hx : Keeps p s0 x := ?_; ?_; on_goal 2 => unfold x; on_goal 1 => clear_value x)
    | lift_lets
    | split
    | with_reducible apply Keeps.via (keeps_reply _ _ _ _ _ _)
    | with_reducible apply Keeps.via (keeps_heard _ _)
    | with_reducible apply Keeps.via (keeps_holdAccess _ _)
    | with_reducible apply Keeps.via (keeps_openFence _ _ _))

theorem keeps_historyRead (se : Fin 64) (tag : W32) (buffer : W32) (offset : Nat) (len : W32) (chk : MemCheck) (s : State) :
    Keeps { store := true, tsk := true, img := true, lsk := true, pair := true, lease := true, mir := true, links := true, io := true, can := true, ses := true, pwr := true, tel := true, evr := true, lcd := true, mod := true, out := true, free := true } s (historyRead se tag buffer offset len chk s) := by
  refine Keeps.start fun p s0 hp h => ?_
  unfold historyRead
  repeat' (first
    | ((with_reducible refine Parts.le_trans ?_ hp); exact rfl)
    | with_reducible assumption
    | (intro x; refine_lift have hx : Keeps p s0 x := ?_; ?_; on_goal 2 => unfold x; on_goal 1 => clear_value x)
    | (intro x; clear_value x)
    | lift_lets
    | split
    | with_reducible apply Keeps.via (keeps_reply _ _ _ _ _ _)
    | with_reducible apply Keeps.via (keeps_memCheck _ _)
    | with_reducible apply Keeps.via (keeps_heard _ _))

theorem keeps_registerRead (off : Nat) (se : Fin 64) (s : State) :
    Keeps { ses := true, free := true } s (registerRead off se s) := by
  refine Keeps.start fun p s0 hp h => ?_
  unfold registerRead
  repeat' (first
    | ((with_reducible refine Parts.le_trans ?_ hp); exact rfl)
    | with_reducible assumption
    | lift_lets
    | split
    | with_reducible apply Keeps.via (keeps_heard _ _)
    | with_reducible apply Keeps.via (keeps_readEffect _ _ _))

/-! ### Operations of Machine/Relay.lean -/

theorem keeps_relayTooLate (id : Nat) (s : State) :
    Keeps { lsk := true, pair := true, out := true } s (relayTooLate id s) := by
  refine Keeps.start fun p s0 hp h => ?_
  unfold relayTooLate
  repeat' (first
    | ((with_reducible refine Parts.le_trans ?_ hp); exact rfl)
    | with_reducible assumption
    | with_reducible apply Keeps.via (keeps_saddle _ _))

theorem keeps_relayedVars (m : RelayMsg) (addr : W32) (data : List Byte) (s : State) :
    Keeps { cells := true, tsk := true, lsk := true, pair := true, mir := true, ses := true, out := true, flight := true } s (relayedVars m addr data s) := by
  refine Keeps.start fun p s0 hp h => ?_
  unfold relayedVars
  repeat' (first
    | ((with_reducible refine Parts.le_trans ?_ hp); exact rfl)
    | with_reducible assumption
    | split
    | with_reducible apply Keeps.via (keeps_saddle _ _)
    | with_reducible apply Keeps.via (keeps_holdAccess _ _)
    | with_reducible apply Keeps.via (keeps_commitHost _ _ _ _ _)
    | with_reducible apply Keeps.via (keeps_relayTooLate _ _))

theorem keeps_takeOrder (m : RelayMsg) (off code : Nat) (s : State) :
    Keeps { cells := true, store := true, tb := true, tbAcc := true, tbLat := true, tsk := true, img := true, frc := true, laneA := true, laneB := true, lsk := true, pair := true, lease := true, mir := true, links := true, io := true, can := true, ses := true, pwr := true, tel := true, evr := true, lcd := true, mod := true, out := true, flight := true } s (takeOrder m off code s) := by
  refine Keeps.start fun p s0 hp h => ?_
  unfold takeOrder
  repeat' (first
    | ((with_reducible refine Parts.le_trans ?_ hp); exact rfl)
    | with_reducible assumption
    | (intro x; clear_value x)
    | lift_lets
    | split
    | with_reducible apply Keeps.via (keeps_answer _ _ _ _)
    | with_reducible apply Keeps.via (keeps_beginResync _)
    | with_reducible apply Keeps.via (keeps_actOnSelf _ _ _ _))

theorem keeps_relayedCmd (m : RelayMsg) (off : Nat) (v : W32) (s : State) :
    Keeps { cells := true, store := true, tb := true, tbAcc := true, tbLat := true, tsk := true, img := true, frc := true, laneA := true, laneB := true, lsk := true, pair := true, lease := true, mir := true, links := true, io := true, can := true, ses := true, pwr := true, tel := true, evr := true, lcd := true, mod := true, out := true, flight := true } s (relayedCmd m off v s) := by
  unfold relayedCmd
  split
  · split
    next k op e => exact Keeps.via (keeps_commandOf off v s (k, op) e _ s) rfl (.refl _ s)
    · exact Keeps.via (keeps_saddle _ _) rfl (.refl _ s)
  · split
    · exact Keeps.via (keeps_takeOrder _ _ _ _) rfl (.refl _ s)
    · exact Keeps.via (keeps_relayTooLate _ _) rfl (.refl _ s)
theorem keeps_relayedChunk (m : RelayMsg) (offset : Nat) (data : List Byte) (s : State) :
    Keeps { img := true, lsk := true, pair := true, ses := true, evr := true, lcd := true, out := true } s (relayedChunk m offset data s) :=
  Keeps.via (keeps_saddle _ _) rfl (Keeps.via (keeps_chunkService _ offset data s) rfl (Keeps.refl _ s))
theorem keeps_relayedKey (m : RelayMsg) (stmt sig : List Byte) (s : State) :
    Keeps { store := true, lsk := true, pair := true, evr := true, out := true } s (relayedKey m stmt sig s) := by
  refine Keeps.start fun p s0 hp h => ?_
  unfold relayedKey
  repeat' (first
    | ((with_reducible refine Parts.le_trans ?_ hp); exact rfl)
    | with_reducible assumption
    | lift_lets
    | split
    | with_reducible apply Keeps.via (keeps_saddle _ _)
    | with_reducible apply Keeps.via (keeps_logKey _ _ _ _)
    | with_reducible apply Keeps.via (keeps_writeKeys _ _ _))

theorem keeps_relayedWriteReceive (m : RelayMsg) (s : State) :
    Keeps { cells := true, store := true, tb := true, tbAcc := true, tbLat := true, tsk := true, img := true, frc := true, laneA := true, laneB := true, lsk := true, pair := true, lease := true, mir := true, links := true, io := true, can := true, ses := true, pwr := true, tel := true, evr := true, lcd := true, mod := true, out := true, flight := true } s (relayedWriteReceive m s) := by
  refine Keeps.start fun p s0 hp h => ?_
  unfold relayedWriteReceive
  repeat' (first
    | ((with_reducible refine Parts.le_trans ?_ hp); exact rfl)
    | with_reducible assumption
    | split
    | with_reducible apply Keeps.via (keeps_endClaim _ _)
    | with_reducible apply Keeps.via (keeps_changeService _ _ _ _)
    | with_reducible apply Keeps.via (keeps_relayTooLate _ _)
    | with_reducible apply Keeps.via (keeps_relayedVars _ _ _ _)
    | with_reducible apply Keeps.via (keeps_relayedCmd _ _ _ _)
    | with_reducible apply Keeps.via (keeps_relayedChunk _ _ _ _)
    | with_reducible apply Keeps.via (keeps_relayedKey _ _ _ _))

theorem keeps_verdictResult (r : Relayed) (status : Status) (result : W32) (s : State) :
    Keeps { ses := true } s (verdictResult r status result s) := by
  refine Keeps.start fun p s0 hp h => ?_
  unfold verdictResult
  repeat' (first
    | ((with_reducible refine Parts.le_trans ?_ hp); exact rfl)
    | with_reducible assumption
    | (intro x; refine_lift have hx : Keeps p s0 x := ?_; ?_; on_goal 2 => unfold x; on_goal 1 => clear_value x)
    | (intro x; clear_value x)
    | lift_lets
    | split
    | with_reducible apply Keeps.via (keeps_setRes _ _ _ _)
    | fail_if_no_progress ((with_reducible apply Keeps.upd hp) <;> [skip; (with_reducible rfl); (with_reducible rfl)]))

theorem keeps_verdictRefused (r : Relayed) (status : Status) (s : State) :
    Keeps { ses := true, evr := true, out := true } s (verdictRefused r status s) := by
  refine Keeps.start fun p s0 hp h => ?_
  unfold verdictRefused
  repeat' (first
    | ((with_reducible refine Parts.le_trans ?_ hp); exact rfl)
    | with_reducible assumption
    | lift_lets
    | split
    | with_reducible apply Keeps.via (keeps_noteLate _ _ _ _)
    | with_reducible apply Keeps.via (keeps_refusal _ _ _))

theorem keeps_verdictReply (r : Relayed) (status : Status) (result : W32) (s : State) :
    Keeps { out := true } s (verdictReply r status result s) := by
  refine Keeps.start fun p s0 hp h => ?_
  unfold verdictReply
  repeat' (first
    | ((with_reducible refine Parts.le_trans ?_ hp); exact rfl)
    | with_reducible assumption
    | (intro x; clear_value x)
    | lift_lets
    | split
    | with_reducible apply Keeps.via (keeps_reply _ _ _ _ _ _))

theorem keeps_verdictOn (r : Relayed) (status : Status) (result : W32) (s : State) :
    Keeps { ses := true, evr := true, out := true } s (verdictOn r status result s) := by
  refine Keeps.start fun p s0 hp h => ?_
  unfold verdictOn
  repeat' (first
    | ((with_reducible refine Parts.le_trans ?_ hp); exact rfl)
    | with_reducible assumption
    | (intro x; refine_lift have hx : Keeps p s0 x := ?_; ?_; on_goal 2 => unfold x; on_goal 1 => clear_value x)
    | (intro x; clear_value x)
    | lift_lets
    | with_reducible apply Keeps.via (keeps_serveFences _)
    | with_reducible apply Keeps.via (keeps_serveHeldReads _)
    | with_reducible apply Keeps.via (keeps_verdictResult _ _ _ _)
    | with_reducible apply Keeps.via (keeps_verdictRefused _ _ _)
    | with_reducible apply Keeps.via (keeps_verdictReply _ _ _ _)
    | fail_if_no_progress ((with_reducible apply Keeps.upd hp) <;> [skip; (with_reducible rfl); (with_reducible rfl)]))

theorem keeps_orderDone (id : Nat) (result : W32) (s : State) :
    Keeps { lsk := true, pair := true, mir := true, ses := true, out := true } s (orderDone id result s) := by
  refine Keeps.start fun p s0 hp h => ?_
  unfold orderDone
  repeat' (first
    | ((with_reducible refine Parts.le_trans ?_ hp); exact rfl)
    | with_reducible assumption
    | (intro x; clear_value x)
    | intro x
    | lift_lets
    | split
    | with_reducible apply Keeps.via (keeps_answer _ _ _ _)
    | with_reducible apply Keeps.via (keeps_settle _ _)
    | with_reducible apply keeps_overAll
    | fail_if_no_progress ((with_reducible apply Keeps.upd hp) <;> [skip; (with_reducible rfl); (with_reducible rfl)]))

theorem keeps_relayVerdictReceive (id : Nat) (status : Status) (result : W32) (s : State) :
    Keeps { lsk := true, pair := true, mir := true, ses := true, evr := true, out := true } s (relayVerdictReceive id status result s) := by
  refine Keeps.start fun p s0 hp h => ?_
  unfold relayVerdictReceive
  repeat' (first
    | ((with_reducible refine Parts.le_trans ?_ hp); exact rfl)
    | with_reducible assumption
    | lift_lets
    | split
    | with_reducible apply Keeps.via (keeps_serveFences _)
    | with_reducible apply Keeps.via (keeps_holdAccess _ _)
    | with_reducible apply Keeps.via (keeps_verdictOn _ _ _ _)
    | with_reducible apply Keeps.via (keeps_orderDone _ _ _))

/-! ### Operations of Machine/Window.lean -/

theorem keeps_cutConversion (c : Fin 192) (s : State) :
    Keeps { io := true } s (cutConversion c s) := by
  refine Keeps.start fun p s0 hp h => ?_
  unfold cutConversion
  repeat' (first
    | ((with_reducible refine Parts.le_trans ?_ hp); exact rfl)
    | with_reducible assumption
    | (intro x; refine_lift have hx : Keeps p s0 x := ?_; ?_; on_goal 2 => unfold x; on_goal 1 => clear_value x)
    | (intro x; clear_value x)
    | lift_lets
    | split
    | with_reducible apply Keeps.via (keeps_onAi _ _ _)
    | with_reducible apply Keeps.via (keeps_islResult _ _ _ _ _))

theorem keeps_safeChan (c : Fin 192) (s : State) :
    Keeps { io := true } s (safeChan c s) := by
  refine Keeps.start fun p s0 hp h => ?_
  unfold safeChan
  repeat' (first
    | ((with_reducible refine Parts.le_trans ?_ hp); exact rfl)
    | with_reducible assumption
    | with_reducible apply Keeps.via (keeps_onChan _ _ _))

theorem keeps_clearChan (c : Fin 192) (s : State) :
    Keeps { io := true } s (clearChan c s) := by
  refine Keeps.start fun p s0 hp h => ?_
  unfold clearChan
  repeat' (first
    | ((with_reducible refine Parts.le_trans ?_ hp); exact rfl)
    | with_reducible assumption
    | (intro x; clear_value x)
    | lift_lets
    | with_reducible apply Keeps.via (keeps_onAi _ _ _)
    | with_reducible apply Keeps.via (keeps_onAo _ _ _)
    | with_reducible apply Keeps.via (keeps_onDi _ _ _)
    | with_reducible apply Keeps.via (keeps_onDo _ _ _))

theorem keeps_reconfigAi (c : Fin 192) (o e : ChanEntry) (s : State) :
    Keeps { io := true } s (reconfigAi c o e s) := by
  refine Keeps.start fun p s0 hp h => ?_
  unfold reconfigAi
  repeat' (first
    | ((with_reducible refine Parts.le_trans ?_ hp); exact rfl)
    | with_reducible assumption
    | lift_lets
    | with_reducible apply Keeps.via (keeps_onAi _ _ _)
    | with_reducible apply Keeps.via (keeps_filterReset _ _)
    | with_reducible apply Keeps.via (keeps_cutConversion _ _))

theorem keeps_reconfigAo (c : Fin 192) (o e : ChanEntry) (s : State) :
    Keeps { io := true } s (reconfigAo c o e s) := by
  refine Keeps.start fun p s0 hp h => ?_
  unfold reconfigAo
  repeat' (first
    | ((with_reducible refine Parts.le_trans ?_ hp); exact rfl)
    | with_reducible assumption
    | split
    | with_reducible apply Keeps.via (keeps_safeChan _ _))

theorem keeps_reconfigDi (c : Fin 192) (o e : ChanEntry) (s : State) :
    Keeps { io := true } s (reconfigDi c o e s) := by
  refine Keeps.start fun p s0 hp h => ?_
  unfold reconfigDi
  repeat' (first
    | ((with_reducible refine Parts.le_trans ?_ hp); exact rfl)
    | with_reducible assumption
    | split
    | with_reducible apply Keeps.via (keeps_onDi _ _ _))

theorem keeps_reconfigDo (c : Fin 192) (o e : ChanEntry) (s : State) :
    Keeps { io := true } s (reconfigDo c o e s) := by
  refine Keeps.start fun p s0 hp h => ?_
  unfold reconfigDo
  repeat' (first
    | ((with_reducible refine Parts.le_trans ?_ hp); exact rfl)
    | with_reducible assumption
    | split
    | with_reducible apply Keeps.via (keeps_onDo _ _ _)
    | with_reducible apply Keeps.via (keeps_safeChan _ _))

theorem keeps_reconfigChan (c : Fin 192) (o e : ChanEntry) (s : State) :
    Keeps { io := true } s (reconfigChan c o e s) := by
  refine Keeps.start fun p s0 hp h => ?_
  unfold reconfigChan
  repeat' (first
    | ((with_reducible refine Parts.le_trans ?_ hp); exact rfl)
    | with_reducible assumption
    | lift_lets
    | split
    | with_reducible apply Keeps.via (keeps_configureChan _ _)
    | with_reducible apply Keeps.via (keeps_cutConversion _ _)
    | with_reducible apply Keeps.via (keeps_clearChan _ _)
    | with_reducible apply Keeps.via (keeps_reconfigAi _ _ _ _)
    | with_reducible apply Keeps.via (keeps_reconfigAo _ _ _ _)
    | with_reducible apply Keeps.via (keeps_reconfigDi _ _ _ _)
    | with_reducible apply Keeps.via (keeps_reconfigDo _ _ _ _))

theorem keeps_reconfigIsland (old new : Image) (n : Fin 24) (s : State) :
    Keeps { io := true } s (reconfigIsland old new n s) := by
  refine Keeps.start fun p s0 hp h => ?_
  unfold reconfigIsland
  repeat' (first
    | ((with_reducible refine Parts.le_trans ?_ hp); exact rfl)
    | with_reducible assumption
    | (intro x; refine_lift have hx : Keeps p s0 x := ?_; ?_; on_goal 2 => unfold x; on_goal 1 => clear_value x)
    | (intro x; clear_value x)
    | intro x
    | lift_lets
    | split
    | with_reducible apply Keeps.via (keeps_onAi _ _ _)
    | with_reducible apply Keeps.via (keeps_onIsl _ _ _)
    | with_reducible apply Keeps.via (keeps_refreshOutputs _ _)
    | with_reducible apply Keeps.via (keeps_reconfigChan _ _ _ _)
    | with_reducible apply keeps_overAll)

theorem keeps_renewStation (l : Fin 24) (p : Fin 32) (s : State) :
    Keeps { lsk := true, links := true, evr := true, out := true } s (renewStation l p s) := by
  refine Keeps.start fun p s0 hp h => ?_
  unfold renewStation
  repeat' (first
    | ((with_reducible refine Parts.le_trans ?_ hp); exact rfl)
    | with_reducible assumption
    | (intro x; refine_lift have hx : Keeps p s0 x := ?_; ?_; on_goal 2 => unfold x; on_goal 1 => clear_value x)
    | lift_lets
    | split
    | with_reducible apply Keeps.via (keeps_logEv _ _ _ _)
    | with_reducible apply Keeps.via (keeps_onStn _ _ _ _)
    | with_reducible apply Keeps.via (keeps_askIdent _ _ _))

theorem keeps_dropStation (l : Fin 24) (p : Fin 32) (s : State) :
    Keeps { lsk := true, pair := true, links := true, ses := true, out := true } s (dropStation l p s) := by
  refine Keeps.start fun p s0 hp h => ?_
  unfold dropStation
  repeat' (first
    | ((with_reducible refine Parts.le_trans ?_ hp); exact rfl)
    | with_reducible assumption
    | (intro x; clear_value x)
    | lift_lets
    | with_reducible apply Keeps.via (keeps_onStn _ _ _ _)
    | with_reducible apply Keeps.via (keeps_onBring _ _ _ _)
    | with_reducible apply Keeps.via (keeps_answerOpt _ _ _ _))

theorem keeps_reconfigStation (old new : Image) (e : StationEntry) (s : State) :
    Keeps { lsk := true, links := true, evr := true, out := true } s (reconfigStation old new e s) := by
  refine Keeps.start fun p s0 hp h => ?_
  unfold reconfigStation
  repeat' (first
    | ((with_reducible refine Parts.le_trans ?_ hp); exact rfl)
    | with_reducible assumption
    | lift_lets
    | split
    | with_reducible apply Keeps.via (keeps_askIdent _ _ _)
    | with_reducible apply Keeps.via (keeps_showStep _ _ _ _)
    | with_reducible apply Keeps.via (keeps_sendStart _ _ _ _)
    | with_reducible apply Keeps.via (keeps_renewStation _ _ _))

theorem keeps_renewLink (old : Image) (l : Fin 24) (s : State) :
    Keeps { lsk := true, links := true, evr := true, out := true } s (renewLink old l s) := by
  refine Keeps.start fun p s0 hp h => ?_
  unfold renewLink
  repeat' (first
    | ((with_reducible refine Parts.le_trans ?_ hp); exact rfl)
    | with_reducible assumption
    | (intro x; refine_lift have hx : Keeps p s0 x := ?_; ?_; on_goal 2 => unfold x; on_goal 1 => clear_value x)
    | intro x
    | lift_lets
    | split
    | with_reducible apply Keeps.via (keeps_enumerate _ _)
    | with_reducible apply Keeps.via (keeps_askIdent _ _ _)
    | with_reducible apply Keeps.via (keeps_showStep _ _ _ _)
    | with_reducible apply Keeps.via (keeps_renewStation _ _ _)
    | with_reducible apply keeps_overAll)

theorem keeps_reconfigLink (old new : Image) (l : Fin 24) (s : State) :
    Keeps { lsk := true, pair := true, links := true, ses := true, evr := true, out := true } s (reconfigLink old new l s) := by
  refine Keeps.start fun p s0 hp h => ?_
  unfold reconfigLink
  repeat' (first
    | ((with_reducible refine Parts.le_trans ?_ hp); exact rfl)
    | with_reducible assumption
    | (intro x; refine_lift have hx : Keeps p s0 x := ?_; ?_; on_goal 2 => unfold x; on_goal 1 => clear_value x)
    | (intro x; clear_value x)
    | intro x
    | lift_lets
    | split
    | with_reducible apply Keeps.via (keeps_onLink _ _ _)
    | with_reducible apply Keeps.via (keeps_dropStation _ _ _)
    | with_reducible apply Keeps.via (keeps_reconfigStation _ _ _ _)
    | with_reducible apply Keeps.via (keeps_renewLink _ _ _)
    | with_reducible apply keeps_overAll)

theorem keeps_reconfigCan (old new : Image) (p : Fin 4) (s : State) :
    Keeps { can := true, evr := true } s (reconfigCan old new p s) := by
  refine Keeps.start fun p s0 hp h => ?_
  unfold reconfigCan
  repeat' (first
    | ((with_reducible refine Parts.le_trans ?_ hp); exact rfl)
    | with_reducible assumption
    | (intro x; clear_value x)
    | lift_lets
    | split
    | with_reducible apply Keeps.via (keeps_logEv _ _ _ _)
    | with_reducible apply Keeps.via (keeps_onCan _ _ _))

theorem keeps_lowerToCeiling (s : State) :
    Keeps { tel := true } s (lowerToCeiling s) := by
  refine Keeps.start fun p s0 hp h => ?_
  unfold lowerToCeiling
  repeat' (first
    | with_reducible assumption
    | (intro x; clear_value x)
    | lift_lets
    | fail_if_no_progress ((with_reducible apply Keeps.upd hp) <;> [skip; (with_reducible rfl); (with_reducible rfl)]))

theorem keeps_reconfigure (old new : Image) (s : State) :
    Keeps { store := true, tb := true, tbAcc := true, tsk := true, frc := true, lsk := true, pair := true, mir := true, links := true, io := true, can := true, ses := true, tel := true, evr := true, lcd := true, out := true } s (reconfigure old new s) := by
  refine Keeps.start fun p s0 hp h => ?_
  unfold reconfigure
  repeat' (first
    | ((with_reducible refine Parts.le_trans ?_ hp); exact rfl)
    | with_reducible assumption
    | (intro x; refine_lift have hx : Keeps p s0 x := ?_; ?_; on_goal 2 => unfold x; on_goal 1 => clear_value x)
    | intro x
    | lift_lets
    | split
    | with_reducible apply Keeps.via (keeps_shortInterval _)
    | with_reducible apply Keeps.via (keeps_changeLayout _)
    | with_reducible apply Keeps.via (keeps_configurePtp _)
    | with_reducible apply Keeps.via (keeps_reconfigIsland _ _ _ _)
    | with_reducible apply Keeps.via (keeps_reconfigLink _ _ _ _)
    | with_reducible apply Keeps.via (keeps_reconfigCan _ _ _ _)
    | with_reducible apply Keeps.via (keeps_lowerToCeiling _)
    | with_reducible apply keeps_overAll)

theorem keeps_deliverHeld (new : Image) (x : TaskEntry × Trig) (s : State) :
    Keeps { cells := true, tbAcc := true, tbLat := true, tsk := true, frc := true, laneA := true, laneB := true, lsk := true, pair := true, mir := true, links := true, io := true, can := true, ses := true, tel := true, evr := true, lcd := true, out := true } s (deliverHeld new x s).1 := by
  refine Keeps.start fun p s0 hp h => ?_
  unfold deliverHeld
  repeat' (first
    | ((with_reducible refine Parts.le_trans ?_ hp); exact rfl)
    | with_reducible assumption
    | split
    | with_reducible apply Keeps.via (keeps_offerTrigger _ _ _))

theorem keeps_deliverAllHeld (old new : Image) (gs : List TrigReg) (s : State) :
    Keeps { cells := true, tbAcc := true, tbLat := true, tsk := true, frc := true, laneA := true, laneB := true, lsk := true, pair := true, mir := true, links := true, io := true, can := true, ses := true, tel := true, evr := true, lcd := true, out := true } s (deliverAllHeld old new gs s).1 := by
  unfold deliverAllHeld
  refine keeps_foldl _ _ _ (fun y x hy => ?_) (Keeps.refl _ s)
  exact Keeps.via (keeps_deliverHeld new x y.1) rfl hy
theorem keeps_mirrorUnowned (touched : List Nat) (new : Image) (s : State) :
    Keeps { tsk := true, lsk := true, pair := true, mir := true, out := true, flight := true } s (mirrorUnowned touched new s) := by
  refine Keeps.start fun p s0 hp h => ?_
  unfold mirrorUnowned
  repeat' (first
    | ((with_reducible refine Parts.le_trans ?_ hp); exact rfl)
    | with_reducible assumption
    | (intro x; refine_lift have hx : Keeps p s0 x := ?_; ?_; on_goal 2 => unfold x; on_goal 1 => clear_value x)
    | (intro x; clear_value x)
    | lift_lets
    | split
    | with_reducible apply Keeps.of_snd (by assumption)
    | with_reducible apply Keeps.via (keeps_freshId _)
    | with_reducible apply Keeps.via (keeps_sendMirror _ _ _ _ _)
    | fail_if_no_progress ((with_reducible apply Keeps.upd hp) <;> [skip; (with_reducible rfl); (with_reducible rfl)]))

theorem keeps_serveHeld (i : Instr) (s : State) :
    Keeps { cells := true, store := true, tb := true, tbAcc := true, tbLat := true, tsk := true, img := true, frc := true, laneA := true, laneB := true, lsk := true, pair := true, lease := true, mir := true, links := true, io := true, can := true, ses := true, pwr := true, tel := true, evr := true, lcd := true, mod := true, out := true, flight := true, free := true } s (serveHeld i s) := by
  refine Keeps.start fun p s0 hp h => ?_
  unfold serveHeld
  repeat' (first
    | ((with_reducible refine Parts.le_trans ?_ hp); exact rfl)
    | with_reducible assumption
    | split
    | with_reducible apply Keeps.via (keeps_readAt _ _ _ _ _ _)
    | with_reducible apply Keeps.via (keeps_writeAt _ _ _ _ _ _)
    | with_reducible apply Keeps.via (keeps_openFence _ _ _)
    | with_reducible apply Keeps.via (keeps_relayedWriteReceive _ _)
    | with_reducible apply Keeps.via (keeps_relayVerdictReceive _ _ _ _))

theorem keeps_serveAllHeld (s : State) :
    Keeps { cells := true, store := true, tb := true, tbAcc := true, tbLat := true, tsk := true, img := true, frc := true, laneA := true, laneB := true, lsk := true, pair := true, lease := true, mir := true, links := true, io := true, can := true, ses := true, pwr := true, tel := true, evr := true, lcd := true, mod := true, out := true, flight := true, free := true } s (serveAllHeld s) := by
  refine Keeps.start fun p s0 hp h => ?_
  unfold serveAllHeld
  repeat' (first
    | ((with_reducible refine Parts.le_trans ?_ hp); exact rfl)
    | with_reducible assumption
    | (intro x; clear_value x)
    | intro x
    | lift_lets
    | with_reducible apply Keeps.via (keeps_serveHeld _ _)
    | with_reducible apply keeps_overAll
    | fail_if_no_progress ((with_reducible apply Keeps.upd hp) <;> [skip; (with_reducible rfl); (with_reducible rfl)]))

theorem keeps_closeWindow (old new : Image) (s : State) :
    Keeps { cells := true, tbAcc := true, tbLat := true, tsk := true, img := true, frc := true, laneA := true, laneB := true, lsk := true, pair := true, mir := true, links := true, io := true, can := true, ses := true, tel := true, evr := true, lcd := true, out := true } s (closeWindow old new s).1 := by
  refine Keeps.start fun p s0 hp h => ?_
  unfold closeWindow
  repeat' (first
    | ((with_reducible refine Parts.le_trans ?_ hp); exact rfl)
    | with_reducible assumption
    | (intro x; refine_lift have hx : Keeps p s0 x := ?_; ?_; on_goal 2 => unfold x; on_goal 1 => clear_value x)
    | intro (x : Img)
    | (intro x; clear_value x)
    | intro x
    | lift_lets
    | with_reducible apply Keeps.via (keeps_releaseAllHeld _ _ _)
    | with_reducible apply Keeps.via (keeps_settleNotices _ _)
    | with_reducible apply Keeps.via (keeps_handleTrigger _ _)
    | with_reducible apply Keeps.via (keeps_takeAllNotices _)
    | with_reducible apply Keeps.via (keeps_deliverAllHeld _ _ _ _)
    | with_reducible apply keeps_overAll
    | fail_if_no_progress ((with_reducible apply Keeps.upd hp) <;> [skip; (with_reducible rfl); (with_reducible rfl)]))

theorem keeps_windowEnds (q : SwitchReq) (old new : Image) (s : State) :
    Keeps { cells := true, store := true, tb := true, tbAcc := true, tbLat := true, tsk := true, img := true, frc := true, laneA := true, laneB := true, lsk := true, pair := true, lease := true, mir := true, links := true, io := true, can := true, ses := true, pwr := true, tel := true, evr := true, lcd := true, mod := true, out := true, flight := true, free := true } s (windowEnds q old new s) := by
  refine Keeps.start fun p s0 hp h => ?_
  unfold windowEnds
  repeat' (first
    | ((with_reducible refine Parts.le_trans ?_ hp); exact rfl)
    | with_reducible assumption
    | (intro x; refine_lift have hx : Keeps p s0 x := ?_; ?_; on_goal 2 => unfold x; on_goal 1 => clear_value x)
    | intro (x : MemState)
    | (intro x; clear_value x)
    | lift_lets
    | split
    | with_reducible apply Keeps.of_fst (by assumption)
    | with_reducible apply Keeps.via (keeps_logEv _ _ _ _)
    | with_reducible apply Keeps.via (keeps_changeReply _ _ _ _ _ _)
    | with_reducible apply Keeps.via (keeps_reconfigure _ _ _)
    | with_reducible apply Keeps.via (keeps_mirrorUnowned _ _ _)
    | with_reducible apply Keeps.via (keeps_serveAllHeld _)
    | with_reducible apply Keeps.via (keeps_closeWindow _ _ _)
    | fail_if_no_progress ((with_reducible apply Keeps.upd hp) <;> [skip; (with_reducible rfl); (with_reducible rfl)]))

theorem keeps_switchWindowEnd (s : State) :
    Keeps { cells := true, store := true, tb := true, tbAcc := true, tbLat := true, tsk := true, img := true, frc := true, laneA := true, laneB := true, lsk := true, pair := true, lease := true, mir := true, links := true, io := true, can := true, ses := true, pwr := true, tel := true, evr := true, lcd := true, mod := true, out := true, flight := true, free := true } s (switchWindowEnd s) := by
  refine Keeps.start fun p s0 hp h => ?_
  unfold switchWindowEnd
  repeat' (first
    | ((with_reducible refine Parts.le_trans ?_ hp); exact rfl)
    | with_reducible assumption
    | split
    | with_reducible apply Keeps.via (keeps_windowEnds _ _ _ _))

end Sys2Proof.Machine
end

