-- ==== Sys2Proof/Laws/KeepsCommands.lean ====
section
/-!
SUPPORT. What the meaning of each command keeps, when it answers a next state.
-/

namespace Sys2Proof.Machine

theorem keeps_chanCmd (code : Nat) (mk : Req → ChanCmd) (se : Fin 64) (s s1 : State) (e : chanCmd code mk se s = .next s1) :
    Keeps { lsk := true, pair := true, mir := true, io := true, ses := true, evr := true, out := true } s s1 := by
  cases e
  exact keeps_sessionCmd rfl (fun q x h => Keeps.via (keeps_hostCmd _ q x) rfl h) (.refl _ s)

theorem keeps_execAiConversionComplete (c : Fin 192) (code : BitVec 24) (m : AiInput) (s : State) (s1 : State) (e : execAiConversionComplete c code m s = .next s1) :
    Keeps { io := true } s s1 := by
  cases e
  refine Keeps.start fun p s0 hp h => ?_
  repeat' (first
    | ((with_reducible refine Parts.le_trans ?_ hp); exact rfl)
    | with_reducible assumption
    | lift_lets
    | with_reducible apply Keeps.via (keeps_aiConversionComplete _ _ _ _))

theorem keeps_execUrgentComplete (c : Fin 192) (code : BitVec 24) (m : AiInput) (s : State) (s1 : State) (e : execUrgentComplete c code m s = .next s1) :
    Keeps { io := true } s s1 := by
  cases e
  refine Keeps.start fun p s0 hp h => ?_
  repeat' (first
    | ((with_reducible refine Parts.le_trans ?_ hp); exact rfl)
    | with_reducible assumption
    | lift_lets
    | with_reducible apply Keeps.via (keeps_urgentComplete _ _ _ _))

theorem keeps_execOpenwireTestStart (c : Fin 192) (s : State) (s1 : State) (e : execOpenwireTestStart c s = .next s1) :
    Keeps { io := true } s s1 := by
  cases e
  refine Keeps.start fun p s0 hp h => ?_
  repeat' (first
    | ((with_reducible refine Parts.le_trans ?_ hp); exact rfl)
    | with_reducible assumption
    | lift_lets
    | with_reducible apply Keeps.via (keeps_openwireTestStart _ _))

theorem keeps_execOpenwireTestComplete (c : Fin 192) (obs : OwObs) (s : State) (s1 : State) (e : execOpenwireTestComplete c obs s = .next s1) :
    Keeps { io := true } s s1 := by
  cases e
  refine Keeps.start fun p s0 hp h => ?_
  repeat' (first
    | ((with_reducible refine Parts.le_trans ?_ hp); exact rfl)
    | with_reducible assumption
    | lift_lets
    | with_reducible apply Keeps.via (keeps_openwireTestComplete _ _ _))

theorem keeps_execCalibrationComplete (n : Fin 24) (factors : List (Fin 8 × W32 × W32)) (s : State) (s1 : State) (e : execCalibrationComplete n factors s = .next s1) :
    Keeps { io := true } s s1 := by
  cases e
  refine Keeps.start fun p s0 hp h => ?_
  repeat' (first
    | ((with_reducible refine Parts.le_trans ?_ hp); exact rfl)
    | with_reducible assumption
    | lift_lets
    | with_reducible apply Keeps.via (keeps_calibrationComplete _ _ _))

theorem keeps_execCjMeasurement (n : Fin 24) (temp : BitVec 16) (s : State) (s1 : State) (e : execCjMeasurement n temp s = .next s1) :
    Keeps { io := true } s s1 := by
  cases e
  refine Keeps.start fun p s0 hp h => ?_
  repeat' (first
    | ((with_reducible refine Parts.le_trans ?_ hp); exact rfl)
    | with_reducible assumption
    | lift_lets
    | with_reducible apply Keeps.via (keeps_cjMeasurement _ _ _))

theorem keeps_execCjFaultEnd (n : Fin 24) (s : State) (s1 : State) (e : execCjFaultEnd n s = .next s1) :
    Keeps { io := true } s s1 := by
  cases e
  refine Keeps.start fun p s0 hp h => ?_
  repeat' (first
    | ((with_reducible refine Parts.le_trans ?_ hp); exact rfl)
    | with_reducible assumption
    | lift_lets
    | with_reducible apply Keeps.via (keeps_cjFaultEnd _ _))

theorem keeps_execReadbackConversion (c : Fin 192) (value : W64) (ownMicro totalMicro : Nat) (vterm : Nat) (s : State) (s1 : State) (e : execReadbackConversion c value ownMicro totalMicro vterm s = .next s1) :
    Keeps { io := true } s s1 := by
  cases e
  refine Keeps.start fun p s0 hp h => ?_
  repeat' (first
    | ((with_reducible refine Parts.le_trans ?_ hp); exact rfl)
    | with_reducible assumption
    | lift_lets
    | with_reducible apply Keeps.via (keeps_readbackConversion _ _ _ _ _ _))

theorem keeps_execAoThermalCrossing (c : Fin 192) (temp : BitVec 16) (s : State) (s1 : State) (e : execAoThermalCrossing c temp s = .next s1) :
    Keeps { io := true } s s1 := by
  cases e
  refine Keeps.start fun p s0 hp h => ?_
  repeat' (first
    | ((with_reducible refine Parts.le_trans ?_ hp); exact rfl)
    | with_reducible assumption
    | lift_lets
    | with_reducible apply Keeps.via (keeps_aoThermalCrossing _ _ _))

theorem keeps_execComplianceEntry (c : Fin 192) (vterm : Nat) (deliveredMicro : Nat) (s : State) (s1 : State) (e : execComplianceEntry c vterm deliveredMicro s = .next s1) :
    Keeps { io := true } s s1 := by
  cases e
  refine Keeps.start fun p s0 hp h => ?_
  repeat' (first
    | ((with_reducible refine Parts.le_trans ?_ hp); exact rfl)
    | with_reducible assumption
    | lift_lets
    | with_reducible apply Keeps.via (keeps_complianceEntry _ _ _ _))

theorem keeps_execComplianceClearTimeout (c : Fin 192) (s : State) (s1 : State) (e : execComplianceClearTimeout c s = .next s1) :
    Keeps { io := true } s s1 := by
  cases e
  refine Keeps.start fun p s0 hp h => ?_
  repeat' (first
    | ((with_reducible refine Parts.le_trans ?_ hp); exact rfl)
    | with_reducible assumption
    | lift_lets
    | with_reducible apply Keeps.via (keeps_complianceClearTimeout _ _))

theorem keeps_execAoOpenLoopTimeout (c : Fin 192) (s : State) (s1 : State) (e : execAoOpenLoopTimeout c s = .next s1) :
    Keeps { io := true } s s1 := by
  cases e
  refine Keeps.start fun p s0 hp h => ?_
  repeat' (first
    | ((with_reducible refine Parts.le_trans ?_ hp); exact rfl)
    | with_reducible assumption
    | lift_lets
    | with_reducible apply Keeps.via (keeps_aoOpenLoopTimeout _ _))

theorem keeps_execVoltageOutputLeaseEnd (n : Fin 24) (s : State) (s1 : State) (e : execVoltageOutputLeaseEnd n s = .next s1) :
    Keeps { io := true } s s1 := by
  cases e
  refine Keeps.start fun p s0 hp h => ?_
  repeat' (first
    | ((with_reducible refine Parts.le_trans ?_ hp); exact rfl)
    | with_reducible assumption
    | lift_lets
    | with_reducible apply Keeps.via (keeps_voltageOutputLeaseEnd _ _))

theorem keeps_execPartnerShareVanished (n : Fin 24) (mask : Byte) (restoreMicros : Nat) (s : State) (s1 : State) (e : execPartnerShareVanished n mask restoreMicros s = .next s1) :
    Keeps { io := true } s s1 := by
  cases e
  refine Keeps.start fun p s0 hp h => ?_
  repeat' (first
    | ((with_reducible refine Parts.le_trans ?_ hp); exact rfl)
    | with_reducible assumption
    | lift_lets
    | with_reducible apply Keeps.via (keeps_partnerShareVanished _ _ _ _))

theorem keeps_execSlotFiring (lane : Lane) (tile : Fin 16384) (slot : Fin 16) (parity : Bool) (s : State) (s1 : State) (e : execSlotFiring lane tile slot parity s = .next s1) :
    Keeps { tsk := true, laneA := true, laneB := true } s s1 := by
  cases e
  refine Keeps.start fun p s0 hp h => ?_
  repeat' (first
    | ((with_reducible refine Parts.le_trans ?_ hp); exact rfl)
    | with_reducible assumption
    | lift_lets
    | split
    | with_reducible apply Keeps.via (keeps_laneDies _ _)
    | with_reducible apply Keeps.via (keeps_slotFiring _ _ _ _))

theorem keeps_execTokenHop (lane : Lane) (tile : Fin 16384) (dir : Fin 4) (s : State) (s1 : State) (e : execTokenHop lane tile dir s = .next s1) :
    Keeps { laneA := true, laneB := true } s s1 := by
  cases e
  refine Keeps.start fun p s0 hp h => ?_
  repeat' (first
    | ((with_reducible refine Parts.le_trans ?_ hp); exact rfl)
    | with_reducible assumption
    | lift_lets
    | with_reducible apply Keeps.via (keeps_tokenHop _ _ _ _))

theorem keeps_execRoutineStart (lane : Lane) (core : Fin 8) (s : State) (s1 : State) (e : execRoutineStart lane core s = .next s1) :
    Keeps { laneA := true, laneB := true } s s1 := by
  cases e
  refine Keeps.start fun p s0 hp h => ?_
  repeat' (first
    | ((with_reducible refine Parts.le_trans ?_ hp); exact rfl)
    | with_reducible assumption
    | lift_lets
    | with_reducible apply Keeps.via (keeps_routineStart _ _ _))

theorem keeps_execCoreInstruction (lane : Lane) (core : Fin 8) (op : CoreOp) (chk : LaneCheck) (s : State) (s1 : State) (e : execCoreInstruction lane core op chk s = .next s1) :
    Keeps { tsk := true, laneA := true, laneB := true, tel := true, evr := true, free := true } s s1 := by
  cases e
  refine Keeps.start fun p s0 hp h => ?_
  repeat' (first
    | ((with_reducible refine Parts.le_trans ?_ hp); exact rfl)
    | with_reducible assumption
    | lift_lets
    | with_reducible apply Keeps.via (keeps_coreInstruction _ _ _ _)
    | with_reducible apply Keeps.via (keeps_laneCheck _ _ _))

theorem keeps_execInboundWordDelivery (stream : Fin 72) (chk : MemCheck) (s : State) (s1 : State) (e : execInboundWordDelivery stream chk s = .next s1) :
    Keeps { store := true, tsk := true, img := true, laneA := true, laneB := true, lsk := true, pair := true, lease := true, mir := true, links := true, io := true, can := true, ses := true, pwr := true, tel := true, evr := true, lcd := true, mod := true, out := true, free := true } s s1 := by
  cases e
  refine Keeps.start fun p s0 hp h => ?_
  repeat' (first
    | ((with_reducible refine Parts.le_trans ?_ hp); exact rfl)
    | with_reducible assumption
    | lift_lets
    | split
    | with_reducible apply Keeps.via (keeps_memCheck _ _)
    | with_reducible apply Keeps.via (keeps_inboundWordDelivery _ _ _))

theorem keeps_execCanTxStart (p : Fin 4) (s : State) (s1 : State) (e : execCanTxStart p s = .next s1) :
    Keeps { can := true, out := true } s s1 := by
  cases e
  refine Keeps.start fun p s0 hp h => ?_
  repeat' (first
    | ((with_reducible refine Parts.le_trans ?_ hp); exact rfl)
    | with_reducible assumption
    | lift_lets
    | with_reducible apply Keeps.via (keeps_canTxStart _ _))

theorem keeps_execCanTxComplete (p : Fin 4) (s : State) (s1 : State) (e : execCanTxComplete p s = .next s1) :
    Keeps { lsk := true, pair := true, mir := true, can := true, evr := true, out := true } s s1 := by
  cases e
  refine Keeps.start fun p s0 hp h => ?_
  repeat' (first
    | ((with_reducible refine Parts.le_trans ?_ hp); exact rfl)
    | with_reducible assumption
    | lift_lets
    | with_reducible apply Keeps.via (keeps_canTxComplete _ _))

theorem keeps_execCanTxError (p : Fin 4) (err : CanErr) (dataPhase passiveNoDominant : Bool) (s : State) (s1 : State) (e : execCanTxError p err dataPhase passiveNoDominant s = .next s1) :
    Keeps { mir := true, can := true, evr := true, out := true } s s1 := by
  cases e
  refine Keeps.start fun p s0 hp h => ?_
  repeat' (first
    | ((with_reducible refine Parts.le_trans ?_ hp); exact rfl)
    | with_reducible assumption
    | lift_lets
    | with_reducible apply Keeps.via (keeps_canTxError _ _ _ _ _))

theorem keeps_execCanRxError (p : Fin 4) (err : CanErr) (dataPhase dominantAfterFlag : Bool) (s : State) (s1 : State) (e : execCanRxError p err dataPhase dominantAfterFlag s = .next s1) :
    Keeps { mir := true, can := true, evr := true, out := true } s s1 := by
  cases e
  refine Keeps.start fun p s0 hp h => ?_
  repeat' (first
    | ((with_reducible refine Parts.le_trans ?_ hp); exact rfl)
    | with_reducible assumption
    | lift_lets
    | with_reducible apply Keeps.via (keeps_canRxError _ _ _ _ _))

theorem keeps_execCanBusoffRecovery (p : Fin 4) (s : State) (s1 : State) (e : execCanBusoffRecovery p s = .next s1) :
    Keeps { can := true, evr := true } s s1 := by
  cases e
  refine Keeps.start fun p s0 hp h => ?_
  repeat' (first
    | ((with_reducible refine Parts.le_trans ?_ hp); exact rfl)
    | with_reducible assumption
    | lift_lets
    | with_reducible apply Keeps.via (keeps_canBusoffRecovery _ _))

theorem keeps_execCanIntegrationComplete (p : Fin 4) (s : State) (s1 : State) (e : execCanIntegrationComplete p s = .next s1) :
    Keeps { can := true } s s1 := by
  cases e
  refine Keeps.start fun p s0 hp h => ?_
  repeat' (first
    | ((with_reducible refine Parts.le_trans ?_ hp); exact rfl)
    | with_reducible assumption
    | lift_lets
    | with_reducible apply Keeps.via (keeps_onCan _ _ _))

theorem keeps_execCanFrameReceive (p : Fin 4) (frame : CanFrame) (stamp : Nat) (s : State) (s1 : State) (e : execCanFrameReceive p frame stamp s = .next s1) :
    Keeps { tsk := true, lsk := true, pair := true, mir := true, can := true, evr := true, out := true, free := true } s s1 := by
  cases e
  refine Keeps.start fun p s0 hp h => ?_
  repeat' (first
    | ((with_reducible refine Parts.le_trans ?_ hp); exact rfl)
    | with_reducible assumption
    | lift_lets
    | with_reducible apply Keeps.via (keeps_canFrameReceive _ _ _ _))

theorem keeps_execSvcCanQueue (core : Fin 8) (port : Fin 4) (buf : Fin 32) (frame : CanFrame) (s : State) (s1 : State) (e : execSvcCanQueue core port buf frame s = .next s1) :
    Keeps { tsk := true, laneA := true, laneB := true, lsk := true, evr := true, out := true, free := true } s s1 := by
  cases e
  refine Keeps.start fun p s0 hp h => ?_
  repeat' (first
    | ((with_reducible refine Parts.le_trans ?_ hp); exact rfl)
    | with_reducible assumption
    | lift_lets
    | with_reducible apply Keeps.via (keeps_canService _ _ _ _ _ _))

theorem keeps_execSvcCanAbort (core : Fin 8) (port : Fin 4) (buf : Fin 32) (s : State) (s1 : State) (e : execSvcCanAbort core port buf s = .next s1) :
    Keeps { tsk := true, laneA := true, laneB := true, lsk := true, evr := true, out := true, free := true } s s1 := by
  cases e
  refine Keeps.start fun p s0 hp h => ?_
  repeat' (first
    | ((with_reducible refine Parts.le_trans ?_ hp); exact rfl)
    | with_reducible assumption
    | lift_lets
    | with_reducible apply Keeps.via (keeps_canService _ _ _ _ _ _))

theorem keeps_execSvcCanRead (core : Fin 8) (port : Fin 4) (s : State) (s1 : State) (e : execSvcCanRead core port s = .next s1) :
    Keeps { laneA := true, laneB := true, lsk := true, can := true, out := true } s s1 := by
  cases e
  refine Keeps.start fun p s0 hp h => ?_
  repeat' (first
    | ((with_reducible refine Parts.le_trans ?_ hp); exact rfl)
    | with_reducible assumption
    | lift_lets
    | with_reducible apply Keeps.via (keeps_svcCanRead _ _ _))

theorem keeps_execTaskRelease (t : Fin 64) (chk : MemCheck) (s : State) (s1 : State) (e : execTaskRelease t chk s = .next s1) :
    Keeps { cells := true, store := true, tbAcc := true, tbLat := true, tsk := true, img := true, frc := true, laneA := true, laneB := true, lsk := true, pair := true, lease := true, mir := true, links := true, io := true, can := true, ses := true, pwr := true, tel := true, evr := true, lcd := true, mod := true, out := true, free := true } s s1 := by
  cases e
  refine Keeps.start fun p s0 hp h => ?_
  repeat' (first
    | ((with_reducible refine Parts.le_trans ?_ hp); exact rfl)
    | with_reducible assumption
    | lift_lets
    | with_reducible apply Keeps.via (keeps_taskRelease _ _ _))

theorem keeps_execEventRelease (chk : MemCheck) (s : State) (s1 : State) (e : execEventRelease chk s = .next s1) :
    Keeps { cells := true, store := true, tbAcc := true, tbLat := true, tsk := true, img := true, frc := true, laneA := true, laneB := true, lsk := true, pair := true, lease := true, mir := true, links := true, io := true, can := true, ses := true, pwr := true, tel := true, evr := true, lcd := true, mod := true, out := true, free := true } s s1 := by
  cases e
  refine Keeps.start fun p s0 hp h => ?_
  repeat' (first
    | ((with_reducible refine Parts.le_trans ?_ hp); exact rfl)
    | with_reducible assumption
    | lift_lets
    | with_reducible apply Keeps.via (keeps_eventRelease _ _))

theorem keeps_execNoticeTimeout (t : Fin 64) (s : State) (s1 : State) (e : execNoticeTimeout t s = .next s1) :
    Keeps { cells := true, tbAcc := true, tbLat := true, tsk := true, frc := true, laneA := true, laneB := true, lsk := true, pair := true, mir := true, links := true, io := true, can := true, ses := true, tel := true, evr := true, lcd := true, out := true } s s1 := by
  cases e
  refine Keeps.start fun p s0 hp h => ?_
  repeat' (first
    | ((with_reducible refine Parts.le_trans ?_ hp); exact rfl)
    | with_reducible assumption
    | lift_lets
    | with_reducible apply Keeps.via (keeps_noticeTimeout _ _))

theorem keeps_execPartnerReadingsTimeout (t : Fin 128) (s : State) (s1 : State) (e : execPartnerReadingsTimeout t s = .next s1) :
    Keeps { cells := true, tsk := true, laneA := true, laneB := true, lsk := true, out := true } s s1 := by
  cases e
  refine Keeps.start fun p s0 hp h => ?_
  repeat' (first
    | ((with_reducible refine Parts.le_trans ?_ hp); exact rfl)
    | with_reducible assumption
    | lift_lets
    | with_reducible apply Keeps.via (keeps_partnerReadingsTimeout _ _))

theorem keeps_execTaskCompletion (t : Fin 128) (chk : MemCheck) (s : State) (s1 : State) (e : execTaskCompletion t chk s = .next s1) :
    Keeps { cells := true, store := true, tbAcc := true, tbLat := true, tsk := true, img := true, frc := true, laneA := true, laneB := true, lsk := true, pair := true, lease := true, mir := true, links := true, io := true, can := true, ses := true, pwr := true, tel := true, evr := true, lcd := true, mod := true, out := true, flight := true, free := true } s s1 := by
  cases e
  refine Keeps.start fun p s0 hp h => ?_
  repeat' (first
    | ((with_reducible refine Parts.le_trans ?_ hp); exact rfl)
    | with_reducible assumption
    | lift_lets
    | split
    | with_reducible apply Keeps.via (keeps_memCheck _ _)
    | with_reducible apply Keeps.via (keeps_taskCompletion _ _))

theorem keeps_execStatisticsBoundary (s : State) (s1 : State) (e : execStatisticsBoundary s = .next s1) :
    Keeps { tbAcc := true, tbLat := true, tsk := true, frc := true, lsk := true, pair := true, mir := true, links := true, io := true, can := true, ses := true, tel := true, evr := true, lcd := true, out := true } s s1 := by
  cases e
  refine Keeps.start fun p s0 hp h => ?_
  repeat' (first
    | ((with_reducible refine Parts.le_trans ?_ hp); exact rfl)
    | with_reducible assumption
    | lift_lets
    | with_reducible apply Keeps.via (keeps_boundary _ _))

theorem keeps_execTskHevt (se : Fin 64) (value : W32) (s : State) (s1 : State) (e : execTskHevt se value s = .next s1) :
    Keeps { tsk := true, lsk := true, pair := true, mir := true, ses := true, evr := true, out := true } s s1 := by
  cases e
  refine Keeps.start fun p s0 hp h => ?_
  repeat' (first
    | ((with_reducible refine Parts.le_trans ?_ hp); exact rfl)
    | with_reducible assumption
    | intro x
    | lift_lets
    | with_reducible apply keeps_sessionCmd
    | with_reducible apply Keeps.via (keeps_hostEvent _ _ _))

theorem keeps_execForceActivation (s : State) (s1 : State) (e : execForceActivation s = .next s1) :
    Keeps { cells := true, tsk := true, frc := true, evr := true } s s1 := by
  cases e
  refine Keeps.start fun p s0 hp h => ?_
  repeat' (first
    | ((with_reducible refine Parts.le_trans ?_ hp); exact rfl)
    | with_reducible assumption
    | lift_lets
    | with_reducible apply Keeps.via (keeps_forceActivation _))

theorem keeps_execFrcSet (se : Fin 64) (s : State) (s1 : State) (e : execFrcSet se s = .next s1) :
    Keeps { frc := true, lsk := true, pair := true, mir := true, ses := true, evr := true, out := true } s s1 := by
  cases e
  refine Keeps.start fun p s0 hp h => ?_
  repeat' (first
    | ((with_reducible refine Parts.le_trans ?_ hp); exact rfl)
    | with_reducible assumption
    | intro x
    | lift_lets
    | with_reducible apply keeps_sessionCmd
    | with_reducible apply Keeps.via (keeps_frcSet _ _))

theorem keeps_execFrcClear (se : Fin 64) (s : State) (s1 : State) (e : execFrcClear se s = .next s1) :
    Keeps { frc := true, lsk := true, pair := true, mir := true, ses := true, evr := true, out := true } s s1 := by
  cases e
  refine Keeps.start fun p s0 hp h => ?_
  repeat' (first
    | ((with_reducible refine Parts.le_trans ?_ hp); exact rfl)
    | with_reducible assumption
    | intro x
    | lift_lets
    | with_reducible apply keeps_sessionCmd
    | with_reducible apply Keeps.via (keeps_frcClear _ _))

theorem keeps_execFrcClearall (se : Fin 64) (s : State) (s1 : State) (e : execFrcClearall se s = .next s1) :
    Keeps { frc := true, lsk := true, pair := true, mir := true, ses := true, evr := true, out := true } s s1 := by
  cases e
  refine Keeps.start fun p s0 hp h => ?_
  repeat' (first
    | ((with_reducible refine Parts.le_trans ?_ hp); exact rfl)
    | with_reducible assumption
    | intro x
    | lift_lets
    | with_reducible apply keeps_sessionCmd
    | with_reducible apply Keeps.via (keeps_frcClearall _ _))

theorem keeps_execChange (se : Fin 64) (tag : W32) (ident : W256) (s : State) (s1 : State) (e : execChange se tag ident s = .next s1) :
    Keeps { tsk := true, img := true, lsk := true, pair := true, lease := true, mir := true, ses := true, out := true } s s1 := by
  cases e
  refine Keeps.start fun p s0 hp h => ?_
  repeat' (first
    | ((with_reducible refine Parts.le_trans ?_ hp); exact rfl)
    | with_reducible assumption
    | (intro x; refine_lift have hx : Keeps p s0 x := ?_; ?_; on_goal 2 => unfold x; on_goal 1 => clear_value x)
    | (intro x; clear_value x)
    | lift_lets
    | split
    | with_reducible apply Keeps.via (keeps_onSess _ _ _)
    | with_reducible apply Keeps.via (keeps_reply _ _ _ _ _ _)
    | with_reducible apply Keeps.via (keeps_relay _ _ _ _ _ _ _ _)
    | with_reducible apply Keeps.via (keeps_changeReply _ _ _ _ _ _)
    | with_reducible apply Keeps.via (keeps_changeService _ _ _ _))

theorem keeps_execSwitchInstant (s : State) (s1 : State) (e : execSwitchInstant s = .next s1) :
    Keeps { cells := true, tbAcc := true, tbLat := true, tsk := true, img := true, frc := true, laneA := true, laneB := true, lsk := true, pair := true, lease := true, mir := true, links := true, io := true, can := true, ses := true, tel := true, evr := true, lcd := true, out := true } s s1 := by
  cases e
  refine Keeps.start fun p s0 hp h => ?_
  repeat' (first
    | ((with_reducible refine Parts.le_trans ?_ hp); exact rfl)
    | with_reducible assumption
    | intro x
    | lift_lets
    | with_reducible apply keeps_atInstant
    | with_reducible apply Keeps.via (keeps_beginWindow _ _)
    | with_reducible apply Keeps.via (keeps_changeEnded _ _))

theorem keeps_execSwitchSearchTimeout (s : State) (s1 : State) (e : execSwitchSearchTimeout s = .next s1) :
    Keeps { cells := true, tbAcc := true, tbLat := true, tsk := true, img := true, frc := true, laneA := true, laneB := true, lsk := true, pair := true, mir := true, links := true, io := true, can := true, ses := true, tel := true, evr := true, lcd := true, out := true } s s1 := by
  cases e
  refine Keeps.start fun p s0 hp h => ?_
  repeat' (first
    | ((with_reducible refine Parts.le_trans ?_ hp); exact rfl)
    | with_reducible assumption
    | intro x
    | lift_lets
    | with_reducible apply keeps_searchLate
    | with_reducible apply Keeps.via (keeps_changeEnded _ _))

theorem keeps_execTerraceRecordWrite (s : State) (s1 : State) (e : execTerraceRecordWrite s = .next s1) :
    Keeps { store := true } s s1 := by
  cases e
  refine Keeps.start fun p s0 hp h => ?_
  repeat' (first
    | ((with_reducible refine Parts.le_trans ?_ hp); exact rfl)
    | with_reducible assumption
    | lift_lets
    | with_reducible apply Keeps.via (keeps_terraceRecordWrite _))

theorem keeps_execColWordCompare (lane : Lane) (stream : Fin 74) (changed : Option LaneWord) (fault : Option ColFault) (chk : MemCheck) (s : State) (s1 : State) (e : execColWordCompare lane stream changed fault chk s = .next s1) :
    Keeps { cells := true, store := true, tsk := true, img := true, laneA := true, laneB := true, lsk := true, pair := true, lease := true, mir := true, links := true, io := true, can := true, ses := true, pwr := true, tel := true, evr := true, lcd := true, mod := true, out := true, free := true } s s1 := by
  cases e
  refine Keeps.start fun p s0 hp h => ?_
  repeat' (first
    | ((with_reducible refine Parts.le_trans ?_ hp); exact rfl)
    | with_reducible assumption
    | lift_lets
    | with_reducible apply Keeps.via (keeps_colWordCompare _ _ _ _ _ _))

theorem keeps_execColMissingWord (stream : Fin 74) (s : State) (s1 : State) (e : execColMissingWord stream s = .next s1) :
    Keeps { tsk := true, img := true, lsk := true, pair := true, lease := true, io := true, can := true, ses := true, evr := true, lcd := true, mod := true, out := true } s s1 := by
  cases e
  refine Keeps.start fun p s0 hp h => ?_
  repeat' (first
    | ((with_reducible refine Parts.le_trans ?_ hp); exact rfl)
    | with_reducible assumption
    | lift_lets
    | with_reducible apply Keeps.via (keeps_colMissingWord _ _))

theorem keeps_execPanelFrameStart (s : State) (s1 : State) (e : execPanelFrameStart s = .next s1) :
    Keeps { ses := true, lcd := true } s s1 := by
  cases e
  refine Keeps.start fun p s0 hp h => ?_
  repeat' (first
    | ((with_reducible refine Parts.le_trans ?_ hp); exact rfl)
    | with_reducible assumption
    | lift_lets
    | with_reducible apply Keeps.via (keeps_panelFrameStart _))

theorem keeps_execUpdate (se : Fin 64) (s : State) (s1 : State) (e : execUpdate se s = .next s1) :
    Keeps { lsk := true, pair := true, mir := true, ses := true, evr := true, lcd := true, out := true } s s1 := by
  cases e
  refine Keeps.start fun p s0 hp h => ?_
  repeat' (first
    | ((with_reducible refine Parts.le_trans ?_ hp); exact rfl)
    | with_reducible assumption
    | intro x
    | lift_lets
    | with_reducible apply keeps_sessionCmd
    | with_reducible apply Keeps.via (keeps_hostUpdate _ _))

theorem keeps_execSvcPanelUpdate (core : Fin 8) (region : Nat) (text : BitVec 48) (icons : W32) (s : State) (s1 : State) (e : execSvcPanelUpdate core region text icons s = .next s1) :
    Keeps { laneA := true, laneB := true, lsk := true, ses := true, lcd := true, out := true } s s1 := by
  cases e
  refine Keeps.start fun p s0 hp h => ?_
  repeat' (first
    | ((with_reducible refine Parts.le_trans ?_ hp); exact rfl)
    | with_reducible assumption
    | lift_lets
    | with_reducible apply Keeps.via (keeps_svcPanelUpdate _ _ _ _ _))

theorem keeps_execWake (se : Fin 64) (s : State) (s1 : State) (e : execWake se s = .next s1) :
    Keeps { lsk := true, pair := true, mir := true, ses := true, evr := true, lcd := true, out := true } s s1 := by
  cases e
  refine Keeps.start fun p s0 hp h => ?_
  repeat' (first
    | ((with_reducible refine Parts.le_trans ?_ hp); exact rfl)
    | with_reducible assumption
    | intro x
    | lift_lets
    | with_reducible apply keeps_sessionCmd
    | with_reducible apply Keeps.via (keeps_hostWake _ _))

theorem keeps_execWakeKey (s : State) (s1 : State) (e : execWakeKey s = .next s1) :
    Keeps { lcd := true } s s1 := by
  cases e
  refine Keeps.start fun p s0 hp h => ?_
  repeat' (first
    | ((with_reducible refine Parts.le_trans ?_ hp); exact rfl)
    | with_reducible assumption
    | lift_lets
    | with_reducible apply Keeps.via (keeps_panelActive _))

theorem keeps_execPanelLowpowerTimeout (s : State) (s1 : State) (e : execPanelLowpowerTimeout s = .next s1) :
    Keeps { lcd := true } s s1 := by
  cases e
  refine Keeps.start fun p s0 hp h => ?_
  repeat' (first
    | ((with_reducible refine Parts.le_trans ?_ hp); exact rfl)
    | with_reducible assumption
    | lift_lets
    | with_reducible apply Keeps.via (keeps_panelLowpowerTimeout _))

theorem keeps_execOscillatorCompensation (temp : BitVec 16) (plDiffPpm : Nat) (s : State) (s1 : State) (e : execOscillatorCompensation temp plDiffPpm s = .next s1) :
    Keeps { store := true, tb := true, tel := true, evr := true } s s1 := by
  cases e
  refine Keeps.start fun p s0 hp h => ?_
  repeat' (first
    | ((with_reducible refine Parts.le_trans ?_ hp); exact rfl)
    | with_reducible assumption
    | lift_lets
    | with_reducible apply Keeps.via (keeps_oscillatorCompensation _ _ _))

theorem keeps_execTimeMappingInterval (s : State) (s1 : State) (e : execTimeMappingInterval s = .next s1) :
    Keeps { store := true, tb := true, evr := true } s s1 := by
  cases e
  refine Keeps.start fun p s0 hp h => ?_
  repeat' (first
    | ((with_reducible refine Parts.le_trans ?_ hp); exact rfl)
    | with_reducible assumption
    | lift_lets
    | with_reducible apply Keeps.via (keeps_timeMappingInterval _))

theorem keeps_execPtpAnnounceReceive (m : PtpAnnounce) (s : State) (s1 : State) (e : execPtpAnnounceReceive m s = .next s1) :
    Keeps { store := true, tb := true, tbAcc := true, ses := true, evr := true } s s1 := by
  cases e
  refine Keeps.start fun p s0 hp h => ?_
  repeat' (first
    | ((with_reducible refine Parts.le_trans ?_ hp); exact rfl)
    | with_reducible assumption
    | lift_lets
    | with_reducible apply Keeps.via (keeps_ptpAnnounceReceive _ _))

theorem keeps_execPtpSyncReceive (m : PtpSync) (s : State) (s1 : State) (e : execPtpSyncReceive m s = .next s1) :
    Keeps { store := true, tb := true, tbAcc := true, tsk := true, pair := true, lease := true, links := true, io := true, can := true, ses := true, pwr := true, tel := true, evr := true, lcd := true, mod := true, out := true, free := true } s s1 := by
  cases e
  refine Keeps.start fun p s0 hp h => ?_
  repeat' (first
    | ((with_reducible refine Parts.le_trans ?_ hp); exact rfl)
    | with_reducible assumption
    | lift_lets
    | with_reducible apply Keeps.via (keeps_ptpSyncReceive _ _))

theorem keeps_execPtpFollowUpReceive (m : PtpFollowUp) (s : State) (s1 : State) (e : execPtpFollowUpReceive m s = .next s1) :
    Keeps { store := true, tb := true, tbAcc := true, tsk := true, pair := true, lease := true, links := true, io := true, can := true, ses := true, pwr := true, tel := true, evr := true, lcd := true, mod := true, out := true, free := true } s s1 := by
  cases e
  refine Keeps.start fun p s0 hp h => ?_
  repeat' (first
    | ((with_reducible refine Parts.le_trans ?_ hp); exact rfl)
    | with_reducible assumption
    | lift_lets
    | with_reducible apply Keeps.via (keeps_ptpFollowUpReceive _ _))

theorem keeps_execPtpDelayRespReceive (m : PtpDelayResp) (s : State) (s1 : State) (e : execPtpDelayRespReceive m s = .next s1) :
    Keeps { tb := true } s s1 := by
  cases e
  refine Keeps.start fun p s0 hp h => ?_
  repeat' (first
    | ((with_reducible refine Parts.le_trans ?_ hp); exact rfl)
    | with_reducible assumption
    | lift_lets
    | with_reducible apply Keeps.via (keeps_ptpDelayRespReceive _ _))

theorem keeps_execPtpHoldoverTimeout (s : State) (s1 : State) (e : execPtpHoldoverTimeout s = .next s1) :
    Keeps { store := true, tb := true, tbAcc := true, evr := true } s s1 := by
  cases e
  refine Keeps.start fun p s0 hp h => ?_
  repeat' (first
    | ((with_reducible refine Parts.le_trans ?_ hp); exact rfl)
    | with_reducible assumption
    | lift_lets
    | with_reducible apply Keeps.via (keeps_ptpHoldoverTimeout _))

theorem keeps_execPtpListeningTimeout (s : State) (s1 : State) (e : execPtpListeningTimeout s = .next s1) :
    Keeps { store := true, tb := true, tbAcc := true, evr := true } s s1 := by
  cases e
  refine Keeps.start fun p s0 hp h => ?_
  repeat' (first
    | ((with_reducible refine Parts.le_trans ?_ hp); exact rfl)
    | with_reducible assumption
    | lift_lets
    | with_reducible apply Keeps.via (keeps_ptpListeningTimeout _))

theorem keeps_execPairAlignmentLoss (s : State) (s1 : State) (e : execPairAlignmentLoss s = .next s1) :
    Keeps { tb := true } s s1 := by
  cases e
  refine Keeps.start fun p s0 hp h => ?_
  repeat' (first
    | ((with_reducible refine Parts.le_trans ?_ hp); exact rfl)
    | with_reducible assumption
    | lift_lets
    | with_reducible apply Keeps.via (keeps_pairAlignmentLoss _))

theorem keeps_execDiTerminalSample (c : Fin 192) (vterm : BitVec 16) (s : State) (s1 : State) (e : execDiTerminalSample c vterm s = .next s1) :
    Keeps { io := true } s s1 := by
  cases e
  refine Keeps.start fun p s0 hp h => ?_
  repeat' (first
    | ((with_reducible refine Parts.le_trans ?_ hp); exact rfl)
    | with_reducible assumption
    | lift_lets
    | with_reducible apply Keeps.via (keeps_diTerminalSample _ _ _))

theorem keeps_execDiFilterExpiry (c : Fin 192) (s : State) (s1 : State) (e : execDiFilterExpiry c s = .next s1) :
    Keeps { io := true } s s1 := by
  cases e
  refine Keeps.start fun p s0 hp h => ?_
  repeat' (first
    | ((with_reducible refine Parts.le_trans ?_ hp); exact rfl)
    | with_reducible assumption
    | lift_lets
    | with_reducible apply Keeps.via (keeps_diFilterExpiry _ _))

theorem keeps_execDiWirebreakTimeout (c : Fin 192) (s : State) (s1 : State) (e : execDiWirebreakTimeout c s = .next s1) :
    Keeps { io := true } s s1 := by
  cases e
  refine Keeps.start fun p s0 hp h => ?_
  repeat' (first
    | ((with_reducible refine Parts.le_trans ?_ hp); exact rfl)
    | with_reducible assumption
    | lift_lets
    | with_reducible apply Keeps.via (keeps_diWirebreakTimeout _ _))

theorem keeps_execDoComplianceTimeout (c : Fin 192) (s : State) (s1 : State) (e : execDoComplianceTimeout c s = .next s1) :
    Keeps { io := true } s s1 := by
  cases e
  refine Keeps.start fun p s0 hp h => ?_
  repeat' (first
    | ((with_reducible refine Parts.le_trans ?_ hp); exact rfl)
    | with_reducible assumption
    | lift_lets
    | with_reducible apply Keeps.via (keeps_doComplianceTimeout _ _))

theorem keeps_execDoThermalShutdown (c : Fin 192) (temp : BitVec 16) (s : State) (s1 : State) (e : execDoThermalShutdown c temp s = .next s1) :
    Keeps { io := true } s s1 := by
  cases e
  refine Keeps.start fun p s0 hp h => ?_
  repeat' (first
    | ((with_reducible refine Parts.le_trans ?_ hp); exact rfl)
    | with_reducible assumption
    | lift_lets
    | with_reducible apply Keeps.via (keeps_doThermalShutdown _ _ _))

theorem keeps_execDoThermalRetry (c : Fin 192) (s : State) (s1 : State) (e : execDoThermalRetry c s = .next s1) :
    Keeps { io := true } s s1 := by
  cases e
  refine Keeps.start fun p s0 hp h => ?_
  repeat' (first
    | ((with_reducible refine Parts.le_trans ?_ hp); exact rfl)
    | with_reducible assumption
    | lift_lets
    | with_reducible apply Keeps.via (keeps_doThermalRetry _ _))

theorem keeps_execDoThermalClear (c : Fin 192) (temp : BitVec 16) (s : State) (s1 : State) (e : execDoThermalClear c temp s = .next s1) :
    Keeps { io := true } s s1 := by
  cases e
  refine Keeps.start fun p s0 hp h => ?_
  repeat' (first
    | ((with_reducible refine Parts.le_trans ?_ hp); exact rfl)
    | with_reducible assumption
    | lift_lets
    | with_reducible apply Keeps.via (keeps_doThermalClear _ _ _))

theorem keeps_execDoOpenLoadTimeout (c : Fin 192) (s : State) (s1 : State) (e : execDoOpenLoadTimeout c s = .next s1) :
    Keeps { io := true } s s1 := by
  cases e
  refine Keeps.start fun p s0 hp h => ?_
  repeat' (first
    | ((with_reducible refine Parts.le_trans ?_ hp); exact rfl)
    | with_reducible assumption
    | lift_lets
    | with_reducible apply Keeps.via (keeps_doOpenLoadTimeout _ _))

theorem keeps_execDoExtdriveTimeout (c : Fin 192) (s : State) (s1 : State) (e : execDoExtdriveTimeout c s = .next s1) :
    Keeps { io := true } s s1 := by
  cases e
  refine Keeps.start fun p s0 hp h => ?_
  repeat' (first
    | ((with_reducible refine Parts.le_trans ?_ hp); exact rfl)
    | with_reducible assumption
    | lift_lets
    | with_reducible apply Keeps.via (keeps_doExtdriveTimeout _ _))

theorem keeps_execGangImbalanceTimeout (c : Fin 192) (s : State) (s1 : State) (e : execGangImbalanceTimeout c s = .next s1) :
    Keeps { io := true } s s1 := by
  cases e
  refine Keeps.start fun p s0 hp h => ?_
  repeat' (first
    | ((with_reducible refine Parts.le_trans ?_ hp); exact rfl)
    | with_reducible assumption
    | lift_lets
    | with_reducible apply Keeps.via (keeps_gangImbalanceTimeout _ _))

theorem keeps_execPwmPeriodStart (c : Fin 192) (s : State) (s1 : State) (e : execPwmPeriodStart c s = .next s1) :
    Keeps { io := true } s s1 := by
  cases e
  refine Keeps.start fun p s0 hp h => ?_
  repeat' (first
    | ((with_reducible refine Parts.le_trans ?_ hp); exact rfl)
    | with_reducible assumption
    | lift_lets
    | with_reducible apply Keeps.via (keeps_pwmPeriodStart _ _))

theorem keeps_execPwmOff (c : Fin 192) (s : State) (s1 : State) (e : execPwmOff c s = .next s1) :
    Keeps { io := true } s s1 := by
  cases e
  refine Keeps.start fun p s0 hp h => ?_
  repeat' (first
    | ((with_reducible refine Parts.le_trans ?_ hp); exact rfl)
    | with_reducible assumption
    | lift_lets
    | with_reducible apply Keeps.via (keeps_pwmOff _ _))

theorem keeps_execLplusMeasurement (n : Fin 24) (v10 : Nat) (s : State) (s1 : State) (e : execLplusMeasurement n v10 s = .next s1) :
    Keeps { store := true, io := true, tel := true, evr := true } s s1 := by
  cases e
  refine Keeps.start fun p s0 hp h => ?_
  repeat' (first
    | ((with_reducible refine Parts.le_trans ?_ hp); exact rfl)
    | with_reducible assumption
    | lift_lets
    | with_reducible apply Keeps.via (keeps_lplusMeasurement _ _ _))

theorem keeps_execLplusRestoreTimeout (n : Fin 24) (s : State) (s1 : State) (e : execLplusRestoreTimeout n s = .next s1) :
    Keeps { io := true } s s1 := by
  cases e
  refine Keeps.start fun p s0 hp h => ?_
  repeat' (first
    | ((with_reducible refine Parts.le_trans ?_ hp); exact rfl)
    | with_reducible assumption
    | lift_lets
    | with_reducible apply Keeps.via (keeps_lplusRestoreTimeout _ _))

theorem keeps_execIslandFrameAccept (n : Fin 24) (crcOk fault : Bool) (arrival : Nat) (s : State) (s1 : State) (e : execIslandFrameAccept n crcOk fault arrival s = .next s1) :
    Keeps { io := true } s s1 := by
  cases e
  refine Keeps.start fun p s0 hp h => ?_
  repeat' (first
    | ((with_reducible refine Parts.le_trans ?_ hp); exact rfl)
    | with_reducible assumption
    | lift_lets
    | with_reducible apply Keeps.via (keeps_islandFrameAccept _ _ _ _ _))

theorem keeps_execLogicSilenceTimeout (n : Fin 24) (s : State) (s1 : State) (e : execLogicSilenceTimeout n s = .next s1) :
    Keeps { io := true } s s1 := by
  cases e
  refine Keeps.start fun p s0 hp h => ?_
  repeat' (first
    | ((with_reducible refine Parts.le_trans ?_ hp); exact rfl)
    | with_reducible assumption
    | lift_lets
    | with_reducible apply Keeps.via (keeps_logicSilenceTimeout _ _))

theorem keeps_execIslandVbMeasurement (n : Fin 24) (mV : Nat) (temp : BitVec 16) (s : State) (s1 : State) (e : execIslandVbMeasurement n mV temp s = .next s1) :
    Keeps { io := true } s s1 := by
  cases e
  refine Keeps.start fun p s0 hp h => ?_
  repeat' (first
    | ((with_reducible refine Parts.le_trans ?_ hp); exact rfl)
    | with_reducible assumption
    | lift_lets
    | with_reducible apply Keeps.via (keeps_islandVbMeasurement _ _ _ _))

theorem keeps_execFordPeriod (s : State) (s1 : State) (e : execFordPeriod s = .next s1) :
    Keeps { laneA := true, laneB := true, lsk := true, pair := true, mir := true, io := true, ses := true, evr := true, lcd := true, mod := true, out := true } s s1 := by
  cases e
  refine Keeps.start fun p s0 hp h => ?_
  repeat' (first
    | ((with_reducible refine Parts.le_trans ?_ hp); exact rfl)
    | with_reducible assumption
    | lift_lets
    | with_reducible apply Keeps.via (keeps_fordPeriod _))

theorem keeps_execFordReturnFrame (n : Fin 24) (crcOk : Bool) (s : State) (s1 : State) (e : execFordReturnFrame n crcOk s = .next s1) :
    Keeps { tbAcc := true, tsk := true, laneA := true, laneB := true, lsk := true, pair := true, lease := true, mir := true, io := true, ses := true, evr := true, lcd := true, mod := true, out := true } s s1 := by
  cases e
  refine Keeps.start fun p s0 hp h => ?_
  repeat' (first
    | ((with_reducible refine Parts.le_trans ?_ hp); exact rfl)
    | with_reducible assumption
    | lift_lets
    | with_reducible apply Keeps.via (keeps_fordReturnFrame _ _ _))

theorem keeps_execCalIsland (se : Fin 64) (s s1 : State) (e : execCalIsland se s = .next s1) :
    Keeps { lsk := true, pair := true, mir := true, io := true, ses := true, evr := true, out := true } s s1 :=
  Keeps.mono (keeps_chanCmd _ _ _ _ _ e) rfl

theorem keeps_execUrgent (se : Fin 64) (s s1 : State) (e : execUrgent se s = .next s1) :
    Keeps { lsk := true, pair := true, mir := true, io := true, ses := true, evr := true, out := true } s s1 :=
  Keeps.mono (keeps_chanCmd _ _ _ _ _ e) rfl

theorem keeps_execOwtest (se : Fin 64) (s s1 : State) (e : execOwtest se s = .next s1) :
    Keeps { lsk := true, pair := true, mir := true, io := true, ses := true, evr := true, out := true } s s1 :=
  Keeps.mono (keeps_chanCmd _ _ _ _ _ e) rfl

theorem keeps_execCalload (se : Fin 64) (s s1 : State) (e : execCalload se s = .next s1) :
    Keeps { lsk := true, pair := true, mir := true, io := true, ses := true, evr := true, out := true } s s1 :=
  Keeps.mono (keeps_chanCmd _ _ _ _ _ e) rfl

theorem keeps_execCntpreset (se : Fin 64) (s s1 : State) (e : execCntpreset se s = .next s1) :
    Keeps { lsk := true, pair := true, mir := true, io := true, ses := true, evr := true, out := true } s s1 :=
  Keeps.mono (keeps_chanCmd _ _ _ _ _ e) rfl

theorem keeps_execCntreset (se : Fin 64) (s s1 : State) (e : execCntreset se s = .next s1) :
    Keeps { lsk := true, pair := true, mir := true, io := true, ses := true, evr := true, out := true } s s1 :=
  Keeps.mono (keeps_chanCmd _ _ _ _ _ e) rfl

theorem keeps_execSupplyRelease (se : Fin 64) (s s1 : State) (e : execSupplyRelease se s = .next s1) :
    Keeps { lsk := true, pair := true, mir := true, io := true, ses := true, evr := true, out := true } s s1 :=
  Keeps.mono (keeps_chanCmd _ _ _ _ _ e) rfl

theorem keeps_execIslRestart (se : Fin 64) (s s1 : State) (e : execIslRestart se s = .next s1) :
    Keeps { lsk := true, pair := true, mir := true, io := true, ses := true, evr := true, out := true } s s1 :=
  Keeps.mono (keeps_chanCmd _ _ _ _ _ e) rfl

theorem keeps_execChannelCommandActivation (s : State) (s1 : State) (e : execChannelCommandActivation s = .next s1) :
    Keeps { laneA := true, laneB := true, lsk := true, pair := true, mir := true, io := true, ses := true, evr := true, out := true } s s1 := by
  cases e
  refine Keeps.start fun p s0 hp h => ?_
  repeat' (first
    | ((with_reducible refine Parts.le_trans ?_ hp); exact rfl)
    | with_reducible assumption
    | lift_lets
    | with_reducible apply Keeps.via (keeps_channelCommandActivation _))

theorem keeps_execIslandRestartPowerOn (n : Fin 24) (s : State) (s1 : State) (e : execIslandRestartPowerOn n s = .next s1) :
    Keeps { io := true } s s1 := by
  cases e
  refine Keeps.start fun p s0 hp h => ?_
  repeat' (first
    | ((with_reducible refine Parts.le_trans ?_ hp); exact rfl)
    | with_reducible assumption
    | lift_lets
    | with_reducible apply Keeps.via (keeps_islandRestartPowerOn _ _))

theorem keeps_execSvcUrgent (core : Fin 8) (c : Fin 192) (s : State) (s1 : State) (e : execSvcUrgent core c s = .next s1) :
    Keeps { laneA := true, laneB := true, lsk := true, pair := true, io := true, ses := true, out := true } s s1 := by
  cases e
  refine Keeps.start fun p s0 hp h => ?_
  repeat' (first
    | ((with_reducible refine Parts.le_trans ?_ hp); exact rfl)
    | with_reducible assumption
    | lift_lets
    | with_reducible apply Keeps.via (keeps_serviceCmd _ _ _ _))

theorem keeps_execSvcOwtest (core : Fin 8) (c : Fin 192) (testVoltage : Bool) (s : State) (s1 : State) (e : execSvcOwtest core c testVoltage s = .next s1) :
    Keeps { laneA := true, laneB := true, lsk := true, pair := true, io := true, ses := true, out := true } s s1 := by
  cases e
  refine Keeps.start fun p s0 hp h => ?_
  repeat' (first
    | ((with_reducible refine Parts.le_trans ?_ hp); exact rfl)
    | with_reducible assumption
    | lift_lets
    | with_reducible apply Keeps.via (keeps_serviceCmd _ _ _ _))

theorem keeps_execSvcCntpreset (core : Fin 8) (c : Fin 192) (value : W32) (s : State) (s1 : State) (e : execSvcCntpreset core c value s = .next s1) :
    Keeps { laneA := true, laneB := true, lsk := true, pair := true, io := true, ses := true, out := true } s s1 := by
  cases e
  refine Keeps.start fun p s0 hp h => ?_
  repeat' (first
    | ((with_reducible refine Parts.le_trans ?_ hp); exact rfl)
    | with_reducible assumption
    | lift_lets
    | with_reducible apply Keeps.via (keeps_serviceCmd _ _ _ _))

theorem keeps_execSvcCntreset (core : Fin 8) (c : Fin 192) (s : State) (s1 : State) (e : execSvcCntreset core c s = .next s1) :
    Keeps { laneA := true, laneB := true, lsk := true, pair := true, io := true, ses := true, out := true } s s1 := by
  cases e
  refine Keeps.start fun p s0 hp h => ?_
  repeat' (first
    | ((with_reducible refine Parts.le_trans ?_ hp); exact rfl)
    | with_reducible assumption
    | lift_lets
    | with_reducible apply Keeps.via (keeps_serviceCmd _ _ _ _))

theorem keeps_execUrgentResultTimeout (c : Fin 192) (s : State) (s1 : State) (e : execUrgentResultTimeout c s = .next s1) :
    Keeps { laneA := true, laneB := true, lsk := true, io := true, out := true } s s1 := by
  cases e
  refine Keeps.start fun p s0 hp h => ?_
  repeat' (first
    | ((with_reducible refine Parts.le_trans ?_ hp); exact rfl)
    | with_reducible assumption
    | lift_lets
    | with_reducible apply Keeps.via (keeps_urgentResultTimeout _ _))

theorem keeps_execMemoryScrub (chk : MemCheck) (s : State) (s1 : State) (e : execMemoryScrub chk s = .next s1) :
    Keeps { store := true, tsk := true, img := true, lsk := true, pair := true, lease := true, mir := true, links := true, io := true, can := true, ses := true, pwr := true, tel := true, evr := true, lcd := true, mod := true, out := true, free := true } s s1 := by
  cases e
  refine Keeps.start fun p s0 hp h => ?_
  repeat' (first
    | ((with_reducible refine Parts.le_trans ?_ hp); exact rfl)
    | with_reducible assumption
    | lift_lets
    | with_reducible apply Keeps.via (keeps_memoryScrub _ _))

theorem keeps_execPersistentWriteReadback (ok : Bool) (s : State) (s1 : State) (e : execPersistentWriteReadback ok s = .next s1) :
    Keeps { cells := true, store := true, tbAcc := true, tbLat := true, tsk := true, img := true, keys := true, frc := true, laneA := true, laneB := true, lsk := true, pair := true, mir := true, links := true, io := true, can := true, ses := true, tel := true, evr := true, lcd := true, out := true } s s1 := by
  cases e
  refine Keeps.start fun p s0 hp h => ?_
  repeat' (first
    | ((with_reducible refine Parts.le_trans ?_ hp); exact rfl)
    | with_reducible assumption
    | lift_lets
    | with_reducible apply Keeps.via (keeps_persistentWriteReadback _ _))

theorem keeps_execKey (se : Fin 64) (tag : W32) (stmt sig : List Byte) (s : State) (s1 : State) (e : execKey se tag stmt sig s = .next s1) :
    Keeps { store := true, lsk := true, pair := true, mir := true, ses := true, evr := true, out := true } s s1 := by
  cases e
  refine Keeps.start fun p s0 hp h => ?_
  repeat' (first
    | ((with_reducible refine Parts.le_trans ?_ hp); exact rfl)
    | with_reducible assumption
    | (intro x; refine_lift have hx : Keeps p s0 x := ?_; ?_; on_goal 2 => unfold x; on_goal 1 => clear_value x)
    | (intro x; clear_value x)
    | lift_lets
    | split
    | with_reducible apply Keeps.via (keeps_onSess _ _ _)
    | with_reducible apply Keeps.via (keeps_reply _ _ _ _ _ _)
    | with_reducible apply Keeps.via (keeps_relay _ _ _ _ _ _ _ _)
    | with_reducible apply Keeps.via (keeps_keyService _ _ _ _ _ _))

theorem keeps_execImageChunk (se : Fin 64) (tag : W32) (offset : Nat) (data : List Byte) (s : State) (s1 : State) (e : execImageChunk se tag offset data s = .next s1) :
    Keeps { img := true, lsk := true, pair := true, mir := true, ses := true, evr := true, lcd := true, out := true } s s1 := by
  cases e
  split
  · exact .refl _ s
  · have h := Keeps.mono (p := { img := true, lsk := true, pair := true, mir := true, ses := true, evr := true, lcd := true, out := true }) (keeps_onSess se (fun x => { x with lastMsg := s.tb.now }) s) rfl
    dsimp only
    generalize onSess se (fun x => { x with lastMsg := s.tb.now }) s = y at h ⊢
    have k := fun a : Origin => Keeps.via (p := { img := true, lsk := true, pair := true, mir := true, ses := true, evr := true, lcd := true, out := true }) (keeps_chunkService a offset data y) rfl h
    repeat' split
    all_goals first
      | exact Keeps.via (keeps_reply _ _ _ _ _ _) rfl h
      | exact Keeps.via (keeps_relay _ _ _ _ _ _ _ _) rfl h
      | exact Keeps.via (keeps_reply _ _ _ _ _ _) rfl (Keeps.via (keeps_setRes _ _ _ _) rfl h)
      | exact Keeps.via (keeps_reply _ _ _ _ _ _) rfl (k _)
      | exact Keeps.via (keeps_reply _ _ _ _ _ _) rfl (Keeps.via (keeps_setRes _ _ _ _) rfl (k _))

theorem keeps_execVerificationComplete (s : State) (s1 : State) (e : execVerificationComplete s = .next s1) :
    Keeps { img := true, ses := true, evr := true, lcd := true } s s1 := by
  cases e
  refine Keeps.start fun p s0 hp h => ?_
  repeat' (first
    | ((with_reducible refine Parts.le_trans ?_ hp); exact rfl)
    | with_reducible assumption
    | lift_lets
    | with_reducible apply Keeps.via (keeps_verificationComplete _))

theorem keeps_execImageStoreComplete (ok : Bool) (s : State) (s1 : State) (e : execImageStoreComplete ok s = .next s1) :
    Keeps { img := true, ses := true, evr := true, lcd := true } s s1 := by
  cases e
  refine Keeps.start fun p s0 hp h => ?_
  repeat' (first
    | ((with_reducible refine Parts.le_trans ?_ hp); exact rfl)
    | with_reducible assumption
    | lift_lets
    | with_reducible apply Keeps.via (keeps_imageStoreComplete _ _))

theorem keeps_execArm (se : Fin 64) (s : State) (s1 : State) (e : execArm se s = .next s1) :
    Keeps { img := true, lsk := true, pair := true, mir := true, ses := true, evr := true, out := true } s s1 := by
  cases e
  refine Keeps.start fun p s0 hp h => ?_
  repeat' (first
    | ((with_reducible refine Parts.le_trans ?_ hp); exact rfl)
    | with_reducible assumption
    | intro x
    | lift_lets
    | with_reducible apply keeps_sessionCmd
    | with_reducible apply keeps_imgCmd
    | with_reducible apply Keeps.via (keeps_armCmd _ _))

theorem keeps_execDisarm (se : Fin 64) (s : State) (s1 : State) (e : execDisarm se s = .next s1) :
    Keeps { img := true, lsk := true, pair := true, mir := true, ses := true, evr := true, out := true } s s1 := by
  cases e
  refine Keeps.start fun p s0 hp h => ?_
  repeat' (first
    | ((with_reducible refine Parts.le_trans ?_ hp); exact rfl)
    | with_reducible assumption
    | intro x
    | lift_lets
    | with_reducible apply keeps_sessionCmd
    | with_reducible apply keeps_imgCmd
    | with_reducible apply Keeps.via (keeps_disarmCmd _ _))

theorem keeps_execAbort (se : Fin 64) (s : State) (s1 : State) (e : execAbort se s = .next s1) :
    Keeps { img := true, lsk := true, pair := true, mir := true, ses := true, evr := true, lcd := true, out := true } s s1 := by
  cases e
  refine Keeps.start fun p s0 hp h => ?_
  repeat' (first
    | ((with_reducible refine Parts.le_trans ?_ hp); exact rfl)
    | with_reducible assumption
    | intro x
    | lift_lets
    | with_reducible apply keeps_sessionCmd
    | with_reducible apply Keeps.via (keeps_abortCmd _ _))

theorem keeps_execClear (se : Fin 64) (s : State) (s1 : State) (e : execClear se s = .next s1) :
    Keeps { img := true, lsk := true, pair := true, mir := true, ses := true, evr := true, out := true } s s1 := by
  cases e
  refine Keeps.start fun p s0 hp h => ?_
  repeat' (first
    | ((with_reducible refine Parts.le_trans ?_ hp); exact rfl)
    | with_reducible assumption
    | intro x
    | lift_lets
    | with_reducible apply keeps_sessionCmd
    | with_reducible apply keeps_imgCmd
    | with_reducible apply Keeps.via (keeps_clearCmd _ _))

theorem keeps_execArchive (se : Fin 64) (arg : BitVec 4) (s : State) (s1 : State) (e : execArchive se arg s = .next s1) :
    Keeps { img := true, lsk := true, pair := true, mir := true, ses := true, evr := true, out := true } s s1 := by
  cases e
  refine Keeps.start fun p s0 hp h => ?_
  repeat' (first
    | ((with_reducible refine Parts.le_trans ?_ hp); exact rfl)
    | with_reducible assumption
    | intro x
    | lift_lets
    | with_reducible apply keeps_sessionCmd
    | with_reducible apply keeps_imgCmd
    | with_reducible apply Keeps.via (keeps_archiveCmd _ _ _))

theorem keeps_execArchiveComplete (ok : Bool) (s : State) (s1 : State) (e : execArchiveComplete ok s = .next s1) :
    Keeps { img := true, evr := true } s s1 := by
  cases e
  refine Keeps.start fun p s0 hp h => ?_
  repeat' (first
    | ((with_reducible refine Parts.le_trans ?_ hp); exact rfl)
    | with_reducible assumption
    | lift_lets
    | with_reducible apply Keeps.via (keeps_archiveComplete _ _))

theorem keeps_execRestore (se : Fin 64) (arg : BitVec 4) (s : State) (s1 : State) (e : execRestore se arg s = .next s1) :
    Keeps { img := true, lsk := true, pair := true, mir := true, ses := true, evr := true, out := true } s s1 := by
  cases e
  refine Keeps.start fun p s0 hp h => ?_
  repeat' (first
    | ((with_reducible refine Parts.le_trans ?_ hp); exact rfl)
    | with_reducible assumption
    | intro x
    | lift_lets
    | with_reducible apply keeps_sessionCmd
    | with_reducible apply keeps_imgCmd
    | with_reducible apply Keeps.via (keeps_restoreCmd _ _ _))

theorem keeps_execRestoreCopyComplete (s : State) (s1 : State) (e : execRestoreCopyComplete s = .next s1) :
    Keeps { img := true } s s1 := by
  cases e
  refine Keeps.start fun p s0 hp h => ?_
  repeat' (first
    | ((with_reducible refine Parts.le_trans ?_ hp); exact rfl)
    | with_reducible assumption
    | lift_lets
    | with_reducible apply Keeps.via (keeps_restoreCopyComplete _))

theorem keeps_execArmComplete (changedA changedB : Option W128) (s : State) (s1 : State) (e : execArmComplete changedA changedB s = .next s1) :
    Keeps { cells := true, tsk := true, img := true, laneA := true, laneB := true, lsk := true, pair := true, lease := true, io := true, can := true, ses := true, evr := true, lcd := true, mod := true, out := true } s s1 := by
  cases e
  refine Keeps.start fun p s0 hp h => ?_
  repeat' (first
    | ((with_reducible refine Parts.le_trans ?_ hp); exact rfl)
    | with_reducible assumption
    | lift_lets
    | with_reducible apply Keeps.via (keeps_armComplete _ _ _))

theorem keeps_execRecordWrite (chk : MemCheck) (s : State) (s1 : State) (e : execRecordWrite chk s = .next s1) :
    Keeps { store := true, tsk := true, img := true, lsk := true, pair := true, lease := true, mir := true, links := true, io := true, can := true, ses := true, pwr := true, tel := true, evr := true, lcd := true, mod := true, out := true, free := true } s s1 := by
  cases e
  refine Keeps.start fun p s0 hp h => ?_
  repeat' (first
    | ((with_reducible refine Parts.le_trans ?_ hp); exact rfl)
    | with_reducible assumption
    | intro x
    | lift_lets
    | with_reducible apply keeps_afterCheck
    | with_reducible apply Keeps.via (keeps_recordWrite _))

theorem keeps_execRecordComplete (s : State) (s1 : State) (e : execRecordComplete s = .next s1) :
    Keeps { evr := true } s s1 := by
  cases e
  refine Keeps.start fun p s0 hp h => ?_
  repeat' (first
    | ((with_reducible refine Parts.le_trans ?_ hp); exact rfl)
    | with_reducible assumption
    | lift_lets
    | with_reducible apply Keeps.via (keeps_recordComplete _))

theorem keeps_execRateBucketFull (code : BitVec 16) (s : State) (s1 : State) (e : execRateBucketFull code s = .next s1) :
    Keeps { evr := true } s s1 := by
  cases e
  refine Keeps.start fun p s0 hp h => ?_
  repeat' (first
    | ((with_reducible refine Parts.le_trans ?_ hp); exact rfl)
    | with_reducible assumption
    | lift_lets
    | split
    | with_reducible apply Keeps.via (keeps_enqueueEv _ _)
    | with_reducible apply Keeps.via (keeps_putBucket _ _))

theorem keeps_execEvrClear (se : Fin 64) (s : State) (s1 : State) (e : execEvrClear se s = .next s1) :
    Keeps { lsk := true, pair := true, mir := true, ses := true, evr := true, out := true } s s1 := by
  cases e
  refine Keeps.start fun p s0 hp h => ?_
  repeat' (first
    | ((with_reducible refine Parts.le_trans ?_ hp); exact rfl)
    | with_reducible assumption
    | intro x
    | lift_lets
    | with_reducible apply keeps_sessionCmd
    | with_reducible apply Keeps.via (keeps_evrClear _ _))

theorem keeps_execRecorderClearComplete (s : State) (s1 : State) (e : execRecorderClearComplete s = .next s1) :
    Keeps { ses := true, evr := true } s s1 := by
  cases e
  refine Keeps.start fun p s0 hp h => ?_
  repeat' (first
    | ((with_reducible refine Parts.le_trans ?_ hp); exact rfl)
    | with_reducible assumption
    | lift_lets
    | with_reducible apply Keeps.via (keeps_recorderClearComplete _))

theorem keeps_execSetrate (se : Fin 64) (s : State) (s1 : State) (e : execSetrate se s = .next s1) :
    Keeps { store := true, lsk := true, pair := true, mir := true, ses := true, evr := true, out := true } s s1 := by
  cases e
  refine Keeps.start fun p s0 hp h => ?_
  repeat' (first
    | ((with_reducible refine Parts.le_trans ?_ hp); exact rfl)
    | with_reducible assumption
    | intro x
    | lift_lets
    | with_reducible apply keeps_sessionCmd
    | with_reducible apply Keeps.via (keeps_setrateCmd _ _))

theorem keeps_execRatedefault (se : Fin 64) (s : State) (s1 : State) (e : execRatedefault se s = .next s1) :
    Keeps { store := true, lsk := true, pair := true, mir := true, ses := true, evr := true, out := true } s s1 := by
  cases e
  refine Keeps.start fun p s0 hp h => ?_
  repeat' (first
    | ((with_reducible refine Parts.le_trans ?_ hp); exact rfl)
    | with_reducible assumption
    | intro x
    | lift_lets
    | with_reducible apply keeps_sessionCmd
    | with_reducible apply Keeps.via (keeps_ratedefaultCmd _ _))

theorem keeps_execEvrWin0Read (se : Fin 64) (s : State) (s1 : State) (e : execEvrWin0Read se s = .next s1) :
    Keeps { ses := true } s s1 := by
  cases e
  refine Keeps.start fun p s0 hp h => ?_
  repeat' (first
    | ((with_reducible refine Parts.le_trans ?_ hp); exact rfl)
    | with_reducible assumption
    | lift_lets
    | split
    | with_reducible apply Keeps.via (keeps_captureWindow _ _)
    | with_reducible apply Keeps.via (keeps_heard _ _))

theorem keeps_execEvrWin7Read (se : Fin 64) (s : State) (s1 : State) (e : execEvrWin7Read se s = .next s1) :
    Keeps { ses := true } s s1 := by
  cases e
  refine Keeps.start fun p s0 hp h => ?_
  repeat' (first
    | ((with_reducible refine Parts.le_trans ?_ hp); exact rfl)
    | with_reducible assumption
    | lift_lets
    | split
    | with_reducible apply Keeps.via (keeps_advanceCursor _ _)
    | with_reducible apply Keeps.via (keeps_heard _ _))

theorem keeps_execSupplyInputMeasurement (inA inB bus : Nat) (s : State) (s1 : State) (e : execSupplyInputMeasurement inA inB bus s = .next s1) :
    Keeps { cells := true, store := true, tbAcc := true, tbLat := true, tsk := true, img := true, frc := true, laneA := true, laneB := true, lsk := true, pair := true, mir := true, links := true, io := true, can := true, ses := true, pwr := true, tel := true, evr := true, lcd := true, out := true } s s1 := by
  cases e
  refine Keeps.start fun p s0 hp h => ?_
  repeat' (first
    | ((with_reducible refine Parts.le_trans ?_ hp); exact rfl)
    | with_reducible assumption
    | lift_lets
    | with_reducible apply Keeps.via (keeps_supplyInputMeasurement _ _ _ _))

theorem keeps_execSupplyRecovery (s : State) (s1 : State) (e : execSupplyRecovery s = .next s1) :
    Keeps { pwr := true, tel := true, evr := true } s s1 := by
  cases e
  refine Keeps.start fun p s0 hp h => ?_
  repeat' (first
    | ((with_reducible refine Parts.le_trans ?_ hp); exact rfl)
    | with_reducible assumption
    | lift_lets
    | with_reducible apply Keeps.via (keeps_supplyRecovery _))

theorem keeps_execInputLossTimeout (b : Bool) (s : State) (s1 : State) (e : execInputLossTimeout b s = .next s1) :
    Keeps { pwr := true, evr := true } s s1 := by
  cases e
  refine Keeps.start fun p s0 hp h => ?_
  repeat' (first
    | ((with_reducible refine Parts.le_trans ?_ hp); exact rfl)
    | with_reducible assumption
    | lift_lets
    | with_reducible apply Keeps.via (keeps_inputLossTimeout _ _))

theorem keeps_execInputRestoreTimeout (b : Bool) (s : State) (s1 : State) (e : execInputRestoreTimeout b s = .next s1) :
    Keeps { pwr := true, evr := true } s s1 := by
  cases e
  refine Keeps.start fun p s0 hp h => ?_
  repeat' (first
    | ((with_reducible refine Parts.le_trans ?_ hp); exact rfl)
    | with_reducible assumption
    | lift_lets
    | with_reducible apply Keeps.via (keeps_inputRestoreTimeout _ _))

theorem keeps_execPowerApplied (inA inB : Nat) (s : State) (s1 : State) (e : execPowerApplied inA inB s = .next s1) :
    Keeps { pwr := true, tel := true, mod := true } s s1 := by
  cases e
  refine Keeps.start fun p s0 hp h => ?_
  repeat' (first
    | ((with_reducible refine Parts.le_trans ?_ hp); exact rfl)
    | with_reducible assumption
    | lift_lets
    | with_reducible apply Keeps.via (keeps_powerApplied _ _ _))

theorem keeps_execRailPowerGood (rail : Fin 7) (capacitance : Nat) (s : State) (s1 : State) (e : execRailPowerGood rail capacitance s = .next s1) :
    Keeps { cells := true, store := true, tb := true, tbAcc := true, tbLat := true, tsk := true, img := true, keys := true, frc := true, laneA := true, laneB := true, lsk := true, pair := true, lease := true, mir := true, links := true, io := true, can := true, ses := true, pwr := true, tel := true, evr := true, lcd := true, mod := true, out := true } s s1 := by
  cases e
  refine Keeps.start fun p s0 hp h => ?_
  repeat' (first
    | ((with_reducible refine Parts.le_trans ?_ hp); exact rfl)
    | with_reducible assumption
    | lift_lets
    | with_reducible apply Keeps.via (keeps_railPowerGood _ _ _))

theorem keeps_execRailSequenceTimeout (rail : Fin 7) (s : State) (s1 : State) (e : execRailSequenceTimeout rail s = .next s1) :
    Keeps { pwr := true } s s1 := by
  cases e
  refine Keeps.start fun p s0 hp h => ?_
  repeat' (first
    | ((with_reducible refine Parts.le_trans ?_ hp); exact rfl)
    | with_reducible assumption
    | lift_lets
    | with_reducible apply Keeps.via (keeps_railSequenceTimeout _ _))

theorem keeps_execRailSequenceRetry (s : State) (s1 : State) (e : execRailSequenceRetry s = .next s1) :
    Keeps { pwr := true } s s1 := by
  cases e
  refine Keeps.start fun p s0 hp h => ?_
  repeat' (first
    | ((with_reducible refine Parts.le_trans ?_ hp); exact rfl)
    | with_reducible assumption
    | lift_lets
    | with_reducible apply Keeps.via (keeps_railSequenceRetry _))

theorem keeps_execRailFault (rail : Fin 7) (mV : Nat) (s : State) (s1 : State) (e : execRailFault rail mV s = .next s1) :
    Keeps { tsk := true, img := true, lsk := true, pair := true, lease := true, io := true, can := true, ses := true, evr := true, lcd := true, mod := true, out := true } s s1 := by
  cases e
  refine Keeps.start fun p s0 hp h => ?_
  repeat' (first
    | ((with_reducible refine Parts.le_trans ?_ hp); exact rfl)
    | with_reducible assumption
    | lift_lets
    | with_reducible apply Keeps.via (keeps_railFault _ _ _))

theorem keeps_execHoldupStopLevel (s : State) (s1 : State) (e : execHoldupStopLevel s = .next s1) :
    Keeps { store := true, tsk := true, img := true, laneA := true, laneB := true, lsk := true, pair := true, lease := true, links := true, io := true, can := true, ses := true, pwr := true, evr := true, lcd := true, mod := true, out := true } s s1 := by
  cases e
  refine Keeps.start fun p s0 hp h => ?_
  repeat' (first
    | ((with_reducible refine Parts.le_trans ?_ hp); exact rfl)
    | with_reducible assumption
    | lift_lets
    | with_reducible apply Keeps.via (keeps_holdupStopLevel _))

theorem keeps_execHoldupRecorderCloseLevel (s : State) (s1 : State) (e : execHoldupRecorderCloseLevel s = .next s1) :
    Keeps { pwr := true, evr := true } s s1 := by
  cases e
  refine Keeps.start fun p s0 hp h => ?_
  repeat' (first
    | with_reducible assumption
    | (intro x; clear_value x)
    | lift_lets
    | split
    | fail_if_no_progress ((with_reducible apply Keeps.upd hp) <;> [skip; (with_reducible rfl); (with_reducible rfl)]))

theorem keeps_execHoldupResetLevel (s : State) (s1 : State) (e : execHoldupResetLevel s = .next s1) :
    Keeps { cells := true, store := true, tsk := true, img := true, laneA := true, laneB := true, lsk := true, pair := true, lease := true, links := true, io := true, can := true, ses := true, pwr := true, evr := true, lcd := true, mod := true, out := true } s s1 := by
  cases e
  refine Keeps.start fun p s0 hp h => ?_
  repeat' (first
    | ((with_reducible refine Parts.le_trans ?_ hp); exact rfl)
    | with_reducible assumption
    | lift_lets
    | split
    | with_reducible apply Keeps.via (keeps_powerOff _ _)
    | with_reducible apply Keeps.via (keeps_onPwr _ _))

theorem keeps_execHoldupPanelEnd (s : State) (s1 : State) (e : execHoldupPanelEnd s = .next s1) :
    Keeps { pwr := true, lcd := true } s s1 := by
  cases e
  refine Keeps.start fun p s0 hp h => ?_
  repeat' (first
    | with_reducible assumption
    | (intro x; clear_value x)
    | lift_lets
    | split
    | fail_if_no_progress ((with_reducible apply Keeps.upd hp) <;> [skip; (with_reducible rfl); (with_reducible rfl)]))

theorem keeps_execHoldupRecharged (s : State) (s1 : State) (e : execHoldupRecharged s = .next s1) :
    Keeps { pwr := true } s s1 := by
  cases e
  refine Keeps.start fun p s0 hp h => ?_
  repeat' (first
    | ((with_reducible refine Parts.le_trans ?_ hp); exact rfl)
    | with_reducible assumption
    | lift_lets
    | split
    | with_reducible apply Keeps.via (keeps_onPwr _ _))

theorem keeps_execStoppedRecoveryTimeout (s : State) (s1 : State) (e : execStoppedRecoveryTimeout s = .next s1) :
    Keeps { cells := true, store := true, tsk := true, img := true, laneA := true, laneB := true, lsk := true, pair := true, lease := true, links := true, io := true, can := true, ses := true, pwr := true, tel := true, evr := true, lcd := true, mod := true, out := true } s s1 := by
  cases e
  refine Keeps.start fun p s0 hp h => ?_
  repeat' (first
    | ((with_reducible refine Parts.le_trans ?_ hp); exact rfl)
    | with_reducible assumption
    | lift_lets
    | with_reducible apply Keeps.via (keeps_stoppedRecoveryTimeout _))

theorem keeps_execHoldupTest (se : Fin 64) (s : State) (s1 : State) (e : execHoldupTest se s = .next s1) :
    Keeps { lsk := true, pair := true, mir := true, ses := true, pwr := true, evr := true, out := true } s s1 := by
  cases e
  refine Keeps.start fun p s0 hp h => ?_
  repeat' (first
    | ((with_reducible refine Parts.le_trans ?_ hp); exact rfl)
    | with_reducible assumption
    | intro x
    | lift_lets
    | with_reducible apply keeps_sessionCmd
    | with_reducible apply Keeps.via (keeps_holdupTest _ _))

theorem keeps_execHoldupTestComplete (capacitance : Nat) (s : State) (s1 : State) (e : execHoldupTestComplete capacitance s = .next s1) :
    Keeps { ses := true, pwr := true, evr := true } s s1 := by
  cases e
  refine Keeps.start fun p s0 hp h => ?_
  repeat' (first
    | ((with_reducible refine Parts.le_trans ?_ hp); exact rfl)
    | with_reducible assumption
    | lift_lets
    | with_reducible apply Keeps.via (keeps_holdupTestComplete _ _))

theorem keeps_execCeilingHold (se : Fin 64) (s : State) (s1 : State) (e : execCeilingHold se s = .next s1) :
    Keeps { lsk := true, pair := true, mir := true, ses := true, tel := true, evr := true, out := true } s s1 := by
  cases e
  refine Keeps.start fun p s0 hp h => ?_
  repeat' (first
    | ((with_reducible refine Parts.le_trans ?_ hp); exact rfl)
    | with_reducible assumption
    | intro x
    | lift_lets
    | with_reducible apply keeps_sessionCmd
    | with_reducible apply Keeps.via (keeps_ceilingHold _ _ _))

theorem keeps_execTrack (se : Fin 64) (s : State) (s1 : State) (e : execTrack se s = .next s1) :
    Keeps { lsk := true, pair := true, mir := true, ses := true, tel := true, evr := true, out := true } s s1 := by
  cases e
  refine Keeps.start fun p s0 hp h => ?_
  repeat' (first
    | ((with_reducible refine Parts.le_trans ?_ hp); exact rfl)
    | with_reducible assumption
    | intro x
    | lift_lets
    | with_reducible apply keeps_sessionCmd
    | with_reducible apply Keeps.via (keeps_ceilingHold _ _ _))

theorem keeps_execMarginControlPeriod (s : State) (s1 : State) (e : execMarginControlPeriod s = .next s1) :
    Keeps { tel := true } s s1 := by
  cases e
  refine Keeps.start fun p s0 hp h => ?_
  repeat' (first
    | ((with_reducible refine Parts.le_trans ?_ hp); exact rfl)
    | with_reducible assumption
    | lift_lets
    | with_reducible apply Keeps.via (keeps_marginControlPeriod _))

theorem keeps_execMarginlowClearTimeout (s : State) (s1 : State) (e : execMarginlowClearTimeout s = .next s1) :
    Keeps { tel := true, evr := true, free := true } s s1 := by
  cases e
  refine Keeps.start fun p s0 hp h => ?_
  repeat' (first
    | ((with_reducible refine Parts.le_trans ?_ hp); exact rfl)
    | with_reducible assumption
    | lift_lets
    | with_reducible apply Keeps.via (keeps_marginlowClearTimeout _))

theorem keeps_execTelemetryMeasurement (temps : List (BitVec 16)) (rails : List Nat) (pin : Nat) (chk : MemCheck) (s : State) (s1 : State) (e : execTelemetryMeasurement temps rails pin chk s = .next s1) :
    Keeps { store := true, tb := true, tsk := true, img := true, lsk := true, pair := true, lease := true, mir := true, links := true, io := true, can := true, ses := true, pwr := true, tel := true, evr := true, lcd := true, mod := true, out := true, free := true } s s1 := by
  cases e
  refine Keeps.start fun p s0 hp h => ?_
  repeat' (first
    | ((with_reducible refine Parts.le_trans ?_ hp); exact rfl)
    | with_reducible assumption
    | intro x
    | lift_lets
    | with_reducible apply keeps_afterCheck
    | with_reducible apply Keeps.via (keeps_telemetryMeasurement _ _ _ _))

theorem keeps_execOperatingTimeSave (s : State) (s1 : State) (e : execOperatingTimeSave s = .next s1) :
    Keeps { store := true, tel := true } s s1 := by
  cases e
  refine Keeps.start fun p s0 hp h => ?_
  repeat' (first
    | ((with_reducible refine Parts.le_trans ?_ hp); exact rfl)
    | with_reducible assumption
    | lift_lets
    | with_reducible apply Keeps.via (keeps_operatingTimeSave _))

theorem keeps_execTlsHandshakeComplete (conn : Nat) (port : Fin 2) (ip : W32) (clientKey : W256) (s : State) (s1 : State) (e : execTlsHandshakeComplete conn port ip clientKey s = .next s1) :
    Keeps { ses := true } s s1 := by
  cases e
  refine Keeps.start fun p s0 hp h => ?_
  repeat' (first
    | ((with_reducible refine Parts.le_trans ?_ hp); exact rfl)
    | with_reducible assumption
    | lift_lets
    | with_reducible apply Keeps.via (keeps_tlsHandshakeComplete _ _ _ _ _))

theorem keeps_execOpenTimeout (conn : Nat) (s : State) (s1 : State) (e : execOpenTimeout conn s = .next s1) :
    Keeps { ses := true, out := true } s s1 := by
  cases e
  refine Keeps.start fun p s0 hp h => ?_
  repeat' (first
    | ((with_reducible refine Parts.le_trans ?_ hp); exact rfl)
    | with_reducible assumption
    | lift_lets
    | with_reducible apply Keeps.via (keeps_openTimeout _ _))

theorem keeps_execOpen (conn : Nat) (tag : W32) (cred : List Byte) (s : State) (s1 : State) (e : execOpen conn tag cred s = .next s1) :
    Keeps { ses := true, evr := true, out := true } s s1 := by
  cases e
  refine Keeps.start fun p s0 hp h => ?_
  repeat' (first
    | ((with_reducible refine Parts.le_trans ?_ hp); exact rfl)
    | with_reducible assumption
    | lift_lets
    | with_reducible apply Keeps.via (keeps_openService _ _ _ _))

theorem keeps_execClose (se : Fin 64) (tag : W32) (s : State) (s1 : State) (e : execClose se tag s = .next s1) :
    Keeps { tsk := true, img := true, lsk := true, pair := true, lease := true, mir := true, links := true, io := true, ses := true, pwr := true, evr := true, lcd := true, mod := true, out := true } s s1 := by
  cases e
  refine Keeps.start fun p s0 hp h => ?_
  repeat' (first
    | ((with_reducible refine Parts.le_trans ?_ hp); exact rfl)
    | with_reducible assumption
    | lift_lets
    | split
    | with_reducible apply Keeps.via (keeps_reply _ _ _ _ _ _)
    | with_reducible apply Keeps.via (keeps_closeSession _ _ _)
    | with_reducible apply Keeps.via (keeps_heard _ _))

theorem keeps_execKeepalive (se : Fin 64) (tag : W32) (s : State) (s1 : State) (e : execKeepalive se tag s = .next s1) :
    Keeps { ses := true, out := true } s s1 := by
  cases e
  refine Keeps.start fun p s0 hp h => ?_
  repeat' (first
    | ((with_reducible refine Parts.le_trans ?_ hp); exact rfl)
    | with_reducible assumption
    | lift_lets
    | split
    | with_reducible apply Keeps.via (keeps_reply _ _ _ _ _ _)
    | with_reducible apply Keeps.via (keeps_heard _ _))

theorem keeps_execSessionIdleTimeout (se : Fin 64) (s : State) (s1 : State) (e : execSessionIdleTimeout se s = .next s1) :
    Keeps { tsk := true, img := true, lsk := true, pair := true, lease := true, mir := true, links := true, io := true, ses := true, pwr := true, evr := true, lcd := true, mod := true, out := true } s s1 := by
  cases e
  refine Keeps.start fun p s0 hp h => ?_
  repeat' (first
    | ((with_reducible refine Parts.le_trans ?_ hp); exact rfl)
    | with_reducible assumption
    | lift_lets
    | split
    | with_reducible apply Keeps.via (keeps_closeSession _ _ _))

theorem keeps_execTlsAlert (se : Fin 64) (s : State) (s1 : State) (e : execTlsAlert se s = .next s1) :
    Keeps { tsk := true, img := true, lsk := true, pair := true, lease := true, mir := true, links := true, io := true, ses := true, pwr := true, evr := true, lcd := true, mod := true, out := true } s s1 := by
  cases e
  refine Keeps.start fun p s0 hp h => ?_
  repeat' (first
    | ((with_reducible refine Parts.le_trans ?_ hp); exact rfl)
    | with_reducible assumption
    | lift_lets
    | with_reducible apply Keeps.via (keeps_closeSession _ _ _))

theorem keeps_execEnrolmentWakeHold (s : State) (s1 : State) (e : execEnrolmentWakeHold s = .next s1) :
    Keeps { ses := true, evr := true, lcd := true } s s1 := by
  cases e
  refine Keeps.start fun p s0 hp h => ?_
  repeat' (first
    | ((with_reducible refine Parts.le_trans ?_ hp); exact rfl)
    | with_reducible assumption
    | lift_lets
    | with_reducible apply Keeps.via (keeps_enrolmentWakeHold _))

theorem keeps_execEnrolmentTimeout (s : State) (s1 : State) (e : execEnrolmentTimeout s = .next s1) :
    Keeps { ses := true, evr := true, lcd := true } s s1 := by
  cases e
  refine Keeps.start fun p s0 hp h => ?_
  repeat' (first
    | ((with_reducible refine Parts.le_trans ?_ hp); exact rfl)
    | with_reducible assumption
    | lift_lets
    | split
    | with_reducible apply Keeps.via (keeps_closeEnrolment _ _))

theorem keeps_execEnrolmentSessionClose (s : State) (s1 : State) (e : execEnrolmentSessionClose s = .next s1) :
    Keeps { tsk := true, img := true, lsk := true, pair := true, lease := true, mir := true, links := true, io := true, ses := true, pwr := true, evr := true, lcd := true, mod := true, out := true } s s1 := by
  cases e
  refine Keeps.start fun p s0 hp h => ?_
  repeat' (first
    | ((with_reducible refine Parts.le_trans ?_ hp); exact rfl)
    | with_reducible assumption
    | lift_lets
    | with_reducible apply Keeps.via (keeps_enrolmentSessionClose _))

theorem keeps_execAcquire (se : Fin 64) (s : State) (s1 : State) (e : execAcquire se s = .next s1) :
    Keeps { lsk := true, pair := true, mir := true, ses := true, evr := true, out := true } s s1 := by
  cases e
  refine Keeps.start fun p s0 hp h => ?_
  repeat' (first
    | ((with_reducible refine Parts.le_trans ?_ hp); exact rfl)
    | with_reducible assumption
    | intro x
    | lift_lets
    | with_reducible apply keeps_sessionCmd
    | with_reducible apply Keeps.via (keeps_acquire _ _))

theorem keeps_execRelease (se : Fin 64) (s : State) (s1 : State) (e : execRelease se s = .next s1) :
    Keeps { img := true, lsk := true, pair := true, mir := true, ses := true, evr := true, lcd := true, out := true } s s1 := by
  cases e
  refine Keeps.start fun p s0 hp h => ?_
  repeat' (first
    | ((with_reducible refine Parts.le_trans ?_ hp); exact rfl)
    | with_reducible assumption
    | intro x
    | lift_lets
    | with_reducible apply keeps_sessionCmd
    | with_reducible apply Keeps.via (keeps_releaseClaim _ _))

theorem keeps_execClaimLapseTimeout (s : State) (s1 : State) (e : execClaimLapseTimeout s = .next s1) :
    Keeps { img := true, ses := true, evr := true, lcd := true, out := true } s s1 := by
  cases e
  refine Keeps.start fun p s0 hp h => ?_
  repeat' (first
    | ((with_reducible refine Parts.le_trans ?_ hp); exact rfl)
    | with_reducible assumption
    | lift_lets
    | split
    | with_reducible apply Keeps.via (keeps_endClaim _ _))

theorem keeps_execSesClose (se : Fin 64) (s : State) (s1 : State) (e : execSesClose se s = .next s1) :
    Keeps { tsk := true, img := true, lsk := true, pair := true, lease := true, mir := true, links := true, io := true, ses := true, pwr := true, evr := true, lcd := true, mod := true, out := true } s s1 := by
  cases e
  refine Keeps.start fun p s0 hp h => ?_
  repeat' (first
    | ((with_reducible refine Parts.le_trans ?_ hp); exact rfl)
    | with_reducible assumption
    | intro x
    | lift_lets
    | with_reducible apply keeps_sessionCmd
    | with_reducible apply Keeps.via (keeps_sesClose _ _))

theorem keeps_execBreakClaim (se : Fin 64) (s : State) (s1 : State) (e : execBreakClaim se s = .next s1) :
    Keeps { img := true, lsk := true, pair := true, mir := true, ses := true, evr := true, lcd := true, out := true } s s1 := by
  cases e
  refine Keeps.start fun p s0 hp h => ?_
  repeat' (first
    | ((with_reducible refine Parts.le_trans ?_ hp); exact rfl)
    | with_reducible assumption
    | intro x
    | lift_lets
    | with_reducible apply keeps_sessionCmd
    | with_reducible apply Keeps.via (keeps_breakClaim _ _))

theorem keeps_execSesViolclr (se : Fin 64) (value : W32) (s : State) (s1 : State) (e : execSesViolclr se value s = .next s1) :
    Keeps { ses := true } s s1 := by
  cases e
  refine Keeps.start fun p s0 hp h => ?_
  repeat' (first
    | ((with_reducible refine Parts.le_trans ?_ hp); exact rfl)
    | with_reducible assumption
    | lift_lets
    | split
    | with_reducible apply Keeps.via (keeps_noteWrite _ _ _)
    | with_reducible apply Keeps.via (keeps_heard _ _)
    | with_reducible apply Keeps.via (keeps_violClr _ _ _))

theorem keeps_execSesMapsync (se : Fin 64) (value : W32) (s : State) (s1 : State) (e : execSesMapsync se value s = .next s1) :
    Keeps { ses := true } s s1 := by
  cases e
  refine Keeps.start fun p s0 hp h => ?_
  repeat' (first
    | ((with_reducible refine Parts.le_trans ?_ hp); exact rfl)
    | with_reducible assumption
    | lift_lets
    | split
    | with_reducible apply Keeps.via (keeps_noteWrite _ _ _)
    | with_reducible apply Keeps.via (keeps_heard _ _)
    | with_reducible apply Keeps.via (keeps_mapsync _ _ _))

theorem keeps_execMapsyncComplete (se : Fin 64) (s : State) (s1 : State) (e : execMapsyncComplete se s = .next s1) :
    Keeps { ses := true } s s1 := by
  cases e
  refine Keeps.start fun p s0 hp h => ?_
  repeat' (first
    | ((with_reducible refine Parts.le_trans ?_ hp); exact rfl)
    | with_reducible assumption
    | lift_lets
    | with_reducible apply Keeps.via (keeps_mapsyncComplete _ _))

theorem keeps_execValeInputReceive (f : InputFrame) (s : State) (s1 : State) (e : execValeInputReceive f s = .next s1) :
    Keeps { lsk := true, pair := true, lease := true, links := true, evr := true, out := true } s s1 := by
  cases e
  refine Keeps.start fun p s0 hp h => ?_
  repeat' (first
    | ((with_reducible refine Parts.le_trans ?_ hp); exact rfl)
    | with_reducible assumption
    | lift_lets
    | with_reducible apply Keeps.via (keeps_valeInputReceive _ _))

theorem keeps_execSampleDue (l : Fin 24) (p : Fin 32) (s : State) (s1 : State) (e : execSampleDue l p s = .next s1) :
    Keeps { tsk := true, lsk := true, pair := true, mir := true, links := true, ses := true, evr := true, out := true } s s1 := by
  cases e
  refine Keeps.start fun p s0 hp h => ?_
  repeat' (first
    | ((with_reducible refine Parts.le_trans ?_ hp); exact rfl)
    | with_reducible assumption
    | lift_lets
    | with_reducible apply Keeps.via (keeps_sampleDue _ _ _))

theorem keeps_execIdentRespReceive (m : IdentResp) (s : State) (s1 : State) (e : execIdentRespReceive m s = .next s1) :
    Keeps { tsk := true, lsk := true, pair := true, lease := true, links := true, ses := true, evr := true, out := true } s s1 := by
  cases e
  refine Keeps.start fun p s0 hp h => ?_
  repeat' (first
    | ((with_reducible refine Parts.le_trans ?_ hp); exact rfl)
    | with_reducible assumption
    | lift_lets
    | with_reducible apply Keeps.via (keeps_identRespReceive _ _))

theorem keeps_execParamAckReceive (l : Fin 24) (p : Fin 32) (epoch : W32) (offset : Nat) (result : Fin 4) (reason : Byte) (s : State) (s1 : State) (e : execParamAckReceive l p epoch offset result reason s = .next s1) :
    Keeps { tsk := true, lsk := true, pair := true, lease := true, links := true, ses := true, evr := true, out := true } s s1 := by
  cases e
  refine Keeps.start fun p s0 hp h => ?_
  repeat' (first
    | ((with_reducible refine Parts.le_trans ?_ hp); exact rfl)
    | with_reducible assumption
    | lift_lets
    | with_reducible apply Keeps.via (keeps_paramAckReceive _ _ _ _ _ _ _))

theorem keeps_execStartAckReceive (l : Fin 24) (p : Fin 32) (epoch : W32) (result : Fin 4) (s : State) (s1 : State) (e : execStartAckReceive l p epoch result s = .next s1) :
    Keeps { tsk := true, lsk := true, pair := true, lease := true, links := true, ses := true, evr := true, out := true } s s1 := by
  cases e
  refine Keeps.start fun p s0 hp h => ?_
  repeat' (first
    | ((with_reducible refine Parts.le_trans ?_ hp); exact rfl)
    | with_reducible assumption
    | lift_lets
    | with_reducible apply Keeps.via (keeps_startAckReceive _ _ _ _ _))

theorem keeps_execStationStatusReceive (m : StationStatus) (s : State) (s1 : State) (e : execStationStatusReceive m s = .next s1) :
    Keeps { lease := true, mir := true, links := true } s s1 := by
  cases e
  refine Keeps.start fun p s0 hp h => ?_
  repeat' (first
    | ((with_reducible refine Parts.le_trans ?_ hp); exact rfl)
    | with_reducible assumption
    | lift_lets
    | with_reducible apply Keeps.via (keeps_stationStatusReceive _ _))

theorem keeps_execStationReplyTimeout (l : Fin 24) (p : Fin 32) (s : State) (s1 : State) (e : execStationReplyTimeout l p s = .next s1) :
    Keeps { tsk := true, lsk := true, pair := true, links := true, ses := true, evr := true, out := true } s s1 := by
  cases e
  refine Keeps.start fun p s0 hp h => ?_
  repeat' (first
    | ((with_reducible refine Parts.le_trans ?_ hp); exact rfl)
    | with_reducible assumption
    | lift_lets
    | with_reducible apply Keeps.via (keeps_stationReplyTimeout _ _ _))

theorem keeps_execStationSearchPoll (l : Fin 24) (s : State) (s1 : State) (e : execStationSearchPoll l s = .next s1) :
    Keeps { lsk := true, links := true, out := true } s s1 := by
  cases e
  refine Keeps.start fun p s0 hp h => ?_
  repeat' (first
    | ((with_reducible refine Parts.le_trans ?_ hp); exact rfl)
    | with_reducible assumption
    | lift_lets
    | with_reducible apply Keeps.via (keeps_stationSearchPoll _ _))

theorem keeps_execStationRefusedRetry (l : Fin 24) (p : Fin 32) (s : State) (s1 : State) (e : execStationRefusedRetry l p s = .next s1) :
    Keeps { lsk := true, links := true, out := true } s s1 := by
  cases e
  refine Keeps.start fun p s0 hp h => ?_
  repeat' (first
    | ((with_reducible refine Parts.le_trans ?_ hp); exact rfl)
    | with_reducible assumption
    | lift_lets
    | with_reducible apply Keeps.via (keeps_stationRefusedRetry _ _ _))

theorem keeps_execValePortUp (l : Fin 24) (s : State) (s1 : State) (e : execValePortUp l s = .next s1) :
    Keeps { lsk := true, lease := true, links := true, evr := true, out := true } s s1 := by
  cases e
  refine Keeps.start fun p s0 hp h => ?_
  repeat' (first
    | ((with_reducible refine Parts.le_trans ?_ hp); exact rfl)
    | with_reducible assumption
    | lift_lets
    | with_reducible apply Keeps.via (keeps_valePortUp _ _))

theorem keeps_execValePortDown (l : Fin 24) (s : State) (s1 : State) (e : execValePortDown l s = .next s1) :
    Keeps { links := true, evr := true } s s1 := by
  cases e
  refine Keeps.start fun p s0 hp h => ?_
  repeat' (first
    | ((with_reducible refine Parts.le_trans ?_ hp); exact rfl)
    | with_reducible assumption
    | lift_lets
    | with_reducible apply Keeps.via (keeps_valePortDown _ _))

theorem keeps_execPartnerFrameReceive (m : PartnerFrame) (s : State) (s1 : State) (e : execPartnerFrameReceive m s = .next s1) :
    Keeps { links := true, evr := true } s s1 := by
  cases e
  refine Keeps.start fun p s0 hp h => ?_
  repeat' (first
    | ((with_reducible refine Parts.le_trans ?_ hp); exact rfl)
    | with_reducible assumption
    | lift_lets
    | with_reducible apply Keeps.via (keeps_partnerFrameReceive _ _))

theorem keeps_execRingOpenTimeout (l : Fin 24) (s : State) (s1 : State) (e : execRingOpenTimeout l s = .next s1) :
    Keeps { links := true, evr := true } s s1 := by
  cases e
  refine Keeps.start fun p s0 hp h => ?_
  repeat' (first
    | ((with_reducible refine Parts.le_trans ?_ hp); exact rfl)
    | with_reducible assumption
    | lift_lets
    | with_reducible apply Keeps.via (keeps_ringOpenTimeout _ _))

theorem keeps_execPdelayMeasurement (l : Fin 24) (s : State) (s1 : State) (e : execPdelayMeasurement l s = .next s1) :
    Keeps { lsk := true, links := true, out := true } s s1 := by
  cases e
  refine Keeps.start fun p s0 hp h => ?_
  repeat' (first
    | ((with_reducible refine Parts.le_trans ?_ hp); exact rfl)
    | with_reducible assumption
    | lift_lets
    | with_reducible apply Keeps.via (keeps_pdelayMeasurement _ _))

theorem keeps_execPdelayRespReceive (l : Fin 24) (epoch : W32) (t4 turn : Nat) (s : State) (s1 : State) (e : execPdelayRespReceive l epoch t4 turn s = .next s1) :
    Keeps { lease := true, links := true } s s1 := by
  cases e
  refine Keeps.start fun p s0 hp h => ?_
  repeat' (first
    | ((with_reducible refine Parts.le_trans ?_ hp); exact rfl)
    | with_reducible assumption
    | lift_lets
    | with_reducible apply Keeps.via (keeps_pdelayRespReceive _ _ _ _ _))

theorem keeps_execPdelayReqReceive (l : Fin 24) (epoch : W32) (t2 : Nat) (s : State) (s1 : State) (e : execPdelayReqReceive l epoch t2 s = .next s1) :
    Keeps { lsk := true, lease := true, links := true, out := true } s s1 := by
  cases e
  refine Keeps.start fun p s0 hp h => ?_
  repeat' (first
    | ((with_reducible refine Parts.le_trans ?_ hp); exact rfl)
    | with_reducible assumption
    | lift_lets
    | with_reducible apply Keeps.via (keeps_valeSend _ _ _ _ _ _ _)
    | with_reducible apply Keeps.via (keeps_seeEpoch _ _ _)
    | with_reducible apply Keeps.via (keeps_heardReply _ _ _))

theorem keeps_execValeTimeSend (s : State) (s1 : State) (e : execValeTimeSend s = .next s1) :
    Keeps { tb := true, lsk := true, links := true, out := true } s s1 := by
  cases e
  refine Keeps.start fun p s0 hp h => ?_
  repeat' (first
    | ((with_reducible refine Parts.le_trans ?_ hp); exact rfl)
    | with_reducible assumption
    | lift_lets
    | with_reducible apply Keeps.via (keeps_valeTimeSend _))

theorem keeps_execEventOutputRepeat (s : State) (s1 : State) (e : execEventOutputRepeat s = .next s1) :
    Keeps { tsk := true, lsk := true, links := true, out := true } s s1 := by
  cases e
  refine Keeps.start fun p s0 hp h => ?_
  repeat' (first
    | ((with_reducible refine Parts.le_trans ?_ hp); exact rfl)
    | with_reducible assumption
    | lift_lets
    | with_reducible apply Keeps.via (keeps_eventOutputRepeat _))

theorem keeps_execLnkRestart (se : Fin 64) (p : Fin 32) (s : State) (s1 : State) (e : execLnkRestart se p s = .next s1) :
    Keeps { tsk := true, lsk := true, pair := true, mir := true, links := true, ses := true, evr := true, out := true } s s1 := by
  cases e
  refine Keeps.start fun p s0 hp h => ?_
  repeat' (first
    | ((with_reducible refine Parts.le_trans ?_ hp); exact rfl)
    | with_reducible assumption
    | intro x
    | lift_lets
    | with_reducible apply keeps_sessionCmd
    | with_reducible apply Keeps.via (keeps_restartStation _ _ _))

theorem keeps_execLnkRestartLink (se : Fin 64) (s : State) (s1 : State) (e : execLnkRestartLink se s = .next s1) :
    Keeps { tsk := true, lsk := true, pair := true, mir := true, links := true, ses := true, evr := true, out := true } s s1 := by
  cases e
  refine Keeps.start fun p s0 hp h => ?_
  repeat' (first
    | ((with_reducible refine Parts.le_trans ?_ hp); exact rfl)
    | with_reducible assumption
    | intro x
    | lift_lets
    | with_reducible apply keeps_sessionCmd
    | with_reducible apply Keeps.via (keeps_restartLink _ _))

theorem keeps_execLnkRetry (se : Fin 64) (p : Fin 32) (s : State) (s1 : State) (e : execLnkRetry se p s = .next s1) :
    Keeps { lsk := true, pair := true, mir := true, links := true, ses := true, evr := true, out := true } s s1 := by
  cases e
  refine Keeps.start fun p s0 hp h => ?_
  repeat' (first
    | ((with_reducible refine Parts.le_trans ?_ hp); exact rfl)
    | with_reducible assumption
    | intro x
    | lift_lets
    | with_reducible apply keeps_sessionCmd
    | with_reducible apply Keeps.via (keeps_retryStation _ _ _))

theorem keeps_execBootComplete (fwOk fwOtherOk : Bool) (selfTest : Option (Lane × Fin 4 × W32)) (slot : Bool) (s : State) (s1 : State) (e : execBootComplete fwOk fwOtherOk selfTest slot s = .next s1) :
    Keeps { cells := true, store := true, tb := true, tbAcc := true, tbLat := true, tsk := true, img := true, frc := true, laneA := true, laneB := true, lsk := true, pair := true, lease := true, mir := true, links := true, io := true, can := true, ses := true, pwr := true, tel := true, evr := true, lcd := true, mod := true, out := true } s s1 := by
  cases e
  refine Keeps.start fun p s0 hp h => ?_
  repeat' (first
    | ((with_reducible refine Parts.le_trans ?_ hp); exact rfl)
    | with_reducible assumption
    | lift_lets
    | with_reducible apply Keeps.via (keeps_bootComplete _ _ _ _ _))

theorem keeps_execConfigPartnerListen (partner : Option PartnerInfo) (s : State) (s1 : State) (e : execConfigPartnerListen partner s = .next s1) :
    Keeps { cells := true, store := true, tb := true, tbAcc := true, tsk := true, img := true, keys := true, laneA := true, laneB := true, lsk := true, pair := true, links := true, io := true, can := true, ses := true, tel := true, evr := true, lcd := true, mod := true, out := true } s s1 := by
  cases e
  refine Keeps.start fun p s0 hp h => ?_
  repeat' (first
    | ((with_reducible refine Parts.le_trans ?_ hp); exact rfl)
    | with_reducible assumption
    | lift_lets
    | with_reducible apply Keeps.via (keeps_configPartnerListen _ _))

theorem keeps_execImageFetchComplete (data : List Byte) (s : State) (s1 : State) (e : execImageFetchComplete data s = .next s1) :
    Keeps { cells := true, store := true, tb := true, tbAcc := true, tsk := true, img := true, laneA := true, laneB := true, lsk := true, links := true, io := true, can := true, ses := true, tel := true, evr := true, lcd := true, mod := true, out := true } s s1 := by
  cases e
  refine Keeps.start fun p s0 hp h => ?_
  repeat' (first
    | ((with_reducible refine Parts.le_trans ?_ hp); exact rfl)
    | with_reducible assumption
    | lift_lets
    | with_reducible apply Keeps.via (keeps_imageFetchComplete _ _))

theorem keeps_execConfigComplete (s : State) (s1 : State) (e : execConfigComplete s = .next s1) :
    Keeps { io := true, ses := true, evr := true, lcd := true, mod := true } s s1 := by
  cases e
  refine Keeps.start fun p s0 hp h => ?_
  repeat' (first
    | ((with_reducible refine Parts.le_trans ?_ hp); exact rfl)
    | with_reducible assumption
    | lift_lets
    | with_reducible apply Keeps.via (keeps_configComplete _))

theorem keeps_execJoinDecision (partner : Option PartnerInfo) (s : State) (s1 : State) (e : execJoinDecision partner s = .next s1) :
    Keeps { store := true, tb := true, tbAcc := true, tsk := true, img := true, frc := true, lsk := true, pair := true, lease := true, mir := true, links := true, io := true, can := true, ses := true, pwr := true, tel := true, evr := true, lcd := true, mod := true, out := true } s s1 := by
  cases e
  refine Keeps.start fun p s0 hp h => ?_
  repeat' (first
    | ((with_reducible refine Parts.le_trans ?_ hp); exact rfl)
    | with_reducible assumption
    | lift_lets
    | with_reducible apply Keeps.via (keeps_joinDecision _ _))

theorem keeps_execJoinWaitTimeout (s : State) (s1 : State) (e : execJoinWaitTimeout s = .next s1) :
    Keeps { store := true, tb := true, tbAcc := true, tsk := true, frc := true, lsk := true, lease := true, mir := true, links := true, io := true, can := true, ses := true, tel := true, evr := true, lcd := true, mod := true, out := true } s s1 := by
  cases e
  refine Keeps.start fun p s0 hp h => ?_
  repeat' (first
    | ((with_reducible refine Parts.le_trans ?_ hp); exact rfl)
    | with_reducible assumption
    | lift_lets
    | with_reducible apply Keeps.via (keeps_joinWaitTimeout _))

theorem keeps_execFullMirrorComplete (granules : List (Nat × Granule)) (forces : List (Fin 4096 × BitVec 6 × W64 × W64)) (join : Nat) (s : State) (s1 : State) (e : execFullMirrorComplete granules forces join s = .next s1) :
    Keeps { cells := true, tsk := true, frc := true, lsk := true, pair := true, mir := true, mod := true, out := true } s s1 := by
  cases e
  refine Keeps.start fun p s0 hp h => ?_
  repeat' (first
    | ((with_reducible refine Parts.le_trans ?_ hp); exact rfl)
    | with_reducible assumption
    | lift_lets
    | with_reducible apply Keeps.via (keeps_fullMirrorComplete _ _ _ _))

theorem keeps_execJoinInstant (s : State) (s1 : State) (e : execJoinInstant s = .next s1) :
    Keeps { store := true, tb := true, tbAcc := true, tsk := true, frc := true, lsk := true, pair := true, lease := true, mir := true, links := true, io := true, can := true, ses := true, tel := true, evr := true, lcd := true, mod := true, out := true } s s1 := by
  cases e
  refine Keeps.start fun p s0 hp h => ?_
  repeat' (first
    | ((with_reducible refine Parts.le_trans ?_ hp); exact rfl)
    | with_reducible assumption
    | lift_lets
    | with_reducible apply Keeps.via (keeps_joinInstant _))

theorem keeps_execIdleImageFetchComplete (data : List Byte) (arm : Bool) (s : State) (s1 : State) (e : execIdleImageFetchComplete data arm s = .next s1) :
    Keeps { img := true, ses := true, evr := true, lcd := true, mod := true } s s1 := by
  cases e
  refine Keeps.start fun p s0 hp h => ?_
  repeat' (first
    | ((with_reducible refine Parts.le_trans ?_ hp); exact rfl)
    | with_reducible assumption
    | lift_lets
    | with_reducible apply Keeps.via (keeps_idleImageFetchComplete _ _ _))

theorem keeps_execFirmwareChunk (se : Fin 64) (tag : W32) (offset : Nat) (data : List Byte) (last : Bool) (s : State) (s1 : State) (e : execFirmwareChunk se tag offset data last s = .next s1) :
    Keeps { ses := true, mod := true, out := true } s s1 := by
  cases e
  refine Keeps.start fun p s0 hp h => ?_
  repeat' (first
    | ((with_reducible refine Parts.le_trans ?_ hp); exact rfl)
    | with_reducible assumption
    | (intro x; refine_lift have hx : Keeps p s0 x := ?_; ?_; on_goal 2 => unfold x; on_goal 1 => clear_value x)
    | lift_lets
    | split
    | with_reducible apply Keeps.of_snd (by assumption)
    | with_reducible apply Keeps.via (keeps_onSess _ _ _)
    | with_reducible apply Keeps.via (keeps_reply _ _ _ _ _ _)
    | with_reducible apply Keeps.via (keeps_firmwareChunk _ _ _ _ _))

theorem keeps_execFirmwareVerifyComplete (version : BitVec 16) (pairMin pairMax : BitVec 4) (valid : Bool) (s : State) (s1 : State) (e : execFirmwareVerifyComplete version pairMin pairMax valid s = .next s1) :
    Keeps { mod := true } s s1 := by
  cases e
  refine Keeps.start fun p s0 hp h => ?_
  repeat' (first
    | ((with_reducible refine Parts.le_trans ?_ hp); exact rfl)
    | with_reducible assumption
    | lift_lets
    | with_reducible apply Keeps.via (keeps_firmwareVerifyComplete _ _ _ _ _))

theorem keeps_execDebugCredential (cred : List Byte) (probeKey : W256) (s : State) (s1 : State) (e : execDebugCredential cred probeKey s = .next s1) :
    Keeps { ses := true, evr := true, out := true } s s1 := by
  cases e
  refine Keeps.start fun p s0 hp h => ?_
  repeat' (first
    | ((with_reducible refine Parts.le_trans ?_ hp); exact rfl)
    | with_reducible assumption
    | lift_lets
    | with_reducible apply Keeps.via (keeps_debugCredential _ _ _))

theorem keeps_execDebugCredentialLapse (s : State) (s1 : State) (e : execDebugCredentialLapse s = .next s1) :
    Keeps { ses := true } s s1 := by
  cases e
  refine Keeps.start fun p s0 hp h => ?_
  repeat' (first
    | with_reducible assumption
    | (intro x; clear_value x)
    | lift_lets
    | split
    | fail_if_no_progress ((with_reducible apply Keeps.upd hp) <;> [skip; (with_reducible rfl); (with_reducible rfl)]))

theorem keeps_execDebugRead (target : DebugTarget) (chk : MemCheck) (s : State) (s1 : State) (e : execDebugRead target chk s = .next s1) :
    Keeps { store := true, tsk := true, img := true, lsk := true, pair := true, lease := true, mir := true, links := true, io := true, can := true, ses := true, pwr := true, tel := true, evr := true, lcd := true, mod := true, out := true, free := true } s s1 := by
  cases e
  refine Keeps.start fun p s0 hp h => ?_
  repeat' (first
    | ((with_reducible refine Parts.le_trans ?_ hp); exact rfl)
    | with_reducible assumption
    | lift_lets
    | with_reducible apply Keeps.via (keeps_debugRead _ _ _))

theorem keeps_execDebugWrite (addr : W32) (data : W128) (s : State) (s1 : State) (e : execDebugWrite addr data s = .next s1) :
    Keeps { cells := true, tsk := true, ses := true, evr := true } s s1 := by
  cases e
  refine Keeps.start fun p s0 hp h => ?_
  repeat' (first
    | ((with_reducible refine Parts.le_trans ?_ hp); exact rfl)
    | with_reducible assumption
    | lift_lets
    | with_reducible apply Keeps.via (keeps_debugWrite _ _ _))

theorem keeps_execDebugStep (s : State) (s1 : State) (e : execDebugStep s = .next s1) :
    Keeps { tsk := true, laneA := true, laneB := true, out := true, free := true } s s1 := by
  cases e
  refine Keeps.start fun p s0 hp h => ?_
  repeat' (first
    | ((with_reducible refine Parts.le_trans ?_ hp); exact rfl)
    | with_reducible assumption
    | lift_lets
    | split
    | with_reducible apply Keeps.via (keeps_emit _ _)
    | with_reducible apply Keeps.via (keeps_debugStep _))

theorem keeps_execDebugResume (s : State) (s1 : State) (e : execDebugResume s = .next s1) :
    Keeps { lsk := true, evr := true, out := true } s s1 := by
  cases e
  refine Keeps.start fun p s0 hp h => ?_
  repeat' (first
    | ((with_reducible refine Parts.le_trans ?_ hp); exact rfl)
    | with_reducible assumption
    | lift_lets
    | split
    | with_reducible apply Keeps.via (keeps_emit _ _)
    | with_reducible apply Keeps.via (keeps_debugResume _))

theorem keeps_execCommissionOn (se : Fin 64) (s : State) (s1 : State) (e : execCommissionOn se s = .next s1) :
    Keeps { lsk := true, pair := true, mir := true, ses := true, evr := true, out := true } s s1 := by
  cases e
  refine Keeps.start fun p s0 hp h => ?_
  repeat' (first
    | ((with_reducible refine Parts.le_trans ?_ hp); exact rfl)
    | with_reducible assumption
    | intro x
    | lift_lets
    | with_reducible apply keeps_sessionCmd
    | with_reducible apply Keeps.via (keeps_commissionOn _ _))

theorem keeps_execCommissionOff (se : Fin 64) (s : State) (s1 : State) (e : execCommissionOff se s = .next s1) :
    Keeps { lsk := true, pair := true, lease := true, mir := true, ses := true, evr := true, out := true } s s1 := by
  cases e
  refine Keeps.start fun p s0 hp h => ?_
  repeat' (first
    | ((with_reducible refine Parts.le_trans ?_ hp); exact rfl)
    | with_reducible assumption
    | intro x
    | lift_lets
    | with_reducible apply keeps_sessionCmd
    | with_reducible apply Keeps.via (keeps_commissionOff _ _))

theorem keeps_execRecheck (se : Fin 64) (s : State) (s1 : State) (e : execRecheck se s = .next s1) :
    Keeps { tsk := true, lsk := true, pair := true, lease := true, mir := true, ses := true, evr := true, out := true } s s1 := by
  cases e
  refine Keeps.start fun p s0 hp h => ?_
  repeat' (first
    | ((with_reducible refine Parts.le_trans ?_ hp); exact rfl)
    | with_reducible assumption
    | intro x
    | lift_lets
    | with_reducible apply keeps_sessionCmd
    | with_reducible apply Keeps.via (keeps_recheckCmd _ _))

theorem keeps_execRecheckInstant (s : State) (s1 : State) (e : execRecheckInstant s = .next s1) :
    Keeps { cells := true, tbAcc := true, tbLat := true, tsk := true, frc := true, laneA := true, laneB := true, lsk := true, pair := true, lease := true, mir := true, links := true, io := true, can := true, ses := true, tel := true, evr := true, lcd := true, mod := true, out := true } s s1 := by
  cases e
  refine Keeps.start fun p s0 hp h => ?_
  repeat' (first
    | ((with_reducible refine Parts.le_trans ?_ hp); exact rfl)
    | with_reducible assumption
    | intro x
    | lift_lets
    | with_reducible apply keeps_atInstant
    | with_reducible apply Keeps.via (keeps_recheckGo _ _)
    | with_reducible apply Keeps.via (keeps_recheckEnded _ _))

theorem keeps_execRecheckTimeout (s : State) (s1 : State) (e : execRecheckTimeout s = .next s1) :
    Keeps { cells := true, tbAcc := true, tbLat := true, tsk := true, frc := true, laneA := true, laneB := true, lsk := true, pair := true, mir := true, links := true, io := true, can := true, ses := true, tel := true, evr := true, lcd := true, out := true } s s1 := by
  cases e
  refine Keeps.start fun p s0 hp h => ?_
  repeat' (first
    | ((with_reducible refine Parts.le_trans ?_ hp); exact rfl)
    | with_reducible assumption
    | intro x
    | lift_lets
    | with_reducible apply keeps_searchLate
    | with_reducible apply Keeps.via (keeps_recheckEnded _ _))

theorem keeps_execIdleSweepPass (changedA changedB : Option W128) (s : State) (s1 : State) (e : execIdleSweepPass changedA changedB s = .next s1) :
    Keeps { img := true, lsk := true, evr := true } s s1 := by
  cases e
  refine Keeps.start fun p s0 hp h => ?_
  repeat' (first
    | ((with_reducible refine Parts.le_trans ?_ hp); exact rfl)
    | with_reducible assumption
    | lift_lets
    | with_reducible apply Keeps.via (keeps_idleSweepPass _ _ _))

theorem keeps_execSvcRecorderEntry (core : Fin 8) (code : BitVec 12) (sev : BitVec 2) (data : BitVec 112) (s : State) (s1 : State) (e : execSvcRecorderEntry core code sev data s = .next s1) :
    Keeps { laneA := true, laneB := true, lsk := true, evr := true, out := true } s s1 := by
  cases e
  refine Keeps.start fun p s0 hp h => ?_
  repeat' (first
    | ((with_reducible refine Parts.le_trans ?_ hp); exact rfl)
    | with_reducible assumption
    | lift_lets
    | with_reducible apply Keeps.via (keeps_svcRecorderEntry _ _ _ _ _))

theorem keeps_execSaddleLinkUp (l : Fin 2) (s : State) (s1 : State) (e : execSaddleLinkUp l s = .next s1) :
    Keeps { frc := true, lsk := true, pair := true, lease := true, mir := true, evr := true, out := true, flight := true } s s1 := by
  cases e
  refine Keeps.start fun p s0 hp h => ?_
  repeat' (first
    | ((with_reducible refine Parts.le_trans ?_ hp); exact rfl)
    | with_reducible assumption
    | lift_lets
    | with_reducible apply Keeps.via (keeps_saddleLinkUp _ _))

theorem keeps_execSaddleLinkDown (l : Fin 2) (inFlight : Nat) (s : State) (s1 : State) (e : execSaddleLinkDown l inFlight s = .next s1) :
    Keeps { lsk := true, pair := true, evr := true, out := true, flight := true } s s1 := by
  cases e
  refine Keeps.start fun p s0 hp h => ?_
  repeat' (first
    | ((with_reducible refine Parts.le_trans ?_ hp); exact rfl)
    | with_reducible assumption
    | lift_lets
    | with_reducible apply Keeps.via (keeps_linkDown _ _ _))

theorem keeps_execSaddleSilenceTimeout (l : Fin 2) (inFlight : Nat) (s : State) (s1 : State) (e : execSaddleSilenceTimeout l inFlight s = .next s1) :
    Keeps { cells := true, store := true, tb := true, tbAcc := true, tbLat := true, tsk := true, img := true, frc := true, laneA := true, laneB := true, lsk := true, pair := true, lease := true, mir := true, links := true, io := true, can := true, ses := true, pwr := true, tel := true, evr := true, lcd := true, mod := true, out := true, flight := true, free := true } s s1 := by
  cases e
  refine Keeps.start fun p s0 hp h => ?_
  repeat' (first
    | ((with_reducible refine Parts.le_trans ?_ hp); exact rfl)
    | with_reducible assumption
    | lift_lets
    | with_reducible apply Keeps.via (keeps_saddleSilenceTimeout _ _ _))

theorem keeps_execPartnerPresenceChange (present : Bool) (s : State) (s1 : State) (e : execPartnerPresenceChange present s = .next s1) :
    Keeps { cells := true, store := true, tb := true, tbAcc := true, tbLat := true, tsk := true, img := true, frc := true, laneA := true, laneB := true, lsk := true, pair := true, lease := true, mir := true, links := true, io := true, can := true, ses := true, pwr := true, tel := true, evr := true, lcd := true, mod := true, out := true, flight := true, free := true } s s1 := by
  cases e
  refine Keeps.start fun p s0 hp h => ?_
  repeat' (first
    | ((with_reducible refine Parts.le_trans ?_ hp); exact rfl)
    | with_reducible assumption
    | (intro x; refine_lift have hx : Keeps p s0 x := ?_; ?_; on_goal 2 => unfold x; on_goal 1 => clear_value x)
    | (intro x; clear_value x)
    | lift_lets
    | split
    | with_reducible apply Keeps.via (keeps_partnerLost _)
    | fail_if_no_progress ((with_reducible apply Keeps.upd hp) <;> [skip; (with_reducible rfl); (with_reducible rfl)]))

theorem keeps_execLeaseRenewalRound (chk : MemCheck) (s : State) (s1 : State) (e : execLeaseRenewalRound chk s = .next s1) :
    Keeps { store := true, tsk := true, img := true, lsk := true, pair := true, lease := true, mir := true, links := true, io := true, can := true, ses := true, pwr := true, tel := true, evr := true, lcd := true, mod := true, out := true, free := true } s s1 := by
  cases e
  refine Keeps.start fun p s0 hp h => ?_
  repeat' (first
    | ((with_reducible refine Parts.le_trans ?_ hp); exact rfl)
    | with_reducible assumption
    | intro x
    | lift_lets
    | with_reducible apply keeps_afterCheck
    | with_reducible apply Keeps.via (keeps_leaseRenewalRound _))

theorem keeps_execWitnessAckReceive (m : WitnessMsg) (s : State) (s1 : State) (e : execWitnessAckReceive m s = .next s1) :
    Keeps { lease := true, links := true } s s1 := by
  cases e
  refine Keeps.start fun p s0 hp h => ?_
  repeat' (first
    | ((with_reducible refine Parts.le_trans ?_ hp); exact rfl)
    | with_reducible assumption
    | lift_lets
    | with_reducible apply Keeps.via (keeps_witnessAckReceive _ _))

theorem keeps_execLeaseEnd (s : State) (s1 : State) (e : execLeaseEnd s = .next s1) :
    Keeps { cells := true, store := true, tb := true, tbAcc := true, tbLat := true, tsk := true, img := true, frc := true, laneA := true, laneB := true, lsk := true, pair := true, lease := true, mir := true, links := true, io := true, can := true, ses := true, pwr := true, tel := true, evr := true, lcd := true, mod := true, out := true, free := true } s s1 := by
  cases e
  refine Keeps.start fun p s0 hp h => ?_
  repeat' (first
    | ((with_reducible refine Parts.le_trans ?_ hp); exact rfl)
    | with_reducible assumption
    | lift_lets
    | split
    | with_reducible apply Keeps.via (keeps_leaseLapses _))

theorem keeps_execStandbyLeaseExpiry (s : State) (s1 : State) (e : execStandbyLeaseExpiry s = .next s1) :
    Keeps { lease := true } s s1 := by
  cases e
  refine Keeps.start fun p s0 hp h => ?_
  repeat' (first
    | ((with_reducible refine Parts.le_trans ?_ hp); exact rfl)
    | with_reducible assumption
    | lift_lets
    | with_reducible apply Keeps.via (keeps_standbyLeaseExpiry _))

theorem keeps_execClaimRound (s : State) (s1 : State) (e : execClaimRound s = .next s1) :
    Keeps { cells := true, store := true, tb := true, tbAcc := true, tbLat := true, tsk := true, img := true, frc := true, laneA := true, laneB := true, lsk := true, pair := true, lease := true, mir := true, links := true, io := true, can := true, ses := true, tel := true, evr := true, lcd := true, mod := true, out := true } s s1 := by
  cases e
  refine Keeps.start fun p s0 hp h => ?_
  repeat' (first
    | ((with_reducible refine Parts.le_trans ?_ hp); exact rfl)
    | with_reducible assumption
    | lift_lets
    | with_reducible apply Keeps.via (keeps_claimRound _))

theorem keeps_execGrantReceive (m : WitnessMsg) (chk : MemCheck) (s : State) (s1 : State) (e : execGrantReceive m chk s = .next s1) :
    Keeps { cells := true, store := true, tb := true, tbAcc := true, tbLat := true, tsk := true, img := true, frc := true, laneA := true, laneB := true, lsk := true, pair := true, lease := true, mir := true, links := true, io := true, can := true, ses := true, pwr := true, tel := true, evr := true, lcd := true, mod := true, out := true, free := true } s s1 := by
  cases e
  refine Keeps.start fun p s0 hp h => ?_
  repeat' (first
    | ((with_reducible refine Parts.le_trans ?_ hp); exact rfl)
    | with_reducible assumption
    | intro x
    | lift_lets
    | with_reducible apply keeps_afterCheck
    | with_reducible apply Keeps.via (keeps_grantReceive _ _))

theorem keeps_execDenyReceive (m : WitnessMsg) (s : State) (s1 : State) (e : execDenyReceive m s = .next s1) :
    Keeps { lease := true, mir := true, links := true, evr := true } s s1 := by
  cases e
  refine Keeps.start fun p s0 hp h => ?_
  repeat' (first
    | ((with_reducible refine Parts.le_trans ?_ hp); exact rfl)
    | with_reducible assumption
    | lift_lets
    | with_reducible apply Keeps.via (keeps_denyReceive _ _))

theorem keeps_execSwap (se : Fin 64) (s : State) (s1 : State) (e : execSwap se s = .next s1) :
    Keeps { tsk := true, lsk := true, pair := true, lease := true, mir := true, ses := true, evr := true, out := true } s s1 := by
  cases e
  refine Keeps.start fun p s0 hp h => ?_
  repeat' (first
    | ((with_reducible refine Parts.le_trans ?_ hp); exact rfl)
    | with_reducible assumption
    | intro x
    | lift_lets
    | with_reducible apply keeps_sessionCmd
    | with_reducible apply Keeps.via (keeps_swapCmd _ _))

theorem keeps_execRoleSwapDue (s : State) (s1 : State) (e : execRoleSwapDue s = .next s1) :
    Keeps { tsk := true, lsk := true, pair := true, lease := true, evr := true, out := true } s s1 := by
  cases e
  refine Keeps.start fun p s0 hp h => ?_
  repeat' (first
    | ((with_reducible refine Parts.le_trans ?_ hp); exact rfl)
    | with_reducible assumption
    | lift_lets
    | with_reducible apply Keeps.via (keeps_roleSwapDue _))

theorem keeps_execSwapInstant (s : State) (s1 : State) (e : execSwapInstant s = .next s1) :
    Keeps { cells := true, tbAcc := true, tbLat := true, tsk := true, frc := true, laneA := true, laneB := true, lsk := true, pair := true, lease := true, mir := true, links := true, io := true, can := true, ses := true, tel := true, evr := true, lcd := true, mod := true, out := true, flight := true } s s1 := by
  cases e
  refine Keeps.start fun p s0 hp h => ?_
  repeat' (first
    | ((with_reducible refine Parts.le_trans ?_ hp); exact rfl)
    | with_reducible assumption
    | intro x
    | lift_lets
    | with_reducible apply keeps_atInstant
    | with_reducible apply Keeps.via (keeps_swapEnded _ _)
    | with_reducible apply Keeps.via (keeps_swapGo _ _))

theorem keeps_execSwapReclaimTimeout (s : State) (s1 : State) (e : execSwapReclaimTimeout s = .next s1) :
    Keeps { cells := true, tbAcc := true, tbLat := true, tsk := true, frc := true, laneA := true, laneB := true, lsk := true, pair := true, lease := true, mir := true, links := true, io := true, can := true, ses := true, tel := true, evr := true, lcd := true, mod := true, out := true } s s1 := by
  cases e
  refine Keeps.start fun p s0 hp h => ?_
  repeat' (first
    | ((with_reducible refine Parts.le_trans ?_ hp); exact rfl)
    | with_reducible assumption
    | lift_lets
    | with_reducible apply Keeps.via (keeps_swapReclaimTimeout _))

theorem keeps_execResync (se : Fin 64) (s : State) (s1 : State) (e : execResync se s = .next s1) :
    Keeps { frc := true, lsk := true, pair := true, lease := true, mir := true, ses := true, evr := true, out := true, flight := true } s s1 := by
  cases e
  refine Keeps.start fun p s0 hp h => ?_
  repeat' (first
    | ((with_reducible refine Parts.le_trans ?_ hp); exact rfl)
    | with_reducible assumption
    | intro x
    | lift_lets
    | with_reducible apply keeps_sessionCmd
    | with_reducible apply Keeps.via (keeps_resyncCmd _ _ _))

theorem keeps_execResyncComplete (granules : List (Nat × Granule)) (forces : List (Fin 4096 × BitVec 6 × W64 × W64)) (s : State) (s1 : State) (e : execResyncComplete granules forces s = .next s1) :
    Keeps { cells := true, tsk := true, frc := true, lsk := true, pair := true, lease := true, ses := true, evr := true, out := true } s s1 := by
  cases e
  refine Keeps.start fun p s0 hp h => ?_
  repeat' (first
    | ((with_reducible refine Parts.le_trans ?_ hp); exact rfl)
    | with_reducible assumption
    | lift_lets
    | with_reducible apply Keeps.via (keeps_resyncComplete _ _ _))

theorem keeps_execSwitchVerdictTimeout (s : State) (s1 : State) (e : execSwitchVerdictTimeout s = .next s1) :
    Keeps { cells := true, tbAcc := true, tbLat := true, tsk := true, img := true, frc := true, laneA := true, laneB := true, lsk := true, pair := true, lease := true, mir := true, links := true, io := true, can := true, ses := true, tel := true, evr := true, lcd := true, mod := true, out := true } s s1 := by
  cases e
  refine Keeps.start fun p s0 hp h => ?_
  repeat' (first
    | ((with_reducible refine Parts.le_trans ?_ hp); exact rfl)
    | with_reducible assumption
    | intro x
    | lift_lets
    | with_reducible apply keeps_verdictLate
    | with_reducible apply Keeps.via (keeps_changeEnded _ _)
    | with_reducible apply Keeps.via (keeps_swapEnded _ _))

theorem keeps_execDebugHalt (lane : Lane) (relinquish : Bool) (s : State) (s1 : State) (e : execDebugHalt lane relinquish s = .next s1) :
    Keeps { cells := true, store := true, tsk := true, img := true, laneA := true, laneB := true, lsk := true, pair := true, lease := true, mir := true, links := true, io := true, can := true, ses := true, pwr := true, tel := true, evr := true, lcd := true, mod := true, out := true, free := true } s s1 := by
  cases e
  refine Keeps.start fun p s0 hp h => ?_
  repeat' (first
    | ((with_reducible refine Parts.le_trans ?_ hp); exact rfl)
    | with_reducible assumption
    | lift_lets
    | with_reducible apply Keeps.via (keeps_debugHalt _ _ _))

theorem keeps_execRestartWarm (se : Fin 64) (s : State) (s1 : State) (e : execRestartWarm se s = .next s1) :
    Keeps { cells := true, store := true, tb := true, tbAcc := true, tbLat := true, tsk := true, img := true, frc := true, laneA := true, laneB := true, lsk := true, pair := true, lease := true, mir := true, links := true, io := true, can := true, ses := true, pwr := true, tel := true, evr := true, lcd := true, mod := true, out := true } s s1 := by
  cases e
  refine Keeps.start fun p s0 hp h => ?_
  repeat' (first
    | ((with_reducible refine Parts.le_trans ?_ hp); exact rfl)
    | with_reducible assumption
    | intro x
    | lift_lets
    | with_reducible apply keeps_sessionCmd
    | with_reducible apply Keeps.via (keeps_modCmd _ _ _))

theorem keeps_execRestartCold (se : Fin 64) (s : State) (s1 : State) (e : execRestartCold se s = .next s1) :
    Keeps { cells := true, store := true, tb := true, tbAcc := true, tbLat := true, tsk := true, img := true, frc := true, laneA := true, laneB := true, lsk := true, pair := true, lease := true, mir := true, links := true, io := true, can := true, ses := true, pwr := true, tel := true, evr := true, lcd := true, mod := true, out := true } s s1 := by
  cases e
  refine Keeps.start fun p s0 hp h => ?_
  repeat' (first
    | ((with_reducible refine Parts.le_trans ?_ hp); exact rfl)
    | with_reducible assumption
    | intro x
    | lift_lets
    | with_reducible apply keeps_sessionCmd
    | with_reducible apply Keeps.via (keeps_modCmd _ _ _))

theorem keeps_execStop (se : Fin 64) (s : State) (s1 : State) (e : execStop se s = .next s1) :
    Keeps { cells := true, store := true, tb := true, tbAcc := true, tbLat := true, tsk := true, img := true, frc := true, laneA := true, laneB := true, lsk := true, pair := true, lease := true, mir := true, links := true, io := true, can := true, ses := true, pwr := true, tel := true, evr := true, lcd := true, mod := true, out := true } s s1 := by
  cases e
  refine Keeps.start fun p s0 hp h => ?_
  repeat' (first
    | ((with_reducible refine Parts.le_trans ?_ hp); exact rfl)
    | with_reducible assumption
    | intro x
    | lift_lets
    | with_reducible apply keeps_sessionCmd
    | with_reducible apply Keeps.via (keeps_modCmd _ _ _))

theorem keeps_execFwActivate (se : Fin 64) (s : State) (s1 : State) (e : execFwActivate se s = .next s1) :
    Keeps { cells := true, store := true, tb := true, tbAcc := true, tbLat := true, tsk := true, img := true, frc := true, laneA := true, laneB := true, lsk := true, pair := true, lease := true, mir := true, links := true, io := true, can := true, ses := true, pwr := true, tel := true, evr := true, lcd := true, mod := true, out := true } s s1 := by
  cases e
  refine Keeps.start fun p s0 hp h => ?_
  repeat' (first
    | ((with_reducible refine Parts.le_trans ?_ hp); exact rfl)
    | with_reducible assumption
    | intro x
    | lift_lets
    | with_reducible apply keeps_sessionCmd
    | with_reducible apply Keeps.via (keeps_modCmd _ _ _))

theorem keeps_execFwAbort (se : Fin 64) (s : State) (s1 : State) (e : execFwAbort se s = .next s1) :
    Keeps { lsk := true, pair := true, mir := true, ses := true, evr := true, mod := true, out := true } s s1 := by
  cases e
  refine Keeps.start fun p s0 hp h => ?_
  repeat' (first
    | ((with_reducible refine Parts.le_trans ?_ hp); exact rfl)
    | with_reducible assumption
    | intro x
    | lift_lets
    | with_reducible apply keeps_sessionCmd
    | with_reducible apply Keeps.via (keeps_fwAbort _ _))

theorem keeps_execRegisterWrite (se : Fin 64) (off : Nat) (value : W32) (s : State) (s1 : State) (e : execRegisterWrite se off value s = .next s1) :
    Keeps { cells := true, store := true, tb := true, tbAcc := true, tbLat := true, tsk := true, img := true, frc := true, laneA := true, laneB := true, lsk := true, pair := true, lease := true, mir := true, links := true, io := true, can := true, ses := true, pwr := true, tel := true, evr := true, lcd := true, mod := true, out := true, flight := true, free := true } s s1 := by
  cases e
  refine Keeps.start fun p s0 hp h => ?_
  repeat' (first
    | ((with_reducible refine Parts.le_trans ?_ hp); exact rfl)
    | with_reducible assumption
    | lift_lets
    | with_reducible apply Keeps.via (keeps_registerWrite _ _ _ _))

theorem keeps_execChDiag (se : Fin 64) (value : W32) (s : State) (s1 : State) (e : execChDiag se value s = .next s1) :
    Keeps { cells := true, store := true, tb := true, tbAcc := true, tbLat := true, tsk := true, img := true, frc := true, laneA := true, laneB := true, lsk := true, pair := true, lease := true, mir := true, links := true, io := true, can := true, ses := true, pwr := true, tel := true, evr := true, lcd := true, mod := true, out := true, flight := true, free := true } s s1 := by
  cases e
  refine Keeps.start fun p s0 hp h => ?_
  repeat' (first
    | ((with_reducible refine Parts.le_trans ?_ hp); exact rfl)
    | with_reducible assumption
    | lift_lets
    | with_reducible apply Keeps.via (keeps_registerWrite _ _ _ _))

theorem keeps_execRead (se : Fin 64) (tag : W32) (addr len : W32) (chk : MemCheck) (s : State) (s1 : State) (e : execRead se tag addr len chk s = .next s1) :
    Keeps { store := true, tsk := true, img := true, lsk := true, pair := true, lease := true, mir := true, links := true, io := true, can := true, ses := true, pwr := true, tel := true, evr := true, lcd := true, mod := true, out := true, free := true } s s1 := by
  cases e
  refine Keeps.start fun p s0 hp h => ?_
  repeat' (first
    | ((with_reducible refine Parts.le_trans ?_ hp); exact rfl)
    | with_reducible assumption
    | intro x
    | lift_lets
    | with_reducible apply Keeps.via (keeps_reply _ _ _ _ _ _)
    | with_reducible apply keeps_checkedAccess
    | with_reducible apply Keeps.via (keeps_readService _ _ _ _ _ _))

theorem keeps_execWrite (se : Fin 64) (ack : Bool) (tag : W32) (addr : W32) (data : List Byte) (chk : MemCheck) (s : State) (s1 : State) (e : execWrite se ack tag addr data chk s = .next s1) :
    Keeps { cells := true, store := true, tb := true, tbAcc := true, tbLat := true, tsk := true, img := true, frc := true, laneA := true, laneB := true, lsk := true, pair := true, lease := true, mir := true, links := true, io := true, can := true, ses := true, pwr := true, tel := true, evr := true, lcd := true, mod := true, out := true, flight := true, free := true } s s1 := by
  cases e
  refine Keeps.start fun p s0 hp h => ?_
  repeat' (first
    | ((with_reducible refine Parts.le_trans ?_ hp); exact rfl)
    | with_reducible assumption
    | intro x
    | lift_lets
    | split
    | with_reducible apply Keeps.via (keeps_reply _ _ _ _ _ _)
    | with_reducible apply Keeps.via (keeps_countCorrected _ _)
    | with_reducible apply keeps_checkedAccess
    | with_reducible apply Keeps.via (keeps_writeService _ _ _ _ _ _))

theorem keeps_execFence (se : Fin 64) (tag : W32) (s : State) (s1 : State) (e : execFence se tag s = .next s1) :
    Keeps { ses := true, out := true } s s1 := by
  cases e
  refine Keeps.start fun p s0 hp h => ?_
  repeat' (first
    | ((with_reducible refine Parts.le_trans ?_ hp); exact rfl)
    | with_reducible assumption
    | lift_lets
    | with_reducible apply Keeps.via (keeps_fenceService _ _ _))

theorem keeps_execHistoryRead (se : Fin 64) (tag : W32) (buffer : W32) (offset : Nat) (len : W32) (chk : MemCheck) (s : State) (s1 : State) (e : execHistoryRead se tag buffer offset len chk s = .next s1) :
    Keeps { store := true, tsk := true, img := true, lsk := true, pair := true, lease := true, mir := true, links := true, io := true, can := true, ses := true, pwr := true, tel := true, evr := true, lcd := true, mod := true, out := true, free := true } s s1 := by
  cases e
  refine Keeps.start fun p s0 hp h => ?_
  repeat' (first
    | ((with_reducible refine Parts.le_trans ?_ hp); exact rfl)
    | with_reducible assumption
    | lift_lets
    | with_reducible apply Keeps.via (keeps_historyRead _ _ _ _ _ _ _))

theorem keeps_execLoRegisterRead (se : Fin 64) (off : Nat) (s : State) (s1 : State) (e : execLoRegisterRead se off s = .next s1) :
    Keeps { ses := true, free := true } s s1 := by
  cases e
  refine Keeps.start fun p s0 hp h => ?_
  repeat' (first
    | ((with_reducible refine Parts.le_trans ?_ hp); exact rfl)
    | with_reducible assumption
    | lift_lets
    | split
    | with_reducible apply Keeps.via (keeps_registerRead _ _ _))

theorem keeps_execChAiValLoRead (se : Fin 64) (s : State) (s1 : State) (e : execChAiValLoRead se s = .next s1) :
    Keeps { ses := true, free := true } s s1 := by
  cases e
  refine Keeps.start fun p s0 hp h => ?_
  repeat' (first
    | ((with_reducible refine Parts.le_trans ?_ hp); exact rfl)
    | with_reducible assumption
    | lift_lets
    | with_reducible apply Keeps.via (keeps_registerRead _ _ _))

theorem keeps_execChAiUrgvalLoRead (se : Fin 64) (s : State) (s1 : State) (e : execChAiUrgvalLoRead se s = .next s1) :
    Keeps { ses := true, free := true } s s1 := by
  cases e
  refine Keeps.start fun p s0 hp h => ?_
  repeat' (first
    | ((with_reducible refine Parts.le_trans ?_ hp); exact rfl)
    | with_reducible assumption
    | lift_lets
    | with_reducible apply Keeps.via (keeps_registerRead _ _ _))

theorem keeps_execHeartbeatReceive (via : Via) (h : Heartbeat) (s : State) (s1 : State) (e : execHeartbeatReceive via h s = .next s1) :
    Keeps { cells := true, store := true, tb := true, tbAcc := true, tbLat := true, tsk := true, img := true, frc := true, laneA := true, laneB := true, lsk := true, pair := true, lease := true, mir := true, links := true, io := true, can := true, ses := true, pwr := true, tel := true, evr := true, lcd := true, mod := true, out := true, flight := true, free := true } s s1 := by
  cases e
  refine Keeps.start fun p s0 hp h => ?_
  repeat' (first
    | ((with_reducible refine Parts.le_trans ?_ hp); exact rfl)
    | with_reducible assumption
    | lift_lets
    | with_reducible apply Keeps.via (keeps_heartbeatReceive _ _ _))

theorem keeps_execReleaseNoticeReceive (via : Via) (n : Notice) (s : State) (s1 : State) (e : execReleaseNoticeReceive via n s = .next s1) :
    Keeps { cells := true, tbAcc := true, tbLat := true, tsk := true, frc := true, laneA := true, laneB := true, lsk := true, pair := true, lease := true, mir := true, links := true, io := true, can := true, ses := true, tel := true, evr := true, lcd := true, out := true, flight := true } s s1 := by
  cases e
  refine Keeps.start fun p s0 hp h => ?_
  repeat' (first
    | ((with_reducible refine Parts.le_trans ?_ hp); exact rfl)
    | with_reducible assumption
    | intro x
    | lift_lets
    | with_reducible apply Keeps.via (keeps_releaseNoticeReceive _ _)
    | with_reducible apply keeps_bySaddle)

theorem keeps_execPartnerReadingsReceive (via : Via) (t : Fin 128) (cycle : W32) (readings : List (BitVec 16 × W128)) (s : State) (s1 : State) (e : execPartnerReadingsReceive via t cycle readings s = .next s1) :
    Keeps { cells := true, tsk := true, frc := true, laneA := true, laneB := true, lsk := true, pair := true, lease := true, mir := true, evr := true, out := true, flight := true } s s1 := by
  cases e
  refine Keeps.start fun p s0 hp h => ?_
  repeat' (first
    | ((with_reducible refine Parts.le_trans ?_ hp); exact rfl)
    | with_reducible assumption
    | intro x
    | lift_lets
    | with_reducible apply Keeps.via (keeps_partnerReadingsReceive _ _ _ _)
    | with_reducible apply keeps_bySaddle)

theorem keeps_execMirrorApply (via : Via) (msg : MirrorMsg) (s : State) (s1 : State) (e : execMirrorApply via msg s = .next s1) :
    Keeps { cells := true, tsk := true, frc := true, lsk := true, pair := true, lease := true, mir := true, evr := true, out := true, flight := true } s s1 := by
  cases e
  refine Keeps.start fun p s0 hp h => ?_
  repeat' (first
    | ((with_reducible refine Parts.le_trans ?_ hp); exact rfl)
    | with_reducible assumption
    | intro x
    | lift_lets
    | with_reducible apply Keeps.via (keeps_mirrorApply _ _)
    | with_reducible apply keeps_byMirror)

theorem keeps_execStandbyConfirmationReceive (via : Via) (id : Nat) (s : State) (s1 : State) (e : execStandbyConfirmationReceive via id s = .next s1) :
    Keeps { frc := true, lsk := true, pair := true, lease := true, mir := true, ses := true, evr := true, out := true, flight := true } s s1 := by
  cases e
  refine Keeps.start fun p s0 hp h => ?_
  repeat' (first
    | ((with_reducible refine Parts.le_trans ?_ hp); exact rfl)
    | with_reducible assumption
    | intro x
    | lift_lets
    | with_reducible apply keeps_bySaddle
    | with_reducible apply Keeps.via (keeps_standbyConfirmation _ _))

theorem keeps_execHealthReportReceive (via : Via) (report : W32) (s : State) (s1 : State) (e : execHealthReportReceive via report s = .next s1) :
    Keeps { frc := true, lsk := true, pair := true, lease := true, mir := true, evr := true, out := true, flight := true } s s1 := by
  cases e
  refine Keeps.start fun p s0 hp h => ?_
  repeat' (first
    | ((with_reducible refine Parts.le_trans ?_ hp); exact rfl)
    | with_reducible assumption
    | intro x
    | lift_lets
    | with_reducible apply Keeps.via (keeps_healthReportReceive _ _)
    | with_reducible apply keeps_bySaddle)

theorem keeps_execSwitchCandidateReceive (via : Via) (r : Nat) (swap : Bool) (s : State) (s1 : State) (e : execSwitchCandidateReceive via r swap s = .next s1) :
    Keeps { tsk := true, frc := true, lsk := true, pair := true, lease := true, mir := true, evr := true, out := true, flight := true } s s1 := by
  cases e
  refine Keeps.start fun p s0 hp h => ?_
  repeat' (first
    | ((with_reducible refine Parts.le_trans ?_ hp); exact rfl)
    | with_reducible assumption
    | intro x
    | lift_lets
    | split
    | with_reducible apply Keeps.via (keeps_takeCandidate _ _ _)
    | with_reducible apply keeps_bySaddle)

theorem keeps_execSwitchVerdictReceive (via : Via) (ready : Bool) (s : State) (s1 : State) (e : execSwitchVerdictReceive via ready s = .next s1) :
    Keeps { cells := true, tbAcc := true, tbLat := true, tsk := true, img := true, frc := true, laneA := true, laneB := true, lsk := true, pair := true, lease := true, mir := true, links := true, io := true, can := true, ses := true, tel := true, evr := true, lcd := true, mod := true, out := true, flight := true } s s1 := by
  cases e
  refine Keeps.start fun p s0 hp h => ?_
  repeat' (first
    | ((with_reducible refine Parts.le_trans ?_ hp); exact rfl)
    | with_reducible assumption
    | intro x
    | lift_lets
    | with_reducible apply keeps_bySaddle
    | with_reducible apply Keeps.via (keeps_switchVerdictReceive _ _))

theorem keeps_execForceChangeReceive (via : Via) (id : Nat) (op : ForceOp) (at_ : Nat) (s : State) (s1 : State) (e : execForceChangeReceive via id op at_ s = .next s1) :
    Keeps { cells := true, tsk := true, frc := true, lsk := true, pair := true, lease := true, mir := true, evr := true, out := true, flight := true } s s1 := by
  cases e
  refine Keeps.start fun p s0 hp h => ?_
  repeat' (first
    | ((with_reducible refine Parts.le_trans ?_ hp); exact rfl)
    | with_reducible assumption
    | intro x
    | lift_lets
    | with_reducible apply Keeps.via (keeps_forceChangeReceive _ _ _ _)
    | with_reducible apply keeps_bySaddle)

theorem keeps_execForwardedChunkReceive (via : Via) (offset : Nat) (data : List Byte) (s : State) (s1 : State) (e : execForwardedChunkReceive via offset data s = .next s1) :
    Keeps { img := true, frc := true, lsk := true, pair := true, lease := true, mir := true, ses := true, evr := true, lcd := true, out := true, flight := true } s s1 := by
  cases e
  refine Keeps.start fun p s0 hp h => ?_
  repeat' (first
    | ((with_reducible refine Parts.le_trans ?_ hp); exact rfl)
    | with_reducible assumption
    | intro x
    | lift_lets
    | with_reducible apply Keeps.via (keeps_forwardedChunkReceive _ _ _)
    | with_reducible apply keeps_bySaddle)

theorem keeps_execPartnerArmOrderReceive (via : Via) (s : State) (s1 : State) (e : execPartnerArmOrderReceive via s = .next s1) :
    Keeps { img := true, frc := true, lsk := true, pair := true, lease := true, mir := true, evr := true, out := true, flight := true, free := true } s s1 := by
  cases e
  refine Keeps.start fun p s0 hp h => ?_
  repeat' (first
    | ((with_reducible refine Parts.le_trans ?_ hp); exact rfl)
    | with_reducible assumption
    | intro x
    | lift_lets
    | with_reducible apply Keeps.via (keeps_partnerArmOrderReceive _)
    | with_reducible apply keeps_bySaddle)

theorem keeps_execPartnerArmedReport (via : Via) (code : Byte) (s : State) (s1 : State) (e : execPartnerArmedReport via code s = .next s1) :
    Keeps { img := true, frc := true, lsk := true, pair := true, lease := true, mir := true, evr := true, out := true, flight := true } s s1 := by
  cases e
  refine Keeps.start fun p s0 hp h => ?_
  repeat' (first
    | ((with_reducible refine Parts.le_trans ?_ hp); exact rfl)
    | with_reducible assumption
    | intro x
    | lift_lets
    | with_reducible apply Keeps.via (keeps_partnerArmedReport _ _)
    | with_reducible apply keeps_bySaddle)

theorem keeps_execKeyOpForwardReceive (via : Via) (id : Nat) (stmt : List Byte) (s : State) (s1 : State) (e : execKeyOpForwardReceive via id stmt s = .next s1) :
    Keeps { store := true, frc := true, lsk := true, pair := true, lease := true, mir := true, evr := true, out := true, flight := true } s s1 := by
  cases e
  refine Keeps.start fun p s0 hp h => ?_
  repeat' (first
    | ((with_reducible refine Parts.le_trans ?_ hp); exact rfl)
    | with_reducible assumption
    | intro x
    | lift_lets
    | with_reducible apply Keeps.via (keeps_keyOpForward _ _ _)
    | with_reducible apply keeps_bySaddle)

theorem keeps_execRelayedWriteReceive (via : Via) (m : RelayMsg) (s : State) (s1 : State) (e : execRelayedWriteReceive via m s = .next s1) :
    Keeps { cells := true, store := true, tb := true, tbAcc := true, tbLat := true, tsk := true, img := true, frc := true, laneA := true, laneB := true, lsk := true, pair := true, lease := true, mir := true, links := true, io := true, can := true, ses := true, pwr := true, tel := true, evr := true, lcd := true, mod := true, out := true, flight := true } s s1 := by
  cases e
  refine Keeps.start fun p s0 hp h => ?_
  repeat' (first
    | ((with_reducible refine Parts.le_trans ?_ hp); exact rfl)
    | with_reducible assumption
    | intro x
    | lift_lets
    | with_reducible apply keeps_bySaddle
    | with_reducible apply Keeps.via (keeps_relayedWriteReceive _ _))

theorem keeps_execRelayVerdictReceive (via : Via) (id : Nat) (status : Fin 13) (result : W32) (s : State) (s1 : State) (e : execRelayVerdictReceive via id status result s = .next s1) :
    Keeps { frc := true, lsk := true, pair := true, lease := true, mir := true, ses := true, evr := true, out := true, flight := true } s s1 := by
  cases e
  refine Keeps.start fun p s0 hp h => ?_
  repeat' (first
    | ((with_reducible refine Parts.le_trans ?_ hp); exact rfl)
    | with_reducible assumption
    | intro x
    | lift_lets
    | with_reducible apply keeps_bySaddle
    | with_reducible apply Keeps.via (keeps_relayVerdictReceive _ _ _ _))

theorem keeps_execClaimAnnounceReceive (via : Via) (_epoch : W32) (s : State) (s1 : State) (e : execClaimAnnounceReceive via _epoch s = .next s1) :
    Keeps { frc := true, lsk := true, pair := true, lease := true, mir := true, evr := true, out := true, flight := true } s s1 := by
  cases e
  refine Keeps.start fun p s0 hp h => ?_
  repeat' (first
    | ((with_reducible refine Parts.le_trans ?_ hp); exact rfl)
    | with_reducible assumption
    | intro x
    | lift_lets
    | with_reducible apply keeps_bySaddle
    | with_reducible apply Keeps.via (keeps_claimAnnounce _))

theorem keeps_execYieldReceive (via : Via) (epoch : W32) (successor : W64) (s : State) (s1 : State) (e : execYieldReceive via epoch successor s = .next s1) :
    Keeps { frc := true, lsk := true, pair := true, lease := true, mir := true, links := true, evr := true, out := true, flight := true } s s1 := by
  cases e
  refine Keeps.start fun p s0 hp h => ?_
  repeat' (first
    | ((with_reducible refine Parts.le_trans ?_ hp); exact rfl)
    | with_reducible assumption
    | intro x
    | lift_lets
    | with_reducible apply keeps_bySaddle
    | with_reducible apply Keeps.via (keeps_yieldReceive _ _ _))

theorem keeps_execVoltageReleaseConfirmReceive (via : Via) (s : State) (s1 : State) (e : execVoltageReleaseConfirmReceive via s = .next s1) :
    Keeps { frc := true, lsk := true, pair := true, lease := true, mir := true, evr := true, out := true, flight := true } s s1 := by
  cases e
  refine Keeps.start fun p s0 hp h => ?_
  repeat' (first
    | ((with_reducible refine Parts.le_trans ?_ hp); exact rfl)
    | with_reducible assumption
    | intro x
    | lift_lets
    | with_reducible apply keeps_bySaddle
    | with_reducible apply Keeps.via (keeps_takeVoltageConfirm _))

theorem keeps_execRelayedSampleReceive (via : Via) (m : Sample) (s : State) (s1 : State) (e : execRelayedSampleReceive via m s = .next s1) :
    Keeps { frc := true, lsk := true, pair := true, lease := true, mir := true, links := true, evr := true, out := true, flight := true } s s1 := by
  cases e
  refine Keeps.start fun p s0 hp h => ?_
  repeat' (first
    | ((with_reducible refine Parts.le_trans ?_ hp); exact rfl)
    | with_reducible assumption
    | intro x
    | lift_lets
    | with_reducible apply Keeps.via (keeps_relayedSampleReceive _ _)
    | with_reducible apply keeps_bySaddle)

theorem keeps_execPartnerStationMapReceive (via : Via) (maps : List (Fin 24 × W32)) (s : State) (s1 : State) (e : execPartnerStationMapReceive via maps s = .next s1) :
    Keeps { frc := true, lsk := true, pair := true, lease := true, mir := true, links := true, evr := true, out := true, flight := true } s s1 := by
  cases e
  refine Keeps.start fun p s0 hp h => ?_
  repeat' (first
    | ((with_reducible refine Parts.le_trans ?_ hp); exact rfl)
    | with_reducible assumption
    | intro x
    | lift_lets
    | with_reducible apply Keeps.via (keeps_partnerStationMapReceive _ _)
    | with_reducible apply keeps_bySaddle)

theorem keeps_execChannelCommandForwardReceive (via : Via) (id : Nat) (cmd : ChanCmd) (at_ : Nat) (s : State) (s1 : State) (e : execChannelCommandForwardReceive via id cmd at_ s = .next s1) :
    Keeps { frc := true, laneA := true, laneB := true, lsk := true, pair := true, lease := true, mir := true, io := true, ses := true, evr := true, out := true, flight := true } s s1 := by
  cases e
  refine Keeps.start fun p s0 hp h => ?_
  repeat' (first
    | ((with_reducible refine Parts.le_trans ?_ hp); exact rfl)
    | with_reducible assumption
    | intro x
    | lift_lets
    | with_reducible apply Keeps.via (keeps_channelCommandForwardReceive _ _ _ _)
    | with_reducible apply keeps_bySaddle)

theorem keeps_execUrgentResultReceive (via : Via) (c : Fin 192) (value : W64) (_stamp : Nat) (s : State) (s1 : State) (e : execUrgentResultReceive via c value _stamp s = .next s1) :
    Keeps { frc := true, laneA := true, laneB := true, lsk := true, pair := true, lease := true, mir := true, io := true, evr := true, out := true, flight := true } s s1 := by
  cases e
  refine Keeps.start fun p s0 hp h => ?_
  repeat' (first
    | ((with_reducible refine Parts.le_trans ?_ hp); exact rfl)
    | with_reducible assumption
    | intro x
    | lift_lets
    | with_reducible apply Keeps.via (keeps_urgentResultReceive _ _ _)
    | with_reducible apply keeps_bySaddle)

theorem keeps_execCanTxConfirmReceive (via : Via) (port : Fin 4) (buf : Fin 32) (task : Fin 128) (cycle : W32) (s : State) (s1 : State) (e : execCanTxConfirmReceive via port buf task cycle s = .next s1) :
    Keeps { frc := true, lsk := true, pair := true, lease := true, mir := true, can := true, evr := true, out := true, flight := true } s s1 := by
  cases e
  refine Keeps.start fun p s0 hp h => ?_
  repeat' (first
    | ((with_reducible refine Parts.le_trans ?_ hp); exact rfl)
    | with_reducible assumption
    | intro x
    | lift_lets
    | with_reducible apply Keeps.via (keeps_canTxConfirmReceive _ _ _ _ _)
    | with_reducible apply keeps_bySaddle)

theorem keeps_execCanRxNoticeReceive (via : Via) (p : Fin 4) (frame : CanFrame) (filter : Fin 32) (stamp completion : Nat) (s : State) (s1 : State) (e : execCanRxNoticeReceive via p frame filter stamp completion s = .next s1) :
    Keeps { frc := true, lsk := true, pair := true, lease := true, mir := true, can := true, evr := true, out := true, flight := true } s s1 := by
  cases e
  refine Keeps.start fun p s0 hp h => ?_
  repeat' (first
    | ((with_reducible refine Parts.le_trans ?_ hp); exact rfl)
    | with_reducible assumption
    | intro x
    | lift_lets
    | with_reducible apply Keeps.via (keeps_canRxNoticeReceive _ _ _ _ _ _)
    | with_reducible apply keeps_bySaddle)

theorem keeps_execSwitchWindowEnd (s : State) (s1 : State) (e : execSwitchWindowEnd s = .next s1) :
    Keeps { cells := true, store := true, tb := true, tbAcc := true, tbLat := true, tsk := true, img := true, frc := true, laneA := true, laneB := true, lsk := true, pair := true, lease := true, mir := true, links := true, io := true, can := true, ses := true, pwr := true, tel := true, evr := true, lcd := true, mod := true, out := true, flight := true, free := true } s s1 := by
  cases e
  refine Keeps.start fun p s0 hp h => ?_
  repeat' (first
    | ((with_reducible refine Parts.le_trans ?_ hp); exact rfl)
    | with_reducible assumption
    | lift_lets
    | with_reducible apply Keeps.via (keeps_switchWindowEnd _))

end Sys2Proof.Machine
end

