-- ==== Sys2Proof/Laws/State.lean ====
section
/-!
SUPPORT. What each update of the shared operations leaves alone: one lemma per field of the state, so that no later proof unfolds a
record update.
-/

namespace Sys2Proof.Machine

/-! ### Entries of vectors -/

@[simp] theorem upd_same {α : Type} {n : Nat} (v : Vector α n) (i : Fin n) (f : α → α) : (upd v i f)[i] = f v[i] := by
  simp [upd]

@[simp] theorem upd_same_val {α : Type} {n : Nat} (v : Vector α n) (i : Fin n) (f : α → α) : (upd v i f)[i.val] = f v[i] := by
  simp [upd]

theorem upd_other {α : Type} {n : Nat} (v : Vector α n) (i j : Fin n) (f : α → α) (h : j ≠ i) : (upd v i f)[j] = v[j] := by
  have : i.val ≠ j.val := fun e => h (Fin.ext e.symm)
  simp [upd, this]

@[simp] theorem updAll_get {α : Type} {n : Nat} (v : Vector α n) (f : Fin n → α → α) (i : Fin n) : (updAll v f)[i] = f i v[i] := by
  simp [updAll]

/-! ### Memory, messages, free values -/

@[simp] theorem withMem_pending (m : List Host.Cell) (s : State) : (withMem s m).pending = s.pending := rfl
@[simp] theorem withMem_free (m : List Host.Cell) (s : State) : (withMem s m).free = s.free := rfl
@[simp] theorem withMem_out (m : List Host.Cell) (s : State) : (withMem s m).out = s.out := rfl
@[simp] theorem withMem_flight (m : List Host.Cell) (s : State) : (withMem s m).flight = s.flight := rfl
@[simp] theorem withMem_tb (m : List Host.Cell) (s : State) : (withMem s m).tb = s.tb := rfl
@[simp] theorem withMem_tbAcc (m : List Host.Cell) (s : State) : (withMem s m).tbAcc = s.tbAcc := rfl
@[simp] theorem withMem_tbLat (m : List Host.Cell) (s : State) : (withMem s m).tbLat = s.tbLat := rfl
@[simp] theorem withMem_tsk (m : List Host.Cell) (s : State) : (withMem s m).tsk = s.tsk := rfl
@[simp] theorem withMem_img (m : List Host.Cell) (s : State) : (withMem s m).img = s.img := rfl
@[simp] theorem withMem_frc (m : List Host.Cell) (s : State) : (withMem s m).frc = s.frc := rfl
@[simp] theorem withMem_laneA (m : List Host.Cell) (s : State) : (withMem s m).laneA = s.laneA := rfl
@[simp] theorem withMem_laneB (m : List Host.Cell) (s : State) : (withMem s m).laneB = s.laneB := rfl
@[simp] theorem withMem_lsk (m : List Host.Cell) (s : State) : (withMem s m).lsk = s.lsk := rfl
@[simp] theorem withMem_pair (m : List Host.Cell) (s : State) : (withMem s m).pair = s.pair := rfl
@[simp] theorem withMem_lease (m : List Host.Cell) (s : State) : (withMem s m).lease = s.lease := rfl
@[simp] theorem withMem_mir (m : List Host.Cell) (s : State) : (withMem s m).mir = s.mir := rfl
@[simp] theorem withMem_links (m : List Host.Cell) (s : State) : (withMem s m).links = s.links := rfl
@[simp] theorem withMem_io (m : List Host.Cell) (s : State) : (withMem s m).io = s.io := rfl
@[simp] theorem withMem_can (m : List Host.Cell) (s : State) : (withMem s m).can = s.can := rfl
@[simp] theorem withMem_ses (m : List Host.Cell) (s : State) : (withMem s m).ses = s.ses := rfl
@[simp] theorem withMem_pwr (m : List Host.Cell) (s : State) : (withMem s m).pwr = s.pwr := rfl
@[simp] theorem withMem_tel (m : List Host.Cell) (s : State) : (withMem s m).tel = s.tel := rfl
@[simp] theorem withMem_evr (m : List Host.Cell) (s : State) : (withMem s m).evr = s.evr := rfl
@[simp] theorem withMem_lcd (m : List Host.Cell) (s : State) : (withMem s m).lcd = s.lcd := rfl
@[simp] theorem withMem_mod (m : List Host.Cell) (s : State) : (withMem s m).mod = s.mod := rfl

@[simp] theorem withMem_cells (m : List Host.Cell) (s : State) : (withMem s m).mem.cells = m := rfl
@[simp] theorem emit_pending (o : Out) (s : State) : (emit o s).pending = s.pending := rfl
@[simp] theorem emit_free (o : Out) (s : State) : (emit o s).free = s.free := rfl
@[simp] theorem emit_flight (o : Out) (s : State) : (emit o s).flight = s.flight := rfl
@[simp] theorem emit_mem (o : Out) (s : State) : (emit o s).mem = s.mem := rfl
@[simp] theorem emit_tb (o : Out) (s : State) : (emit o s).tb = s.tb := rfl
@[simp] theorem emit_tbAcc (o : Out) (s : State) : (emit o s).tbAcc = s.tbAcc := rfl
@[simp] theorem emit_tbLat (o : Out) (s : State) : (emit o s).tbLat = s.tbLat := rfl
@[simp] theorem emit_tsk (o : Out) (s : State) : (emit o s).tsk = s.tsk := rfl
@[simp] theorem emit_img (o : Out) (s : State) : (emit o s).img = s.img := rfl
@[simp] theorem emit_frc (o : Out) (s : State) : (emit o s).frc = s.frc := rfl
@[simp] theorem emit_laneA (o : Out) (s : State) : (emit o s).laneA = s.laneA := rfl
@[simp] theorem emit_laneB (o : Out) (s : State) : (emit o s).laneB = s.laneB := rfl
@[simp] theorem emit_lsk (o : Out) (s : State) : (emit o s).lsk = s.lsk := rfl
@[simp] theorem emit_pair (o : Out) (s : State) : (emit o s).pair = s.pair := rfl
@[simp] theorem emit_lease (o : Out) (s : State) : (emit o s).lease = s.lease := rfl
@[simp] theorem emit_mir (o : Out) (s : State) : (emit o s).mir = s.mir := rfl
@[simp] theorem emit_links (o : Out) (s : State) : (emit o s).links = s.links := rfl
@[simp] theorem emit_io (o : Out) (s : State) : (emit o s).io = s.io := rfl
@[simp] theorem emit_can (o : Out) (s : State) : (emit o s).can = s.can := rfl
@[simp] theorem emit_ses (o : Out) (s : State) : (emit o s).ses = s.ses := rfl
@[simp] theorem emit_pwr (o : Out) (s : State) : (emit o s).pwr = s.pwr := rfl
@[simp] theorem emit_tel (o : Out) (s : State) : (emit o s).tel = s.tel := rfl
@[simp] theorem emit_evr (o : Out) (s : State) : (emit o s).evr = s.evr := rfl
@[simp] theorem emit_lcd (o : Out) (s : State) : (emit o s).lcd = s.lcd := rfl
@[simp] theorem emit_mod (o : Out) (s : State) : (emit o s).mod = s.mod := rfl

@[simp] theorem emit_out (o : Out) (s : State) : (emit o s).out = s.out ++ [o] := rfl
@[simp] theorem countUnchecked_pending (unchecked : Bool) (n : Nat) (s : State) : (countUnchecked unchecked n s).pending = s.pending := by unfold countUnchecked; split <;> rfl
@[simp] theorem countUnchecked_free (unchecked : Bool) (n : Nat) (s : State) : (countUnchecked unchecked n s).free = s.free := by unfold countUnchecked; split <;> rfl
@[simp] theorem countUnchecked_out (unchecked : Bool) (n : Nat) (s : State) : (countUnchecked unchecked n s).out = s.out := by unfold countUnchecked; split <;> rfl
@[simp] theorem countUnchecked_flight (unchecked : Bool) (n : Nat) (s : State) : (countUnchecked unchecked n s).flight = s.flight := by unfold countUnchecked; split <;> rfl
@[simp] theorem countUnchecked_mem (unchecked : Bool) (n : Nat) (s : State) : (countUnchecked unchecked n s).mem = s.mem := by unfold countUnchecked; split <;> rfl
@[simp] theorem countUnchecked_tb (unchecked : Bool) (n : Nat) (s : State) : (countUnchecked unchecked n s).tb = s.tb := by unfold countUnchecked; split <;> rfl
@[simp] theorem countUnchecked_tbAcc (unchecked : Bool) (n : Nat) (s : State) : (countUnchecked unchecked n s).tbAcc = s.tbAcc := by unfold countUnchecked; split <;> rfl
@[simp] theorem countUnchecked_tbLat (unchecked : Bool) (n : Nat) (s : State) : (countUnchecked unchecked n s).tbLat = s.tbLat := by unfold countUnchecked; split <;> rfl
@[simp] theorem countUnchecked_tsk (unchecked : Bool) (n : Nat) (s : State) : (countUnchecked unchecked n s).tsk = s.tsk := by unfold countUnchecked; split <;> rfl
@[simp] theorem countUnchecked_img (unchecked : Bool) (n : Nat) (s : State) : (countUnchecked unchecked n s).img = s.img := by unfold countUnchecked; split <;> rfl
@[simp] theorem countUnchecked_frc (unchecked : Bool) (n : Nat) (s : State) : (countUnchecked unchecked n s).frc = s.frc := by unfold countUnchecked; split <;> rfl
@[simp] theorem countUnchecked_laneA (unchecked : Bool) (n : Nat) (s : State) : (countUnchecked unchecked n s).laneA = s.laneA := by unfold countUnchecked; split <;> rfl
@[simp] theorem countUnchecked_laneB (unchecked : Bool) (n : Nat) (s : State) : (countUnchecked unchecked n s).laneB = s.laneB := by unfold countUnchecked; split <;> rfl
@[simp] theorem countUnchecked_pair (unchecked : Bool) (n : Nat) (s : State) : (countUnchecked unchecked n s).pair = s.pair := by unfold countUnchecked; split <;> rfl
@[simp] theorem countUnchecked_lease (unchecked : Bool) (n : Nat) (s : State) : (countUnchecked unchecked n s).lease = s.lease := by unfold countUnchecked; split <;> rfl
@[simp] theorem countUnchecked_mir (unchecked : Bool) (n : Nat) (s : State) : (countUnchecked unchecked n s).mir = s.mir := by unfold countUnchecked; split <;> rfl
@[simp] theorem countUnchecked_links (unchecked : Bool) (n : Nat) (s : State) : (countUnchecked unchecked n s).links = s.links := by unfold countUnchecked; split <;> rfl
@[simp] theorem countUnchecked_io (unchecked : Bool) (n : Nat) (s : State) : (countUnchecked unchecked n s).io = s.io := by unfold countUnchecked; split <;> rfl
@[simp] theorem countUnchecked_can (unchecked : Bool) (n : Nat) (s : State) : (countUnchecked unchecked n s).can = s.can := by unfold countUnchecked; split <;> rfl
@[simp] theorem countUnchecked_ses (unchecked : Bool) (n : Nat) (s : State) : (countUnchecked unchecked n s).ses = s.ses := by unfold countUnchecked; split <;> rfl
@[simp] theorem countUnchecked_pwr (unchecked : Bool) (n : Nat) (s : State) : (countUnchecked unchecked n s).pwr = s.pwr := by unfold countUnchecked; split <;> rfl
@[simp] theorem countUnchecked_tel (unchecked : Bool) (n : Nat) (s : State) : (countUnchecked unchecked n s).tel = s.tel := by unfold countUnchecked; split <;> rfl
@[simp] theorem countUnchecked_evr (unchecked : Bool) (n : Nat) (s : State) : (countUnchecked unchecked n s).evr = s.evr := by unfold countUnchecked; split <;> rfl
@[simp] theorem countUnchecked_lcd (unchecked : Bool) (n : Nat) (s : State) : (countUnchecked unchecked n s).lcd = s.lcd := by unfold countUnchecked; split <;> rfl
@[simp] theorem countUnchecked_mod (unchecked : Bool) (n : Nat) (s : State) : (countUnchecked unchecked n s).mod = s.mod := by unfold countUnchecked; split <;> rfl

@[simp] theorem saddle_pending (m : Saddle) (s : State) : (saddle m s).pending = s.pending := by unfold saddle; split <;> simp
@[simp] theorem saddle_free (m : Saddle) (s : State) : (saddle m s).free = s.free := by unfold saddle; split <;> simp
@[simp] theorem saddle_flight (m : Saddle) (s : State) : (saddle m s).flight = s.flight := by unfold saddle; split <;> simp
@[simp] theorem saddle_mem (m : Saddle) (s : State) : (saddle m s).mem = s.mem := by unfold saddle; split <;> simp
@[simp] theorem saddle_tb (m : Saddle) (s : State) : (saddle m s).tb = s.tb := by unfold saddle; split <;> simp
@[simp] theorem saddle_tbAcc (m : Saddle) (s : State) : (saddle m s).tbAcc = s.tbAcc := by unfold saddle; split <;> simp
@[simp] theorem saddle_tbLat (m : Saddle) (s : State) : (saddle m s).tbLat = s.tbLat := by unfold saddle; split <;> simp
@[simp] theorem saddle_tsk (m : Saddle) (s : State) : (saddle m s).tsk = s.tsk := by unfold saddle; split <;> simp
@[simp] theorem saddle_img (m : Saddle) (s : State) : (saddle m s).img = s.img := by unfold saddle; split <;> simp
@[simp] theorem saddle_frc (m : Saddle) (s : State) : (saddle m s).frc = s.frc := by unfold saddle; split <;> simp
@[simp] theorem saddle_laneA (m : Saddle) (s : State) : (saddle m s).laneA = s.laneA := by unfold saddle; split <;> simp
@[simp] theorem saddle_laneB (m : Saddle) (s : State) : (saddle m s).laneB = s.laneB := by unfold saddle; split <;> simp
@[simp] theorem saddle_lease (m : Saddle) (s : State) : (saddle m s).lease = s.lease := by unfold saddle; split <;> simp
@[simp] theorem saddle_mir (m : Saddle) (s : State) : (saddle m s).mir = s.mir := by unfold saddle; split <;> simp
@[simp] theorem saddle_links (m : Saddle) (s : State) : (saddle m s).links = s.links := by unfold saddle; split <;> simp
@[simp] theorem saddle_io (m : Saddle) (s : State) : (saddle m s).io = s.io := by unfold saddle; split <;> simp
@[simp] theorem saddle_can (m : Saddle) (s : State) : (saddle m s).can = s.can := by unfold saddle; split <;> simp
@[simp] theorem saddle_ses (m : Saddle) (s : State) : (saddle m s).ses = s.ses := by unfold saddle; split <;> simp
@[simp] theorem saddle_pwr (m : Saddle) (s : State) : (saddle m s).pwr = s.pwr := by unfold saddle; split <;> simp
@[simp] theorem saddle_tel (m : Saddle) (s : State) : (saddle m s).tel = s.tel := by unfold saddle; split <;> simp
@[simp] theorem saddle_evr (m : Saddle) (s : State) : (saddle m s).evr = s.evr := by unfold saddle; split <;> simp
@[simp] theorem saddle_lcd (m : Saddle) (s : State) : (saddle m s).lcd = s.lcd := by unfold saddle; split <;> simp
@[simp] theorem saddle_mod (m : Saddle) (s : State) : (saddle m s).mod = s.mod := by unfold saddle; split <;> simp

@[simp] theorem freshId_pending  (s : State) : (freshId s).2.pending = s.pending := rfl
@[simp] theorem freshId_free  (s : State) : (freshId s).2.free = s.free := rfl
@[simp] theorem freshId_out  (s : State) : (freshId s).2.out = s.out := rfl
@[simp] theorem freshId_flight  (s : State) : (freshId s).2.flight = s.flight := rfl
@[simp] theorem freshId_mem  (s : State) : (freshId s).2.mem = s.mem := rfl
@[simp] theorem freshId_tb  (s : State) : (freshId s).2.tb = s.tb := rfl
@[simp] theorem freshId_tbAcc  (s : State) : (freshId s).2.tbAcc = s.tbAcc := rfl
@[simp] theorem freshId_tbLat  (s : State) : (freshId s).2.tbLat = s.tbLat := rfl
@[simp] theorem freshId_tsk  (s : State) : (freshId s).2.tsk = s.tsk := rfl
@[simp] theorem freshId_img  (s : State) : (freshId s).2.img = s.img := rfl
@[simp] theorem freshId_frc  (s : State) : (freshId s).2.frc = s.frc := rfl
@[simp] theorem freshId_laneA  (s : State) : (freshId s).2.laneA = s.laneA := rfl
@[simp] theorem freshId_laneB  (s : State) : (freshId s).2.laneB = s.laneB := rfl
@[simp] theorem freshId_lsk  (s : State) : (freshId s).2.lsk = s.lsk := rfl
@[simp] theorem freshId_lease  (s : State) : (freshId s).2.lease = s.lease := rfl
@[simp] theorem freshId_mir  (s : State) : (freshId s).2.mir = s.mir := rfl
@[simp] theorem freshId_links  (s : State) : (freshId s).2.links = s.links := rfl
@[simp] theorem freshId_io  (s : State) : (freshId s).2.io = s.io := rfl
@[simp] theorem freshId_can  (s : State) : (freshId s).2.can = s.can := rfl
@[simp] theorem freshId_ses  (s : State) : (freshId s).2.ses = s.ses := rfl
@[simp] theorem freshId_pwr  (s : State) : (freshId s).2.pwr = s.pwr := rfl
@[simp] theorem freshId_tel  (s : State) : (freshId s).2.tel = s.tel := rfl
@[simp] theorem freshId_evr  (s : State) : (freshId s).2.evr = s.evr := rfl
@[simp] theorem freshId_lcd  (s : State) : (freshId s).2.lcd = s.lcd := rfl
@[simp] theorem freshId_mod  (s : State) : (freshId s).2.mod = s.mod := rfl

@[simp] theorem freeValue_pending (w : Nat) (s : State) : (freeValue w s).2.pending = s.pending := rfl
@[simp] theorem freeValue_out (w : Nat) (s : State) : (freeValue w s).2.out = s.out := rfl
@[simp] theorem freeValue_flight (w : Nat) (s : State) : (freeValue w s).2.flight = s.flight := rfl
@[simp] theorem freeValue_mem (w : Nat) (s : State) : (freeValue w s).2.mem = s.mem := rfl
@[simp] theorem freeValue_tb (w : Nat) (s : State) : (freeValue w s).2.tb = s.tb := rfl
@[simp] theorem freeValue_tbAcc (w : Nat) (s : State) : (freeValue w s).2.tbAcc = s.tbAcc := rfl
@[simp] theorem freeValue_tbLat (w : Nat) (s : State) : (freeValue w s).2.tbLat = s.tbLat := rfl
@[simp] theorem freeValue_tsk (w : Nat) (s : State) : (freeValue w s).2.tsk = s.tsk := rfl
@[simp] theorem freeValue_img (w : Nat) (s : State) : (freeValue w s).2.img = s.img := rfl
@[simp] theorem freeValue_frc (w : Nat) (s : State) : (freeValue w s).2.frc = s.frc := rfl
@[simp] theorem freeValue_laneA (w : Nat) (s : State) : (freeValue w s).2.laneA = s.laneA := rfl
@[simp] theorem freeValue_laneB (w : Nat) (s : State) : (freeValue w s).2.laneB = s.laneB := rfl
@[simp] theorem freeValue_lsk (w : Nat) (s : State) : (freeValue w s).2.lsk = s.lsk := rfl
@[simp] theorem freeValue_pair (w : Nat) (s : State) : (freeValue w s).2.pair = s.pair := rfl
@[simp] theorem freeValue_lease (w : Nat) (s : State) : (freeValue w s).2.lease = s.lease := rfl
@[simp] theorem freeValue_mir (w : Nat) (s : State) : (freeValue w s).2.mir = s.mir := rfl
@[simp] theorem freeValue_links (w : Nat) (s : State) : (freeValue w s).2.links = s.links := rfl
@[simp] theorem freeValue_io (w : Nat) (s : State) : (freeValue w s).2.io = s.io := rfl
@[simp] theorem freeValue_can (w : Nat) (s : State) : (freeValue w s).2.can = s.can := rfl
@[simp] theorem freeValue_ses (w : Nat) (s : State) : (freeValue w s).2.ses = s.ses := rfl
@[simp] theorem freeValue_pwr (w : Nat) (s : State) : (freeValue w s).2.pwr = s.pwr := rfl
@[simp] theorem freeValue_tel (w : Nat) (s : State) : (freeValue w s).2.tel = s.tel := rfl
@[simp] theorem freeValue_evr (w : Nat) (s : State) : (freeValue w s).2.evr = s.evr := rfl
@[simp] theorem freeValue_lcd (w : Nat) (s : State) : (freeValue w s).2.lcd = s.lcd := rfl
@[simp] theorem freeValue_mod (w : Nat) (s : State) : (freeValue w s).2.mod = s.mod := rfl

@[simp] theorem freeValue_free (w : Nat) (s : State) : (freeValue w s).2.free = s.free + 1 := rfl


/-! ### Tasks -/

@[simp] theorem onTask_pending (t : Fin 128) (f : TaskRt → TaskRt) (s : State) : (onTask t f s).pending = s.pending := rfl
@[simp] theorem onTask_free (t : Fin 128) (f : TaskRt → TaskRt) (s : State) : (onTask t f s).free = s.free := rfl
@[simp] theorem onTask_out (t : Fin 128) (f : TaskRt → TaskRt) (s : State) : (onTask t f s).out = s.out := rfl
@[simp] theorem onTask_flight (t : Fin 128) (f : TaskRt → TaskRt) (s : State) : (onTask t f s).flight = s.flight := rfl
@[simp] theorem onTask_mem (t : Fin 128) (f : TaskRt → TaskRt) (s : State) : (onTask t f s).mem = s.mem := rfl
@[simp] theorem onTask_tb (t : Fin 128) (f : TaskRt → TaskRt) (s : State) : (onTask t f s).tb = s.tb := rfl
@[simp] theorem onTask_tbAcc (t : Fin 128) (f : TaskRt → TaskRt) (s : State) : (onTask t f s).tbAcc = s.tbAcc := rfl
@[simp] theorem onTask_tbLat (t : Fin 128) (f : TaskRt → TaskRt) (s : State) : (onTask t f s).tbLat = s.tbLat := rfl
@[simp] theorem onTask_img (t : Fin 128) (f : TaskRt → TaskRt) (s : State) : (onTask t f s).img = s.img := rfl
@[simp] theorem onTask_frc (t : Fin 128) (f : TaskRt → TaskRt) (s : State) : (onTask t f s).frc = s.frc := rfl
@[simp] theorem onTask_laneA (t : Fin 128) (f : TaskRt → TaskRt) (s : State) : (onTask t f s).laneA = s.laneA := rfl
@[simp] theorem onTask_laneB (t : Fin 128) (f : TaskRt → TaskRt) (s : State) : (onTask t f s).laneB = s.laneB := rfl
@[simp] theorem onTask_lsk (t : Fin 128) (f : TaskRt → TaskRt) (s : State) : (onTask t f s).lsk = s.lsk := rfl
@[simp] theorem onTask_pair (t : Fin 128) (f : TaskRt → TaskRt) (s : State) : (onTask t f s).pair = s.pair := rfl
@[simp] theorem onTask_lease (t : Fin 128) (f : TaskRt → TaskRt) (s : State) : (onTask t f s).lease = s.lease := rfl
@[simp] theorem onTask_mir (t : Fin 128) (f : TaskRt → TaskRt) (s : State) : (onTask t f s).mir = s.mir := rfl
@[simp] theorem onTask_links (t : Fin 128) (f : TaskRt → TaskRt) (s : State) : (onTask t f s).links = s.links := rfl
@[simp] theorem onTask_io (t : Fin 128) (f : TaskRt → TaskRt) (s : State) : (onTask t f s).io = s.io := rfl
@[simp] theorem onTask_can (t : Fin 128) (f : TaskRt → TaskRt) (s : State) : (onTask t f s).can = s.can := rfl
@[simp] theorem onTask_ses (t : Fin 128) (f : TaskRt → TaskRt) (s : State) : (onTask t f s).ses = s.ses := rfl
@[simp] theorem onTask_pwr (t : Fin 128) (f : TaskRt → TaskRt) (s : State) : (onTask t f s).pwr = s.pwr := rfl
@[simp] theorem onTask_tel (t : Fin 128) (f : TaskRt → TaskRt) (s : State) : (onTask t f s).tel = s.tel := rfl
@[simp] theorem onTask_evr (t : Fin 128) (f : TaskRt → TaskRt) (s : State) : (onTask t f s).evr = s.evr := rfl
@[simp] theorem onTask_lcd (t : Fin 128) (f : TaskRt → TaskRt) (s : State) : (onTask t f s).lcd = s.lcd := rfl
@[simp] theorem onTask_mod (t : Fin 128) (f : TaskRt → TaskRt) (s : State) : (onTask t f s).mod = s.mod := rfl

@[simp] theorem onTaskStats_pending (t : Fin 128) (f : TaskStats → TaskStats) (s : State) : (onTaskStats t f s).pending = s.pending := rfl
@[simp] theorem onTaskStats_free (t : Fin 128) (f : TaskStats → TaskStats) (s : State) : (onTaskStats t f s).free = s.free := rfl
@[simp] theorem onTaskStats_out (t : Fin 128) (f : TaskStats → TaskStats) (s : State) : (onTaskStats t f s).out = s.out := rfl
@[simp] theorem onTaskStats_flight (t : Fin 128) (f : TaskStats → TaskStats) (s : State) : (onTaskStats t f s).flight = s.flight := rfl
@[simp] theorem onTaskStats_mem (t : Fin 128) (f : TaskStats → TaskStats) (s : State) : (onTaskStats t f s).mem = s.mem := rfl
@[simp] theorem onTaskStats_tb (t : Fin 128) (f : TaskStats → TaskStats) (s : State) : (onTaskStats t f s).tb = s.tb := rfl
@[simp] theorem onTaskStats_tbAcc (t : Fin 128) (f : TaskStats → TaskStats) (s : State) : (onTaskStats t f s).tbAcc = s.tbAcc := rfl
@[simp] theorem onTaskStats_tbLat (t : Fin 128) (f : TaskStats → TaskStats) (s : State) : (onTaskStats t f s).tbLat = s.tbLat := rfl
@[simp] theorem onTaskStats_img (t : Fin 128) (f : TaskStats → TaskStats) (s : State) : (onTaskStats t f s).img = s.img := rfl
@[simp] theorem onTaskStats_frc (t : Fin 128) (f : TaskStats → TaskStats) (s : State) : (onTaskStats t f s).frc = s.frc := rfl
@[simp] theorem onTaskStats_laneA (t : Fin 128) (f : TaskStats → TaskStats) (s : State) : (onTaskStats t f s).laneA = s.laneA := rfl
@[simp] theorem onTaskStats_laneB (t : Fin 128) (f : TaskStats → TaskStats) (s : State) : (onTaskStats t f s).laneB = s.laneB := rfl
@[simp] theorem onTaskStats_lsk (t : Fin 128) (f : TaskStats → TaskStats) (s : State) : (onTaskStats t f s).lsk = s.lsk := rfl
@[simp] theorem onTaskStats_pair (t : Fin 128) (f : TaskStats → TaskStats) (s : State) : (onTaskStats t f s).pair = s.pair := rfl
@[simp] theorem onTaskStats_lease (t : Fin 128) (f : TaskStats → TaskStats) (s : State) : (onTaskStats t f s).lease = s.lease := rfl
@[simp] theorem onTaskStats_mir (t : Fin 128) (f : TaskStats → TaskStats) (s : State) : (onTaskStats t f s).mir = s.mir := rfl
@[simp] theorem onTaskStats_links (t : Fin 128) (f : TaskStats → TaskStats) (s : State) : (onTaskStats t f s).links = s.links := rfl
@[simp] theorem onTaskStats_io (t : Fin 128) (f : TaskStats → TaskStats) (s : State) : (onTaskStats t f s).io = s.io := rfl
@[simp] theorem onTaskStats_can (t : Fin 128) (f : TaskStats → TaskStats) (s : State) : (onTaskStats t f s).can = s.can := rfl
@[simp] theorem onTaskStats_ses (t : Fin 128) (f : TaskStats → TaskStats) (s : State) : (onTaskStats t f s).ses = s.ses := rfl
@[simp] theorem onTaskStats_pwr (t : Fin 128) (f : TaskStats → TaskStats) (s : State) : (onTaskStats t f s).pwr = s.pwr := rfl
@[simp] theorem onTaskStats_tel (t : Fin 128) (f : TaskStats → TaskStats) (s : State) : (onTaskStats t f s).tel = s.tel := rfl
@[simp] theorem onTaskStats_evr (t : Fin 128) (f : TaskStats → TaskStats) (s : State) : (onTaskStats t f s).evr = s.evr := rfl
@[simp] theorem onTaskStats_lcd (t : Fin 128) (f : TaskStats → TaskStats) (s : State) : (onTaskStats t f s).lcd = s.lcd := rfl
@[simp] theorem onTaskStats_mod (t : Fin 128) (f : TaskStats → TaskStats) (s : State) : (onTaskStats t f s).mod = s.mod := rfl

@[simp] theorem onCycle_pending (t : Fin 128) (f : Cycle → Cycle) (s : State) : (onCycle t f s).pending = s.pending := rfl
@[simp] theorem onCycle_free (t : Fin 128) (f : Cycle → Cycle) (s : State) : (onCycle t f s).free = s.free := rfl
@[simp] theorem onCycle_out (t : Fin 128) (f : Cycle → Cycle) (s : State) : (onCycle t f s).out = s.out := rfl
@[simp] theorem onCycle_flight (t : Fin 128) (f : Cycle → Cycle) (s : State) : (onCycle t f s).flight = s.flight := rfl
@[simp] theorem onCycle_mem (t : Fin 128) (f : Cycle → Cycle) (s : State) : (onCycle t f s).mem = s.mem := rfl
@[simp] theorem onCycle_tb (t : Fin 128) (f : Cycle → Cycle) (s : State) : (onCycle t f s).tb = s.tb := rfl
@[simp] theorem onCycle_tbAcc (t : Fin 128) (f : Cycle → Cycle) (s : State) : (onCycle t f s).tbAcc = s.tbAcc := rfl
@[simp] theorem onCycle_tbLat (t : Fin 128) (f : Cycle → Cycle) (s : State) : (onCycle t f s).tbLat = s.tbLat := rfl
@[simp] theorem onCycle_img (t : Fin 128) (f : Cycle → Cycle) (s : State) : (onCycle t f s).img = s.img := rfl
@[simp] theorem onCycle_frc (t : Fin 128) (f : Cycle → Cycle) (s : State) : (onCycle t f s).frc = s.frc := rfl
@[simp] theorem onCycle_laneA (t : Fin 128) (f : Cycle → Cycle) (s : State) : (onCycle t f s).laneA = s.laneA := rfl
@[simp] theorem onCycle_laneB (t : Fin 128) (f : Cycle → Cycle) (s : State) : (onCycle t f s).laneB = s.laneB := rfl
@[simp] theorem onCycle_lsk (t : Fin 128) (f : Cycle → Cycle) (s : State) : (onCycle t f s).lsk = s.lsk := rfl
@[simp] theorem onCycle_pair (t : Fin 128) (f : Cycle → Cycle) (s : State) : (onCycle t f s).pair = s.pair := rfl
@[simp] theorem onCycle_lease (t : Fin 128) (f : Cycle → Cycle) (s : State) : (onCycle t f s).lease = s.lease := rfl
@[simp] theorem onCycle_mir (t : Fin 128) (f : Cycle → Cycle) (s : State) : (onCycle t f s).mir = s.mir := rfl
@[simp] theorem onCycle_links (t : Fin 128) (f : Cycle → Cycle) (s : State) : (onCycle t f s).links = s.links := rfl
@[simp] theorem onCycle_io (t : Fin 128) (f : Cycle → Cycle) (s : State) : (onCycle t f s).io = s.io := rfl
@[simp] theorem onCycle_can (t : Fin 128) (f : Cycle → Cycle) (s : State) : (onCycle t f s).can = s.can := rfl
@[simp] theorem onCycle_ses (t : Fin 128) (f : Cycle → Cycle) (s : State) : (onCycle t f s).ses = s.ses := rfl
@[simp] theorem onCycle_pwr (t : Fin 128) (f : Cycle → Cycle) (s : State) : (onCycle t f s).pwr = s.pwr := rfl
@[simp] theorem onCycle_tel (t : Fin 128) (f : Cycle → Cycle) (s : State) : (onCycle t f s).tel = s.tel := rfl
@[simp] theorem onCycle_evr (t : Fin 128) (f : Cycle → Cycle) (s : State) : (onCycle t f s).evr = s.evr := rfl
@[simp] theorem onCycle_lcd (t : Fin 128) (f : Cycle → Cycle) (s : State) : (onCycle t f s).lcd = s.lcd := rfl
@[simp] theorem onCycle_mod (t : Fin 128) (f : Cycle → Cycle) (s : State) : (onCycle t f s).mod = s.mod := rfl

@[simp] theorem trigger_pending (g : TrigReg) (s : State) : (trigger g s).pending = s.pending := by unfold trigger; (repeat' split) <;> rfl
@[simp] theorem trigger_free (g : TrigReg) (s : State) : (trigger g s).free = s.free := by unfold trigger; (repeat' split) <;> rfl
@[simp] theorem trigger_out (g : TrigReg) (s : State) : (trigger g s).out = s.out := by unfold trigger; (repeat' split) <;> rfl
@[simp] theorem trigger_flight (g : TrigReg) (s : State) : (trigger g s).flight = s.flight := by unfold trigger; (repeat' split) <;> rfl
@[simp] theorem trigger_mem (g : TrigReg) (s : State) : (trigger g s).mem = s.mem := by unfold trigger; (repeat' split) <;> rfl
@[simp] theorem trigger_tb (g : TrigReg) (s : State) : (trigger g s).tb = s.tb := by unfold trigger; (repeat' split) <;> rfl
@[simp] theorem trigger_tbAcc (g : TrigReg) (s : State) : (trigger g s).tbAcc = s.tbAcc := by unfold trigger; (repeat' split) <;> rfl
@[simp] theorem trigger_tbLat (g : TrigReg) (s : State) : (trigger g s).tbLat = s.tbLat := by unfold trigger; (repeat' split) <;> rfl
@[simp] theorem trigger_img (g : TrigReg) (s : State) : (trigger g s).img = s.img := by unfold trigger; (repeat' split) <;> rfl
@[simp] theorem trigger_frc (g : TrigReg) (s : State) : (trigger g s).frc = s.frc := by unfold trigger; (repeat' split) <;> rfl
@[simp] theorem trigger_laneA (g : TrigReg) (s : State) : (trigger g s).laneA = s.laneA := by unfold trigger; (repeat' split) <;> rfl
@[simp] theorem trigger_laneB (g : TrigReg) (s : State) : (trigger g s).laneB = s.laneB := by unfold trigger; (repeat' split) <;> rfl
@[simp] theorem trigger_lsk (g : TrigReg) (s : State) : (trigger g s).lsk = s.lsk := by unfold trigger; (repeat' split) <;> rfl
@[simp] theorem trigger_pair (g : TrigReg) (s : State) : (trigger g s).pair = s.pair := by unfold trigger; (repeat' split) <;> rfl
@[simp] theorem trigger_lease (g : TrigReg) (s : State) : (trigger g s).lease = s.lease := by unfold trigger; (repeat' split) <;> rfl
@[simp] theorem trigger_mir (g : TrigReg) (s : State) : (trigger g s).mir = s.mir := by unfold trigger; (repeat' split) <;> rfl
@[simp] theorem trigger_links (g : TrigReg) (s : State) : (trigger g s).links = s.links := by unfold trigger; (repeat' split) <;> rfl
@[simp] theorem trigger_io (g : TrigReg) (s : State) : (trigger g s).io = s.io := by unfold trigger; (repeat' split) <;> rfl
@[simp] theorem trigger_can (g : TrigReg) (s : State) : (trigger g s).can = s.can := by unfold trigger; (repeat' split) <;> rfl
@[simp] theorem trigger_ses (g : TrigReg) (s : State) : (trigger g s).ses = s.ses := by unfold trigger; (repeat' split) <;> rfl
@[simp] theorem trigger_pwr (g : TrigReg) (s : State) : (trigger g s).pwr = s.pwr := by unfold trigger; (repeat' split) <;> rfl
@[simp] theorem trigger_tel (g : TrigReg) (s : State) : (trigger g s).tel = s.tel := by unfold trigger; (repeat' split) <;> rfl
@[simp] theorem trigger_evr (g : TrigReg) (s : State) : (trigger g s).evr = s.evr := by unfold trigger; (repeat' split) <;> rfl
@[simp] theorem trigger_lcd (g : TrigReg) (s : State) : (trigger g s).lcd = s.lcd := by unfold trigger; (repeat' split) <;> rfl
@[simp] theorem trigger_mod (g : TrigReg) (s : State) : (trigger g s).mod = s.mod := by unfold trigger; (repeat' split) <;> rfl

@[simp] theorem triggerMatch_pending (code a b stamp : Nat) (arg info : W32) (s : State) : (triggerMatch code a b stamp arg info s).pending = s.pending := by simp [triggerMatch]
@[simp] theorem triggerMatch_free (code a b stamp : Nat) (arg info : W32) (s : State) : (triggerMatch code a b stamp arg info s).free = s.free := by simp [triggerMatch]
@[simp] theorem triggerMatch_out (code a b stamp : Nat) (arg info : W32) (s : State) : (triggerMatch code a b stamp arg info s).out = s.out := by simp [triggerMatch]
@[simp] theorem triggerMatch_flight (code a b stamp : Nat) (arg info : W32) (s : State) : (triggerMatch code a b stamp arg info s).flight = s.flight := by simp [triggerMatch]
@[simp] theorem triggerMatch_mem (code a b stamp : Nat) (arg info : W32) (s : State) : (triggerMatch code a b stamp arg info s).mem = s.mem := by simp [triggerMatch]
@[simp] theorem triggerMatch_tb (code a b stamp : Nat) (arg info : W32) (s : State) : (triggerMatch code a b stamp arg info s).tb = s.tb := by simp [triggerMatch]
@[simp] theorem triggerMatch_tbAcc (code a b stamp : Nat) (arg info : W32) (s : State) : (triggerMatch code a b stamp arg info s).tbAcc = s.tbAcc := by simp [triggerMatch]
@[simp] theorem triggerMatch_tbLat (code a b stamp : Nat) (arg info : W32) (s : State) : (triggerMatch code a b stamp arg info s).tbLat = s.tbLat := by simp [triggerMatch]
@[simp] theorem triggerMatch_img (code a b stamp : Nat) (arg info : W32) (s : State) : (triggerMatch code a b stamp arg info s).img = s.img := by simp [triggerMatch]
@[simp] theorem triggerMatch_frc (code a b stamp : Nat) (arg info : W32) (s : State) : (triggerMatch code a b stamp arg info s).frc = s.frc := by simp [triggerMatch]
@[simp] theorem triggerMatch_laneA (code a b stamp : Nat) (arg info : W32) (s : State) : (triggerMatch code a b stamp arg info s).laneA = s.laneA := by simp [triggerMatch]
@[simp] theorem triggerMatch_laneB (code a b stamp : Nat) (arg info : W32) (s : State) : (triggerMatch code a b stamp arg info s).laneB = s.laneB := by simp [triggerMatch]
@[simp] theorem triggerMatch_lsk (code a b stamp : Nat) (arg info : W32) (s : State) : (triggerMatch code a b stamp arg info s).lsk = s.lsk := by simp [triggerMatch]
@[simp] theorem triggerMatch_pair (code a b stamp : Nat) (arg info : W32) (s : State) : (triggerMatch code a b stamp arg info s).pair = s.pair := by simp [triggerMatch]
@[simp] theorem triggerMatch_lease (code a b stamp : Nat) (arg info : W32) (s : State) : (triggerMatch code a b stamp arg info s).lease = s.lease := by simp [triggerMatch]
@[simp] theorem triggerMatch_mir (code a b stamp : Nat) (arg info : W32) (s : State) : (triggerMatch code a b stamp arg info s).mir = s.mir := by simp [triggerMatch]
@[simp] theorem triggerMatch_links (code a b stamp : Nat) (arg info : W32) (s : State) : (triggerMatch code a b stamp arg info s).links = s.links := by simp [triggerMatch]
@[simp] theorem triggerMatch_io (code a b stamp : Nat) (arg info : W32) (s : State) : (triggerMatch code a b stamp arg info s).io = s.io := by simp [triggerMatch]
@[simp] theorem triggerMatch_can (code a b stamp : Nat) (arg info : W32) (s : State) : (triggerMatch code a b stamp arg info s).can = s.can := by simp [triggerMatch]
@[simp] theorem triggerMatch_ses (code a b stamp : Nat) (arg info : W32) (s : State) : (triggerMatch code a b stamp arg info s).ses = s.ses := by simp [triggerMatch]
@[simp] theorem triggerMatch_pwr (code a b stamp : Nat) (arg info : W32) (s : State) : (triggerMatch code a b stamp arg info s).pwr = s.pwr := by simp [triggerMatch]
@[simp] theorem triggerMatch_tel (code a b stamp : Nat) (arg info : W32) (s : State) : (triggerMatch code a b stamp arg info s).tel = s.tel := by simp [triggerMatch]
@[simp] theorem triggerMatch_evr (code a b stamp : Nat) (arg info : W32) (s : State) : (triggerMatch code a b stamp arg info s).evr = s.evr := by simp [triggerMatch]
@[simp] theorem triggerMatch_lcd (code a b stamp : Nat) (arg info : W32) (s : State) : (triggerMatch code a b stamp arg info s).lcd = s.lcd := by simp [triggerMatch]
@[simp] theorem triggerMatch_mod (code a b stamp : Nat) (arg info : W32) (s : State) : (triggerMatch code a b stamp arg info s).mod = s.mod := by simp [triggerMatch]

@[simp] theorem triggerReason_pending (task : Option (Fin 128)) (reason : Byte) (arg info : W32) (s : State) : (triggerReason task reason arg info s).pending = s.pending := by cases task <;> simp [triggerReason]
@[simp] theorem triggerReason_free (task : Option (Fin 128)) (reason : Byte) (arg info : W32) (s : State) : (triggerReason task reason arg info s).free = s.free := by cases task <;> simp [triggerReason]
@[simp] theorem triggerReason_out (task : Option (Fin 128)) (reason : Byte) (arg info : W32) (s : State) : (triggerReason task reason arg info s).out = s.out := by cases task <;> simp [triggerReason]
@[simp] theorem triggerReason_flight (task : Option (Fin 128)) (reason : Byte) (arg info : W32) (s : State) : (triggerReason task reason arg info s).flight = s.flight := by cases task <;> simp [triggerReason]
@[simp] theorem triggerReason_mem (task : Option (Fin 128)) (reason : Byte) (arg info : W32) (s : State) : (triggerReason task reason arg info s).mem = s.mem := by cases task <;> simp [triggerReason]
@[simp] theorem triggerReason_tb (task : Option (Fin 128)) (reason : Byte) (arg info : W32) (s : State) : (triggerReason task reason arg info s).tb = s.tb := by cases task <;> simp [triggerReason]
@[simp] theorem triggerReason_tbAcc (task : Option (Fin 128)) (reason : Byte) (arg info : W32) (s : State) : (triggerReason task reason arg info s).tbAcc = s.tbAcc := by cases task <;> simp [triggerReason]
@[simp] theorem triggerReason_tbLat (task : Option (Fin 128)) (reason : Byte) (arg info : W32) (s : State) : (triggerReason task reason arg info s).tbLat = s.tbLat := by cases task <;> simp [triggerReason]
@[simp] theorem triggerReason_img (task : Option (Fin 128)) (reason : Byte) (arg info : W32) (s : State) : (triggerReason task reason arg info s).img = s.img := by cases task <;> simp [triggerReason]
@[simp] theorem triggerReason_frc (task : Option (Fin 128)) (reason : Byte) (arg info : W32) (s : State) : (triggerReason task reason arg info s).frc = s.frc := by cases task <;> simp [triggerReason]
@[simp] theorem triggerReason_laneA (task : Option (Fin 128)) (reason : Byte) (arg info : W32) (s : State) : (triggerReason task reason arg info s).laneA = s.laneA := by cases task <;> simp [triggerReason]
@[simp] theorem triggerReason_laneB (task : Option (Fin 128)) (reason : Byte) (arg info : W32) (s : State) : (triggerReason task reason arg info s).laneB = s.laneB := by cases task <;> simp [triggerReason]
@[simp] theorem triggerReason_lsk (task : Option (Fin 128)) (reason : Byte) (arg info : W32) (s : State) : (triggerReason task reason arg info s).lsk = s.lsk := by cases task <;> simp [triggerReason]
@[simp] theorem triggerReason_pair (task : Option (Fin 128)) (reason : Byte) (arg info : W32) (s : State) : (triggerReason task reason arg info s).pair = s.pair := by cases task <;> simp [triggerReason]
@[simp] theorem triggerReason_lease (task : Option (Fin 128)) (reason : Byte) (arg info : W32) (s : State) : (triggerReason task reason arg info s).lease = s.lease := by cases task <;> simp [triggerReason]
@[simp] theorem triggerReason_mir (task : Option (Fin 128)) (reason : Byte) (arg info : W32) (s : State) : (triggerReason task reason arg info s).mir = s.mir := by cases task <;> simp [triggerReason]
@[simp] theorem triggerReason_links (task : Option (Fin 128)) (reason : Byte) (arg info : W32) (s : State) : (triggerReason task reason arg info s).links = s.links := by cases task <;> simp [triggerReason]
@[simp] theorem triggerReason_io (task : Option (Fin 128)) (reason : Byte) (arg info : W32) (s : State) : (triggerReason task reason arg info s).io = s.io := by cases task <;> simp [triggerReason]
@[simp] theorem triggerReason_can (task : Option (Fin 128)) (reason : Byte) (arg info : W32) (s : State) : (triggerReason task reason arg info s).can = s.can := by cases task <;> simp [triggerReason]
@[simp] theorem triggerReason_ses (task : Option (Fin 128)) (reason : Byte) (arg info : W32) (s : State) : (triggerReason task reason arg info s).ses = s.ses := by cases task <;> simp [triggerReason]
@[simp] theorem triggerReason_pwr (task : Option (Fin 128)) (reason : Byte) (arg info : W32) (s : State) : (triggerReason task reason arg info s).pwr = s.pwr := by cases task <;> simp [triggerReason]
@[simp] theorem triggerReason_tel (task : Option (Fin 128)) (reason : Byte) (arg info : W32) (s : State) : (triggerReason task reason arg info s).tel = s.tel := by cases task <;> simp [triggerReason]
@[simp] theorem triggerReason_evr (task : Option (Fin 128)) (reason : Byte) (arg info : W32) (s : State) : (triggerReason task reason arg info s).evr = s.evr := by cases task <;> simp [triggerReason]
@[simp] theorem triggerReason_lcd (task : Option (Fin 128)) (reason : Byte) (arg info : W32) (s : State) : (triggerReason task reason arg info s).lcd = s.lcd := by cases task <;> simp [triggerReason]
@[simp] theorem triggerReason_mod (task : Option (Fin 128)) (reason : Byte) (arg info : W32) (s : State) : (triggerReason task reason arg info s).mod = s.mod := by cases task <;> simp [triggerReason]


/-! ### Islands and channels -/

@[simp] theorem onChan_pending (c : Fin 192) (f : Chan → Chan) (s : State) : (onChan c f s).pending = s.pending := rfl
@[simp] theorem onChan_free (c : Fin 192) (f : Chan → Chan) (s : State) : (onChan c f s).free = s.free := rfl
@[simp] theorem onChan_out (c : Fin 192) (f : Chan → Chan) (s : State) : (onChan c f s).out = s.out := rfl
@[simp] theorem onChan_flight (c : Fin 192) (f : Chan → Chan) (s : State) : (onChan c f s).flight = s.flight := rfl
@[simp] theorem onChan_mem (c : Fin 192) (f : Chan → Chan) (s : State) : (onChan c f s).mem = s.mem := rfl
@[simp] theorem onChan_tb (c : Fin 192) (f : Chan → Chan) (s : State) : (onChan c f s).tb = s.tb := rfl
@[simp] theorem onChan_tbAcc (c : Fin 192) (f : Chan → Chan) (s : State) : (onChan c f s).tbAcc = s.tbAcc := rfl
@[simp] theorem onChan_tbLat (c : Fin 192) (f : Chan → Chan) (s : State) : (onChan c f s).tbLat = s.tbLat := rfl
@[simp] theorem onChan_tsk (c : Fin 192) (f : Chan → Chan) (s : State) : (onChan c f s).tsk = s.tsk := rfl
@[simp] theorem onChan_img (c : Fin 192) (f : Chan → Chan) (s : State) : (onChan c f s).img = s.img := rfl
@[simp] theorem onChan_frc (c : Fin 192) (f : Chan → Chan) (s : State) : (onChan c f s).frc = s.frc := rfl
@[simp] theorem onChan_laneA (c : Fin 192) (f : Chan → Chan) (s : State) : (onChan c f s).laneA = s.laneA := rfl
@[simp] theorem onChan_laneB (c : Fin 192) (f : Chan → Chan) (s : State) : (onChan c f s).laneB = s.laneB := rfl
@[simp] theorem onChan_lsk (c : Fin 192) (f : Chan → Chan) (s : State) : (onChan c f s).lsk = s.lsk := rfl
@[simp] theorem onChan_pair (c : Fin 192) (f : Chan → Chan) (s : State) : (onChan c f s).pair = s.pair := rfl
@[simp] theorem onChan_lease (c : Fin 192) (f : Chan → Chan) (s : State) : (onChan c f s).lease = s.lease := rfl
@[simp] theorem onChan_mir (c : Fin 192) (f : Chan → Chan) (s : State) : (onChan c f s).mir = s.mir := rfl
@[simp] theorem onChan_links (c : Fin 192) (f : Chan → Chan) (s : State) : (onChan c f s).links = s.links := rfl
@[simp] theorem onChan_can (c : Fin 192) (f : Chan → Chan) (s : State) : (onChan c f s).can = s.can := rfl
@[simp] theorem onChan_ses (c : Fin 192) (f : Chan → Chan) (s : State) : (onChan c f s).ses = s.ses := rfl
@[simp] theorem onChan_pwr (c : Fin 192) (f : Chan → Chan) (s : State) : (onChan c f s).pwr = s.pwr := rfl
@[simp] theorem onChan_tel (c : Fin 192) (f : Chan → Chan) (s : State) : (onChan c f s).tel = s.tel := rfl
@[simp] theorem onChan_evr (c : Fin 192) (f : Chan → Chan) (s : State) : (onChan c f s).evr = s.evr := rfl
@[simp] theorem onChan_lcd (c : Fin 192) (f : Chan → Chan) (s : State) : (onChan c f s).lcd = s.lcd := rfl
@[simp] theorem onChan_mod (c : Fin 192) (f : Chan → Chan) (s : State) : (onChan c f s).mod = s.mod := rfl

@[simp] theorem onAi_pending (c : Fin 192) (f : AiChan → AiChan) (s : State) : (onAi c f s).pending = s.pending := rfl
@[simp] theorem onAi_free (c : Fin 192) (f : AiChan → AiChan) (s : State) : (onAi c f s).free = s.free := rfl
@[simp] theorem onAi_out (c : Fin 192) (f : AiChan → AiChan) (s : State) : (onAi c f s).out = s.out := rfl
@[simp] theorem onAi_flight (c : Fin 192) (f : AiChan → AiChan) (s : State) : (onAi c f s).flight = s.flight := rfl
@[simp] theorem onAi_mem (c : Fin 192) (f : AiChan → AiChan) (s : State) : (onAi c f s).mem = s.mem := rfl
@[simp] theorem onAi_tb (c : Fin 192) (f : AiChan → AiChan) (s : State) : (onAi c f s).tb = s.tb := rfl
@[simp] theorem onAi_tbAcc (c : Fin 192) (f : AiChan → AiChan) (s : State) : (onAi c f s).tbAcc = s.tbAcc := rfl
@[simp] theorem onAi_tbLat (c : Fin 192) (f : AiChan → AiChan) (s : State) : (onAi c f s).tbLat = s.tbLat := rfl
@[simp] theorem onAi_tsk (c : Fin 192) (f : AiChan → AiChan) (s : State) : (onAi c f s).tsk = s.tsk := rfl
@[simp] theorem onAi_img (c : Fin 192) (f : AiChan → AiChan) (s : State) : (onAi c f s).img = s.img := rfl
@[simp] theorem onAi_frc (c : Fin 192) (f : AiChan → AiChan) (s : State) : (onAi c f s).frc = s.frc := rfl
@[simp] theorem onAi_laneA (c : Fin 192) (f : AiChan → AiChan) (s : State) : (onAi c f s).laneA = s.laneA := rfl
@[simp] theorem onAi_laneB (c : Fin 192) (f : AiChan → AiChan) (s : State) : (onAi c f s).laneB = s.laneB := rfl
@[simp] theorem onAi_lsk (c : Fin 192) (f : AiChan → AiChan) (s : State) : (onAi c f s).lsk = s.lsk := rfl
@[simp] theorem onAi_pair (c : Fin 192) (f : AiChan → AiChan) (s : State) : (onAi c f s).pair = s.pair := rfl
@[simp] theorem onAi_lease (c : Fin 192) (f : AiChan → AiChan) (s : State) : (onAi c f s).lease = s.lease := rfl
@[simp] theorem onAi_mir (c : Fin 192) (f : AiChan → AiChan) (s : State) : (onAi c f s).mir = s.mir := rfl
@[simp] theorem onAi_links (c : Fin 192) (f : AiChan → AiChan) (s : State) : (onAi c f s).links = s.links := rfl
@[simp] theorem onAi_can (c : Fin 192) (f : AiChan → AiChan) (s : State) : (onAi c f s).can = s.can := rfl
@[simp] theorem onAi_ses (c : Fin 192) (f : AiChan → AiChan) (s : State) : (onAi c f s).ses = s.ses := rfl
@[simp] theorem onAi_pwr (c : Fin 192) (f : AiChan → AiChan) (s : State) : (onAi c f s).pwr = s.pwr := rfl
@[simp] theorem onAi_tel (c : Fin 192) (f : AiChan → AiChan) (s : State) : (onAi c f s).tel = s.tel := rfl
@[simp] theorem onAi_evr (c : Fin 192) (f : AiChan → AiChan) (s : State) : (onAi c f s).evr = s.evr := rfl
@[simp] theorem onAi_lcd (c : Fin 192) (f : AiChan → AiChan) (s : State) : (onAi c f s).lcd = s.lcd := rfl
@[simp] theorem onAi_mod (c : Fin 192) (f : AiChan → AiChan) (s : State) : (onAi c f s).mod = s.mod := rfl

@[simp] theorem onAo_pending (c : Fin 192) (f : AoChan → AoChan) (s : State) : (onAo c f s).pending = s.pending := rfl
@[simp] theorem onAo_free (c : Fin 192) (f : AoChan → AoChan) (s : State) : (onAo c f s).free = s.free := rfl
@[simp] theorem onAo_out (c : Fin 192) (f : AoChan → AoChan) (s : State) : (onAo c f s).out = s.out := rfl
@[simp] theorem onAo_flight (c : Fin 192) (f : AoChan → AoChan) (s : State) : (onAo c f s).flight = s.flight := rfl
@[simp] theorem onAo_mem (c : Fin 192) (f : AoChan → AoChan) (s : State) : (onAo c f s).mem = s.mem := rfl
@[simp] theorem onAo_tb (c : Fin 192) (f : AoChan → AoChan) (s : State) : (onAo c f s).tb = s.tb := rfl
@[simp] theorem onAo_tbAcc (c : Fin 192) (f : AoChan → AoChan) (s : State) : (onAo c f s).tbAcc = s.tbAcc := rfl
@[simp] theorem onAo_tbLat (c : Fin 192) (f : AoChan → AoChan) (s : State) : (onAo c f s).tbLat = s.tbLat := rfl
@[simp] theorem onAo_tsk (c : Fin 192) (f : AoChan → AoChan) (s : State) : (onAo c f s).tsk = s.tsk := rfl
@[simp] theorem onAo_img (c : Fin 192) (f : AoChan → AoChan) (s : State) : (onAo c f s).img = s.img := rfl
@[simp] theorem onAo_frc (c : Fin 192) (f : AoChan → AoChan) (s : State) : (onAo c f s).frc = s.frc := rfl
@[simp] theorem onAo_laneA (c : Fin 192) (f : AoChan → AoChan) (s : State) : (onAo c f s).laneA = s.laneA := rfl
@[simp] theorem onAo_laneB (c : Fin 192) (f : AoChan → AoChan) (s : State) : (onAo c f s).laneB = s.laneB := rfl
@[simp] theorem onAo_lsk (c : Fin 192) (f : AoChan → AoChan) (s : State) : (onAo c f s).lsk = s.lsk := rfl
@[simp] theorem onAo_pair (c : Fin 192) (f : AoChan → AoChan) (s : State) : (onAo c f s).pair = s.pair := rfl
@[simp] theorem onAo_lease (c : Fin 192) (f : AoChan → AoChan) (s : State) : (onAo c f s).lease = s.lease := rfl
@[simp] theorem onAo_mir (c : Fin 192) (f : AoChan → AoChan) (s : State) : (onAo c f s).mir = s.mir := rfl
@[simp] theorem onAo_links (c : Fin 192) (f : AoChan → AoChan) (s : State) : (onAo c f s).links = s.links := rfl
@[simp] theorem onAo_can (c : Fin 192) (f : AoChan → AoChan) (s : State) : (onAo c f s).can = s.can := rfl
@[simp] theorem onAo_ses (c : Fin 192) (f : AoChan → AoChan) (s : State) : (onAo c f s).ses = s.ses := rfl
@[simp] theorem onAo_pwr (c : Fin 192) (f : AoChan → AoChan) (s : State) : (onAo c f s).pwr = s.pwr := rfl
@[simp] theorem onAo_tel (c : Fin 192) (f : AoChan → AoChan) (s : State) : (onAo c f s).tel = s.tel := rfl
@[simp] theorem onAo_evr (c : Fin 192) (f : AoChan → AoChan) (s : State) : (onAo c f s).evr = s.evr := rfl
@[simp] theorem onAo_lcd (c : Fin 192) (f : AoChan → AoChan) (s : State) : (onAo c f s).lcd = s.lcd := rfl
@[simp] theorem onAo_mod (c : Fin 192) (f : AoChan → AoChan) (s : State) : (onAo c f s).mod = s.mod := rfl

@[simp] theorem onDi_pending (c : Fin 192) (f : DiChan → DiChan) (s : State) : (onDi c f s).pending = s.pending := rfl
@[simp] theorem onDi_free (c : Fin 192) (f : DiChan → DiChan) (s : State) : (onDi c f s).free = s.free := rfl
@[simp] theorem onDi_out (c : Fin 192) (f : DiChan → DiChan) (s : State) : (onDi c f s).out = s.out := rfl
@[simp] theorem onDi_flight (c : Fin 192) (f : DiChan → DiChan) (s : State) : (onDi c f s).flight = s.flight := rfl
@[simp] theorem onDi_mem (c : Fin 192) (f : DiChan → DiChan) (s : State) : (onDi c f s).mem = s.mem := rfl
@[simp] theorem onDi_tb (c : Fin 192) (f : DiChan → DiChan) (s : State) : (onDi c f s).tb = s.tb := rfl
@[simp] theorem onDi_tbAcc (c : Fin 192) (f : DiChan → DiChan) (s : State) : (onDi c f s).tbAcc = s.tbAcc := rfl
@[simp] theorem onDi_tbLat (c : Fin 192) (f : DiChan → DiChan) (s : State) : (onDi c f s).tbLat = s.tbLat := rfl
@[simp] theorem onDi_tsk (c : Fin 192) (f : DiChan → DiChan) (s : State) : (onDi c f s).tsk = s.tsk := rfl
@[simp] theorem onDi_img (c : Fin 192) (f : DiChan → DiChan) (s : State) : (onDi c f s).img = s.img := rfl
@[simp] theorem onDi_frc (c : Fin 192) (f : DiChan → DiChan) (s : State) : (onDi c f s).frc = s.frc := rfl
@[simp] theorem onDi_laneA (c : Fin 192) (f : DiChan → DiChan) (s : State) : (onDi c f s).laneA = s.laneA := rfl
@[simp] theorem onDi_laneB (c : Fin 192) (f : DiChan → DiChan) (s : State) : (onDi c f s).laneB = s.laneB := rfl
@[simp] theorem onDi_lsk (c : Fin 192) (f : DiChan → DiChan) (s : State) : (onDi c f s).lsk = s.lsk := rfl
@[simp] theorem onDi_pair (c : Fin 192) (f : DiChan → DiChan) (s : State) : (onDi c f s).pair = s.pair := rfl
@[simp] theorem onDi_lease (c : Fin 192) (f : DiChan → DiChan) (s : State) : (onDi c f s).lease = s.lease := rfl
@[simp] theorem onDi_mir (c : Fin 192) (f : DiChan → DiChan) (s : State) : (onDi c f s).mir = s.mir := rfl
@[simp] theorem onDi_links (c : Fin 192) (f : DiChan → DiChan) (s : State) : (onDi c f s).links = s.links := rfl
@[simp] theorem onDi_can (c : Fin 192) (f : DiChan → DiChan) (s : State) : (onDi c f s).can = s.can := rfl
@[simp] theorem onDi_ses (c : Fin 192) (f : DiChan → DiChan) (s : State) : (onDi c f s).ses = s.ses := rfl
@[simp] theorem onDi_pwr (c : Fin 192) (f : DiChan → DiChan) (s : State) : (onDi c f s).pwr = s.pwr := rfl
@[simp] theorem onDi_tel (c : Fin 192) (f : DiChan → DiChan) (s : State) : (onDi c f s).tel = s.tel := rfl
@[simp] theorem onDi_evr (c : Fin 192) (f : DiChan → DiChan) (s : State) : (onDi c f s).evr = s.evr := rfl
@[simp] theorem onDi_lcd (c : Fin 192) (f : DiChan → DiChan) (s : State) : (onDi c f s).lcd = s.lcd := rfl
@[simp] theorem onDi_mod (c : Fin 192) (f : DiChan → DiChan) (s : State) : (onDi c f s).mod = s.mod := rfl

@[simp] theorem onDo_pending (c : Fin 192) (f : DoChan → DoChan) (s : State) : (onDo c f s).pending = s.pending := rfl
@[simp] theorem onDo_free (c : Fin 192) (f : DoChan → DoChan) (s : State) : (onDo c f s).free = s.free := rfl
@[simp] theorem onDo_out (c : Fin 192) (f : DoChan → DoChan) (s : State) : (onDo c f s).out = s.out := rfl
@[simp] theorem onDo_flight (c : Fin 192) (f : DoChan → DoChan) (s : State) : (onDo c f s).flight = s.flight := rfl
@[simp] theorem onDo_mem (c : Fin 192) (f : DoChan → DoChan) (s : State) : (onDo c f s).mem = s.mem := rfl
@[simp] theorem onDo_tb (c : Fin 192) (f : DoChan → DoChan) (s : State) : (onDo c f s).tb = s.tb := rfl
@[simp] theorem onDo_tbAcc (c : Fin 192) (f : DoChan → DoChan) (s : State) : (onDo c f s).tbAcc = s.tbAcc := rfl
@[simp] theorem onDo_tbLat (c : Fin 192) (f : DoChan → DoChan) (s : State) : (onDo c f s).tbLat = s.tbLat := rfl
@[simp] theorem onDo_tsk (c : Fin 192) (f : DoChan → DoChan) (s : State) : (onDo c f s).tsk = s.tsk := rfl
@[simp] theorem onDo_img (c : Fin 192) (f : DoChan → DoChan) (s : State) : (onDo c f s).img = s.img := rfl
@[simp] theorem onDo_frc (c : Fin 192) (f : DoChan → DoChan) (s : State) : (onDo c f s).frc = s.frc := rfl
@[simp] theorem onDo_laneA (c : Fin 192) (f : DoChan → DoChan) (s : State) : (onDo c f s).laneA = s.laneA := rfl
@[simp] theorem onDo_laneB (c : Fin 192) (f : DoChan → DoChan) (s : State) : (onDo c f s).laneB = s.laneB := rfl
@[simp] theorem onDo_lsk (c : Fin 192) (f : DoChan → DoChan) (s : State) : (onDo c f s).lsk = s.lsk := rfl
@[simp] theorem onDo_pair (c : Fin 192) (f : DoChan → DoChan) (s : State) : (onDo c f s).pair = s.pair := rfl
@[simp] theorem onDo_lease (c : Fin 192) (f : DoChan → DoChan) (s : State) : (onDo c f s).lease = s.lease := rfl
@[simp] theorem onDo_mir (c : Fin 192) (f : DoChan → DoChan) (s : State) : (onDo c f s).mir = s.mir := rfl
@[simp] theorem onDo_links (c : Fin 192) (f : DoChan → DoChan) (s : State) : (onDo c f s).links = s.links := rfl
@[simp] theorem onDo_can (c : Fin 192) (f : DoChan → DoChan) (s : State) : (onDo c f s).can = s.can := rfl
@[simp] theorem onDo_ses (c : Fin 192) (f : DoChan → DoChan) (s : State) : (onDo c f s).ses = s.ses := rfl
@[simp] theorem onDo_pwr (c : Fin 192) (f : DoChan → DoChan) (s : State) : (onDo c f s).pwr = s.pwr := rfl
@[simp] theorem onDo_tel (c : Fin 192) (f : DoChan → DoChan) (s : State) : (onDo c f s).tel = s.tel := rfl
@[simp] theorem onDo_evr (c : Fin 192) (f : DoChan → DoChan) (s : State) : (onDo c f s).evr = s.evr := rfl
@[simp] theorem onDo_lcd (c : Fin 192) (f : DoChan → DoChan) (s : State) : (onDo c f s).lcd = s.lcd := rfl
@[simp] theorem onDo_mod (c : Fin 192) (f : DoChan → DoChan) (s : State) : (onDo c f s).mod = s.mod := rfl

@[simp] theorem onIsl_pending (n : Fin 24) (f : Isl → Isl) (s : State) : (onIsl n f s).pending = s.pending := rfl
@[simp] theorem onIsl_free (n : Fin 24) (f : Isl → Isl) (s : State) : (onIsl n f s).free = s.free := rfl
@[simp] theorem onIsl_out (n : Fin 24) (f : Isl → Isl) (s : State) : (onIsl n f s).out = s.out := rfl
@[simp] theorem onIsl_flight (n : Fin 24) (f : Isl → Isl) (s : State) : (onIsl n f s).flight = s.flight := rfl
@[simp] theorem onIsl_mem (n : Fin 24) (f : Isl → Isl) (s : State) : (onIsl n f s).mem = s.mem := rfl
@[simp] theorem onIsl_tb (n : Fin 24) (f : Isl → Isl) (s : State) : (onIsl n f s).tb = s.tb := rfl
@[simp] theorem onIsl_tbAcc (n : Fin 24) (f : Isl → Isl) (s : State) : (onIsl n f s).tbAcc = s.tbAcc := rfl
@[simp] theorem onIsl_tbLat (n : Fin 24) (f : Isl → Isl) (s : State) : (onIsl n f s).tbLat = s.tbLat := rfl
@[simp] theorem onIsl_tsk (n : Fin 24) (f : Isl → Isl) (s : State) : (onIsl n f s).tsk = s.tsk := rfl
@[simp] theorem onIsl_img (n : Fin 24) (f : Isl → Isl) (s : State) : (onIsl n f s).img = s.img := rfl
@[simp] theorem onIsl_frc (n : Fin 24) (f : Isl → Isl) (s : State) : (onIsl n f s).frc = s.frc := rfl
@[simp] theorem onIsl_laneA (n : Fin 24) (f : Isl → Isl) (s : State) : (onIsl n f s).laneA = s.laneA := rfl
@[simp] theorem onIsl_laneB (n : Fin 24) (f : Isl → Isl) (s : State) : (onIsl n f s).laneB = s.laneB := rfl
@[simp] theorem onIsl_lsk (n : Fin 24) (f : Isl → Isl) (s : State) : (onIsl n f s).lsk = s.lsk := rfl
@[simp] theorem onIsl_pair (n : Fin 24) (f : Isl → Isl) (s : State) : (onIsl n f s).pair = s.pair := rfl
@[simp] theorem onIsl_lease (n : Fin 24) (f : Isl → Isl) (s : State) : (onIsl n f s).lease = s.lease := rfl
@[simp] theorem onIsl_mir (n : Fin 24) (f : Isl → Isl) (s : State) : (onIsl n f s).mir = s.mir := rfl
@[simp] theorem onIsl_links (n : Fin 24) (f : Isl → Isl) (s : State) : (onIsl n f s).links = s.links := rfl
@[simp] theorem onIsl_can (n : Fin 24) (f : Isl → Isl) (s : State) : (onIsl n f s).can = s.can := rfl
@[simp] theorem onIsl_ses (n : Fin 24) (f : Isl → Isl) (s : State) : (onIsl n f s).ses = s.ses := rfl
@[simp] theorem onIsl_pwr (n : Fin 24) (f : Isl → Isl) (s : State) : (onIsl n f s).pwr = s.pwr := rfl
@[simp] theorem onIsl_tel (n : Fin 24) (f : Isl → Isl) (s : State) : (onIsl n f s).tel = s.tel := rfl
@[simp] theorem onIsl_evr (n : Fin 24) (f : Isl → Isl) (s : State) : (onIsl n f s).evr = s.evr := rfl
@[simp] theorem onIsl_lcd (n : Fin 24) (f : Isl → Isl) (s : State) : (onIsl n f s).lcd = s.lcd := rfl
@[simp] theorem onIsl_mod (n : Fin 24) (f : Isl → Isl) (s : State) : (onIsl n f s).mod = s.mod := rfl

@[simp] theorem onOwn_pending (n : Fin 24) (f : IslSelf → IslSelf) (s : State) : (onOwn n f s).pending = s.pending := rfl
@[simp] theorem onOwn_free (n : Fin 24) (f : IslSelf → IslSelf) (s : State) : (onOwn n f s).free = s.free := rfl
@[simp] theorem onOwn_out (n : Fin 24) (f : IslSelf → IslSelf) (s : State) : (onOwn n f s).out = s.out := rfl
@[simp] theorem onOwn_flight (n : Fin 24) (f : IslSelf → IslSelf) (s : State) : (onOwn n f s).flight = s.flight := rfl
@[simp] theorem onOwn_mem (n : Fin 24) (f : IslSelf → IslSelf) (s : State) : (onOwn n f s).mem = s.mem := rfl
@[simp] theorem onOwn_tb (n : Fin 24) (f : IslSelf → IslSelf) (s : State) : (onOwn n f s).tb = s.tb := rfl
@[simp] theorem onOwn_tbAcc (n : Fin 24) (f : IslSelf → IslSelf) (s : State) : (onOwn n f s).tbAcc = s.tbAcc := rfl
@[simp] theorem onOwn_tbLat (n : Fin 24) (f : IslSelf → IslSelf) (s : State) : (onOwn n f s).tbLat = s.tbLat := rfl
@[simp] theorem onOwn_tsk (n : Fin 24) (f : IslSelf → IslSelf) (s : State) : (onOwn n f s).tsk = s.tsk := rfl
@[simp] theorem onOwn_img (n : Fin 24) (f : IslSelf → IslSelf) (s : State) : (onOwn n f s).img = s.img := rfl
@[simp] theorem onOwn_frc (n : Fin 24) (f : IslSelf → IslSelf) (s : State) : (onOwn n f s).frc = s.frc := rfl
@[simp] theorem onOwn_laneA (n : Fin 24) (f : IslSelf → IslSelf) (s : State) : (onOwn n f s).laneA = s.laneA := rfl
@[simp] theorem onOwn_laneB (n : Fin 24) (f : IslSelf → IslSelf) (s : State) : (onOwn n f s).laneB = s.laneB := rfl
@[simp] theorem onOwn_lsk (n : Fin 24) (f : IslSelf → IslSelf) (s : State) : (onOwn n f s).lsk = s.lsk := rfl
@[simp] theorem onOwn_pair (n : Fin 24) (f : IslSelf → IslSelf) (s : State) : (onOwn n f s).pair = s.pair := rfl
@[simp] theorem onOwn_lease (n : Fin 24) (f : IslSelf → IslSelf) (s : State) : (onOwn n f s).lease = s.lease := rfl
@[simp] theorem onOwn_mir (n : Fin 24) (f : IslSelf → IslSelf) (s : State) : (onOwn n f s).mir = s.mir := rfl
@[simp] theorem onOwn_links (n : Fin 24) (f : IslSelf → IslSelf) (s : State) : (onOwn n f s).links = s.links := rfl
@[simp] theorem onOwn_can (n : Fin 24) (f : IslSelf → IslSelf) (s : State) : (onOwn n f s).can = s.can := rfl
@[simp] theorem onOwn_ses (n : Fin 24) (f : IslSelf → IslSelf) (s : State) : (onOwn n f s).ses = s.ses := rfl
@[simp] theorem onOwn_pwr (n : Fin 24) (f : IslSelf → IslSelf) (s : State) : (onOwn n f s).pwr = s.pwr := rfl
@[simp] theorem onOwn_tel (n : Fin 24) (f : IslSelf → IslSelf) (s : State) : (onOwn n f s).tel = s.tel := rfl
@[simp] theorem onOwn_evr (n : Fin 24) (f : IslSelf → IslSelf) (s : State) : (onOwn n f s).evr = s.evr := rfl
@[simp] theorem onOwn_lcd (n : Fin 24) (f : IslSelf → IslSelf) (s : State) : (onOwn n f s).lcd = s.lcd := rfl
@[simp] theorem onOwn_mod (n : Fin 24) (f : IslSelf → IslSelf) (s : State) : (onOwn n f s).mod = s.mod := rfl

@[simp] theorem onSup_pending (n : Fin 24) (f : IslSupply → IslSupply) (s : State) : (onSup n f s).pending = s.pending := rfl
@[simp] theorem onSup_free (n : Fin 24) (f : IslSupply → IslSupply) (s : State) : (onSup n f s).free = s.free := rfl
@[simp] theorem onSup_out (n : Fin 24) (f : IslSupply → IslSupply) (s : State) : (onSup n f s).out = s.out := rfl
@[simp] theorem onSup_flight (n : Fin 24) (f : IslSupply → IslSupply) (s : State) : (onSup n f s).flight = s.flight := rfl
@[simp] theorem onSup_mem (n : Fin 24) (f : IslSupply → IslSupply) (s : State) : (onSup n f s).mem = s.mem := rfl
@[simp] theorem onSup_tb (n : Fin 24) (f : IslSupply → IslSupply) (s : State) : (onSup n f s).tb = s.tb := rfl
@[simp] theorem onSup_tbAcc (n : Fin 24) (f : IslSupply → IslSupply) (s : State) : (onSup n f s).tbAcc = s.tbAcc := rfl
@[simp] theorem onSup_tbLat (n : Fin 24) (f : IslSupply → IslSupply) (s : State) : (onSup n f s).tbLat = s.tbLat := rfl
@[simp] theorem onSup_tsk (n : Fin 24) (f : IslSupply → IslSupply) (s : State) : (onSup n f s).tsk = s.tsk := rfl
@[simp] theorem onSup_img (n : Fin 24) (f : IslSupply → IslSupply) (s : State) : (onSup n f s).img = s.img := rfl
@[simp] theorem onSup_frc (n : Fin 24) (f : IslSupply → IslSupply) (s : State) : (onSup n f s).frc = s.frc := rfl
@[simp] theorem onSup_laneA (n : Fin 24) (f : IslSupply → IslSupply) (s : State) : (onSup n f s).laneA = s.laneA := rfl
@[simp] theorem onSup_laneB (n : Fin 24) (f : IslSupply → IslSupply) (s : State) : (onSup n f s).laneB = s.laneB := rfl
@[simp] theorem onSup_lsk (n : Fin 24) (f : IslSupply → IslSupply) (s : State) : (onSup n f s).lsk = s.lsk := rfl
@[simp] theorem onSup_pair (n : Fin 24) (f : IslSupply → IslSupply) (s : State) : (onSup n f s).pair = s.pair := rfl
@[simp] theorem onSup_lease (n : Fin 24) (f : IslSupply → IslSupply) (s : State) : (onSup n f s).lease = s.lease := rfl
@[simp] theorem onSup_mir (n : Fin 24) (f : IslSupply → IslSupply) (s : State) : (onSup n f s).mir = s.mir := rfl
@[simp] theorem onSup_links (n : Fin 24) (f : IslSupply → IslSupply) (s : State) : (onSup n f s).links = s.links := rfl
@[simp] theorem onSup_can (n : Fin 24) (f : IslSupply → IslSupply) (s : State) : (onSup n f s).can = s.can := rfl
@[simp] theorem onSup_ses (n : Fin 24) (f : IslSupply → IslSupply) (s : State) : (onSup n f s).ses = s.ses := rfl
@[simp] theorem onSup_pwr (n : Fin 24) (f : IslSupply → IslSupply) (s : State) : (onSup n f s).pwr = s.pwr := rfl
@[simp] theorem onSup_tel (n : Fin 24) (f : IslSupply → IslSupply) (s : State) : (onSup n f s).tel = s.tel := rfl
@[simp] theorem onSup_evr (n : Fin 24) (f : IslSupply → IslSupply) (s : State) : (onSup n f s).evr = s.evr := rfl
@[simp] theorem onSup_lcd (n : Fin 24) (f : IslSupply → IslSupply) (s : State) : (onSup n f s).lcd = s.lcd := rfl
@[simp] theorem onSup_mod (n : Fin 24) (f : IslSupply → IslSupply) (s : State) : (onSup n f s).mod = s.mod := rfl

@[simp] theorem onIslStats_pending (n : Fin 24) (f : IslStats → IslStats) (s : State) : (onIslStats n f s).pending = s.pending := rfl
@[simp] theorem onIslStats_free (n : Fin 24) (f : IslStats → IslStats) (s : State) : (onIslStats n f s).free = s.free := rfl
@[simp] theorem onIslStats_out (n : Fin 24) (f : IslStats → IslStats) (s : State) : (onIslStats n f s).out = s.out := rfl
@[simp] theorem onIslStats_flight (n : Fin 24) (f : IslStats → IslStats) (s : State) : (onIslStats n f s).flight = s.flight := rfl
@[simp] theorem onIslStats_mem (n : Fin 24) (f : IslStats → IslStats) (s : State) : (onIslStats n f s).mem = s.mem := rfl
@[simp] theorem onIslStats_tb (n : Fin 24) (f : IslStats → IslStats) (s : State) : (onIslStats n f s).tb = s.tb := rfl
@[simp] theorem onIslStats_tbAcc (n : Fin 24) (f : IslStats → IslStats) (s : State) : (onIslStats n f s).tbAcc = s.tbAcc := rfl
@[simp] theorem onIslStats_tbLat (n : Fin 24) (f : IslStats → IslStats) (s : State) : (onIslStats n f s).tbLat = s.tbLat := rfl
@[simp] theorem onIslStats_tsk (n : Fin 24) (f : IslStats → IslStats) (s : State) : (onIslStats n f s).tsk = s.tsk := rfl
@[simp] theorem onIslStats_img (n : Fin 24) (f : IslStats → IslStats) (s : State) : (onIslStats n f s).img = s.img := rfl
@[simp] theorem onIslStats_frc (n : Fin 24) (f : IslStats → IslStats) (s : State) : (onIslStats n f s).frc = s.frc := rfl
@[simp] theorem onIslStats_laneA (n : Fin 24) (f : IslStats → IslStats) (s : State) : (onIslStats n f s).laneA = s.laneA := rfl
@[simp] theorem onIslStats_laneB (n : Fin 24) (f : IslStats → IslStats) (s : State) : (onIslStats n f s).laneB = s.laneB := rfl
@[simp] theorem onIslStats_lsk (n : Fin 24) (f : IslStats → IslStats) (s : State) : (onIslStats n f s).lsk = s.lsk := rfl
@[simp] theorem onIslStats_pair (n : Fin 24) (f : IslStats → IslStats) (s : State) : (onIslStats n f s).pair = s.pair := rfl
@[simp] theorem onIslStats_lease (n : Fin 24) (f : IslStats → IslStats) (s : State) : (onIslStats n f s).lease = s.lease := rfl
@[simp] theorem onIslStats_mir (n : Fin 24) (f : IslStats → IslStats) (s : State) : (onIslStats n f s).mir = s.mir := rfl
@[simp] theorem onIslStats_links (n : Fin 24) (f : IslStats → IslStats) (s : State) : (onIslStats n f s).links = s.links := rfl
@[simp] theorem onIslStats_can (n : Fin 24) (f : IslStats → IslStats) (s : State) : (onIslStats n f s).can = s.can := rfl
@[simp] theorem onIslStats_ses (n : Fin 24) (f : IslStats → IslStats) (s : State) : (onIslStats n f s).ses = s.ses := rfl
@[simp] theorem onIslStats_pwr (n : Fin 24) (f : IslStats → IslStats) (s : State) : (onIslStats n f s).pwr = s.pwr := rfl
@[simp] theorem onIslStats_tel (n : Fin 24) (f : IslStats → IslStats) (s : State) : (onIslStats n f s).tel = s.tel := rfl
@[simp] theorem onIslStats_evr (n : Fin 24) (f : IslStats → IslStats) (s : State) : (onIslStats n f s).evr = s.evr := rfl
@[simp] theorem onIslStats_lcd (n : Fin 24) (f : IslStats → IslStats) (s : State) : (onIslStats n f s).lcd = s.lcd := rfl
@[simp] theorem onIslStats_mod (n : Fin 24) (f : IslStats → IslStats) (s : State) : (onIslStats n f s).mod = s.mod := rfl


/-! ### Links, CAN ports, sessions -/

@[simp] theorem onLink_pending (l : Fin 24) (f : Lnk → Lnk) (s : State) : (onLink l f s).pending = s.pending := rfl
@[simp] theorem onLink_free (l : Fin 24) (f : Lnk → Lnk) (s : State) : (onLink l f s).free = s.free := rfl
@[simp] theorem onLink_out (l : Fin 24) (f : Lnk → Lnk) (s : State) : (onLink l f s).out = s.out := rfl
@[simp] theorem onLink_flight (l : Fin 24) (f : Lnk → Lnk) (s : State) : (onLink l f s).flight = s.flight := rfl
@[simp] theorem onLink_mem (l : Fin 24) (f : Lnk → Lnk) (s : State) : (onLink l f s).mem = s.mem := rfl
@[simp] theorem onLink_tb (l : Fin 24) (f : Lnk → Lnk) (s : State) : (onLink l f s).tb = s.tb := rfl
@[simp] theorem onLink_tbAcc (l : Fin 24) (f : Lnk → Lnk) (s : State) : (onLink l f s).tbAcc = s.tbAcc := rfl
@[simp] theorem onLink_tbLat (l : Fin 24) (f : Lnk → Lnk) (s : State) : (onLink l f s).tbLat = s.tbLat := rfl
@[simp] theorem onLink_tsk (l : Fin 24) (f : Lnk → Lnk) (s : State) : (onLink l f s).tsk = s.tsk := rfl
@[simp] theorem onLink_img (l : Fin 24) (f : Lnk → Lnk) (s : State) : (onLink l f s).img = s.img := rfl
@[simp] theorem onLink_frc (l : Fin 24) (f : Lnk → Lnk) (s : State) : (onLink l f s).frc = s.frc := rfl
@[simp] theorem onLink_laneA (l : Fin 24) (f : Lnk → Lnk) (s : State) : (onLink l f s).laneA = s.laneA := rfl
@[simp] theorem onLink_laneB (l : Fin 24) (f : Lnk → Lnk) (s : State) : (onLink l f s).laneB = s.laneB := rfl
@[simp] theorem onLink_lsk (l : Fin 24) (f : Lnk → Lnk) (s : State) : (onLink l f s).lsk = s.lsk := rfl
@[simp] theorem onLink_pair (l : Fin 24) (f : Lnk → Lnk) (s : State) : (onLink l f s).pair = s.pair := rfl
@[simp] theorem onLink_lease (l : Fin 24) (f : Lnk → Lnk) (s : State) : (onLink l f s).lease = s.lease := rfl
@[simp] theorem onLink_mir (l : Fin 24) (f : Lnk → Lnk) (s : State) : (onLink l f s).mir = s.mir := rfl
@[simp] theorem onLink_io (l : Fin 24) (f : Lnk → Lnk) (s : State) : (onLink l f s).io = s.io := rfl
@[simp] theorem onLink_can (l : Fin 24) (f : Lnk → Lnk) (s : State) : (onLink l f s).can = s.can := rfl
@[simp] theorem onLink_ses (l : Fin 24) (f : Lnk → Lnk) (s : State) : (onLink l f s).ses = s.ses := rfl
@[simp] theorem onLink_pwr (l : Fin 24) (f : Lnk → Lnk) (s : State) : (onLink l f s).pwr = s.pwr := rfl
@[simp] theorem onLink_tel (l : Fin 24) (f : Lnk → Lnk) (s : State) : (onLink l f s).tel = s.tel := rfl
@[simp] theorem onLink_evr (l : Fin 24) (f : Lnk → Lnk) (s : State) : (onLink l f s).evr = s.evr := rfl
@[simp] theorem onLink_lcd (l : Fin 24) (f : Lnk → Lnk) (s : State) : (onLink l f s).lcd = s.lcd := rfl
@[simp] theorem onLink_mod (l : Fin 24) (f : Lnk → Lnk) (s : State) : (onLink l f s).mod = s.mod := rfl

@[simp] theorem onStn_pending (l : Fin 24) (p : Fin 32) (f : Stn → Stn) (s : State) : (onStn l p f s).pending = s.pending := rfl
@[simp] theorem onStn_free (l : Fin 24) (p : Fin 32) (f : Stn → Stn) (s : State) : (onStn l p f s).free = s.free := rfl
@[simp] theorem onStn_out (l : Fin 24) (p : Fin 32) (f : Stn → Stn) (s : State) : (onStn l p f s).out = s.out := rfl
@[simp] theorem onStn_flight (l : Fin 24) (p : Fin 32) (f : Stn → Stn) (s : State) : (onStn l p f s).flight = s.flight := rfl
@[simp] theorem onStn_mem (l : Fin 24) (p : Fin 32) (f : Stn → Stn) (s : State) : (onStn l p f s).mem = s.mem := rfl
@[simp] theorem onStn_tb (l : Fin 24) (p : Fin 32) (f : Stn → Stn) (s : State) : (onStn l p f s).tb = s.tb := rfl
@[simp] theorem onStn_tbAcc (l : Fin 24) (p : Fin 32) (f : Stn → Stn) (s : State) : (onStn l p f s).tbAcc = s.tbAcc := rfl
@[simp] theorem onStn_tbLat (l : Fin 24) (p : Fin 32) (f : Stn → Stn) (s : State) : (onStn l p f s).tbLat = s.tbLat := rfl
@[simp] theorem onStn_tsk (l : Fin 24) (p : Fin 32) (f : Stn → Stn) (s : State) : (onStn l p f s).tsk = s.tsk := rfl
@[simp] theorem onStn_img (l : Fin 24) (p : Fin 32) (f : Stn → Stn) (s : State) : (onStn l p f s).img = s.img := rfl
@[simp] theorem onStn_frc (l : Fin 24) (p : Fin 32) (f : Stn → Stn) (s : State) : (onStn l p f s).frc = s.frc := rfl
@[simp] theorem onStn_laneA (l : Fin 24) (p : Fin 32) (f : Stn → Stn) (s : State) : (onStn l p f s).laneA = s.laneA := rfl
@[simp] theorem onStn_laneB (l : Fin 24) (p : Fin 32) (f : Stn → Stn) (s : State) : (onStn l p f s).laneB = s.laneB := rfl
@[simp] theorem onStn_lsk (l : Fin 24) (p : Fin 32) (f : Stn → Stn) (s : State) : (onStn l p f s).lsk = s.lsk := rfl
@[simp] theorem onStn_pair (l : Fin 24) (p : Fin 32) (f : Stn → Stn) (s : State) : (onStn l p f s).pair = s.pair := rfl
@[simp] theorem onStn_lease (l : Fin 24) (p : Fin 32) (f : Stn → Stn) (s : State) : (onStn l p f s).lease = s.lease := rfl
@[simp] theorem onStn_mir (l : Fin 24) (p : Fin 32) (f : Stn → Stn) (s : State) : (onStn l p f s).mir = s.mir := rfl
@[simp] theorem onStn_io (l : Fin 24) (p : Fin 32) (f : Stn → Stn) (s : State) : (onStn l p f s).io = s.io := rfl
@[simp] theorem onStn_can (l : Fin 24) (p : Fin 32) (f : Stn → Stn) (s : State) : (onStn l p f s).can = s.can := rfl
@[simp] theorem onStn_ses (l : Fin 24) (p : Fin 32) (f : Stn → Stn) (s : State) : (onStn l p f s).ses = s.ses := rfl
@[simp] theorem onStn_pwr (l : Fin 24) (p : Fin 32) (f : Stn → Stn) (s : State) : (onStn l p f s).pwr = s.pwr := rfl
@[simp] theorem onStn_tel (l : Fin 24) (p : Fin 32) (f : Stn → Stn) (s : State) : (onStn l p f s).tel = s.tel := rfl
@[simp] theorem onStn_evr (l : Fin 24) (p : Fin 32) (f : Stn → Stn) (s : State) : (onStn l p f s).evr = s.evr := rfl
@[simp] theorem onStn_lcd (l : Fin 24) (p : Fin 32) (f : Stn → Stn) (s : State) : (onStn l p f s).lcd = s.lcd := rfl
@[simp] theorem onStn_mod (l : Fin 24) (p : Fin 32) (f : Stn → Stn) (s : State) : (onStn l p f s).mod = s.mod := rfl

@[simp] theorem onBring_pending (l : Fin 24) (p : Fin 32) (f : Bring → Bring) (s : State) : (onBring l p f s).pending = s.pending := rfl
@[simp] theorem onBring_free (l : Fin 24) (p : Fin 32) (f : Bring → Bring) (s : State) : (onBring l p f s).free = s.free := rfl
@[simp] theorem onBring_out (l : Fin 24) (p : Fin 32) (f : Bring → Bring) (s : State) : (onBring l p f s).out = s.out := rfl
@[simp] theorem onBring_flight (l : Fin 24) (p : Fin 32) (f : Bring → Bring) (s : State) : (onBring l p f s).flight = s.flight := rfl
@[simp] theorem onBring_mem (l : Fin 24) (p : Fin 32) (f : Bring → Bring) (s : State) : (onBring l p f s).mem = s.mem := rfl
@[simp] theorem onBring_tb (l : Fin 24) (p : Fin 32) (f : Bring → Bring) (s : State) : (onBring l p f s).tb = s.tb := rfl
@[simp] theorem onBring_tbAcc (l : Fin 24) (p : Fin 32) (f : Bring → Bring) (s : State) : (onBring l p f s).tbAcc = s.tbAcc := rfl
@[simp] theorem onBring_tbLat (l : Fin 24) (p : Fin 32) (f : Bring → Bring) (s : State) : (onBring l p f s).tbLat = s.tbLat := rfl
@[simp] theorem onBring_tsk (l : Fin 24) (p : Fin 32) (f : Bring → Bring) (s : State) : (onBring l p f s).tsk = s.tsk := rfl
@[simp] theorem onBring_img (l : Fin 24) (p : Fin 32) (f : Bring → Bring) (s : State) : (onBring l p f s).img = s.img := rfl
@[simp] theorem onBring_frc (l : Fin 24) (p : Fin 32) (f : Bring → Bring) (s : State) : (onBring l p f s).frc = s.frc := rfl
@[simp] theorem onBring_laneA (l : Fin 24) (p : Fin 32) (f : Bring → Bring) (s : State) : (onBring l p f s).laneA = s.laneA := rfl
@[simp] theorem onBring_laneB (l : Fin 24) (p : Fin 32) (f : Bring → Bring) (s : State) : (onBring l p f s).laneB = s.laneB := rfl
@[simp] theorem onBring_lsk (l : Fin 24) (p : Fin 32) (f : Bring → Bring) (s : State) : (onBring l p f s).lsk = s.lsk := rfl
@[simp] theorem onBring_pair (l : Fin 24) (p : Fin 32) (f : Bring → Bring) (s : State) : (onBring l p f s).pair = s.pair := rfl
@[simp] theorem onBring_lease (l : Fin 24) (p : Fin 32) (f : Bring → Bring) (s : State) : (onBring l p f s).lease = s.lease := rfl
@[simp] theorem onBring_mir (l : Fin 24) (p : Fin 32) (f : Bring → Bring) (s : State) : (onBring l p f s).mir = s.mir := rfl
@[simp] theorem onBring_io (l : Fin 24) (p : Fin 32) (f : Bring → Bring) (s : State) : (onBring l p f s).io = s.io := rfl
@[simp] theorem onBring_can (l : Fin 24) (p : Fin 32) (f : Bring → Bring) (s : State) : (onBring l p f s).can = s.can := rfl
@[simp] theorem onBring_ses (l : Fin 24) (p : Fin 32) (f : Bring → Bring) (s : State) : (onBring l p f s).ses = s.ses := rfl
@[simp] theorem onBring_pwr (l : Fin 24) (p : Fin 32) (f : Bring → Bring) (s : State) : (onBring l p f s).pwr = s.pwr := rfl
@[simp] theorem onBring_tel (l : Fin 24) (p : Fin 32) (f : Bring → Bring) (s : State) : (onBring l p f s).tel = s.tel := rfl
@[simp] theorem onBring_evr (l : Fin 24) (p : Fin 32) (f : Bring → Bring) (s : State) : (onBring l p f s).evr = s.evr := rfl
@[simp] theorem onBring_lcd (l : Fin 24) (p : Fin 32) (f : Bring → Bring) (s : State) : (onBring l p f s).lcd = s.lcd := rfl
@[simp] theorem onBring_mod (l : Fin 24) (p : Fin 32) (f : Bring → Bring) (s : State) : (onBring l p f s).mod = s.mod := rfl

@[simp] theorem onCan_pending (p : Fin 4) (f : Can → Can) (s : State) : (onCan p f s).pending = s.pending := rfl
@[simp] theorem onCan_free (p : Fin 4) (f : Can → Can) (s : State) : (onCan p f s).free = s.free := rfl
@[simp] theorem onCan_out (p : Fin 4) (f : Can → Can) (s : State) : (onCan p f s).out = s.out := rfl
@[simp] theorem onCan_flight (p : Fin 4) (f : Can → Can) (s : State) : (onCan p f s).flight = s.flight := rfl
@[simp] theorem onCan_mem (p : Fin 4) (f : Can → Can) (s : State) : (onCan p f s).mem = s.mem := rfl
@[simp] theorem onCan_tb (p : Fin 4) (f : Can → Can) (s : State) : (onCan p f s).tb = s.tb := rfl
@[simp] theorem onCan_tbAcc (p : Fin 4) (f : Can → Can) (s : State) : (onCan p f s).tbAcc = s.tbAcc := rfl
@[simp] theorem onCan_tbLat (p : Fin 4) (f : Can → Can) (s : State) : (onCan p f s).tbLat = s.tbLat := rfl
@[simp] theorem onCan_tsk (p : Fin 4) (f : Can → Can) (s : State) : (onCan p f s).tsk = s.tsk := rfl
@[simp] theorem onCan_img (p : Fin 4) (f : Can → Can) (s : State) : (onCan p f s).img = s.img := rfl
@[simp] theorem onCan_frc (p : Fin 4) (f : Can → Can) (s : State) : (onCan p f s).frc = s.frc := rfl
@[simp] theorem onCan_laneA (p : Fin 4) (f : Can → Can) (s : State) : (onCan p f s).laneA = s.laneA := rfl
@[simp] theorem onCan_laneB (p : Fin 4) (f : Can → Can) (s : State) : (onCan p f s).laneB = s.laneB := rfl
@[simp] theorem onCan_lsk (p : Fin 4) (f : Can → Can) (s : State) : (onCan p f s).lsk = s.lsk := rfl
@[simp] theorem onCan_pair (p : Fin 4) (f : Can → Can) (s : State) : (onCan p f s).pair = s.pair := rfl
@[simp] theorem onCan_lease (p : Fin 4) (f : Can → Can) (s : State) : (onCan p f s).lease = s.lease := rfl
@[simp] theorem onCan_mir (p : Fin 4) (f : Can → Can) (s : State) : (onCan p f s).mir = s.mir := rfl
@[simp] theorem onCan_links (p : Fin 4) (f : Can → Can) (s : State) : (onCan p f s).links = s.links := rfl
@[simp] theorem onCan_io (p : Fin 4) (f : Can → Can) (s : State) : (onCan p f s).io = s.io := rfl
@[simp] theorem onCan_ses (p : Fin 4) (f : Can → Can) (s : State) : (onCan p f s).ses = s.ses := rfl
@[simp] theorem onCan_pwr (p : Fin 4) (f : Can → Can) (s : State) : (onCan p f s).pwr = s.pwr := rfl
@[simp] theorem onCan_tel (p : Fin 4) (f : Can → Can) (s : State) : (onCan p f s).tel = s.tel := rfl
@[simp] theorem onCan_evr (p : Fin 4) (f : Can → Can) (s : State) : (onCan p f s).evr = s.evr := rfl
@[simp] theorem onCan_lcd (p : Fin 4) (f : Can → Can) (s : State) : (onCan p f s).lcd = s.lcd := rfl
@[simp] theorem onCan_mod (p : Fin 4) (f : Can → Can) (s : State) : (onCan p f s).mod = s.mod := rfl

@[simp] theorem onSess_pending (se : Fin 64) (f : Sess → Sess) (s : State) : (onSess se f s).pending = s.pending := rfl
@[simp] theorem onSess_free (se : Fin 64) (f : Sess → Sess) (s : State) : (onSess se f s).free = s.free := rfl
@[simp] theorem onSess_out (se : Fin 64) (f : Sess → Sess) (s : State) : (onSess se f s).out = s.out := rfl
@[simp] theorem onSess_flight (se : Fin 64) (f : Sess → Sess) (s : State) : (onSess se f s).flight = s.flight := rfl
@[simp] theorem onSess_mem (se : Fin 64) (f : Sess → Sess) (s : State) : (onSess se f s).mem = s.mem := rfl
@[simp] theorem onSess_tb (se : Fin 64) (f : Sess → Sess) (s : State) : (onSess se f s).tb = s.tb := rfl
@[simp] theorem onSess_tbAcc (se : Fin 64) (f : Sess → Sess) (s : State) : (onSess se f s).tbAcc = s.tbAcc := rfl
@[simp] theorem onSess_tbLat (se : Fin 64) (f : Sess → Sess) (s : State) : (onSess se f s).tbLat = s.tbLat := rfl
@[simp] theorem onSess_tsk (se : Fin 64) (f : Sess → Sess) (s : State) : (onSess se f s).tsk = s.tsk := rfl
@[simp] theorem onSess_img (se : Fin 64) (f : Sess → Sess) (s : State) : (onSess se f s).img = s.img := rfl
@[simp] theorem onSess_frc (se : Fin 64) (f : Sess → Sess) (s : State) : (onSess se f s).frc = s.frc := rfl
@[simp] theorem onSess_laneA (se : Fin 64) (f : Sess → Sess) (s : State) : (onSess se f s).laneA = s.laneA := rfl
@[simp] theorem onSess_laneB (se : Fin 64) (f : Sess → Sess) (s : State) : (onSess se f s).laneB = s.laneB := rfl
@[simp] theorem onSess_lsk (se : Fin 64) (f : Sess → Sess) (s : State) : (onSess se f s).lsk = s.lsk := rfl
@[simp] theorem onSess_pair (se : Fin 64) (f : Sess → Sess) (s : State) : (onSess se f s).pair = s.pair := rfl
@[simp] theorem onSess_lease (se : Fin 64) (f : Sess → Sess) (s : State) : (onSess se f s).lease = s.lease := rfl
@[simp] theorem onSess_mir (se : Fin 64) (f : Sess → Sess) (s : State) : (onSess se f s).mir = s.mir := rfl
@[simp] theorem onSess_links (se : Fin 64) (f : Sess → Sess) (s : State) : (onSess se f s).links = s.links := rfl
@[simp] theorem onSess_io (se : Fin 64) (f : Sess → Sess) (s : State) : (onSess se f s).io = s.io := rfl
@[simp] theorem onSess_can (se : Fin 64) (f : Sess → Sess) (s : State) : (onSess se f s).can = s.can := rfl
@[simp] theorem onSess_pwr (se : Fin 64) (f : Sess → Sess) (s : State) : (onSess se f s).pwr = s.pwr := rfl
@[simp] theorem onSess_tel (se : Fin 64) (f : Sess → Sess) (s : State) : (onSess se f s).tel = s.tel := rfl
@[simp] theorem onSess_evr (se : Fin 64) (f : Sess → Sess) (s : State) : (onSess se f s).evr = s.evr := rfl
@[simp] theorem onSess_lcd (se : Fin 64) (f : Sess → Sess) (s : State) : (onSess se f s).lcd = s.lcd := rfl
@[simp] theorem onSess_mod (se : Fin 64) (f : Sess → Sess) (s : State) : (onSess se f s).mod = s.mod := rfl

@[simp] theorem setRes_pending (se : Fin 64) (g : ResReg) (v : W32) (s : State) : (setRes se g v s).pending = s.pending := rfl
@[simp] theorem setRes_free (se : Fin 64) (g : ResReg) (v : W32) (s : State) : (setRes se g v s).free = s.free := rfl
@[simp] theorem setRes_out (se : Fin 64) (g : ResReg) (v : W32) (s : State) : (setRes se g v s).out = s.out := rfl
@[simp] theorem setRes_flight (se : Fin 64) (g : ResReg) (v : W32) (s : State) : (setRes se g v s).flight = s.flight := rfl
@[simp] theorem setRes_mem (se : Fin 64) (g : ResReg) (v : W32) (s : State) : (setRes se g v s).mem = s.mem := rfl
@[simp] theorem setRes_tb (se : Fin 64) (g : ResReg) (v : W32) (s : State) : (setRes se g v s).tb = s.tb := rfl
@[simp] theorem setRes_tbAcc (se : Fin 64) (g : ResReg) (v : W32) (s : State) : (setRes se g v s).tbAcc = s.tbAcc := rfl
@[simp] theorem setRes_tbLat (se : Fin 64) (g : ResReg) (v : W32) (s : State) : (setRes se g v s).tbLat = s.tbLat := rfl
@[simp] theorem setRes_tsk (se : Fin 64) (g : ResReg) (v : W32) (s : State) : (setRes se g v s).tsk = s.tsk := rfl
@[simp] theorem setRes_img (se : Fin 64) (g : ResReg) (v : W32) (s : State) : (setRes se g v s).img = s.img := rfl
@[simp] theorem setRes_frc (se : Fin 64) (g : ResReg) (v : W32) (s : State) : (setRes se g v s).frc = s.frc := rfl
@[simp] theorem setRes_laneA (se : Fin 64) (g : ResReg) (v : W32) (s : State) : (setRes se g v s).laneA = s.laneA := rfl
@[simp] theorem setRes_laneB (se : Fin 64) (g : ResReg) (v : W32) (s : State) : (setRes se g v s).laneB = s.laneB := rfl
@[simp] theorem setRes_lsk (se : Fin 64) (g : ResReg) (v : W32) (s : State) : (setRes se g v s).lsk = s.lsk := rfl
@[simp] theorem setRes_pair (se : Fin 64) (g : ResReg) (v : W32) (s : State) : (setRes se g v s).pair = s.pair := rfl
@[simp] theorem setRes_lease (se : Fin 64) (g : ResReg) (v : W32) (s : State) : (setRes se g v s).lease = s.lease := rfl
@[simp] theorem setRes_mir (se : Fin 64) (g : ResReg) (v : W32) (s : State) : (setRes se g v s).mir = s.mir := rfl
@[simp] theorem setRes_links (se : Fin 64) (g : ResReg) (v : W32) (s : State) : (setRes se g v s).links = s.links := rfl
@[simp] theorem setRes_io (se : Fin 64) (g : ResReg) (v : W32) (s : State) : (setRes se g v s).io = s.io := rfl
@[simp] theorem setRes_can (se : Fin 64) (g : ResReg) (v : W32) (s : State) : (setRes se g v s).can = s.can := rfl
@[simp] theorem setRes_pwr (se : Fin 64) (g : ResReg) (v : W32) (s : State) : (setRes se g v s).pwr = s.pwr := rfl
@[simp] theorem setRes_tel (se : Fin 64) (g : ResReg) (v : W32) (s : State) : (setRes se g v s).tel = s.tel := rfl
@[simp] theorem setRes_evr (se : Fin 64) (g : ResReg) (v : W32) (s : State) : (setRes se g v s).evr = s.evr := rfl
@[simp] theorem setRes_lcd (se : Fin 64) (g : ResReg) (v : W32) (s : State) : (setRes se g v s).lcd = s.lcd := rfl
@[simp] theorem setRes_mod (se : Fin 64) (g : ResReg) (v : W32) (s : State) : (setRes se g v s).mod = s.mod := rfl

@[simp] theorem reply_pending (se : Fin 64) (typ : Nat) (tag : W32) (st : Status) (body : List Byte) (s : State) : (reply se typ tag st body s).pending = s.pending := by unfold reply; split <;> rfl
@[simp] theorem reply_free (se : Fin 64) (typ : Nat) (tag : W32) (st : Status) (body : List Byte) (s : State) : (reply se typ tag st body s).free = s.free := by unfold reply; split <;> rfl
@[simp] theorem reply_flight (se : Fin 64) (typ : Nat) (tag : W32) (st : Status) (body : List Byte) (s : State) : (reply se typ tag st body s).flight = s.flight := by unfold reply; split <;> rfl
@[simp] theorem reply_mem (se : Fin 64) (typ : Nat) (tag : W32) (st : Status) (body : List Byte) (s : State) : (reply se typ tag st body s).mem = s.mem := by unfold reply; split <;> rfl
@[simp] theorem reply_tb (se : Fin 64) (typ : Nat) (tag : W32) (st : Status) (body : List Byte) (s : State) : (reply se typ tag st body s).tb = s.tb := by unfold reply; split <;> rfl
@[simp] theorem reply_tbAcc (se : Fin 64) (typ : Nat) (tag : W32) (st : Status) (body : List Byte) (s : State) : (reply se typ tag st body s).tbAcc = s.tbAcc := by unfold reply; split <;> rfl
@[simp] theorem reply_tbLat (se : Fin 64) (typ : Nat) (tag : W32) (st : Status) (body : List Byte) (s : State) : (reply se typ tag st body s).tbLat = s.tbLat := by unfold reply; split <;> rfl
@[simp] theorem reply_tsk (se : Fin 64) (typ : Nat) (tag : W32) (st : Status) (body : List Byte) (s : State) : (reply se typ tag st body s).tsk = s.tsk := by unfold reply; split <;> rfl
@[simp] theorem reply_img (se : Fin 64) (typ : Nat) (tag : W32) (st : Status) (body : List Byte) (s : State) : (reply se typ tag st body s).img = s.img := by unfold reply; split <;> rfl
@[simp] theorem reply_frc (se : Fin 64) (typ : Nat) (tag : W32) (st : Status) (body : List Byte) (s : State) : (reply se typ tag st body s).frc = s.frc := by unfold reply; split <;> rfl
@[simp] theorem reply_laneA (se : Fin 64) (typ : Nat) (tag : W32) (st : Status) (body : List Byte) (s : State) : (reply se typ tag st body s).laneA = s.laneA := by unfold reply; split <;> rfl
@[simp] theorem reply_laneB (se : Fin 64) (typ : Nat) (tag : W32) (st : Status) (body : List Byte) (s : State) : (reply se typ tag st body s).laneB = s.laneB := by unfold reply; split <;> rfl
@[simp] theorem reply_lsk (se : Fin 64) (typ : Nat) (tag : W32) (st : Status) (body : List Byte) (s : State) : (reply se typ tag st body s).lsk = s.lsk := by unfold reply; split <;> rfl
@[simp] theorem reply_pair (se : Fin 64) (typ : Nat) (tag : W32) (st : Status) (body : List Byte) (s : State) : (reply se typ tag st body s).pair = s.pair := by unfold reply; split <;> rfl
@[simp] theorem reply_lease (se : Fin 64) (typ : Nat) (tag : W32) (st : Status) (body : List Byte) (s : State) : (reply se typ tag st body s).lease = s.lease := by unfold reply; split <;> rfl
@[simp] theorem reply_mir (se : Fin 64) (typ : Nat) (tag : W32) (st : Status) (body : List Byte) (s : State) : (reply se typ tag st body s).mir = s.mir := by unfold reply; split <;> rfl
@[simp] theorem reply_links (se : Fin 64) (typ : Nat) (tag : W32) (st : Status) (body : List Byte) (s : State) : (reply se typ tag st body s).links = s.links := by unfold reply; split <;> rfl
@[simp] theorem reply_io (se : Fin 64) (typ : Nat) (tag : W32) (st : Status) (body : List Byte) (s : State) : (reply se typ tag st body s).io = s.io := by unfold reply; split <;> rfl
@[simp] theorem reply_can (se : Fin 64) (typ : Nat) (tag : W32) (st : Status) (body : List Byte) (s : State) : (reply se typ tag st body s).can = s.can := by unfold reply; split <;> rfl
@[simp] theorem reply_ses (se : Fin 64) (typ : Nat) (tag : W32) (st : Status) (body : List Byte) (s : State) : (reply se typ tag st body s).ses = s.ses := by unfold reply; split <;> rfl
@[simp] theorem reply_pwr (se : Fin 64) (typ : Nat) (tag : W32) (st : Status) (body : List Byte) (s : State) : (reply se typ tag st body s).pwr = s.pwr := by unfold reply; split <;> rfl
@[simp] theorem reply_tel (se : Fin 64) (typ : Nat) (tag : W32) (st : Status) (body : List Byte) (s : State) : (reply se typ tag st body s).tel = s.tel := by unfold reply; split <;> rfl
@[simp] theorem reply_evr (se : Fin 64) (typ : Nat) (tag : W32) (st : Status) (body : List Byte) (s : State) : (reply se typ tag st body s).evr = s.evr := by unfold reply; split <;> rfl
@[simp] theorem reply_lcd (se : Fin 64) (typ : Nat) (tag : W32) (st : Status) (body : List Byte) (s : State) : (reply se typ tag st body s).lcd = s.lcd := by unfold reply; split <;> rfl
@[simp] theorem reply_mod (se : Fin 64) (typ : Nat) (tag : W32) (st : Status) (body : List Byte) (s : State) : (reply se typ tag st body s).mod = s.mod := by unfold reply; split <;> rfl

@[simp] theorem answer_pending (a : Origin) (g : ResReg) (v : W32) (s : State) : (answer a g v s).pending = s.pending := by cases a <;> simp [answer]
@[simp] theorem answer_free (a : Origin) (g : ResReg) (v : W32) (s : State) : (answer a g v s).free = s.free := by cases a <;> simp [answer]
@[simp] theorem answer_flight (a : Origin) (g : ResReg) (v : W32) (s : State) : (answer a g v s).flight = s.flight := by cases a <;> simp [answer]
@[simp] theorem answer_mem (a : Origin) (g : ResReg) (v : W32) (s : State) : (answer a g v s).mem = s.mem := by cases a <;> simp [answer]
@[simp] theorem answer_tb (a : Origin) (g : ResReg) (v : W32) (s : State) : (answer a g v s).tb = s.tb := by cases a <;> simp [answer]
@[simp] theorem answer_tbAcc (a : Origin) (g : ResReg) (v : W32) (s : State) : (answer a g v s).tbAcc = s.tbAcc := by cases a <;> simp [answer]
@[simp] theorem answer_tbLat (a : Origin) (g : ResReg) (v : W32) (s : State) : (answer a g v s).tbLat = s.tbLat := by cases a <;> simp [answer]
@[simp] theorem answer_tsk (a : Origin) (g : ResReg) (v : W32) (s : State) : (answer a g v s).tsk = s.tsk := by cases a <;> simp [answer]
@[simp] theorem answer_img (a : Origin) (g : ResReg) (v : W32) (s : State) : (answer a g v s).img = s.img := by cases a <;> simp [answer]
@[simp] theorem answer_frc (a : Origin) (g : ResReg) (v : W32) (s : State) : (answer a g v s).frc = s.frc := by cases a <;> simp [answer]
@[simp] theorem answer_laneA (a : Origin) (g : ResReg) (v : W32) (s : State) : (answer a g v s).laneA = s.laneA := by cases a <;> simp [answer]
@[simp] theorem answer_laneB (a : Origin) (g : ResReg) (v : W32) (s : State) : (answer a g v s).laneB = s.laneB := by cases a <;> simp [answer]
@[simp] theorem answer_lease (a : Origin) (g : ResReg) (v : W32) (s : State) : (answer a g v s).lease = s.lease := by cases a <;> simp [answer]
@[simp] theorem answer_mir (a : Origin) (g : ResReg) (v : W32) (s : State) : (answer a g v s).mir = s.mir := by cases a <;> simp [answer]
@[simp] theorem answer_links (a : Origin) (g : ResReg) (v : W32) (s : State) : (answer a g v s).links = s.links := by cases a <;> simp [answer]
@[simp] theorem answer_io (a : Origin) (g : ResReg) (v : W32) (s : State) : (answer a g v s).io = s.io := by cases a <;> simp [answer]
@[simp] theorem answer_can (a : Origin) (g : ResReg) (v : W32) (s : State) : (answer a g v s).can = s.can := by cases a <;> simp [answer]
@[simp] theorem answer_pwr (a : Origin) (g : ResReg) (v : W32) (s : State) : (answer a g v s).pwr = s.pwr := by cases a <;> simp [answer]
@[simp] theorem answer_tel (a : Origin) (g : ResReg) (v : W32) (s : State) : (answer a g v s).tel = s.tel := by cases a <;> simp [answer]
@[simp] theorem answer_evr (a : Origin) (g : ResReg) (v : W32) (s : State) : (answer a g v s).evr = s.evr := by cases a <;> simp [answer]
@[simp] theorem answer_lcd (a : Origin) (g : ResReg) (v : W32) (s : State) : (answer a g v s).lcd = s.lcd := by cases a <;> simp [answer]
@[simp] theorem answer_mod (a : Origin) (g : ResReg) (v : W32) (s : State) : (answer a g v s).mod = s.mod := by cases a <;> simp [answer]

@[simp] theorem answerOpt_pending (a : Option Origin) (g : ResReg) (v : W32) (s : State) : (answerOpt a g v s).pending = s.pending := by cases a <;> simp [answerOpt]
@[simp] theorem answerOpt_free (a : Option Origin) (g : ResReg) (v : W32) (s : State) : (answerOpt a g v s).free = s.free := by cases a <;> simp [answerOpt]
@[simp] theorem answerOpt_flight (a : Option Origin) (g : ResReg) (v : W32) (s : State) : (answerOpt a g v s).flight = s.flight := by cases a <;> simp [answerOpt]
@[simp] theorem answerOpt_mem (a : Option Origin) (g : ResReg) (v : W32) (s : State) : (answerOpt a g v s).mem = s.mem := by cases a <;> simp [answerOpt]
@[simp] theorem answerOpt_tb (a : Option Origin) (g : ResReg) (v : W32) (s : State) : (answerOpt a g v s).tb = s.tb := by cases a <;> simp [answerOpt]
@[simp] theorem answerOpt_tbAcc (a : Option Origin) (g : ResReg) (v : W32) (s : State) : (answerOpt a g v s).tbAcc = s.tbAcc := by cases a <;> simp [answerOpt]
@[simp] theorem answerOpt_tbLat (a : Option Origin) (g : ResReg) (v : W32) (s : State) : (answerOpt a g v s).tbLat = s.tbLat := by cases a <;> simp [answerOpt]
@[simp] theorem answerOpt_tsk (a : Option Origin) (g : ResReg) (v : W32) (s : State) : (answerOpt a g v s).tsk = s.tsk := by cases a <;> simp [answerOpt]
@[simp] theorem answerOpt_img (a : Option Origin) (g : ResReg) (v : W32) (s : State) : (answerOpt a g v s).img = s.img := by cases a <;> simp [answerOpt]
@[simp] theorem answerOpt_frc (a : Option Origin) (g : ResReg) (v : W32) (s : State) : (answerOpt a g v s).frc = s.frc := by cases a <;> simp [answerOpt]
@[simp] theorem answerOpt_laneA (a : Option Origin) (g : ResReg) (v : W32) (s : State) : (answerOpt a g v s).laneA = s.laneA := by cases a <;> simp [answerOpt]
@[simp] theorem answerOpt_laneB (a : Option Origin) (g : ResReg) (v : W32) (s : State) : (answerOpt a g v s).laneB = s.laneB := by cases a <;> simp [answerOpt]
@[simp] theorem answerOpt_lease (a : Option Origin) (g : ResReg) (v : W32) (s : State) : (answerOpt a g v s).lease = s.lease := by cases a <;> simp [answerOpt]
@[simp] theorem answerOpt_mir (a : Option Origin) (g : ResReg) (v : W32) (s : State) : (answerOpt a g v s).mir = s.mir := by cases a <;> simp [answerOpt]
@[simp] theorem answerOpt_links (a : Option Origin) (g : ResReg) (v : W32) (s : State) : (answerOpt a g v s).links = s.links := by cases a <;> simp [answerOpt]
@[simp] theorem answerOpt_io (a : Option Origin) (g : ResReg) (v : W32) (s : State) : (answerOpt a g v s).io = s.io := by cases a <;> simp [answerOpt]
@[simp] theorem answerOpt_can (a : Option Origin) (g : ResReg) (v : W32) (s : State) : (answerOpt a g v s).can = s.can := by cases a <;> simp [answerOpt]
@[simp] theorem answerOpt_pwr (a : Option Origin) (g : ResReg) (v : W32) (s : State) : (answerOpt a g v s).pwr = s.pwr := by cases a <;> simp [answerOpt]
@[simp] theorem answerOpt_tel (a : Option Origin) (g : ResReg) (v : W32) (s : State) : (answerOpt a g v s).tel = s.tel := by cases a <;> simp [answerOpt]
@[simp] theorem answerOpt_evr (a : Option Origin) (g : ResReg) (v : W32) (s : State) : (answerOpt a g v s).evr = s.evr := by cases a <;> simp [answerOpt]
@[simp] theorem answerOpt_lcd (a : Option Origin) (g : ResReg) (v : W32) (s : State) : (answerOpt a g v s).lcd = s.lcd := by cases a <;> simp [answerOpt]
@[simp] theorem answerOpt_mod (a : Option Origin) (g : ResReg) (v : W32) (s : State) : (answerOpt a g v s).mod = s.mod := by cases a <;> simp [answerOpt]


/-! ### Records and the store -/

@[simp] theorem enqueueEv_pending (e : Ev) (s : State) : (enqueueEv e s).pending = s.pending := by unfold enqueueEv; split <;> rfl
@[simp] theorem enqueueEv_free (e : Ev) (s : State) : (enqueueEv e s).free = s.free := by unfold enqueueEv; split <;> rfl
@[simp] theorem enqueueEv_out (e : Ev) (s : State) : (enqueueEv e s).out = s.out := by unfold enqueueEv; split <;> rfl
@[simp] theorem enqueueEv_flight (e : Ev) (s : State) : (enqueueEv e s).flight = s.flight := by unfold enqueueEv; split <;> rfl
@[simp] theorem enqueueEv_mem (e : Ev) (s : State) : (enqueueEv e s).mem = s.mem := by unfold enqueueEv; split <;> rfl
@[simp] theorem enqueueEv_tb (e : Ev) (s : State) : (enqueueEv e s).tb = s.tb := by unfold enqueueEv; split <;> rfl
@[simp] theorem enqueueEv_tbAcc (e : Ev) (s : State) : (enqueueEv e s).tbAcc = s.tbAcc := by unfold enqueueEv; split <;> rfl
@[simp] theorem enqueueEv_tbLat (e : Ev) (s : State) : (enqueueEv e s).tbLat = s.tbLat := by unfold enqueueEv; split <;> rfl
@[simp] theorem enqueueEv_tsk (e : Ev) (s : State) : (enqueueEv e s).tsk = s.tsk := by unfold enqueueEv; split <;> rfl
@[simp] theorem enqueueEv_img (e : Ev) (s : State) : (enqueueEv e s).img = s.img := by unfold enqueueEv; split <;> rfl
@[simp] theorem enqueueEv_frc (e : Ev) (s : State) : (enqueueEv e s).frc = s.frc := by unfold enqueueEv; split <;> rfl
@[simp] theorem enqueueEv_laneA (e : Ev) (s : State) : (enqueueEv e s).laneA = s.laneA := by unfold enqueueEv; split <;> rfl
@[simp] theorem enqueueEv_laneB (e : Ev) (s : State) : (enqueueEv e s).laneB = s.laneB := by unfold enqueueEv; split <;> rfl
@[simp] theorem enqueueEv_lsk (e : Ev) (s : State) : (enqueueEv e s).lsk = s.lsk := by unfold enqueueEv; split <;> rfl
@[simp] theorem enqueueEv_pair (e : Ev) (s : State) : (enqueueEv e s).pair = s.pair := by unfold enqueueEv; split <;> rfl
@[simp] theorem enqueueEv_lease (e : Ev) (s : State) : (enqueueEv e s).lease = s.lease := by unfold enqueueEv; split <;> rfl
@[simp] theorem enqueueEv_mir (e : Ev) (s : State) : (enqueueEv e s).mir = s.mir := by unfold enqueueEv; split <;> rfl
@[simp] theorem enqueueEv_links (e : Ev) (s : State) : (enqueueEv e s).links = s.links := by unfold enqueueEv; split <;> rfl
@[simp] theorem enqueueEv_io (e : Ev) (s : State) : (enqueueEv e s).io = s.io := by unfold enqueueEv; split <;> rfl
@[simp] theorem enqueueEv_can (e : Ev) (s : State) : (enqueueEv e s).can = s.can := by unfold enqueueEv; split <;> rfl
@[simp] theorem enqueueEv_ses (e : Ev) (s : State) : (enqueueEv e s).ses = s.ses := by unfold enqueueEv; split <;> rfl
@[simp] theorem enqueueEv_pwr (e : Ev) (s : State) : (enqueueEv e s).pwr = s.pwr := by unfold enqueueEv; split <;> rfl
@[simp] theorem enqueueEv_tel (e : Ev) (s : State) : (enqueueEv e s).tel = s.tel := by unfold enqueueEv; split <;> rfl
@[simp] theorem enqueueEv_lcd (e : Ev) (s : State) : (enqueueEv e s).lcd = s.lcd := by unfold enqueueEv; split <;> rfl
@[simp] theorem enqueueEv_mod (e : Ev) (s : State) : (enqueueEv e s).mod = s.mod := by unfold enqueueEv; split <;> rfl

@[simp] theorem logEv_pending (code : Nat) (det : Bool) (fields : List (Nat × Nat)) (s : State) : (logEv code det fields s).pending = s.pending := by simp [logEv]
@[simp] theorem logEv_free (code : Nat) (det : Bool) (fields : List (Nat × Nat)) (s : State) : (logEv code det fields s).free = s.free := by simp [logEv]
@[simp] theorem logEv_out (code : Nat) (det : Bool) (fields : List (Nat × Nat)) (s : State) : (logEv code det fields s).out = s.out := by simp [logEv]
@[simp] theorem logEv_flight (code : Nat) (det : Bool) (fields : List (Nat × Nat)) (s : State) : (logEv code det fields s).flight = s.flight := by simp [logEv]
@[simp] theorem logEv_mem (code : Nat) (det : Bool) (fields : List (Nat × Nat)) (s : State) : (logEv code det fields s).mem = s.mem := by simp [logEv]
@[simp] theorem logEv_tb (code : Nat) (det : Bool) (fields : List (Nat × Nat)) (s : State) : (logEv code det fields s).tb = s.tb := by simp [logEv]
@[simp] theorem logEv_tbAcc (code : Nat) (det : Bool) (fields : List (Nat × Nat)) (s : State) : (logEv code det fields s).tbAcc = s.tbAcc := by simp [logEv]
@[simp] theorem logEv_tbLat (code : Nat) (det : Bool) (fields : List (Nat × Nat)) (s : State) : (logEv code det fields s).tbLat = s.tbLat := by simp [logEv]
@[simp] theorem logEv_tsk (code : Nat) (det : Bool) (fields : List (Nat × Nat)) (s : State) : (logEv code det fields s).tsk = s.tsk := by simp [logEv]
@[simp] theorem logEv_img (code : Nat) (det : Bool) (fields : List (Nat × Nat)) (s : State) : (logEv code det fields s).img = s.img := by simp [logEv]
@[simp] theorem logEv_frc (code : Nat) (det : Bool) (fields : List (Nat × Nat)) (s : State) : (logEv code det fields s).frc = s.frc := by simp [logEv]
@[simp] theorem logEv_laneA (code : Nat) (det : Bool) (fields : List (Nat × Nat)) (s : State) : (logEv code det fields s).laneA = s.laneA := by simp [logEv]
@[simp] theorem logEv_laneB (code : Nat) (det : Bool) (fields : List (Nat × Nat)) (s : State) : (logEv code det fields s).laneB = s.laneB := by simp [logEv]
@[simp] theorem logEv_lsk (code : Nat) (det : Bool) (fields : List (Nat × Nat)) (s : State) : (logEv code det fields s).lsk = s.lsk := by simp [logEv]
@[simp] theorem logEv_pair (code : Nat) (det : Bool) (fields : List (Nat × Nat)) (s : State) : (logEv code det fields s).pair = s.pair := by simp [logEv]
@[simp] theorem logEv_lease (code : Nat) (det : Bool) (fields : List (Nat × Nat)) (s : State) : (logEv code det fields s).lease = s.lease := by simp [logEv]
@[simp] theorem logEv_mir (code : Nat) (det : Bool) (fields : List (Nat × Nat)) (s : State) : (logEv code det fields s).mir = s.mir := by simp [logEv]
@[simp] theorem logEv_links (code : Nat) (det : Bool) (fields : List (Nat × Nat)) (s : State) : (logEv code det fields s).links = s.links := by simp [logEv]
@[simp] theorem logEv_io (code : Nat) (det : Bool) (fields : List (Nat × Nat)) (s : State) : (logEv code det fields s).io = s.io := by simp [logEv]
@[simp] theorem logEv_can (code : Nat) (det : Bool) (fields : List (Nat × Nat)) (s : State) : (logEv code det fields s).can = s.can := by simp [logEv]
@[simp] theorem logEv_ses (code : Nat) (det : Bool) (fields : List (Nat × Nat)) (s : State) : (logEv code det fields s).ses = s.ses := by simp [logEv]
@[simp] theorem logEv_pwr (code : Nat) (det : Bool) (fields : List (Nat × Nat)) (s : State) : (logEv code det fields s).pwr = s.pwr := by simp [logEv]
@[simp] theorem logEv_tel (code : Nat) (det : Bool) (fields : List (Nat × Nat)) (s : State) : (logEv code det fields s).tel = s.tel := by simp [logEv]
@[simp] theorem logEv_lcd (code : Nat) (det : Bool) (fields : List (Nat × Nat)) (s : State) : (logEv code det fields s).lcd = s.lcd := by simp [logEv]
@[simp] theorem logEv_mod (code : Nat) (det : Bool) (fields : List (Nat × Nat)) (s : State) : (logEv code det fields s).mod = s.mod := by simp [logEv]

@[simp] theorem logSes_pending (code : Nat) (det : Bool) (se : Fin 64) (fields : List (Nat × Nat)) (s : State) : (logSes code det se fields s).pending = s.pending := by simp [logSes]
@[simp] theorem logSes_free (code : Nat) (det : Bool) (se : Fin 64) (fields : List (Nat × Nat)) (s : State) : (logSes code det se fields s).free = s.free := by simp [logSes]
@[simp] theorem logSes_out (code : Nat) (det : Bool) (se : Fin 64) (fields : List (Nat × Nat)) (s : State) : (logSes code det se fields s).out = s.out := by simp [logSes]
@[simp] theorem logSes_flight (code : Nat) (det : Bool) (se : Fin 64) (fields : List (Nat × Nat)) (s : State) : (logSes code det se fields s).flight = s.flight := by simp [logSes]
@[simp] theorem logSes_mem (code : Nat) (det : Bool) (se : Fin 64) (fields : List (Nat × Nat)) (s : State) : (logSes code det se fields s).mem = s.mem := by simp [logSes]
@[simp] theorem logSes_tb (code : Nat) (det : Bool) (se : Fin 64) (fields : List (Nat × Nat)) (s : State) : (logSes code det se fields s).tb = s.tb := by simp [logSes]
@[simp] theorem logSes_tbAcc (code : Nat) (det : Bool) (se : Fin 64) (fields : List (Nat × Nat)) (s : State) : (logSes code det se fields s).tbAcc = s.tbAcc := by simp [logSes]
@[simp] theorem logSes_tbLat (code : Nat) (det : Bool) (se : Fin 64) (fields : List (Nat × Nat)) (s : State) : (logSes code det se fields s).tbLat = s.tbLat := by simp [logSes]
@[simp] theorem logSes_tsk (code : Nat) (det : Bool) (se : Fin 64) (fields : List (Nat × Nat)) (s : State) : (logSes code det se fields s).tsk = s.tsk := by simp [logSes]
@[simp] theorem logSes_img (code : Nat) (det : Bool) (se : Fin 64) (fields : List (Nat × Nat)) (s : State) : (logSes code det se fields s).img = s.img := by simp [logSes]
@[simp] theorem logSes_frc (code : Nat) (det : Bool) (se : Fin 64) (fields : List (Nat × Nat)) (s : State) : (logSes code det se fields s).frc = s.frc := by simp [logSes]
@[simp] theorem logSes_laneA (code : Nat) (det : Bool) (se : Fin 64) (fields : List (Nat × Nat)) (s : State) : (logSes code det se fields s).laneA = s.laneA := by simp [logSes]
@[simp] theorem logSes_laneB (code : Nat) (det : Bool) (se : Fin 64) (fields : List (Nat × Nat)) (s : State) : (logSes code det se fields s).laneB = s.laneB := by simp [logSes]
@[simp] theorem logSes_lsk (code : Nat) (det : Bool) (se : Fin 64) (fields : List (Nat × Nat)) (s : State) : (logSes code det se fields s).lsk = s.lsk := by simp [logSes]
@[simp] theorem logSes_pair (code : Nat) (det : Bool) (se : Fin 64) (fields : List (Nat × Nat)) (s : State) : (logSes code det se fields s).pair = s.pair := by simp [logSes]
@[simp] theorem logSes_lease (code : Nat) (det : Bool) (se : Fin 64) (fields : List (Nat × Nat)) (s : State) : (logSes code det se fields s).lease = s.lease := by simp [logSes]
@[simp] theorem logSes_mir (code : Nat) (det : Bool) (se : Fin 64) (fields : List (Nat × Nat)) (s : State) : (logSes code det se fields s).mir = s.mir := by simp [logSes]
@[simp] theorem logSes_links (code : Nat) (det : Bool) (se : Fin 64) (fields : List (Nat × Nat)) (s : State) : (logSes code det se fields s).links = s.links := by simp [logSes]
@[simp] theorem logSes_io (code : Nat) (det : Bool) (se : Fin 64) (fields : List (Nat × Nat)) (s : State) : (logSes code det se fields s).io = s.io := by simp [logSes]
@[simp] theorem logSes_can (code : Nat) (det : Bool) (se : Fin 64) (fields : List (Nat × Nat)) (s : State) : (logSes code det se fields s).can = s.can := by simp [logSes]
@[simp] theorem logSes_ses (code : Nat) (det : Bool) (se : Fin 64) (fields : List (Nat × Nat)) (s : State) : (logSes code det se fields s).ses = s.ses := by simp [logSes]
@[simp] theorem logSes_pwr (code : Nat) (det : Bool) (se : Fin 64) (fields : List (Nat × Nat)) (s : State) : (logSes code det se fields s).pwr = s.pwr := by simp [logSes]
@[simp] theorem logSes_tel (code : Nat) (det : Bool) (se : Fin 64) (fields : List (Nat × Nat)) (s : State) : (logSes code det se fields s).tel = s.tel := by simp [logSes]
@[simp] theorem logSes_lcd (code : Nat) (det : Bool) (se : Fin 64) (fields : List (Nat × Nat)) (s : State) : (logSes code det se fields s).lcd = s.lcd := by simp [logSes]
@[simp] theorem logSes_mod (code : Nat) (det : Bool) (se : Fin 64) (fields : List (Nat × Nat)) (s : State) : (logSes code det se fields s).mod = s.mod := by simp [logSes]

@[simp] theorem logOpen_pending  (s : State) : (logOpen s).pending = s.pending := by simp [logOpen]
@[simp] theorem logOpen_out  (s : State) : (logOpen s).out = s.out := by simp [logOpen]
@[simp] theorem logOpen_flight  (s : State) : (logOpen s).flight = s.flight := by simp [logOpen]
@[simp] theorem logOpen_mem  (s : State) : (logOpen s).mem = s.mem := by simp [logOpen]
@[simp] theorem logOpen_tb  (s : State) : (logOpen s).tb = s.tb := by simp [logOpen]
@[simp] theorem logOpen_tbAcc  (s : State) : (logOpen s).tbAcc = s.tbAcc := by simp [logOpen]
@[simp] theorem logOpen_tbLat  (s : State) : (logOpen s).tbLat = s.tbLat := by simp [logOpen]
@[simp] theorem logOpen_tsk  (s : State) : (logOpen s).tsk = s.tsk := by simp [logOpen]
@[simp] theorem logOpen_img  (s : State) : (logOpen s).img = s.img := by simp [logOpen]
@[simp] theorem logOpen_frc  (s : State) : (logOpen s).frc = s.frc := by simp [logOpen]
@[simp] theorem logOpen_laneA  (s : State) : (logOpen s).laneA = s.laneA := by simp [logOpen]
@[simp] theorem logOpen_laneB  (s : State) : (logOpen s).laneB = s.laneB := by simp [logOpen]
@[simp] theorem logOpen_lsk  (s : State) : (logOpen s).lsk = s.lsk := by simp [logOpen]
@[simp] theorem logOpen_pair  (s : State) : (logOpen s).pair = s.pair := by simp [logOpen]
@[simp] theorem logOpen_lease  (s : State) : (logOpen s).lease = s.lease := by simp [logOpen]
@[simp] theorem logOpen_mir  (s : State) : (logOpen s).mir = s.mir := by simp [logOpen]
@[simp] theorem logOpen_links  (s : State) : (logOpen s).links = s.links := by simp [logOpen]
@[simp] theorem logOpen_io  (s : State) : (logOpen s).io = s.io := by simp [logOpen]
@[simp] theorem logOpen_can  (s : State) : (logOpen s).can = s.can := by simp [logOpen]
@[simp] theorem logOpen_ses  (s : State) : (logOpen s).ses = s.ses := by simp [logOpen]
@[simp] theorem logOpen_pwr  (s : State) : (logOpen s).pwr = s.pwr := by simp [logOpen]
@[simp] theorem logOpen_tel  (s : State) : (logOpen s).tel = s.tel := by simp [logOpen]
@[simp] theorem logOpen_lcd  (s : State) : (logOpen s).lcd = s.lcd := by simp [logOpen]
@[simp] theorem logOpen_mod  (s : State) : (logOpen s).mod = s.mod := by simp [logOpen]

@[simp] theorem persist_pending (v : PValue) (act : PAct) (s : State) : (persist v act s).pending = s.pending := rfl
@[simp] theorem persist_free (v : PValue) (act : PAct) (s : State) : (persist v act s).free = s.free := rfl
@[simp] theorem persist_out (v : PValue) (act : PAct) (s : State) : (persist v act s).out = s.out := rfl
@[simp] theorem persist_flight (v : PValue) (act : PAct) (s : State) : (persist v act s).flight = s.flight := rfl
@[simp] theorem persist_tb (v : PValue) (act : PAct) (s : State) : (persist v act s).tb = s.tb := rfl
@[simp] theorem persist_tbAcc (v : PValue) (act : PAct) (s : State) : (persist v act s).tbAcc = s.tbAcc := rfl
@[simp] theorem persist_tbLat (v : PValue) (act : PAct) (s : State) : (persist v act s).tbLat = s.tbLat := rfl
@[simp] theorem persist_tsk (v : PValue) (act : PAct) (s : State) : (persist v act s).tsk = s.tsk := rfl
@[simp] theorem persist_img (v : PValue) (act : PAct) (s : State) : (persist v act s).img = s.img := rfl
@[simp] theorem persist_frc (v : PValue) (act : PAct) (s : State) : (persist v act s).frc = s.frc := rfl
@[simp] theorem persist_laneA (v : PValue) (act : PAct) (s : State) : (persist v act s).laneA = s.laneA := rfl
@[simp] theorem persist_laneB (v : PValue) (act : PAct) (s : State) : (persist v act s).laneB = s.laneB := rfl
@[simp] theorem persist_lsk (v : PValue) (act : PAct) (s : State) : (persist v act s).lsk = s.lsk := rfl
@[simp] theorem persist_pair (v : PValue) (act : PAct) (s : State) : (persist v act s).pair = s.pair := rfl
@[simp] theorem persist_lease (v : PValue) (act : PAct) (s : State) : (persist v act s).lease = s.lease := rfl
@[simp] theorem persist_mir (v : PValue) (act : PAct) (s : State) : (persist v act s).mir = s.mir := rfl
@[simp] theorem persist_links (v : PValue) (act : PAct) (s : State) : (persist v act s).links = s.links := rfl
@[simp] theorem persist_io (v : PValue) (act : PAct) (s : State) : (persist v act s).io = s.io := rfl
@[simp] theorem persist_can (v : PValue) (act : PAct) (s : State) : (persist v act s).can = s.can := rfl
@[simp] theorem persist_ses (v : PValue) (act : PAct) (s : State) : (persist v act s).ses = s.ses := rfl
@[simp] theorem persist_pwr (v : PValue) (act : PAct) (s : State) : (persist v act s).pwr = s.pwr := rfl
@[simp] theorem persist_tel (v : PValue) (act : PAct) (s : State) : (persist v act s).tel = s.tel := rfl
@[simp] theorem persist_evr (v : PValue) (act : PAct) (s : State) : (persist v act s).evr = s.evr := rfl
@[simp] theorem persist_lcd (v : PValue) (act : PAct) (s : State) : (persist v act s).lcd = s.lcd := rfl
@[simp] theorem persist_mod (v : PValue) (act : PAct) (s : State) : (persist v act s).mod = s.mod := rfl

@[simp] theorem persist_cells (v : PValue) (act : PAct) (s : State) : (persist v act s).mem.cells = s.mem.cells := rfl


/-! ### What is owed -/

@[simp] theorem addWait_pending (id : Nat) (se : Option (Fin 64)) (acts : List Owed) (s : State) : (addWait id se acts s).pending = s.pending := rfl
@[simp] theorem addWait_free (id : Nat) (se : Option (Fin 64)) (acts : List Owed) (s : State) : (addWait id se acts s).free = s.free := rfl
@[simp] theorem addWait_out (id : Nat) (se : Option (Fin 64)) (acts : List Owed) (s : State) : (addWait id se acts s).out = s.out := rfl
@[simp] theorem addWait_flight (id : Nat) (se : Option (Fin 64)) (acts : List Owed) (s : State) : (addWait id se acts s).flight = s.flight := rfl
@[simp] theorem addWait_mem (id : Nat) (se : Option (Fin 64)) (acts : List Owed) (s : State) : (addWait id se acts s).mem = s.mem := rfl
@[simp] theorem addWait_tb (id : Nat) (se : Option (Fin 64)) (acts : List Owed) (s : State) : (addWait id se acts s).tb = s.tb := rfl
@[simp] theorem addWait_tbAcc (id : Nat) (se : Option (Fin 64)) (acts : List Owed) (s : State) : (addWait id se acts s).tbAcc = s.tbAcc := rfl
@[simp] theorem addWait_tbLat (id : Nat) (se : Option (Fin 64)) (acts : List Owed) (s : State) : (addWait id se acts s).tbLat = s.tbLat := rfl
@[simp] theorem addWait_tsk (id : Nat) (se : Option (Fin 64)) (acts : List Owed) (s : State) : (addWait id se acts s).tsk = s.tsk := rfl
@[simp] theorem addWait_img (id : Nat) (se : Option (Fin 64)) (acts : List Owed) (s : State) : (addWait id se acts s).img = s.img := rfl
@[simp] theorem addWait_frc (id : Nat) (se : Option (Fin 64)) (acts : List Owed) (s : State) : (addWait id se acts s).frc = s.frc := rfl
@[simp] theorem addWait_laneA (id : Nat) (se : Option (Fin 64)) (acts : List Owed) (s : State) : (addWait id se acts s).laneA = s.laneA := rfl
@[simp] theorem addWait_laneB (id : Nat) (se : Option (Fin 64)) (acts : List Owed) (s : State) : (addWait id se acts s).laneB = s.laneB := rfl
@[simp] theorem addWait_lsk (id : Nat) (se : Option (Fin 64)) (acts : List Owed) (s : State) : (addWait id se acts s).lsk = s.lsk := rfl
@[simp] theorem addWait_lease (id : Nat) (se : Option (Fin 64)) (acts : List Owed) (s : State) : (addWait id se acts s).lease = s.lease := rfl
@[simp] theorem addWait_mir (id : Nat) (se : Option (Fin 64)) (acts : List Owed) (s : State) : (addWait id se acts s).mir = s.mir := rfl
@[simp] theorem addWait_links (id : Nat) (se : Option (Fin 64)) (acts : List Owed) (s : State) : (addWait id se acts s).links = s.links := rfl
@[simp] theorem addWait_io (id : Nat) (se : Option (Fin 64)) (acts : List Owed) (s : State) : (addWait id se acts s).io = s.io := rfl
@[simp] theorem addWait_can (id : Nat) (se : Option (Fin 64)) (acts : List Owed) (s : State) : (addWait id se acts s).can = s.can := rfl
@[simp] theorem addWait_ses (id : Nat) (se : Option (Fin 64)) (acts : List Owed) (s : State) : (addWait id se acts s).ses = s.ses := rfl
@[simp] theorem addWait_pwr (id : Nat) (se : Option (Fin 64)) (acts : List Owed) (s : State) : (addWait id se acts s).pwr = s.pwr := rfl
@[simp] theorem addWait_tel (id : Nat) (se : Option (Fin 64)) (acts : List Owed) (s : State) : (addWait id se acts s).tel = s.tel := rfl
@[simp] theorem addWait_evr (id : Nat) (se : Option (Fin 64)) (acts : List Owed) (s : State) : (addWait id se acts s).evr = s.evr := rfl
@[simp] theorem addWait_lcd (id : Nat) (se : Option (Fin 64)) (acts : List Owed) (s : State) : (addWait id se acts s).lcd = s.lcd := rfl
@[simp] theorem addWait_mod (id : Nat) (se : Option (Fin 64)) (acts : List Owed) (s : State) : (addWait id se acts s).mod = s.mod := rfl

@[simp] theorem settle_pending (a : Owed) (s : State) : (settle a s).pending = s.pending := by cases a <;> simp [settle]
@[simp] theorem settle_free (a : Owed) (s : State) : (settle a s).free = s.free := by cases a <;> simp [settle]
@[simp] theorem settle_flight (a : Owed) (s : State) : (settle a s).flight = s.flight := by cases a <;> simp [settle]
@[simp] theorem settle_mem (a : Owed) (s : State) : (settle a s).mem = s.mem := by cases a <;> simp [settle]
@[simp] theorem settle_tb (a : Owed) (s : State) : (settle a s).tb = s.tb := by cases a <;> simp [settle]
@[simp] theorem settle_tbAcc (a : Owed) (s : State) : (settle a s).tbAcc = s.tbAcc := by cases a <;> simp [settle]
@[simp] theorem settle_tbLat (a : Owed) (s : State) : (settle a s).tbLat = s.tbLat := by cases a <;> simp [settle]
@[simp] theorem settle_tsk (a : Owed) (s : State) : (settle a s).tsk = s.tsk := by cases a <;> simp [settle]
@[simp] theorem settle_img (a : Owed) (s : State) : (settle a s).img = s.img := by cases a <;> simp [settle]
@[simp] theorem settle_frc (a : Owed) (s : State) : (settle a s).frc = s.frc := by cases a <;> simp [settle]
@[simp] theorem settle_laneA (a : Owed) (s : State) : (settle a s).laneA = s.laneA := by cases a <;> simp [settle]
@[simp] theorem settle_laneB (a : Owed) (s : State) : (settle a s).laneB = s.laneB := by cases a <;> simp [settle]
@[simp] theorem settle_lease (a : Owed) (s : State) : (settle a s).lease = s.lease := by cases a <;> simp [settle]
@[simp] theorem settle_links (a : Owed) (s : State) : (settle a s).links = s.links := by cases a <;> simp [settle]
@[simp] theorem settle_io (a : Owed) (s : State) : (settle a s).io = s.io := by cases a <;> simp [settle]
@[simp] theorem settle_can (a : Owed) (s : State) : (settle a s).can = s.can := by cases a <;> simp [settle]
@[simp] theorem settle_pwr (a : Owed) (s : State) : (settle a s).pwr = s.pwr := by cases a <;> simp [settle]
@[simp] theorem settle_tel (a : Owed) (s : State) : (settle a s).tel = s.tel := by cases a <;> simp [settle]
@[simp] theorem settle_evr (a : Owed) (s : State) : (settle a s).evr = s.evr := by cases a <;> simp [settle]
@[simp] theorem settle_lcd (a : Owed) (s : State) : (settle a s).lcd = s.lcd := by cases a <;> simp [settle]
@[simp] theorem settle_mod (a : Owed) (s : State) : (settle a s).mod = s.mod := by cases a <;> simp [settle]

end Sys2Proof.Machine
end

