-- ==== Sys2Proof/Laws/Commands.lean ====
section
/-!
SUPPORT. Commands of sessions: what an admitted one does, and the state in which it begins.
-/

namespace Sys2Proof.Machine

/-- An admitted command is carried out for its session, on the state with the message and the write noted. -/
theorem sessionCmd_admitted {k : CmdReg} {v : W32} {se : Fin 64} {op : Req → State → State} {s : State} (h : admitted k se s = true) :
    sessionCmd k v se op s = op (reqOf se (asked se s)) (asked se s) := by
  simp only [admitted, Bool.and_eq_true, Option.isNone_iff_eq_none, Bool.not_eq_true'] at h
  obtain ⟨⟨h1, h2⟩, h3⟩ := h
  have b : preCheck k se (onSess se (fun x => { x with lastMsg := s.tb.now }) s) = none := by
    simpa [preCheck, onSess, upd] using h2
  have d : mustRelay k (asked se s) = false := h3
  unfold sessionCmd
  rw [h1]
  simp only [Bool.not_true, Bool.false_eq_true, if_false]
  split
  · next r hr => rw [b] at hr; cases hr
  · exact if_neg (fun h => by rw [show mustRelay k (asked se s) = true from h] at d; cases d)

theorem asked_tab (se : Fin 64) (s : State) :
    (asked se s).ses.tab[se] = { s.ses.tab[se] with lastMsg := s.tb.now, fenceWrites := s.ses.tab[se].fenceWrites + 1 } := by
  simp [asked, noteWrite, onSess, upd]

/-- Only the session's own entry differs. -/
theorem asked_eq (se : Fin 64) (s : State) :
    asked se s = { s with ses := { s.ses with tab := upd s.ses.tab se (fun x =>
      { x with lastMsg := s.tb.now, fenceWrites := x.fenceWrites + 1 }) } } := by
  simp [asked, noteWrite, onSess, upd]

@[simp] theorem asked_sel (se : Fin 64) (s : State) : (reqOf se (asked se s)).sel = s.ses.tab[se].sel := by
  unfold reqOf; rw [asked_tab]
@[simp] theorem asked_read (se : Fin 64) (s : State) : (reqOf se (asked se s)).readMask = effRead s.ses.tab[se] := by
  unfold reqOf; rw [asked_tab]; rfl
@[simp] theorem asked_write (se : Fin 64) (s : State) : (reqOf se (asked se s)).writeMask = effWrite s.ses.tab[se] := by
  unfold reqOf; rw [asked_tab]; rfl
@[simp] theorem asked_classes (se : Fin 64) (s : State) : (reqOf se (asked se s)).classes = s.ses.tab[se].classes := by
  unfold reqOf; rw [asked_tab]
@[simp] theorem asked_asker (se : Fin 64) (s : State) : (reqOf se (asked se s)).asker = .here se := rfl
@[simp] theorem asked_se (se : Fin 64) (s : State) : (reqOf se (asked se s)).se = se := rfl

end Sys2Proof.Machine
end

