-- ==== Sys2Proof/Laws/Release.lean ====
section
/-!
SUPPORT. What releases and completions do to the task table and to memory: the lemmas by which a statement about a task follows its
release through the delivery of its snapshot.
-/

namespace Sys2Proof.Machine

/-- The cycle as it is once its snapshot is delivered. -/
abbrev deliveredCycle (s : State) (e : TaskEntry) (c : Cycle) : Cycle :=
  { c with snapshot := finalSnapshot s e c (restamp c.record.relts c.stamps c.snapshot), awaiting := false, partnerDue := false }

theorem inject_tsk (t : Fin 128) (c : Cycle) (s : State) : (inject t c s).tsk = s.tsk := (keeps_inject t c s).only.tsk rfl
theorem inject_cells (t : Fin 128) (c : Cycle) (s : State) : (inject t c s).mem.cells = s.mem.cells := (keeps_inject t c s).only.cells rfl

theorem upd_upd {α : Type} {n : Nat} (v : Vector α n) (i : Fin n) (f g : α → α) : upd (upd v i f) i g = upd v i (g ∘ f) := by
  unfold upd; simp

/-- Delivery changes of the task table the cycle in progress and the mark to reload. -/
theorem deliver_tsk {t : Fin 128} {s : State} {c : Cycle} {e : TaskEntry} (hc : s.tsk.rt[t].cur = some c) (he : taskEntry s t = some e) :
    (deliver t s).tsk = { s.tsk with rt := upd s.tsk.rt t (fun r => { r with cur := some (deliveredCycle s e c), reload := false }) } := by
  unfold deliver
  rw [hc, he]
  simp only [onTask, inject_tsk, withMem, upd_upd]
  rfl

theorem deliver_cells {t : Fin 128} {s : State} {c : Cycle} {e : TaskEntry} (hc : s.tsk.rt[t].cur = some c) (he : taskEntry s t = some e) :
    (deliver t s).mem.cells = writeInputs (deliveredCycle s e c).snapshot s.mem.cells := by
  unfold deliver
  rw [hc, he]
  simp only [onTask, inject_cells, onLane, withMem]

/-- A snapshot's points all lie in the task's input set. -/
theorem finalSnapshot_mem {s : State} {e : TaskEntry} {c : Cycle} {snap : List (Nat × W128)} {x : Nat × W128}
    (h : x ∈ finalSnapshot s e c snap) : x.1 ∈ pointsOf e.inputs := by
  unfold finalSnapshot at h
  rw [List.mem_map] at h
  obtain ⟨y, hy, rfl⟩ := h
  unfold substituteAll at hy
  rw [List.mem_filterMap] at hy
  obtain ⟨p, hp, hq⟩ := hy
  split at hq
  · split at hq
    · simp only [Option.map_eq_some_iff] at hq
      obtain ⟨z, -, rfl⟩ := hq
      exact hp
    · have := List.find?_some hq; simp at this; simpa [this] using hp
  · have := List.find?_some hq; simp at this; simpa [this] using hp

end Sys2Proof.Machine
end

