-- ==== Sys2Proof/Machine/Connector.lean ====
section
/-!
DEFINITION. The base connector and the service connector (21 R502 to R507): where every channel, island and interface lies, which contacts a
channel uses in each mode, in which order contacts mate, and the identification code. Nothing of it changes while the module runs.
-/

namespace Sys2Proof.Machine

/-- A position of the base connector (R502): 15 rows of 40 columns; `b` selects the second of its two contacts. -/
structure Contact where
  row : Fin 15
  column : Fin 40
  b : Bool
  deriving DecidableEq, Repr

/-- The kinds of position (R502). -/
inductive PositionKind where
  | field | fieldSupply | highSpeed | signal | power
  deriving DecidableEq, Repr

/-- The kind of a position, and its rating in mA for one contact (R502). -/
def positionKind (row : Fin 15) (column : Fin 40) : PositionKind :=
  if row.val < 12 then (if column.val % 20 = 16 ∨ column.val % 20 = 17 then .fieldSupply else .field)
  else if row.val = 12 ∨ (row.val = 13 ∧ column.val < 12) then .highSpeed
  else if row.val = 13 ∨ 8 ≤ column.val then .signal
  else .power
def positionRating : PositionKind → Option Nat
  | .field => some 1000 | .fieldSupply => some 2500 | .highSpeed => none | .signal => some 1000 | .power => some 6000

/-- The four contacts A to D of channel k (R503). -/
def channelContact (k : Fin 192) (which : Fin 4) : Contact :=
  ⟨Fin.ofNat 15 (k.val / 16), Fin.ofNat 40 (20 * (k.val / 8 % 2) + 2 * (k.val % 8) + which.val / 2), which.val % 2 == 1⟩

/-- What an island has beside its channels (R503): L+ and M on both contacts of a position, and the four wires of the Pt1000. -/
inductive IslandPin where
  | lplus | common | excitationPlus | sensePlus | senseMinus | excitationMinus
  deriving DecidableEq, Repr

/-- The contacts of island n (R503). -/
def islandContacts (n : Fin 24) (p : IslandPin) : List Contact :=
  let at_ := fun (c : Nat) (b : Bool) => (⟨Fin.ofNat 15 (n.val / 2), Fin.ofNat 40 (20 * (n.val % 2) + c), b⟩ : Contact)
  match p with
  | .lplus => [at_ 16 false, at_ 16 true]
  | .common => [at_ 17 false, at_ 17 true]
  | .excitationPlus => [at_ 18 false]
  | .sensePlus => [at_ 18 true]
  | .senseMinus => [at_ 19 false]
  | .excitationMinus => [at_ 19 true]

/-- What a contact of a channel carries (R504). -/
inductive ContactUse where
  | none | inputPlus | inputMinus | loopIn | loopOut | excitationPlus | excitationMinus | sensePlus | senseMinus | thirdLead | source
  | loopSide | resistorMSide | drive | fieldSense | returnToM | digitalInput | fieldCommon | switchOutput | highImpedance
  deriving DecidableEq, Repr

/-- The contacts A to D of a channel in a mode (R504); for modes 3 and 4 by the number of wires, 2 to 4. -/
def contactUse (mode wires : Nat) : Vector ContactUse 4 :=
  if mode = 1 ∨ mode = 5 then #v[.none, .inputPlus, .inputMinus, .none]
  else if mode = 2 then #v[.loopIn, .none, .none, .loopOut]
  else if mode = 3 ∨ mode = 4 then
    (if wires = 4 then #v[.excitationPlus, .sensePlus, .senseMinus, .excitationMinus]
     else if wires = 3 then #v[.excitationPlus, .thirdLead, .none, .excitationMinus]
     else #v[.excitationPlus, .none, .none, .excitationMinus])
  else if mode = 6 then #v[.source, .none, .loopSide, .resistorMSide]
  else if mode = 7 then #v[.drive, .fieldSense, .none, .returnToM]
  else if 8 ≤ mode ∧ mode ≤ 10 then #v[.digitalInput, .none, .none, .fieldCommon]
  else if mode = 11 then #v[.switchOutput, .none, .none, .none]
  else Vector.replicate 4 .highImpedance

/-- The interfaces of rows 12 to 14 (R505). -/
inductive Interface where
  | vale (link : Fin 24) (receive : Bool)
  | saddle (link : Fin 2) (receive : Bool)
  | plant (port : Fin 2) (pair : Fin 4)
  | canBus (port : Fin 4)
  | canGround (port : Fin 4)
  | supply (inputB : Bool)
  | moduleZero | slotAndPresence | cageBus | cageInterruptAndBaseCode | controlZero | earth
  deriving DecidableEq, Repr

/-- The interface at a position; `none` is reserved (R505). -/
def interfaceAt (row : Fin 15) (column : Fin 40) : Option Interface :=
  let r := row.val
  let c := column.val
  if r = 12 then some (.vale (Fin.ofNat 24 (c / 2)) (c % 2 == 1))
  else if r = 13 then
    (if c < 8 then some (.vale (Fin.ofNat 24 (20 + c / 2)) (c % 2 == 1))
     else if c < 12 then some (.saddle (Fin.ofNat 2 ((c - 8) / 2)) (c % 2 == 1))
     else if c < 20 then some (.plant (Fin.ofNat 2 ((c - 12) / 4)) (Fin.ofNat 4 ((c - 12) % 4)))
     else if c < 28 then some (if c % 2 = 0 then .canBus (Fin.ofNat 4 ((c - 20) / 2)) else .canGround (Fin.ofNat 4 ((c - 20) / 2)))
     else none)
  else if r = 14 then
    (if c < 4 then some (.supply (2 ≤ c))
     else if c < 8 then some .moduleZero
     else if c = 8 then some .slotAndPresence
     else if c = 9 then some .cageBus
     else if c = 10 then some .cageInterruptAndBaseCode
     else if c = 11 then some .controlZero
     else if c < 20 then some .earth
     else none)
  else none

/-- The order in which contacts mate (R506): 0 first; they break in the reverse order. -/
def matingOrder (row : Fin 15) (column : Fin 40) : Fin 3 :=
  match interfaceAt row column with
  | some .earth => 0
  | some .moduleZero => 0
  | some .slotAndPresence => 2
  | _ => 1

/-- The signals of the service connector (R507). -/
inductive ServicePin where
  | vref | tms | zero | tck | tdo | notConnected | tdi | trst
  deriving DecidableEq, Repr

/-- Positions 1 to 10 of the service connector (R507). -/
def servicePins : List (Nat × ServicePin) :=
  [(1, .vref), (2, .tms), (3, .zero), (4, .tck), (5, .zero), (6, .tdo), (7, .notConnected), (8, .tdi), (9, .zero), (10, .trst)]

/-- The IEEE 1149.1 identification code, all that a probe reads without a credential (R507). -/
def identificationCode : W32 := 0x0B7C5A4D

end Sys2Proof.Machine
end

