-- ==== Sys2Proof/WellFormed.lean ====
section
/-!
DEFINITION. Which commands are well formed: the bounds on the data that a command brings and that its types do not carry.
-/

namespace Sys2Proof

/-- A frame of a CAN port that can exist (14 R365): a classical frame has at most 8 bytes, an FD frame one of the lengths of
the data length code and no remote request. -/
def CanFrame.wf (f : CanFrame) : Bool :=
  (if f.fd then [0, 1, 2, 3, 4, 5, 6, 7, 8, 12, 16, 20, 24, 32, 48, 64].contains f.data.length && !f.remote
   else f.data.length ≤ 8 && !f.brs) &&
  (f.extended || f.ident.toNat < 0x800)

/-- An image or firmware chunk carries 1 to 65 536 bytes (02 R46, 15 R391). -/
def chunkOk (data : List Byte) : Bool := 1 ≤ data.length && data.length ≤ 65536

/-- A credential is 136 bytes (15 R387). -/
def credOk (cred : List Byte) : Bool := cred.length == 136

/-- A key statement is 40 bytes and its signature 64 (02 R39, 15 R391). -/
def keyOk (stmt sig : List Byte) : Bool := stmt.length == 40 && sig.length == 64

/-- **The well-formed commands.** -/
def Instr.wf : Instr → Bool
  | .svcCanQueue _ _ _ f => f.wf && !f.remote
  | .canFrameReceive _ f _ => f.wf
  | .canRxNoticeReceive _ _ f _ _ _ => f.wf
  | .imageChunk _ _ _ data => chunkOk data
  | .forwardedChunkReceive _ _ data => chunkOk data
  | .firmwareChunk _ _ _ data _ => chunkOk data
  | .open_ _ _ cred => credOk cred
  | .debugCredential cred _ => credOk cred
  | .key _ _ stmt sig => keyOk stmt sig
  | .keyOpForwardReceive _ _ stmt => stmt.length == 40
  | .valeInputReceive f => f.records.length ≤ 91
  | .telemetryMeasurement temps rails _ _ => temps.length == 12 && rails.length == 10
  | .calibrationComplete _ factors => factors.length ≤ 8
  | _ => true

end Sys2Proof
end

