-- ==== Sys2Proof/Tests/Slice0.lean ====
section
/-!
SUPPORT. Tests of the package: the checks of well-formedness with a term that each refuses, single steps on small states with results worked
out from the manual, and for every statement with hypotheses concrete states and operands that meet them.
-/

namespace Sys2Proof.Tests

open Sys2Proof Sys2Proof.Machine

-- One theorem after another: the kernel evaluates each of them, and a thread for each would take too much memory.
set_option Elab.async false

/-! ### Well-formedness: each check refuses an ill-formed term -/

/-- A classical frame of eight bytes. -/
def frame8 : CanFrame := ⟨0x7FF, false, false, false, false, List.replicate 8 0⟩

theorem test_wf_classical_frame : (Instr.svcCanQueue 0 0 0 frame8).wf = true := by decide
theorem test_wf_refuses_nine_bytes : (Instr.svcCanQueue 0 0 0 { frame8 with data := List.replicate 9 0 }).wf = false := by decide
theorem test_wf_refuses_fd_nine_bytes : (Instr.canFrameReceive 0 { frame8 with fd := true, data := List.replicate 9 0 } 0).wf = false := by decide
theorem test_wf_refuses_fd_remote : (Instr.canFrameReceive 0 { frame8 with fd := true, remote := true } 0).wf = false := by decide
theorem test_wf_refuses_classical_brs : (Instr.canFrameReceive 0 { frame8 with brs := true } 0).wf = false := by decide
theorem test_wf_refuses_long_identifier : (Instr.canRxNoticeReceive ⟨0, 0, 0⟩ 0 { frame8 with ident := 0x800 } 0 0 0).wf = false := by decide
theorem test_wf_refuses_empty_chunk : (Instr.imageChunk 0 0 0 []).wf = false := by decide
theorem test_wf_refuses_empty_forwarded_chunk : (Instr.forwardedChunkReceive ⟨0, 0, 0⟩ 0 []).wf = false := by decide
theorem test_wf_refuses_empty_package : (Instr.firmwareChunk 0 0 0 [] true).wf = false := by decide
theorem test_wf_refuses_short_credential : (Instr.open_ 0 0 (List.replicate 135 0)).wf = false := by decide +kernel
theorem test_wf_refuses_short_debug_credential : (Instr.debugCredential [] 0).wf = false := by decide
theorem test_wf_refuses_short_statement : (Instr.key 0 0 (List.replicate 39 0) (List.replicate 64 0)).wf = false := by decide
theorem test_wf_refuses_short_signature : (Instr.key 0 0 (List.replicate 40 0) (List.replicate 63 0)).wf = false := by decide
theorem test_wf_refuses_short_forwarded_statement : (Instr.keyOpForwardReceive ⟨0, 0, 0⟩ 0 []).wf = false := by decide
theorem test_wf_refuses_long_input_frame :
    (Instr.valeInputReceive ⟨0, true, 0, 0, 0, 0, 1, 0, 0, 0, List.replicate 92 0⟩).wf = false := by decide
theorem test_wf_refuses_short_telemetry : (Instr.telemetryMeasurement [] (List.replicate 10 0) 0 .clean).wf = false := by decide
theorem test_wf_refuses_nine_factors : (Instr.calibrationComplete 0 (List.replicate 9 (0, 0, 0))).wf = false := by decide

/-! ### Decoding: no row of the table has bits -/

theorem test_no_word_decodes : decodeTableWord 32 0x12345678 = none := rfl
theorem test_no_word_is_fetched : State.reset.withFetchWord 32 1 = State.reset := rfl

/-! ### Numbers from standards and from the manual -/

/-- The check value of CRC-32 over the digits 1 to 9 (IEEE 802.3). -/
theorem test_crc32 : crc32 [0x31, 0x32, 0x33, 0x34, 0x35, 0x36, 0x37, 0x38, 0x39] = 0xCBF43926 := by decide +kernel
/-- 1.0 + 2.0 = 3.0 in binary64 (R72). -/
theorem test_binary64_sum : (b64.op .add 0x3FF0000000000000 0x4000000000000000 0).1 = 0x4008000000000000 := by decide +kernel

/-! ### Small states -/

/-- A task entry of a small image: the number, whether it is an event task, its trigger and argument A. -/
def tk (n : Fin 128) (event : Bool) (trigger argA : Nat) : TaskEntry :=
  { num := n, event := event, priority := 1, enable := true, period := 100, phase := 0, deadline := 50, inputs := [(0, 7)], outputs := [(0, 7)],
    ovrLimit := 0, policy := false, ovrTask := none, errTask := none, trigger := trigger, argA := argA, argB := 0 }

/-- A release record and a cycle in progress of it. -/
def rec1 (ts : Nat) (c : W32) : RelRec := ⟨ts, c, 0, 0, 0, 0, ts, 0, 0⟩
def cyc (ts : Nat) (c : W32) (awaiting : Bool) : Cycle :=
  { record := rec1 ts c, base := ts, awaiting := awaiting, partnerDue := false, forces := [], snapshot := [], taken := [], stamps := [],
    substs := [], outStns := [], writes := [], outputs := [], before := [], digests := 0, flags := 0, unchecked := false, can := [],
    fromHolder := false }

/-- A running routine that waits for `w`. -/
def ctx (w : Option CoreWait) : Context := ⟨0, [], [], [], false, w⟩
def laneWith (w : Option CoreWait) : LaneState := { cores := (Vector.replicate 8 {}).set 0 { running := some (ctx w) } }

/-- A lane with a routine that is ready on core 0. -/
def routine0 : Routine := ⟨0, 0, 0, [], 16, []⟩
def slot0 : SlotConf := ⟨0, 0, 0, .logic .bnot, Vector.replicate 3 .unused, Vector.replicate 4 none⟩

/-- A session with every class and colour. -/
def sess1 : Sess := { st := .open_, readMask := 0xFFFF, writeMask := 0xFFFF, classes := 0x3FFF }
def ses1 : Ses := { tab := (Vector.replicate 64 {}).set 0 sess1 }

/-- A holder alone, a holder with a partner, a standby with a holder. -/
def alone : State := { mod := { st := .active }, lease := { holder := true, leaseEnd := 1000000000000000 }, ses := ses1 }
def holder : State :=
  { alone with pair := { up := Vector.replicate 2 true, partner := .without, partnerState := 5 }, mir := { pReported := true, pHealth := 1 } }
def standby : State :=
  { mod := { st := .standby }, pair := { up := Vector.replicate 2 true, partner := .holder, partnerState := 6 }, lease := { hbNoLease := false }, ses := ses1 }
def outside : State := { mod := { st := .config }, ses := ses1 }

def withImage (i : Image) (s : State) : State := { s with img := { s.img with run := some i } }
def image1 (e : TaskEntry) : Image :=
  { tasks := [e], routs := [routine0], prog := ⟨[slot0], [], []⟩, canTasks := [(0, 0, 0)], taskMasks := [⟨0, 0xFFFF, 0xFFFF⟩] }
def withTask (e : TaskEntry) (r : TaskRt) (s : State) : State :=
  { withImage (image1 e) s with tsk := { s.tsk with rt := (Vector.replicate 128 {}).set 0 r } }
def withSel (x : Selects) (s : State) : State := { s with ses := { s.ses with tab := (Vector.replicate 64 {}).set 0 { sess1 with sel := x } } }

/-- A word of lane A at the head of a stream, and the same word of lane B in the delay element; task 0 runs its cycle 1. -/
def paired (stream : Fin 72) (w : LaneWord) : State :=
  { withTask (tk 0 false 0 0) { st := .released, cur := some (cyc 0 1 false) } alone with
    laneA := { laneWith (some (.load 0)) with out := [(stream, w)] }
    laneB := laneWith (some (.load 0))
    lsk := { delay := (Vector.replicate 74 []).set stream.val [⟨.B, w, 0, false⟩] } }

/-- A recorder with `n` records and one event that waits. -/
def ev0 : Ev := ⟨1, 0, false, false, 0, 0, 0, 0, 0⟩
def recorder (n : Nat) : State := { evr := { ready := true, queue := [ev0], slots := List.replicate n 0 } }

/-- A relayed WRITE of a session that may write nothing. -/
def relayed (b : RelayBody) : RelayMsg := ⟨1, 0, 0, 0, 0, ⟨0, 0, 0, 0, 0, 0, 0, 0, 0, 0, 0, 0, 0, 0, 0⟩, b⟩

/-- A digest and the next number differ, whatever the digest is. -/
theorem test_next_differs (x : W128) : x ≠ x + 1 := by bv_omega

/-! ### Single steps and functions, with results from the manual or from published tables -/

/-- SHA-256 of "abc" (FIPS 180-4, the published example). -/
theorem test_sha256_abc : sha256 [0x61, 0x62, 0x63] = 0xad1500f261ff10b49c7a1796a36103b02322ae5dde404141eacf018fbf1678ba := by decide +kernel
/-- 138.5055 Ω of a Pt100 are 100 °C (IEC 60751, the table for platinum; R301). -/
theorem test_platinum_100 : platinumTemp 100 (1385055 / 10000) = 100000000 := by decide +kernel
/-- The example of 04: a completion 120 µs after the release with a deadline of 150 µs has a margin of 200 per mille (R107). -/
theorem test_margin_of_example : marginPm 150000 120000 = 200 := by decide
/-- Edges 1 ms apart are 1 000.0 Hz by the reciprocal method (R146). -/
theorem test_frequency_1_kHz : frequency {} [3000000, 2000000, 1000000] 3000000 = (0x408F400000000000, false) := by decide +kernel
/-- The example of 05: with the release after 0.9 s skipped the accumulated time is 1.1 s, and the timer with a preset of 1 s is true (R148). -/
theorem test_timer_after_skip : timerStep 200000000 900000000 1000000000 = (1 <<< 64) + 1100000000 := by decide +kernel
/-- The elapsed time is RELTS minus the previous RELTS (R147): 1.2 s after 1.0 s. -/
theorem test_elapsed : (elapsedTime 1200000000 (1000000000 <<< 64)).extractLsb' 0 64 = 200000000 := by decide +kernel
/-- The example of 08: with five witnesses the quorum is 3 (R206). -/
theorem test_quorum_of_five :
    quorum (withImage { stations := [0, 4, 8, 12, 16].map (fun l => ⟨l, 0, true, none, 0, 0, 0, 0, 0, 0, []⟩) } alone) = 3 := by decide +kernel

/-- The example of 15: session 12 holds colour 3 alone; the granule at 0x1000_1000 has colour 4. -/
def violator : State :=
  { alone with
    img := { run := some { colours := [⟨32768, 64, 3⟩, ⟨32832, 64, 4⟩] } }
    ses := { tab := (Vector.replicate 64 {}).set 12 { st := .open_, writeMask := 8 } } }
/-- A WRITE of 128 bytes at 0x1000_0FC0 is refused whole: the violation counts and its address is kept (R395, R405). -/
theorem test_write_across_colours : (match exec (.write 12 false 0 0x10000FC0 (List.replicate 128 0) .clean) violator with
    | .next u => u.mem.cells == [] && u.ses.tab[(12 : Fin 64)].violCnt == 1 && u.ses.tab[(12 : Fin 64)].violAddr == 0x10001000
    | _ => false) = true := by decide +kernel
/-- A WRITE of 4 bytes at 0x1000_0FC0, in colour 3 alone, takes effect. -/
theorem test_write_in_colour : (match exec (.write 12 false 0 0x10000FC0 [1, 0, 0, 2] .clean) violator with
    | .next u => u.mem.cells == [(0x10000FC0, 1), (0x10000FC3, 2)] && u.ses.tab[(12 : Fin 64)].violCnt == 0
    | _ => false) = true := by decide +kernel

/-- The example of 21: channel 100 lies at 6.8 and 6.9, and its island 12 at 6.16 to 6.19 (R503). -/
theorem test_channel_100 : (List.finRange 4).map (channelContact 100) = [⟨6, 8, false⟩, ⟨6, 8, true⟩, ⟨6, 9, false⟩, ⟨6, 9, true⟩] := by decide
theorem test_island_12 : islandContacts 12 .lplus = [⟨6, 16, false⟩, ⟨6, 16, true⟩] ∧ islandContacts 12 .excitationMinus = [⟨6, 19, true⟩] := by decide

/-- An image with one variable of 14 001 granules at an offset. -/
def bigImage (off : Nat) : Image := { vars := [⟨1, 0, false, false, true, off, 896064, 0, 0, 0, [], []⟩] }

/-- The plan between two places of that variable writes 14 001 granules. -/
theorem test_plan_granules : gcv (planOf (bigImage 0) (bigImage 0) (bigImage 896128)) = 14001 := by
  have h : gcv (planOf (bigImage 0) (bigImage 0) (bigImage 896128)) = (((List.range 14001).map (fun k => 32768 + 14002 + k)) ++ []).dedup.length := rfl
  rw [h, List.append_nil, List.Nodup.dedup (List.Nodup.map (fun a b e => by simpa using e) List.nodup_range)]
  simp

/-- A credential of enrolment signed by its own key (RFC 8032), and a module in its enrolment window whose numbers 0 to 62 are in use. -/
def enrolCred : List Byte :=
  [0x4C, 0x58, 0x43, 0x31, 0x01, 0xFF, 0x00, 0x00, 0x45, 0x4E, 0x52, 0x4F, 0x4C, 0x00, 0x00, 0x00, 0x00, 0x00, 0x00, 0x00, 0x00, 0x00, 0x00, 0x00] ++
  [0x03, 0xA1, 0x07, 0xBF, 0xF3, 0xCE, 0x10, 0xBE, 0x1D, 0x70, 0xDD, 0x18, 0xE7, 0x4B, 0xC0, 0x99, 0x67, 0xE4, 0xD6, 0x30, 0x9B, 0xA5, 0x0D, 0x5F,
  0x1D, 0xDC, 0x86, 0x64, 0x12, 0x55, 0x31, 0xB8, 0x00, 0x00, 0x00, 0x00, 0x00, 0x00, 0x00, 0x00, 0x00, 0x00, 0x00, 0x00, 0x00, 0x00, 0x00, 0x00] ++
  [0xB0, 0xA0, 0x69, 0xBF, 0x96, 0xA2, 0xDC, 0xEE, 0x12, 0x0E, 0x1D, 0xB1, 0x12, 0x02, 0x2C, 0x74, 0x56, 0x57, 0x36, 0x34, 0x68, 0x08, 0x39, 0x4A,
  0xFA, 0x00, 0xA2, 0x44, 0xF8, 0xEC, 0x13, 0xAE, 0x8A, 0x97, 0x9D, 0x10, 0xA4, 0xBE, 0xF1, 0xA6, 0x6B, 0xF4, 0x0D, 0x2C, 0x14, 0x5E, 0x5E, 0xDF,
  0x52, 0x7F, 0x70, 0xB0, 0xB4, 0xC4, 0xF3, 0x0D, 0x57, 0xC5, 0xAC, 0x15, 0xEF, 0x5F, 0x41, 0x04]
def enrolConn : Conn := ⟨1, 0, 0, 0xB83155126486DC1D5F0DA59B30D6E46799C04BE718DD701DBE10CEF3BF07A103, 0⟩
def enrolling : State := { ses := { enrol := some 0, tab := (Vector.replicate 64 { st := .open_ }).set 63 {} } }

/-- R388, R389: the credential passes every check, its signature among them, and takes the number 63. -/
theorem test_enrolment_opens : ∃ g, openVerdict enrolConn enrolCred enrolling = .inr (g, 63) := by
  have h : (match openVerdict enrolConn enrolCred enrolling with | .inl _ => false | .inr (_, n) => n == 63) = true := by decide +kernel
  revert h
  cases openVerdict enrolConn enrolCred enrolling with
  | inl c => simp
  | inr p => exact fun h => ⟨p.1, by rw [← of_decide_eq_true h]⟩

/-! ### Every clause of every statement has states and operands that meet its hypotheses

One theorem for each statement: for each of its clauses with hypotheses the states and operands, and that they meet all of them. Of the clause
about an image that passes every check there is none: a check of its undocumented sections is a constant without a body (log 10). -/

theorem test_met_StepRunsTheCommandInFront :
    ∃ (c : Instr) (q : List Instr) (s : State), s.pending = c :: q :=
  ⟨.debugStep, [], { pending := [.debugStep] }, by decide +kernel⟩

theorem test_met_IdleStepIsOneTick :
    ∃ (s : State), s.pending = [] :=
  ⟨{}, by decide +kernel⟩

theorem test_met_EveryCommandChangesItsPartsOnly :
    ∃ (c : Instr) (s : State) (t : State), exec c s = Host.Outcome.next t :=
  ⟨.debugStep, {}, _, rfl⟩

theorem test_met_WhatWasSentStaysSent :
    ∃ (c : Instr) (s : State) (t : State), exec c s = Host.Outcome.next t :=
  ⟨.debugStep, {}, _, rfl⟩

theorem test_met_MemoryReadsWhatWasWritten :
    (∃ (m : List Host.Cell) (n : List Host.Cell), (Memory.wf m = true) ∧ (Memory.wf n = true) ∧ (∀ (a : ℕ), Memory.read m a = Memory.read n a)) ∧
    (∃ (m : List Host.Cell) (bs : List Byte) (k : ℕ), (Memory.wf m = true) ∧ (k < bs.length)) ∧
    (∃ (m : List Host.Cell) (a : ℕ) (bs : List Byte) (b : ℕ), (Memory.wf m = true) ∧ (b < a ∨ a + bs.length ≤ b)) ∧
    (∃ (m : List Host.Cell) (a : ℕ) (b : ℕ), (Memory.wf m = true) ∧ (b < a ∨ a + 16 ≤ b)) :=
  ⟨⟨[], [], by decide, by decide, fun _ => rfl⟩,
   ⟨[(5, 1)], [1], 0, by decide +kernel⟩,
   ⟨[], 1000000, (List.replicate 48 255), 0, by decide +kernel⟩,
   ⟨[], 1000000, 0, by decide +kernel⟩⟩

theorem test_met_RegistersReadTheirResetValues :
    ∃ (row : ℕ × ℕ × W32) (k : ℕ), (row ∈ resetTable) ∧ (row.1 + 4 * k ≤ row.2.1) :=
  ⟨(0, (0, 827611212#32)), 0, by decide +kernel⟩

theorem test_met_MemoryIsScrubbedAndTheStoreKept :
    (∃ (s : State), s.tb.now < s.mem.scrubAt) ∧
    (∃ (s : State), (s.mod.st ≠ ModState.off) ∧ (s.mem.scrubAt ≤ s.tb.now) ∧ (regionOf (memoryBase + 64 * s.mem.scrub) = Region18.history)) ∧
    (∃ (s : State), (inRun s = true) ∧ (s.lsk.stopped = false) ∧ (s.lsk.fault = none) ∧ (s.mem.scrubAt ≤ s.tb.now) ∧ (s.mem.scrub < 4227072)) ∧
    (∃ (s : State) (w : PWrite) (rest : List PWrite), (s.mem.writes = w :: rest) ∧ (w.act = PAct.none) ∧ (w.value.item ≠ 1)) ∧
    (∃ (s : State) (keys : List KeySlot) (revoked : List W256) (rest : List PWrite),
        s.mem.writes = { value := PValue.keyTable keys revoked, tries := 0, act := PAct.none } :: rest) ∧
    (∃ (s : State) (w : PWrite) (rest : List PWrite), (s.mem.writes = w :: rest) ∧ (w.tries = 0)) ∧
    (∃ (s : State) (w : PWrite) (rest : List PWrite), (s.mem.writes = w :: rest) ∧ (w.tries ≠ 0) ∧ (w.act = PAct.none)) ∧
    (∃ (s : State) (d : ℕ), s.mem.terrDue = some d) ∧
    (∃ (s : State), (s.mod.st ≠ ModState.off) ∧ (s.tel.opSaved + 60000 ≤ s.tel.opTime)) :=
  ⟨⟨{ mem := { scrubAt := 1 } }, by decide +kernel⟩,
   ⟨{ mem := { scrub := 100000000 } }, by decide +kernel⟩,
   ⟨{ mod := { st := .standby } }, by decide +kernel⟩,
   ⟨{ mem := { writes := [{ value := (PValue.epoch 0#32), tries := 0, act := .none }] } }, { value := (PValue.epoch 0#32), tries := 0, act := .none },
        [], by decide +kernel⟩,
   ⟨{ mem := { writes := [{ value := (PValue.keyTable [] []), tries := 0, act := .none }] } }, [], [], [], by decide +kernel⟩,
   ⟨{ mem := { writes := [{ value := (PValue.keyTable [] []), tries := 0, act := .none }] } },
        { value := (PValue.keyTable [] []), tries := 0, act := .none }, [], by decide +kernel⟩,
   ⟨{ mem := { writes := [{ value := (PValue.keyTable [] []), tries := 2, act := .none }] } },
        { value := (PValue.keyTable [] []), tries := 2, act := .none }, [], by decide +kernel⟩,
   ⟨{ mem := { terrDue := (some 0) } }, 0, by decide +kernel⟩,
   ⟨{ tel := { opTime := 114440 } }, by decide +kernel⟩⟩

theorem test_met_SlotsFireTokensHopAndRoutinesRun :
    (∃ (s : State) (lane : Lane) (tile : Fin 16384) (slot : Fin 16) (c : SlotConf), (slotConf s tile slot = some c) ∧ (laneRuns s lane = true) ∧
        (slotReady s (laneOf s lane) c = true) ∧ (∀ d ∈ (program s).slots,
        d.tile = tile → d.slot ≠ slot → slotReady s (laneOf s lane) d = true → firesBefore s c d = true)) ∧
    (∃ (s : State) (lane : Lane) (tile : Fin 16384) (dir : Fin 4) (next : Fin 16384) (tok : Token), (neighbour tile dir = some next) ∧
        (laneRuns s lane = true) ∧ (nextToken s (laneOf s lane) tile next dir = some tok)) ∧
    (∃ (s : State) (lane : Lane) (k : Fin 8) (n : ℕ) (r : Routine), (laneRuns s lane = true) ∧ (nextRoutine s (laneOf s lane).cores[k] k = some (n,
        r)) ∧ ((laneOf s lane).cores[k].running = none ∨ ∃ (x : Context), (laneOf s lane).cores[k].running = some x ∧
        preemptDue s (laneOf s lane).cores[k] k x = true)) ∧
    (∃ (s : State) (lane : Lane) (k : Fin 8) (x : Context) (r : Routine) (output : ℕ) (o : RoutineOut), (laneRuns s lane = true) ∧
        ((laneOf s lane).cores[k].running = some x) ∧ (routineNo s x.routine = some r) ∧ (x.wait = none) ∧
        (preemptDue s (laneOf s lane).cores[k] k x = false) ∧ (r.outputs[output]? = some o) ∧ (x.sent.contains output = false) ∧
        (outputFree s (laneOf s lane) k o = true)) ∧
    (∃ (s : State) (lane : Lane) (k : Fin 8) (x : Context) (r : Routine) (a : ℕ), (laneRuns s lane = true) ∧
        ((laneOf s lane).cores[k].running = some x) ∧ (routineNo s x.routine = some r) ∧ (x.wait = none) ∧
        (preemptDue s (laneOf s lane).cores[k] k x = false) ∧ (a < r.sram)) ∧
    (∃ (s : State) (lane : Lane) (k : Fin 8) (x : Context) (r : Routine) (a : ℕ), (laneRuns s lane = true) ∧
        ((laneOf s lane).cores[k].running = some x) ∧ (routineNo s x.routine = some r) ∧ (x.wait = none) ∧
        (preemptDue s (laneOf s lane).cores[k] k x = false) ∧ (spillUsed (laneOf s lane).cores[k] x.routine a ≤ 196608)) ∧
    (∃ (s : State) (lane : Lane) (k : Fin 8) (x : Context) (r : Routine) (a : W32), (laneRuns s lane = true) ∧
        ((laneOf s lane).cores[k].running = some x) ∧ (routineNo s x.routine = some r) ∧ (x.wait = none) ∧
        (preemptDue s (laneOf s lane).cores[k] k x = false) ∧ (corePermits s r.task false a = true) ∧
        (streamBusy (laneOf s lane) (coreStream k) = false)) ∧
    (∃ (s : State) (lane : Lane) (k : Fin 8) (x : Context) (r : Routine), (laneRuns s lane = true) ∧ ((laneOf s lane).cores[k].running = some x) ∧
        (routineNo s x.routine = some r) ∧ (x.wait = none) ∧ (preemptDue s (laneOf s lane).cores[k] k x = false) ∧
        (streamBusy (laneOf s lane) (coreStream k) = false)) ∧
    (∃ (s : State) (lane : Lane) (k : Fin 8) (x : Context) (r : Routine), (laneRuns s lane = true) ∧ ((laneOf s lane).cores[k].running = some x) ∧
        (routineNo s x.routine = some r) ∧ (x.wait = none) ∧ (preemptDue s (laneOf s lane).cores[k] k x = false) ∧ (∀ o < r.outputs.length,
        x.sent.contains o = true)) :=
  ⟨⟨{ tsk := { rt := ((Vector.replicate 128 {}).set 0 { cur := (some { record := { relts := 0, cycle := 0#32, trigger := 0#8, reason := 0#8, missed := 0#8, flags := 0#8, trigts := 0, arg := 0#32, info := 0#32 }, base := 0, awaiting := false, partnerDue := false, forces := [], snapshot := [], taken := [], stamps := [], substs := [], outStns := [], writes := [], outputs := [], before := [], digests := 0, flags := 0#7, unchecked := false, can := [], fromHolder := false }) }) }, img := { run := (some { prog := { slots := [{ tile := 0, slot := 0, task := 0, op := (AluOp.fp32 .add), ins := (Vector.replicate 3 .unused), dests := (Vector.replicate 4 none) }], words := [], inject := [] } }) }, mod := { st := .active } },
        .A, 0, 0,
        { tile := 0, slot := 0, task := 0, op := (AluOp.fp32 .add), ins := (Vector.replicate 3 .unused), dests := (Vector.replicate 4 none) },
        by decide +kernel⟩,
   ⟨{ laneB := { links := [(0, (0, { data := 0#128, task := 0, route := [], dest := (Dest.slot 0 0 0 []) }))] }, mod := { st := .active } }, .B, 0, 0,
        1, { data := 0#128, task := 0, route := [], dest := (Dest.slot 0 0 0 []) }, by decide +kernel⟩,
   ⟨{ tsk := { rt := ((Vector.replicate 128 {}).set 0 { cur := (some { record := { relts := 0, cycle := 0#32, trigger := 0#8, reason := 0#8, missed := 0#8, flags := 0#8, trigts := 0, arg := 0#32, info := 0#32 }, base := 0, awaiting := false, partnerDue := false, forces := [], snapshot := [], taken := [], stamps := [], substs := [], outStns := [], writes := [], outputs := [], before := [], digests := 0, flags := 0#7, unchecked := false, can := [], fromHolder := false }) }) }, img := { run := (some { routs := [{ core := 0, task := 0, inputs := 0, outputs := [], sram := 0, keep := [] }] }) }, mod := { st := .active } },
        .A, 0, 0, { core := 0, task := 0, inputs := 0, outputs := [], sram := 0, keep := [] }, by decide +kernel⟩,
   ⟨{ img := { run := (some { routs := [{ core := 0, task := 0, inputs := 0, outputs := [{ real := false, dbl := false, dests := [] }], sram := 0, keep := [] }] }) }, laneB := { cores := ((Vector.replicate 8 {}).set 0 { running := (some { routine := 0, regs := [], tokens := [], sent := [], faultStore := false, wait := none }) }) }, mod := { st := .standby } },
        .B, 0, { routine := 0, regs := [], tokens := [], sent := [], faultStore := false, wait := none },
        { core := 0, task := 0, inputs := 0, outputs := [{ real := false, dbl := false, dests := [] }], sram := 0, keep := [] }, 0,
        { real := false, dbl := false, dests := [] }, by decide +kernel⟩,
   ⟨{ img := { run := (some { routs := [{ core := 0, task := 0, inputs := 0, outputs := [], sram := 2, keep := [] }] }) }, laneB := { cores := ((Vector.replicate 8 {}).set 0 { running := (some { routine := 0, regs := [], tokens := [], sent := [], faultStore := false, wait := none }) }) }, mod := { st := .standby } },
        .B, 0, { routine := 0, regs := [], tokens := [], sent := [], faultStore := false, wait := none },
        { core := 0, task := 0, inputs := 0, outputs := [], sram := 2, keep := [] }, 0, by decide +kernel⟩,
   ⟨{ img := { run := (some { routs := [{ core := 0, task := 0, inputs := 0, outputs := [], sram := 0, keep := [] }] }) }, laneB := { cores := ((Vector.replicate 8 {}).set 0 { running := (some { routine := 0, regs := [], tokens := [], sent := [], faultStore := false, wait := none }) }) }, mod := { st := .standby } },
        .B, 0, { routine := 0, regs := [], tokens := [], sent := [], faultStore := false, wait := none },
        { core := 0, task := 0, inputs := 0, outputs := [], sram := 0, keep := [] }, 16, by decide +kernel⟩,
   ⟨{ img := { run := (some { taskMasks := [{ task := 0, readMask := 65535#16, writeMask := 0#16 }], routs := [{ core := 0, task := 0, inputs := 0, outputs := [], sram := 0, keep := [] }] }) }, laneB := { cores := ((Vector.replicate 8 {}).set 1 { running := (some { routine := 0, regs := [], tokens := [], sent := [], faultStore := false, wait := none }) }) }, mod := { st := .unchecked } },
        .B, 1, { routine := 0, regs := [], tokens := [], sent := [], faultStore := false, wait := none },
        { core := 0, task := 0, inputs := 0, outputs := [], sram := 0, keep := [] }, 268435472#32, by decide +kernel⟩,
   ⟨{ img := { run := (some { routs := [{ core := 0, task := 0, inputs := 0, outputs := [], sram := 0, keep := [] }] }) }, laneB := { cores := ((Vector.replicate 8 {}).set 0 { running := (some { routine := 0, regs := [], tokens := [], sent := [], faultStore := false, wait := none }) }) }, mod := { st := .standby } },
        .B, 0, { routine := 0, regs := [], tokens := [], sent := [], faultStore := false, wait := none },
        { core := 0, task := 0, inputs := 0, outputs := [], sram := 0, keep := [] }, by decide +kernel⟩,
   ⟨{ img := { run := (some { routs := [{ core := 0, task := 0, inputs := 0, outputs := [], sram := 0, keep := [] }] }) }, laneA := { cores := ((Vector.replicate 8 {}).set 0 { running := (some { routine := 0, regs := [], tokens := [], sent := [], faultStore := false, wait := none }) }) }, mod := { st := .active } },
        .A, 0, { routine := 0, regs := [], tokens := [], sent := [], faultStore := false, wait := none },
        { core := 0, task := 0, inputs := 0, outputs := [], sram := 0, keep := [] }, by decide +kernel⟩⟩

theorem test_met_ServiceCallsActAndCommandChannels :
    (∃ (s : State) (k : Fin 8) (r : Routine), (caller s k 0 = some r) ∧ (s.evr.queue.length < 256)) ∧
    (∃ (s : State) (k : Fin 8) (r : Routine) (p : Fin 4) (b : Fin 32) (cyc : Cycle), (caller s k 1 = some r) ∧ (bufferTask s p b = some r.task) ∧
        (s.tsk.rt[r.task].cur = some cyc)) ∧
    (∃ (s : State) (k : Fin 8) (r : Routine) (p : Fin 4) (b : Fin 32) (cyc : Cycle), (caller s k 2 = some r) ∧ (bufferTask s p b = some r.task) ∧
        (s.tsk.rt[r.task].cur = some cyc)) ∧
    (∃ (s : State) (k : Fin 8) (r : Routine) (p : Fin 4) (cyc : Cycle) (x : RxEntry) (rest : List RxEntry), (caller s k 3 = some r) ∧
        (s.tsk.rt[r.task].cur = some cyc) ∧ (s.can[p].fifo = x :: rest) ∧ (x.completion + 20000 ≤ cyc.record.relts)) ∧
    (∃ (s : State) (k : Fin 8) (r : Routine) (n : Fin 16) (e : RegionEntry), (caller s k 8 = some r) ∧ (s.lcd.regions[n].entry = some e) ∧
        (e.program = true) ∧ (s.lcd.regions[n].running = none)) ∧
    (∃ (s : State) (k : Fin 8) (r : Routine) (c : Fin 192), (caller s k 4 = some r) ∧ (cmdReject s (ChanCmd.urgent c) = none)) ∧
    (∃ (s : State) (k : Fin 8) (r : Routine) (c : Fin 192) (v : Bool), (caller s k 5 = some r) ∧ (cmdReject s (ChanCmd.owtest c v) = none)) ∧
    (∃ (s : State) (k : Fin 8) (r : Routine) (c : Fin 192) (v : W32), (caller s k 6 = some r) ∧ (cmdReject s (ChanCmd.cntpreset c v) = none)) ∧
    (∃ (s : State) (k : Fin 8) (r : Routine) (c : Fin 192), (caller s k 7 = some r) ∧ (cmdReject s (ChanCmd.cntreset c) = none)) :=
  ⟨⟨{ img := { run := (some { routs := [{ core := 0, task := 0, inputs := 0, outputs := [], sram := 0, keep := [] }] }) }, laneA := { cores := ((Vector.replicate 8 {}).set 0 { running := (some { routine := 0, regs := [], tokens := [], sent := [], faultStore := false, wait := (some (CoreWait.call 0 0 true)) }) }) }, laneB := { cores := ((Vector.replicate 8 {}).set 0 { running := (some { routine := 0, regs := [], tokens := [], sent := [], faultStore := false, wait := (some (CoreWait.call 0 0 true)) }) }) }, mod := { st := .active } },
        0, { core := 0, task := 0, inputs := 0, outputs := [], sram := 0, keep := [] }, by decide +kernel⟩,
   ⟨{ tsk := { rt := ((Vector.replicate 128 {}).set 0 { cur := (some { record := { relts := 0, cycle := 0#32, trigger := 0#8, reason := 0#8, missed := 0#8, flags := 0#8, trigts := 0, arg := 0#32, info := 0#32 }, base := 0, awaiting := false, partnerDue := false, forces := [], snapshot := [], taken := [], stamps := [], substs := [], outStns := [], writes := [], outputs := [], before := [], digests := 0, flags := 0#7, unchecked := false, can := [], fromHolder := false }) }) }, img := { run := (some { routs := [{ core := 0, task := 0, inputs := 0, outputs := [], sram := 0, keep := [] }], canTasks := [(0, (0, 0))] }) }, laneA := { cores := ((Vector.replicate 8 {}).set 0 { running := (some { routine := 0, regs := [], tokens := [], sent := [], faultStore := false, wait := (some (CoreWait.call 1 0 true)) }) }) }, laneB := { cores := ((Vector.replicate 8 {}).set 0 { running := (some { routine := 0, regs := [], tokens := [], sent := [], faultStore := false, wait := (some (CoreWait.call 1 0 true)) }) }) }, mod := { st := .active } },
        0, { core := 0, task := 0, inputs := 0, outputs := [], sram := 0, keep := [] }, 0, 0,
        { record := { relts := 0, cycle := 0#32, trigger := 0#8, reason := 0#8, missed := 0#8, flags := 0#8, trigts := 0, arg := 0#32, info := 0#32 }, base := 0, awaiting := false, partnerDue := false, forces := [], snapshot := [], taken := [], stamps := [], substs := [], outStns := [], writes := [], outputs := [], before := [], digests := 0, flags := 0#7, unchecked := false, can := [], fromHolder := false },
        by decide +kernel⟩,
   ⟨{ tsk := { rt := ((Vector.replicate 128 {}).set 0 { cur := (some { record := { relts := 0, cycle := 0#32, trigger := 0#8, reason := 0#8, missed := 0#8, flags := 0#8, trigts := 0, arg := 0#32, info := 0#32 }, base := 0, awaiting := false, partnerDue := false, forces := [], snapshot := [], taken := [], stamps := [], substs := [], outStns := [], writes := [], outputs := [], before := [], digests := 0, flags := 0#7, unchecked := false, can := [], fromHolder := false }) }) }, img := { run := (some { routs := [{ core := 0, task := 0, inputs := 0, outputs := [], sram := 0, keep := [] }], canTasks := [(0, (0, 0))] }) }, laneA := { cores := ((Vector.replicate 8 {}).set 0 { running := (some { routine := 0, regs := [], tokens := [], sent := [], faultStore := false, wait := (some (CoreWait.call 2 0 true)) }) }) }, laneB := { cores := ((Vector.replicate 8 {}).set 0 { running := (some { routine := 0, regs := [], tokens := [], sent := [], faultStore := false, wait := (some (CoreWait.call 2 0 true)) }) }) }, mod := { st := .active } },
        0, { core := 0, task := 0, inputs := 0, outputs := [], sram := 0, keep := [] }, 0, 0,
        { record := { relts := 0, cycle := 0#32, trigger := 0#8, reason := 0#8, missed := 0#8, flags := 0#8, trigts := 0, arg := 0#32, info := 0#32 }, base := 0, awaiting := false, partnerDue := false, forces := [], snapshot := [], taken := [], stamps := [], substs := [], outStns := [], writes := [], outputs := [], before := [], digests := 0, flags := 0#7, unchecked := false, can := [], fromHolder := false },
        by decide +kernel⟩,
   ⟨{ tsk := { rt := ((Vector.replicate 128 {}).set 0 { cur := (some { record := { relts := 20000, cycle := 0#32, trigger := 0#8, reason := 0#8, missed := 0#8, flags := 0#8, trigts := 0, arg := 0#32, info := 0#32 }, base := 0, awaiting := false, partnerDue := false, forces := [], snapshot := [], taken := [], stamps := [], substs := [], outStns := [], writes := [], outputs := [], before := [], digests := 0, flags := 0#7, unchecked := false, can := [], fromHolder := false }) }) }, img := { run := (some { routs := [{ core := 0, task := 0, inputs := 0, outputs := [], sram := 0, keep := [] }] }) }, laneA := { cores := ((Vector.replicate 8 {}).set 0 { running := (some { routine := 0, regs := [], tokens := [], sent := [], faultStore := false, wait := (some (CoreWait.call 3 0 true)) }) }) }, laneB := { cores := ((Vector.replicate 8 {}).set 0 { running := (some { routine := 0, regs := [], tokens := [], sent := [], faultStore := false, wait := (some (CoreWait.call 3 0 true)) }) }) }, can := ((Vector.replicate 4 {}).set 0 { fifo := [{ frame := { ident := 0#29, extended := false, fd := false, brs := false, remote := false, data := (List.replicate 0 0) }, filter := 0, stamp := 0, completion := 0 }] }), mod := { st := .active } },
        0, { core := 0, task := 0, inputs := 0, outputs := [], sram := 0, keep := [] }, 0,
        { record := { relts := 20000, cycle := 0#32, trigger := 0#8, reason := 0#8, missed := 0#8, flags := 0#8, trigts := 0, arg := 0#32, info := 0#32 }, base := 0, awaiting := false, partnerDue := false, forces := [], snapshot := [], taken := [], stamps := [], substs := [], outStns := [], writes := [], outputs := [], before := [], digests := 0, flags := 0#7, unchecked := false, can := [], fromHolder := false },
        { frame := { ident := 0#29, extended := false, fd := false, brs := false, remote := false, data := (List.replicate 0 0) }, filter := 0, stamp := 0, completion := 0 },
        [], by decide +kernel⟩,
   ⟨{ img := { run := (some { routs := [{ core := 0, task := 0, inputs := 0, outputs := [], sram := 0, keep := [] }] }) }, laneA := { cores := ((Vector.replicate 8 {}).set 0 { running := (some { routine := 0, regs := [], tokens := [], sent := [], faultStore := false, wait := (some (CoreWait.call 8 0 true)) }) }) }, laneB := { cores := ((Vector.replicate 8 {}).set 0 { running := (some { routine := 0, regs := [], tokens := [], sent := [], faultStore := false, wait := (some (CoreWait.call 8 0 true)) }) }) }, lcd := { regions := ((Vector.replicate 16 {}).set 0 { entry := (some { num := 0, first := 0, count := 0, program := true, iconMask := 0#32, text := (List.replicate 0 0) }) }) }, mod := { st := .active } },
        0, { core := 0, task := 0, inputs := 0, outputs := [], sram := 0, keep := [] }, 0,
        { num := 0, first := 0, count := 0, program := true, iconMask := 0#32, text := (List.replicate 0 0) }, by decide +kernel⟩,
   ⟨{ img := { run := (some { channels := ((Vector.replicate 192 {}).set 0 { mode := 2 }), routs := [{ core := 0, task := 0, inputs := 0, outputs := [], sram := 0, keep := [] }] }) }, laneA := { cores := ((Vector.replicate 8 {}).set 0 { running := (some { routine := 0, regs := [], tokens := [], sent := [], faultStore := false, wait := (some (CoreWait.call 4 0 true)) }) }) }, laneB := { cores := ((Vector.replicate 8 {}).set 0 { running := (some { routine := 0, regs := [], tokens := [], sent := [], faultStore := false, wait := (some (CoreWait.call 4 0 true)) }) }) }, io := { isl := ((Vector.replicate 24 {}).set 0 { st := .in_ }) }, mod := { st := .active } },
        0, { core := 0, task := 0, inputs := 0, outputs := [], sram := 0, keep := [] }, 0, by decide +kernel⟩,
   ⟨{ img := { run := (some { channels := ((Vector.replicate 192 {}).set 0 { mode := 1 }), routs := [{ core := 0, task := 0, inputs := 0, outputs := [], sram := 0, keep := [] }] }) }, laneA := { cores := ((Vector.replicate 8 {}).set 0 { running := (some { routine := 0, regs := [], tokens := [], sent := [], faultStore := false, wait := (some (CoreWait.call 5 0 true)) }) }) }, laneB := { cores := ((Vector.replicate 8 {}).set 0 { running := (some { routine := 0, regs := [], tokens := [], sent := [], faultStore := false, wait := (some (CoreWait.call 5 0 true)) }) }) }, io := { isl := ((Vector.replicate 24 {}).set 0 { st := .in_ }) }, mod := { st := .active } },
        0, { core := 0, task := 0, inputs := 0, outputs := [], sram := 0, keep := [] }, 0, false, by decide +kernel⟩,
   ⟨{ img := { run := (some { channels := ((Vector.replicate 192 {}).set 0 { mode := 9 }), routs := [{ core := 0, task := 0, inputs := 0, outputs := [], sram := 0, keep := [] }] }) }, laneA := { cores := ((Vector.replicate 8 {}).set 0 { running := (some { routine := 0, regs := [], tokens := [], sent := [], faultStore := false, wait := (some (CoreWait.call 6 0 true)) }) }) }, laneB := { cores := ((Vector.replicate 8 {}).set 0 { running := (some { routine := 0, regs := [], tokens := [], sent := [], faultStore := false, wait := (some (CoreWait.call 6 0 true)) }) }) }, io := { isl := ((Vector.replicate 24 {}).set 0 { st := .in_ }) }, mod := { st := .active } },
        0, { core := 0, task := 0, inputs := 0, outputs := [], sram := 0, keep := [] }, 0, 0#32, by decide +kernel⟩,
   ⟨{ img := { run := (some { channels := ((Vector.replicate 192 {}).set 0 { mode := 9 }), routs := [{ core := 0, task := 0, inputs := 0, outputs := [], sram := 0, keep := [] }] }) }, laneA := { cores := ((Vector.replicate 8 {}).set 0 { running := (some { routine := 0, regs := [], tokens := [], sent := [], faultStore := false, wait := (some (CoreWait.call 7 0 true)) }) }) }, laneB := { cores := ((Vector.replicate 8 {}).set 0 { running := (some { routine := 0, regs := [], tokens := [], sent := [], faultStore := false, wait := (some (CoreWait.call 7 0 true)) }) }) }, io := { isl := ((Vector.replicate 24 {}).set 0 { st := .in_ }) }, mod := { st := .active } },
        0, { core := 0, task := 0, inputs := 0, outputs := [], sram := 0, keep := [] }, 0, by decide +kernel⟩⟩

theorem test_met_CyclicTasksAreReleasedHeldOrSkipped :
    (∃ (s : State) (t : Fin 64) (n : Fin 128) (e : TaskEntry), (n.val = t.val) ∧ (taskEntry s n = some e) ∧ (inRun s = true) ∧ (e.enable = true) ∧
        (e.event = false) ∧ (holding s s.tsk.rt[n].next = false) ∧ (s.tsk.rt[n].st = TState.waiting) ∧ (partnerPresent s = false) ∧
        (s.tsk.rt[n].next ≤ s.tb.now)) ∧
    (∃ (s : State) (t : Fin 64) (n : Fin 128) (e : TaskEntry), (n.val = t.val) ∧ (taskEntry s n = some e) ∧ (inRun s = true) ∧ (e.enable = true) ∧
        (e.event = false) ∧ (holding s s.tsk.rt[n].next = false) ∧ (s.tsk.rt[n].st = TState.released) ∧ (s.tsk.rt[n].next ≤ s.tb.now) ∧
        (e.ovrTask = none)) ∧
    (∃ (s : State) (t : Fin 64) (n : Fin 128) (e : TaskEntry), (n.val = t.val) ∧ (taskEntry s n = some e) ∧ (inRun s = true) ∧ (e.enable = true) ∧
        (e.event = false) ∧ (holding s s.tsk.rt[n].next = true) ∧ (s.tsk.rt[n].next ≤ s.tb.now)) ∧
    (∃ (s : State) (t : Fin 64) (n : Fin 128) (e : TaskEntry), (n.val = t.val) ∧ (taskEntry s n = some e) ∧ (inRun s = true) ∧ (e.enable = true) ∧
        (e.event = false) ∧ (s.tb.now < s.tsk.rt[n].next)) ∧
    (∃ (s : State) (t : Fin 64) (n : Fin 128) (e : TaskEntry), (n.val = t.val) ∧ (taskEntry s n = some e) ∧ (inRun s = true) ∧ (e.enable = true) ∧
        (e.event = false) ∧ (s.tsk.rt[n].next ≤ s.tb.now)) :=
  ⟨⟨{ tsk := { rt := ((Vector.replicate 128 {}).set 0 { st := .waiting }) }, img := { run := (some { tasks := [{ num := 0, event := false, priority := 0, enable := true, period := 0, phase := 0, deadline := 0, inputs := [], outputs := [], ovrLimit := 0, policy := false, ovrTask := none, errTask := none, trigger := 0, argA := 0, argB := 0 }] }) }, mod := { st := .unchecked } },
        0, 0,
        { num := 0, event := false, priority := 0, enable := true, period := 0, phase := 0, deadline := 0, inputs := [], outputs := [], ovrLimit := 0, policy := false, ovrTask := none, errTask := none, trigger := 0, argA := 0, argB := 0 },
        by decide +kernel⟩,
   ⟨{ tsk := { rt := ((Vector.replicate 128 {}).set 0 { st := .released }) }, img := { run := (some { tasks := [{ num := 0, event := false, priority := 0, enable := true, period := 0, phase := 0, deadline := 0, inputs := [], outputs := [], ovrLimit := 0, policy := false, ovrTask := none, errTask := none, trigger := 0, argA := 0, argB := 0 }] }) }, mod := { st := .standby } },
        0, 0,
        { num := 0, event := false, priority := 0, enable := true, period := 0, phase := 0, deadline := 0, inputs := [], outputs := [], ovrLimit := 0, policy := false, ovrTask := none, errTask := none, trigger := 0, argA := 0, argB := 0 },
        by decide +kernel⟩,
   ⟨{ img := { run := (some { tasks := [{ num := 0, event := false, priority := 0, enable := true, period := 0, phase := 0, deadline := 0, inputs := [], outputs := [], ovrLimit := 0, policy := false, ovrTask := none, errTask := none, trigger := 0, argA := 0, argB := 0 }] }) }, lsk := { recheck := (some { asker := none, tag := 0#32, phase := .candidate, start := 0, attempts := 0, r := 0, ownReady := false, partnerReady := none, windowEnd := 0, granules := 0, touched := [], forcesDropped := 0, varsDropped := 0 }) }, mod := { st := .active } },
        0, 0,
        { num := 0, event := false, priority := 0, enable := true, period := 0, phase := 0, deadline := 0, inputs := [], outputs := [], ovrLimit := 0, policy := false, ovrTask := none, errTask := none, trigger := 0, argA := 0, argB := 0 },
        by decide +kernel⟩,
   ⟨{ tsk := { rt := ((Vector.replicate 128 {}).set 1 { next := 1 }) }, img := { run := (some { tasks := [{ num := 1, event := false, priority := 0, enable := true, period := 0, phase := 0, deadline := 0, inputs := [], outputs := [], ovrLimit := 0, policy := false, ovrTask := none, errTask := none, trigger := 0, argA := 0, argB := 0 }] }) }, mod := { st := .active } },
        1, 1,
        { num := 1, event := false, priority := 0, enable := true, period := 0, phase := 0, deadline := 0, inputs := [], outputs := [], ovrLimit := 0, policy := false, ovrTask := none, errTask := none, trigger := 0, argA := 0, argB := 0 },
        by decide +kernel⟩,
   ⟨{ img := { run := (some { tasks := [{ num := 0, event := false, priority := 0, enable := true, period := 0, phase := 0, deadline := 0, inputs := [], outputs := [], ovrLimit := 0, policy := false, ovrTask := none, errTask := none, trigger := 0, argA := 0, argB := 0 }] }) }, mod := { st := .standby } },
        0, 0,
        { num := 0, event := false, priority := 0, enable := true, period := 0, phase := 0, deadline := 0, inputs := [], outputs := [], ovrLimit := 0, policy := false, ovrTask := none, errTask := none, trigger := 0, argA := 0, argB := 0 },
        by decide +kernel⟩⟩

theorem test_met_EventTasksTakeTriggersAndHostEvents :
    (∃ (s : State), s.tsk.trigQ = [] ∨ eventsHeld s = true) ∧
    (∃ (s : State) (g : TrigReg) (rest : List TrigReg), (s.tsk.trigQ = g :: rest) ∧ (inRun s = true) ∧ (eventsHeld s = false) ∧ (hostStamp g = none) ∧
        (triggerTasks s g = [])) ∧
    (∃ (s : State) (g : TrigReg) (rest : List TrigReg) (e : TaskEntry) (tr : Trig), (s.tsk.trigQ = g :: rest) ∧ (inRun s = true) ∧
        (eventsHeld s = false) ∧ (hostStamp g = none) ∧ (triggerTasks s g = [(e, tr)]) ∧ (taskEntry s e.num = some e) ∧ (e.enable = true) ∧
        (e.event = true) ∧ (decides s = false) ∧ (e.trigger ≠ 7)) ∧
    (∃ (s : State) (g : TrigReg) (rest : List TrigReg) (e : TaskEntry) (tr : Trig), (s.tsk.trigQ = g :: rest) ∧ (inRun s = true) ∧
        (eventsHeld s = false) ∧ (hostStamp g = none) ∧ (triggerTasks s g = [(e, tr)]) ∧ (taskEntry s e.num = some e) ∧ (e.enable = true) ∧
        (e.event = true) ∧ (decides s = true) ∧ (s.tsk.rt[e.num].st = TState.released)) ∧
    (∃ (s : State) (g : TrigReg) (rest : List TrigReg) (e : TaskEntry) (tr : Trig), (s.tsk.trigQ = g :: rest) ∧ (inRun s = true) ∧
        (eventsHeld s = false) ∧ (hostStamp g = none) ∧ (triggerTasks s g = [(e, tr)]) ∧ (taskEntry s e.num = some e) ∧ (e.enable = true) ∧
        (e.event = true) ∧ (partnerPresent s = false) ∧ (s.tsk.rt[e.num].st = TState.waiting)) ∧
    (∃ (s : State) (se : Fin 64), (sesOpen s se = true) ∧ (preCheck regHevt se s = none) ∧ (inRun s = true) ∧ (holds s = false) ∧
        (holderReachable s = false)) ∧
    (∃ (s : State) (se : Fin 64), (admitted regHevt se s = true) ∧ (inRun s = false)) ∧
    (∃ (s : State) (se : Fin 64), (admitted regHevt se s = true) ∧ (inRun s = true) ∧ (holds s = true) ∧ (partnerInRun s = false) ∧
        (s.tsk.switch = none)) ∧
    (∃ (s : State) (se : Fin 64) (value : W32) (e : TaskEntry) (rest : List TaskEntry), (admitted regHevt se s = true) ∧ (inRun s = true) ∧
        (holds s = true) ∧ (partnerInRun s = true) ∧ (saddleUp s = true) ∧ (s.lease.resync = none) ∧
        (hostEventTasks s (BitVec.toNat value % 256) = e :: rest)) :=
  ⟨⟨{}, by decide +kernel⟩,
   ⟨{ tsk := { trigQ := [(TrigReg.release 0 { code := 0, reason := 0#8, stamp := 0, arg := 0#32, info := 0#32, at_ := 0 })] }, mod := { st := .active } },
        (TrigReg.release 0 { code := 0, reason := 0#8, stamp := 0, arg := 0#32, info := 0#32, at_ := 0 }), [], by decide +kernel⟩,
   ⟨{ tsk := { trigQ := [(TrigReg.reasonFor 0 { code := 0, reason := 0#8, stamp := 0, arg := 0#32, info := 0#32, at_ := 0 })] }, img := { run := (some { tasks := [{ num := 0, event := true, priority := 0, enable := true, period := 0, phase := 0, deadline := 0, inputs := [], outputs := [], ovrLimit := 0, policy := false, ovrTask := none, errTask := none, trigger := 5, argA := 0, argB := 0 }] }) }, pair := { partner := .holder }, lease := { hbNoLease := false }, mod := { st := .standby } },
        (TrigReg.reasonFor 0 { code := 0, reason := 0#8, stamp := 0, arg := 0#32, info := 0#32, at_ := 0 }), [],
        { num := 0, event := true, priority := 0, enable := true, period := 0, phase := 0, deadline := 0, inputs := [], outputs := [], ovrLimit := 0, policy := false, ovrTask := none, errTask := none, trigger := 5, argA := 0, argB := 0 },
        { code := 0, reason := 0#8, stamp := 0, arg := 0#32, info := 0#32, at_ := 0 }, by decide +kernel⟩,
   ⟨{ tsk := { rt := ((Vector.replicate 128 {}).set 0 { st := .released }), trigQ := [(TrigReg.reasonFor 0 { code := 0, reason := 0#8, stamp := 0, arg := 0#32, info := 0#32, at_ := 0 })] }, img := { run := (some { tasks := [{ num := 0, event := true, priority := 0, enable := true, period := 0, phase := 0, deadline := 0, inputs := [], outputs := [], ovrLimit := 0, policy := false, ovrTask := none, errTask := none, trigger := 5, argA := 0, argB := 0 }] }) }, mod := { st := .active } },
        (TrigReg.reasonFor 0 { code := 0, reason := 0#8, stamp := 0, arg := 0#32, info := 0#32, at_ := 0 }), [],
        { num := 0, event := true, priority := 0, enable := true, period := 0, phase := 0, deadline := 0, inputs := [], outputs := [], ovrLimit := 0, policy := false, ovrTask := none, errTask := none, trigger := 5, argA := 0, argB := 0 },
        { code := 0, reason := 0#8, stamp := 0, arg := 0#32, info := 0#32, at_ := 0 }, by decide +kernel⟩,
   ⟨{ tsk := { rt := ((Vector.replicate 128 {}).set 0 { st := .waiting }), trigQ := [(TrigReg.reasonFor 0 { code := 0, reason := 0#8, stamp := 0, arg := 0#32, info := 0#32, at_ := 0 })] }, img := { run := (some { tasks := [{ num := 0, event := true, priority := 0, enable := true, period := 0, phase := 0, deadline := 0, inputs := [], outputs := [], ovrLimit := 0, policy := false, ovrTask := none, errTask := none, trigger := 5, argA := 0, argB := 0 }] }) }, mod := { st := .active } },
        (TrigReg.reasonFor 0 { code := 0, reason := 0#8, stamp := 0, arg := 0#32, info := 0#32, at_ := 0 }), [],
        { num := 0, event := true, priority := 0, enable := true, period := 0, phase := 0, deadline := 0, inputs := [], outputs := [], ovrLimit := 0, policy := false, ovrTask := none, errTask := none, trigger := 5, argA := 0, argB := 0 },
        { code := 0, reason := 0#8, stamp := 0, arg := 0#32, info := 0#32, at_ := 0 }, by decide +kernel⟩,
   ⟨{ ses := { tab := ((Vector.replicate 64 {}).set 0 { st := .open_, classes := 16383#14 }) }, mod := { st := .standby } }, 0, by decide +kernel⟩,
   ⟨{ ses := { tab := ((Vector.replicate 64 {}).set 0 { st := .open_, classes := 16383#14 }) } }, 0, by decide +kernel⟩,
   ⟨{ lease := { holder := true, leaseEnd := 2 }, ses := { tab := ((Vector.replicate 64 {}).set 0 { st := .open_, classes := 16383#14 }) }, mod := { st := .active } },
        0, by decide +kernel⟩,
   ⟨{ img := { run := (some { tasks := [{ num := 0, event := true, priority := 0, enable := true, period := 0, phase := 0, deadline := 0, inputs := [], outputs := [], ovrLimit := 0, policy := false, ovrTask := none, errTask := none, trigger := 4, argA := 0, argB := 0 }] }) }, pair := { up := ((Vector.replicate 2 false).set 1 true), partner := .without, partnerState := 5 }, lease := { holder := true, leaseEnd := 1 }, ses := { tab := ((Vector.replicate 64 {}).set 0 { st := .open_, classes := 16383#14 }) }, mod := { st := .active } },
        0, 0#32,
        { num := 0, event := true, priority := 0, enable := true, period := 0, phase := 0, deadline := 0, inputs := [], outputs := [], ovrLimit := 0, policy := false, ovrTask := none, errTask := none, trigger := 4, argA := 0, argB := 0 },
        [], by decide +kernel⟩⟩

theorem test_met_SnapshotsAreCompletedByThePartner :
    (∃ (s : State) (v : Via) (n : Notice) (e : TaskEntry) (c : Cycle), (taskEntry s n.task = some e) ∧ (inRun s = true) ∧ (decides s = false) ∧
        (e.event = false) ∧ (firstCopy v s = true) ∧ (s.tsk.rt[n.task].cur = some c) ∧ (c.record.cycle = n.record.cycle) ∧ (c.awaiting = true) ∧
        (s.tb.now ≤ c.record.relts + 10000)) ∧
    (∃ (s : State) (v : Via) (n : Notice) (e : TaskEntry) (c : Cycle), (taskEntry s n.task = some e) ∧ (inRun s = true) ∧ (decides s = false) ∧
        (e.event = false) ∧ (firstCopy v s = true) ∧ (s.tsk.rt[n.task].cur = some c) ∧ (c.record.cycle = n.record.cycle) ∧ (c.awaiting = true) ∧
        (c.record.relts + 10000 < s.tb.now)) ∧
    (∃ (s : State) (v : Via) (n : Notice) (e : TaskEntry) (c : Cycle), (taskEntry s n.task = some e) ∧ (inRun s = true) ∧ (decides s = false) ∧
        (e.event = false) ∧ (firstCopy v s = true) ∧ (s.tsk.rt[n.task].cur = some c) ∧ (c.record.cycle = n.record.cycle) ∧ (c.awaiting = false)) ∧
    (∃ (s : State) (v : Via) (n : Notice) (e : TaskEntry) (c : Cycle), (taskEntry s n.task = some e) ∧ (inRun s = true) ∧ (decides s = false) ∧
        (e.event = false) ∧ (firstCopy v s = true) ∧ (s.tsk.rt[n.task].cur = some c) ∧ (c.record.cycle ≠ n.record.cycle)) ∧
    (∃ (s : State) (v : Via) (n : Notice) (e : TaskEntry), (taskEntry s n.task = some e) ∧ (inRun s = true) ∧ (decides s = false) ∧
        (e.event = false) ∧ (firstCopy v s = true) ∧ (s.tsk.rt[n.task].cur = none)) ∧
    (∃ (s : State) (t : Fin 64) (n : Fin 128) (e : TaskEntry) (c : Cycle), (n.val = t.val) ∧ (taskEntry s n = some e) ∧ (s.tsk.rt[n].cur = some c) ∧
        (c.awaiting = true) ∧ (c.record.relts + 10000 ≤ s.tb.now)) ∧
    (∃ (s : State) (t : Fin 64) (n : Fin 128) (e : TaskEntry) (c : Cycle), (n.val = t.val) ∧ (taskEntry s n = some e) ∧ (s.tsk.rt[n].cur = some c) ∧
        (c.awaiting = true) ∧ (s.tb.now < c.record.relts + 10000)) ∧
    (∃ (s : State) (v : Via) (t : Fin 128) (e : TaskEntry) (c : Cycle) (cyc : W32), (taskEntry s t = some e) ∧ (holds s = true) ∧
        (s.tsk.rt[t].cur = some c) ∧ (firstCopy v s = true) ∧ (c.record.cycle = cyc) ∧ (c.partnerDue = true)) ∧
    (∃ (s : State) (v : Via) (t : Fin 128) (e : TaskEntry) (c : Cycle) (cyc : W32), (taskEntry s t = some e) ∧ (holds s = true) ∧
        (s.tsk.rt[t].cur = some c) ∧ (firstCopy v s = true) ∧ (c.record.cycle = cyc) ∧ (c.partnerDue = false)) ∧
    (∃ (s : State) (v : Via) (t : Fin 128) (e : TaskEntry) (c : Cycle) (cyc : W32), (taskEntry s t = some e) ∧ (holds s = true) ∧
        (s.tsk.rt[t].cur = some c) ∧ (firstCopy v s = true) ∧ (c.record.cycle ≠ cyc)) ∧
    (∃ (s : State) (t : Fin 128) (e : TaskEntry) (c : Cycle), (taskEntry s t = some e) ∧ (s.tsk.rt[t].cur = some c) ∧ (c.partnerDue = true) ∧
        (c.record.relts + 10000 ≤ s.tb.now)) ∧
    (∃ (s : State) (t : Fin 128) (e : TaskEntry) (c : Cycle), (taskEntry s t = some e) ∧ (s.tsk.rt[t].cur = some c) ∧ (c.partnerDue = true) ∧
        (s.tb.now < c.record.relts + 10000)) :=
  ⟨⟨{ tsk := { rt := ((Vector.replicate 128 {}).set 0 { cur := (some { record := { relts := 0, cycle := 1#32, trigger := 0#8, reason := 0#8, missed := 0#8, flags := 0#8, trigts := 0, arg := 0#32, info := 0#32 }, base := 0, awaiting := true, partnerDue := false, forces := [], snapshot := [], taken := [], stamps := [], substs := [], outStns := [], writes := [], outputs := [], before := [], digests := 0, flags := 0#7, unchecked := false, can := [], fromHolder := false }) }) }, img := { run := (some { tasks := [{ num := 0, event := false, priority := 0, enable := false, period := 0, phase := 0, deadline := 0, inputs := [], outputs := [], ovrLimit := 0, policy := false, ovrTask := none, errTask := none, trigger := 0, argA := 0, argB := 0 }] }) }, pair := { up := ((Vector.replicate 2 false).set 0 true), partner := .holder }, lease := { hbNoLease := false }, mod := { st := .standby } },
        { link := 0, seq := 10000000000000, errs := 5 },
        { task := 0, record := { relts := 2200, cycle := 1#32, trigger := 255#8, reason := 6#8, missed := 2#8, flags := 3#8, trigts := 5000, arg := 9228#32, info := 0#32 }, readings := [], ownIslands := 9228#24, verdicts := [{ link := 1, pos := 0, out := true }] },
        { num := 0, event := false, priority := 0, enable := false, period := 0, phase := 0, deadline := 0, inputs := [], outputs := [], ovrLimit := 0, policy := false, ovrTask := none, errTask := none, trigger := 0, argA := 0, argB := 0 },
        { record := { relts := 0, cycle := 1#32, trigger := 0#8, reason := 0#8, missed := 0#8, flags := 0#8, trigts := 0, arg := 0#32, info := 0#32 }, base := 0, awaiting := true, partnerDue := false, forces := [], snapshot := [], taken := [], stamps := [], substs := [], outStns := [], writes := [], outputs := [], before := [], digests := 0, flags := 0#7, unchecked := false, can := [], fromHolder := false },
        by decide +kernel⟩,
   ⟨{ tb := { now := 19531 }, tsk := { rt := ((Vector.replicate 128 {}).set 0 { cur := (some { record := { relts := 0, cycle := 0#32, trigger := 0#8, reason := 0#8, missed := 0#8, flags := 0#8, trigts := 0, arg := 0#32, info := 0#32 }, base := 0, awaiting := true, partnerDue := false, forces := [], snapshot := [], taken := [], stamps := [], substs := [], outStns := [], writes := [], outputs := [], before := [], digests := 0, flags := 0#7, unchecked := false, can := [], fromHolder := false }) }) }, img := { run := (some { tasks := [{ num := 0, event := false, priority := 0, enable := false, period := 0, phase := 0, deadline := 0, inputs := [], outputs := [], ovrLimit := 0, policy := false, ovrTask := none, errTask := none, trigger := 0, argA := 0, argB := 0 }] }) }, pair := { up := ((Vector.replicate 2 false).set 1 true), partner := .holder }, lease := { hbNoLease := false }, mod := { st := .standby } },
        { link := 1, seq := 10000000000000, errs := 16 },
        { task := 0, record := { relts := 8, cycle := 0#32, trigger := 150#8, reason := 1#8, missed := 12#8, flags := 187#8, trigts := 0, arg := 1179866707#32, info := 3#32 }, readings := [(65535#16, 4546485936026381626#128)], ownIslands := 16777215#24, verdicts := [] },
        { num := 0, event := false, priority := 0, enable := false, period := 0, phase := 0, deadline := 0, inputs := [], outputs := [], ovrLimit := 0, policy := false, ovrTask := none, errTask := none, trigger := 0, argA := 0, argB := 0 },
        { record := { relts := 0, cycle := 0#32, trigger := 0#8, reason := 0#8, missed := 0#8, flags := 0#8, trigts := 0, arg := 0#32, info := 0#32 }, base := 0, awaiting := true, partnerDue := false, forces := [], snapshot := [], taken := [], stamps := [], substs := [], outStns := [], writes := [], outputs := [], before := [], digests := 0, flags := 0#7, unchecked := false, can := [], fromHolder := false },
        by decide +kernel⟩,
   ⟨{ tsk := { rt := ((Vector.replicate 128 {}).set 0 { cur := (some { record := { relts := 0, cycle := 1#32, trigger := 0#8, reason := 0#8, missed := 0#8, flags := 0#8, trigts := 0, arg := 0#32, info := 0#32 }, base := 0, awaiting := false, partnerDue := false, forces := [], snapshot := [], taken := [], stamps := [], substs := [], outStns := [], writes := [], outputs := [], before := [], digests := 0, flags := 0#7, unchecked := false, can := [], fromHolder := false }) }) }, img := { run := (some { tasks := [{ num := 0, event := false, priority := 0, enable := false, period := 0, phase := 0, deadline := 0, inputs := [], outputs := [], ovrLimit := 0, policy := false, ovrTask := none, errTask := none, trigger := 0, argA := 0, argB := 0 }] }) }, pair := { up := ((Vector.replicate 2 false).set 1 true), partner := .holder }, lease := { hbNoLease := false }, mod := { st := .standby } },
        { link := 1, seq := 10000000000000, errs := 8 },
        { task := 0, record := { relts := 16, cycle := 1#32, trigger := 255#8, reason := 6#8, missed := 0#8, flags := 255#8, trigts := 2000, arg := 1048576#32, info := 65535#32 }, readings := [], ownIslands := 2097152#24, verdicts := [] },
        { num := 0, event := false, priority := 0, enable := false, period := 0, phase := 0, deadline := 0, inputs := [], outputs := [], ovrLimit := 0, policy := false, ovrTask := none, errTask := none, trigger := 0, argA := 0, argB := 0 },
        { record := { relts := 0, cycle := 1#32, trigger := 0#8, reason := 0#8, missed := 0#8, flags := 0#8, trigts := 0, arg := 0#32, info := 0#32 }, base := 0, awaiting := false, partnerDue := false, forces := [], snapshot := [], taken := [], stamps := [], substs := [], outStns := [], writes := [], outputs := [], before := [], digests := 0, flags := 0#7, unchecked := false, can := [], fromHolder := false },
        by decide +kernel⟩,
   ⟨{ tsk := { rt := ((Vector.replicate 128 {}).set 0 { cur := (some { record := { relts := 0, cycle := 0#32, trigger := 0#8, reason := 0#8, missed := 0#8, flags := 0#8, trigts := 0, arg := 0#32, info := 0#32 }, base := 0, awaiting := false, partnerDue := false, forces := [], snapshot := [], taken := [], stamps := [], substs := [], outStns := [], writes := [], outputs := [], before := [], digests := 0, flags := 0#7, unchecked := false, can := [], fromHolder := false }) }) }, img := { run := (some { tasks := [{ num := 0, event := false, priority := 0, enable := false, period := 0, phase := 0, deadline := 0, inputs := [], outputs := [], ovrLimit := 0, policy := false, ovrTask := none, errTask := none, trigger := 0, argA := 0, argB := 0 }] }) }, pair := { up := ((Vector.replicate 2 false).set 0 true), partner := .holder }, lease := { hbNoLease := false }, mod := { st := .standby } },
        { link := 0, seq := 10000000000000, errs := 65535 },
        { task := 0, record := { relts := 255, cycle := 4#32, trigger := 1#8, reason := 2#8, missed := 19#8, flags := 255#8, trigts := 128, arg := 1#32, info := 9931817#32 }, readings := [], ownIslands := 1#24, verdicts := [] },
        { num := 0, event := false, priority := 0, enable := false, period := 0, phase := 0, deadline := 0, inputs := [], outputs := [], ovrLimit := 0, policy := false, ovrTask := none, errTask := none, trigger := 0, argA := 0, argB := 0 },
        { record := { relts := 0, cycle := 0#32, trigger := 0#8, reason := 0#8, missed := 0#8, flags := 0#8, trigts := 0, arg := 0#32, info := 0#32 }, base := 0, awaiting := false, partnerDue := false, forces := [], snapshot := [], taken := [], stamps := [], substs := [], outStns := [], writes := [], outputs := [], before := [], digests := 0, flags := 0#7, unchecked := false, can := [], fromHolder := false },
        by decide +kernel⟩,
   ⟨{ img := { run := (some { tasks := [{ num := 0, event := false, priority := 0, enable := false, period := 0, phase := 0, deadline := 0, inputs := [], outputs := [], ovrLimit := 0, policy := false, ovrTask := none, errTask := none, trigger := 0, argA := 0, argB := 0 }] }) }, pair := { up := ((Vector.replicate 2 false).set 0 true), partner := .holder }, lease := { hbNoLease := false }, mod := { st := .standby } },
        { link := 0, seq := 10000000000000, errs := 65535 },
        { task := 0, record := { relts := 255, cycle := 4#32, trigger := 1#8, reason := 2#8, missed := 19#8, flags := 255#8, trigts := 128, arg := 1#32, info := 9931817#32 }, readings := [], ownIslands := 1#24, verdicts := [] },
        { num := 0, event := false, priority := 0, enable := false, period := 0, phase := 0, deadline := 0, inputs := [], outputs := [], ovrLimit := 0, policy := false, ovrTask := none, errTask := none, trigger := 0, argA := 0, argB := 0 },
        by decide +kernel⟩,
   ⟨{ tb := { now := 14901 }, tsk := { rt := ((Vector.replicate 128 {}).set 0 { cur := (some { record := { relts := 0, cycle := 0#32, trigger := 0#8, reason := 0#8, missed := 0#8, flags := 0#8, trigts := 0, arg := 0#32, info := 0#32 }, base := 0, awaiting := true, partnerDue := false, forces := [], snapshot := [], taken := [], stamps := [], substs := [], outStns := [], writes := [], outputs := [], before := [], digests := 0, flags := 0#7, unchecked := false, can := [], fromHolder := false }) }) }, img := { run := (some { tasks := [{ num := 0, event := false, priority := 0, enable := false, period := 0, phase := 0, deadline := 0, inputs := [], outputs := [], ovrLimit := 0, policy := false, ovrTask := none, errTask := none, trigger := 0, argA := 0, argB := 0 }] }) } },
        0, 0,
        { num := 0, event := false, priority := 0, enable := false, period := 0, phase := 0, deadline := 0, inputs := [], outputs := [], ovrLimit := 0, policy := false, ovrTask := none, errTask := none, trigger := 0, argA := 0, argB := 0 },
        { record := { relts := 0, cycle := 0#32, trigger := 0#8, reason := 0#8, missed := 0#8, flags := 0#8, trigts := 0, arg := 0#32, info := 0#32 }, base := 0, awaiting := true, partnerDue := false, forces := [], snapshot := [], taken := [], stamps := [], substs := [], outStns := [], writes := [], outputs := [], before := [], digests := 0, flags := 0#7, unchecked := false, can := [], fromHolder := false },
        by decide +kernel⟩,
   ⟨{ tsk := { rt := ((Vector.replicate 128 {}).set 0 { cur := (some { record := { relts := 0, cycle := 0#32, trigger := 0#8, reason := 0#8, missed := 0#8, flags := 0#8, trigts := 0, arg := 0#32, info := 0#32 }, base := 0, awaiting := true, partnerDue := false, forces := [], snapshot := [], taken := [], stamps := [], substs := [], outStns := [], writes := [], outputs := [], before := [], digests := 0, flags := 0#7, unchecked := false, can := [], fromHolder := false }) }) }, img := { run := (some { tasks := [{ num := 0, event := false, priority := 0, enable := false, period := 0, phase := 0, deadline := 0, inputs := [], outputs := [], ovrLimit := 0, policy := false, ovrTask := none, errTask := none, trigger := 0, argA := 0, argB := 0 }] }) } },
        0, 0,
        { num := 0, event := false, priority := 0, enable := false, period := 0, phase := 0, deadline := 0, inputs := [], outputs := [], ovrLimit := 0, policy := false, ovrTask := none, errTask := none, trigger := 0, argA := 0, argB := 0 },
        { record := { relts := 0, cycle := 0#32, trigger := 0#8, reason := 0#8, missed := 0#8, flags := 0#8, trigts := 0, arg := 0#32, info := 0#32 }, base := 0, awaiting := true, partnerDue := false, forces := [], snapshot := [], taken := [], stamps := [], substs := [], outStns := [], writes := [], outputs := [], before := [], digests := 0, flags := 0#7, unchecked := false, can := [], fromHolder := false },
        by decide +kernel⟩,
   ⟨{ tsk := { rt := ((Vector.replicate 128 {}).set 0 { cur := (some { record := { relts := 0, cycle := 0#32, trigger := 0#8, reason := 0#8, missed := 0#8, flags := 0#8, trigts := 0, arg := 0#32, info := 0#32 }, base := 0, awaiting := false, partnerDue := true, forces := [], snapshot := [], taken := [], stamps := [], substs := [], outStns := [], writes := [], outputs := [], before := [], digests := 0, flags := 0#7, unchecked := false, can := [], fromHolder := false }) }) }, img := { run := (some { tasks := [{ num := 0, event := false, priority := 0, enable := false, period := 0, phase := 0, deadline := 0, inputs := [], outputs := [], ovrLimit := 0, policy := false, ovrTask := none, errTask := none, trigger := 0, argA := 0, argB := 0 }] }) }, pair := { up := ((Vector.replicate 2 false).set 1 true) }, lease := { holder := true, leaseEnd := 2 }, mod := { st := .active } },
        { link := 1, seq := 10000000000000, errs := 5 }, 0,
        { num := 0, event := false, priority := 0, enable := false, period := 0, phase := 0, deadline := 0, inputs := [], outputs := [], ovrLimit := 0, policy := false, ovrTask := none, errTask := none, trigger := 0, argA := 0, argB := 0 },
        { record := { relts := 0, cycle := 0#32, trigger := 0#8, reason := 0#8, missed := 0#8, flags := 0#8, trigts := 0, arg := 0#32, info := 0#32 }, base := 0, awaiting := false, partnerDue := true, forces := [], snapshot := [], taken := [], stamps := [], substs := [], outStns := [], writes := [], outputs := [], before := [], digests := 0, flags := 0#7, unchecked := false, can := [], fromHolder := false },
        0#32, by decide +kernel⟩,
   ⟨{ tsk := { rt := ((Vector.replicate 128 {}).set 0 { cur := (some { record := { relts := 0, cycle := 0#32, trigger := 0#8, reason := 0#8, missed := 0#8, flags := 0#8, trigts := 0, arg := 0#32, info := 0#32 }, base := 0, awaiting := false, partnerDue := false, forces := [], snapshot := [], taken := [], stamps := [], substs := [], outStns := [], writes := [], outputs := [], before := [], digests := 0, flags := 0#7, unchecked := false, can := [], fromHolder := false }) }) }, img := { run := (some { tasks := [{ num := 0, event := false, priority := 0, enable := false, period := 0, phase := 0, deadline := 0, inputs := [], outputs := [], ovrLimit := 0, policy := false, ovrTask := none, errTask := none, trigger := 0, argA := 0, argB := 0 }] }) }, pair := { up := ((Vector.replicate 2 false).set 0 true) }, lease := { holder := true, leaseEnd := 2 }, mod := { st := .active } },
        { link := 0, seq := 10000000000000, errs := 65535 }, 0,
        { num := 0, event := false, priority := 0, enable := false, period := 0, phase := 0, deadline := 0, inputs := [], outputs := [], ovrLimit := 0, policy := false, ovrTask := none, errTask := none, trigger := 0, argA := 0, argB := 0 },
        { record := { relts := 0, cycle := 0#32, trigger := 0#8, reason := 0#8, missed := 0#8, flags := 0#8, trigts := 0, arg := 0#32, info := 0#32 }, base := 0, awaiting := false, partnerDue := false, forces := [], snapshot := [], taken := [], stamps := [], substs := [], outStns := [], writes := [], outputs := [], before := [], digests := 0, flags := 0#7, unchecked := false, can := [], fromHolder := false },
        0#32, by decide +kernel⟩,
   ⟨{ tsk := { rt := ((Vector.replicate 128 {}).set 0 { cur := (some { record := { relts := 0, cycle := 0#32, trigger := 0#8, reason := 0#8, missed := 0#8, flags := 0#8, trigts := 0, arg := 0#32, info := 0#32 }, base := 0, awaiting := false, partnerDue := false, forces := [], snapshot := [], taken := [], stamps := [], substs := [], outStns := [], writes := [], outputs := [], before := [], digests := 0, flags := 0#7, unchecked := false, can := [], fromHolder := false }) }) }, img := { run := (some { tasks := [{ num := 0, event := false, priority := 0, enable := false, period := 0, phase := 0, deadline := 0, inputs := [], outputs := [], ovrLimit := 0, policy := false, ovrTask := none, errTask := none, trigger := 0, argA := 0, argB := 0 }] }) }, pair := { up := ((Vector.replicate 2 false).set 0 true) }, lease := { holder := true, leaseEnd := 2 }, mod := { st := .active } },
        { link := 0, seq := 10000000000000, errs := 65535 }, 0,
        { num := 0, event := false, priority := 0, enable := false, period := 0, phase := 0, deadline := 0, inputs := [], outputs := [], ovrLimit := 0, policy := false, ovrTask := none, errTask := none, trigger := 0, argA := 0, argB := 0 },
        { record := { relts := 0, cycle := 0#32, trigger := 0#8, reason := 0#8, missed := 0#8, flags := 0#8, trigts := 0, arg := 0#32, info := 0#32 }, base := 0, awaiting := false, partnerDue := false, forces := [], snapshot := [], taken := [], stamps := [], substs := [], outStns := [], writes := [], outputs := [], before := [], digests := 0, flags := 0#7, unchecked := false, can := [], fromHolder := false },
        7236#32, by decide +kernel⟩,
   ⟨{ tb := { now := 11920 }, tsk := { rt := ((Vector.replicate 128 {}).set 1 { cur := (some { record := { relts := 0, cycle := 0#32, trigger := 0#8, reason := 0#8, missed := 0#8, flags := 0#8, trigts := 0, arg := 0#32, info := 0#32 }, base := 0, awaiting := false, partnerDue := true, forces := [], snapshot := [], taken := [], stamps := [], substs := [], outStns := [], writes := [], outputs := [], before := [], digests := 0, flags := 0#7, unchecked := false, can := [], fromHolder := false }) }) }, img := { run := (some { tasks := [{ num := 1, event := false, priority := 0, enable := false, period := 0, phase := 0, deadline := 0, inputs := [], outputs := [], ovrLimit := 0, policy := false, ovrTask := none, errTask := none, trigger := 0, argA := 0, argB := 0 }] }) } },
        1,
        { num := 1, event := false, priority := 0, enable := false, period := 0, phase := 0, deadline := 0, inputs := [], outputs := [], ovrLimit := 0, policy := false, ovrTask := none, errTask := none, trigger := 0, argA := 0, argB := 0 },
        { record := { relts := 0, cycle := 0#32, trigger := 0#8, reason := 0#8, missed := 0#8, flags := 0#8, trigts := 0, arg := 0#32, info := 0#32 }, base := 0, awaiting := false, partnerDue := true, forces := [], snapshot := [], taken := [], stamps := [], substs := [], outStns := [], writes := [], outputs := [], before := [], digests := 0, flags := 0#7, unchecked := false, can := [], fromHolder := false },
        by decide +kernel⟩,
   ⟨{ tsk := { rt := ((Vector.replicate 128 {}).set 0 { cur := (some { record := { relts := 0, cycle := 0#32, trigger := 0#8, reason := 0#8, missed := 0#8, flags := 0#8, trigts := 0, arg := 0#32, info := 0#32 }, base := 0, awaiting := false, partnerDue := true, forces := [], snapshot := [], taken := [], stamps := [], substs := [], outStns := [], writes := [], outputs := [], before := [], digests := 0, flags := 0#7, unchecked := false, can := [], fromHolder := false }) }) }, img := { run := (some { tasks := [{ num := 0, event := false, priority := 0, enable := false, period := 0, phase := 0, deadline := 0, inputs := [], outputs := [], ovrLimit := 0, policy := false, ovrTask := none, errTask := none, trigger := 0, argA := 0, argB := 0 }] }) } },
        0,
        { num := 0, event := false, priority := 0, enable := false, period := 0, phase := 0, deadline := 0, inputs := [], outputs := [], ovrLimit := 0, policy := false, ovrTask := none, errTask := none, trigger := 0, argA := 0, argB := 0 },
        { record := { relts := 0, cycle := 0#32, trigger := 0#8, reason := 0#8, missed := 0#8, flags := 0#8, trigts := 0, arg := 0#32, info := 0#32 }, base := 0, awaiting := false, partnerDue := true, forces := [], snapshot := [], taken := [], stamps := [], substs := [], outStns := [], writes := [], outputs := [], before := [], digests := 0, flags := 0#7, unchecked := false, can := [], fromHolder := false },
        by decide +kernel⟩⟩

theorem test_met_RegisterCommandsAreCheckedFirst :
    (∃ (c : Instr) (s : State) (k : CmdReg) (v : W32) (se : Fin 64), (cmdOf c s = some (k, v, se)) ∧ (sesOpen s se = false)) ∧
    (∃ (c : Instr) (s : State) (k : CmdReg) (v : W32) (se : Fin 64) (r : Refuse), (cmdOf c s = some (k, v, se)) ∧ (sesOpen s se = true) ∧
        (preCheck k se s = some r)) ∧
    (∃ (c : Instr) (s : State) (k : CmdReg) (v : W32) (se : Fin 64), (cmdOf c s = some (k, v, se)) ∧ (sesOpen s se = true) ∧
        (preCheck k se s = none) ∧ (mustRelay k s = true) ∧ (holderReachable s = false)) ∧
    (∃ (c : Instr) (s : State) (k : CmdReg) (v : W32) (se : Fin 64), (cmdOf c s = some (k, v, se)) ∧ (sesOpen s se = true) ∧
        (preCheck k se s = none) ∧ (mustRelay k s = true) ∧ (holderReachable s = true) ∧ (saddleOpen s = true)) :=
  ⟨⟨.frcSet 0, {}, regFrc, 1, 0, rfl, by decide +kernel⟩,
   ⟨.frcSet 0, { outside with ses := { tab := (Vector.replicate 64 {}).set 0 { st := .open_ } } }, regFrc, 1, 0, ⟨1, 3, 0x3834, 0⟩, rfl,
        by decide +kernel, rfl⟩,
   ⟨.frcSet 0, { standby with pair := { partner := .holder } }, regFrc, 1, 0, rfl, by decide +kernel, rfl, by decide +kernel, by decide +kernel⟩,
   ⟨.frcSet 0, standby, regFrc, 1, 0, rfl, by decide +kernel, rfl, by decide +kernel, by decide +kernel, by decide +kernel⟩⟩

theorem test_met_CyclesAreCommittedAndMirrored :
    (∃ (s : State) (t : Fin 128) (e : TaskEntry) (c : Cycle), (taskEntry s t = some e) ∧ (s.tsk.rt[t].cur = some c) ∧ (inRun s = true) ∧
        (phasesEnded s t = false)) ∧
    (∃ (s : State) (t : Fin 128) (e : TaskEntry) (c : Cycle), (taskEntry s t = some e) ∧ (s.tsk.rt[t].cur = some c) ∧ (inRun s = true) ∧
        (phasesEnded s t = true) ∧ (s.tsk.rt[t].queue = []) ∧ (s.tsk.rt[t].pending = none) ∧ (s.mir.inbox = []) ∧ (∀ (j : Fin 128),
        s.tsk.rt[j].notices = []) ∧ (s.tsk.switch = none)) ∧
    (∃ (s : State) (v : Via), (s.mod.st ≠ ModState.off) ∧ (s.mod.st ≠ ModState.boot) ∧ (s.pair.up[v.link] = true) ∧ (s.mod.st ≠ ModState.join) ∧
        (holds s = true ∨ inRun s = false)) ∧
    (∃ (s : State) (v : Via) (m : MirrorMsg), (s.mod.st ≠ ModState.off) ∧ (s.mod.st ≠ ModState.boot) ∧ (s.pair.up[v.link] = true) ∧
        (holds s = false) ∧ (inRun s = true) ∧ (mirrorWaits m s = true)) ∧
    (∃ (s : State) (v : Via) (m : MirrorMsg), (s.mod.st ≠ ModState.off) ∧ (s.mod.st ≠ ModState.boot) ∧ (s.pair.up[v.link] = true) ∧
        (holds s = false) ∧ (inRun s = true) ∧ (mirrorWaits m s = false)) ∧
    (∃ (s : State) (v : Via), (s.mod.st ≠ ModState.off) ∧ (s.mod.st ≠ ModState.boot) ∧ (s.pair.up[v.link] = true) ∧ (s.mod.st = ModState.join) ∧
        (s.mod.joinBegan ≠ none) ∧ (s.mod.joinAt = none)) :=
  ⟨⟨{ tsk := { rt := ((Vector.replicate 128 {}).set 0 { cur := (some { record := { relts := 0, cycle := 0#32, trigger := 0#8, reason := 0#8, missed := 0#8, flags := 0#8, trigts := 0, arg := 0#32, info := 0#32 }, base := 0, awaiting := false, partnerDue := false, forces := [], snapshot := [], taken := [], stamps := [], substs := [], outStns := [], writes := [], outputs := [], before := [], digests := 0, flags := 0#7, unchecked := false, can := [], fromHolder := false }) }) }, img := { run := (some { tasks := [{ num := 0, event := false, priority := 0, enable := false, period := 0, phase := 0, deadline := 0, inputs := [], outputs := [], ovrLimit := 0, policy := false, ovrTask := none, errTask := none, trigger := 0, argA := 0, argB := 0 }] }) }, mod := { st := .active } },
        0,
        { num := 0, event := false, priority := 0, enable := false, period := 0, phase := 0, deadline := 0, inputs := [], outputs := [], ovrLimit := 0, policy := false, ovrTask := none, errTask := none, trigger := 0, argA := 0, argB := 0 },
        { record := { relts := 0, cycle := 0#32, trigger := 0#8, reason := 0#8, missed := 0#8, flags := 0#8, trigts := 0, arg := 0#32, info := 0#32 }, base := 0, awaiting := false, partnerDue := false, forces := [], snapshot := [], taken := [], stamps := [], substs := [], outStns := [], writes := [], outputs := [], before := [], digests := 0, flags := 0#7, unchecked := false, can := [], fromHolder := false },
        by decide +kernel⟩,
   ⟨{ tsk := { rt := ((Vector.replicate 128 {}).set 0 { cur := (some { record := { relts := 0, cycle := 0#32, trigger := 0#8, reason := 0#8, missed := 0#8, flags := 0#8, trigts := 0, arg := 0#32, info := 0#32 }, base := 0, awaiting := false, partnerDue := false, forces := [], snapshot := [], taken := [], stamps := [], substs := [], outStns := [], writes := [], outputs := [], before := [], digests := 2, flags := 0#7, unchecked := false, can := [], fromHolder := false }) }) }, img := { run := (some { tasks := [{ num := 0, event := false, priority := 0, enable := false, period := 0, phase := 0, deadline := 0, inputs := [], outputs := [], ovrLimit := 0, policy := false, ovrTask := none, errTask := none, trigger := 0, argA := 0, argB := 0 }] }) }, mod := { st := .active } },
        0,
        { num := 0, event := false, priority := 0, enable := false, period := 0, phase := 0, deadline := 0, inputs := [], outputs := [], ovrLimit := 0, policy := false, ovrTask := none, errTask := none, trigger := 0, argA := 0, argB := 0 },
        { record := { relts := 0, cycle := 0#32, trigger := 0#8, reason := 0#8, missed := 0#8, flags := 0#8, trigts := 0, arg := 0#32, info := 0#32 }, base := 0, awaiting := false, partnerDue := false, forces := [], snapshot := [], taken := [], stamps := [], substs := [], outStns := [], writes := [], outputs := [], before := [], digests := 2, flags := 0#7, unchecked := false, can := [], fromHolder := false },
        by decide +kernel⟩,
   ⟨{ pair := { up := ((Vector.replicate 2 false).set 1 true) }, lease := { holder := true, leaseEnd := 2 }, mod := { st := .active } },
        { link := 1, seq := 0, errs := 5000 }, by decide +kernel⟩,
   ⟨{ tsk := { rt := ((Vector.replicate 128 {}).set 0 { cur := (some { record := { relts := 0, cycle := 0#32, trigger := 0#8, reason := 0#8, missed := 0#8, flags := 0#8, trigts := 0, arg := 0#32, info := 0#32 }, base := 0, awaiting := false, partnerDue := false, forces := [], snapshot := [], taken := [], stamps := [], substs := [], outStns := [], writes := [], outputs := [], before := [], digests := 0, flags := 0#7, unchecked := false, can := [], fromHolder := false }) }) }, pair := { up := ((Vector.replicate 2 false).set 1 true) }, mod := { st := .unchecked } },
        { link := 1, seq := 10000000000000, errs := 15 }, { task := (some 0), cycle := 9228#32, granules := [] }, by decide +kernel⟩,
   ⟨{ pair := { up := ((Vector.replicate 2 false).set 0 true) }, mod := { st := .standby } }, { link := 0, seq := 1, errs := 63 },
        { task := (some 0), cycle := 2485545274#32, granules := [(1, 1#512)] }, by decide +kernel⟩,
   ⟨{ pair := { up := ((Vector.replicate 2 false).set 0 true) }, mod := { st := .join, joinBegan := (some 0) } },
        { link := 0, seq := 1, errs := 1700 }, by decide +kernel⟩⟩

theorem test_met_StatisticsAreLatchedAtTheirBoundaries :
    (∃ (s : State), statNs s = 0 ∨ s.tb.now / statNs s * statNs s ≤ s.tsk.statMark) ∧
    (∃ (s : State), (statNs s ≠ 0) ∧ (s.tsk.statMark < s.tb.now / statNs s * statNs s)) ∧
    (∃ (s : State) (v : Via), firstCopy v s = true) :=
  ⟨⟨{}, by decide +kernel⟩,
   ⟨{ tb := { now := 1953125000 } }, by decide +kernel⟩,
   ⟨{ pair := { up := ((Vector.replicate 2 false).set 1 true) }, mod := { st := .active } }, { link := 1, seq := 10000000000000, errs := 1700 },
        by decide +kernel⟩⟩

theorem test_met_TimeBaseIsCompensatedMappedAndAligned :
    (∃ (s : State), s.tb.now < s.tb.lastMap + mapInterval s) ∧
    (∃ (s : State), (s.tb.lastMap + mapInterval s ≤ s.tb.now) ∧ (s.evr.queue.length < 255)) ∧
    (∃ (s : State), s.tb.pairAligned = true) :=
  ⟨⟨{}, by decide +kernel⟩,
   ⟨{ img := { run := (some { settings := { port1 := { mapInterval := 0 } } }) } }, by decide +kernel⟩,
   ⟨{ tb := { pairAligned := true } }, by decide +kernel⟩⟩

theorem test_met_PtpDisciplinesTheTimeBase :
    (∃ (s : State) (m : PtpSync), fromMaster s m.port m.domain m.sender = false ∨ m.logInterval < -7 ∨ 0 < m.logInterval) ∧
    (∃ (s : State) (m : PtpSync), (fromMaster s m.port m.domain m.sender = true) ∧ (-7 ≤ m.logInterval) ∧ (m.logInterval ≤ 0) ∧ (m.twoStep = true)) ∧
    (∃ (s : State) (m : PtpSync), (fromMaster s m.port m.domain m.sender = true) ∧ (-7 ≤ m.logInterval) ∧ (m.logInterval ≤ 0) ∧ (m.twoStep = false) ∧
        (s.tb.ptpState = 2) ∧ (disciplines s = true)) ∧
    (∃ (s : State) (m : PtpSync), (fromMaster s m.port m.domain m.sender = true) ∧ (-7 ≤ m.logInterval) ∧ (m.logInterval ≤ 0) ∧ (m.twoStep = false) ∧
        (s.tb.ptpState = 1 ∨ s.tb.ptpState = 3)) ∧
    (∃ (s : State) (m : PtpFollowUp) (p : PtpPend), (s.tb.pendSync = some p) ∧ (p.sender = m.sender) ∧ (p.seq = m.seq) ∧
        (fromMaster s m.port m.domain m.sender = true)) ∧
    (∃ (s : State) (m : PtpDelayResp) (q : BitVec 16) (t3 : ℕ), (s.tb.delayReq = some (q, t3)) ∧ (m.forUs = true) ∧
        (fromMaster s m.port m.domain m.sender = true)) ∧
    (∃ (s : State) (m : PtpAnnounce), (portEntry s m.port).enabled = false ∨ (portEntry s m.port).ptp = false ∨
        BitVec.toNat m.domain ≠ (portEntry s m.port).domain ∨ m.logInterval < -3 ∨ 4 < m.logInterval) ∧
    (∃ (s : State) (m : PtpAnnounce), ((portEntry s m.port).enabled = true) ∧ ((portEntry s m.port).ptp = true) ∧
        (BitVec.toNat m.domain = (portEntry s m.port).domain) ∧ (-3 ≤ m.logInterval) ∧ (m.logInterval ≤ 4)) ∧
    (∃ (s : State) (m : PtpAnnounce), (s.tb.master = some m) ∧ (s.tb.ptpState = 2) ∧ (s.tb.lastSync + 3000000000 ≤ s.tb.now ∨
        s.tb.lastAnnounce + 375000000 * 2 ^ (m.logInterval + 3).toNat ≤ s.tb.now)) ∧
    (∃ (s : State) (m : PtpAnnounce), (s.tb.master = some m) ∧ (s.tb.ptpState ≠ 2 ∨ s.tb.now < s.tb.lastSync + 3000000000 ∧
        s.tb.now < s.tb.lastAnnounce + 375000000 * 2 ^ (m.logInterval + 3).toNat)) ∧
    (∃ (s : State), (s.tb.ptpState = 3) ∧ (s.tb.holdSince + 3600000000000 ≤ s.tb.now)) ∧
    (∃ (s : State), s.tb.ptpState ≠ 3 ∨ s.tb.now < s.tb.holdSince + 3600000000000) :=
  ⟨⟨{},
        { port := 0, domain := 1#8, sender := 0#64, seq := 3466#16, rx := 1, origin := 0, correction := (-65535), twoStep := false, logInterval := (-5000) },
        by decide +kernel⟩,
   ⟨{ tb := { ptpState := 1, master := (some { port := 0, domain := 0#8, gmId := 0#64, priority1 := 0#8, clockClass := 0#8, accuracy := 0#8, variance := 0#16, priority2 := 0#8, stepsRemoved := 0#16, sender := 2097152#64, logInterval := (0) }) } },
        { port := 0, domain := 0#8, sender := 2097152#64, seq := 52151#16, rx := 2, origin := 10000000000, correction := (-10000000000), twoStep := true, logInterval := (0) },
        by decide +kernel⟩,
   ⟨{ tb := { ptpState := 2, master := (some { port := 0, domain := 0#8, gmId := 0#64, priority1 := 0#8, clockClass := 0#8, accuracy := 0#8, variance := 0#16, priority2 := 0#8, stepsRemoved := 0#16, sender := 0#64, logInterval := (0) }) } },
        { port := 0, domain := 0#8, sender := 0#64, seq := 7236#16, rx := 2, origin := 1000, correction := (0), twoStep := false, logInterval := (0) },
        by decide +kernel⟩,
   ⟨{ tb := { ptpState := 1, master := (some { port := 0, domain := 0#8, gmId := 0#64, priority1 := 0#8, clockClass := 0#8, accuracy := 0#8, variance := 0#16, priority2 := 0#8, stepsRemoved := 0#16, sender := 2097152#64, logInterval := (0) }) } },
        { port := 0, domain := 0#8, sender := 2097152#64, seq := 65535#16, rx := 10000000000, origin := 1700, correction := (5000000000), twoStep := false, logInterval := (0) },
        by decide +kernel⟩,
   ⟨{ tb := { ptpState := 2, master := (some { port := 0, domain := 0#8, gmId := 0#64, priority1 := 0#8, clockClass := 0#8, accuracy := 0#8, variance := 0#16, priority2 := 0#8, stepsRemoved := 0#16, sender := 18446744073709551615#64, logInterval := (0) }), pendSync := (some { sender := 18446744073709551615#64, seq := 16#16, rx := 0, correction := (0) }) } },
        { port := 0, domain := 0#8, sender := 18446744073709551615#64, seq := 16#16, origin := 65535, correction := (-128) },
        { sender := 18446744073709551615#64, seq := 16#16, rx := 0, correction := (0) }, by decide +kernel⟩,
   ⟨{ tb := { ptpState := 2, master := (some { port := 0, domain := 0#8, gmId := 0#64, priority1 := 0#8, clockClass := 0#8, accuracy := 0#8, variance := 0#16, priority2 := 0#8, stepsRemoved := 0#16, sender := 18446744073709551615#64, logInterval := (0) }), delayReq := (some (0#16, 0)) } },
        { port := 0, domain := 0#8, sender := 18446744073709551615#64, seq := 0#16, rx := 1000000000000, correction := (-20), forUs := true }, 0#16,
        0, by decide +kernel⟩,
   ⟨{},
        { port := 0, domain := 1#8, gmId := 0#64, priority1 := 138#8, clockClass := 3#8, accuracy := 255#8, variance := 65535#16, priority2 := 6#8, stepsRemoved := 65535#16, sender := 8520648640618648889#64, logInterval := (-1) },
        by decide +kernel⟩,
   ⟨{ img := { run := (some { settings := { port0 := { enabled := true, ptp := true, domain := 7 } } }) } },
        { port := 0, domain := 7#8, gmId := 0#64, priority1 := 2#8, clockClass := 2#8, accuracy := 6#8, variance := 65535#16, priority2 := 15#8, stepsRemoved := 0#16, sender := 5284533228402472274#64, logInterval := (1) },
        by decide +kernel⟩,
   ⟨{ tb := { now := 5000000000, ptpState := 2, master := (some { port := 0, domain := 0#8, gmId := 0#64, priority1 := 0#8, clockClass := 0#8, accuracy := 0#8, variance := 0#16, priority2 := 0#8, stepsRemoved := 0#16, sender := 0#64, logInterval := (0) }) } },
        { port := 0, domain := 0#8, gmId := 0#64, priority1 := 0#8, clockClass := 0#8, accuracy := 0#8, variance := 0#16, priority2 := 0#8, stepsRemoved := 0#16, sender := 0#64, logInterval := (0) },
        by decide +kernel⟩,
   ⟨{ tb := { master := some ⟨0, 0, 0, 0, 0, 0, 0, 0, 0, 0, 0⟩ } }, ⟨0, 0, 0, 0, 0, 0, 0, 0, 0, 0, 0⟩, by decide +kernel⟩,
   ⟨{ tb := { ptpState := 3, now := 3600000000000 } }, by decide +kernel⟩,
   ⟨{}, by decide +kernel⟩⟩

theorem test_met_ChangeRequestsBeginASearch :
    (∃ (s : State) (se : Fin 64), sesOpen s se = false) ∧
    (∃ (s : State) (se : Fin 64), (sesOpen s se = true) ∧ (tooMany s se = false) ∧ (s.mod.st ≠ ModState.failed) ∧ (s.mod.st ≠ ModState.stopped) ∧
        (s.ses.tab[se].classes.getLsbD 1 = false)) ∧
    (∃ (s : State) (se : Fin 64) (ident : W256) (k : ℕ), (sesOpen s se = true) ∧ (tooMany s se = false) ∧ (s.mod.st ≠ ModState.failed) ∧
        (s.mod.st ≠ ModState.stopped) ∧ (s.ses.tab[se].classes.getLsbD 1 = true) ∧ (¬(inRun s = true ∧ holds s = false ∧ partnerPresent s = true)) ∧
        (changeRefused (reqOf se s) ident s = some k)) ∧
    (∃ (s : State) (se : Fin 64) (ident : W256), (sesOpen s se = true) ∧ (tooMany s se = false) ∧ (s.mod.st ≠ ModState.failed) ∧
        (s.mod.st ≠ ModState.stopped) ∧ (s.ses.tab[se].classes.getLsbD 1 = true) ∧ (¬(inRun s = true ∧ holds s = false ∧ partnerPresent s = true)) ∧
        (changeRefused (reqOf se s) ident s = none)) ∧
    (∃ (s : State) (v : Via), (firstCopy v s = true) ∧ (leads HoldFor.change s = false) ∧ (inRun s = true) ∧ (s.tsk.switch = none)) ∧
    (∃ (s : State) (v : Via) (k : Bool), (firstCopy v s = true) ∧ (leads (if k = true then HoldFor.swap else HoldFor.change) s = true ∨
        inRun s = false)) :=
  ⟨⟨{}, 0, by decide +kernel⟩,
   ⟨{ ses := { tab := ((Vector.replicate 64 {}).set 1 { st := .open_ }) } }, 1, by decide +kernel⟩,
   ⟨{ ses := { tab := ((Vector.replicate 64 {}).set 0 { st := .open_, classes := 16383#14 }) } }, 0, 1#256, 1, by decide +kernel⟩,
   ⟨{ img := { idle := .armed, idleImg := (some {}) }, ses := { tab := ((Vector.replicate 64 {}).set 0 { st := .open_, classes := 16383#14 }), claim := (some { slot := false, se := 0, until_ := 0 }) }, mod := { st := .active } },
        0, 0#256, by decide +kernel⟩,
   ⟨{ pair := { up := ((Vector.replicate 2 false).set 0 true), partner := .without }, mod := { st := .standby } },
        { link := 0, seq := 10000000000000, errs := 20000000000 }, by decide +kernel⟩,
   ⟨{ pair := { up := ((Vector.replicate 2 false).set 1 true) }, mod := { st := .active } }, { link := 1, seq := 10000000000000, errs := 1700 },
        false, by decide +kernel⟩⟩

theorem test_met_SwitchesRunFromTheirInstantToTheirRecord :
    (∃ (s : State) (q : SwitchReq), (s.tsk.switch = some q) ∧ (q.phase = SwitchPhase.candidate) ∧ (s.tb.now < q.r)) ∧
    (∃ (s : State), s.tsk.switch = none) ∧
    (∃ (s : State) (q : SwitchReq) (old : Image) (new : Image), (s.tsk.switch = some q) ∧ (s.img.run = some old) ∧ (s.img.idleImg = some new) ∧
        (s.img.idle = IdleState.switching ∨ s.img.idle = IdleState.armed) ∧ (q.r ≤ s.tb.now) ∧ (q.phase = SwitchPhase.candidate) ∧
        (partnerPresent s = false) ∧ (ready q.r s = true)) ∧
    (∃ (s : State) (q : SwitchReq) (old : Image) (new : Image), (s.tsk.switch = some q) ∧ (s.img.run = some old) ∧ (s.img.idleImg = some new) ∧
        (s.img.idle = IdleState.switching ∨ s.img.idle = IdleState.armed) ∧ (q.r ≤ s.tb.now) ∧ (q.phase = SwitchPhase.candidate) ∧
        (partnerPresent s = true) ∧ (q.partnerReady = none) ∧ (ready q.r s = true) ∧ (s.tb.now ≤ q.r + 10000)) ∧
    (∃ (s : State) (q : SwitchReq) (old : Image) (new : Image) (v : Via), (s.tsk.switch = some q) ∧ (s.img.run = some old) ∧
        (s.img.idleImg = some new) ∧ (s.img.idle = IdleState.switching ∨ s.img.idle = IdleState.armed) ∧ (q.r ≤ s.tb.now) ∧
        (q.phase = SwitchPhase.verdicts) ∧ (q.ownReady = true) ∧ (q.partnerReady = none) ∧ (s.tb.now ≤ q.r + 10000) ∧ (firstCopy v s = true)) ∧
    (∃ (s : State) (q : SwitchReq) (old : Image) (new : Image) (v : Via) (yes : Bool), (s.tsk.switch = some q) ∧ (s.img.run = some old) ∧
        (s.img.idleImg = some new) ∧ (s.img.idle = IdleState.switching ∨ s.img.idle = IdleState.armed) ∧ (q.r ≤ s.tb.now) ∧
        (q.phase = SwitchPhase.verdicts) ∧ (q.partnerReady = none) ∧ (partnerPresent s = true) ∧ (yes = false ∨ q.r + 10000 < s.tb.now) ∧
        (firstCopy v s = true)) ∧
    (∃ (s : State) (v : Via), (awaitsVerdict s.tsk.switch = false) ∧ (awaitsVerdict s.lease.swap = false) ∧ (firstCopy v s = true)) ∧
    (∃ (s : State) (q : SwitchReq), (s.tsk.switch = some q) ∧ (q.phase = SwitchPhase.searching ∨ q.phase = SwitchPhase.candidate) ∧
        (leads HoldFor.change s = true) ∧ (q.start + 2000000000 ≤ s.tb.now) ∧ (s.img.idle = IdleState.switching)) ∧
    (∃ (s : State) (q : SwitchReq), (s.tsk.switch = some q) ∧ (s.tb.now < q.start + 2000000000)) ∧
    (∃ (s : State) (q : SwitchReq), (s.lease.swap = none) ∧ (s.tsk.switch = some q) ∧ (q.phase = SwitchPhase.verdicts) ∧
        (leads HoldFor.change s = true) ∧ (q.r + 10000 ≤ s.tb.now) ∧ (q.attempts < 63) ∧ (s.tb.now < q.start + 2000000000)) ∧
    (∃ (s : State) (q : SwitchReq), (s.lease.swap = none) ∧ (s.tsk.switch = some q) ∧ (q.phase ≠ SwitchPhase.verdicts ∨ s.tb.now < q.r + 10000)) ∧
    (∃ (s : State) (q : SwitchReq), (s.tsk.switch = some q) ∧ (q.phase ≠ SwitchPhase.window ∨ s.tb.now < q.windowEnd)) ∧
    (∃ (s : State) (q : SwitchReq) (old : Image) (new : Image), (s.tsk.switch = some q) ∧ (q.phase = SwitchPhase.window) ∧ (q.windowEnd ≤ s.tb.now) ∧
        (s.img.idleImg = some old) ∧ (s.img.run = some new) ∧ (s.ses.held = [])) :=
  ⟨⟨{ tsk := { switch := (some { asker := none, tag := 0#32, phase := .candidate, start := 0, attempts := 0, r := 2, ownReady := false, partnerReady := none, windowEnd := 0, granules := 0, touched := [], forcesDropped := 0, varsDropped := 0 }) } },
        { asker := none, tag := 0#32, phase := .candidate, start := 0, attempts := 0, r := 2, ownReady := false, partnerReady := none, windowEnd := 0, granules := 0, touched := [], forcesDropped := 0, varsDropped := 0 },
        by decide +kernel⟩,
   ⟨{}, by decide +kernel⟩,
   ⟨{ tsk := { switch := (some { asker := none, tag := 0#32, phase := .candidate, start := 0, attempts := 0, r := 0, ownReady := false, partnerReady := none, windowEnd := 0, granules := 0, touched := [], forcesDropped := 0, varsDropped := 0 }) }, img := { idle := .switching, idleImg := (some {}), run := (some {}) } },
        { asker := none, tag := 0#32, phase := .candidate, start := 0, attempts := 0, r := 0, ownReady := false, partnerReady := none, windowEnd := 0, granules := 0, touched := [], forcesDropped := 0, varsDropped := 0 },
        {}, {}, by decide +kernel⟩,
   ⟨{ tsk := { switch := (some { asker := none, tag := 0#32, phase := .candidate, start := 0, attempts := 0, r := 0, ownReady := false, partnerReady := none, windowEnd := 0, granules := 0, touched := [], forcesDropped := 0, varsDropped := 0 }) }, img := { idle := .switching, idleImg := (some {}), run := (some {}) }, pair := { partner := .without } },
        { asker := none, tag := 0#32, phase := .candidate, start := 0, attempts := 0, r := 0, ownReady := false, partnerReady := none, windowEnd := 0, granules := 0, touched := [], forcesDropped := 0, varsDropped := 0 },
        {}, {}, by decide +kernel⟩,
   ⟨{ tsk := { switch := (some { asker := none, tag := 0#32, phase := .verdicts, start := 0, attempts := 0, r := 0, ownReady := true, partnerReady := none, windowEnd := 0, granules := 0, touched := [], forcesDropped := 0, varsDropped := 0 }) }, img := { idle := .switching, idleImg := (some {}), run := (some {}) }, pair := { up := ((Vector.replicate 2 false).set 1 true) }, mod := { st := .standby } },
        { asker := none, tag := 0#32, phase := .verdicts, start := 0, attempts := 0, r := 0, ownReady := true, partnerReady := none, windowEnd := 0, granules := 0, touched := [], forcesDropped := 0, varsDropped := 0 },
        {}, {}, { link := 1, seq := 10000000000000, errs := 0 }, by decide +kernel⟩,
   ⟨{ tsk := { switch := (some { asker := none, tag := 0#32, phase := .verdicts, start := 0, attempts := 0, r := 0, ownReady := false, partnerReady := none, windowEnd := 0, granules := 0, touched := [], forcesDropped := 0, varsDropped := 0 }) }, img := { idle := .armed, idleImg := (some {}), run := (some {}) }, pair := { up := ((Vector.replicate 2 false).set 1 true), partner := .holder }, mod := { st := .standby } },
        { asker := none, tag := 0#32, phase := .verdicts, start := 0, attempts := 0, r := 0, ownReady := false, partnerReady := none, windowEnd := 0, granules := 0, touched := [], forcesDropped := 0, varsDropped := 0 },
        {}, {}, { link := 1, seq := 10000000000000, errs := 60000000000 }, false, by decide +kernel⟩,
   ⟨{ pair := { up := ((Vector.replicate 2 false).set 1 true) }, mod := { st := .active } }, { link := 1, seq := 10000000000000, errs := 1700 },
        by decide +kernel⟩,
   ⟨{ tb := { now := 3125000000 }, tsk := { switch := (some { asker := none, tag := 0#32, phase := .searching, start := 0, attempts := 0, r := 0, ownReady := false, partnerReady := none, windowEnd := 0, granules := 0, touched := [], forcesDropped := 0, varsDropped := 0 }) }, img := { idle := .switching } },
        { asker := none, tag := 0#32, phase := .searching, start := 0, attempts := 0, r := 0, ownReady := false, partnerReady := none, windowEnd := 0, granules := 0, touched := [], forcesDropped := 0, varsDropped := 0 },
        by decide +kernel⟩,
   ⟨{ tsk := { switch := (some { asker := none, tag := 0#32, phase := .searching, start := 0, attempts := 0, r := 0, ownReady := false, partnerReady := none, windowEnd := 0, granules := 0, touched := [], forcesDropped := 0, varsDropped := 0 }) } },
        { asker := none, tag := 0#32, phase := .searching, start := 0, attempts := 0, r := 0, ownReady := false, partnerReady := none, windowEnd := 0, granules := 0, touched := [], forcesDropped := 0, varsDropped := 0 },
        by decide +kernel⟩,
   ⟨{ tb := { now := 10001 }, tsk := { switch := (some { asker := none, tag := 0#32, phase := .verdicts, start := 0, attempts := 0, r := 0, ownReady := false, partnerReady := none, windowEnd := 0, granules := 0, touched := [], forcesDropped := 0, varsDropped := 0 }) } },
        { asker := none, tag := 0#32, phase := .verdicts, start := 0, attempts := 0, r := 0, ownReady := false, partnerReady := none, windowEnd := 0, granules := 0, touched := [], forcesDropped := 0, varsDropped := 0 },
        by decide +kernel⟩,
   ⟨{ tsk := { switch := (some { asker := none, tag := 0#32, phase := .searching, start := 0, attempts := 0, r := 0, ownReady := false, partnerReady := none, windowEnd := 0, granules := 0, touched := [], forcesDropped := 0, varsDropped := 0 }) } },
        { asker := none, tag := 0#32, phase := .searching, start := 0, attempts := 0, r := 0, ownReady := false, partnerReady := none, windowEnd := 0, granules := 0, touched := [], forcesDropped := 0, varsDropped := 0 },
        by decide +kernel⟩,
   ⟨{ tsk := { switch := (some { asker := none, tag := 0#32, phase := .searching, start := 0, attempts := 0, r := 0, ownReady := false, partnerReady := none, windowEnd := 0, granules := 0, touched := [], forcesDropped := 0, varsDropped := 0 }) } },
        { asker := none, tag := 0#32, phase := .searching, start := 0, attempts := 0, r := 0, ownReady := false, partnerReady := none, windowEnd := 0, granules := 0, touched := [], forcesDropped := 0, varsDropped := 0 },
        by decide +kernel⟩,
   ⟨{ tsk := { switch := (some { asker := none, tag := 0#32, phase := .window, start := 0, attempts := 0, r := 0, ownReady := false, partnerReady := none, windowEnd := 0, granules := 0, touched := [], forcesDropped := 0, varsDropped := 0 }) }, img := { idleImg := (some {}), run := (some {}) } },
        { asker := none, tag := 0#32, phase := .window, start := 0, attempts := 0, r := 0, ownReady := false, partnerReady := none, windowEnd := 0, granules := 0, touched := [], forcesDropped := 0, varsDropped := 0 },
        {}, {}, by decide +kernel⟩⟩

theorem test_met_ForcesAreAcceptedAndTakeEffect :
    (∃ (s : State) (se : Fin 64), (admitted regFrc se s = true) ∧ (inRun s = false)) ∧
    (∃ (s : State) (se : Fin 64), (admitted regFrc se s = true) ∧ (inRun s = true) ∧ (4096 ≤ s.ses.tab[se].sel.frcSel)) ∧
    (∃ (s : State) (se : Fin 64) (c : ℕ), (admitted regFrc se s = true) ∧ (inRun s = true) ∧ (s.ses.tab[se].sel.frcSel < 4096) ∧
        (forceRefused s ({ kind := Fin.ofNat 4 (BitVec.extractLsb' 2 2 s.ses.tab[se].sel.setCfg).toNat, qual := Fin.ofNat 4 (BitVec.extractLsb' 4 2 s.ses.tab[se].sel.setCfg).toNat, target := s.ses.tab[se].sel.setTgt, value := s.ses.tab[se].sel.setVal } : Force) = some c)) ∧
    (∃ (s : State) (se : Fin 64), (admitted regFrc se s = true) ∧ (inRun s = true) ∧ (s.ses.tab[se].sel.frcSel < 4096) ∧
        (forceRefused s ({ kind := Fin.ofNat 4 (BitVec.extractLsb' 2 2 s.ses.tab[se].sel.setCfg).toNat, qual := Fin.ofNat 4 (BitVec.extractLsb' 4 2 s.ses.tab[se].sel.setCfg).toNat, target := s.ses.tab[se].sel.setTgt, value := s.ses.tab[se].sel.setVal } : Force) = none) ∧
        (mayForce s (effWrite s.ses.tab[se]) ({ kind := Fin.ofNat 4 (BitVec.extractLsb' 2 2 s.ses.tab[se].sel.setCfg).toNat, qual := Fin.ofNat 4 (BitVec.extractLsb' 4 2 s.ses.tab[se].sel.setCfg).toNat, target := s.ses.tab[se].sel.setTgt, value := s.ses.tab[se].sel.setVal } : Force) = false)) ∧
    (∃ (s : State) (se : Fin 64) (m : Fin 4096) (g : Force), (admitted regFrc se s = true) ∧ (inRun s = true) ∧ (s.ses.tab[se].sel.frcSel < 4096) ∧
        (forceRefused s ({ kind := Fin.ofNat 4 (BitVec.extractLsb' 2 2 s.ses.tab[se].sel.setCfg).toNat, qual := Fin.ofNat 4 (BitVec.extractLsb' 4 2 s.ses.tab[se].sel.setCfg).toNat, target := s.ses.tab[se].sel.setTgt, value := s.ses.tab[se].sel.setVal } : Force) = none) ∧
        (mayForce s (effWrite s.ses.tab[se]) ({ kind := Fin.ofNat 4 (BitVec.extractLsb' 2 2 s.ses.tab[se].sel.setCfg).toNat, qual := Fin.ofNat 4 (BitVec.extractLsb' 4 2 s.ses.tab[se].sel.setCfg).toNat, target := s.ses.tab[se].sel.setTgt, value := s.ses.tab[se].sel.setVal } : Force) = true) ∧
        (forceOn (List.filter (fun (y : Fin 4096 × Force) => ↑y.1 != s.ses.tab[se].sel.frcSel) (forcesToCome s.frc)) ({ kind := Fin.ofNat 4 (BitVec.extractLsb' 2 2 s.ses.tab[se].sel.setCfg).toNat, qual := Fin.ofNat 4 (BitVec.extractLsb' 4 2 s.ses.tab[se].sel.setCfg).toNat, target := s.ses.tab[se].sel.setTgt, value := s.ses.tab[se].sel.setVal } : Force).kind ({ kind := Fin.ofNat 4 (BitVec.extractLsb' 2 2 s.ses.tab[se].sel.setCfg).toNat, qual := Fin.ofNat 4 (BitVec.extractLsb' 4 2 s.ses.tab[se].sel.setCfg).toNat, target := s.ses.tab[se].sel.setTgt, value := s.ses.tab[se].sel.setVal } : Force).target = some (m,
        g))) ∧
    (∃ (s : State) (se : Fin 64), (admitted regFrc se s = true) ∧ (inRun s = true) ∧ (s.ses.tab[se].sel.frcSel < 4096) ∧
        (forceRefused s ({ kind := Fin.ofNat 4 (BitVec.extractLsb' 2 2 s.ses.tab[se].sel.setCfg).toNat, qual := Fin.ofNat 4 (BitVec.extractLsb' 4 2 s.ses.tab[se].sel.setCfg).toNat, target := s.ses.tab[se].sel.setTgt, value := s.ses.tab[se].sel.setVal } : Force) = none) ∧
        (mayForce s (effWrite s.ses.tab[se]) ({ kind := Fin.ofNat 4 (BitVec.extractLsb' 2 2 s.ses.tab[se].sel.setCfg).toNat, qual := Fin.ofNat 4 (BitVec.extractLsb' 4 2 s.ses.tab[se].sel.setCfg).toNat, target := s.ses.tab[se].sel.setTgt, value := s.ses.tab[se].sel.setVal } : Force) = true) ∧
        (forceOn (List.filter (fun (y : Fin 4096 × Force) => ↑y.1 != s.ses.tab[se].sel.frcSel) (forcesToCome s.frc)) ({ kind := Fin.ofNat 4 (BitVec.extractLsb' 2 2 s.ses.tab[se].sel.setCfg).toNat, qual := Fin.ofNat 4 (BitVec.extractLsb' 4 2 s.ses.tab[se].sel.setCfg).toNat, target := s.ses.tab[se].sel.setTgt, value := s.ses.tab[se].sel.setVal } : Force).kind ({ kind := Fin.ofNat 4 (BitVec.extractLsb' 2 2 s.ses.tab[se].sel.setCfg).toNat, qual := Fin.ofNat 4 (BitVec.extractLsb' 4 2 s.ses.tab[se].sel.setCfg).toNat, target := s.ses.tab[se].sel.setTgt, value := s.ses.tab[se].sel.setVal } : Force).target = none)) ∧
    (∃ (s : State) (se : Fin 64), (admitted regFrc se s = true) ∧ (inRun s = true) ∧ (s.ses.tab[se].sel.frcSel < 4096) ∧
        (List.find? (fun (y : Fin 4096 × Force) => ↑y.1 == s.ses.tab[se].sel.frcSel) (forcesToCome s.frc) = none)) ∧
    (∃ (s : State) (se : Fin 64) (m : Fin 4096) (g : Force), (admitted regFrc se s = true) ∧ (inRun s = true) ∧ (s.ses.tab[se].sel.frcSel < 4096) ∧
        (List.find? (fun (y : Fin 4096 × Force) => ↑y.1 == s.ses.tab[se].sel.frcSel) (forcesToCome s.frc) = some (m, g)) ∧
        (mayForce s (effWrite s.ses.tab[se]) g = false)) ∧
    (∃ (s : State) (se : Fin 64) (m : Fin 4096) (g : Force), (admitted regFrc se s = true) ∧ (inRun s = true) ∧ (s.ses.tab[se].sel.frcSel < 4096) ∧
        (List.find? (fun (y : Fin 4096 × Force) => ↑y.1 == s.ses.tab[se].sel.frcSel) (forcesToCome s.frc) = some (m, g)) ∧
        (mayForce s (effWrite s.ses.tab[se]) g = true)) ∧
    (∃ (s : State) (se : Fin 64) (m : Fin 4096) (g : Force), (admitted regFrc se s = true) ∧ (inRun s = true) ∧
        (List.find? (fun (y : Fin 4096 × Force) => !mayForce s (effWrite s.ses.tab[se]) y.2) (forcesToCome s.frc) = some (m, g))) ∧
    (∃ (s : State) (se : Fin 64), (admitted regFrc se s = true) ∧ (inRun s = true) ∧
        (List.find? (fun (y : Fin 4096 × Force) => !mayForce s (effWrite s.ses.tab[se]) y.2) (forcesToCome s.frc) = none)) ∧
    (∃ (s : State) (v : Via), (firstCopy v s = true) ∧ (holds s = true)) ∧
    (∃ (s : State) (v : Via) (a : ℕ), (firstCopy v s = true) ∧ (holds s = false) ∧ (s.tb.now < a)) ∧
    (∃ (s : State) (v : Via) (a : ℕ), (firstCopy v s = true) ∧ (holds s = false) ∧ (a ≤ s.tb.now)) ∧
    (∃ (s : State) (n : Fin 4096) (cfg : BitVec 6) (tgt : W64) (v : W64) (a : ℕ) (i : Image) (x : VarEntry),
        (s.frc.waiting = [{ op := ForceOp.set n cfg tgt v, at_ := a }]) ∧ (a ≤ s.tb.now) ∧ (BitVec.extractLsb' 2 2 cfg = 2) ∧ (s.img.run = some i) ∧
        (List.find? (fun (y : VarEntry) => y.ident == tgt) i.vars = some x)) ∧
    (∃ (c : Cycle) (p : ℕ) (n : Fin 4096) (f : Force), (forceOn c.forces 1 (BitVec.ofNat 64 p) = some (n, f)) ∧ (f.qual = 0)) ∧
    (∃ (c : Cycle) (p : ℕ) (n : Fin 4096) (f : Force), (forceOn c.forces 1 (BitVec.ofNat 64 p) = some (n, f)) ∧ (f.qual = 1)) ∧
    (∃ (c : Cycle) (p : ℕ) (n : Fin 4096) (f : Force), (forceOn c.forces 1 (BitVec.ofNat 64 p) = some (n, f)) ∧ (f.qual = 2)) ∧
    (∃ (table : List (Fin 4096 × Force)) (p : ℕ) (n : Fin 4096) (f : Force), forceOn table 0 (BitVec.ofNat 64 p) = some (n, f)) :=
  ⟨⟨{ ses := { tab := ((Vector.replicate 64 {}).set 0 { st := .open_, classes := 16383#14 }) } }, 0, by decide +kernel⟩,
   ⟨{ ses := { tab := ((Vector.replicate 64 {}).set 0 { st := .open_, classes := 16383#14, sel := { frcSel := 4096 } }) }, mod := { st := .active } },
        0, by decide +kernel⟩,
   ⟨{ ses := { tab := ((Vector.replicate 64 {}).set 0 { st := .open_, classes := 16383#14 }) }, mod := { st := .active } }, 0, 6, by decide +kernel⟩,
   ⟨{ img := { run := (some { stations := [{ link := 0, pos := 0, witness := false, errTask := none, vendor := 0#32, device := 0#32, inFirst := 0, inCount := 2, outFirst := 0, outCount := 0, param := (List.replicate 0 0) }] }) }, ses := { tab := (((Vector.replicate 64 {}).set 0 { st := .open_, classes := 16383#14 }).set 12 { readMask := 65535#16 }) }, mod := { st := .active } },
        0, by decide +kernel⟩,
   ⟨{ img := { run := (some { channels := ((Vector.replicate 192 {}).set 0 { inPoint := (some 0) }) }) }, frc := { table := [(0, { kind := 0, qual := 0, target := 0#64, value := 0#64 })] }, ses := { tab := ((Vector.replicate 64 {}).set 0 { st := .open_, writeMask := 48457#16, classes := 16383#14, sel := { frcSel := 1 } }) }, mod := { st := .active } },
        0, 0, { kind := 0, qual := 0, target := 0#64, value := 0#64 }, by decide +kernel⟩,
   ⟨{ img := { run := (some { stations := [{ link := 0, pos := 0, witness := false, errTask := none, vendor := 0#32, device := 0#32, inFirst := 0, inCount := 2, outFirst := 0, outCount := 0, param := (List.replicate 0 0) }] }) }, ses := { tab := ((Vector.replicate 64 {}).set 0 { st := .open_, writeMask := 1#16, classes := 16383#14 }) }, mod := { st := .active } },
        0, by decide +kernel⟩,
   ⟨{ ses := { tab := ((Vector.replicate 64 {}).set 0 { st := .open_, classes := 16383#14 }) }, mod := { st := .active } }, 0, by decide +kernel⟩,
   ⟨{ frc := { table := [(0, { kind := 0, qual := 0, target := 0#64, value := 0#64 })] }, ses := { tab := ((Vector.replicate 64 {}).set 0 { st := .open_, classes := 16383#14 }) }, mod := { st := .active } },
        0, 0, { kind := 0, qual := 0, target := 0#64, value := 0#64 }, by decide +kernel⟩,
   ⟨{ frc := { table := [(0, { kind := 0, qual := 0, target := 0#64, value := 0#64 })] }, ses := { tab := ((Vector.replicate 64 {}).set 0 { st := .open_, writeMask := 65535#16, classes := 16383#14 }) }, mod := { st := .unchecked } },
        0, 0, { kind := 0, qual := 0, target := 0#64, value := 0#64 }, by decide +kernel⟩,
   ⟨{ frc := { table := [(0, { kind := 0, qual := 0, target := 0#64, value := 0#64 })] }, ses := { tab := ((Vector.replicate 64 {}).set 0 { st := .open_, classes := 16383#14 }) }, mod := { st := .active } },
        0, 0, { kind := 0, qual := 0, target := 0#64, value := 0#64 }, by decide +kernel⟩,
   ⟨{ ses := { tab := ((Vector.replicate 64 {}).set 0 { st := .open_, classes := 16383#14 }) }, mod := { st := .active } }, 0, by decide +kernel⟩,
   ⟨{ pair := { up := ((Vector.replicate 2 false).set 1 true) }, lease := { holder := true, leaseEnd := 2 }, mod := { st := .active } },
        { link := 1, seq := 10000000000000, errs := 1700 }, by decide +kernel⟩,
   ⟨{ pair := { up := ((Vector.replicate 2 false).set 0 true) }, mod := { st := .standby } },
        { link := 0, seq := 10000000000000, errs := 20000000000 }, 1700, by decide +kernel⟩,
   ⟨{ pair := { up := ((Vector.replicate 2 false).set 1 true) }, mod := { st := .stopped } }, { link := 1, seq := 10000000000000, errs := 5000 }, 0,
        by decide +kernel⟩,
   ⟨{ img := { run := (some { vars := [{ ident := 1#64, typ := 0, isSealed := false, hasInit := false, declares := false, offset := 0, size := 0, layoutHash := 0#64, prevType := 0, conv := 0, init := (List.replicate 0 0), name := (List.replicate 0 0) }] }) }, frc := { waiting := [{ op := (ForceOp.set 0 8#6 1#64 0#64), at_ := 0 }] } },
        0, 8#6, 1#64, 0#64, 0,
        { vars := [{ ident := 1#64, typ := 0, isSealed := false, hasInit := false, declares := false, offset := 0, size := 0, layoutHash := 0#64, prevType := 0, conv := 0, init := (List.replicate 0 0), name := (List.replicate 0 0) }] },
        { ident := 1#64, typ := 0, isSealed := false, hasInit := false, declares := false, offset := 0, size := 0, layoutHash := 0#64, prevType := 0, conv := 0, init := (List.replicate 0 0), name := (List.replicate 0 0) },
        by decide +kernel⟩,
   ⟨{ record := { relts := 16, cycle := 2#32, trigger := 1#8, reason := 2#8, missed := 0#8, flags := 255#8, trigts := 20000000000, arg := 65535#32, info := 1048576#32 }, base := 1, awaiting := false, partnerDue := false, forces := [(0, { kind := 0, qual := 1, target := 1048576#64, value := 14518313201904724528#64 }), (0, { kind := 1, qual := 0, target := 65535#64, value := 4#64 })], snapshot := [], taken := [(5000, 1048576#128)], stamps := [(100000000, 5000000000), (3, 2)], substs := [(0, (14884324829781382177#128, (some 1)))], outStns := [(13, 0), (19, 0)], writes := [(10000000, (268435456#128, 5509#16)), (10000000000, (1048576#128, 0#16))], outputs := [], before := [(100000000, 0#128), (100000, 65535#128)], digests := 10000000, flags := 4#7, unchecked := true, can := [(CanCall.queue 1 2 { ident := 268435472#29, extended := false, fd := true, brs := true, remote := true, data := [1#8, 2#8] })], fromHolder := true },
        65535, 0, { kind := 1, qual := 0, target := 65535#64, value := 4#64 }, by decide +kernel⟩,
   ⟨{ record := { relts := 1, cycle := 4294967295#32, trigger := 5#8, reason := 5#8, missed := 68#8, flags := 255#8, trigts := 1, arg := 1#32, info := 3477010051#32 }, base := 1000000000000, awaiting := true, partnerDue := false, forces := [(0, { kind := 1, qual := 1, target := 0#64, value := 0#64 })], snapshot := [], taken := [], stamps := [(1000000000, 2000), (63, 65535)], substs := [(1, (65535#128, none)), (1000000000000, (12584081878357531276#128, (some 16)))], outStns := [], writes := [(1000000000000, (268435456#128, 65535#16))], outputs := [], before := [(1, 340282366920938463463374607431768211455#128), (256, 268435456#128)], digests := 20000000000, flags := 7#7, unchecked := true, can := [(CanCall.queue 1 0 { ident := 157694852#29, extended := false, fd := true, brs := true, remote := false, data := (List.replicate 0 0) })], fromHolder := true },
        0, 0, { kind := 1, qual := 1, target := 0#64, value := 0#64 }, by decide +kernel⟩,
   ⟨{ record := { relts := 1, cycle := 3#32, trigger := 1#8, reason := 7#8, missed := 203#8, flags := 255#8, trigts := 0, arg := 4294967295#32, info := 2097152#32 }, base := 1000000000, awaiting := true, partnerDue := true, forces := [(875, { kind := 3, qual := 3, target := 18446744073709551615#64, value := 1#64 }), (1, { kind := 1, qual := 2, target := 1#64, value := 18446744073709551615#64 })], snapshot := [(63, 2097152#128)], taken := [], stamps := [(5000000000, 65535)], substs := [], outStns := [], writes := [], outputs := [(1, 3#128)], before := [], digests := 2, flags := 2#7, unchecked := true, can := [], fromHolder := true },
        1, 1, { kind := 1, qual := 2, target := 1#64, value := 18446744073709551615#64 }, by decide +kernel⟩,
   ⟨[(1, { kind := 0, qual := 0, target := 0#64, value := 16657523313820072465#64 }), (4095,
        { kind := 1, qual := 0, target := 1#64, value := 1#64 })], 0, 1, { kind := 0, qual := 0, target := 0#64, value := 16657523313820072465#64 },
        by decide +kernel⟩⟩

theorem test_met_ServicesAreCheckedAndKeysChange :
    (∃ (c : Instr) (se : Fin 64) (tag : W32) (cls : ℕ) (ident : W256) (o : ℕ) (data : List Byte) (stmt : List Byte) (sig : List Byte) (last : Bool) (s : State),
        (c = Instr.change se tag ident ∧ cls = 1 ∨ c = Instr.imageChunk se tag o data ∧ cls = 1 ∨ c = Instr.key se tag stmt sig ∧ cls = 2 ∨
        c = Instr.firmwareChunk se tag o data last ∧ cls = 11) ∧ (sesOpen s se = false)) ∧
    (∃ (c : Instr) (se : Fin 64) (tag : W32) (cls : ℕ) (ident : W256) (o : ℕ) (data : List Byte) (stmt : List Byte) (sig : List Byte) (last : Bool) (s : State),
        (c = Instr.change se tag ident ∧ cls = 1 ∨ c = Instr.imageChunk se tag o data ∧ cls = 1 ∨ c = Instr.key se tag stmt sig ∧ cls = 2 ∨
        c = Instr.firmwareChunk se tag o data last ∧ cls = 11) ∧ (sesOpen s se = true) ∧ (tooMany s se = true)) ∧
    (∃ (c : Instr) (se : Fin 64) (tag : W32) (cls : ℕ) (ident : W256) (o : ℕ) (data : List Byte) (stmt : List Byte) (sig : List Byte) (last : Bool) (s : State),
        (c = Instr.change se tag ident ∧ cls = 1 ∨ c = Instr.imageChunk se tag o data ∧ cls = 1 ∨ c = Instr.key se tag stmt sig ∧ cls = 2 ∨
        c = Instr.firmwareChunk se tag o data last ∧ cls = 11) ∧ (sesOpen s se = true) ∧ (tooMany s se = false) ∧ (s.mod.st = ModState.failed ∨
        s.mod.st = ModState.stopped)) ∧
    (∃ (c : Instr) (se : Fin 64) (tag : W32) (cls : ℕ) (ident : W256) (o : ℕ) (data : List Byte) (stmt : List Byte) (sig : List Byte) (last : Bool) (s : State),
        (c = Instr.change se tag ident ∧ cls = 1 ∨ c = Instr.imageChunk se tag o data ∧ cls = 1 ∨ c = Instr.key se tag stmt sig ∧ cls = 2 ∨
        c = Instr.firmwareChunk se tag o data last ∧ cls = 11) ∧ (sesOpen s se = true) ∧ (tooMany s se = false) ∧ (s.mod.st ≠ ModState.failed) ∧
        (s.mod.st ≠ ModState.stopped) ∧ (s.ses.tab[se].classes.getLsbD cls = false)) ∧
    (∃ (c : Instr) (se : Fin 64) (tag : W32) (cls : ℕ) (ident : W256) (o : ℕ) (data : List Byte) (stmt : List Byte) (sig : List Byte) (last : Bool) (s : State),
        (c = Instr.change se tag ident ∧ cls = 1 ∨ c = Instr.imageChunk se tag o data ∧ cls = 1 ∨ c = Instr.key se tag stmt sig ∧ cls = 2 ∨
        c = Instr.firmwareChunk se tag o data last ∧ cls = 11) ∧ (sesOpen s se = true) ∧ (tooMany s se = false) ∧
        (s.ses.tab[se].classes.getLsbD cls = true) ∧ (cls ≠ 11) ∧ (inRun s = true) ∧ (holds s = false) ∧ (partnerPresent s = true) ∧
        (holderReachable s = true) ∧ (saddleOpen s = true)) ∧
    (∃ (s : State) (se : Fin 64) (stmt : List Byte) (sig : List Byte) (k : ℕ), (sesOpen s se = true) ∧ (tooMany s se = false) ∧
        (s.mod.st ≠ ModState.failed) ∧ (s.mod.st ≠ ModState.stopped) ∧ (s.ses.tab[se].classes.getLsbD 2 = true) ∧ (inRun s = false ∨ holds s = true) ∧
        (keyCause stmt sig ((effWrite s.ses.tab[se]).getLsbD 0) s = some k)) ∧
    (∃ (s : State) (se : Fin 64) (stmt : List Byte) (sig : List Byte), (sesOpen s se = true) ∧ (tooMany s se = false) ∧ (s.mod.st ≠ ModState.failed) ∧
        (s.mod.st ≠ ModState.stopped) ∧ (s.ses.tab[se].classes.getLsbD 2 = true) ∧ (inRun s = false ∨ holds s = true) ∧
        (keyCause stmt sig ((effWrite s.ses.tab[se]).getLsbD 0) s = none)) ∧
    (∃ (s : State) (se : Fin 64), (sesOpen s se = true) ∧ (tooMany s se = false) ∧ (s.mod.st ≠ ModState.failed) ∧ (s.mod.st ≠ ModState.stopped) ∧
        (s.ses.tab[se].classes.getLsbD 2 = true) ∧ (inRun s = false ∨ holds s = true) ∧ ((effWrite s.ses.tab[se]).getLsbD 0 = false)) ∧
    (∃ (s : State) (se : Fin 64) (stmt : List Byte), (sesOpen s se = true) ∧ (tooMany s se = false) ∧ (s.mod.st ≠ ModState.failed) ∧
        (s.mod.st ≠ ModState.stopped) ∧ (s.ses.tab[se].classes.getLsbD 2 = true) ∧ (inRun s = false ∨ holds s = true) ∧
        (activeKeys (pendingKeys s).1 = []) ∧ ((effWrite s.ses.tab[se]).getLsbD 0 = true) ∧ (stmt.length = 40) ∧ (List.take 4 stmt = [76, 88, 75,
        49]) ∧ (stmtSlot stmt < 8) ∧ (stmtOp stmt = 1) ∧ (stmt.getD 6 0 = 0) ∧ (stmt.getD 7 0 = 0) ∧
        (fingerprint (stmtKey stmt) ∉ (pendingKeys s).2)) ∧
    (∃ (s : State) (v : Via) (stmt : List Byte), (firstCopy v s = true) ∧ (holds s = false) ∧ (stmtSlot stmt < 8)) ∧
    (∃ (s : State) (v : Via), (firstCopy v s = true) ∧ (holds s = true)) ∧
    (∃ (s : State) (w : PWrite) (rest : List PWrite) (keys : List KeySlot) (revoked : List W256) (tag : W32) (se : Fin 64) (stmt : List Byte),
        (s.mem.writes = w :: rest) ∧ (w.value = PValue.keyTable keys revoked) ∧ (w.act = PAct.keyOp se tag stmt) ∧ (stmtOp stmt = 1) ∧
        (partnerInRun s = false) ∧ (sesOpen s se = true)) :=
  ⟨⟨.change 0 0 0, 0, 0, 1, 0, 0, [], [], [], false, {}, by decide +kernel⟩,
   ⟨.change 0 0 0, 0, 0, 1, 0, 0, [], [], [], false,
        { outside with ses := { tab := (Vector.replicate 64 {}).set 0 { sess1 with fences := List.replicate 64 ⟨0, 0, 0, 0, 0, 0⟩ } } },
        by decide +kernel⟩,
   ⟨.change 0 0 0, 0, 0, 1, 0, 0, [], [], [], false, { outside with mod := { st := .failed } }, by decide +kernel⟩,
   ⟨.change 0 0 0, 0, 0, 1, 0, 0, [], [], [], false, { outside with ses := { tab := (Vector.replicate 64 {}).set 0 { st := .open_ } } },
        by decide +kernel⟩,
   ⟨.change 0 0 0, 0, 0, 1, 0, 0, [], [], [], false, standby, by decide +kernel⟩,
   ⟨{ ses := { tab := ((Vector.replicate 64 {}).set 0 { st := .open_, classes := 16383#14 }) } }, 0, (List.replicate 48 0), (List.replicate 48 0), 5,
        by decide +kernel⟩,
   ⟨{ ses := { tab := ((Vector.replicate 64 {}).set 0 { st := .open_, writeMask := 65535#16, classes := 16383#14 }) } }, 0, [76#8, 88#8, 75#8, 49#8,
        0#8, 1#8, 0#8, 0#8, 7#8, 7#8, 7#8, 7#8, 7#8, 7#8, 7#8, 7#8, 7#8, 7#8, 7#8, 7#8, 7#8, 7#8, 7#8, 7#8, 7#8, 7#8, 7#8, 7#8, 7#8, 7#8, 7#8, 7#8,
        7#8, 7#8, 7#8, 7#8, 7#8, 7#8, 7#8, 7#8], [76#8, 88#8, 75#8, 49#8, 0#8, 1#8, 0#8, 0#8, 7#8, 7#8, 7#8, 7#8, 7#8, 7#8, 7#8, 7#8, 7#8, 7#8, 7#8,
        7#8, 7#8, 7#8, 7#8, 7#8, 7#8, 7#8, 7#8, 7#8, 7#8, 7#8, 7#8, 7#8, 7#8, 7#8, 7#8, 7#8, 7#8, 7#8, 7#8, 7#8], by decide +kernel⟩,
   ⟨{ ses := { tab := ((Vector.replicate 64 {}).set 0 { st := .open_, classes := 16383#14 }) } }, 0, by decide +kernel⟩,
   ⟨{ ses := { tab := ((Vector.replicate 64 {}).set 0 { st := .open_, writeMask := 65535#16, classes := 16383#14 }) } }, 0, [76#8, 88#8, 75#8, 49#8,
        0#8, 1#8, 0#8, 0#8, 7#8, 7#8, 7#8, 7#8, 7#8, 7#8, 7#8, 7#8, 7#8, 7#8, 7#8, 7#8, 7#8, 7#8, 7#8, 7#8, 7#8, 7#8, 7#8, 7#8, 7#8, 7#8, 7#8, 7#8,
        7#8, 7#8, 7#8, 7#8, 7#8, 7#8, 7#8, 7#8], by decide +kernel⟩,
   ⟨{ pair := { up := ((Vector.replicate 2 false).set 1 true) }, mod := { st := .unchecked } }, { link := 1, seq := 10000000000000, errs := 15 },
        (List.replicate 48 0), by decide +kernel⟩,
   ⟨{ pair := { up := ((Vector.replicate 2 false).set 1 true) }, lease := { holder := true, leaseEnd := 2 }, mod := { st := .active } },
        { link := 1, seq := 10000000000000, errs := 1700 }, by decide +kernel⟩,
   ⟨{ mem := { writes := [{ value := (PValue.keyTable [] []), tries := 0, act := (PAct.keyOp 0 0#32 [76#8, 88#8, 75#8, 49#8, 0#8, 1#8, 0#8, 0#8]) }] }, ses := { tab := ((Vector.replicate 64 {}).set 0 { st := .open_ }) } },
        { value := (PValue.keyTable [] []), tries := 0, act := (PAct.keyOp 0 0#32 [76#8, 88#8, 75#8, 49#8, 0#8, 1#8, 0#8, 0#8]) }, [], [], [], 0#32,
        0, [76#8, 88#8, 75#8, 49#8, 0#8, 1#8, 0#8, 0#8], by decide +kernel⟩⟩

theorem test_met_ImagesAreLoadedVerifiedAndStored :
    (∃ (s : State) (se : Fin 64), (sesOpen s se = true) ∧ (tooMany s se = false) ∧ (s.mod.st ≠ ModState.failed) ∧ (s.mod.st ≠ ModState.stopped) ∧
        (s.ses.tab[se].classes.getLsbD 1 = true) ∧ (inRun s = false ∨ holds s = true) ∧ (mirrors s = false) ∧ (claimOf s s.pair.slot se = false)) ∧
    (∃ (s : State) (se : Fin 64) (o : ℕ), (sesOpen s se = true) ∧ (tooMany s se = false) ∧ (s.mod.st ≠ ModState.failed) ∧
        (s.mod.st ≠ ModState.stopped) ∧ (s.ses.tab[se].classes.getLsbD 1 = true) ∧ (inRun s = false ∨ holds s = true) ∧ (mirrors s = false) ∧
        (claimOf s s.pair.slot se = true) ∧ (s.img.cmd = none) ∧ (s.img.idle = IdleState.loading) ∧ (o ≠ s.img.load.length)) ∧
    (∃ (s : State) (se : Fin 64) (o : ℕ) (data : List Byte), (sesOpen s se = true) ∧ (tooMany s se = false) ∧ (s.mod.st ≠ ModState.failed) ∧
        (s.mod.st ≠ ModState.stopped) ∧ (s.ses.tab[se].classes.getLsbD 1 = true) ∧ (inRun s = false ∨ holds s = true) ∧ (mirrors s = false) ∧
        (claimOf s s.pair.slot se = true) ∧ (s.img.cmd = none) ∧ (s.img.idle = IdleState.loading) ∧ (o = s.img.load.length) ∧
        ((s.img.load ++ data).length < 96)) ∧
    (∃ (s : State) (se : Fin 64) (o : ℕ) (data : List Byte), (sesOpen s se = true) ∧ (tooMany s se = false) ∧ (s.mod.st ≠ ModState.failed) ∧
        (s.mod.st ≠ ModState.stopped) ∧ (s.ses.tab[se].classes.getLsbD 1 = true) ∧ (inRun s = false ∨ holds s = true) ∧ (mirrors s = false) ∧
        (claimOf s s.pair.slot se = true) ∧ (s.img.cmd = none) ∧ (s.img.idle = IdleState.loading) ∧ (o = s.img.load.length) ∧
        (s.img.load.length < 96) ∧ (96 ≤ (s.img.load ++ data).length) ∧ (checkHeader (s.img.load ++ data) = none) ∧
        (hdrTotal (s.img.load ++ data) = (s.img.load ++ data).length)) ∧
    (∃ (s : State) (se : Fin 64) (o : ℕ) (data : List Byte) (code : ℕ) (loc : ℕ), (sesOpen s se = true) ∧ (tooMany s se = false) ∧
        (s.mod.st ≠ ModState.failed) ∧ (s.mod.st ≠ ModState.stopped) ∧ (s.ses.tab[se].classes.getLsbD 1 = true) ∧ (inRun s = false ∨ holds s = true) ∧
        (mirrors s = false) ∧ (claimOf s s.pair.slot se = true) ∧ (s.img.cmd = none) ∧ (s.img.idle = IdleState.loading) ∧ (o = s.img.load.length) ∧
        (s.img.load.length < 96) ∧ (96 ≤ (s.img.load ++ data).length) ∧ (checkHeader (s.img.load ++ data) = some (code, loc))) ∧
    (∃ (s : State) (se : Fin 64) (o : ℕ) (data : List Byte), (sesOpen s se = true) ∧ (tooMany s se = false) ∧ (s.mod.st ≠ ModState.failed) ∧
        (s.mod.st ≠ ModState.stopped) ∧ (s.ses.tab[se].classes.getLsbD 1 = true) ∧ (inRun s = false ∨ holds s = true) ∧ (mirrors s = false) ∧
        (claimOf s s.pair.slot se = true) ∧ (s.img.cmd = none) ∧ (s.img.idle = IdleState.empty ∨ s.img.idle = IdleState.verified ∨
        s.img.idle = IdleState.armed ∨ s.img.idle = IdleState.failed) ∧ (o = 0) ∧ (data.length < 96)) ∧
    (∃ (s : State) (v : Via), (firstCopy v s = true) ∧ (holds s = true)) ∧
    (∃ (s : State) (v : Via) (o : ℕ) (data : List Byte), (firstCopy v s = true) ∧ (holds s = false) ∧ (s.img.cmd = none) ∧
        (s.img.idle = IdleState.loading) ∧ (o = s.img.load.length) ∧ (o ≠ 0) ∧ ((s.img.load ++ data).length < 96)) ∧
    (∃ (s : State) (v : Via) (data : List Byte), (firstCopy v s = true) ∧ (holds s = false) ∧ (s.img.cmd = none) ∧ (s.img.idle = IdleState.empty ∨
        s.img.idle = IdleState.verified ∨ s.img.idle = IdleState.armed ∨ s.img.idle = IdleState.failed) ∧ (data.length < 96)) ∧
    (∃ (s : State), s.img.idle ≠ IdleState.verifying) ∧
    (∃ (s : State) (e : ImgError), (s.img.idle = IdleState.verifying) ∧ (verifyImage s.img.load s.img.keys.toList = some e)) ∧
    (∃ (s : State), s.img.idle ≠ IdleState.storing) ∧
    (∃ (s : State), s.img.idle = IdleState.storing) :=
  ⟨⟨{ ses := { tab := ((Vector.replicate 64 {}).set 0 { st := .open_, classes := 16383#14 }) } }, 0, by decide +kernel⟩,
   ⟨{ img := { idle := .loading }, ses := { tab := ((Vector.replicate 64 {}).set 0 { st := .open_, classes := 16383#14 }), claim := (some { slot := false, se := 0, until_ := 0 }) } },
        0, 100000, by decide +kernel⟩,
   ⟨{ img := { idle := .loading }, ses := { tab := ((Vector.replicate 64 {}).set 0 { st := .open_, classes := 16383#14 }), claim := (some { slot := false, se := 0, until_ := 0 }) } },
        0, 0, (List.replicate 32 255), by decide +kernel⟩,
   ⟨{ outside with ses := { ses1 with claim := some ⟨false, 0, 1000000000⟩ }, img := { idle := .loading } }, 0, 0, ([0x4C, 0x58, 0x49, 0x4D, 1, 0, 0,
        0, 0xC0, 3, 0, 0, 0, 0, 0, 0, 11, 0, 96, 0] ++ List.replicate 940 0), by decide +kernel⟩,
   ⟨{ img := { idle := .loading }, ses := { tab := ((Vector.replicate 64 {}).set 0 { st := .open_, classes := 16383#14 }), claim := (some { slot := false, se := 0, until_ := 0 }) } },
        0, 0, (List.replicate 65600 65), 1, 0, by decide +kernel⟩,
   ⟨{ pair := { slot := true }, ses := { tab := ((Vector.replicate 64 {}).set 0 { st := .open_, classes := 16383#14 }), claim := (some { slot := true, se := 0, until_ := 0 }) } },
        0, 0, (List.replicate 48 1), by decide +kernel⟩,
   ⟨{ pair := { up := ((Vector.replicate 2 false).set 1 true) }, lease := { holder := true, leaseEnd := 2 }, mod := { st := .active } },
        { link := 1, seq := 10000000000000, errs := 1700 }, by decide +kernel⟩,
   ⟨{ img := { idle := .loading, load := (List.replicate 1 255) }, pair := { up := ((Vector.replicate 2 false).set 1 true) }, mod := { st := .standby } },
        { link := 1, seq := 1, errs := 0 }, 1, (List.replicate 16 0), by decide +kernel⟩,
   ⟨{ pair := { up := ((Vector.replicate 2 false).set 0 true) }, mod := { st := .join } }, { link := 0, seq := 1, errs := 100000 },
        (List.replicate 48 65), by decide +kernel⟩,
   ⟨{}, by decide +kernel⟩,
   ⟨{ img := { idle := .verifying } }, _, rfl,
        (Option.some_get (show (verifyImage [] (List.replicate 8 .empty)).isSome = true by decide +kernel)).symm⟩,
   ⟨{}, by decide +kernel⟩,
   ⟨{ img := { idle := .storing } }, by decide +kernel⟩⟩

theorem test_met_ImagesAreArmedAndCommanded_1 :
    (∃ (s : State) (se : Fin 64), (admitted regImg se s = true) ∧ (claimOf s s.pair.slot se = true) ∧ (s.img.cmd = none) ∧
        (s.img.idle = IdleState.verified) ∧ (mirrors s = false)) ∧
    (∃ (s : State) (se : Fin 64), (admitted regImg se s = true) ∧ (claimOf s s.pair.slot se = true) ∧ (s.img.cmd = none) ∧
        (s.img.idle = IdleState.verified) ∧ (mirrors s = true) ∧ (saddleOpen s = true)) ∧
    (∃ (s : State) (se : Fin 64), (admitted regImg se s = true) ∧ (claimOf s s.pair.slot se = true) ∧ (s.img.cmd = none) ∧
        (s.img.idle = IdleState.empty ∨ s.img.idle = IdleState.armed ∨ s.img.idle = IdleState.failed)) ∧
    (∃ (s : State), s.img.idle ≠ IdleState.arming) ∧
    (∃ (s : State) (ca : Option W128) (cb : Option W128) (new : Image), (s.img.idle = IdleState.arming) ∧ (s.img.idleImg = some new) ∧
        (s.lsk.halt = HaltState.none) ∧ (ca.getD (Config.streamDigest new.plain new.seq) ≠ cb.getD (Config.streamDigest new.plain new.seq)) ∧
        (inRun s = true) ∧ (s.lsk.stopped = false) ∧ (s.lsk.fault = none)) ∧
    (∃ (s : State) (ca : Option W128) (cb : Option W128) (new : Image), (s.img.idle = IdleState.arming) ∧ (s.img.idleImg = some new) ∧
        (s.lsk.halt = HaltState.none) ∧ (ca.getD (Config.streamDigest new.plain new.seq) = cb.getD (Config.streamDigest new.plain new.seq)) ∧
        (ca.getD (Config.streamDigest new.plain new.seq) ≠ Config.streamDigest new.plain new.seq)) ∧
    (∃ (s : State) (ca : Option W128) (cb : Option W128) (new : Image) (old : Image), (s.img.idle = IdleState.arming) ∧ (s.img.idleImg = some new) ∧
        (s.lsk.halt = HaltState.none) ∧ (ca.getD (Config.streamDigest new.plain new.seq) = Config.streamDigest new.plain new.seq) ∧
        (cb.getD (Config.streamDigest new.plain new.seq) = Config.streamDigest new.plain new.seq) ∧ (s.img.run = some old) ∧
        (gcv (planOf old old new) ≤ 14000) ∧ (gcv (planOf old new old) ≤ 14000)) ∧
    (∃ (s : State) (ca : Option W128) (cb : Option W128) (new : Image) (old : Image), (s.img.idle = IdleState.arming) ∧ (s.img.idleImg = some new) ∧
        (s.lsk.halt = HaltState.none) ∧ (ca.getD (Config.streamDigest new.plain new.seq) = Config.streamDigest new.plain new.seq) ∧
        (cb.getD (Config.streamDigest new.plain new.seq) = Config.streamDigest new.plain new.seq) ∧ (s.img.run = some old) ∧
        (14000 < gcv (planOf old old new) ∨ 14000 < gcv (planOf old new old))) ∧
    (∃ (s : State) (v : Via) (k : Option Origin), (firstCopy v s = true) ∧ (s.img.cmd = some (ImgCmd.arm k))) ∧
    (∃ (s : State) (v : Via), (firstCopy v s = true) ∧ (∀ (k : Option Origin), s.img.cmd ≠ some (ImgCmd.arm k))) ∧
    (∃ (s : State) (v : Via), (firstCopy v s = true) ∧ (holds s = false) ∧ (s.img.idle = IdleState.verified) ∧ (s.img.cmd = none) ∧
        (sameIdle s = true)) ∧
    (∃ (s : State) (v : Via), (firstCopy v s = true) ∧ (holds s = false) ∧ (s.img.idle = IdleState.armed) ∧ (sameIdle s = true) ∧
        (saddleOpen s = true)) ∧
    (∃ (s : State) (v : Via), (firstCopy v s = true) ∧ (holds s = false) ∧ (s.img.idle = IdleState.failed) ∧ (s.img.errCode ≠ 0) ∧
        (saddleOpen s = true)) ∧
    (∃ (s : State) (v : Via), (firstCopy v s = true) ∧ (holds s = true)) ∧
    (∃ (s : State), (s.img.idle = IdleState.armed) ∧ (s.img.loadDone = true)) ∧
    (∃ (s : State), s.img.idle ≠ IdleState.armed) ∧
    (∃ (s : State) (se : Fin 64) (c : Instr), (admitted regImg se s = true) ∧ (c = Instr.arm se ∨ c = Instr.disarm se ∨ c = Instr.clear se ∨
        (∃ (a : BitVec 4), c = Instr.archive se a) ∨ (∃ (a : BitVec 4), c = Instr.restore se a) ∨ c = Instr.abort se) ∧
        (claimOf s s.pair.slot se = false)) ∧
    (∃ (s : State) (se : Fin 64) (c : Instr), (admitted regImg se s = true) ∧ (c = Instr.arm se ∨ c = Instr.disarm se ∨ c = Instr.clear se ∨
        (∃ (a : BitVec 4), c = Instr.archive se a) ∨ (∃ (a : BitVec 4), c = Instr.restore se a) ∨ c = Instr.abort se) ∧
        (claimOf s s.pair.slot se = true) ∧ (s.img.cmd ≠ none ∨ s.img.idle = IdleState.loading ∨ s.img.idle = IdleState.verifying ∨
        s.img.idle = IdleState.storing ∨ s.img.idle = IdleState.arming ∨ s.img.idle = IdleState.switching) ∧ (c ≠ Instr.abort se ∨
        s.img.idle ≠ IdleState.loading)) ∧
    (∃ (s : State) (se : Fin 64), (admitted regImg se s = true) ∧ (claimOf s s.pair.slot se = true) ∧ (s.img.cmd = none) ∧
        (s.img.idle = IdleState.armed)) ∧
    (∃ (s : State) (se : Fin 64), (admitted regImg se s = true) ∧ (claimOf s s.pair.slot se = true) ∧ (s.img.cmd = none) ∧
        (s.img.idle = IdleState.empty ∨ s.img.idle = IdleState.verified ∨ s.img.idle = IdleState.failed)) ∧
    (∃ (s : State) (se : Fin 64), (admitted regImg se s = true) ∧ (claimOf s s.pair.slot se = true) ∧ (s.img.cmd = none) ∧
        (s.img.idle = IdleState.loading)) ∧
    (∃ (s : State) (se : Fin 64) (arg : BitVec 4), (admitted regImg se s = true) ∧ (claimOf s s.pair.slot se = true) ∧ (s.img.cmd = none) ∧
        (s.img.idle = IdleState.empty ∨ s.img.idle = IdleState.verified ∨ s.img.idle = IdleState.armed ∨ s.img.idle = IdleState.failed) ∧
        (s.img.slots[sourceSlot (arg.getLsbD 0) s].st ≠ SlotState.valid)) ∧
    (∃ (s : State) (se : Fin 64) (arg : BitVec 4), (admitted regImg se s = true) ∧ (claimOf s s.pair.slot se = true) ∧ (s.img.cmd = none) ∧
        (s.img.idle = IdleState.empty ∨ s.img.idle = IdleState.verified ∨ s.img.idle = IdleState.armed ∨ s.img.idle = IdleState.failed) ∧
        (s.img.slots[sourceSlot (arg.getLsbD 0) s].st = SlotState.valid)) ∧
    (∃ (s : State) (se : Fin 64) (arg : BitVec 4), (admitted regImg se s = true) ∧ (claimOf s s.pair.slot se = true) ∧ (s.img.cmd = none) ∧
        (s.img.idle = IdleState.empty ∨ s.img.idle = IdleState.verified ∨ s.img.idle = IdleState.armed ∨ s.img.idle = IdleState.failed) ∧
        (s.img.slots[archiveSlot (arg.getLsbD 1)].st ≠ SlotState.valid)) :=
  ⟨⟨{ img := { idle := .verified }, ses := { tab := ((Vector.replicate 64 {}).set 0 { st := .open_, classes := 16383#14 }), claim := (some { slot := false, se := 0, until_ := 0 }) } },
        0, by decide +kernel⟩,
   ⟨{ img := { idle := .verified }, pair := { up := ((Vector.replicate 2 false).set 1 true), partner := .without, partnerState := 7, slot := true }, lease := { holder := true, leaseEnd := 2 }, ses := { tab := (((Vector.replicate 64 {}).set 0 { st := .open_, classes := 16383#14 }).set 12 { ip := 3#32 }), claim := (some { slot := true, se := 0, until_ := 0 }) } },
        0, by decide +kernel⟩,
   ⟨{ ses := { tab := ((Vector.replicate 64 {}).set 0 { st := .open_, classes := 16383#14 }), claim := (some { slot := false, se := 0, until_ := 0 }) } },
        0, by decide +kernel⟩,
   ⟨{}, by decide +kernel⟩,
   ⟨{ mod := { st := .active }, img := { idle := .arming, idleImg := some {} } }, none, some (Config.streamDigest [] [] + 1), {}, rfl, rfl, rfl,
        test_next_differs _, by decide +kernel, rfl, rfl⟩,
   ⟨{ mod := { st := .active }, img := { idle := .arming, idleImg := some {} } }, some (Config.streamDigest [] [] + 1),
        some (Config.streamDigest [] [] + 1), {}, rfl, rfl, rfl, rfl, (test_next_differs _).symm⟩,
   ⟨{ mod := { st := .active }, img := { idle := .arming, idleImg := some {}, run := some {} } }, none, none, {}, {}, rfl, rfl, rfl, rfl, rfl, rfl,
        by decide, by decide⟩,
   ⟨{ img := { idle := .arming, idleImg := some (bigImage 896128), run := some (bigImage 0) } }, none, none, bigImage 896128, bigImage 0, rfl, rfl,
        rfl, rfl, rfl, rfl, .inl (by rw [test_plan_granules]; decide)⟩,
   ⟨{ img := { cmd := (some (ImgCmd.arm none)) }, pair := { up := ((Vector.replicate 2 false).set 0 true) }, mod := { st := .standby } },
        { link := 0, seq := 1, errs := 1000 }, none, by decide +kernel⟩,
   ⟨standby, ⟨0, 1, 0⟩, by decide +kernel, fun _ h => nomatch (show (none : Option ImgCmd) = some _ from h)⟩,
   ⟨{ img := { idle := .verified, idleImg := (some {}) }, pair := { up := ((Vector.replicate 2 false).set 1 true) }, mod := { st := .calibrate } },
        { link := 1, seq := 10000000000000, errs := 1000000 }, by decide +kernel⟩,
   ⟨{ img := { idle := .armed, idleImg := (some { ident := 115792089237316195423570985008687907853269984665640564039457584007913129639935#256 }), partnerIdleId := 115792089237316195423570985008687907853269984665640564039457584007913129639935#256 }, pair := { up := ((Vector.replicate 2 false).set 1 true) }, mod := { st := .unchecked } },
        { link := 1, seq := 1, errs := 63 }, by decide +kernel⟩,
   ⟨{ img := { idle := .failed, errCode := 6#8 }, pair := { up := ((Vector.replicate 2 false).set 0 true) }, mod := { st := .standby } },
        { link := 0, seq := 10000000000000, errs := 65535 }, by decide +kernel⟩,
   ⟨{ pair := { up := ((Vector.replicate 2 false).set 1 true) }, lease := { holder := true, leaseEnd := 2 }, mod := { st := .active } },
        { link := 1, seq := 10000000000000, errs := 1700 }, by decide +kernel⟩,
   ⟨{ img := { idle := .armed, loadDone := true } }, by decide +kernel⟩,
   ⟨{}, by decide +kernel⟩,
   ⟨outside, 0, .arm 0, by decide +kernel, .inl rfl, by decide +kernel⟩,
   ⟨{ outside with ses := { ses1 with claim := some ⟨false, 0, 1000000000⟩ }, img := { idle := .switching } }, 0, .arm 0, by decide +kernel, .inl rfl,
        by decide +kernel, by decide +kernel, .inl (by decide)⟩,
   ⟨{ img := { idle := .armed }, ses := { tab := (((Vector.replicate 64 {}).set 0 { st := .open_, classes := 16383#14 }).set 12 { fenceAddr := 4294967295#32 }), claim := (some { slot := false, se := 0, until_ := 0 }) } },
        0, by decide +kernel⟩,
   ⟨{ pair := { slot := true }, ses := { tab := ((Vector.replicate 64 {}).set 0 { st := .open_, classes := 16383#14 }), claim := (some { slot := true, se := 0, until_ := 0 }) } },
        0, by decide +kernel⟩,
   ⟨{ img := { idle := .loading }, pair := { slot := true }, ses := { tab := ((Vector.replicate 64 {}).set 0 { st := .open_, classes := 16383#14 }), claim := (some { slot := true, se := 0, until_ := 0 }) } },
        0, by decide +kernel⟩,
   ⟨{ pair := { slot := true }, ses := { tab := ((Vector.replicate 64 {}).set 0 { st := .open_, classes := 16383#14 }), claim := (some { slot := true, se := 0, until_ := 0 }) } },
        0, 4#4, by decide +kernel⟩,
   ⟨{ img := { slots := ((Vector.replicate 4 {}).set 1 { st := .valid }) }, ses := { tab := ((Vector.replicate 64 {}).set 0 { st := .open_, classes := 16383#14 }), claim := (some { slot := false, se := 0, until_ := 0 }) } },
        0, 15#4, by decide +kernel⟩,
   ⟨{ pair := { slot := true }, ses := { tab := ((Vector.replicate 64 {}).set 0 { st := .open_, classes := 16383#14 }), claim := (some { slot := true, se := 0, until_ := 0 }) } },
        0, 4#4, by decide +kernel⟩⟩

theorem test_met_ImagesAreArmedAndCommanded_2 :
    (∃ (s : State) (se : Fin 64) (arg : BitVec 4), (admitted regImg se s = true) ∧ (claimOf s s.pair.slot se = true) ∧ (s.img.cmd = none) ∧
        (s.img.idle = IdleState.empty ∨ s.img.idle = IdleState.verified ∨ s.img.idle = IdleState.armed ∨ s.img.idle = IdleState.failed) ∧
        (s.img.slots[archiveSlot (arg.getLsbD 1)].st = SlotState.valid)) ∧
    (∃ (s : State) (src : Bool) (dst : Bool), s.img.cmd = some (ImgCmd.archive src dst)) ∧
    (∃ (s : State) (src : Bool), s.img.cmd = some (ImgCmd.restore src)) ∧
    (∃ (s : State), s.img.cmd = none) :=
  ⟨⟨{ img := { slots := ((Vector.replicate 4 {}).set 2 { st := .valid }) }, ses := { tab := (((Vector.replicate 64 {}).set 0 { st := .open_, classes := 16383#14 }).set 12 { writeMask := 65535#16 }), claim := (some { slot := false, se := 0, until_ := 0 }) } },
        0, 4#4, by decide +kernel⟩,
   ⟨{ img := { cmd := (some (ImgCmd.archive false false)) } }, false, false, by decide +kernel⟩,
   ⟨{ img := { cmd := (some (ImgCmd.restore false)) } }, false, by decide +kernel⟩,
   ⟨{}, by decide +kernel⟩⟩

theorem test_met_WordsMeetAndAreCommitted :
    (∃ (s : State) (lane : Lane) (stream : Fin 74) (ch : Option LaneWord) (w : LaneWord), (s.lsk.stopped = false) ∧ (inRun s = true) ∧
        (ch.or (laneNext s lane stream) = some w) ∧ (s.lsk.halt = HaltState.none) ∧ (matching lane w s.lsk.delay[stream] = none) ∧
        ((List.filter (fun (d : DelayWord) => d.lane == lane) s.lsk.delay[stream]).length < 2)) ∧
    (∃ (s : State) (lane : Lane) (stream : Fin 74) (ch : Option LaneWord) (w : LaneWord), (s.lsk.stopped = false) ∧ (inRun s = true) ∧
        (ch.or (laneNext s lane stream) = some w) ∧ (s.lsk.halt = HaltState.none) ∧ (matching lane w s.lsk.delay[stream] = none) ∧
        (2 ≤ (List.filter (fun (d : DelayWord) => d.lane == lane) s.lsk.delay[stream]).length)) ∧
    (∃ (s : State) (lane : Lane) (stream : Fin 74) (ch : Option LaneWord) (w : LaneWord) (d : DelayWord), (s.lsk.stopped = false) ∧ (inRun s = true) ∧
        (ch.or (laneNext s lane stream) = some w) ∧ (s.lsk.halt = HaltState.none) ∧ (matching lane w s.lsk.delay[stream] = some d) ∧ (ch = none) ∧
        (d.word.data = w.data) ∧ (sameTag d.word w = true)) ∧
    (∃ (s : State) (lane : Lane) (stream : Fin 74) (ch : Option LaneWord) (w : LaneWord), (s.lsk.stopped = false) ∧ (inRun s = true) ∧
        (ch.or (laneNext s lane stream) = some w) ∧ (s.lsk.halt ≠ HaltState.none) ∧ (idles s.lsk.halt lane = true)) ∧
    (∃ (s : State), s.lsk.stopped = true ∨ inRun s = false) ∧
    (∃ (s : State) (lane : Lane) (stream : Fin 74), laneNext s lane stream = none) ∧
    (∃ (s : State) (lane : Lane) (stream : Fin 74) (w : LaneWord) (c : Cycle) (e : TaskEntry), (s.lsk.stopped = false) ∧ (inRun s = true) ∧
        (laneNext s lane stream = some w) ∧ ((∃ (d : DelayWord), s.lsk.halt = HaltState.none ∧ matching lane w s.lsk.delay[stream] = some d ∧
        d.word = w) ∨ s.lsk.halt ≠ HaltState.none ∧ idles s.lsk.halt lane = false) ∧ (s.tsk.rt[w.task].cur = some c) ∧ (taskEntry s w.task = some e) ∧
        (w.kind = WordKind.outputRecord) ∧ (inRanges e.outputs ((w.addr - outputBase) / 16) = true)) ∧
    (∃ (s : State) (lane : Lane) (stream : Fin 74) (w : LaneWord) (c : Cycle) (e : TaskEntry), (s.lsk.stopped = false) ∧ (inRun s = true) ∧
        (laneNext s lane stream = some w) ∧ ((∃ (d : DelayWord), s.lsk.halt = HaltState.none ∧ matching lane w s.lsk.delay[stream] = some d ∧
        d.word = w) ∨ s.lsk.halt ≠ HaltState.none ∧ idles s.lsk.halt lane = false) ∧ (s.tsk.rt[w.task].cur = some c) ∧ (taskEntry s w.task = some e) ∧
        (w.kind = WordKind.outputRecord) ∧ (inRanges e.outputs ((w.addr - outputBase) / 16) = false)) ∧
    (∃ (s : State) (lane : Lane) (stream : Fin 74) (w : LaneWord) (c : Cycle) (e : TaskEntry), (s.lsk.stopped = false) ∧ (inRun s = true) ∧
        (laneNext s lane stream = some w) ∧ ((∃ (d : DelayWord), s.lsk.halt = HaltState.none ∧ matching lane w s.lsk.delay[stream] = some d ∧
        d.word = w) ∨ s.lsk.halt ≠ HaltState.none ∧ idles s.lsk.halt lane = false) ∧ (s.tsk.rt[w.task].cur = some c) ∧ (taskEntry s w.task = some e) ∧
        (w.kind = WordKind.persistent ∨ w.kind = WordKind.varWrite) ∧ (∀ x ∈ c.forces, x.2.kind ≠ 2)) ∧
    (∃ (s : State) (lane : Lane) (stream : Fin 74) (w : LaneWord) (c : Cycle) (e : TaskEntry), (s.lsk.stopped = false) ∧ (inRun s = true) ∧
        (laneNext s lane stream = some w) ∧ ((∃ (d : DelayWord), s.lsk.halt = HaltState.none ∧ matching lane w s.lsk.delay[stream] = some d ∧
        d.word = w) ∨ s.lsk.halt ≠ HaltState.none ∧ idles s.lsk.halt lane = false) ∧ (s.tsk.rt[w.task].cur = some c) ∧ (taskEntry s w.task = some e) ∧
        (w.kind = WordKind.digest)) ∧
    (∃ (s : State) (lane : Lane) (stream : Fin 74) (w : LaneWord) (c : Cycle) (e : TaskEntry) (k : Fin 8), (s.lsk.stopped = false) ∧
        (inRun s = true) ∧ (laneNext s lane stream = some w) ∧ ((∃ (d : DelayWord), s.lsk.halt = HaltState.none ∧
        matching lane w s.lsk.delay[stream] = some d ∧ d.word = w) ∨ s.lsk.halt ≠ HaltState.none ∧ idles s.lsk.halt lane = false) ∧
        (s.tsk.rt[w.task].cur = some c) ∧ (taskEntry s w.task = some e) ∧ (w.kind = WordKind.readRequest) ∧ (stream.val = 64 + k.val) ∧
        (s.lsk.halt = HaltState.none) ∧ (∀ (x : Context) (rd : ℕ) (f : AluOp) (v : W128),
        (laneOf s (askingLane s)).cores[k].running = some x → x.wait ≠ some (CoreWait.rmw rd f v))) ∧
    (∃ (s : State) (lane : Lane) (stream : Fin 74) (w : LaneWord) (c : Cycle) (e : TaskEntry) (k : Fin 8), (s.lsk.stopped = false) ∧
        (inRun s = true) ∧ (laneNext s lane stream = some w) ∧ ((∃ (d : DelayWord), s.lsk.halt = HaltState.none ∧
        matching lane w s.lsk.delay[stream] = some d ∧ d.word = w) ∨ s.lsk.halt ≠ HaltState.none ∧ idles s.lsk.halt lane = false) ∧
        (s.tsk.rt[w.task].cur = some c) ∧ (taskEntry s w.task = some e) ∧ (w.kind = WordKind.serviceCall) ∧ (w.addr = 9) ∧ (stream.val = 64 + k.val) ∧
        (s.lsk.halt = HaltState.none)) :=
  ⟨⟨{ mod := { st := .standby } }, .B, 73, (some { kind := .persistent, addr := 16, enables := 26938#16, data := 2#128, task := 0 }),
        { kind := .persistent, addr := 16, enables := 26938#16, data := 2#128, task := 0 }, by decide +kernel⟩,
   ⟨{ laneA := { out := [(0, { kind := .outputRecord, addr := 0, enables := 0#16, data := 0#128, task := 0 })] }, lsk := { delay := ((Vector.replicate 74 []).set 0 [{ lane := .A, word := { kind := .outputRecord, addr := 0, enables := 0#16, data := 0#128, task := 0 }, arrived := 0, changed := false }, { lane := .A, word := { kind := .outputRecord, addr := 0, enables := 0#16, data := 0#128, task := 0 }, arrived := 0, changed := false }]) }, mod := { st := .active } },
        .A, 0, none, { kind := .outputRecord, addr := 0, enables := 0#16, data := 0#128, task := 0 }, by decide +kernel⟩,
   ⟨{ laneA := { out := [(0, { kind := .outputRecord, addr := 2097152, enables := 65535#16, data := 0#128, task := 0 })] }, lsk := { delay := ((Vector.replicate 74 []).set 0 [{ lane := .B, word := { kind := .outputRecord, addr := 2097152, enables := 65535#16, data := 0#128, task := 0 }, arrived := 0, changed := false }]) }, mod := { st := .active } },
        .A, 0, none, { kind := .outputRecord, addr := 2097152, enables := 65535#16, data := 0#128, task := 0 },
        { lane := .B, word := { kind := .outputRecord, addr := 2097152, enables := 65535#16, data := 0#128, task := 0 }, arrived := 0, changed := false },
        by decide +kernel⟩,
   ⟨{ lsk := { halt := (HaltState.neither none) }, mod := { st := .unchecked } }, .B, 1,
        (some { kind := .varWrite, addr := 15, enables := 16#16, data := 15936186251961730855#128, task := 127 }),
        { kind := .varWrite, addr := 15, enables := 16#16, data := 15936186251961730855#128, task := 127 }, by decide +kernel⟩,
   ⟨{}, by decide +kernel⟩,
   ⟨{}, .B, 0, by decide +kernel⟩,
   ⟨paired 0 ⟨.outputRecord, 0x00200000, 0xFFFF, 0, 0⟩, .A, 0, _, cyc 0 1 false, tk 0 false 0 0, rfl, by decide +kernel, rfl, .inl ⟨⟨.B,
        ⟨.outputRecord, 0x00200000, 0xFFFF, 0, 0⟩, 0, false⟩, rfl, by decide +kernel, rfl⟩, by decide +kernel, by decide +kernel, rfl,
        by decide +kernel⟩,
   ⟨paired 0 ⟨.outputRecord, 0x00200100, 0xFFFF, 0, 0⟩, .A, 0, _, cyc 0 1 false, tk 0 false 0 0, rfl, by decide +kernel, rfl, .inl ⟨⟨.B,
        ⟨.outputRecord, 0x00200100, 0xFFFF, 0, 0⟩, 0, false⟩, rfl, by decide +kernel, rfl⟩, by decide +kernel, by decide +kernel, rfl,
        by decide +kernel⟩,
   ⟨paired 0 ⟨.persistent, 0x10000000, 0xFFFF, 0, 0⟩, .A, 0, _, cyc 0 1 false, tk 0 false 0 0, rfl, by decide +kernel, rfl, .inl ⟨⟨.B, ⟨.persistent,
        0x10000000, 0xFFFF, 0, 0⟩, 0, false⟩, rfl, by decide +kernel, rfl⟩, by decide +kernel, by decide +kernel, .inl rfl, by decide +kernel⟩,
   ⟨paired 0 ⟨.digest, 0, 0xFFFF, 0, 0⟩, .A, 0, _, cyc 0 1 false, tk 0 false 0 0, rfl, by decide +kernel, rfl, .inl ⟨⟨.B, ⟨.digest, 0, 0xFFFF, 0, 0⟩,
        0, false⟩, rfl, by decide +kernel, rfl⟩, by decide +kernel, by decide +kernel, rfl⟩,
   ⟨paired 64 ⟨.readRequest, 0x10000000, 0xFFFF, 0, 0⟩, .A, 64, _, cyc 0 1 false, tk 0 false 0 0, 0, rfl, by decide +kernel, rfl, .inl ⟨⟨.B,
        ⟨.readRequest, 0x10000000, 0xFFFF, 0, 0⟩, 0, false⟩, rfl, by decide +kernel, rfl⟩, by decide +kernel, by decide +kernel, rfl, rfl, rfl,
        fun _ _ _ _ h => by cases h; nofun⟩,
   ⟨paired 64 ⟨.serviceCall, 9, 0xFFFF, 0, 0⟩, .A, 64, _, cyc 0 1 false, tk 0 false 0 0, 0, rfl, by decide +kernel, rfl, .inl ⟨⟨.B, ⟨.serviceCall, 9,
        0xFFFF, 0, 0⟩, 0, false⟩, rfl, by decide +kernel, rfl⟩, by decide +kernel, by decide +kernel, rfl, rfl, rfl, rfl⟩⟩

theorem test_met_DifferentWordsStopInboundWordsArrive :
    (∃ (s : State) (lane : Lane) (stream : Fin 74) (ch : Option LaneWord) (w : LaneWord) (d : DelayWord), (s.lsk.stopped = false) ∧ (inRun s = true) ∧
        (s.lsk.halt = HaltState.none) ∧ (ch.or (laneNext s lane stream) = some w) ∧ (matching lane w s.lsk.delay[stream] = some d) ∧ (↑stream < 72) ∧
        (w.kind ≠ WordKind.digest) ∧ (d.word.kind ≠ WordKind.digest) ∧ (d.word.data ≠ w.data ∨ sameTag d.word w = false)) ∧
    (∃ (s : State) (stream : Fin 74) (d : DelayWord) (rest : List DelayWord), (s.lsk.stopped = false) ∧ (inRun s = true) ∧
        (s.lsk.halt = HaltState.none) ∧ (s.lsk.delay[stream] = d :: rest) ∧ (d.word.kind ≠ WordKind.digest) ∧ (d.arrived + 50000 ≤ s.tb.now)) ∧
    (∃ (s : State) (stream : Fin 74) (d : DelayWord) (rest : List DelayWord), (s.lsk.stopped = false) ∧ (inRun s = true) ∧
        (s.lsk.halt = HaltState.none) ∧ (s.lsk.delay[stream] = d :: rest) ∧ (d.word.kind ≠ WordKind.digest) ∧ (s.tb.now < d.arrived + 50000)) ∧
    (∃ (s : State) (stream : Fin 74), s.lsk.delay[stream] = []) ∧
    (∃ (s : State) (stream : Fin 72) (w : Inbound) (rest : List Inbound), (s.lsk.inbound[stream] = w :: rest) ∧ (inRun s = true) ∧
        (s.lsk.halt = HaltState.none) ∧ (inboundReady s w = true)) ∧
    (∃ (s : State) (stream : Fin 72) (w : Inbound) (rest : List Inbound), (s.lsk.inbound[stream] = w :: rest) ∧ (inRun s = true) ∧
        (s.lsk.halt = HaltState.none) ∧ (inboundReady s w = false)) ∧
    (∃ (s : State) (stream : Fin 72) (w : Inbound) (rest : List Inbound), (s.lsk.inbound[stream] = w :: rest) ∧ (inRun s = true) ∧
        (s.lsk.halt = HaltState.none) ∧ (s.tb.now < w.accepted + 10)) ∧
    (∃ (s : State) (stream : Fin 72) (w : Inbound) (rest : List Inbound), (s.lsk.inbound[stream] = w :: rest) ∧ (inRun s = true) ∧
        (s.lsk.halt = HaltState.none) ∧ (w.accepted + 40 ≤ s.tb.now)) :=
  ⟨⟨{ lsk := { delay := ((Vector.replicate 74 []).set 1 [{ lane := .A, word := { kind := .outputRecord, addr := 0, enables := 0#16, data := 0#128, task := 0 }, arrived := 0, changed := false }]) }, mod := { st := .standby } },
        .B, 1, (some { kind := .persistent, addr := 0, enables := 65420#16, data := 268435456#128, task := 0 }),
        { kind := .persistent, addr := 0, enables := 65420#16, data := 268435456#128, task := 0 },
        { lane := .A, word := { kind := .outputRecord, addr := 0, enables := 0#16, data := 0#128, task := 0 }, arrived := 0, changed := false },
        by decide +kernel⟩,
   ⟨{ tb := { now := 61035 }, lsk := { delay := ((Vector.replicate 74 []).set 1 [{ lane := .A, word := { kind := .outputRecord, addr := 0, enables := 0#16, data := 0#128, task := 0 }, arrived := 0, changed := false }]) }, mod := { st := .standby } },
        1, { lane := .A, word := { kind := .outputRecord, addr := 0, enables := 0#16, data := 0#128, task := 0 }, arrived := 0, changed := false },
        [], by decide +kernel⟩,
   ⟨{ lsk := { delay := ((Vector.replicate 74 []).set 0 [{ lane := .A, word := { kind := .outputRecord, addr := 0, enables := 0#16, data := 0#128, task := 0 }, arrived := 0, changed := false }]) }, mod := { st := .active } },
        0, { lane := .A, word := { kind := .outputRecord, addr := 0, enables := 0#16, data := 0#128, task := 0 }, arrived := 0, changed := false },
        [], by decide +kernel⟩,
   ⟨{}, 0, by decide +kernel⟩,
   ⟨{ tb := { now := 14 }, lsk := { inbound := ((Vector.replicate 72 []).set 1 [{ data := 0#128, task := 0, target := (InTarget.edge 0 []), accepted := 0, later := 3 }]) }, mod := { st := .standby } },
        1, { data := 0#128, task := 0, target := (InTarget.edge 0 []), accepted := 0, later := 3 }, [], by decide +kernel⟩,
   ⟨{ lsk := { inbound := ((Vector.replicate 72 []).set 0 [{ data := 0#128, task := 0, target := (InTarget.edge 0 []), accepted := 0, later := 0 }]) }, mod := { st := .standby } },
        0, { data := 0#128, task := 0, target := (InTarget.edge 0 []), accepted := 0, later := 0 }, [], by decide +kernel⟩,
   ⟨{ lsk := { inbound := ((Vector.replicate 72 []).set 0 [{ data := 0#128, task := 0, target := (InTarget.edge 0 []), accepted := 0, later := 0 }]) }, mod := { st := .standby } },
        0, { data := 0#128, task := 0, target := (InTarget.edge 0 []), accepted := 0, later := 0 }, [], by decide +kernel⟩,
   ⟨{ tb := { now := 59 }, lsk := { inbound := ((Vector.replicate 72 []).set 1 [{ data := 0#128, task := 0, target := (InTarget.edge 0 []), accepted := 0, later := 0 }]) }, mod := { st := .standby } },
        1, { data := 0#128, task := 0, target := (InTarget.edge 0 []), accepted := 0, later := 0 }, [], by decide +kernel⟩⟩

theorem test_met_TheDebugPortReadsHaltsAndSteps :
    (∃ (s : State) (d : DebugCred), s.ses.debug = some d) ∧
    (∃ (s : State) (addr : W32) (g : ℕ), (granuleOf (BitVec.toNat addr / 16 * 16) = some g) ∧ (debugMay g s = true)) ∧
    (∃ (s : State) (addr : W32) (g : ℕ), (granuleOf (BitVec.toNat addr / 16 * 16) = some g) ∧ (debugMay g s = false)) ∧
    (∃ (s : State) (addr : W32) (g : ℕ), (granuleOf (BitVec.toNat addr / 16 * 16) = some g) ∧ (colourOf s g = 15)) ∧
    (∃ (s : State), s.ses.debug = none) ∧
    (∃ (s : State), (s.ses.debug ≠ none) ∧ (inRun s = true) ∧ (haltedLane s.lsk.halt = none) ∧ (holds s = false ∨ s.lsk.commission = true)) ∧
    (∃ (s : State), (s.ses.debug ≠ none) ∧ (inRun s = true) ∧ (haltedLane s.lsk.halt = none) ∧ (holds s = true) ∧ (s.lsk.commission = false)) ∧
    (∃ (s : State) (lane : Lane), (s.ses.debug ≠ none) ∧ (s.lsk.halt = HaltState.halted lane) ∧
        (List.filter (fun (c : SlotConf) => slotReady s (laneOf s lane) c && (program s).slots.all fun (d : SlotConf) => d.tile != c.tile || d.slot == c.slot || !slotReady s (laneOf s lane) d || firesBefore s c d) (program s).slots ≠ [])) ∧
    (∃ (s : State) (lane : Lane), (s.ses.debug ≠ none) ∧ (s.lsk.halt = HaltState.halted lane) ∧
        (List.filter (fun (c : SlotConf) => slotReady s (laneOf s lane) c && (program s).slots.all fun (d : SlotConf) => d.tile != c.tile || d.slot == c.slot || !slotReady s (laneOf s lane) d || firesBefore s c d) (program s).slots = []) ∧
        ((laneOf s lane).links = [])) ∧
    (∃ (s : State), (s.ses.debug ≠ none) ∧ (s.lsk.halt = HaltState.none)) :=
  ⟨⟨{ ses := { debug := (some { colours := 0#16, notAfter := 0, viol := 0, first := false }) } },
        { colours := 0#16, notAfter := 0, viol := 0, first := false }, by decide +kernel⟩,
   ⟨{ ses := { debug := (some { colours := 65535#16, notAfter := 0, viol := 0, first := false }) } }, 268435456#32, 32768, by decide +kernel⟩,
   ⟨{}, 268435472#32, 32768, by decide +kernel⟩,
   ⟨{ img := { run := (some { colours := [{ first := 0, count := 48828, colour := 15#4 }] }) } }, 268435456#32, 32768, by decide +kernel⟩,
   ⟨{}, by decide +kernel⟩,
   ⟨{ ses := { debug := (some { colours := 0#16, notAfter := 0, viol := 0, first := false }) }, mod := { st := .standby } }, by decide +kernel⟩,
   ⟨{ lease := { holder := true, leaseEnd := 2 }, ses := { debug := (some { colours := 0#16, notAfter := 0, viol := 0, first := false }) }, mod := { st := .active } },
        by decide +kernel⟩,
   ⟨{ tsk := { rt := ((Vector.replicate 128 {}).set 0 { cur := (some { record := { relts := 0, cycle := 0#32, trigger := 0#8, reason := 0#8, missed := 0#8, flags := 0#8, trigts := 0, arg := 0#32, info := 0#32 }, base := 0, awaiting := false, partnerDue := false, forces := [], snapshot := [], taken := [], stamps := [], substs := [], outStns := [], writes := [], outputs := [], before := [], digests := 0, flags := 0#7, unchecked := false, can := [], fromHolder := false }) }) }, img := { run := (some { prog := { slots := [{ tile := 0, slot := 0, task := 0, op := (AluOp.fp32 .add), ins := (Vector.replicate 3 .unused), dests := (Vector.replicate 4 none) }], words := [], inject := [] } }) }, lsk := { halt := (HaltState.halted .A) }, ses := { debug := (some { colours := 0#16, notAfter := 0, viol := 0, first := false }) } },
        .A, by decide +kernel⟩,
   ⟨{ lsk := { halt := (HaltState.halted .A) }, ses := { debug := (some { colours := 0#16, notAfter := 0, viol := 0, first := false }) } }, .A,
        by decide +kernel⟩,
   ⟨{ ses := { debug := (some { colours := 0#16, notAfter := 0, viol := 0, first := false }) } }, by decide +kernel⟩⟩

theorem test_met_CommissioningAndRecheck :
    (∃ (s : State) (se : Fin 64), (admitted regLsk se s = true) ∧ (s.lsk.unchecked = true) ∧ (holds s = true)) ∧
    (∃ (s : State) (se : Fin 64), (admitted regLsk se s = true) ∧ (s.lsk.unchecked = false ∨ holds s = false)) ∧
    (∃ (s : State) (se : Fin 64), (admitted regLsk se s = true) ∧ (s.lsk.recheck ≠ none)) ∧
    (∃ (s : State) (se : Fin 64), (admitted regLsk se s = true) ∧ (s.lsk.recheck = none) ∧ (haltedLane s.lsk.halt ≠ none ∨ s.lsk.unchecked = false ∨
        inRun s = false)) ∧
    (∃ (s : State) (se : Fin 64), (admitted regLsk se s = true) ∧ (s.lsk.recheck = none) ∧ (haltedLane s.lsk.halt = none) ∧ (s.lsk.unchecked = true) ∧
        (inRun s = true)) ∧
    (∃ (s : State) (q : SwitchReq), (s.lsk.recheck = some q) ∧ (q.phase = SwitchPhase.candidate) ∧ (s.tb.now < q.r)) ∧
    (∃ (s : State) (q : SwitchReq), (s.lsk.recheck = some q) ∧ (q.phase = SwitchPhase.candidate) ∧ (q.r ≤ s.tb.now) ∧ (ready q.r s = true)) ∧
    (∃ (s : State), s.lsk.recheck = none) ∧
    (∃ (s : State) (q : SwitchReq), (s.lsk.recheck = some q) ∧ (q.phase = SwitchPhase.searching ∨ q.phase = SwitchPhase.candidate) ∧
        (s.tb.now < q.start + 2000000000)) ∧
    (∃ (s : State) (q : SwitchReq), (s.lsk.recheck = some q) ∧ (q.phase = SwitchPhase.searching ∨ q.phase = SwitchPhase.candidate) ∧
        (q.start + 2000000000 ≤ s.tb.now)) :=
  ⟨⟨{ lsk := { unchecked := true }, lease := { holder := true, leaseEnd := 2 }, ses := { tab := ((Vector.replicate 64 {}).set 0 { st := .open_, classes := 16383#14 }) } },
        0, by decide +kernel⟩,
   ⟨{ ses := { tab := ((Vector.replicate 64 {}).set 0 { st := .open_, classes := 16383#14 }) } }, 0, by decide +kernel⟩,
   ⟨{ lsk := { recheck := (some { asker := none, tag := 0#32, phase := .searching, start := 0, attempts := 0, r := 0, ownReady := false, partnerReady := none, windowEnd := 0, granules := 0, touched := [], forcesDropped := 0, varsDropped := 0 }) }, ses := { tab := ((Vector.replicate 64 {}).set 0 { st := .open_, classes := 16383#14 }) } },
        0, by decide +kernel⟩,
   ⟨{ ses := { tab := ((Vector.replicate 64 {}).set 0 { st := .open_, classes := 16383#14 }) } }, 0, by decide +kernel⟩,
   ⟨{ lsk := { unchecked := true }, ses := { tab := ((Vector.replicate 64 {}).set 0 { st := .open_, classes := 16383#14 }) }, mod := { st := .standby } },
        0, by decide +kernel⟩,
   ⟨{ lsk := { recheck := (some { asker := none, tag := 0#32, phase := .candidate, start := 0, attempts := 0, r := 1, ownReady := false, partnerReady := none, windowEnd := 0, granules := 0, touched := [], forcesDropped := 0, varsDropped := 0 }) } },
        { asker := none, tag := 0#32, phase := .candidate, start := 0, attempts := 0, r := 1, ownReady := false, partnerReady := none, windowEnd := 0, granules := 0, touched := [], forcesDropped := 0, varsDropped := 0 },
        by decide +kernel⟩,
   ⟨{ lsk := { recheck := (some { asker := none, tag := 0#32, phase := .candidate, start := 0, attempts := 0, r := 0, ownReady := false, partnerReady := none, windowEnd := 0, granules := 0, touched := [], forcesDropped := 0, varsDropped := 0 }) } },
        { asker := none, tag := 0#32, phase := .candidate, start := 0, attempts := 0, r := 0, ownReady := false, partnerReady := none, windowEnd := 0, granules := 0, touched := [], forcesDropped := 0, varsDropped := 0 },
        by decide +kernel⟩,
   ⟨{}, by decide +kernel⟩,
   ⟨{ lsk := { recheck := (some { asker := none, tag := 0#32, phase := .searching, start := 0, attempts := 0, r := 0, ownReady := false, partnerReady := none, windowEnd := 0, granules := 0, touched := [], forcesDropped := 0, varsDropped := 0 }) } },
        { asker := none, tag := 0#32, phase := .searching, start := 0, attempts := 0, r := 0, ownReady := false, partnerReady := none, windowEnd := 0, granules := 0, touched := [], forcesDropped := 0, varsDropped := 0 },
        by decide +kernel⟩,
   ⟨{ tb := { now := 3125000000 }, lsk := { recheck := (some { asker := none, tag := 0#32, phase := .searching, start := 0, attempts := 0, r := 0, ownReady := false, partnerReady := none, windowEnd := 0, granules := 0, touched := [], forcesDropped := 0, varsDropped := 0 }) } },
        { asker := none, tag := 0#32, phase := .searching, start := 0, attempts := 0, r := 0, ownReady := false, partnerReady := none, windowEnd := 0, granules := 0, touched := [], forcesDropped := 0, varsDropped := 0 },
        by decide +kernel⟩⟩

theorem test_met_PartnersAreFollowedOverTheSaddle :
    (∃ (s : State) (l : Fin 2), s.pair.up[l] = true ∨ s.mod.st = ModState.off) ∧
    (∃ (s : State) (l : Fin 2), (s.pair.up[l] = false) ∧ (s.mod.st ≠ ModState.off)) ∧
    (∃ (s : State) (l : Fin 2), s.pair.up[l] = true) ∧
    (∃ (s : State) (l : Fin 2), s.tb.now < s.pair.lastMsg[l] + 1000000) ∧
    (∃ (s : State) (l : Fin 2), (s.pair.lastMsg[l] + 1000000 ≤ s.tb.now) ∧ (∃ (k : Fin 2), s.tb.now < s.pair.lastMsg[k] + 1000000)) ∧
    (∃ (s : State) (l : Fin 2), (s.pair.lastMsg[l] + 1000000 ≤ s.tb.now) ∧ (∀ (k : Fin 2), s.pair.lastMsg[k] + 1000000 ≤ s.tb.now) ∧
        (partnerPresent s = true)) ∧
    (∃ (s : State), s.mod.st = ModState.off ∨ s.mod.st = ModState.boot) ∧
    (∃ (s : State) (v : Via), (firstCopy v s = true) ∧ (leaseOver s = false) ∧ (s.lease.swapPhase = none)) ∧
    (∃ (s : State) (v : Via) (h : Heartbeat) (sent : ℕ) (held : ℕ), (s.mod.st ≠ ModState.off) ∧ (s.mod.st ≠ ModState.boot) ∧
        (s.pair.up[v.link] = true) ∧ (v.seq ≤ s.pair.seqIn) ∧ (h.echo = some (sent, held)) ∧ (holds s = true)) :=
  ⟨⟨{ pair := { up := ((Vector.replicate 2 false).set 0 true) } }, 0, by decide +kernel⟩,
   ⟨{}, 1, by decide +kernel⟩,
   ⟨{ pair := { up := ((Vector.replicate 2 false).set 0 true) } }, 0, by decide +kernel⟩,
   ⟨{}, 1, by decide +kernel⟩,
   ⟨{ tb := { now := 1220703 }, pair := { lastMsg := ((Vector.replicate 2 0).set 1 238418) } }, 0, by decide +kernel⟩,
   ⟨{ tb := { now := 1907348 }, pair := { partner := .holder } }, 0, by decide +kernel⟩,
   ⟨{}, by decide +kernel⟩,
   ⟨{ pair := { up := ((Vector.replicate 2 false).set 0 true) }, mod := { st := .standby } },
        { link := 0, seq := 10000000000000, errs := 20000000000 }, by decide +kernel⟩,
   ⟨{ pair := { up := ((Vector.replicate 2 false).set 0 true) }, lease := { holder := true, leaseEnd := 2 }, mod := { st := .active } },
        { link := 0, seq := 0, errs := 8 },
        { timeBase := 1000000, ptpOfs := (63), delay := 8, echo := (some (5, 100000000)), noLease := false, holder := false, epoch := 2708687667#32, leaseEnd := 8, round := 2000, duration := 5000, ident := 18446744073709551615#64, modState := 3, idleState := 5#4, runId := 268435456#256, idleId := 0#256 },
        5, 100000000, by decide +kernel⟩⟩

theorem test_met_LeasesAreRenewedAndEnd :
    (∃ (s : State), s.mod.st = ModState.off ∨ s.mod.st = ModState.boot ∨ s.tb.now < s.lease.roundAt) ∧
    (∃ (s : State), (s.mod.st ≠ ModState.off) ∧ (s.mod.st ≠ ModState.boot) ∧ (s.lease.roundAt ≤ s.tb.now)) ∧
    (∃ (s : State) (m : WitnessMsg) (r : Round), (holds s = true) ∧ (m.ident = Config.selfId) ∧ (m.epoch = s.lease.epoch) ∧
        (isWitness s m.link m.pos = true) ∧ (s.lease.rounds = [r]) ∧ (r.k % 2 ^ 32 = BitVec.toNat m.seq)) ∧
    (∃ (s : State) (m : WitnessMsg), holds s = false ∨ m.ident ≠ Config.selfId ∨ m.epoch ≠ s.lease.epoch ∨ isWitness s m.link m.pos = false) ∧
    (∃ (s : State), leaseOver s = false) ∧
    (∃ (s : State), leaseOver s = true) ∧
    (∃ (s : State), inRun s = false ∨ s.lease.holder = true ∨ s.lease.ended = true ∨ s.tb.now < min s.lease.hbEnd (s.lease.hbAt + s.lease.hbDur)) ∧
    (∃ (s : State), (inRun s = true) ∧ (s.lease.holder = false) ∧ (s.lease.ended = false) ∧
        (min s.lease.hbEnd (s.lease.hbAt + s.lease.hbDur) ≤ s.tb.now)) :=
  ⟨⟨{}, by decide +kernel⟩,
   ⟨{ mod := { st := .stopped } }, by decide +kernel⟩,
   ⟨{ img := { run := (some { stations := [{ link := 0, pos := 0, witness := true, errTask := none, vendor := 0#32, device := 0#32, inFirst := 0, inCount := 0, outFirst := 0, outCount := 0, param := (List.replicate 0 0) }] }) }, lease := { holder := true, leaseEnd := 1, rounds := [{ k := 0, sent := 0, acks := 0, quorum := false, from_ := [] }] } },
        { link := 0, pos := 0, epoch := 0#32, seq := 0#32, ident := Config.selfId, wait := 0#32, cause := 0#8 },
        { k := 0, sent := 0, acks := 0, quorum := false, from_ := [] }, by and_intros <;> rfl⟩,
   ⟨{}, { link := 0, pos := 1, epoch := 0#32, seq := 845090186#32, ident := 0#64, wait := 4294967295#32, cause := 255#8 }, by decide +kernel⟩,
   ⟨{}, by decide +kernel⟩,
   ⟨{ lease := { holder := true } }, by decide +kernel⟩,
   ⟨{}, by decide +kernel⟩,
   ⟨{ lease := { ended := false }, mod := { st := .standby } }, by decide +kernel⟩⟩

theorem test_met_ClaimsGainTheLease :
    (∃ (s : State), mayClaim s = false) ∧
    (∃ (s : State), (mayClaim s = true) ∧ (nextEpoch s < 2 ^ 32) ∧ (0 < witnesses s)) ∧
    (∃ (s : State), (mayClaim s = true) ∧ (nextEpoch s < 2 ^ 32) ∧ (witnesses s = 0)) ∧
    (∃ (s : State), (mayClaim s = true) ∧ (2 ^ 32 ≤ nextEpoch s)) ∧
    (∃ (s : State) (v : Via), (firstCopy v s = true) ∧ (holds s = true ∨ hasPrecedence s = true)) ∧
    (∃ (s : State) (v : Via), (firstCopy v s = true) ∧ (holds s = false) ∧ (hasPrecedence s = false)) ∧
    (∃ (s : State) (m : WitnessMsg) (c : Claim), (s.lease.claim = some c) ∧ (inRun s = true) ∧ (holds s = false) ∧ (mayLead s = true) ∧
        (m.ident = Config.selfId) ∧ (m.epoch = c.epoch) ∧ ((m.link, m.pos) ∉ c.grants) ∧ (isWitness s m.link m.pos = true) ∧
        (c.grants.length + 1 < quorum s)) ∧
    (∃ (s : State) (m : WitnessMsg) (c : Claim), (s.lease.claim = some c) ∧ (inRun s = true) ∧ (holds s = false) ∧ (mayLead s = true) ∧
        (m.ident = Config.selfId) ∧ (m.epoch = c.epoch) ∧ ((m.link, m.pos) ∉ c.grants) ∧ (isWitness s m.link m.pos = true) ∧
        (quorum s ≤ c.grants.length + 1)) ∧
    (∃ (s : State), s.lease.claim = none) ∧
    (∃ (s : State) (m : WitnessMsg) (c : Claim), (s.lease.claim = some c) ∧ (m.ident = Config.selfId) ∧ (m.seq = c.round) ∧ ((m.link,
        m.pos) ∉ c.denials) ∧ (isWitness s m.link m.pos = true)) :=
  ⟨⟨{}, by decide +kernel⟩,
   ⟨{ img := { run := (some { stations := [{ link := 0, pos := 0, witness := true, errTask := none, vendor := 0#32, device := 0#32, inFirst := 0, inCount := 0, outFirst := 0, outCount := 0, param := (List.replicate 0 0) }] }) }, mod := { st := .standby } },
        by decide +kernel⟩,
   ⟨{ mod := { st := .standby } }, by decide +kernel⟩,
   ⟨{ lease := { seenEpoch := ((Vector.replicate 24 0#32).set 0 4294967295#32) }, mod := { st := .standby } }, by decide +kernel⟩,
   ⟨{ pair := { up := ((Vector.replicate 2 false).set 1 true) }, lease := { announced := (some 0) }, mod := { st := .active } },
        { link := 1, seq := 10000000000000, errs := 1700 }, by decide +kernel⟩,
   ⟨{ pair := { up := ((Vector.replicate 2 false).set 1 true) }, mod := { st := .standby } }, { link := 1, seq := 10000000000000, errs := 8 },
        by decide +kernel⟩,
   ⟨{ img := { run := (some { stations := [{ link := 0, pos := 0, witness := true, errTask := none, vendor := 0#32, device := 0#32, inFirst := 0, inCount := 0, outFirst := 0, outCount := 0, param := (List.replicate 0 0) }, { link := 0, pos := 0, witness := true, errTask := none, vendor := 0#32, device := 0#32, inFirst := 0, inCount := 0, outFirst := 0, outCount := 0, param := (List.replicate 0 0) }] }) }, lease := { claim := (some { epoch := 0#32, round := 0#32, sent := 0, grants := [], denials := [], highest := 0#32, denied := 0, sends := [] }) }, mod := { st := .standby } },
        { link := 0, pos := 0, epoch := 0#32, seq := 0#32, ident := Config.selfId, wait := 0#32, cause := 0#8 },
        { epoch := 0#32, round := 0#32, sent := 0, grants := [], denials := [], highest := 0#32, denied := 0, sends := [] },
        by and_intros <;> first | rfl | decide +kernel⟩,
   ⟨{ img := { run := (some { stations := [{ link := 0, pos := 0, witness := true, errTask := none, vendor := 0#32, device := 0#32, inFirst := 0, inCount := 0, outFirst := 0, outCount := 0, param := (List.replicate 0 0) }] }) }, lease := { claim := (some { epoch := 0#32, round := 0#32, sent := 0, grants := [], denials := [], highest := 0#32, denied := 0, sends := [] }) }, mod := { st := .standby } },
        { link := 0, pos := 0, epoch := 0#32, seq := 0#32, ident := Config.selfId, wait := 0#32, cause := 0#8 },
        { epoch := 0#32, round := 0#32, sent := 0, grants := [], denials := [], highest := 0#32, denied := 0, sends := [] },
        by and_intros <;> first | rfl | decide +kernel⟩,
   ⟨{}, by decide +kernel⟩,
   ⟨{ img := { run := (some { stations := [{ link := 1, pos := 0, witness := true, errTask := none, vendor := 0#32, device := 0#32, inFirst := 0, inCount := 0, outFirst := 0, outCount := 0, param := (List.replicate 0 0) }] }) }, lease := { claim := (some { epoch := 0#32, round := 0#32, sent := 0, grants := [], denials := [], highest := 0#32, denied := 0, sends := [] }) } },
        { link := 1, pos := 0, epoch := 0#32, seq := 0#32, ident := Config.selfId, wait := 4#32, cause := 4#8 },
        { epoch := 0#32, round := 0#32, sent := 0, grants := [], denials := [], highest := 0#32, denied := 0, sends := [] },
        by and_intros <;> first | rfl | decide +kernel⟩⟩

theorem test_met_RolesAreSwapped :
    (∃ (s : State) (se : Fin 64), (admitted regPair se s = true) ∧ (swapRuns s = true)) ∧
    (∃ (s : State) (se : Fin 64), (admitted regPair se s = true) ∧ (swapRuns s = false) ∧ (holds s = false)) ∧
    (∃ (s : State) (se : Fin 64) (c : ℕ), (admitted regPair se s = true) ∧ (swapRuns s = false) ∧ (holds s = true) ∧ (swapUnmet s = some c)) ∧
    (∃ (s : State) (se : Fin 64), (admitted regPair se s = true) ∧ (swapRuns s = false) ∧ (holds s = true) ∧ (swapUnmet s = none)) ∧
    (∃ (s : State), holds s = false ∨ nextSwap s = 0 ∨ s.tb.now < nextSwap s ∨ swapRuns s = true) ∧
    (∃ (s : State) (c : ℕ), (holds s = true) ∧ (nextSwap s ≠ 0) ∧ (nextSwap s ≤ s.tb.now) ∧ (swapRuns s = false) ∧ (swapUnmet s = some c)) ∧
    (∃ (s : State), (holds s = true) ∧ (nextSwap s ≠ 0) ∧ (nextSwap s ≤ s.tb.now) ∧ (swapRuns s = false) ∧ (swapUnmet s = none)) ∧
    (∃ (s : State), s.lease.swap = none) ∧
    (∃ (s : State) (q : SwitchReq), (s.lease.swap = some q) ∧ (q.phase = SwitchPhase.candidate) ∧ (s.tb.now < q.r)) ∧
    (∃ (s : State) (q : SwitchReq), (s.lease.swap = some q) ∧ (q.phase = SwitchPhase.candidate) ∧ (q.r ≤ s.tb.now) ∧ (partnerPresent s = true) ∧
        (q.partnerReady = some true) ∧ (ready q.r s = true) ∧ (s.tb.now ≤ q.r + 10000) ∧ (holds s = true) ∧ (saddleOpen s = true) ∧
        (s.mod.st = ModState.active)) ∧
    (∃ (s : State) (q : SwitchReq), (s.lease.swap = some q) ∧ (q.phase = SwitchPhase.candidate) ∧ (q.r ≤ s.tb.now) ∧ (partnerPresent s = true) ∧
        (q.partnerReady = none) ∧ (ready q.r s = true) ∧ (s.tb.now ≤ q.r + 10000)) ∧
    (∃ (s : State) (v : Via) (epoch : BitVec 32) (successor : W64), (firstCopy v s = true) ∧ (successor ≠ Config.selfId ∨ inRun s = false ∨
        holds s = true ∨ epoch = BitVec.allOnes 32)) ∧
    (∃ (s : State) (v : Via) (epoch : BitVec 32), (firstCopy v s = true) ∧ (inRun s = true) ∧ (holds s = false) ∧ (epoch ≠ BitVec.allOnes 32) ∧
        (∀ (c : Claim), s.lease.claim = some c → c.epoch ≠ epoch + 1) ∧ (mayLead s = true)) ∧
    (∃ (s : State) (v : Via), (firstCopy v s = true) ∧ (s.lease.swapPhase ≠ some SwapPhase.successor)) ∧
    (∃ (s : State) (v : Via), (firstCopy v s = true) ∧ (s.lease.swapPhase = some SwapPhase.successor)) ∧
    (∃ (s : State) (w : W64), (s.lease.swapPhase = some (SwapPhase.yielded w)) ∧ (s.tb.now < s.lease.swapAt + 150000)) ∧
    (∃ (s : State) (w : W64), (s.lease.swapPhase = some (SwapPhase.yielded w)) ∧ (s.lease.swapAt + 150000 ≤ s.tb.now) ∧
        (BitVec.toNat s.lease.epoch + 2 < 2 ^ 32) ∧ (s.mod.after = none) ∧ (mayLead s = true)) :=
  ⟨⟨{ lease := { swapPhase := (some .reclaiming) }, ses := { tab := ((Vector.replicate 64 {}).set 0 { st := .open_, classes := 16383#14 }) } }, 0,
        by decide +kernel⟩,
   ⟨{ ses := { tab := ((Vector.replicate 64 {}).set 0 { st := .open_, classes := 16383#14 }) } }, 0, by decide +kernel⟩,
   ⟨{ lease := { holder := true, leaseEnd := 2 }, ses := { tab := ((Vector.replicate 64 {}).set 0 { st := .open_, classes := 16383#14 }) } }, 0, 0,
        by decide +kernel⟩,
   ⟨{ pair := { partner := .without, partnerState := 5 }, lease := { holder := true, leaseEnd := 2 }, mir := { pHealth := 1#32, pReported := true }, ses := { tab := ((Vector.replicate 64 {}).set 0 { st := .open_, classes := 16383#14 }) } },
        0, by decide +kernel⟩,
   ⟨{}, by decide +kernel⟩,
   ⟨{ tb := { now := 2592000000000000 }, lease := { holder := true, leaseEnd := 5000000000000000 } }, 0, by decide +kernel⟩,
   ⟨{ tb := { now := 2592000000000000 }, pair := { partner := .without, partnerState := 5 }, lease := { holder := true, leaseEnd := 5000000000000000 }, mir := { pHealth := 1#32, pReported := true } },
        by decide +kernel⟩,
   ⟨{}, by decide +kernel⟩,
   ⟨{ lease := { swap := (some { asker := none, tag := 0#32, phase := .candidate, start := 0, attempts := 0, r := 2, ownReady := false, partnerReady := none, windowEnd := 0, granules := 0, touched := [], forcesDropped := 0, varsDropped := 0 }) } },
        { asker := none, tag := 0#32, phase := .candidate, start := 0, attempts := 0, r := 2, ownReady := false, partnerReady := none, windowEnd := 0, granules := 0, touched := [], forcesDropped := 0, varsDropped := 0 },
        by decide +kernel⟩,
   ⟨{ pair := { up := ((Vector.replicate 2 false).set 1 true), partner := .without }, lease := { holder := true, leaseEnd := 1, swap := (some { asker := none, tag := 0#32, phase := .candidate, start := 0, attempts := 0, r := 0, ownReady := false, partnerReady := (some true), windowEnd := 0, granules := 0, touched := [], forcesDropped := 0, varsDropped := 0 }) }, mod := { st := .active } },
        { asker := none, tag := 0#32, phase := .candidate, start := 0, attempts := 0, r := 0, ownReady := false, partnerReady := (some true), windowEnd := 0, granules := 0, touched := [], forcesDropped := 0, varsDropped := 0 },
        by decide +kernel⟩,
   ⟨{ pair := { partner := .without }, lease := { swap := (some { asker := none, tag := 0#32, phase := .candidate, start := 0, attempts := 0, r := 0, ownReady := false, partnerReady := none, windowEnd := 0, granules := 0, touched := [], forcesDropped := 0, varsDropped := 0 }) } },
        { asker := none, tag := 0#32, phase := .candidate, start := 0, attempts := 0, r := 0, ownReady := false, partnerReady := none, windowEnd := 0, granules := 0, touched := [], forcesDropped := 0, varsDropped := 0 },
        by decide +kernel⟩,
   ⟨{ mod := { st := .config }, pair := { up := Vector.replicate 2 true } }, ⟨0, 1, 0⟩, 0, 0, by decide +kernel, .inr (.inl (by decide))⟩,
   ⟨{ pair := { up := ((Vector.replicate 2 false).set 1 true) }, mod := { st := .unchecked } }, { link := 1, seq := 10000000000000, errs := 15 },
        2097152#32, by decide +kernel⟩,
   ⟨{ pair := { up := ((Vector.replicate 2 false).set 1 true) }, mod := { st := .active } }, { link := 1, seq := 10000000000000, errs := 1 },
        by decide +kernel⟩,
   ⟨{ pair := { up := ((Vector.replicate 2 false).set 0 true) }, lease := { swapPhase := (some .successor) }, mod := { st := .active } },
        { link := 0, seq := 10000000000000, errs := 16 }, by decide +kernel⟩,
   ⟨{ lease := { swapPhase := (some (SwapPhase.yielded 0#64)) } }, 0#64, by decide +kernel⟩,
   ⟨{ tb := { now := 238418 }, lease := { swapPhase := (some (SwapPhase.yielded 0#64)) } }, 0#64, by decide +kernel⟩⟩

theorem test_met_MirrorsAreCompletedAndConfirmed :
    (∃ (s : State) (se : Fin 64), (admitted regPair se s = true) ∧ (s.lease.resync ≠ none)) ∧
    (∃ (s : State) (se : Fin 64), (admitted regPair se s = true) ∧ (s.lease.resync = none) ∧ (holds s = false ∨ partnerStandby s = false)) ∧
    (∃ (s : State) (se : Fin 64), (admitted regPair se s = true) ∧ (s.lease.resync = none) ∧ (holds s = true) ∧ (partnerStandby s = true)) ∧
    (∃ (s : State), s.lease.resync = none) ∧
    (∃ (s : State) (t0 : ℕ), s.lease.resync = some t0) ∧
    (∃ (s : State) (v : Via) (id : ℕ), (firstCopy v s = true) ∧ (id ≠ fullMirrorId)) ∧
    (∃ (s : State) (v : Via), (firstCopy v s = true) ∧ (holds s = true) ∧ (partnerPresent s = true) ∧ (s.pair.partnerState = 4) ∧
        (saddleOpen s = true)) ∧
    (∃ (s : State) (v : Via), (firstCopy v s = true) ∧ (holds s = false ∨ partnerPresent s = false ∨ s.pair.partnerState ≠ 4)) :=
  ⟨⟨{ lease := { resync := (some 0) }, ses := { tab := ((Vector.replicate 64 {}).set 0 { st := .open_, classes := 16383#14 }) } }, 0,
        by decide +kernel⟩,
   ⟨{ ses := { tab := ((Vector.replicate 64 {}).set 0 { st := .open_, classes := 16383#14 }) } }, 0, by decide +kernel⟩,
   ⟨{ pair := { partner := .without, partnerState := 5 }, lease := { holder := true, leaseEnd := 2 }, ses := { tab := ((Vector.replicate 64 {}).set 0 { st := .open_, classes := 16383#14 }) } },
        0, by decide +kernel⟩,
   ⟨{}, by decide +kernel⟩,
   ⟨{ lease := { resync := (some 0) } }, 0, by decide +kernel⟩,
   ⟨{ pair := { up := ((Vector.replicate 2 false).set 1 true) }, mod := { st := .active } }, { link := 1, seq := 10000000000000, errs := 1700 },
        100000000, by decide +kernel⟩,
   ⟨{ pair := { up := ((Vector.replicate 2 false).set 0 true), partner := .holder, partnerState := 4 }, lease := { holder := true, leaseEnd := 2 }, mod := { st := .active } },
        { link := 0, seq := 10000000000000, errs := 64 }, by decide +kernel⟩,
   ⟨{ pair := { up := ((Vector.replicate 2 false).set 1 true) }, mod := { st := .active } }, { link := 1, seq := 10000000000000, errs := 1 },
        by decide +kernel⟩⟩

theorem test_met_ReadsAreServedOrRefusedWhole :
    (∃ (s : State), (s.mod.st ≠ ModState.failed) ∧ (s.lsk.stopped = false)) ∧
    (∃ (s : State) (se : Fin 64), sesOpen s se = false) ∧
    (∃ (s : State) (se : Fin 64), (sesOpen s se = true) ∧ (tooMany s se = true)) ∧
    (∃ (s : State) (se : Fin 64) (a : W32) (len : W32), (sesOpen s se = true) ∧ (tooMany s se = false) ∧ (BitVec.toNat a % 4 ≠ 0 ∨
        BitVec.toNat len % 4 ≠ 0 ∨ BitVec.toNat len = 0)) ∧
    (∃ (s : State) (se : Fin 64) (a : W32) (len : W32), (sesOpen s se = true) ∧ (tooMany s se = false) ∧ (BitVec.toNat a % 4 = 0) ∧
        (BitVec.toNat len % 4 = 0) ∧ (65536 < BitVec.toNat len)) ∧
    (∃ (s : State) (se : Fin 64) (a : W32) (len : W32) (b : ℕ), (sesOpen s se = true) ∧ (tooMany s se = false) ∧ (BitVec.toNat a % 4 = 0) ∧
        (BitVec.toNat len % 4 = 0) ∧ (0 < BitVec.toNat len) ∧ (BitVec.toNat len ≤ 65536) ∧
        (hostRange (BitVec.toNat a) (BitVec.toNat len) = HostRange.unmapped b)) ∧
    (∃ (s : State) (se : Fin 64) (a : W32) (len : W32), (sesOpen s se = true) ∧ (tooMany s se = false) ∧ (BitVec.toNat a % 4 = 0) ∧
        (BitVec.toNat len % 4 = 0) ∧ (0 < BitVec.toNat len) ∧ (BitVec.toNat len ≤ 65536) ∧
        (hostRange (BitVec.toNat a) (BitVec.toNat len) = HostRange.registers) ∧ (len = 4)) ∧
    (∃ (s : State) (se : Fin 64) (a : W32) (len : W32), (sesOpen s se = true) ∧ (tooMany s se = false) ∧ (BitVec.toNat a % 4 = 0) ∧
        (BitVec.toNat len % 4 = 0) ∧ (0 < BitVec.toNat len) ∧ (BitVec.toNat len ≤ 65536) ∧
        (hostRange (BitVec.toNat a) (BitVec.toNat len) = HostRange.images ∨ hostRange (BitVec.toNat a) (BitVec.toNat len) = HostRange.variables) ∧
        (isDown s = true)) ∧
    (∃ (s : State) (se : Fin 64) (a : W32) (len : W32), (sesOpen s se = true) ∧ (tooMany s se = false) ∧ (BitVec.toNat a % 4 = 0) ∧
        (BitVec.toNat len % 4 = 0) ∧ (0 < BitVec.toNat len) ∧ (BitVec.toNat len ≤ 65536) ∧
        (hostRange (BitVec.toNat a) (BitVec.toNat len) = HostRange.images ∨ hostRange (BitVec.toNat a) (BitVec.toNat len) = HostRange.variables) ∧
        (isDown s = false) ∧ (windowOpen s = true)) ∧
    (∃ (s : State) (se : Fin 64) (a : W32) (len : W32) (b : ℕ) (c : ℕ), (sesOpen s se = true) ∧ (tooMany s se = false) ∧ (BitVec.toNat a % 4 = 0) ∧
        (BitVec.toNat len % 4 = 0) ∧ (0 < BitVec.toNat len) ∧ (BitVec.toNat len ≤ 65536) ∧
        (hostRange (BitVec.toNat a) (BitVec.toNat len) = HostRange.images ∨ hostRange (BitVec.toNat a) (BitVec.toNat len) = HostRange.variables) ∧
        (isDown s = false) ∧ (windowOpen s = false) ∧ (s.ses.tab[se].rdDrop = s.ses.tab[se].rdDropUsed) ∧
        (s.ses.tab[se].wrDrop = s.ses.tab[se].wrDropUsed) ∧ (firstRefused (effRead s.ses.tab[se]) (BitVec.toNat a) (BitVec.toNat len) s = some (b,
        c))) ∧
    (∃ (s : State) (se : Fin 64) (a : W32) (len : W32), (sesOpen s se = true) ∧ (tooMany s se = false) ∧ (BitVec.toNat a % 4 = 0) ∧
        (BitVec.toNat len % 4 = 0) ∧ (0 < BitVec.toNat len) ∧ (BitVec.toNat len ≤ 65536) ∧
        (hostRange (BitVec.toNat a) (BitVec.toNat len) = HostRange.images ∨ hostRange (BitVec.toNat a) (BitVec.toNat len) = HostRange.variables) ∧
        (isDown s = false) ∧ (windowOpen s = false) ∧ (s.ses.tab[se].rdDrop = s.ses.tab[se].rdDropUsed) ∧
        (s.ses.tab[se].wrDrop = s.ses.tab[se].wrDropUsed) ∧ (firstRefused (effRead s.ses.tab[se]) (BitVec.toNat a) (BitVec.toNat len) s = none) ∧
        (readWaits s se (BitVec.toNat a) (BitVec.toNat len) = false)) ∧
    (∃ (s : State) (se : Fin 64) (a : W32) (len : W32), (sesOpen s se = true) ∧ (tooMany s se = false) ∧ (BitVec.toNat a % 4 = 0) ∧
        (BitVec.toNat len % 4 = 0) ∧ (0 < BitVec.toNat len) ∧ (BitVec.toNat len ≤ 65536) ∧
        (hostRange (BitVec.toNat a) (BitVec.toNat len) = HostRange.images ∨ hostRange (BitVec.toNat a) (BitVec.toNat len) = HostRange.variables) ∧
        (isDown s = false) ∧ (windowOpen s = false) ∧ (s.ses.tab[se].rdDrop = s.ses.tab[se].rdDropUsed) ∧
        (s.ses.tab[se].wrDrop = s.ses.tab[se].wrDropUsed) ∧ (firstRefused (effRead s.ses.tab[se]) (BitVec.toNat a) (BitVec.toNat len) s = none) ∧
        (readWaits s se (BitVec.toNat a) (BitVec.toNat len) = true)) :=
  ⟨⟨{}, by decide +kernel⟩,
   ⟨{}, 0, by decide +kernel⟩,
   ⟨{ ses := { tab := ((Vector.replicate 64 {}).set 0 { st := .open_, fences := [{ tag := 0#32, before := 0, writes := 0, bad := 0, status := 0, addr := 0#32 }, { tag := 0#32, before := 0, writes := 0, bad := 0, status := 0, addr := 0#32 }, { tag := 0#32, before := 0, writes := 0, bad := 0, status := 0, addr := 0#32 }, { tag := 0#32, before := 0, writes := 0, bad := 0, status := 0, addr := 0#32 }, { tag := 0#32, before := 0, writes := 0, bad := 0, status := 0, addr := 0#32 }, { tag := 0#32, before := 0, writes := 0, bad := 0, status := 0, addr := 0#32 }, { tag := 0#32, before := 0, writes := 0, bad := 0, status := 0, addr := 0#32 }, { tag := 0#32, before := 0, writes := 0, bad := 0, status := 0, addr := 0#32 }, { tag := 0#32, before := 0, writes := 0, bad := 0, status := 0, addr := 0#32 }, { tag := 0#32, before := 0, writes := 0, bad := 0, status := 0, addr := 0#32 }, { tag := 0#32, before := 0, writes := 0, bad := 0, status := 0, addr := 0#32 }, { tag := 0#32, before := 0, writes := 0, bad := 0, status := 0, addr := 0#32 }, { tag := 0#32, before := 0, writes := 0, bad := 0, status := 0, addr := 0#32 }, { tag := 0#32, before := 0, writes := 0, bad := 0, status := 0, addr := 0#32 }, { tag := 0#32, before := 0, writes := 0, bad := 0, status := 0, addr := 0#32 }, { tag := 0#32, before := 0, writes := 0, bad := 0, status := 0, addr := 0#32 }, { tag := 0#32, before := 0, writes := 0, bad := 0, status := 0, addr := 0#32 }, { tag := 0#32, before := 0, writes := 0, bad := 0, status := 0, addr := 0#32 }, { tag := 0#32, before := 0, writes := 0, bad := 0, status := 0, addr := 0#32 }, { tag := 0#32, before := 0, writes := 0, bad := 0, status := 0, addr := 0#32 }, { tag := 0#32, before := 0, writes := 0, bad := 0, status := 0, addr := 0#32 }, { tag := 0#32, before := 0, writes := 0, bad := 0, status := 0, addr := 0#32 }, { tag := 0#32, before := 0, writes := 0, bad := 0, status := 0, addr := 0#32 }, { tag := 0#32, before := 0, writes := 0, bad := 0, status := 0, addr := 0#32 }, { tag := 0#32, before := 0, writes := 0, bad := 0, status := 0, addr := 0#32 }, { tag := 0#32, before := 0, writes := 0, bad := 0, status := 0, addr := 0#32 }, { tag := 0#32, before := 0, writes := 0, bad := 0, status := 0, addr := 0#32 }, { tag := 0#32, before := 0, writes := 0, bad := 0, status := 0, addr := 0#32 }, { tag := 0#32, before := 0, writes := 0, bad := 0, status := 0, addr := 0#32 }, { tag := 0#32, before := 0, writes := 0, bad := 0, status := 0, addr := 0#32 }, { tag := 0#32, before := 0, writes := 0, bad := 0, status := 0, addr := 0#32 }, { tag := 0#32, before := 0, writes := 0, bad := 0, status := 0, addr := 0#32 }, { tag := 0#32, before := 0, writes := 0, bad := 0, status := 0, addr := 0#32 }, { tag := 0#32, before := 0, writes := 0, bad := 0, status := 0, addr := 0#32 }, { tag := 0#32, before := 0, writes := 0, bad := 0, status := 0, addr := 0#32 }, { tag := 0#32, before := 0, writes := 0, bad := 0, status := 0, addr := 0#32 }, { tag := 0#32, before := 0, writes := 0, bad := 0, status := 0, addr := 0#32 }, { tag := 0#32, before := 0, writes := 0, bad := 0, status := 0, addr := 0#32 }, { tag := 0#32, before := 0, writes := 0, bad := 0, status := 0, addr := 0#32 }, { tag := 0#32, before := 0, writes := 0, bad := 0, status := 0, addr := 0#32 }, { tag := 0#32, before := 0, writes := 0, bad := 0, status := 0, addr := 0#32 }, { tag := 0#32, before := 0, writes := 0, bad := 0, status := 0, addr := 0#32 }, { tag := 0#32, before := 0, writes := 0, bad := 0, status := 0, addr := 0#32 }, { tag := 0#32, before := 0, writes := 0, bad := 0, status := 0, addr := 0#32 }, { tag := 0#32, before := 0, writes := 0, bad := 0, status := 0, addr := 0#32 }, { tag := 0#32, before := 0, writes := 0, bad := 0, status := 0, addr := 0#32 }, { tag := 0#32, before := 0, writes := 0, bad := 0, status := 0, addr := 0#32 }, { tag := 0#32, before := 0, writes := 0, bad := 0, status := 0, addr := 0#32 }, { tag := 0#32, before := 0, writes := 0, bad := 0, status := 0, addr := 0#32 }, { tag := 0#32, before := 0, writes := 0, bad := 0, status := 0, addr := 0#32 }, { tag := 0#32, before := 0, writes := 0, bad := 0, status := 0, addr := 0#32 }, { tag := 0#32, before := 0, writes := 0, bad := 0, status := 0, addr := 0#32 }, { tag := 0#32, before := 0, writes := 0, bad := 0, status := 0, addr := 0#32 }, { tag := 0#32, before := 0, writes := 0, bad := 0, status := 0, addr := 0#32 }, { tag := 0#32, before := 0, writes := 0, bad := 0, status := 0, addr := 0#32 }, { tag := 0#32, before := 0, writes := 0, bad := 0, status := 0, addr := 0#32 }, { tag := 0#32, before := 0, writes := 0, bad := 0, status := 0, addr := 0#32 }, { tag := 0#32, before := 0, writes := 0, bad := 0, status := 0, addr := 0#32 }, { tag := 0#32, before := 0, writes := 0, bad := 0, status := 0, addr := 0#32 }, { tag := 0#32, before := 0, writes := 0, bad := 0, status := 0, addr := 0#32 }, { tag := 0#32, before := 0, writes := 0, bad := 0, status := 0, addr := 0#32 }, { tag := 0#32, before := 0, writes := 0, bad := 0, status := 0, addr := 0#32 }, { tag := 0#32, before := 0, writes := 0, bad := 0, status := 0, addr := 0#32 }, { tag := 0#32, before := 0, writes := 0, bad := 0, status := 0, addr := 0#32 }] }) } },
        0, by decide +kernel⟩,
   ⟨{ ses := { tab := ((Vector.replicate 64 {}).set 0 { st := .open_ }) } }, 0, 1048576#32, 4294967295#32, by decide +kernel⟩,
   ⟨{ ses := { tab := ((Vector.replicate 64 {}).set 0 { st := .open_ }) } }, 0, 268435472#32, 268435472#32, by decide +kernel⟩,
   ⟨{ ses := { tab := ((Vector.replicate 64 {}).set 0 { st := .open_ }) } }, 0, 1595802944#32, 4#32, 1595802944, by decide +kernel⟩,
   ⟨{ ses := { tab := ((Vector.replicate 64 {}).set 0 { st := .open_ }) } }, 0, 0#32, 4#32, by decide +kernel⟩,
   ⟨{ ses := { tab := ((Vector.replicate 64 {}).set 0 { st := .open_ }) }, mod := { st := .failed } }, 0, 268435456#32, 9228#32, by decide +kernel⟩,
   ⟨{ tsk := { switch := (some { asker := none, tag := 0#32, phase := .window, start := 0, attempts := 0, r := 0, ownReady := false, partnerReady := none, windowEnd := 0, granules := 0, touched := [], forcesDropped := 0, varsDropped := 0 }) }, ses := { tab := ((Vector.replicate 64 {}).set 0 { st := .open_ }) } },
        0, 268435456#32, 9228#32, by decide +kernel⟩,
   ⟨{ ses := { tab := ((((Vector.replicate 64 {}).set 0 { st := .open_, wrDrop := 65535#16, wrDropUsed := 65535#16 }).set 12 { fenceAddr := 1#32, caps := [(100000, 4294967295#32)] }).set 23 { violInfo := 9228#32, fenceBad := 5000000000 }) } },
        0, 268435472#32, 9228#32, 268435472, 0, by decide +kernel⟩,
   ⟨{ ses := { tab := ((Vector.replicate 64 {}).set 0 { st := .open_, readMask := 29133#16, wrDrop := 65535#16, wrDropUsed := 65535#16 }) } }, 0,
        268435456#32, 7236#32, by decide +kernel⟩,
   ⟨{ ses := { tab := ((Vector.replicate 64 {}).set 0 { st := .open_, readMask := 65535#16 }), relayed := [{ id := 0, se := 0, reg := none, typ := 17, tag := none, addr := 268435456, len := 2, done := false }] } },
        0, 268435456#32, 7236#32, by decide +kernel⟩⟩

theorem test_met_WritesTakeEffectWholeOrNotAtAll :
    (∃ (s : State) (se : Fin 64) (b : ℕ), (sesOpen s se = true) ∧ (regionOf (reportAddr b) = Region18.session se)) ∧
    (∃ (s : State) (se : Fin 64), sesOpen s se = false) ∧
    (∃ (s : State) (se : Fin 64) (ack : Bool) (a : W32) (data : List Byte) (r : Refuse), (sesOpen s se = true) ∧ (ack = true ∧ tooMany s se = true ∧
        r = { status := 7, kind := 0, addr := BitVec.toNat a, colour := 0 } ∨ (ack = true → tooMany s se = false) ∧
        (misaligned (BitVec.toNat a) data.length = true ∧ r = { status := 3, kind := 0, addr := BitVec.toNat a, colour := 0 } ∨
        misaligned (BitVec.toNat a) data.length = false ∧ (65536 < data.length ∧ r = { status := 4, kind := 0, addr := BitVec.toNat a, colour := 0 } ∨
        data.length ≤ 65536 ∧ hostRange (BitVec.toNat a) data.length ≠ HostRange.registers ∧ (isDown s = true ∧
        r = { status := 5, kind := 0, addr := BitVec.toNat a, colour := 0 } ∨ isDown s = false ∧ ((∃ (b : ℕ),
        hostRange (BitVec.toNat a) data.length = HostRange.unmapped b ∧ varBase ≤ BitVec.toNat a ∧
        r = { status := 2, kind := 4, addr := lowestBad (effWrite s.ses.tab[se]) (BitVec.toNat a) b s, colour := 0 }) ∨ (∃ (b : ℕ),
        hostRange (BitVec.toNat a) data.length = HostRange.unmapped b ∧ BitVec.toNat a < inputBase ∧
        r = { status := 2, kind := 4, addr := b, colour := 0 }) ∨ (∃ (g : ℕ), hostRange (BitVec.toNat a) data.length = HostRange.images ∧
        windowOpen s = false ∧ granuleOf (BitVec.toNat a) = some g ∧
        r = { status := 1, kind := 5, addr := BitVec.toNat a, colour := (colourOf s g).toNat }) ∨
        hostRange (BitVec.toNat a) data.length = HostRange.variables ∧ windowOpen s = false ∧ s.ses.tab[se].rdDrop = s.ses.tab[se].rdDropUsed ∧
        s.ses.tab[se].wrDrop = s.ses.tab[se].wrDropUsed ∧ writeRefused (effWrite s.ses.tab[se]) (BitVec.toNat a) data.length s = some r)))))) ∧
    (∃ (s : State) (se : Fin 64) (ack : Bool) (a : W32) (data : List Byte) (r : Refuse), (sesOpen s se = true) ∧ (ack = true → tooMany s se = false) ∧
        (misaligned (BitVec.toNat a) data.length = false) ∧ (data.length ≤ 65536) ∧ (hostRange (BitVec.toNat a) data.length = HostRange.registers) ∧
        (List.findSome? (fun (p : ℕ × W32) => regRefused p.1 se s) (regPairs (BitVec.toNat a) data) = some r)) ∧
    (∃ (s : State) (se : Fin 64) (ack : Bool) (a : W32) (data : List Byte), (sesOpen s se = true) ∧ (ack = true → tooMany s se = false) ∧
        (misaligned (BitVec.toNat a) data.length = false) ∧ (data.length ≤ 65536) ∧ (hostRange (BitVec.toNat a) data.length = HostRange.registers) ∧
        (ack = false) ∧ (List.findSome? (fun (p : ℕ × W32) => regRefused p.1 se s) (regPairs (BitVec.toNat a) data) = none)) ∧
    (∃ (s : State) (se : Fin 64) (ack : Bool) (a : W32) (data : List Byte), (sesOpen s se = true) ∧ (ack = true → tooMany s se = false) ∧
        (misaligned (BitVec.toNat a) data.length = false) ∧ (data.length ≤ 65536) ∧ (hostRange (BitVec.toNat a) data.length = HostRange.images) ∧
        (isDown s = false) ∧ (windowOpen s = true)) ∧
    (∃ (s : State) (se : Fin 64) (ack : Bool) (a : W32) (data : List Byte), (sesOpen s se = true) ∧ (ack = true → tooMany s se = false) ∧
        (misaligned (BitVec.toNat a) data.length = false) ∧ (data.length ≤ 65536) ∧ (hostRange (BitVec.toNat a) data.length = HostRange.variables) ∧
        (isDown s = false) ∧ (s.ses.tab[se].rdDrop = s.ses.tab[se].rdDropUsed) ∧ (s.ses.tab[se].wrDrop = s.ses.tab[se].wrDropUsed) ∧
        (windowOpen s = true)) ∧
    (∃ (s : State) (se : Fin 64) (ack : Bool) (a : W32) (data : List Byte), (sesOpen s se = true) ∧ (ack = true → tooMany s se = false) ∧
        (misaligned (BitVec.toNat a) data.length = false) ∧ (data.length ≤ 65536) ∧ (hostRange (BitVec.toNat a) data.length = HostRange.variables) ∧
        (isDown s = false) ∧ (s.ses.tab[se].rdDrop = s.ses.tab[se].rdDropUsed) ∧ (s.ses.tab[se].wrDrop = s.ses.tab[se].wrDropUsed) ∧
        (windowOpen s = false) ∧ (writeRefused (effWrite s.ses.tab[se]) (BitVec.toNat a) data.length s = none) ∧ (holds s = true)) ∧
    (∃ (s : State) (se : Fin 64) (ack : Bool) (a : W32) (data : List Byte), (sesOpen s se = true) ∧ (ack = true → tooMany s se = false) ∧
        (misaligned (BitVec.toNat a) data.length = false) ∧ (data.length ≤ 65536) ∧ (hostRange (BitVec.toNat a) data.length = HostRange.variables) ∧
        (isDown s = false) ∧ (s.ses.tab[se].rdDrop = s.ses.tab[se].rdDropUsed) ∧ (s.ses.tab[se].wrDrop = s.ses.tab[se].wrDropUsed) ∧
        (windowOpen s = false) ∧ (writeRefused (effWrite s.ses.tab[se]) (BitVec.toNat a) data.length s = none) ∧ (holds s = false) ∧
        (inRun s = true) ∧ (holderReachable s = true) ∧ (saddleOpen s = true)) ∧
    (∃ (s : State) (se : Fin 64) (ack : Bool) (a : W32) (data : List Byte), (sesOpen s se = true) ∧ (ack = true → tooMany s se = false) ∧
        (misaligned (BitVec.toNat a) data.length = false) ∧ (data.length ≤ 65536) ∧ (hostRange (BitVec.toNat a) data.length = HostRange.variables) ∧
        (isDown s = false) ∧ (s.ses.tab[se].rdDrop = s.ses.tab[se].rdDropUsed) ∧ (s.ses.tab[se].wrDrop = s.ses.tab[se].wrDropUsed) ∧
        (windowOpen s = false) ∧ (writeRefused (effWrite s.ses.tab[se]) (BitVec.toNat a) data.length s = none) ∧ (holds s = false) ∧
        (inRun s = false ∨ holderReachable s = false)) :=
  ⟨⟨alone, 0, (0x100000000 + 1282 * 0x100000), by decide +kernel⟩,
   ⟨{}, 0, by decide +kernel⟩,
   ⟨alone, 0, false, 1, [], ⟨3, 0, 1, 0⟩, by decide +kernel, .inr ⟨by decide, .inl ⟨by decide, rfl⟩⟩⟩,
   ⟨{ outside with ses := { tab := (Vector.replicate 64 {}).set 0 { st := .open_ } } }, 0, false, 0x088C, [0, 0, 0, 0], ⟨1, 3, 0x088C, 0⟩,
        by decide +kernel, by decide, by decide, by decide, by decide +kernel, rfl⟩,
   ⟨{ ses := { tab := ((Vector.replicate 64 {}).set 0 { st := .open_, classes := 16383#14 }) } }, 0, false, 7236#32, (List.replicate 48 1),
        by decide +kernel⟩,
   ⟨{ tsk := { switch := (some { asker := none, tag := 0#32, phase := .window, start := 0, attempts := 0, r := 0, ownReady := false, partnerReady := none, windowEnd := 0, granules := 0, touched := [], forcesDropped := 0, varsDropped := 0 }) }, ses := { tab := ((Vector.replicate 64 {}).set 0 { st := .open_ }) } },
        0, false, 2097152#32, (List.replicate 48 65), by decide +kernel⟩,
   ⟨{ tsk := { switch := (some { asker := none, tag := 0#32, phase := .window, start := 0, attempts := 0, r := 0, ownReady := false, partnerReady := none, windowEnd := 0, granules := 0, touched := [], forcesDropped := 0, varsDropped := 0 }) }, ses := { tab := ((Vector.replicate 64 {}).set 0 { st := .open_, wrDrop := 65535#16, wrDropUsed := 65535#16 }) } },
        0, false, 268435472#32, (List.replicate 4 255), by decide +kernel⟩,
   ⟨{ lease := { holder := true, leaseEnd := 1 }, ses := { tab := ((((Vector.replicate 64 {}).set 0 { st := .open_, writeMask := 1#16, rdDrop := 65535#16, rdDropUsed := 65535#16 }).set 12 { caps := [(2200, 821909141#32)] }).set 23 { violInfo := 1#32 }) } },
        0, false, 268435456#32, (List.replicate 48 0), by decide +kernel⟩,
   ⟨{ pair := { up := ((Vector.replicate 2 false).set 1 true), partner := .holder }, lease := { hbNoLease := false }, ses := { tab := ((Vector.replicate 64 {}).set 0 { st := .open_, writeMask := 65535#16 }) }, mod := { st := .standby } },
        0, false, 268435456#32, [76#8, 88#8, 75#8, 49#8, 0#8, 1#8, 0#8, 0#8, 7#8, 7#8, 7#8, 7#8, 7#8, 7#8, 7#8, 7#8, 7#8, 7#8, 7#8, 7#8, 7#8, 7#8,
        7#8, 7#8, 7#8, 7#8, 7#8, 7#8, 7#8, 7#8, 7#8, 7#8, 7#8, 7#8, 7#8, 7#8, 7#8, 7#8, 7#8, 7#8], by decide +kernel⟩,
   ⟨{ ses := { tab := ((((Vector.replicate 64 {}).set 0 { st := .open_, writeMask := 1#16, rdDrop := 65535#16, rdDropUsed := 65535#16 }).set 12 { caps := [(2200, 821909141#32)] }).set 23 { violInfo := 1#32 }) } },
        0, false, 268435456#32, (List.replicate 32 0), by decide +kernel⟩⟩

theorem test_met_FencesAndRelayedWritesAreAnswered_1 :
    (∃ (s : State) (se : Fin 64), sesOpen s se = false) ∧
    (∃ (s : State) (se : Fin 64), (sesOpen s se = true) ∧ (tooMany s se = true)) ∧
    (∃ (s : State) (se : Fin 64), (sesOpen s se = true) ∧ (tooMany s se = false) ∧ (s.ses.held.any (heldBy se) = true)) ∧
    (∃ (s : State) (se : Fin 64), (sesOpen s se = true) ∧ (tooMany s se = false) ∧ (s.ses.held.any (heldBy se) = false) ∧
        (s.ses.tab[se].fences = []) ∧ (settledBefore se s.pair.nextId s = true)) ∧
    (∃ (s : State) (se : Fin 64), (sesOpen s se = true) ∧ (tooMany s se = false) ∧ (s.ses.held.any (heldBy se) = false) ∧
        (s.ses.tab[se].fences = []) ∧ (settledBefore se s.pair.nextId s = false)) ∧
    (∃ (s : State) (se : Fin 64), (sesOpen s se = true) ∧ (tooMany s se = false) ∧ (isDown s = true)) ∧
    (∃ (s : State) (se : Fin 64), (sesOpen s se = true) ∧ (tooMany s se = false) ∧ (isDown s = false) ∧ (s.ses.tab[se].classes.getLsbD 13 = false)) ∧
    (∃ (s : State) (se : Fin 64) (n : W32), (sesOpen s se = true) ∧ (tooMany s se = false) ∧ (isDown s = false) ∧
        (s.ses.tab[se].classes.getLsbD 13 = true) ∧ (65536 < BitVec.toNat n)) ∧
    (∃ (s : State) (se : Fin 64) (n : W32) (chk : MemCheck), (sesOpen s se = true) ∧ (tooMany s se = false) ∧ (isDown s = false) ∧
        (s.ses.tab[se].classes.getLsbD 13 = true) ∧ (BitVec.toNat n ≤ 65536) ∧ (chk = MemCheck.clean) ∧ (s.mem.poisoned = [])) ∧
    (∃ (s : State) (se : Fin 64) (b : W32) (o : ℕ) (n : W32) (chk : MemCheck) (k : ℕ), (sesOpen s se = true) ∧ (tooMany s se = false) ∧
        (isDown s = false) ∧ (s.ses.tab[se].classes.getLsbD 13 = true) ∧ (BitVec.toNat n ≤ 65536) ∧ (chk = MemCheck.clean) ∧ (k < BitVec.toNat n) ∧
        (historyAddr b (o + k) / 64 * 64 ∈ s.mem.poisoned)) ∧
    (∃ (s : State) (v : Via) (m : RelayMsg), (firstCopy v s = true) ∧ (holds s = false) ∧ (s.pair.partner ≠ Partner.holder) ∧
        (m.body ≠ RelayBody.claimGone)) ∧
    (∃ (s : State) (v : Via) (m : RelayMsg) (a : W32) (data : List Byte), (firstCopy v s = true) ∧ (m.body = RelayBody.varWrite a data) ∧
        (holds s = true) ∧ (windowOpen s = true)) ∧
    (∃ (s : State) (v : Via) (m : RelayMsg) (a : W32) (data : List Byte) (r : Refuse), (firstCopy v s = true) ∧ (m.body = RelayBody.varWrite a data) ∧
        (holds s = true) ∧ (windowOpen s = false) ∧ (writeRefused m.writeMask (BitVec.toNat a) data.length s = some r)) ∧
    (∃ (s : State) (v : Via) (m : RelayMsg) (a : W32) (data : List Byte), (firstCopy v s = true) ∧ (m.body = RelayBody.varWrite a data) ∧
        (holds s = true) ∧ (windowOpen s = false) ∧ (writeRefused m.writeMask (BitVec.toNat a) data.length s = none)) ∧
    (∃ (s : State) (v : Via) (m : RelayMsg) (off : ℕ) (x : W32) (k : CmdReg) (op : Req → State → State), (firstCopy v s = true) ∧
        (m.body = RelayBody.regCmd off x) ∧ (holds s = true) ∧ (commandOf off x s = some (k, op))) ∧
    (∃ (s : State) (v : Via) (m : RelayMsg) (off : ℕ) (x : W32), (firstCopy v s = true) ∧ (m.body = RelayBody.regCmd off x) ∧ (holds s = true) ∧
        (commandOf off x s = none)) ∧
    (∃ (s : State) (v : Via) (m : RelayMsg), (firstCopy v s = true) ∧ (m.body = RelayBody.claimGone) ∧ (holds s = false ∨
        claimOf s (!s.pair.slot) m.session = false)) ∧
    (∃ (s : State) (v : Via) (m : RelayMsg), (firstCopy v s = true) ∧ (m.body = RelayBody.claimGone) ∧ (holds s = true) ∧
        (claimOf s (!s.pair.slot) m.session = true)) ∧
    (∃ (s : State) (v : Via) (m : RelayMsg) (ident : W256), (firstCopy v s = true) ∧ (m.body = RelayBody.change ident) ∧ (holds s = true)) ∧
    (∃ (s : State) (v : Via) (m : RelayMsg) (o : ℕ) (data : List Byte), (firstCopy v s = true) ∧ (m.body = RelayBody.chunk o data) ∧
        (holds s = true)) ∧
    (∃ (s : State) (v : Via) (m : RelayMsg) (stmt : List Byte) (sig : List Byte), (firstCopy v s = true) ∧ (m.body = RelayBody.key stmt sig) ∧
        (holds s = true) ∧ (keyCause stmt sig (m.writeMask.getLsbD 0) s = none)) ∧
    (∃ (s : State) (v : Via) (id : ℕ) (status : Fin 13) (se : Fin 64) (tag : W32) (a : ℕ) (len : ℕ), (firstCopy v s = true) ∧ (∀ (se : Fin 64),
        s.ses.tab[se].fences = []) ∧ (s.ses.heldReads = []) ∧
        (s.ses.relayed = [{ id := id, se := se, reg := none, typ := 17, tag := some tag, addr := a, len := len, done := false }]) ∧
        (sesOpen s se = true) ∧ (status = 0)) ∧
    (∃ (s : State) (v : Via) (id : ℕ) (status : Fin 13) (se : Fin 64) (tag : W32) (a : ℕ) (len : ℕ), (firstCopy v s = true) ∧ (∀ (se : Fin 64),
        s.ses.tab[se].fences = []) ∧ (s.ses.heldReads = []) ∧
        (s.ses.relayed = [{ id := id, se := se, reg := none, typ := 17, tag := some tag, addr := a, len := len, done := false }]) ∧
        (sesOpen s se = true) ∧ (status ≠ 0)) ∧
    (∃ (s : State) (v : Via) (id : ℕ) (status : Fin 13) (se : Fin 64) (g : ResReg) (a : ℕ) (len : ℕ), (firstCopy v s = true) ∧ (∀ (se : Fin 64),
        s.ses.tab[se].fences = []) ∧ (s.ses.heldReads = []) ∧
        (s.ses.relayed = [{ id := id, se := se, reg := some g, typ := 0, tag := none, addr := a, len := len, done := false }]) ∧ (status = 0) ∧
        (a ≠ 9256)) :=
  ⟨⟨{}, 0, by decide +kernel⟩,
   ⟨{ ses := { tab := ((Vector.replicate 64 {}).set 0 { st := .open_, fences := [{ tag := 0#32, before := 0, writes := 0, bad := 0, status := 0, addr := 0#32 }, { tag := 0#32, before := 0, writes := 0, bad := 0, status := 0, addr := 0#32 }, { tag := 0#32, before := 0, writes := 0, bad := 0, status := 0, addr := 0#32 }, { tag := 0#32, before := 0, writes := 0, bad := 0, status := 0, addr := 0#32 }, { tag := 0#32, before := 0, writes := 0, bad := 0, status := 0, addr := 0#32 }, { tag := 0#32, before := 0, writes := 0, bad := 0, status := 0, addr := 0#32 }, { tag := 0#32, before := 0, writes := 0, bad := 0, status := 0, addr := 0#32 }, { tag := 0#32, before := 0, writes := 0, bad := 0, status := 0, addr := 0#32 }, { tag := 0#32, before := 0, writes := 0, bad := 0, status := 0, addr := 0#32 }, { tag := 0#32, before := 0, writes := 0, bad := 0, status := 0, addr := 0#32 }, { tag := 0#32, before := 0, writes := 0, bad := 0, status := 0, addr := 0#32 }, { tag := 0#32, before := 0, writes := 0, bad := 0, status := 0, addr := 0#32 }, { tag := 0#32, before := 0, writes := 0, bad := 0, status := 0, addr := 0#32 }, { tag := 0#32, before := 0, writes := 0, bad := 0, status := 0, addr := 0#32 }, { tag := 0#32, before := 0, writes := 0, bad := 0, status := 0, addr := 0#32 }, { tag := 0#32, before := 0, writes := 0, bad := 0, status := 0, addr := 0#32 }, { tag := 0#32, before := 0, writes := 0, bad := 0, status := 0, addr := 0#32 }, { tag := 0#32, before := 0, writes := 0, bad := 0, status := 0, addr := 0#32 }, { tag := 0#32, before := 0, writes := 0, bad := 0, status := 0, addr := 0#32 }, { tag := 0#32, before := 0, writes := 0, bad := 0, status := 0, addr := 0#32 }, { tag := 0#32, before := 0, writes := 0, bad := 0, status := 0, addr := 0#32 }, { tag := 0#32, before := 0, writes := 0, bad := 0, status := 0, addr := 0#32 }, { tag := 0#32, before := 0, writes := 0, bad := 0, status := 0, addr := 0#32 }, { tag := 0#32, before := 0, writes := 0, bad := 0, status := 0, addr := 0#32 }, { tag := 0#32, before := 0, writes := 0, bad := 0, status := 0, addr := 0#32 }, { tag := 0#32, before := 0, writes := 0, bad := 0, status := 0, addr := 0#32 }, { tag := 0#32, before := 0, writes := 0, bad := 0, status := 0, addr := 0#32 }, { tag := 0#32, before := 0, writes := 0, bad := 0, status := 0, addr := 0#32 }, { tag := 0#32, before := 0, writes := 0, bad := 0, status := 0, addr := 0#32 }, { tag := 0#32, before := 0, writes := 0, bad := 0, status := 0, addr := 0#32 }, { tag := 0#32, before := 0, writes := 0, bad := 0, status := 0, addr := 0#32 }, { tag := 0#32, before := 0, writes := 0, bad := 0, status := 0, addr := 0#32 }, { tag := 0#32, before := 0, writes := 0, bad := 0, status := 0, addr := 0#32 }, { tag := 0#32, before := 0, writes := 0, bad := 0, status := 0, addr := 0#32 }, { tag := 0#32, before := 0, writes := 0, bad := 0, status := 0, addr := 0#32 }, { tag := 0#32, before := 0, writes := 0, bad := 0, status := 0, addr := 0#32 }, { tag := 0#32, before := 0, writes := 0, bad := 0, status := 0, addr := 0#32 }, { tag := 0#32, before := 0, writes := 0, bad := 0, status := 0, addr := 0#32 }, { tag := 0#32, before := 0, writes := 0, bad := 0, status := 0, addr := 0#32 }, { tag := 0#32, before := 0, writes := 0, bad := 0, status := 0, addr := 0#32 }, { tag := 0#32, before := 0, writes := 0, bad := 0, status := 0, addr := 0#32 }, { tag := 0#32, before := 0, writes := 0, bad := 0, status := 0, addr := 0#32 }, { tag := 0#32, before := 0, writes := 0, bad := 0, status := 0, addr := 0#32 }, { tag := 0#32, before := 0, writes := 0, bad := 0, status := 0, addr := 0#32 }, { tag := 0#32, before := 0, writes := 0, bad := 0, status := 0, addr := 0#32 }, { tag := 0#32, before := 0, writes := 0, bad := 0, status := 0, addr := 0#32 }, { tag := 0#32, before := 0, writes := 0, bad := 0, status := 0, addr := 0#32 }, { tag := 0#32, before := 0, writes := 0, bad := 0, status := 0, addr := 0#32 }, { tag := 0#32, before := 0, writes := 0, bad := 0, status := 0, addr := 0#32 }, { tag := 0#32, before := 0, writes := 0, bad := 0, status := 0, addr := 0#32 }, { tag := 0#32, before := 0, writes := 0, bad := 0, status := 0, addr := 0#32 }, { tag := 0#32, before := 0, writes := 0, bad := 0, status := 0, addr := 0#32 }, { tag := 0#32, before := 0, writes := 0, bad := 0, status := 0, addr := 0#32 }, { tag := 0#32, before := 0, writes := 0, bad := 0, status := 0, addr := 0#32 }, { tag := 0#32, before := 0, writes := 0, bad := 0, status := 0, addr := 0#32 }, { tag := 0#32, before := 0, writes := 0, bad := 0, status := 0, addr := 0#32 }, { tag := 0#32, before := 0, writes := 0, bad := 0, status := 0, addr := 0#32 }, { tag := 0#32, before := 0, writes := 0, bad := 0, status := 0, addr := 0#32 }, { tag := 0#32, before := 0, writes := 0, bad := 0, status := 0, addr := 0#32 }, { tag := 0#32, before := 0, writes := 0, bad := 0, status := 0, addr := 0#32 }, { tag := 0#32, before := 0, writes := 0, bad := 0, status := 0, addr := 0#32 }, { tag := 0#32, before := 0, writes := 0, bad := 0, status := 0, addr := 0#32 }, { tag := 0#32, before := 0, writes := 0, bad := 0, status := 0, addr := 0#32 }, { tag := 0#32, before := 0, writes := 0, bad := 0, status := 0, addr := 0#32 }] }) } },
        0, by decide +kernel⟩,
   ⟨{ ses := { tab := ((Vector.replicate 64 {}).set 0 { st := .open_ }), held := [(Instr.read 0 0 0x100000 16 .clean)] } }, 0, by decide +kernel⟩,
   ⟨{ ses := { tab := ((Vector.replicate 64 {}).set 0 { st := .open_ }) } }, 0, by decide +kernel⟩,
   ⟨{ pair := { nextId := 2, waits := [{ id := 0, no := 0, se := (some 0), acts := [], also := [] }] }, ses := { tab := ((Vector.replicate 64 {}).set 0 { st := .open_ }) } },
        0, by decide +kernel⟩,
   ⟨{ ses := { tab := ((Vector.replicate 64 {}).set 1 { st := .open_ }) }, mod := { st := .stopped } }, 1, by decide +kernel⟩,
   ⟨{ ses := { tab := ((Vector.replicate 64 {}).set 1 { st := .open_ }) } }, 1, by decide +kernel⟩,
   ⟨{ ses := { tab := ((Vector.replicate 64 {}).set 0 { st := .open_, classes := 16383#14 }) } }, 0, 4294967295#32, by decide +kernel⟩,
   ⟨{ ses := { tab := ((Vector.replicate 64 {}).set 0 { st := .open_, classes := 16383#14 }) } }, 0, 65535#32, .clean, by decide +kernel⟩,
   ⟨{ outside with mem := { poisoned := [historyAddr 0 0 / 64 * 64] } }, 0, 0, 0, 1, .clean, 0, by decide +kernel, by decide +kernel,
        by decide +kernel, by decide +kernel, by decide, rfl, by decide, List.mem_singleton.mpr rfl⟩,
   ⟨{ pair := { up := ((Vector.replicate 2 false).set 0 true) }, mod := { st := .standby } },
        { link := 0, seq := 10000000000000, errs := 20000000000 },
        { id := 1700, session := 1, readMask := 0#16, writeMask := 4#16, classMask := 0#14, staging := { modArg := 1#2, tskHevtVal := 268435456#32, lnkSel := 23, chSel := 1, islSel := 2, chArg := 18446744073709551615#64, frcSel := 10000000000, frcTgt := 0#64, frcVal := 18446744073709551615#64, frcCfg := 63#6, evrArg := 9228#32, lcdSel := 0, lcdText := 4#64, lcdIcons := 4#32, sesSel := 0 }, body := (RelayBody.change 3362155190878120275#256) },
        by decide +kernel⟩,
   ⟨{ tsk := { switch := (some { asker := none, tag := 0#32, phase := .window, start := 0, attempts := 0, r := 0, ownReady := false, partnerReady := none, windowEnd := 0, granules := 0, touched := [], forcesDropped := 0, varsDropped := 0 }) }, pair := { up := ((Vector.replicate 2 false).set 0 true) }, lease := { holder := true, leaseEnd := 2 }, mod := { st := .active } },
        { link := 0, seq := 10000000000000, errs := 16 },
        { id := 5000000000, session := 18, readMask := 1#16, writeMask := 65535#16, classMask := 16#14, staging := { modArg := 3#2, tskHevtVal := 1#32, lnkSel := 22, chSel := 0, islSel := 2, chArg := 1#64, frcSel := 5000000000, frcTgt := 3#64, frcVal := 9228#64, frcCfg := 38#6, evrArg := 4#32, lcdSel := 12, lcdText := 0#64, lcdIcons := 2097152#32, sesSel := 1 }, body := (RelayBody.varWrite 268435456#32 (List.replicate 4 65)) },
        268435456#32, (List.replicate 4 65), by decide +kernel⟩,
   ⟨holder, ⟨0, 1, 0⟩, relayed (.varWrite 0x10000000 [0, 0, 0, 0]), 0x10000000, [0, 0, 0, 0], ⟨1, 2, 0x10000000, 0⟩, by decide +kernel, rfl,
        by decide +kernel, by decide +kernel, rfl⟩,
   ⟨{ pair := { up := ((Vector.replicate 2 false).set 0 true) }, lease := { holder := true, leaseEnd := 2 }, mod := { st := .active } },
        { link := 0, seq := 10000000000000, errs := 2000 },
        { id := 0, session := 2, readMask := 65535#16, writeMask := 65535#16, classMask := 5128#14, staging := { modArg := 0#2, tskHevtVal := 268435472#32, lnkSel := 0, chSel := 108, islSel := 1, chArg := 5181602276273049503#64, frcSel := 16, frcTgt := 0#64, frcVal := 0#64, frcCfg := 63#6, evrArg := 4294967295#32, lcdSel := 0, lcdText := 18446744073709551615#64, lcdIcons := 268435456#32, sesSel := 0 }, body := (RelayBody.varWrite 2097152#32 (List.replicate 48 0)) },
        2097152#32, (List.replicate 48 0), by decide +kernel⟩,
   ⟨holder, ⟨0, 1, 0⟩, relayed (.regCmd 0x088C 1), 0x088C, 1, regHevt, _, by decide +kernel, rfl, by decide +kernel, rfl⟩,
   ⟨{ pair := { up := ((Vector.replicate 2 false).set 1 true) }, lease := { holder := true, leaseEnd := 2 }, mod := { st := .active } },
        { link := 1, seq := 10000000000000, errs := 1700 },
        { id := 1, session := 63, readMask := 0#16, writeMask := 7236#16, classMask := 9220#14, staging := { modArg := 0#2, tskHevtVal := 3#32, lnkSel := 0, chSel := 0, islSel := 1, chArg := 1#64, frcSel := 15, frcTgt := 2097152#64, frcVal := 268435456#64, frcCfg := 6#6, evrArg := 2961754463#32, lcdSel := 0, lcdText := 18446744073709551615#64, lcdIcons := 4294967295#32, sesSel := 0 }, body := (RelayBody.regCmd 0 1#32) },
        0, 1#32, by decide +kernel⟩,
   ⟨{ pair := { up := ((Vector.replicate 2 false).set 0 true) }, mod := { st := .active } }, { link := 0, seq := 10000000000000, errs := 0 },
        { id := 1000000, session := 0, readMask := 0#16, writeMask := 10052#16, classMask := 0#14, staging := { modArg := 3#2, tskHevtVal := 0#32, lnkSel := 1, chSel := 2, islSel := 0, chArg := 0#64, frcSel := 1000, frcTgt := 268435472#64, frcVal := 7236#64, frcCfg := 2#6, evrArg := 2097152#32, lcdSel := 1, lcdText := 3#64, lcdIcons := 2110195114#32, sesSel := 1 }, body := .claimGone },
        by decide +kernel⟩,
   ⟨{ pair := { up := ((Vector.replicate 2 false).set 0 true) }, lease := { holder := true, leaseEnd := 2 }, ses := { claim := (some { slot := true, se := 0, until_ := 0 }) }, mod := { st := .active } },
        { link := 0, seq := 10000000000000, errs := 0 },
        { id := 255, session := 0, readMask := 48494#16, writeMask := 7798#16, classMask := 16383#14, staging := { modArg := 2#2, tskHevtVal := 4294967295#32, lnkSel := 0, chSel := 24, islSel := 1, chArg := 0#64, frcSel := 1000000000000, frcTgt := 7236#64, frcVal := 15897726181378297078#64, frcCfg := 5#6, evrArg := 65535#32, lcdSel := 0, lcdText := 18446744073709551615#64, lcdIcons := 2097152#32, sesSel := 19 }, body := .claimGone },
        by decide +kernel⟩,
   ⟨{ pair := { up := ((Vector.replicate 2 false).set 0 true) }, lease := { holder := true, leaseEnd := 2 }, mod := { st := .active } },
        { link := 0, seq := 10000000000000, errs := 1000 },
        { id := 3, session := 0, readMask := 65535#16, writeMask := 7236#16, classMask := 13343#14, staging := { modArg := 1#2, tskHevtVal := 0#32, lnkSel := 1, chSel := 0, islSel := 0, chArg := 9611262735097161650#64, frcSel := 2200, frcTgt := 268435472#64, frcVal := 1#64, frcCfg := 63#6, evrArg := 9228#32, lcdSel := 1, lcdText := 2097152#64, lcdIcons := 4294967295#32, sesSel := 1 }, body := (RelayBody.change 115792089237316195423570985008687907853269984665640564039457584007913129639935#256) },
        115792089237316195423570985008687907853269984665640564039457584007913129639935#256, by decide +kernel⟩,
   ⟨{ pair := { up := ((Vector.replicate 2 false).set 0 true) }, lease := { holder := true, leaseEnd := 2 }, mod := { st := .active } },
        { link := 0, seq := 10000000000000, errs := 15 },
        { id := 1000000, session := 0, readMask := 52549#16, writeMask := 0#16, classMask := 9603#14, staging := { modArg := 3#2, tskHevtVal := 2#32, lnkSel := 2, chSel := 191, islSel := 0, chArg := 18446744073709551615#64, frcSel := 128, frcTgt := 1#64, frcVal := 18446744073709551615#64, frcCfg := 63#6, evrArg := 268435456#32, lcdSel := 0, lcdText := 0#64, lcdIcons := 4294967295#32, sesSel := 63 }, body := (RelayBody.chunk 65535 (List.replicate 2 0)) },
        65535, (List.replicate 2 0), by decide +kernel⟩,
   ⟨{ pair := { up := ((Vector.replicate 2 false).set 1 true) }, lease := { holder := true, leaseEnd := 2 }, mod := { st := .active } },
        { link := 1, seq := 10000000000000, errs := 0 },
        { id := 1, session := 0, readMask := 65535#16, writeMask := 65535#16, classMask := 16383#14, staging := { modArg := 0#2, tskHevtVal := 0#32, lnkSel := 0, chSel := 0, islSel := 0, chArg := 0#64, frcSel := 0, frcTgt := 0#64, frcVal := 0#64, frcCfg := 0#6, evrArg := 0#32, lcdSel := 0, lcdText := 0#64, lcdIcons := 0#32, sesSel := 0 }, body := (RelayBody.key [76#8, 88#8, 75#8, 49#8, 0#8, 1#8, 0#8, 0#8, 7#8, 7#8, 7#8, 7#8, 7#8, 7#8, 7#8, 7#8, 7#8, 7#8, 7#8, 7#8, 7#8, 7#8, 7#8, 7#8, 7#8, 7#8, 7#8, 7#8, 7#8, 7#8, 7#8, 7#8, 7#8, 7#8, 7#8, 7#8, 7#8, 7#8, 7#8, 7#8] (List.replicate 0 0)) },
        [76#8, 88#8, 75#8, 49#8, 0#8, 1#8, 0#8, 0#8, 7#8, 7#8, 7#8, 7#8, 7#8, 7#8, 7#8, 7#8, 7#8, 7#8, 7#8, 7#8, 7#8, 7#8, 7#8, 7#8, 7#8, 7#8, 7#8,
        7#8, 7#8, 7#8, 7#8, 7#8, 7#8, 7#8, 7#8, 7#8, 7#8, 7#8, 7#8, 7#8], (List.replicate 0 0), by decide +kernel⟩,
   ⟨{ pair := { up := ((Vector.replicate 2 false).set 1 true) }, ses := { tab := ((Vector.replicate 64 {}).set 0 { st := .open_ }), relayed := [{ id := 0, se := 0, reg := none, typ := 17, tag := (some 0#32), addr := 0, len := 0, done := false }] }, mod := { st := .standby } },
        { link := 1, seq := 10000000000000, errs := 128 }, 0, 0, 0, 0#32, 0, 0, by decide +kernel⟩,
   ⟨{ pair := { up := ((Vector.replicate 2 false).set 1 true) }, ses := { tab := ((Vector.replicate 64 {}).set 0 { st := .open_ }), relayed := [{ id := 0, se := 0, reg := none, typ := 17, tag := (some 0#32), addr := 0, len := 0, done := false }] }, mod := { st := .standby } },
        { link := 1, seq := 10000000000000, errs := 128 }, 0, 1, 0, 0#32, 0, 0, by decide +kernel⟩,
   ⟨{ pair := { up := ((Vector.replicate 2 false).set 0 true) }, ses := { relayed := [{ id := 0, se := 0, reg := (some .mod), typ := 0, tag := none, addr := 0, len := 0, done := false }] }, mod := { st := .join } },
        { link := 0, seq := 10000000000000, errs := 10000000000 }, 0, 0, 0, .mod, 0, 0, by decide +kernel⟩⟩

theorem test_met_FencesAndRelayedWritesAreAnswered_2 :
    ∃ (s : State) (v : Via), (firstCopy v s = true) ∧ (∀ (se : Fin 64), s.ses.tab[se].fences = []) ∧ (s.ses.heldReads = []) ∧ (s.ses.relayed = []) :=
  ⟨{ pair := { up := ((Vector.replicate 2 false).set 1 true) }, mod := { st := .standby } }, { link := 1, seq := 10000000000000, errs := 2000 },
        by decide +kernel⟩

theorem test_met_SessionsOpenByCredentialAndEndWithACause :
    (∃ (s : State) (port : Fin 2), s.mod.st = ModState.off ∨ s.mod.st = ModState.boot ∨ portServes port s = false) ∧
    (∃ (s : State) (port : Fin 2), (s.mod.st ≠ ModState.off) ∧ (s.mod.st ≠ ModState.boot) ∧ (portServes port s = true)) ∧
    (∃ (s : State) (conn : ℕ), List.find? (fun (c : Conn) => c.conn == conn) s.ses.conns = none) ∧
    (∃ (s : State) (conn : ℕ) (c : Conn), (List.find? (fun (c : Conn) => c.conn == conn) s.ses.conns = some c) ∧ (s.tb.now < c.since + 5000000000)) ∧
    (∃ (s : State) (conn : ℕ) (c : Conn), (List.find? (fun (c : Conn) => c.conn == conn) s.ses.conns = some c) ∧ (c.since + 5000000000 ≤ s.tb.now)) ∧
    (∃ (s : State) (conn : ℕ) (c : Conn), (List.find? (fun (c : Conn) => c.conn == conn) s.ses.conns = some c) ∧ (c.since + 5000000000 < s.tb.now)) ∧
    (∃ (s : State) (conn : ℕ) (c : Conn), (List.find? (fun (c : Conn) => c.conn == conn) s.ses.conns = some c) ∧ (s.tb.now ≤ c.since + 5000000000)) ∧
    (∃ (c : Conn) (cred : List Byte) (s : State) (g : Grant) (n : Fin 64), (openVerdict c cred s = Sum.inr (g, n)) ∧ (n = 63)) ∧
    (∃ (c : Conn) (cred : List Byte) (s : State) (g : Grant) (n : Fin 64) (m : Fin 64), (openVerdict c cred s = Sum.inr (g, n)) ∧ (m < n) ∧
        (↑m < 63)) ∧
    (∃ (s : State) (se : Fin 64), sesOpen s se = false) ∧
    (∃ (s : State) (se : Fin 64), (sesOpen s se = true) ∧ (tooMany s se = true)) ∧
    (∃ (s : State) (se : Fin 64), (sesOpen s se = true) ∧ (tooMany s se = false)) ∧
    (∃ (s : State) (se : Fin 64), (sesOpen s se = true) ∧ (s.tb.now < s.ses.tab[se].lastMsg + 20000000000)) ∧
    (∃ (s : State) (se : Fin 64) (tag : W32) (c : Instr) (k : ℕ), (sesOpen s se = true) ∧ (claimOf s s.pair.slot se = false) ∧
        (c = Instr.close se tag ∧ tooMany s se = false ∧ k = 0 ∨ c = Instr.sessionIdleTimeout se ∧ s.ses.tab[se].lastMsg + 20000000000 ≤ s.tb.now ∧
        k = 1 ∨ c = Instr.tlsAlert se ∧ k = 3)) ∧
    (∃ (s : State) (se : Fin 64), (sesOpen s se = true) ∧ (claimOf s s.pair.slot se = true) ∧ (holds s = true)) ∧
    (∃ (s : State) (se : Fin 64), (admitted regSes se s = true) ∧ (sesOpen s s.ses.tab[se].sel.sesSel = false)) ∧
    (∃ (s : State) (se : Fin 64), (admitted regSes se s = true) ∧ (sesOpen s s.ses.tab[se].sel.sesSel = true) ∧
        (claimOf s s.pair.slot s.ses.tab[se].sel.sesSel = false)) ∧
    (∃ (s : State), s.ses.enrolKeyed = none) ∧
    (∃ (s : State) (t0 : ℕ), (s.ses.enrolKeyed = some t0) ∧ (s.tb.now < t0 + 1000000000)) ∧
    (∃ (s : State) (t0 : ℕ), (s.ses.enrolKeyed = some t0) ∧ (t0 + 1000000000 ≤ s.tb.now)) ∧
    (∃ (s : State) (se : Fin 64), (sesOpen s se = true) ∧ (s.ses.tab[se].mapsync = true)) :=
  ⟨⟨{}, 1, by decide +kernel⟩,
   ⟨{ mod := { st := .active } }, 0, by decide +kernel⟩,
   ⟨{}, 1000000, by decide +kernel⟩,
   ⟨{ ses := { conns := [{ conn := 0, port := 0, ip := 0#32, clientKey := 0#256, since := 0 }] } }, 0,
        { conn := 0, port := 0, ip := 0#32, clientKey := 0#256, since := 0 }, by decide +kernel⟩,
   ⟨{ tb := { now := 7812500000 }, ses := { conns := [{ conn := 0, port := 0, ip := 0#32, clientKey := 0#256, since := 0 }] } }, 0,
        { conn := 0, port := 0, ip := 0#32, clientKey := 0#256, since := 0 }, by decide +kernel⟩,
   ⟨{ tb := { now := 6250000000 }, ses := { conns := [{ conn := 0, port := 0, ip := 0#32, clientKey := 0#256, since := 0 }] } }, 0,
        { conn := 0, port := 0, ip := 0#32, clientKey := 0#256, since := 0 }, by decide +kernel⟩,
   ⟨{ ses := { conns := [{ conn := 0, port := 0, ip := 0#32, clientKey := 0#256, since := 0 }] } }, 0,
        { conn := 0, port := 0, ip := 0#32, clientKey := 0#256, since := 0 }, by decide +kernel⟩,
   let ⟨g, h⟩ := test_enrolment_opens; ⟨_, _, _, g, 63, h, rfl⟩,
   let ⟨g, h⟩ := test_enrolment_opens; ⟨_, _, _, g, 63, 0, h, by decide, by decide⟩,
   ⟨{}, 0, by decide +kernel⟩,
   ⟨{ ses := { tab := ((Vector.replicate 64 {}).set 0 { st := .open_, fences := [{ tag := 0#32, before := 0, writes := 0, bad := 0, status := 0, addr := 0#32 }, { tag := 0#32, before := 0, writes := 0, bad := 0, status := 0, addr := 0#32 }, { tag := 0#32, before := 0, writes := 0, bad := 0, status := 0, addr := 0#32 }, { tag := 0#32, before := 0, writes := 0, bad := 0, status := 0, addr := 0#32 }, { tag := 0#32, before := 0, writes := 0, bad := 0, status := 0, addr := 0#32 }, { tag := 0#32, before := 0, writes := 0, bad := 0, status := 0, addr := 0#32 }, { tag := 0#32, before := 0, writes := 0, bad := 0, status := 0, addr := 0#32 }, { tag := 0#32, before := 0, writes := 0, bad := 0, status := 0, addr := 0#32 }, { tag := 0#32, before := 0, writes := 0, bad := 0, status := 0, addr := 0#32 }, { tag := 0#32, before := 0, writes := 0, bad := 0, status := 0, addr := 0#32 }, { tag := 0#32, before := 0, writes := 0, bad := 0, status := 0, addr := 0#32 }, { tag := 0#32, before := 0, writes := 0, bad := 0, status := 0, addr := 0#32 }, { tag := 0#32, before := 0, writes := 0, bad := 0, status := 0, addr := 0#32 }, { tag := 0#32, before := 0, writes := 0, bad := 0, status := 0, addr := 0#32 }, { tag := 0#32, before := 0, writes := 0, bad := 0, status := 0, addr := 0#32 }, { tag := 0#32, before := 0, writes := 0, bad := 0, status := 0, addr := 0#32 }, { tag := 0#32, before := 0, writes := 0, bad := 0, status := 0, addr := 0#32 }, { tag := 0#32, before := 0, writes := 0, bad := 0, status := 0, addr := 0#32 }, { tag := 0#32, before := 0, writes := 0, bad := 0, status := 0, addr := 0#32 }, { tag := 0#32, before := 0, writes := 0, bad := 0, status := 0, addr := 0#32 }, { tag := 0#32, before := 0, writes := 0, bad := 0, status := 0, addr := 0#32 }, { tag := 0#32, before := 0, writes := 0, bad := 0, status := 0, addr := 0#32 }, { tag := 0#32, before := 0, writes := 0, bad := 0, status := 0, addr := 0#32 }, { tag := 0#32, before := 0, writes := 0, bad := 0, status := 0, addr := 0#32 }, { tag := 0#32, before := 0, writes := 0, bad := 0, status := 0, addr := 0#32 }, { tag := 0#32, before := 0, writes := 0, bad := 0, status := 0, addr := 0#32 }, { tag := 0#32, before := 0, writes := 0, bad := 0, status := 0, addr := 0#32 }, { tag := 0#32, before := 0, writes := 0, bad := 0, status := 0, addr := 0#32 }, { tag := 0#32, before := 0, writes := 0, bad := 0, status := 0, addr := 0#32 }, { tag := 0#32, before := 0, writes := 0, bad := 0, status := 0, addr := 0#32 }, { tag := 0#32, before := 0, writes := 0, bad := 0, status := 0, addr := 0#32 }, { tag := 0#32, before := 0, writes := 0, bad := 0, status := 0, addr := 0#32 }, { tag := 0#32, before := 0, writes := 0, bad := 0, status := 0, addr := 0#32 }, { tag := 0#32, before := 0, writes := 0, bad := 0, status := 0, addr := 0#32 }, { tag := 0#32, before := 0, writes := 0, bad := 0, status := 0, addr := 0#32 }, { tag := 0#32, before := 0, writes := 0, bad := 0, status := 0, addr := 0#32 }, { tag := 0#32, before := 0, writes := 0, bad := 0, status := 0, addr := 0#32 }, { tag := 0#32, before := 0, writes := 0, bad := 0, status := 0, addr := 0#32 }, { tag := 0#32, before := 0, writes := 0, bad := 0, status := 0, addr := 0#32 }, { tag := 0#32, before := 0, writes := 0, bad := 0, status := 0, addr := 0#32 }, { tag := 0#32, before := 0, writes := 0, bad := 0, status := 0, addr := 0#32 }, { tag := 0#32, before := 0, writes := 0, bad := 0, status := 0, addr := 0#32 }, { tag := 0#32, before := 0, writes := 0, bad := 0, status := 0, addr := 0#32 }, { tag := 0#32, before := 0, writes := 0, bad := 0, status := 0, addr := 0#32 }, { tag := 0#32, before := 0, writes := 0, bad := 0, status := 0, addr := 0#32 }, { tag := 0#32, before := 0, writes := 0, bad := 0, status := 0, addr := 0#32 }, { tag := 0#32, before := 0, writes := 0, bad := 0, status := 0, addr := 0#32 }, { tag := 0#32, before := 0, writes := 0, bad := 0, status := 0, addr := 0#32 }, { tag := 0#32, before := 0, writes := 0, bad := 0, status := 0, addr := 0#32 }, { tag := 0#32, before := 0, writes := 0, bad := 0, status := 0, addr := 0#32 }, { tag := 0#32, before := 0, writes := 0, bad := 0, status := 0, addr := 0#32 }, { tag := 0#32, before := 0, writes := 0, bad := 0, status := 0, addr := 0#32 }, { tag := 0#32, before := 0, writes := 0, bad := 0, status := 0, addr := 0#32 }, { tag := 0#32, before := 0, writes := 0, bad := 0, status := 0, addr := 0#32 }, { tag := 0#32, before := 0, writes := 0, bad := 0, status := 0, addr := 0#32 }, { tag := 0#32, before := 0, writes := 0, bad := 0, status := 0, addr := 0#32 }, { tag := 0#32, before := 0, writes := 0, bad := 0, status := 0, addr := 0#32 }, { tag := 0#32, before := 0, writes := 0, bad := 0, status := 0, addr := 0#32 }, { tag := 0#32, before := 0, writes := 0, bad := 0, status := 0, addr := 0#32 }, { tag := 0#32, before := 0, writes := 0, bad := 0, status := 0, addr := 0#32 }, { tag := 0#32, before := 0, writes := 0, bad := 0, status := 0, addr := 0#32 }, { tag := 0#32, before := 0, writes := 0, bad := 0, status := 0, addr := 0#32 }, { tag := 0#32, before := 0, writes := 0, bad := 0, status := 0, addr := 0#32 }, { tag := 0#32, before := 0, writes := 0, bad := 0, status := 0, addr := 0#32 }] }) } },
        0, by decide +kernel⟩,
   ⟨{ ses := { tab := ((Vector.replicate 64 {}).set 1 { st := .open_ }) } }, 1, by decide +kernel⟩,
   ⟨{ ses := { tab := ((Vector.replicate 64 {}).set 0 { st := .open_ }) } }, 0, by decide +kernel⟩,
   ⟨outside, 0, 0, .tlsAlert 0, 3, by decide +kernel⟩,
   ⟨{ pair := { slot := true }, lease := { holder := true, leaseEnd := 2 }, ses := { tab := ((Vector.replicate 64 {}).set 0 { st := .open_ }), claim := (some { slot := true, se := 0, until_ := 0 }) } },
        0, by decide +kernel⟩,
   ⟨{ ses := { tab := ((Vector.replicate 64 {}).set 0 { st := .open_, classes := 16383#14, sel := { sesSel := 1 } }) } }, 0, by decide +kernel⟩,
   ⟨{ ses := { tab := ((Vector.replicate 64 {}).set 0 { st := .open_, classes := 16383#14 }) } }, 0, by decide +kernel⟩,
   ⟨{}, by decide +kernel⟩,
   ⟨{ ses := { enrolKeyed := (some 0) } }, 0, by decide +kernel⟩,
   ⟨{ tb := { now := 1562500000 }, ses := { enrolKeyed := (some 0) } }, 0, by decide +kernel⟩,
   ⟨{ ses := { tab := ((Vector.replicate 64 {}).set 0 { st := .open_, mapsync := true }) } }, 0, by decide +kernel⟩⟩

theorem test_met_ClaimsAndEnrolmentAreLimited :
    (∃ (s : State) (se : Fin 64), (admitted regClaim se s = true) ∧ (s.ses.claim = none)) ∧
    (∃ (s : State) (se : Fin 64) (c : ConfClaim), (admitted regClaim se s = true) ∧ (s.ses.claim = some c) ∧ (c.slot = s.pair.slot) ∧ (c.se = se)) ∧
    (∃ (s : State) (se : Fin 64) (c : ConfClaim), (admitted regClaim se s = true) ∧ (s.ses.claim = some c) ∧ (c.slot ≠ s.pair.slot ∨ c.se ≠ se)) ∧
    (∃ (s : State) (se : Fin 64), (admitted regClaim se s = true) ∧ (claimOf s s.pair.slot se = false)) ∧
    (∃ (s : State) (se : Fin 64), (admitted regClaim se s = true) ∧ (claimOf s s.pair.slot se = true) ∧ (s.img.idle ≠ IdleState.loading)) ∧
    (∃ (s : State) (se : Fin 64), (admitted regBreak se s = true) ∧ (holdsMaint s.ses.tab[se] = false)) ∧
    (∃ (s : State) (se : Fin 64), (admitted regBreak se s = true) ∧ (holdsMaint s.ses.tab[se] = true) ∧ (s.ses.claim = none ∨
        claimOf s s.pair.slot se = true)) ∧
    (∃ (s : State) (se : Fin 64) (c : ConfClaim), (admitted regBreak se s = true) ∧ (holdsMaint s.ses.tab[se] = true) ∧ (s.ses.claim = some c) ∧
        (claimOf s s.pair.slot se = false)) ∧
    (∃ (s : State), s.ses.claim = none) ∧
    (∃ (s : State) (c : ConfClaim), (s.ses.claim = some c) ∧ (s.tb.now < c.until_)) ∧
    (∃ (s : State) (c : ConfClaim), (s.ses.claim = some c) ∧ (c.until_ ≤ s.tb.now)) ∧
    (∃ (s : State), s.mod.st = ModState.off ∨ s.mod.st = ModState.boot ∨ (∃ (k : Fin 8), s.img.keys[k] ≠ KeySlot.empty) ∨ partnerInRun s = true ∨
        s.ses.enrol ≠ none) ∧
    (∃ (s : State), (s.mod.st ≠ ModState.off) ∧ (s.mod.st ≠ ModState.boot) ∧ (∀ (k : Fin 8), s.img.keys[k] = KeySlot.empty) ∧
        (partnerInRun s = false) ∧ (s.ses.enrol = none)) ∧
    (∃ (s : State), s.ses.enrol = none) ∧
    (∃ (s : State) (t0 : ℕ), (s.ses.enrol = some t0) ∧ (s.tb.now < t0 + 600000000000)) ∧
    (∃ (s : State) (t0 : ℕ), (s.ses.enrol = some t0) ∧ (t0 + 600000000000 ≤ s.tb.now)) :=
  ⟨⟨{ ses := { tab := ((Vector.replicate 64 {}).set 0 { st := .open_, classes := 16383#14 }) } }, 0, by decide +kernel⟩,
   ⟨{ pair := { slot := true }, ses := { tab := ((Vector.replicate 64 {}).set 0 { st := .open_, classes := 16383#14 }), claim := (some { slot := true, se := 0, until_ := 0 }) } },
        0, { slot := true, se := 0, until_ := 0 }, by decide +kernel⟩,
   ⟨{ ses := { tab := ((Vector.replicate 64 {}).set 0 { st := .open_, classes := 16383#14 }), claim := (some { slot := false, se := 54, until_ := 0 }) } },
        0, { slot := false, se := 54, until_ := 0 }, by decide +kernel⟩,
   ⟨{ ses := { tab := ((Vector.replicate 64 {}).set 0 { st := .open_, classes := 16383#14 }) } }, 0, by decide +kernel⟩,
   ⟨{ ses := { tab := ((Vector.replicate 64 {}).set 0 { st := .open_, classes := 16383#14 }), claim := (some { slot := false, se := 0, until_ := 0 }) } },
        0, by decide +kernel⟩,
   ⟨{ ses := { tab := ((Vector.replicate 64 {}).set 0 { st := .open_, classes := 16383#14 }) } }, 0, by decide +kernel⟩,
   ⟨{ ses := { tab := ((Vector.replicate 64 {}).set 0 { st := .open_, writeMask := 65535#16, classes := 16383#14 }) } }, 0, by decide +kernel⟩,
   ⟨{ ses := { tab := ((Vector.replicate 64 {}).set 0 { st := .open_, writeMask := 65535#16, classes := 16383#14 }), claim := (some { slot := true, se := 0, until_ := 0 }) } },
        0, { slot := true, se := 0, until_ := 0 }, by decide +kernel⟩,
   ⟨{}, by decide +kernel⟩,
   ⟨{ ses := { claim := (some { slot := false, se := 0, until_ := 1 }) } }, { slot := false, se := 0, until_ := 1 }, by decide +kernel⟩,
   ⟨{ ses := { claim := (some { slot := false, se := 0, until_ := 0 }) } }, { slot := false, se := 0, until_ := 0 }, by decide +kernel⟩,
   ⟨{}, by decide +kernel⟩,
   ⟨{ mod := { st := .join } }, by decide +kernel⟩,
   ⟨{}, by decide +kernel⟩,
   ⟨{ ses := { enrol := (some 0) } }, 0, by decide +kernel⟩,
   ⟨{ tb := { now := 1000000000000 }, ses := { enrol := (some 0) } }, 0, by decide +kernel⟩⟩

theorem test_met_RegistersTakeWritesAndCaptureAtReads :
    (∃ (s : State) (se : Fin 64), sesOpen s se = false) ∧
    (∃ (s : State) (se : Fin 64) (off : ℕ) (r : Refuse), (sesOpen s se = true) ∧ (regRefused off se s = some r) ∧ (r.kind = 0)) ∧
    (∃ (s : State) (se : Fin 64) (off : ℕ) (r : Refuse) (c : ℕ) (g : ResReg) (always : Bool), (sesOpen s se = true) ∧ (regRefused off se s = some r) ∧
        (r.kind = 3) ∧ (writeClass off = some (c, g, always))) ∧
    (∃ (s : State) (se : Fin 64) (off : ℕ) (v : W32) (k : CmdReg) (op : Req → State → State), (sesOpen s se = true) ∧ (regRefused off se s = none) ∧
        (commandOf off v s = some (k, op)) ∧ (mustRelay k s = false)) ∧
    (∃ (s : State) (se : Fin 64) (off : ℕ) (v : W32) (k : CmdReg) (op : Req → State → State), (sesOpen s se = true) ∧ (regRefused off se s = none) ∧
        (commandOf off v s = some (k, op)) ∧ (mustRelay k s = true) ∧ (holderReachable s = false)) ∧
    (∃ (s : State) (se : Fin 64) (off : ℕ) (v : W32), (sesOpen s se = true) ∧ (commandOf off v s = none) ∧ (off ≠ 7236) ∧ (off ≠ 9228) ∧
        (off ≠ 9232) ∧ (off ≠ 9236) ∧ (off ≠ 9252)) ∧
    (∃ (s : State) (se : Fin 64) (d : ℕ), (sesOpen s se = true) ∧ (d = 9228 ∨ d = 9232)) ∧
    (∃ (s : State) (se : Fin 64), (sesOpen s se = true) ∧ (isDown s = true ∨ s.ses.tab[se].classes.getLsbD 4 = false)) ∧
    (∃ (s : State) (se : Fin 64), (sesOpen s se = true) ∧ (isDown s = false) ∧ (s.ses.tab[se].classes.getLsbD 4 = true)) ∧
    (∃ (off : ℕ), loRegs.contains off = false) ∧
    (∃ (s : State) (se : Fin 64) (off : ℕ), (sesOpen s se = true) ∧ (loRegs.contains off = true)) :=
  ⟨⟨{}, 0, by decide +kernel⟩,
   ⟨{ alone with mod := { st := .failed } }, 0, 0x088C, ⟨5, 0, 0x088C, 0⟩, by decide +kernel, rfl, rfl⟩,
   ⟨{ outside with ses := { tab := (Vector.replicate 64 {}).set 0 { st := .open_ } } }, 0, 0x088C, ⟨1, 3, 0x088C, 0⟩, 0, .hevt, false,
        by decide +kernel, rfl, rfl, rfl⟩,
   ⟨outside, 0, 0x088C, 1, regHevt, _, by decide +kernel, rfl, rfl, by decide +kernel⟩,
   ⟨{ standby with pair := { partner := .holder } }, 0, 0x088C, 1, regHevt, _, by decide +kernel, rfl, rfl, by decide +kernel, by decide +kernel⟩,
   ⟨{ ses := { tab := ((Vector.replicate 64 {}).set 1 { st := .open_ }) } }, 1, 0, 4294967295#32, by decide +kernel⟩,
   ⟨{ ses := { tab := ((Vector.replicate 64 {}).set 0 { st := .open_ }) } }, 0, 9228, by decide +kernel⟩,
   ⟨{ ses := { tab := ((Vector.replicate 64 {}).set 1 { st := .open_ }) } }, 1, by decide +kernel⟩,
   ⟨{ ses := { tab := ((Vector.replicate 64 {}).set 0 { st := .open_, classes := 16383#14 }) } }, 0, by decide +kernel⟩,
   ⟨1000000, by decide +kernel⟩,
   ⟨alone, 0, loRegs.headD 0, by decide +kernel, by decide +kernel⟩⟩

theorem test_met_FirmwareIsLoadedCheckedAndSelected :
    (∃ (s : State) (se : Fin 64), sesOpen s se = false) ∧
    (∃ (s : State) (se : Fin 64), (sesOpen s se = true) ∧ (tooMany s se = true)) ∧
    (∃ (s : State) (se : Fin 64), (sesOpen s se = true) ∧ (tooMany s se = false) ∧ (s.mod.st = ModState.failed ∨ s.mod.st = ModState.stopped)) ∧
    (∃ (s : State) (se : Fin 64), (sesOpen s se = true) ∧ (tooMany s se = false) ∧ (s.mod.st ≠ ModState.failed) ∧ (s.mod.st ≠ ModState.stopped) ∧
        (s.ses.tab[se].classes.getLsbD 11 = false ∨ holdsMaint s.ses.tab[se] = false)) ∧
    (∃ (s : State) (se : Fin 64) (o : ℕ), (sesOpen s se = true) ∧ (tooMany s se = false) ∧ (s.mod.st ≠ ModState.failed) ∧
        (s.mod.st ≠ ModState.stopped) ∧ (s.ses.tab[se].classes.getLsbD 11 = true) ∧ (holdsMaint s.ses.tab[se] = true) ∧ (o ≠ 0) ∧
        (s.mod.fwAlt.st ≠ 3 ∨ o ≠ s.mod.fwLoad.length)) ∧
    (∃ (s : State) (se : Fin 64) (o : ℕ) (data : List Byte), (sesOpen s se = true) ∧ (tooMany s se = false) ∧ (s.mod.st ≠ ModState.failed) ∧
        (s.mod.st ≠ ModState.stopped) ∧ (s.ses.tab[se].classes.getLsbD 11 = true) ∧ (holdsMaint s.ses.tab[se] = true) ∧ (o = 0) ∧
        (data.length ≤ 67108864)) ∧
    (∃ (s : State) (se : Fin 64) (o : ℕ) (data : List Byte), (sesOpen s se = true) ∧ (tooMany s se = false) ∧ (s.mod.st ≠ ModState.failed) ∧
        (s.mod.st ≠ ModState.stopped) ∧ (s.ses.tab[se].classes.getLsbD 11 = true) ∧ (holdsMaint s.ses.tab[se] = true) ∧ (o ≠ 0) ∧
        (s.mod.fwAlt.st = 3) ∧ (o = s.mod.fwLoad.length) ∧ (o + data.length ≤ 67108864)) ∧
    (∃ (s : State), s.mod.fwAlt.st ≠ 3 ∨ s.mod.fwDone = false) ∧
    (∃ (s : State), (s.mod.fwAlt.st = 3) ∧ (s.mod.fwDone = true)) ∧
    (∃ (s : State) (se : Fin 64), (admitted regAbort se s = true) ∧ (s.mod.fwAlt.st ≠ 3)) ∧
    (∃ (s : State) (se : Fin 64), (admitted regAbort se s = true) ∧ (s.mod.fwAlt.st = 3)) ∧
    (∃ (s : State) (se : Fin 64), (admitted regMod se s = true) ∧ (s.ses.tab[se].sel.modArg.getLsbD 1 = false) ∧ (s.mod.fwAlt.st ≠ 1)) ∧
    (∃ (s : State) (se : Fin 64), (admitted regMod se s = true) ∧ (s.ses.tab[se].sel.modArg.getLsbD 1 = false) ∧ (s.mod.fwAlt.st = 1)) ∧
    (∃ (s : State) (se : Fin 64), (admitted regMod se s = true) ∧ (s.ses.tab[se].sel.modArg.getLsbD 1 = true) ∧ (standbyThere s = false)) :=
  ⟨⟨{}, 0, by decide +kernel⟩,
   ⟨{ ses := { tab := ((Vector.replicate 64 {}).set 0 { st := .open_, fences := [{ tag := 0#32, before := 0, writes := 0, bad := 0, status := 0, addr := 0#32 }, { tag := 0#32, before := 0, writes := 0, bad := 0, status := 0, addr := 0#32 }, { tag := 0#32, before := 0, writes := 0, bad := 0, status := 0, addr := 0#32 }, { tag := 0#32, before := 0, writes := 0, bad := 0, status := 0, addr := 0#32 }, { tag := 0#32, before := 0, writes := 0, bad := 0, status := 0, addr := 0#32 }, { tag := 0#32, before := 0, writes := 0, bad := 0, status := 0, addr := 0#32 }, { tag := 0#32, before := 0, writes := 0, bad := 0, status := 0, addr := 0#32 }, { tag := 0#32, before := 0, writes := 0, bad := 0, status := 0, addr := 0#32 }, { tag := 0#32, before := 0, writes := 0, bad := 0, status := 0, addr := 0#32 }, { tag := 0#32, before := 0, writes := 0, bad := 0, status := 0, addr := 0#32 }, { tag := 0#32, before := 0, writes := 0, bad := 0, status := 0, addr := 0#32 }, { tag := 0#32, before := 0, writes := 0, bad := 0, status := 0, addr := 0#32 }, { tag := 0#32, before := 0, writes := 0, bad := 0, status := 0, addr := 0#32 }, { tag := 0#32, before := 0, writes := 0, bad := 0, status := 0, addr := 0#32 }, { tag := 0#32, before := 0, writes := 0, bad := 0, status := 0, addr := 0#32 }, { tag := 0#32, before := 0, writes := 0, bad := 0, status := 0, addr := 0#32 }, { tag := 0#32, before := 0, writes := 0, bad := 0, status := 0, addr := 0#32 }, { tag := 0#32, before := 0, writes := 0, bad := 0, status := 0, addr := 0#32 }, { tag := 0#32, before := 0, writes := 0, bad := 0, status := 0, addr := 0#32 }, { tag := 0#32, before := 0, writes := 0, bad := 0, status := 0, addr := 0#32 }, { tag := 0#32, before := 0, writes := 0, bad := 0, status := 0, addr := 0#32 }, { tag := 0#32, before := 0, writes := 0, bad := 0, status := 0, addr := 0#32 }, { tag := 0#32, before := 0, writes := 0, bad := 0, status := 0, addr := 0#32 }, { tag := 0#32, before := 0, writes := 0, bad := 0, status := 0, addr := 0#32 }, { tag := 0#32, before := 0, writes := 0, bad := 0, status := 0, addr := 0#32 }, { tag := 0#32, before := 0, writes := 0, bad := 0, status := 0, addr := 0#32 }, { tag := 0#32, before := 0, writes := 0, bad := 0, status := 0, addr := 0#32 }, { tag := 0#32, before := 0, writes := 0, bad := 0, status := 0, addr := 0#32 }, { tag := 0#32, before := 0, writes := 0, bad := 0, status := 0, addr := 0#32 }, { tag := 0#32, before := 0, writes := 0, bad := 0, status := 0, addr := 0#32 }, { tag := 0#32, before := 0, writes := 0, bad := 0, status := 0, addr := 0#32 }, { tag := 0#32, before := 0, writes := 0, bad := 0, status := 0, addr := 0#32 }, { tag := 0#32, before := 0, writes := 0, bad := 0, status := 0, addr := 0#32 }, { tag := 0#32, before := 0, writes := 0, bad := 0, status := 0, addr := 0#32 }, { tag := 0#32, before := 0, writes := 0, bad := 0, status := 0, addr := 0#32 }, { tag := 0#32, before := 0, writes := 0, bad := 0, status := 0, addr := 0#32 }, { tag := 0#32, before := 0, writes := 0, bad := 0, status := 0, addr := 0#32 }, { tag := 0#32, before := 0, writes := 0, bad := 0, status := 0, addr := 0#32 }, { tag := 0#32, before := 0, writes := 0, bad := 0, status := 0, addr := 0#32 }, { tag := 0#32, before := 0, writes := 0, bad := 0, status := 0, addr := 0#32 }, { tag := 0#32, before := 0, writes := 0, bad := 0, status := 0, addr := 0#32 }, { tag := 0#32, before := 0, writes := 0, bad := 0, status := 0, addr := 0#32 }, { tag := 0#32, before := 0, writes := 0, bad := 0, status := 0, addr := 0#32 }, { tag := 0#32, before := 0, writes := 0, bad := 0, status := 0, addr := 0#32 }, { tag := 0#32, before := 0, writes := 0, bad := 0, status := 0, addr := 0#32 }, { tag := 0#32, before := 0, writes := 0, bad := 0, status := 0, addr := 0#32 }, { tag := 0#32, before := 0, writes := 0, bad := 0, status := 0, addr := 0#32 }, { tag := 0#32, before := 0, writes := 0, bad := 0, status := 0, addr := 0#32 }, { tag := 0#32, before := 0, writes := 0, bad := 0, status := 0, addr := 0#32 }, { tag := 0#32, before := 0, writes := 0, bad := 0, status := 0, addr := 0#32 }, { tag := 0#32, before := 0, writes := 0, bad := 0, status := 0, addr := 0#32 }, { tag := 0#32, before := 0, writes := 0, bad := 0, status := 0, addr := 0#32 }, { tag := 0#32, before := 0, writes := 0, bad := 0, status := 0, addr := 0#32 }, { tag := 0#32, before := 0, writes := 0, bad := 0, status := 0, addr := 0#32 }, { tag := 0#32, before := 0, writes := 0, bad := 0, status := 0, addr := 0#32 }, { tag := 0#32, before := 0, writes := 0, bad := 0, status := 0, addr := 0#32 }, { tag := 0#32, before := 0, writes := 0, bad := 0, status := 0, addr := 0#32 }, { tag := 0#32, before := 0, writes := 0, bad := 0, status := 0, addr := 0#32 }, { tag := 0#32, before := 0, writes := 0, bad := 0, status := 0, addr := 0#32 }, { tag := 0#32, before := 0, writes := 0, bad := 0, status := 0, addr := 0#32 }, { tag := 0#32, before := 0, writes := 0, bad := 0, status := 0, addr := 0#32 }, { tag := 0#32, before := 0, writes := 0, bad := 0, status := 0, addr := 0#32 }, { tag := 0#32, before := 0, writes := 0, bad := 0, status := 0, addr := 0#32 }, { tag := 0#32, before := 0, writes := 0, bad := 0, status := 0, addr := 0#32 }] }) } },
        0, by decide +kernel⟩,
   ⟨{ ses := { tab := ((Vector.replicate 64 {}).set 1 { st := .open_ }) }, mod := { st := .stopped } }, 1, by decide +kernel⟩,
   ⟨{ ses := { tab := ((Vector.replicate 64 {}).set 0 { st := .open_ }) } }, 0, by decide +kernel⟩,
   ⟨{ ses := { tab := ((Vector.replicate 64 {}).set 0 { st := .open_, writeMask := 65535#16, classes := 16383#14 }) } }, 0, 128, by decide +kernel⟩,
   ⟨{ ses := { tab := ((Vector.replicate 64 {}).set 0 { st := .open_, writeMask := 65535#16, classes := 16383#14 }) } }, 0, 0, (List.replicate 48 65),
        by decide +kernel⟩,
   ⟨{ ses := { tab := ((Vector.replicate 64 {}).set 0 { st := .open_, writeMask := 1#16, classes := 16383#14 }) }, mod := { fwAlt := { st := 3 }, fwLoad := (List.replicate 1 32) } },
        0, 1, (List.replicate 0 0), by decide +kernel⟩,
   ⟨{}, by decide +kernel⟩,
   ⟨{ mod := { fwAlt := { st := 3 }, fwDone := true } }, by decide +kernel⟩,
   ⟨{ ses := { tab := ((Vector.replicate 64 {}).set 0 { st := .open_, classes := 16383#14 }) } }, 0, by decide +kernel⟩,
   ⟨{ ses := { tab := ((Vector.replicate 64 {}).set 0 { st := .open_, classes := 16383#14 }) }, mod := { fwAlt := { st := 3 } } }, 0,
        by decide +kernel⟩,
   ⟨{ ses := { tab := ((Vector.replicate 64 {}).set 0 { st := .open_, classes := 16383#14 }) } }, 0, by decide +kernel⟩,
   ⟨{ ses := { tab := ((Vector.replicate 64 {}).set 0 { st := .open_, classes := 16383#14 }) }, mod := { fwAlt := { st := 1 } } }, 0,
        by decide +kernel⟩,
   ⟨{ ses := { tab := ((Vector.replicate 64 {}).set 0 { st := .open_, classes := 16383#14, sel := { modArg := 2#2 } }) } }, 0, by decide +kernel⟩⟩

theorem test_met_SamplesAreTakenOnceAndJudgedWhenDue :
    (∃ (s : State) (f : InputFrame), s.links[f.link].up = false ∨ (linkEntry s f.link).enabled = false) ∧
    (∃ (s : State) (f : InputFrame), (s.links[f.link].up = true) ∧ ((linkEntry s f.link).enabled = true) ∧ (f.valid = false)) ∧
    (∃ (s : State) (f : InputFrame), (s.links[f.link].up = true) ∧ ((linkEntry s f.link).enabled = true) ∧ (f.valid = true) ∧
        (stnEntry s f.link f.pos = none)) ∧
    (∃ (s : State) (f : InputFrame) (e : StationEntry), (s.links[f.link].up = true) ∧ ((linkEntry s f.link).enabled = true) ∧ (f.valid = true) ∧
        (stnEntry s f.link f.pos = some e) ∧ (↑f.parts = 1) ∧ (↑f.part = 0) ∧ (s.links[f.link].stns[f.pos].parts = [])) ∧
    (∃ (s : State) (v : Via), firstCopy v s = true) ∧
    (∃ (s : State) (l : Fin 24) (p : Fin 32), stnEntry s l p = none ∨ s.links[l].stns[p].started = false ∨ s.tb.now < s.links[l].stns[p].nextDue) ∧
    (∃ (s : State) (l : Fin 24) (p : Fin 32) (e : StationEntry), (stnEntry s l p = some e) ∧ (s.links[l].stns[p].started = true) ∧
        (s.links[l].stns[p].nextDue ≤ s.tb.now)) ∧
    (∃ (s : State) (m : StationStatus), s.links[m.link].stns[m.pos].base = none) ∧
    (∃ (s : State) (m : StationStatus) (b : StationStatus), s.links[m.link].stns[m.pos].base = some b) ∧
    (∃ (s : State), sendsOutputs s = false ∨ inRun s = false ∨ s.tb.now < s.tsk.repeatAt) ∧
    (∃ (s : State), (sendsOutputs s = true) ∧ (inRun s = true) ∧ (s.tsk.repeatAt ≤ s.tb.now)) :=
  ⟨⟨{},
        { link := 0, valid := false, pos := 1, epoch := 4294967295#32, sample := 845090186#32, part := 0, parts := 46, hops := 6#8, time := 256, first := 21817#16, records := [1639631840216310226#128] },
        by decide +kernel⟩,
   ⟨{ img := { run := (some { links := ((Vector.replicate 24 {}).set 0 { enabled := true }) }) }, links := ((Vector.replicate 24 {}).set 0 { up := true }) },
        { link := 0, valid := false, pos := 2, epoch := 4176057843#32, sample := 4294967295#32, part := 0, parts := 0, hops := 3#8, time := 3, first := 65535#16, records := [268435456#128] },
        by decide +kernel⟩,
   ⟨{ img := { run := (some { links := ((Vector.replicate 24 {}).set 0 { enabled := true }) }) }, links := ((Vector.replicate 24 {}).set 0 { up := true }) },
        { link := 0, valid := true, pos := 3, epoch := 65535#32, sample := 4294967295#32, part := 33, parts := 1, hops := 1#8, time := 65535, first := 65535#16, records := [107083613228097099#128] },
        by decide +kernel⟩,
   ⟨{ img := { run := (some { links := ((Vector.replicate 24 {}).set 0 { enabled := true }), stations := [{ link := 0, pos := 0, witness := false, errTask := none, vendor := 0#32, device := 0#32, inFirst := 0, inCount := 0, outFirst := 0, outCount := 0, param := (List.replicate 0 0) }] }) }, links := ((Vector.replicate 24 {}).set 0 { up := true }) },
        { link := 0, valid := true, pos := 0, epoch := 1#32, sample := 4#32, part := 0, parts := 1, hops := 216#8, time := 256, first := 7236#16, records := [340282366920938463463374607431768211455#128, 2#128] },
        { link := 0, pos := 0, witness := false, errTask := none, vendor := 0#32, device := 0#32, inFirst := 0, inCount := 0, outFirst := 0, outCount := 0, param := (List.replicate 0 0) },
        by decide +kernel⟩,
   ⟨{ pair := { up := ((Vector.replicate 2 false).set 1 true) }, mod := { st := .active } }, { link := 1, seq := 10000000000000, errs := 1700 },
        by decide +kernel⟩,
   ⟨{}, 0, 0, by decide +kernel⟩,
   ⟨{ img := { run := (some { stations := [{ link := 0, pos := 1, witness := false, errTask := none, vendor := 0#32, device := 0#32, inFirst := 0, inCount := 0, outFirst := 0, outCount := 0, param := (List.replicate 0 0) }] }) }, links := ((Vector.replicate 24 {}).set 0 { stns := ((Vector.replicate 32 {}).set 1 { started := true }) }) },
        0, 1,
        { link := 0, pos := 1, witness := false, errTask := none, vendor := 0#32, device := 0#32, inFirst := 0, inCount := 0, outFirst := 0, outCount := 0, param := (List.replicate 0 0) },
        by decide +kernel⟩,
   ⟨{},
        { link := 0, pos := 1, twin := 0#32, stale := 845090186#32, unchecked := 0#32, watchdog := 4294967295#32, epoch := 4294967295#32, fcsP := 1#32, fcsQ := 4294967295#32, state := 3, flags := 1#2, hops := 0#8 },
        by decide +kernel⟩,
   ⟨{ links := ((Vector.replicate 24 {}).set 1 { stns := ((Vector.replicate 32 {}).set 0 { base := (some { link := 0, pos := 0, twin := 0#32, stale := 0#32, unchecked := 0#32, watchdog := 0#32, epoch := 0#32, fcsP := 0#32, fcsQ := 0#32, state := 0, flags := 0#2, hops := 0#8 }) }) }) },
        { link := 1, pos := 0, twin := 4294967295#32, stale := 1#32, unchecked := 7236#32, watchdog := 4#32, epoch := 1#32, fcsP := 2097152#32, fcsQ := 3#32, state := 2, flags := 2#2, hops := 5#8 },
        { link := 0, pos := 0, twin := 0#32, stale := 0#32, unchecked := 0#32, watchdog := 0#32, epoch := 0#32, fcsP := 0#32, fcsQ := 0#32, state := 0, flags := 0#2, hops := 0#8 },
        by decide +kernel⟩,
   ⟨{}, by decide +kernel⟩,
   ⟨{ mod := { st := .active } }, by decide +kernel⟩⟩

theorem test_met_StationsAreBroughtInStepByStep_1 :
    (∃ (s : State) (l : Fin 24) (p : Fin 32), stnEntry s l p = none ∨ valeDecides s = false ∨ s.links[l].bring[p].phase ≠ StnPhase.param) ∧
    (∃ (s : State) (l : Fin 24) (p : Fin 32) (o : ℕ) (r : Fin 4) (e : StationEntry), (stnEntry s l p = some e) ∧ (valeDecides s = true) ∧
        (s.links[l].bring[p].phase = StnPhase.param) ∧ (r = 0) ∧ (o ≠ s.links[l].bring[p].offset)) ∧
    (∃ (s : State) (l : Fin 24) (p : Fin 32) (o : ℕ) (r : Fin 4) (e : StationEntry), (stnEntry s l p = some e) ∧ (valeDecides s = true) ∧
        (s.links[l].bring[p].phase = StnPhase.param) ∧ (r = 0) ∧ (o = s.links[l].bring[p].offset) ∧ (o + (segmentAt e o).length < e.param.length)) ∧
    (∃ (s : State) (l : Fin 24) (p : Fin 32) (o : ℕ) (r : Fin 4) (e : StationEntry), (stnEntry s l p = some e) ∧ (valeDecides s = true) ∧
        (s.links[l].bring[p].phase = StnPhase.param) ∧ (r = 0) ∧ (o = s.links[l].bring[p].offset) ∧ (e.param.length ≤ o + (segmentAt e o).length)) ∧
    (∃ (s : State) (l : Fin 24) (p : Fin 32) (r : Fin 4) (e : StationEntry), (stnEntry s l p = some e) ∧ (valeDecides s = true) ∧
        (s.links[l].bring[p].phase = StnPhase.param) ∧ (r = 1) ∧ (s.links[l].bring[p].crcTries < 2)) ∧
    (∃ (s : State) (l : Fin 24) (p : Fin 32) (r : Fin 4) (e : StationEntry), (stnEntry s l p = some e) ∧ (valeDecides s = true) ∧
        (s.links[l].bring[p].phase = StnPhase.param) ∧ (r = 1) ∧ (2 ≤ s.links[l].bring[p].crcTries)) ∧
    (∃ (s : State) (l : Fin 24) (p : Fin 32) (r : Fin 4) (e : StationEntry), (stnEntry s l p = some e) ∧ (valeDecides s = true) ∧
        (s.links[l].bring[p].phase = StnPhase.param) ∧ (r = 2)) ∧
    (∃ (s : State) (l : Fin 24) (p : Fin 32) (r : Fin 4) (e : StationEntry), (stnEntry s l p = some e) ∧ (valeDecides s = true) ∧
        (s.links[l].bring[p].phase = StnPhase.param) ∧ (r = 3)) ∧
    (∃ (s : State) (l : Fin 24) (p : Fin 32), stnEntry s l p = none) ∧
    (∃ (s : State) (l : Fin 24) (p : Fin 32) (r : Fin 4) (e : StationEntry), (stnEntry s l p = some e) ∧ (r ≠ 0) ∧ (valeDecides s = false ∨
        s.links[l].bring[p].phase ≠ StnPhase.start)) ∧
    (∃ (s : State) (l : Fin 24) (p : Fin 32) (r : Fin 4) (e : StationEntry), (stnEntry s l p = some e) ∧ (r ≠ 0) ∧ (valeDecides s = true) ∧
        (s.links[l].bring[p].phase = StnPhase.start)) ∧
    (∃ (s : State) (l : Fin 24) (p : Fin 32), s.links[l].bring[p].phase = StnPhase.idle ∨ valeDecides s = false ∨
        s.tb.now < s.links[l].bring[p].timer) ∧
    (∃ (s : State) (l : Fin 24) (p : Fin 32), (s.links[l].bring[p].phase ≠ StnPhase.idle) ∧ (valeDecides s = true) ∧
        (s.links[l].bring[p].timer ≤ s.tb.now)) ∧
    (∃ (s : State) (l : Fin 24), List.filter (fun (e : StationEntry) => pollNeeded s e) (linkStations s l) = [] ∨ valeDecides s = false ∨
        canSend s l = false ∨ s.tb.now < s.links[l].lastPoll + 100000000) ∧
    (∃ (s : State) (l : Fin 24) (e : StationEntry), (List.filter (fun (e : StationEntry) => pollNeeded s e) (linkStations s l) = [e]) ∧
        (valeDecides s = true) ∧ (canSend s l = true) ∧ (s.links[l].lastPoll + 100000000 ≤ s.tb.now)) ∧
    (∃ (s : State) (l : Fin 24) (p : Fin 32), s.links[l].stns[p].st ≠ StnState.refused ∨ valeDecides s = false ∨
        s.tb.now < s.links[l].bring[p].retryAt ∨ s.links[l].bring[p].phase ≠ StnPhase.idle) ∧
    (∃ (s : State) (l : Fin 24) (p : Fin 32), (s.links[l].stns[p].st = StnState.refused) ∧ (valeDecides s = true) ∧
        (s.links[l].bring[p].retryAt ≤ s.tb.now) ∧ (s.links[l].bring[p].phase = StnPhase.idle)) ∧
    (∃ (s : State) (se : Fin 64) (p : Fin 32), (admitted (linkReg s) se s = true) ∧
        (stnEntry s (Fin.ofNat 24 s.ses.tab[se].sel.lnkSel.toNat) p = none ∨ canSend s (Fin.ofNat 24 s.ses.tab[se].sel.lnkSel.toNat) = false)) ∧
    (∃ (s : State) (se : Fin 64) (p : Fin 32), (admitted (linkReg s) se s = true) ∧
        (stnEntry s (Fin.ofNat 24 s.ses.tab[se].sel.lnkSel.toNat) p ≠ none) ∧ (canSend s (Fin.ofNat 24 s.ses.tab[se].sel.lnkSel.toNat) = true) ∧
        (s.links[Fin.ofNat 24 s.ses.tab[se].sel.lnkSel.toNat].stns[p].asker ≠ none ∨
        s.links[Fin.ofNat 24 s.ses.tab[se].sel.lnkSel.toNat].asker ≠ none)) ∧
    (∃ (s : State) (se : Fin 64) (p : Fin 32), (admitted (linkReg s) se s = true) ∧
        (stnEntry s (Fin.ofNat 24 s.ses.tab[se].sel.lnkSel.toNat) p ≠ none) ∧ (canSend s (Fin.ofNat 24 s.ses.tab[se].sel.lnkSel.toNat) = true) ∧
        (s.links[Fin.ofNat 24 s.ses.tab[se].sel.lnkSel.toNat].stns[p].asker = none) ∧
        (s.links[Fin.ofNat 24 s.ses.tab[se].sel.lnkSel.toNat].asker = none)) ∧
    (∃ (s : State) (se : Fin 64), (admitted (linkReg s) se s = true) ∧ (linkStations s (Fin.ofNat 24 s.ses.tab[se].sel.lnkSel.toNat) = [] ∨
        canSend s (Fin.ofNat 24 s.ses.tab[se].sel.lnkSel.toNat) = false)) ∧
    (∃ (s : State) (se : Fin 64), (admitted (linkReg s) se s = true) ∧ (linkStations s (Fin.ofNat 24 s.ses.tab[se].sel.lnkSel.toNat) ≠ []) ∧
        (canSend s (Fin.ofNat 24 s.ses.tab[se].sel.lnkSel.toNat) = true) ∧ (s.links[Fin.ofNat 24 s.ses.tab[se].sel.lnkSel.toNat].asker ≠ none)) ∧
    (∃ (s : State) (se : Fin 64), (admitted (linkReg s) se s = true) ∧ (linkStations s (Fin.ofNat 24 s.ses.tab[se].sel.lnkSel.toNat) ≠ []) ∧
        (canSend s (Fin.ofNat 24 s.ses.tab[se].sel.lnkSel.toNat) = true) ∧ (s.links[Fin.ofNat 24 s.ses.tab[se].sel.lnkSel.toNat].asker = none)) ∧
    (∃ (s : State) (se : Fin 64) (p : Fin 32), (admitted (linkReg s) se s = true) ∧ (canSend s (Fin.ofNat 24 s.ses.tab[se].sel.lnkSel.toNat) = false ∨
        s.links[Fin.ofNat 24 s.ses.tab[se].sel.lnkSel.toNat].stns[p].st ≠ StnState.refused ∧
        s.links[Fin.ofNat 24 s.ses.tab[se].sel.lnkSel.toNat].stns[p].st ≠ StnState.search)) :=
  ⟨⟨{}, 0, 0, by decide +kernel⟩,
   ⟨{ img := { run := (some { stations := [{ link := 0, pos := 0, witness := false, errTask := none, vendor := 0#32, device := 0#32, inFirst := 0, inCount := 0, outFirst := 0, outCount := 0, param := (List.replicate 0 0) }] }) }, links := ((Vector.replicate 24 {}).set 0 { bring := ((Vector.replicate 32 {}).set 0 { phase := .param }) }), mod := { st := .standby } },
        0, 0, 5000, 0,
        { link := 0, pos := 0, witness := false, errTask := none, vendor := 0#32, device := 0#32, inFirst := 0, inCount := 0, outFirst := 0, outCount := 0, param := (List.replicate 0 0) },
        by decide +kernel⟩,
   ⟨{ img := { run := (some { stations := [{ link := 0, pos := 0, witness := false, errTask := none, vendor := 0#32, device := 0#32, inFirst := 0, inCount := 0, outFirst := 0, outCount := 0, param := (List.replicate 2701 0) }] }) }, lsk := { commission := true }, lease := { holder := true, leaseEnd := 1000000000000000 }, links := ((Vector.replicate 24 {}).set 0 { up := true, enumerated := true, stns := ((Vector.replicate 32 {}).set 0 { st := .param }), bring := ((Vector.replicate 32 {}).set 0 { phase := .param }) }), ses := { tab := ((Vector.replicate 64 {}).set 0 { st := .open_, readMask := 65535#16, writeMask := 65535#16, classes := 16383#14 }), enrolKeyed := (some 15) }, lcd := { regions := ((Vector.replicate 16 {}).set 0 { entry := (some { num := 0, first := 0, count := 6, program := false, iconMask := 0#32, text := (List.replicate 0 0) }), text := [66#8, 79#8, 79#8, 84#8, 32#8, 32#8], icons := 134217728#32 }) }, mod := { st := .active } },
        0, 0, 0, 0,
        { link := 0, pos := 0, witness := false, errTask := none, vendor := 0#32, device := 0#32, inFirst := 0, inCount := 0, outFirst := 0, outCount := 0, param := (List.replicate 2701 0) },
        by decide +kernel⟩,
   ⟨{ img := { run := (some { stations := [{ link := 0, pos := 0, witness := false, errTask := none, vendor := 0#32, device := 0#32, inFirst := 0, inCount := 0, outFirst := 0, outCount := 0, param := (List.replicate 0 0) }] }) }, links := ((Vector.replicate 24 {}).set 0 { bring := ((Vector.replicate 32 {}).set 0 { phase := .param }) }), mod := { st := .standby } },
        0, 0, 0, 0,
        { link := 0, pos := 0, witness := false, errTask := none, vendor := 0#32, device := 0#32, inFirst := 0, inCount := 0, outFirst := 0, outCount := 0, param := (List.replicate 0 0) },
        by decide +kernel⟩,
   ⟨{ img := { run := (some { stations := [{ link := 0, pos := 0, witness := false, errTask := none, vendor := 0#32, device := 0#32, inFirst := 0, inCount := 0, outFirst := 0, outCount := 0, param := (List.replicate 0 0) }] }) }, links := ((Vector.replicate 24 {}).set 0 { bring := ((Vector.replicate 32 {}).set 0 { phase := .param }) }), mod := { st := .active } },
        0, 0, 1,
        { link := 0, pos := 0, witness := false, errTask := none, vendor := 0#32, device := 0#32, inFirst := 0, inCount := 0, outFirst := 0, outCount := 0, param := (List.replicate 0 0) },
        by decide +kernel⟩,
   ⟨{ img := { run := (some { stations := [{ link := 0, pos := 0, witness := false, errTask := none, vendor := 0#32, device := 0#32, inFirst := 0, inCount := 0, outFirst := 0, outCount := 0, param := (List.replicate 0 0) }] }) }, links := ((Vector.replicate 24 {}).set 0 { bring := ((Vector.replicate 32 {}).set 0 { phase := .param, crcTries := 3 }) }), mod := { st := .standby } },
        0, 0, 1,
        { link := 0, pos := 0, witness := false, errTask := none, vendor := 0#32, device := 0#32, inFirst := 0, inCount := 0, outFirst := 0, outCount := 0, param := (List.replicate 0 0) },
        by decide +kernel⟩,
   ⟨{ img := { run := (some { stations := [{ link := 0, pos := 0, witness := false, errTask := none, vendor := 0#32, device := 0#32, inFirst := 0, inCount := 0, outFirst := 0, outCount := 0, param := (List.replicate 0 0) }] }) }, links := ((Vector.replicate 24 {}).set 0 { bring := ((Vector.replicate 32 {}).set 0 { phase := .param }) }), mod := { st := .standby } },
        0, 0, 2,
        { link := 0, pos := 0, witness := false, errTask := none, vendor := 0#32, device := 0#32, inFirst := 0, inCount := 0, outFirst := 0, outCount := 0, param := (List.replicate 0 0) },
        by decide +kernel⟩,
   ⟨{ img := { run := (some { stations := [{ link := 0, pos := 0, witness := false, errTask := none, vendor := 0#32, device := 0#32, inFirst := 0, inCount := 0, outFirst := 0, outCount := 0, param := (List.replicate 0 0) }] }) }, links := ((Vector.replicate 24 {}).set 0 { bring := ((Vector.replicate 32 {}).set 0 { phase := .param }) }), mod := { st := .standby } },
        0, 0, 3,
        { link := 0, pos := 0, witness := false, errTask := none, vendor := 0#32, device := 0#32, inFirst := 0, inCount := 0, outFirst := 0, outCount := 0, param := (List.replicate 0 0) },
        by decide +kernel⟩,
   ⟨{}, 0, 0, by decide +kernel⟩,
   ⟨{ img := { run := (some { stations := [{ link := 0, pos := 0, witness := false, errTask := none, vendor := 0#32, device := 0#32, inFirst := 0, inCount := 0, outFirst := 0, outCount := 0, param := (List.replicate 0 0) }] }) } },
        0, 0, 1,
        { link := 0, pos := 0, witness := false, errTask := none, vendor := 0#32, device := 0#32, inFirst := 0, inCount := 0, outFirst := 0, outCount := 0, param := (List.replicate 0 0) },
        by decide +kernel⟩,
   ⟨{ img := { run := (some { stations := [{ link := 0, pos := 0, witness := false, errTask := none, vendor := 0#32, device := 0#32, inFirst := 0, inCount := 0, outFirst := 0, outCount := 0, param := (List.replicate 0 0) }] }) }, links := ((Vector.replicate 24 {}).set 0 { bring := ((Vector.replicate 32 {}).set 0 { phase := .start }) }), mod := { st := .standby } },
        0, 0, 3,
        { link := 0, pos := 0, witness := false, errTask := none, vendor := 0#32, device := 0#32, inFirst := 0, inCount := 0, outFirst := 0, outCount := 0, param := (List.replicate 0 0) },
        by decide +kernel⟩,
   ⟨{}, 0, 0, by decide +kernel⟩,
   ⟨{ lease := { holder := true, leaseEnd := 2 }, links := ((Vector.replicate 24 {}).set 0 { bring := ((Vector.replicate 32 {}).set 1 { phase := .param }) }) },
        0, 1, by decide +kernel⟩,
   ⟨{}, 0, by decide +kernel⟩,
   ⟨{ tb := { now := 122070312 }, img := { run := (some { links := ((Vector.replicate 24 {}).set 0 { enabled := true }), stations := [{ link := 0, pos := 0, witness := false, errTask := none, vendor := 0#32, device := 0#32, inFirst := 0, inCount := 0, outFirst := 0, outCount := 0, param := (List.replicate 0 0) }] }) }, links := ((Vector.replicate 24 {}).set 0 { up := true }), mod := { st := .active } },
        0,
        { link := 0, pos := 0, witness := false, errTask := none, vendor := 0#32, device := 0#32, inFirst := 0, inCount := 0, outFirst := 0, outCount := 0, param := (List.replicate 0 0) },
        by decide +kernel⟩,
   ⟨{}, 0, 0, by decide +kernel⟩,
   ⟨{ links := ((Vector.replicate 24 {}).set 0 { stns := ((Vector.replicate 32 {}).set 0 { st := .refused }) }), mod := { st := .active } }, 0, 0,
        by decide +kernel⟩,
   ⟨{ ses := { tab := ((Vector.replicate 64 {}).set 0 { st := .open_, classes := 16383#14 }) } }, 0, 0, by decide +kernel⟩,
   ⟨{ img := { run := (some { links := ((Vector.replicate 24 {}).set 0 { enabled := true }), stations := [{ link := 0, pos := 0, witness := false, errTask := none, vendor := 0#32, device := 0#32, inFirst := 0, inCount := 0, outFirst := 0, outCount := 0, param := (List.replicate 0 0) }] }) }, links := ((Vector.replicate 24 {}).set 0 { up := true, stns := ((Vector.replicate 32 {}).set 0 { asker := (some (Origin.relayed 0 0)) }) }), ses := { tab := ((Vector.replicate 64 {}).set 0 { st := .open_, classes := 16383#14 }) } },
        0, 0, by decide +kernel⟩,
   ⟨{ img := { run := (some { links := ((Vector.replicate 24 {}).set 0 { enabled := true }), stations := [{ link := 0, pos := 0, witness := false, errTask := none, vendor := 0#32, device := 0#32, inFirst := 0, inCount := 0, outFirst := 0, outCount := 0, param := (List.replicate 0 0) }] }) }, links := (((Vector.replicate 24 {}).set 0 { up := true }).set 18 { acc := { relay := 256 } }), ses := { tab := ((((Vector.replicate 64 {}).set 0 { st := .open_, classes := 16383#14 }).set 12 { violAddr := 16384#32, fenceAddr := 4294967295#32 }).set 23 { violCnt := 15, fenceBad := 16 }) } },
        0, 0, by decide +kernel⟩,
   ⟨{ ses := { tab := ((Vector.replicate 64 {}).set 0 { st := .open_, classes := 16383#14 }) } }, 0, by decide +kernel⟩,
   ⟨{ img := { run := (some { links := ((Vector.replicate 24 {}).set 0 { enabled := true }), stations := [{ link := 0, pos := 0, witness := false, errTask := none, vendor := 0#32, device := 0#32, inFirst := 0, inCount := 0, outFirst := 0, outCount := 0, param := (List.replicate 0 0) }] }) }, links := ((((Vector.replicate 24 {}).set 0 { up := true, asker := (some (Origin.relayed 0 0)) }).set 12 { up := true, lastPoll := 1, lat := { miss := 128 } }).set 18 { wire := 65535, wireIn := 64, delay := (100000000) }), ses := { tab := ((((Vector.replicate 64 {}).set 0 { st := .open_, classes := 16383#14 }).set 12 { classes := 16383#14, ip := 1#32 }).set 23 { wrDropUsed := 65535#16, violCnt := 15 }) } },
        0, by decide +kernel⟩,
   ⟨{ img := { run := (some { links := ((Vector.replicate 24 {}).set 0 { enabled := true }), stations := [{ link := 0, pos := 0, witness := false, errTask := none, vendor := 0#32, device := 0#32, inFirst := 0, inCount := 0, outFirst := 0, outCount := 0, param := (List.replicate 0 0) }] }) }, links := ((Vector.replicate 24 {}).set 0 { up := true }), ses := { tab := ((Vector.replicate 64 {}).set 0 { st := .open_, classes := 16383#14 }) } },
        0, by decide +kernel⟩,
   ⟨{ ses := { tab := ((Vector.replicate 64 {}).set 0 { st := .open_, classes := 16383#14 }) } }, 0, 0, by decide +kernel⟩⟩

theorem test_met_StationsAreBroughtInStepByStep_2 :
    (∃ (s : State) (se : Fin 64) (p : Fin 32), (admitted (linkReg s) se s = true) ∧ (canSend s (Fin.ofNat 24 s.ses.tab[se].sel.lnkSel.toNat) = true) ∧
        (s.links[Fin.ofNat 24 s.ses.tab[se].sel.lnkSel.toNat].stns[p].st = StnState.refused ∨
        s.links[Fin.ofNat 24 s.ses.tab[se].sel.lnkSel.toNat].stns[p].st = StnState.search) ∧
        (s.links[Fin.ofNat 24 s.ses.tab[se].sel.lnkSel.toNat].stns[p].asker ≠ none ∨
        s.links[Fin.ofNat 24 s.ses.tab[se].sel.lnkSel.toNat].bring[p].phase ≠ StnPhase.idle)) ∧
    (∃ (s : State) (se : Fin 64) (p : Fin 32), (admitted (linkReg s) se s = true) ∧ (canSend s (Fin.ofNat 24 s.ses.tab[se].sel.lnkSel.toNat) = true) ∧
        (s.links[Fin.ofNat 24 s.ses.tab[se].sel.lnkSel.toNat].stns[p].st = StnState.refused ∨
        s.links[Fin.ofNat 24 s.ses.tab[se].sel.lnkSel.toNat].stns[p].st = StnState.search) ∧
        (s.links[Fin.ofNat 24 s.ses.tab[se].sel.lnkSel.toNat].stns[p].asker = none) ∧
        (s.links[Fin.ofNat 24 s.ses.tab[se].sel.lnkSel.toNat].bring[p].phase = StnPhase.idle)) :=
  ⟨⟨{ img := { run := (some { links := ((Vector.replicate 24 {}).set 0 { enabled := true }) }) }, links := ((((Vector.replicate 24 {}).set 0 { up := true, stns := ((Vector.replicate 32 {}).set 0 { st := .search }), bring := ((Vector.replicate 32 {}).set 0 { phase := .param }) }).set 12 { counts := [(3, 912687978#32)] }).set 18 { asker := (some (Origin.relayed 2 19)) }), ses := { tab := (((Vector.replicate 64 {}).set 0 { st := .open_, classes := 16383#14 }).set 12 { readMask := 65535#16, writeMask := 65535#16 }) } },
        0, 0, by decide +kernel⟩,
   ⟨{ img := { run := (some { links := ((Vector.replicate 24 {}).set 0 { enabled := true }) }) }, links := ((((Vector.replicate 24 {}).set 0 { up := true, stns := ((Vector.replicate 32 {}).set 1 { st := .search }) }).set 12 { counts := [(3, 268435456#32)] }).set 18 { wireIn := 60000000000 }), ses := { tab := ((Vector.replicate 64 {}).set 0 { st := .open_, classes := 16383#14 }) } },
        0, 1, by decide +kernel⟩⟩

theorem test_met_LinksUpDownRingsAndTimeAreFollowed :
    (∃ (s : State) (l : Fin 24), s.links[l].up = true) ∧
    (∃ (s : State) (l : Fin 24), s.links[l].up = false) ∧
    (∃ (s : State) (l : Fin 24), s.tb.now < s.links[l].partnerAt + 1000000) ∧
    (∃ (s : State) (l : Fin 24), (s.links[l].partnerAt + 1000000 ≤ s.tb.now) ∧ ((linkEntry s l).ring = true) ∧ ((linkEntry s l).enabled = true) ∧
        (partnerPresent s = true) ∧ (s.links[l].ringOpen = false)) ∧
    (∃ (s : State) (l : Fin 24), (s.links[l].partnerAt + 1000000 ≤ s.tb.now) ∧ ((linkEntry s l).ring = false ∨ (linkEntry s l).enabled = false ∨
        partnerPresent s = false ∨ s.links[l].ringOpen = true)) ∧
    (∃ (s : State) (l : Fin 24), canSend s l = false ∨ s.tb.now < s.links[l].pdelayAt) ∧
    (∃ (s : State) (l : Fin 24), (canSend s l = true) ∧ (s.links[l].pdelayAt ≤ s.tb.now)) ∧
    (∃ (s : State) (l : Fin 24), s.links[l].delayReq = none) ∧
    (∃ (s : State) (l : Fin 24) (t1 : ℕ), s.links[l].delayReq = some t1) ∧
    (∃ (s : State) (l : Fin 24), canSend s l = false) ∧
    (∃ (s : State), valeDecides s = false ∨ s.tb.now < s.tb.valeTimeAt) ∧
    (∃ (s : State), (valeDecides s = true) ∧ (s.tb.valeTimeAt ≤ s.tb.now)) :=
  ⟨⟨{ links := ((Vector.replicate 24 {}).set 0 { up := true }) }, 0, by decide +kernel⟩,
   ⟨{}, 0, by decide +kernel⟩,
   ⟨{}, 23, by decide +kernel⟩,
   ⟨{ tb := { now := 1525878 }, img := { run := (some { links := ((Vector.replicate 24 {}).set 1 { enabled := true, ring := true }) }) }, pair := { partner := .without } },
        1, by decide +kernel⟩,
   ⟨{ tb := { now := 1525878 } }, 23, by decide +kernel⟩,
   ⟨{}, 0, by decide +kernel⟩,
   ⟨{ img := { run := (some { links := ((Vector.replicate 24 {}).set 0 { enabled := true }) }) }, links := ((Vector.replicate 24 {}).set 0 { up := true }) },
        0, by decide +kernel⟩,
   ⟨{}, 0, by decide +kernel⟩,
   ⟨{ links := ((Vector.replicate 24 {}).set 0 { delayReq := (some 0) }) }, 0, 0, by decide +kernel⟩,
   ⟨{}, 0, by decide +kernel⟩,
   ⟨{}, by decide +kernel⟩,
   ⟨{ lease := { holder := true, leaseEnd := 2 } }, by decide +kernel⟩⟩

theorem test_met_FordFramesCarryCommandsAndReadings :
    (∃ (s : State), s.tb.now < s.io.fordAt ∨ s.mod.st = ModState.off ∨ s.mod.st = ModState.stopped ∨ s.mod.st = ModState.failed) ∧
    (∃ (s : State), (s.io.fordAt ≤ s.tb.now) ∧ (s.mod.st ≠ ModState.off) ∧ (s.mod.st ≠ ModState.stopped) ∧ (s.mod.st ≠ ModState.failed) ∧
        (s.mod.st ≠ ModState.calibrate)) ∧
    (∃ (s : State) (n : Fin 24), inRun s = false ∨ s.io.isl[n].st = IslState.oos ∨ s.io.isl[n].st = IslState.returning) ∧
    (∃ (s : State) (n : Fin 24), (inRun s = true) ∧ (s.io.isl[n].st = IslState.in_)) ∧
    (∃ (s : State) (n : Fin 24), s.io.own[n].down = none) ∧
    (∃ (s : State) (n : Fin 24) (f : DownFrame), (s.io.own[n].down = some f) ∧ (s.io.isl[n].st = IslState.off ∨ s.io.isl[n].restartAt ≠ none ∨
        s.io.own[n].inReset = true)) ∧
    (∃ (s : State) (n : Fin 24) (crc : Bool) (f : DownFrame) (q : BitVec 16), (s.io.own[n].down = some f) ∧ (s.io.isl[n].st ≠ IslState.off) ∧
        (s.io.isl[n].restartAt = none) ∧ (s.io.own[n].inReset = false) ∧ (s.io.own[n].lastSeq = some q) ∧
        (s.tb.now < s.io.own[n].lastAccept + silenceTime s n) ∧ (crc = false ∨ (f.seq - q).toNat = 0 ∨ 16 < (f.seq - q).toNat)) ∧
    (∃ (s : State) (n : Fin 24) (crc : Bool) (f : DownFrame), (s.io.own[n].down = some f) ∧ (s.io.isl[n].st ≠ IslState.off) ∧
        (s.io.isl[n].restartAt = none) ∧ (s.io.own[n].inReset = false) ∧ (crc = true) ∧ (s.io.own[n].lastSeq = none ∨
        s.tb.now < s.io.own[n].lastAccept + silenceTime s n ∧ ∃ (q : BitVec 16), s.io.own[n].lastSeq = some q ∧ 1 ≤ (f.seq - q).toNat ∧
        (f.seq - q).toNat ≤ 16) ∧ (f.islCmd = none) ∧ (f.chanCmd = none) ∧ (f.config = false)) ∧
    (∃ (s : State) (n : Fin 24), s.io.own[n].up = none) ∧
    (∃ (s : State) (n : Fin 24) (crc : Bool) (r : UpFrame), (s.io.own[n].up = some r) ∧ (s.io.isl[n].st = IslState.off ∨ crc = true ∧
        r.seq ≠ s.io.isl[n].seq)) ∧
    (∃ (s : State) (n : Fin 24) (crc : Bool) (r : UpFrame), (s.io.own[n].up = some r) ∧ (s.io.isl[n].st ≠ IslState.off) ∧ (crc = false)) ∧
    (∃ (s : State) (n : Fin 24) (crc : Bool) (r : UpFrame), (s.io.own[n].up = some r) ∧ (s.io.isl[n].st ≠ IslState.off) ∧ (crc = true) ∧
        (r.seq = s.io.isl[n].seq) ∧ (s.io.own[n].reports = []) ∧ (s.io.own[n].results = []) ∧ (r.events = []) ∧ (s.mod.st ≠ ModState.calibrate)) ∧
    (∃ (s : State) (n : Fin 24), s.io.own[n].silent = true ∨ s.io.own[n].lastSeq = none ∨ s.tb.now < s.io.own[n].lastAccept + silenceTime s n) ∧
    (∃ (s : State) (n : Fin 24), (s.io.own[n].silent = false) ∧ (s.io.own[n].lastSeq ≠ none) ∧
        (s.io.own[n].lastAccept + silenceTime s n ≤ s.tb.now)) ∧
    (∃ (s : State) (n : Fin 24), s.io.isl[n].st = IslState.off ∨ s.io.isl[n].restartAt ≠ none) ∧
    (∃ (s : State) (n : Fin 24), (s.io.isl[n].st ≠ IslState.off) ∧ (s.io.isl[n].restartAt = none)) ∧
    (∃ (s : State) (n : Fin 24), s.io.isl[n].restartAt = none) ∧
    (∃ (s : State) (n : Fin 24) (t0 : ℕ), (s.io.isl[n].restartAt = some t0) ∧ (s.tb.now < t0)) ∧
    (∃ (s : State) (n : Fin 24) (t0 : ℕ), (s.io.isl[n].restartAt = some t0) ∧ (t0 ≤ s.tb.now)) :=
  ⟨⟨{ io := { fordAt := 1 } }, by decide +kernel⟩,
   ⟨{}, by decide +kernel⟩,
   ⟨{}, 0, by decide +kernel⟩,
   ⟨{ io := { isl := ((Vector.replicate 24 {}).set 0 { st := .in_ }) }, mod := { st := .standby } }, 0, by decide +kernel⟩,
   ⟨{}, 0, by decide +kernel⟩,
   ⟨{ io := { own := ((Vector.replicate 24 {}).set 1 { down := (some { seq := 0#16, beacon := 0, latency := 0, rate := (0), leaseEnd := none, safe := false, resume := false, unchecked := false, paired := false, values := [], chanCmd := none, islCmd := none, config := false, sharesOff := false }) }) } },
        1,
        { seq := 0#16, beacon := 0, latency := 0, rate := (0), leaseEnd := none, safe := false, resume := false, unchecked := false, paired := false, values := [], chanCmd := none, islCmd := none, config := false, sharesOff := false },
        by decide +kernel⟩,
   ⟨{ io := { isl := ((Vector.replicate 24 {}).set 0 { st := .returning }), own := ((Vector.replicate 24 {}).set 0 { down := (some { seq := 0#16, beacon := 0, latency := 0, rate := (0), leaseEnd := none, safe := false, resume := false, unchecked := false, paired := false, values := [], chanCmd := none, islCmd := none, config := false, sharesOff := false }), lastSeq := (some 0#16) }) } },
        0, false,
        { seq := 0#16, beacon := 0, latency := 0, rate := (0), leaseEnd := none, safe := false, resume := false, unchecked := false, paired := false, values := [], chanCmd := none, islCmd := none, config := false, sharesOff := false },
        0#16, by decide +kernel⟩,
   ⟨{ io := { isl := ((Vector.replicate 24 {}).set 0 { st := .in_ }), own := ((Vector.replicate 24 {}).set 0 { down := (some { seq := 0#16, beacon := 0, latency := 0, rate := (0), leaseEnd := none, safe := false, resume := false, unchecked := false, paired := false, values := [], chanCmd := none, islCmd := none, config := false, sharesOff := false }) }) } },
        0, true,
        { seq := 0#16, beacon := 0, latency := 0, rate := (0), leaseEnd := none, safe := false, resume := false, unchecked := false, paired := false, values := [], chanCmd := none, islCmd := none, config := false, sharesOff := false },
        by decide +kernel⟩,
   ⟨{}, 0, by decide +kernel⟩,
   ⟨{ io := { own := ((Vector.replicate 24 {}).set 1 { up := (some { seq := 0#16, turn := 0, vb := 0, temp := 0#16, lplus := 0, restarted := false, fault := false, silent := false, safe := false, uncertain := false, chans := [], events := [], supWarn := false, supLost := false, calRun := false, band := 0, seqGaps := 0, evLost := 0, beaconsMissed := 0 }) }) } },
        1, true,
        { seq := 0#16, turn := 0, vb := 0, temp := 0#16, lplus := 0, restarted := false, fault := false, silent := false, safe := false, uncertain := false, chans := [], events := [], supWarn := false, supLost := false, calRun := false, band := 0, seqGaps := 0, evLost := 0, beaconsMissed := 0 },
        by decide +kernel⟩,
   ⟨{ io := { isl := ((Vector.replicate 24 {}).set 0 { st := .boot }), own := ((Vector.replicate 24 {}).set 0 { up := (some { seq := 0#16, turn := 0, vb := 0, temp := 0#16, lplus := 0, restarted := false, fault := false, silent := false, safe := false, uncertain := false, chans := [], events := [], supWarn := false, supLost := false, calRun := false, band := 0, seqGaps := 0, evLost := 0, beaconsMissed := 0 }) }) } },
        0, false,
        { seq := 0#16, turn := 0, vb := 0, temp := 0#16, lplus := 0, restarted := false, fault := false, silent := false, safe := false, uncertain := false, chans := [], events := [], supWarn := false, supLost := false, calRun := false, band := 0, seqGaps := 0, evLost := 0, beaconsMissed := 0 },
        by decide +kernel⟩,
   ⟨{ io := { isl := ((Vector.replicate 24 {}).set 1 { st := .returning, seq := 9228#16 }), own := ((Vector.replicate 24 {}).set 1 { up := (some { seq := 9228#16, turn := 0, vb := 0, temp := 0#16, lplus := 0, restarted := false, fault := false, silent := false, safe := false, uncertain := false, chans := [], events := [], supWarn := false, supLost := false, calRun := false, band := 0, seqGaps := 0, evLost := 0, beaconsMissed := 0 }) }) } },
        1, true,
        { seq := 9228#16, turn := 0, vb := 0, temp := 0#16, lplus := 0, restarted := false, fault := false, silent := false, safe := false, uncertain := false, chans := [], events := [], supWarn := false, supLost := false, calRun := false, band := 0, seqGaps := 0, evLost := 0, beaconsMissed := 0 },
        by decide +kernel⟩,
   ⟨{}, 0, by decide +kernel⟩,
   ⟨{ tb := { now := 7629394 }, io := { own := ((Vector.replicate 24 {}).set 0 { lastSeq := (some 0#16) }) } }, 0, by decide +kernel⟩,
   ⟨{}, 0, by decide +kernel⟩,
   ⟨{ io := { isl := ((Vector.replicate 24 {}).set 0 { st := .oos }) } }, 0, by decide +kernel⟩,
   ⟨{}, 0, by decide +kernel⟩,
   ⟨{ io := { isl := ((Vector.replicate 24 {}).set 0 { restartAt := (some 1) }) } }, 0, 1, by decide +kernel⟩,
   ⟨{ io := { isl := ((Vector.replicate 24 {}).set 0 { restartAt := (some 0) }) } }, 0, 0, by decide +kernel⟩⟩

theorem test_met_ChannelCommandsAreCheckedForwardedAndPlaced :
    (∃ (s : State) (se : Fin 64) (c : Instr) (cmd : ChanCmd), (admitted regCh se s = true) ∧ (c = Instr.calIsland se ∧
        cmd = ChanCmd.calIsland (Fin.ofNat 24 s.ses.tab[se].sel.islSel.toNat) ∨ c = Instr.urgent se ∧
        cmd = ChanCmd.urgent (Fin.ofNat 192 s.ses.tab[se].sel.chSel.toNat) ∨ c = Instr.owtest se ∧
        cmd = ChanCmd.owtest (Fin.ofNat 192 s.ses.tab[se].sel.chSel.toNat) (BitVec.getLsbD s.ses.tab[se].sel.chArg 0) ∨ c = Instr.calload se ∧
        cmd = ChanCmd.calload (Fin.ofNat 192 s.ses.tab[se].sel.chSel.toNat) (BitVec.extractLsb' 0 32 s.ses.tab[se].sel.chArg) (BitVec.extractLsb' 32 32 s.ses.tab[se].sel.chArg) ∨
        c = Instr.cntpreset se ∧
        cmd = ChanCmd.cntpreset (Fin.ofNat 192 s.ses.tab[se].sel.chSel.toNat) (BitVec.extractLsb' 0 32 s.ses.tab[se].sel.chArg) ∨
        c = Instr.cntreset se ∧ cmd = ChanCmd.cntreset (Fin.ofNat 192 s.ses.tab[se].sel.chSel.toNat) ∨ c = Instr.supplyRelease se ∧
        cmd = ChanCmd.supplyRelease (Fin.ofNat 24 s.ses.tab[se].sel.islSel.toNat) ∨ c = Instr.islRestart se ∧
        cmd = ChanCmd.islRestart (Fin.ofNat 24 s.ses.tab[se].sel.islSel.toNat)) ∧ (cmdBusy s cmd = true)) ∧
    (∃ (s : State) (se : Fin 64) (c : Instr) (cmd : ChanCmd), (admitted regCh se s = true) ∧ (c = Instr.calIsland se ∧
        cmd = ChanCmd.calIsland (Fin.ofNat 24 s.ses.tab[se].sel.islSel.toNat) ∨ c = Instr.urgent se ∧
        cmd = ChanCmd.urgent (Fin.ofNat 192 s.ses.tab[se].sel.chSel.toNat) ∨ c = Instr.owtest se ∧
        cmd = ChanCmd.owtest (Fin.ofNat 192 s.ses.tab[se].sel.chSel.toNat) (BitVec.getLsbD s.ses.tab[se].sel.chArg 0) ∨ c = Instr.calload se ∧
        cmd = ChanCmd.calload (Fin.ofNat 192 s.ses.tab[se].sel.chSel.toNat) (BitVec.extractLsb' 0 32 s.ses.tab[se].sel.chArg) (BitVec.extractLsb' 32 32 s.ses.tab[se].sel.chArg) ∨
        c = Instr.cntpreset se ∧
        cmd = ChanCmd.cntpreset (Fin.ofNat 192 s.ses.tab[se].sel.chSel.toNat) (BitVec.extractLsb' 0 32 s.ses.tab[se].sel.chArg) ∨
        c = Instr.cntreset se ∧ cmd = ChanCmd.cntreset (Fin.ofNat 192 s.ses.tab[se].sel.chSel.toNat) ∨ c = Instr.supplyRelease se ∧
        cmd = ChanCmd.supplyRelease (Fin.ofNat 24 s.ses.tab[se].sel.islSel.toNat) ∨ c = Instr.islRestart se ∧
        cmd = ChanCmd.islRestart (Fin.ofNat 24 s.ses.tab[se].sel.islSel.toNat)) ∧ (cmdBusy s cmd = false) ∧ (∃ (x : Fin 192), cmdChan cmd = some x ∧
        modeAccepts (chanEntry s x) cmd = false)) ∧
    (∃ (s : State) (se : Fin 64) (c : Instr) (cmd : ChanCmd), (admitted regCh se s = true) ∧ (c = Instr.calIsland se ∧
        cmd = ChanCmd.calIsland (Fin.ofNat 24 s.ses.tab[se].sel.islSel.toNat) ∨ c = Instr.urgent se ∧
        cmd = ChanCmd.urgent (Fin.ofNat 192 s.ses.tab[se].sel.chSel.toNat) ∨ c = Instr.owtest se ∧
        cmd = ChanCmd.owtest (Fin.ofNat 192 s.ses.tab[se].sel.chSel.toNat) (BitVec.getLsbD s.ses.tab[se].sel.chArg 0) ∨ c = Instr.calload se ∧
        cmd = ChanCmd.calload (Fin.ofNat 192 s.ses.tab[se].sel.chSel.toNat) (BitVec.extractLsb' 0 32 s.ses.tab[se].sel.chArg) (BitVec.extractLsb' 32 32 s.ses.tab[se].sel.chArg) ∨
        c = Instr.cntpreset se ∧
        cmd = ChanCmd.cntpreset (Fin.ofNat 192 s.ses.tab[se].sel.chSel.toNat) (BitVec.extractLsb' 0 32 s.ses.tab[se].sel.chArg) ∨
        c = Instr.cntreset se ∧ cmd = ChanCmd.cntreset (Fin.ofNat 192 s.ses.tab[se].sel.chSel.toNat) ∨ c = Instr.supplyRelease se ∧
        cmd = ChanCmd.supplyRelease (Fin.ofNat 24 s.ses.tab[se].sel.islSel.toNat) ∨ c = Instr.islRestart se ∧
        cmd = ChanCmd.islRestart (Fin.ofNat 24 s.ses.tab[se].sel.islSel.toNat)) ∧ (cmdBusy s cmd = false) ∧ (∀ (x : Fin 192),
        cmdChan cmd = some x → modeAccepts (chanEntry s x) cmd = true) ∧
        (if cmdCode cmd = 8 then s.io.isl[cmdIsland cmd].st = IslState.off else s.io.isl[cmdIsland cmd].st ≠ IslState.in_)) ∧
    (∃ (s : State) (se : Fin 64) (c : Instr) (cmd : ChanCmd), (admitted regCh se s = true) ∧ (c = Instr.calIsland se ∧
        cmd = ChanCmd.calIsland (Fin.ofNat 24 s.ses.tab[se].sel.islSel.toNat) ∨ c = Instr.urgent se ∧
        cmd = ChanCmd.urgent (Fin.ofNat 192 s.ses.tab[se].sel.chSel.toNat) ∨ c = Instr.owtest se ∧
        cmd = ChanCmd.owtest (Fin.ofNat 192 s.ses.tab[se].sel.chSel.toNat) (BitVec.getLsbD s.ses.tab[se].sel.chArg 0) ∨ c = Instr.calload se ∧
        cmd = ChanCmd.calload (Fin.ofNat 192 s.ses.tab[se].sel.chSel.toNat) (BitVec.extractLsb' 0 32 s.ses.tab[se].sel.chArg) (BitVec.extractLsb' 32 32 s.ses.tab[se].sel.chArg) ∨
        c = Instr.cntpreset se ∧
        cmd = ChanCmd.cntpreset (Fin.ofNat 192 s.ses.tab[se].sel.chSel.toNat) (BitVec.extractLsb' 0 32 s.ses.tab[se].sel.chArg) ∨
        c = Instr.cntreset se ∧ cmd = ChanCmd.cntreset (Fin.ofNat 192 s.ses.tab[se].sel.chSel.toNat) ∨ c = Instr.supplyRelease se ∧
        cmd = ChanCmd.supplyRelease (Fin.ofNat 24 s.ses.tab[se].sel.islSel.toNat) ∨ c = Instr.islRestart se ∧
        cmd = ChanCmd.islRestart (Fin.ofNat 24 s.ses.tab[se].sel.islSel.toNat)) ∧ (cmdBusy s cmd = false) ∧ (∀ (x : Fin 192),
        cmdChan cmd = some x → modeAccepts (chanEntry s x) cmd = true) ∧
        (if cmdCode cmd = 8 then s.io.isl[cmdIsland cmd].st ≠ IslState.off else s.io.isl[cmdIsland cmd].st = IslState.in_)) ∧
    (∃ (s : State), List.filter (fun (w : WaitCmd) => decide (w.at_ ≤ s.tb.now)) s.io.waiting = []) ∧
    (∃ (s : State) (w : WaitCmd), (s.io.waiting = [w]) ∧ (w.at_ ≤ s.tb.now)) ∧
    (∃ (s : State) (v : Via), (firstCopy v s = true) ∧ (holds s = true)) ∧
    (∃ (s : State) (v : Via) (at_ : ℕ), (firstCopy v s = true) ∧ (holds s = false) ∧ (s.tb.now ≤ at_)) ∧
    (∃ (s : State) (v : Via) (cmd : ChanCmd) (at_ : ℕ), (firstCopy v s = true) ∧ (holds s = false) ∧ (at_ < s.tb.now) ∧ (s.evr.queue.length < 256) ∧
        (cmdCode cmd ≠ 8)) ∧
    (∃ (s : State) (v : Via) (c : Fin 192), (firstCopy v s = true) ∧ (s.io.ai[c].urgCore = none)) ∧
    (∃ (s : State) (v : Via) (c : Fin 192) (k : Fin 8), (firstCopy v s = true) ∧ (s.io.ai[c].urgCore = some k)) ∧
    (∃ (s : State) (c : Fin 192), s.io.ai[c].urgCore = none ∨ s.io.ai[c].urgOwn = none) ∧
    (∃ (s : State) (c : Fin 192) (k : Fin 8) (t0 : ℕ), (s.io.ai[c].urgCore = some k) ∧ (s.io.ai[c].urgOwn = some t0) ∧ (s.tb.now < t0 + 50000)) ∧
    (∃ (s : State) (c : Fin 192) (k : Fin 8) (t0 : ℕ), (s.io.ai[c].urgCore = some k) ∧ (s.io.ai[c].urgOwn = some t0) ∧ (t0 + 50000 ≤ s.tb.now)) :=
  ⟨⟨{ outside with io := { chan := (Vector.replicate 192 {}).set 0 { cmd := some (.own, .urgent 0, false, none) } } }, 0, .urgent 0, .urgent 0,
        by decide +kernel⟩,
   ⟨outside, 0, .urgent 0, .urgent 0, by decide +kernel⟩,
   ⟨outside, 0, .islRestart 0, .islRestart 0, by decide +kernel⟩,
   ⟨{ outside with io := { isl := (Vector.replicate 24 {}).set 0 { st := .in_ } } }, 0, .islRestart 0, .islRestart 0, by decide +kernel⟩,
   ⟨{}, by decide +kernel⟩,
   ⟨{ io := { waiting := [{ asker := (CmdAsker.session (Origin.here 0)), cmd := (ChanCmd.calIsland 0), at_ := 0 }] } },
        { asker := (CmdAsker.session (Origin.here 0)), cmd := (ChanCmd.calIsland 0), at_ := 0 }, by decide +kernel⟩,
   ⟨{ pair := { up := ((Vector.replicate 2 false).set 1 true) }, lease := { holder := true, leaseEnd := 2 }, mod := { st := .active } },
        { link := 1, seq := 10000000000000, errs := 1700 }, by decide +kernel⟩,
   ⟨{ pair := { up := ((Vector.replicate 2 false).set 0 true) }, mod := { st := .standby } },
        { link := 0, seq := 10000000000000, errs := 20000000000 }, 1700, by decide +kernel⟩,
   ⟨{ tb := { now := 1 }, pair := { up := ((Vector.replicate 2 false).set 1 true) }, mod := { st := .stopped } },
        { link := 1, seq := 10000000000000, errs := 5000 }, (ChanCmd.urgent 0), 0, by decide +kernel⟩,
   ⟨{ pair := { up := ((Vector.replicate 2 false).set 1 true) }, mod := { st := .active } }, { link := 1, seq := 10000000000000, errs := 1700 }, 0,
        by decide +kernel⟩,
   ⟨{ pair := { up := ((Vector.replicate 2 false).set 0 true) }, io := { ai := ((Vector.replicate 192 {}).set 0 { urgCore := (some 0) }) }, mod := { st := .standby } },
        { link := 0, seq := 10000000000000, errs := 20000000000 }, 0, 0, by decide +kernel⟩,
   ⟨{}, 0, by decide +kernel⟩,
   ⟨{ io := { ai := ((Vector.replicate 192 {}).set 0 { urgCore := (some 0), urgOwn := (some 0) }) } }, 0, 0, 0, by decide +kernel⟩,
   ⟨{ tb := { now := 59604 }, io := { ai := ((Vector.replicate 192 {}).set 0 { urgCore := (some 0), urgOwn := (some 0) }) } }, 0, 0, 0,
        by decide +kernel⟩⟩

theorem test_met_AnalogueInputsConvertTestAndCalibrate :
    (∃ (s : State) (c : Fin 192), converts s c = false ∨ s.io.ai[c].urgRun = true ∨ s.io.ai[c].owRun = true ∨ s.tb.now < s.io.ai[c].ready) ∧
    (∃ (s : State) (c : Fin 192), (converts s c = true) ∧ (s.io.ai[c].urgRun = false) ∧ (s.io.ai[c].owRun = false) ∧ (s.io.ai[c].ready ≤ s.tb.now)) ∧
    (∃ (s : State) (c : Fin 192), (converts s c = true) ∧ (s.io.ai[c].urgRun = true) ∧
        (s.io.ai[c].urgSince + settleTime s.io.ai[c].rate ≤ s.tb.now)) ∧
    (∃ (s : State) (c : Fin 192), converts s c = false ∨ s.io.ai[c].urgRun = false ∨ s.tb.now < s.io.ai[c].urgSince + settleTime s.io.ai[c].rate) ∧
    (∃ (s : State) (c : Fin 192), converts s c = false ∨ (chanEntry s c).owDiag = false ∧ s.io.ai[c].open_ = false ∨ (chanEntry s c).mode = 2 ∨
        s.io.ai[c].urgRun = true ∨ s.io.ai[c].owRun = true ∨ s.tb.now < s.io.ai[c].owNext) ∧
    (∃ (s : State) (c : Fin 192), (converts s c = true) ∧ ((chanEntry s c).owDiag = true ∨ s.io.ai[c].open_ = true) ∧ ((chanEntry s c).mode ≠ 2) ∧
        (s.io.ai[c].urgRun = false) ∧ (s.io.ai[c].owRun = false) ∧ (s.io.ai[c].owNext ≤ s.tb.now)) ∧
    (∃ (s : State) (c : Fin 192) (obs : OwObs), converts s c = false ∨ s.io.ai[c].owRun = false ∨ owFits s c obs = false) ∧
    (∃ (s : State) (c : Fin 192) (obs : OwObs), (converts s c = true) ∧ (s.io.ai[c].owRun = true) ∧ (owFits s c obs = true)) ∧
    (∃ (s : State) (c : Fin 192), (chanEntry s c).mode = 1) ∧
    (∃ (s : State) (c : Fin 192), (chanEntry s c).mode = 3) ∧
    (∃ (s : State) (n : Fin 24), s.io.own[n].calSince = none) ∧
    (∃ (s : State) (n : Fin 24) (t0 : ℕ), (s.io.own[n].calSince = some t0) ∧ (s.tb.now < t0 + 2300000000)) ∧
    (∃ (s : State) (n : Fin 24) (t0 : ℕ), (s.io.own[n].calSince = some t0) ∧ (t0 + 2300000000 ≤ s.tb.now)) ∧
    (∃ (s : State) (n : Fin 24), s.io.isl[n].st = IslState.off ∨ s.io.isl[n].restartAt ≠ none) ∧
    (∃ (s : State) (n : Fin 24) (temp : BitVec 16), (s.io.isl[n].st ≠ IslState.off) ∧ (s.io.isl[n].restartAt = none) ∧ (-5000 ≤ temp.toInt) ∧
        (temp.toInt ≤ 13500)) ∧
    (∃ (s : State) (n : Fin 24) (temp : BitVec 16), (s.io.isl[n].st ≠ IslState.off) ∧ (s.io.isl[n].restartAt = none) ∧ (temp.toInt < -5000 ∨
        13500 < temp.toInt)) ∧
    (∃ (s : State) (n : Fin 24), s.io.sup[n].cjFault = false ∨ s.io.sup[n].cjGood = none) ∧
    (∃ (s : State) (n : Fin 24) (t0 : ℕ), (s.io.sup[n].cjFault = true) ∧ (s.io.sup[n].cjGood = some t0) ∧ (s.tb.now < t0 + 1000000000)) ∧
    (∃ (s : State) (n : Fin 24) (t0 : ℕ), (s.io.sup[n].cjFault = true) ∧ (s.io.sup[n].cjGood = some t0) ∧ (t0 + 1000000000 ≤ s.tb.now)) :=
  ⟨⟨{}, 0, by decide +kernel⟩,
   ⟨{ img := { run := (some { channels := ((Vector.replicate 192 {}).set 0 { mode := 2 }) }) }, io := { own := ((Vector.replicate 24 {}).set 0 { configured := true }) } },
        0, by decide +kernel⟩,
   ⟨{ tb := { now := 381469 }, img := { run := (some { channels := ((Vector.replicate 192 {}).set 0 { mode := 2 }) }) }, io := { own := ((Vector.replicate 24 {}).set 0 { configured := true }), ai := ((Vector.replicate 192 {}).set 0 { urgRun := true }) } },
        0, by decide +kernel⟩,
   ⟨{}, 0, by decide +kernel⟩,
   ⟨{}, 0, by decide +kernel⟩,
   ⟨{ img := { run := (some { channels := ((Vector.replicate 192 {}).set 1 { mode := 1, owDiag := true }) }) }, io := { own := ((Vector.replicate 24 {}).set 0 { configured := true }) } },
        1, by decide +kernel⟩,
   ⟨{}, 0, .excitation, by decide +kernel⟩,
   ⟨{ tb := { now := 476837 }, img := { run := (some { channels := ((Vector.replicate 192 {}).set 0 { mode := 3 }) }) }, io := { own := ((Vector.replicate 24 {}).set 0 { configured := true }), ai := ((Vector.replicate 192 {}).set 0 { owRun := true }) } },
        0, .excitation, by decide +kernel⟩,
   ⟨{ img := { run := (some { channels := ((Vector.replicate 192 {}).set 0 { mode := 1 }) }) } }, 0, by decide +kernel⟩,
   ⟨{ img := { run := (some { channels := ((Vector.replicate 192 {}).set 1 { mode := 3 }) }) } }, 1, by decide +kernel⟩,
   ⟨{}, 0, by decide +kernel⟩,
   ⟨{ io := { own := ((Vector.replicate 24 {}).set 1 { calSince := (some 0) }) } }, 1, 0, by decide +kernel⟩,
   ⟨{ tb := { now := 3125000000 }, io := { own := ((Vector.replicate 24 {}).set 0 { calSince := (some 0) }) } }, 0, 0, by decide +kernel⟩,
   ⟨{}, 0, by decide +kernel⟩,
   ⟨{ io := { isl := ((Vector.replicate 24 {}).set 0 { st := .boot }) } }, 0, 1#16, by decide +kernel⟩,
   ⟨{ io := { isl := ((Vector.replicate 24 {}).set 1 { st := .returning }) } }, 1, 39683#16, by decide +kernel⟩,
   ⟨{}, 0, by decide +kernel⟩,
   ⟨{ io := { sup := ((Vector.replicate 24 {}).set 1 { cjFault := true, cjGood := (some 0) }) } }, 1, 0, by decide +kernel⟩,
   ⟨{ tb := { now := 1953125000 }, io := { sup := ((Vector.replicate 24 {}).set 0 { cjFault := true, cjGood := (some 0) }) } }, 0, 0,
        by decide +kernel⟩⟩

theorem test_met_AnalogueOutputsAreWatched :
    (∃ (s : State) (c : Fin 192), s.io.own[islandOf c].configured = false ∨ isOut (chanEntry s c) = false ∨ s.io.own[islandOf c].calSince ≠ none) ∧
    (∃ (s : State) (c : Fin 192), (s.io.own[islandOf c].configured = true) ∧ (isOut (chanEntry s c) = true) ∧
        (s.io.own[islandOf c].calSince = none)) ∧
    (∃ (s : State) (c : Fin 192), s.io.own[islandOf c].configured = false ∨ isAo (chanEntry s c) = false) ∧
    (∃ (s : State) (c : Fin 192) (vterm : ℕ) (del : ℕ), s.io.own[islandOf c].configured = false ∨ isAo (chanEntry s c) = false ∨
        s.io.ao[c].comply = true ∨ drives s.io.ao[c].drive = false ∨ atCompliance s c vterm del = false) ∧
    (∃ (s : State) (c : Fin 192) (vterm : ℕ) (del : ℕ), (s.io.own[islandOf c].configured = true) ∧ (isAo (chanEntry s c) = true) ∧
        (s.io.ao[c].comply = false) ∧ (drives s.io.ao[c].drive = true) ∧ (atCompliance s c vterm del = true)) ∧
    (∃ (s : State) (c : Fin 192), s.io.ao[c].comply = false ∨ s.io.ao[c].clearSince = none) ∧
    (∃ (s : State) (c : Fin 192) (t0 : ℕ), (s.io.ao[c].comply = true) ∧ (s.io.ao[c].clearSince = some t0) ∧ (s.tb.now < t0 + 10000000)) ∧
    (∃ (s : State) (c : Fin 192) (t0 : ℕ), (s.io.ao[c].comply = true) ∧ (s.io.ao[c].clearSince = some t0) ∧ (t0 + 10000000 ≤ s.tb.now)) ∧
    (∃ (s : State) (c : Fin 192), s.io.ao[c].openLoop = true ∨ s.io.ao[c].lowSince = none) ∧
    (∃ (s : State) (c : Fin 192) (t0 : ℕ), (s.io.ao[c].openLoop = false) ∧ (s.io.ao[c].lowSince = some t0) ∧ (s.tb.now < t0 + 10000000)) ∧
    (∃ (s : State) (c : Fin 192) (t0 : ℕ), (s.io.ao[c].openLoop = false) ∧ (s.io.ao[c].lowSince = some t0) ∧ (t0 + 10000000 ≤ s.tb.now)) ∧
    (∃ (s : State) (n : Fin 24), s.io.own[n].leaseEnd = none ∨ ∃ (l : ℕ), s.io.own[n].leaseEnd = some l ∧ islandTime s n < l) ∧
    (∃ (s : State) (n : Fin 24) (l : ℕ), (s.io.own[n].leaseEnd = some l) ∧ (l ≤ islandTime s n)) ∧
    (∃ (s : State) (n : Fin 24) (mask : Byte), sumChans s n mask = []) ∧
    (∃ (s : State) (n : Fin 24) (mask : Byte), sumChans s n mask ≠ []) :=
  ⟨⟨{}, 0, by decide +kernel⟩,
   ⟨{ img := { run := (some { channels := ((Vector.replicate 192 {}).set 0 { mode := 7 }) }) }, io := { own := ((Vector.replicate 24 {}).set 0 { configured := true }) } },
        0, by decide +kernel⟩,
   ⟨{}, 0, by decide +kernel⟩,
   ⟨{}, 0, 1000000, 1000000, by decide +kernel⟩,
   ⟨{ img := { run := (some { channels := ((Vector.replicate 192 {}).set 0 { mode := 7 }) }) }, io := { own := ((Vector.replicate 24 {}).set 0 { configured := true }), ao := ((Vector.replicate 192 {}).set 0 { drive := .command }) } },
        0, 5000, 100000, by decide +kernel⟩,
   ⟨{}, 0, by decide +kernel⟩,
   ⟨{ io := { ao := ((Vector.replicate 192 {}).set 1 { comply := true, clearSince := (some 0) }) } }, 1, 0, by decide +kernel⟩,
   ⟨{ tb := { now := 12207031 }, io := { ao := ((Vector.replicate 192 {}).set 0 { comply := true, clearSince := (some 0) }) } }, 0, 0,
        by decide +kernel⟩,
   ⟨{}, 0, by decide +kernel⟩,
   ⟨{ io := { ao := ((Vector.replicate 192 {}).set 1 { lowSince := (some 0) }) } }, 1, 0, by decide +kernel⟩,
   ⟨{ tb := { now := 15258789 }, io := { ao := ((Vector.replicate 192 {}).set 0 { lowSince := (some 0) }) } }, 0, 0, by decide +kernel⟩,
   ⟨{}, 0, by decide +kernel⟩,
   ⟨{ io := { own := ((Vector.replicate 24 {}).set 0 { leaseEnd := (some 0) }) } }, 0, 0, by decide +kernel⟩,
   ⟨{}, 0, 1#8, by decide +kernel⟩,
   ⟨{ img := { run := (some { channels := ((Vector.replicate 192 {}).set 0 { mode := 6 }) }) }, io := { own := ((Vector.replicate 24 {}).set 0 { configured := true, paired := true }), ao := ((Vector.replicate 192 {}).set 0 { drive := .command }) } },
        0, 1#8, by decide +kernel⟩⟩

theorem test_met_DigitalChannelsAndSupplyAreWatched_1 :
    (∃ (s : State) (c : Fin 192), diOn s c = false) ∧
    (∃ (s : State) (c : Fin 192), diOn s c = false ∨ s.io.di[c].openWire = true ∨ s.io.di[c].candidate = 0 ∨ s.io.di[c].candidate = 3 ∧
        s.tb.now ≤ s.io.di[c].since + filterTime (chanEntry s c).filter ∨ s.io.di[c].candidate ≠ 3 ∧
        s.tb.now < s.io.di[c].since + max (filterTime (chanEntry s c).filter) 100000) ∧
    (∃ (s : State) (c : Fin 192), (diOn s c = true) ∧ (s.io.di[c].openWire = false) ∧ (s.io.di[c].candidate = 3) ∧
        (s.io.di[c].since + filterTime (chanEntry s c).filter < s.tb.now)) ∧
    (∃ (s : State) (c : Fin 192), (diOn s c = true) ∧ (s.io.di[c].openWire = false) ∧ (s.io.di[c].candidate = 1 ∨ s.io.di[c].candidate = 2) ∧
        (s.io.di[c].since + max (filterTime (chanEntry s c).filter) 100000 ≤ s.tb.now)) ∧
    (∃ (s : State) (c : Fin 192), diOn s c = false ∨ (chanEntry s c).owDiag = false ∨ s.tb.now < s.io.di[c].wbSince + 20000000 ∨
        s.io.di[c].openWire = decide (s.io.di[c].candidate = 0) ∨ s.io.sup[islandOf c].lost = true ∨ s.tb.now < s.io.sup[islandOf c].wbInhibit) ∧
    (∃ (s : State) (c : Fin 192), (diOn s c = true) ∧ ((chanEntry s c).owDiag = true) ∧ (s.io.di[c].wbSince + 20000000 ≤ s.tb.now) ∧
        (s.io.di[c].openWire ≠ decide (s.io.di[c].candidate = 0)) ∧ (s.io.sup[islandOf c].lost = false) ∧
        (s.io.sup[islandOf c].wbInhibit ≤ s.tb.now)) ∧
    (∃ (s : State) (c : Fin 192), doLive s c = false ∨ (!s.io.dO[c].comply && heldFor s.io.dO[c].limSince 1000000 s.tb.now) = false ∧
        (s.io.dO[c].comply && heldFor s.io.dO[c].freeSince 10000000 s.tb.now) = false) ∧
    (∃ (s : State) (c : Fin 192), (doLive s c = true) ∧ ((!s.io.dO[c].comply && heldFor s.io.dO[c].limSince 1000000 s.tb.now) = true ∨
        (s.io.dO[c].comply && heldFor s.io.dO[c].freeSince 10000000 s.tb.now) = true)) ∧
    (∃ (s : State) (c : Fin 192) (temp : BitVec 16), doLive s c = false ∨ s.io.dO[c].on = false ∨ temp.toInt ≤ 1700) ∧
    (∃ (s : State) (c : Fin 192) (temp : BitVec 16), (doLive s c = true) ∧ (s.io.dO[c].on = true) ∧ (1700 < temp.toInt)) ∧
    (∃ (s : State) (c : Fin 192), doLive s c = false ∨ s.io.dO[c].thermalOff = false ∨ s.tb.now < s.io.dO[c].thermalAt + 100000000 ∨
        doCommanded s (leaderOf s c) = false) ∧
    (∃ (s : State) (c : Fin 192), (doLive s c = true) ∧ (s.io.dO[c].thermalOff = true) ∧ (s.io.dO[c].thermalAt + 100000000 ≤ s.tb.now) ∧
        (doCommanded s (leaderOf s c) = true) ∧ (c ∈ myGroup s c)) ∧
    (∃ (s : State) (c : Fin 192) (temp : BitVec 16), doLive s c = false ∨ s.io.dO[c].thermal = false ∨
        (s.io.dO[c].on && !s.io.dO[c].thermalOff && decide (s.io.dO[c].onSince + 1000000000 ≤ s.tb.now) || !doCommanded s (leaderOf s c) && decide (temp.toInt < 1500)) = false) ∧
    (∃ (s : State) (c : Fin 192) (temp : BitVec 16), (doLive s c = true) ∧ (s.io.dO[c].thermal = true) ∧
        ((s.io.dO[c].on && !s.io.dO[c].thermalOff && decide (s.io.dO[c].onSince + 1000000000 ≤ s.tb.now) || !doCommanded s (leaderOf s c) && decide (temp.toInt < 1500)) = true)) ∧
    (∃ (s : State) (c : Fin 192), doLive s c = false ∨ (chanEntry s c).owDiag = false ∨ s.io.dO[c].cmd = false ∨ s.io.dO[c].openLoad = true ∨
        s.io.dO[c].lowSince = none) ∧
    (∃ (s : State) (c : Fin 192) (t0 : ℕ), (doLive s c = true) ∧ ((chanEntry s c).owDiag = true) ∧ (s.io.dO[c].cmd = true) ∧
        (s.io.dO[c].openLoad = false) ∧ (s.io.dO[c].lowSince = some t0) ∧ (s.tb.now < t0 + 100000000)) ∧
    (∃ (s : State) (c : Fin 192) (t0 : ℕ), (doLive s c = true) ∧ ((chanEntry s c).owDiag = true) ∧ (s.io.dO[c].cmd = true) ∧
        (s.io.dO[c].openLoad = false) ∧ (s.io.dO[c].lowSince = some t0) ∧ (t0 + 100000000 ≤ s.tb.now)) ∧
    (∃ (s : State) (c : Fin 192), doLive s c = false ∨
        (!s.io.dO[c].extDrive && !doCommanded s (leaderOf s c) && !extIgnored s c && heldFor s.io.dO[c].extSince 1000000 s.tb.now && decide (s.io.dO[c].offSince + 1000000 ≤ s.tb.now)) = false ∧
        (s.io.dO[c].extDrive && heldFor s.io.dO[c].calmSince 1000000 s.tb.now) = false) ∧
    (∃ (s : State) (c : Fin 192), (doLive s c = true) ∧
        ((!s.io.dO[c].extDrive && !doCommanded s (leaderOf s c) && !extIgnored s c && heldFor s.io.dO[c].extSince 1000000 s.tb.now && decide (s.io.dO[c].offSince + 1000000 ≤ s.tb.now)) = true ∨
        (s.io.dO[c].extDrive && heldFor s.io.dO[c].calmSince 1000000 s.tb.now) = true)) ∧
    (∃ (s : State) (c : Fin 192), doLive s c = false ∨ groupSize (chanEntry s c) = 1 ∨
        (!s.io.dO[c].imbal && heldFor s.io.dO[c].unevenSince 100000000 s.tb.now) = false ∧
        (s.io.dO[c].imbal && heldFor s.io.dO[c].evenSince 100000000 s.tb.now) = false) ∧
    (∃ (s : State) (c : Fin 192), (doLive s c = true) ∧ (groupSize (chanEntry s c) ≠ 1) ∧
        ((!s.io.dO[c].imbal && heldFor s.io.dO[c].unevenSince 100000000 s.tb.now) = true ∨
        (s.io.dO[c].imbal && heldFor s.io.dO[c].evenSince 100000000 s.tb.now) = true)) ∧
    (∃ (s : State) (c : Fin 192), pwmLive s c = false ∨
        s.io.dO[c].pwmAt = some (islandTime s (islandOf c) / pwmPeriod (chanEntry s c) * pwmPeriod (chanEntry s c))) ∧
    (∃ (s : State) (c : Fin 192), (pwmLive s c = true) ∧
        (s.io.dO[c].pwmAt ≠ some (islandTime s (islandOf c) / pwmPeriod (chanEntry s c) * pwmPeriod (chanEntry s c))) ∧ (c ∈ groupOf s c)) ∧
    (∃ (s : State) (c : Fin 192), pwmLive s c = false ∨ s.io.dO[c].on = false ∨ pwmPeriod (chanEntry s c) ≤ s.io.dO[c].onTime ∨
        s.io.dO[c].pwmAt = none) :=
  ⟨⟨{}, 0, by decide +kernel⟩,
   ⟨{}, 0, by decide +kernel⟩,
   ⟨{ tb := { now := 39062500 }, img := { run := (some { channels := ((Vector.replicate 192 {}).set 0 { mode := 8 }) }) }, io := { own := ((Vector.replicate 24 {}).set 0 { configured := true }), di := ((Vector.replicate 192 {}).set 0 { candidate := 3 }) } },
        0, by decide +kernel⟩,
   ⟨{ tb := { now := 156250 }, img := { run := (some { channels := ((Vector.replicate 192 {}).set 0 { mode := 8, filter := 1 }) }) }, io := { own := ((Vector.replicate 24 {}).set 0 { configured := true }), di := ((Vector.replicate 192 {}).set 0 { candidate := 2 }) } },
        0, by decide +kernel⟩,
   ⟨{}, 0, by decide +kernel⟩,
   ⟨{ tb := { now := 30517578 }, img := { run := (some { channels := ((Vector.replicate 192 {}).set 0 { mode := 8, owDiag := true }) }) }, io := { own := ((Vector.replicate 24 {}).set 0 { configured := true }) } },
        0, by decide +kernel⟩,
   ⟨{}, 0, by decide +kernel⟩,
   ⟨{ tb := { now := 1220703 }, img := { run := (some { channels := ((Vector.replicate 192 {}).set 0 { mode := 11 }) }) }, io := { own := ((Vector.replicate 24 {}).set 0 { configured := true }), dO := ((Vector.replicate 192 {}).set 0 { limSince := (some 0) }) } },
        0, by decide +kernel⟩,
   ⟨{}, 0, 0#16, by decide +kernel⟩,
   ⟨{ img := { run := (some { channels := ((Vector.replicate 192 {}).set 0 { mode := 11 }) }) }, io := { own := ((Vector.replicate 24 {}).set 0 { configured := true }), dO := ((Vector.replicate 192 {}).set 0 { on := true }) } },
        0, 7236#16, by decide +kernel⟩,
   ⟨{}, 0, by decide +kernel⟩,
   ⟨{ tb := { now := 156250000 }, img := { run := (some { channels := ((Vector.replicate 192 {}).set 0 { mode := 11 }) }) }, io := { own := ((Vector.replicate 24 {}).set 0 { configured := true }), chan := ((Vector.replicate 192 {}).set 0 { command := 1#64, commanded := true, safe := false }), dO := ((Vector.replicate 192 {}).set 0 { thermalOff := true }) } },
        0, by decide +kernel⟩,
   ⟨{}, 0, 0#16, by decide +kernel⟩,
   ⟨{ img := { run := (some { channels := ((Vector.replicate 192 {}).set 0 { mode := 11 }) }) }, io := { own := ((Vector.replicate 24 {}).set 0 { configured := true }), dO := ((Vector.replicate 192 {}).set 0 { thermal := true }) } },
        0, 65535#16, by decide +kernel⟩,
   ⟨{}, 0, by decide +kernel⟩,
   ⟨{ img := { run := (some { channels := ((Vector.replicate 192 {}).set 0 { mode := 11, owDiag := true }) }) }, io := { own := ((Vector.replicate 24 {}).set 0 { configured := true }), dO := ((Vector.replicate 192 {}).set 0 { cmd := true, lowSince := (some 0) }) } },
        0, 0, by decide +kernel⟩,
   ⟨{ tb := { now := 156250000 }, img := { run := (some { channels := ((Vector.replicate 192 {}).set 0 { mode := 11, owDiag := true }) }) }, io := { own := ((Vector.replicate 24 {}).set 0 { configured := true }), dO := ((Vector.replicate 192 {}).set 0 { cmd := true, lowSince := (some 0) }) } },
        0, 0, by decide +kernel⟩,
   ⟨{}, 0, by decide +kernel⟩,
   ⟨{ tb := { now := 1220703 }, img := { run := (some { channels := ((Vector.replicate 192 {}).set 0 { mode := 11 }) }) }, io := { own := ((Vector.replicate 24 {}).set 0 { configured := true }), dO := ((Vector.replicate 192 {}).set 0 { extSince := (some 0) }) } },
        0, by decide +kernel⟩,
   ⟨{}, 0, by decide +kernel⟩,
   ⟨{ tb := { now := 156250000 }, img := { run := (some { channels := ((Vector.replicate 192 {}).set 0 { mode := 11, gang := 1 }) }) }, io := { own := ((Vector.replicate 24 {}).set 0 { configured := true }), dO := ((Vector.replicate 192 {}).set 0 { unevenSince := (some 0) }) } },
        0, by decide +kernel⟩,
   ⟨{}, 0, by decide +kernel⟩,
   ⟨{ img := { run := (some { channels := ((Vector.replicate 192 {}).set 0 { mode := 11, pwm := true, param1 := 1000#32 }) }) }, io := { own := ((Vector.replicate 24 {}).set 0 { configured := true }), chan := ((Vector.replicate 192 {}).set 0 { safe := false }) } },
        0, by decide +kernel⟩,
   ⟨{}, 0, by decide +kernel⟩⟩

theorem test_met_DigitalChannelsAndSupplyAreWatched_2 :
    (∃ (s : State) (c : Fin 192) (t0 : ℕ), (pwmLive s c = true) ∧ (s.io.dO[c].on = true) ∧ (s.io.dO[c].onTime < pwmPeriod (chanEntry s c)) ∧
        (s.io.dO[c].pwmAt = some t0) ∧ (islandTime s (islandOf c) < t0 + s.io.dO[c].onTime)) ∧
    (∃ (s : State) (c : Fin 192) (t0 : ℕ), (pwmLive s c = true) ∧ (s.io.dO[c].on = true) ∧ (s.io.dO[c].onTime < pwmPeriod (chanEntry s c)) ∧
        (s.io.dO[c].pwmAt = some t0) ∧ (t0 + s.io.dO[c].onTime ≤ islandTime s (islandOf c))) ∧
    (∃ (s : State) (n : Fin 24), s.io.isl[n].st = IslState.off ∨ s.io.isl[n].restartAt ≠ none) ∧
    (∃ (s : State) (n : Fin 24), (s.io.isl[n].st ≠ IslState.off) ∧ (s.io.isl[n].restartAt = none)) ∧
    (∃ (s : State) (n : Fin 24), s.io.sup[n].lost = false ∨ s.io.sup[n].latched = true ∨ s.io.sup[n].goodSince = none) ∧
    (∃ (s : State) (n : Fin 24) (t0 : ℕ), (s.io.sup[n].lost = true) ∧ (s.io.sup[n].latched = false) ∧ (s.io.sup[n].goodSince = some t0) ∧
        (s.tb.now < t0 + 10000000)) ∧
    (∃ (s : State) (n : Fin 24) (t0 : ℕ), (s.io.sup[n].lost = true) ∧ (s.io.sup[n].latched = false) ∧ (s.io.sup[n].goodSince = some t0) ∧
        (t0 + 10000000 ≤ s.tb.now)) :=
  ⟨⟨{ img := { run := (some { channels := ((Vector.replicate 192 {}).set 0 { mode := 11, pwm := true, param1 := 1000#32 }) }) }, io := { own := ((Vector.replicate 24 {}).set 0 { configured := true }), chan := ((Vector.replicate 192 {}).set 0 { safe := false }), dO := ((Vector.replicate 192 {}).set 0 { on := true, pwmAt := (some 2) }) } },
        0, 2, by decide +kernel⟩,
   ⟨{ img := { run := (some { channels := ((Vector.replicate 192 {}).set 0 { mode := 11, pwm := true, param1 := 1000#32 }) }) }, io := { own := ((Vector.replicate 24 {}).set 0 { configured := true }), chan := ((Vector.replicate 192 {}).set 0 { safe := false }), dO := ((Vector.replicate 192 {}).set 0 { on := true, pwmAt := (some 0) }) } },
        0, 0, by decide +kernel⟩,
   ⟨{}, 0, by decide +kernel⟩,
   ⟨{ io := { isl := ((Vector.replicate 24 {}).set 0 { st := .boot }) } }, 0, by decide +kernel⟩,
   ⟨{}, 0, by decide +kernel⟩,
   ⟨{ io := { sup := ((Vector.replicate 24 {}).set 1 { lost := true, goodSince := (some 0) }) } }, 1, 0, by decide +kernel⟩,
   ⟨{ tb := { now := 15258789 }, io := { sup := ((Vector.replicate 24 {}).set 1 { lost := true, goodSince := (some 0) }) } }, 1, 0,
        by decide +kernel⟩⟩

theorem test_met_CanPortsSendReceiveAndCountErrors :
    (∃ (s : State) (p : Fin 4), canLive s p = false ∨ holds s = false ∨ s.can[p].state = 2 ∨ s.can[p].integrating = true ∨
        activeBuffer s.can[p] ≠ none ∨ bestBuffer (canEntry s p) s.can[p] = none) ∧
    (∃ (s : State) (p : Fin 4) (b : Fin 32) (f : CanFrame), (canLive s p = true) ∧ (holds s = true) ∧ (s.can[p].state ≠ 2) ∧
        (s.can[p].integrating = false) ∧ (activeBuffer s.can[p] = none) ∧ (bestBuffer (canEntry s p) s.can[p] = some (b, f)) ∧
        (s.lease.leaseEnd ≤ s.tb.now + frameTime (canEntry s p) f)) ∧
    (∃ (s : State) (p : Fin 4) (b : Fin 32) (f : CanFrame), (canLive s p = true) ∧ (holds s = true) ∧ (s.can[p].state ≠ 2) ∧
        (s.can[p].integrating = false) ∧ (activeBuffer s.can[p] = none) ∧ (bestBuffer (canEntry s p) s.can[p] = some (b, f)) ∧
        (s.tb.now + frameTime (canEntry s p) f < s.lease.leaseEnd)) ∧
    (∃ (e : CanEntry) (k : Can) (b : Fin 32) (f : CanFrame) (c : Fin 32) (g : CanFrame), (bestBuffer e k = some (b, f)) ∧
        (k.tx[c].st = TxState.pending) ∧ (k.tx[c].frame = some g) ∧ (portSends e g = true)) ∧
    (∃ (s : State) (p : Fin 4), activeBuffer s.can[p] = none) ∧
    (∃ (s : State) (p : Fin 4) (b : Fin 32) (err : CanErr), (activeBuffer s.can[p] = some b) ∧ (err ≠ CanErr.arbitration)) ∧
    (∃ (s : State) (p : Fin 4) (err : CanErr), canLive s p = false ∨ s.can[p].state = 2 ∨ s.can[p].integrating = true ∨ err = CanErr.arbitration) ∧
    (∃ (s : State) (p : Fin 4) (err : CanErr), (canLive s p = true) ∧ (s.can[p].state ≠ 2) ∧ (s.can[p].integrating = false) ∧
        (err ≠ CanErr.arbitration)) ∧
    (∃ (s : State) (p : Fin 4), s.can[p].state ≠ 2 ∨ s.tb.now < s.can[p].busOffAt + recoveryTime (canEntry s p)) ∧
    (∃ (s : State) (p : Fin 4), (s.can[p].state = 2) ∧ (s.can[p].busOffAt + recoveryTime (canEntry s p) ≤ s.tb.now)) ∧
    (∃ (s : State) (p : Fin 4), canLive s p = false ∨ s.can[p].state = 2 ∨ s.can[p].integrating = true) ∧
    (∃ (s : State) (p : Fin 4) (f : CanFrame), (canLive s p = true) ∧ (s.can[p].state ≠ 2) ∧ (s.can[p].integrating = false) ∧ (f.fd = true) ∧
        ((canEntry s p).fd = false)) ∧
    (∃ (s : State) (p : Fin 4) (f : CanFrame), (canLive s p = true) ∧ (s.can[p].state ≠ 2) ∧ (s.can[p].integrating = false) ∧ (f.fd = false ∨
        (canEntry s p).fd = true) ∧ (acceptingFilter (canEntry s p) f = none)) ∧
    (∃ (s : State) (p : Fin 4) (f : CanFrame) (n : Fin 32), (canLive s p = true) ∧ (s.can[p].state ≠ 2) ∧ (s.can[p].integrating = false) ∧
        (f.fd = false ∨ (canEntry s p).fd = true) ∧ (acceptingFilter (canEntry s p) f = some n)) ∧
    (∃ (e : CanEntry) (f : CanFrame) (n : Fin 32) (m : Fin 32), (acceptingFilter e f = some n) ∧ (m < n)) ∧
    (∃ (s : State) (v : Via), (firstCopy v s = true) ∧ (inRun s = false ∨ ownReception s = true)) ∧
    (∃ (s : State) (v : Via), (firstCopy v s = true) ∧ (inRun s = true) ∧ (ownReception s = false)) ∧
    (∃ (s : State) (v : Via), (firstCopy v s = true) ∧ (holds s = true)) ∧
    (∃ (s : State) (v : Via), (firstCopy v s = true) ∧ (holds s = false)) :=
  ⟨⟨{}, 0, by decide +kernel⟩,
   ⟨{ img := { run := (some { can := ((Vector.replicate 4 {}).set 0 { enabled := true, presc := 2 }) }) }, lease := { holder := true, leaseEnd := 2 }, can := (((Vector.replicate 4 {}).set 0 { state := 0, tx := ((Vector.replicate 32 {}).set 0 { st := .pending, frame := (some { ident := 0#29, extended := false, fd := false, brs := false, remote := false, data := (List.replicate 0 0) }) }) }).set 3 { busOffAt := 3, tx := ((Vector.replicate 32 {}).set 2 { frame := (some { ident := 184213806#29, extended := true, fd := true, brs := false, remote := true, data := (List.replicate 0 0) }) }), overflow := true }), mod := { st := .unchecked } },
        0, 0, { ident := 0#29, extended := false, fd := false, brs := false, remote := false, data := (List.replicate 0 0) }, by decide +kernel⟩,
   ⟨{ img := { run := (some { can := ((Vector.replicate 4 {}).set 0 { enabled := true }) }) }, lease := { holder := true, leaseEnd := 2 }, can := ((Vector.replicate 4 {}).set 0 { state := 0, tx := ((Vector.replicate 32 {}).set 0 { st := .pending, frame := (some { ident := 0#29, extended := false, fd := false, brs := false, remote := false, data := (List.replicate 0 0) }) }) }), mod := { st := .active } },
        0, 0, { ident := 0#29, extended := false, fd := false, brs := false, remote := false, data := (List.replicate 0 0) }, by decide +kernel⟩,
   ⟨{ enabled := true, fd := true, brs := true, presc := 3, prop := 3, ph1 := 1, ph2 := 10, dpresc := 9, dph1 := 9, dph2 := 1, dsjw := 5, filters := ((Vector.replicate 32 {}).set 0 { ident := 145182019#29, mask := 4294967295#32 }) },
        { state := 1, tec := 1000000000000, rec_ := 128, lec := 1, ackErrs := 1700, busOffAt := 1000000, tx := (((Vector.replicate 32 {}).set 0 { st := .pending, frame := (some { ident := 260640561#29, extended := true, fd := false, brs := true, remote := false, data := (List.replicate 0 0) }), task := 1, cycle := 3#32 }).set 1 { frame := (some { ident := 0#29, extended := false, fd := false, brs := false, remote := true, data := (List.replicate 0 0) }), cycle := 2097152#32 }), fifo := [{ frame := { ident := 1#29, extended := false, fd := true, brs := false, remote := false, data := [1#8, 2#8] }, filter := 0, stamp := 2000, completion := 60000000000 }, { frame := { ident := 536870911#29, extended := false, fd := true, brs := false, remote := false, data := [1#8, 2#8] }, filter := 0, stamp := 100000, completion := 5 }], overflow := true, own := [{ frame := { ident := 2#29, extended := false, fd := false, brs := false, remote := false, data := (List.replicate 96 32) }, filter := 20, stamp := 65535, completion := 3 }], noticed := 1, acc := { rx := 1, retry := 20, noMatch := 2000, err := 1000000000, busOff := 5000000000, ovf := 5, abort := 2000, repl := 1000000, rxDiff := 1000000000 }, lat := { tx := 1, retry := 1000000, noMatch := 1, busOff := 2200, ovf := 5000000000, abort := 1000000000, repl := 100000, rxDiff := 1000000 } },
        0, { ident := 260640561#29, extended := true, fd := false, brs := true, remote := false, data := (List.replicate 0 0) }, 0,
        { ident := 260640561#29, extended := true, fd := false, brs := true, remote := false, data := (List.replicate 0 0) }, by decide +kernel⟩,
   ⟨{}, 0, by decide +kernel⟩,
   ⟨{ can := ((Vector.replicate 4 {}).set 0 { tx := ((Vector.replicate 32 {}).set 1 { st := .active }) }) }, 0, 1, .stuff, by decide +kernel⟩,
   ⟨{}, 0, .arbitration, by decide +kernel⟩,
   ⟨{ img := { run := (some { can := ((Vector.replicate 4 {}).set 0 { enabled := true }) }) }, can := ((Vector.replicate 4 {}).set 0 { state := 0 }), mod := { st := .standby } },
        0, .ack, by decide +kernel⟩,
   ⟨{}, 0, by decide +kernel⟩,
   ⟨{ can := ((Vector.replicate 4 {}).set 0 { state := 2 }) }, 0, by decide +kernel⟩,
   ⟨{}, 0, by decide +kernel⟩,
   ⟨{ img := { run := (some { can := ((Vector.replicate 4 {}).set 0 { enabled := true }) }) }, can := ((Vector.replicate 4 {}).set 0 { state := 0 }), mod := { st := .standby } },
        0, { ident := 1048576#29, extended := false, fd := true, brs := false, remote := false, data := (List.replicate 0 0) }, by decide +kernel⟩,
   ⟨{ img := { run := (some { can := ((Vector.replicate 4 {}).set 0 { enabled := true }) }) }, can := ((Vector.replicate 4 {}).set 0 { state := 0 }), mod := { st := .standby } },
        0, { ident := 0#29, extended := true, fd := false, brs := false, remote := false, data := [1#8, 2#8] }, by decide +kernel⟩,
   ⟨{ img := { run := (some { can := ((Vector.replicate 4 {}).set 0 { enabled := true, filters := ((Vector.replicate 32 {}).set 0 { enabled := true }) }) }) }, can := ((Vector.replicate 4 {}).set 0 { state := 0 }), mod := { st := .active } },
        0, { ident := 536870911#29, extended := false, fd := false, brs := false, remote := true, data := (List.replicate 0 0) }, 0,
        by decide +kernel⟩,
   ⟨{ enabled := true, brs := true, presc := 9, prop := 10, ph1 := 8, ph2 := 3, sjw := 5, dpresc := 2, dprop := 2, dph1 := 4, dph2 := 7, dsjw := 10, filters := ((((Vector.replicate 32 {}).set 0 { ident := 3#29, mask := 9228#32, enabled := true }).set 1 { ident := 536870911#29, mask := 4294967295#32, task := (some 0) }).set 2 { extended := true, enabled := true, task := (some 0) }) },
        { ident := 536870911#29, extended := false, fd := true, brs := false, remote := false, data := (List.replicate 0 0) }, 2, 0,
        by decide +kernel⟩,
   ⟨{ pair := { up := ((Vector.replicate 2 false).set 1 true) }, mod := { st := .unchecked } }, { link := 1, seq := 10000000000000, errs := 15 },
        by decide +kernel⟩,
   ⟨{ pair := { up := ((Vector.replicate 2 false).set 0 true), partner := .lost }, mod := { st := .active } },
        { link := 0, seq := 10000000000000, errs := 2000 }, by decide +kernel⟩,
   ⟨{ pair := { up := ((Vector.replicate 2 false).set 1 true) }, lease := { holder := true, leaseEnd := 2 }, mod := { st := .active } },
        { link := 1, seq := 10000000000000, errs := 1700 }, by decide +kernel⟩,
   ⟨{ pair := { up := ((Vector.replicate 2 false).set 0 true) }, mod := { st := .standby } },
        { link := 0, seq := 10000000000000, errs := 20000000000 }, by decide +kernel⟩⟩

theorem test_met_EventsAreRecordedLimitedAndCleared :
    (∃ (s : State), s.evr.ready = false ∨ recorderShut s = true ∨ s.evr.clearing ≠ none ∨ s.evr.writing ≠ none ∨ s.evr.afterClear = none ∧
        s.evr.queue = []) ∧
    (∃ (s : State) (e : Ev), (s.evr.ready = true) ∧ (recorderShut s = false) ∧ (s.evr.clearing = none) ∧ (s.evr.writing = none) ∧
        (s.evr.afterClear = some e)) ∧
    (∃ (s : State) (e : Ev) (rest : List Ev), (s.evr.ready = true) ∧ (recorderShut s = false) ∧ (s.evr.clearing = none) ∧ (s.evr.writing = none) ∧
        (s.evr.afterClear = none) ∧ (s.evr.queue = e :: rest) ∧ (neverLimited e.code = true)) ∧
    (∃ (s : State) (e : Ev) (rest : List Ev), (s.evr.ready = true) ∧ (recorderShut s = false) ∧ (s.evr.clearing = none) ∧ (s.evr.writing = none) ∧
        (s.evr.afterClear = none) ∧ (s.evr.queue = e :: rest) ∧ (neverLimited e.code = false) ∧
        ((bucketNow e.code s).level < tokenNs s.evr.rates[codeClass e.code])) ∧
    (∃ (s : State) (e : Ev) (rest : List Ev), (s.evr.ready = true) ∧ (recorderShut s = false) ∧ (s.evr.clearing = none) ∧ (s.evr.writing = none) ∧
        (s.evr.afterClear = none) ∧ (s.evr.queue = e :: rest) ∧ (neverLimited e.code = false) ∧
        (tokenNs s.evr.rates[codeClass e.code] ≤ (bucketNow e.code s).level) ∧ ((bucketNow e.code s).suppressed = 0) ∧ (s.evr.slots.length < 65535)) ∧
    (∃ (s : State) (e : Ev) (rest : List Ev), (s.evr.ready = true) ∧ (recorderShut s = false) ∧ (s.evr.clearing = none) ∧ (s.evr.writing = none) ∧
        (s.evr.afterClear = none) ∧ (s.evr.queue = e :: rest) ∧ (neverLimited e.code = false) ∧
        (tokenNs s.evr.rates[codeClass e.code] ≤ (bucketNow e.code s).level) ∧ (0 < (bucketNow e.code s).suppressed) ∧ (s.evr.slots.length < 65535)) ∧
    (∃ (s : State), s.evr.writing = none) ∧
    (∃ (s : State) (e : Ev), (s.evr.writing = some e) ∧ (s.evr.slots ≠ [])) ∧
    (∃ (s : State) (code : BitVec 16), (bucketNow code s).suppressed = 0 ∨ (bucketNow code s).level < fullBucket s.evr.rates[codeClass code]) ∧
    (∃ (s : State) (code : BitVec 16), ((bucketNow code s).suppressed ≠ 0) ∧ (fullBucket s.evr.rates[codeClass code] ≤ (bucketNow code s).level) ∧
        (s.evr.queue.length < 256)) ∧
    (∃ (s : State) (se : Fin 64), (admitted regEvr se s = true) ∧ (holdsMaint s.ses.tab[se] = false)) ∧
    (∃ (s : State) (se : Fin 64), (admitted regEvr se s = true) ∧ (holdsMaint s.ses.tab[se] = true) ∧ (s.evr.clearing ≠ none)) ∧
    (∃ (s : State) (se : Fin 64), (admitted regEvr se s = true) ∧ (holdsMaint s.ses.tab[se] = true) ∧ (s.evr.clearing = none)) ∧
    (∃ (s : State) (se : Fin 64), (admitted regEvr se s = true) ∧ (BitVec.toNat s.ses.tab[se].sel.evrArg % 16 = 15 ∨
        BitVec.toNat s.ses.tab[se].sel.evrArg / 256 % 256 = 0 ∨ BitVec.toNat s.ses.tab[se].sel.evrArg / 65536 = 0 ∨
        3600 < BitVec.toNat s.ses.tab[se].sel.evrArg / 65536)) ∧
    (∃ (s : State) (se : Fin 64), (admitted regEvr se s = true) ∧ (BitVec.toNat s.ses.tab[se].sel.evrArg % 16 ≠ 15) ∧
        (BitVec.toNat s.ses.tab[se].sel.evrArg / 256 % 256 ≠ 0) ∧ (BitVec.toNat s.ses.tab[se].sel.evrArg / 65536 ≠ 0) ∧
        (BitVec.toNat s.ses.tab[se].sel.evrArg / 65536 ≤ 3600)) ∧
    (∃ (s : State), s.evr.clearing = none) ∧
    (∃ (s : State) (se : Fin 64), s.evr.clearing = some se) :=
  ⟨⟨{}, by decide +kernel⟩,
   ⟨{ evr := { ready := true, afterClear := (some { code := 0#16, sev := 0#2, unchecked := false, holder := false, src := 0#8, opTime := 0#48, cycles := 0#32, data := 0#112, at_ := 0 }) } },
        { code := 0#16, sev := 0#2, unchecked := false, holder := false, src := 0#8, opTime := 0#48, cycles := 0#32, data := 0#112, at_ := 0 },
        by decide +kernel⟩,
   ⟨{ evr := { queue := [{ code := 1#16, sev := 0#2, unchecked := false, holder := false, src := 0#8, opTime := 0#48, cycles := 0#32, data := 0#112, at_ := 0 }], ready := true } },
        { code := 1#16, sev := 0#2, unchecked := false, holder := false, src := 0#8, opTime := 0#48, cycles := 0#32, data := 0#112, at_ := 0 }, [],
        by decide +kernel⟩,
   ⟨{ evr := { queue := [{ code := 65535#16, sev := 0#2, unchecked := false, holder := false, src := 0#8, opTime := 0#48, cycles := 0#32, data := 0#112, at_ := 0 }], ready := true, buckets := [{ code := 65535#16, level := 0, at_ := 0, suppressed := 0, first := 0#48 }] } },
        { code := 65535#16, sev := 0#2, unchecked := false, holder := false, src := 0#8, opTime := 0#48, cycles := 0#32, data := 0#112, at_ := 0 },
        [], by decide +kernel⟩,
   ⟨{ evr := { queue := [{ code := 0#16, sev := 0#2, unchecked := false, holder := false, src := 0#8, opTime := 0#48, cycles := 0#32, data := 0#112, at_ := 0 }], ready := true } },
        { code := 0#16, sev := 0#2, unchecked := false, holder := false, src := 0#8, opTime := 0#48, cycles := 0#32, data := 0#112, at_ := 0 }, [],
        by decide +kernel⟩,
   ⟨{ evr := { queue := [{ code := 12289#16, sev := 0#2, unchecked := false, holder := false, src := 0#8, opTime := 0#48, cycles := 0#32, data := 0#112, at_ := 0 }], ready := true, buckets := [{ code := 12289#16, level := 12207031250, at_ := 0, suppressed := 1, first := 0#48 }] } },
        { code := 12289#16, sev := 0#2, unchecked := false, holder := false, src := 0#8, opTime := 0#48, cycles := 0#32, data := 0#112, at_ := 0 },
        [], by decide +kernel⟩,
   ⟨{}, by decide +kernel⟩,
   ⟨{ evr := { slots := [0#256], writing := (some { code := 0#16, sev := 0#2, unchecked := false, holder := false, src := 0#8, opTime := 0#48, cycles := 0#32, data := 0#112, at_ := 0 }) } },
        { code := 0#16, sev := 0#2, unchecked := false, holder := false, src := 0#8, opTime := 0#48, cycles := 0#32, data := 0#112, at_ := 0 },
        by decide +kernel⟩,
   ⟨{}, 0#16, by decide +kernel⟩,
   ⟨{ tb := { now := 125000000000 }, evr := { buckets := [{ code := 0#16, level := 0, at_ := 0, suppressed := 1, first := 0#48 }] } }, 0#16,
        by decide +kernel⟩,
   ⟨{ ses := { tab := ((Vector.replicate 64 {}).set 0 { st := .open_, classes := 16383#14 }) } }, 0, by decide +kernel⟩,
   ⟨{ ses := { tab := ((Vector.replicate 64 {}).set 0 { st := .open_, writeMask := 65535#16, classes := 16383#14 }) }, evr := { clearing := (some 0) } },
        0, by decide +kernel⟩,
   ⟨{ ses := { tab := ((Vector.replicate 64 {}).set 0 { st := .open_, writeMask := 65535#16, classes := 16383#14 }) } }, 0, by decide +kernel⟩,
   ⟨{ ses := { tab := ((Vector.replicate 64 {}).set 0 { st := .open_, classes := 16383#14 }) } }, 0, by decide +kernel⟩,
   ⟨{ ses := { tab := ((Vector.replicate 64 {}).set 0 { st := .open_, classes := 16383#14, sel := { evrArg := 138606875#32 } }) } }, 0,
        by decide +kernel⟩,
   ⟨{}, by decide +kernel⟩,
   ⟨{ evr := { clearing := (some 0) } }, 0, by decide +kernel⟩⟩

theorem test_met_PanelUpdatesRunFrameByFrame :
    (∃ (s : State) (se : Fin 64), (admitted regLcd se s = true) ∧ (s.lcd.regions[s.ses.tab[se].sel.lcdSel].entry = none ∨ ∃ (e : RegionEntry),
        s.lcd.regions[s.ses.tab[se].sel.lcdSel].entry = some e ∧ e.program = false)) ∧
    (∃ (s : State) (se : Fin 64) (e : RegionEntry), (admitted regLcd se s = true) ∧ (s.lcd.regions[s.ses.tab[se].sel.lcdSel].entry = some e) ∧
        (e.program = true) ∧ (s.lcd.regions[s.ses.tab[se].sel.lcdSel].running = none)) ∧
    (∃ (s : State) (se : Fin 64) (e : RegionEntry) (r : PanelUpd), (admitted regLcd se s = true) ∧
        (s.lcd.regions[s.ses.tab[se].sel.lcdSel].entry = some e) ∧ (e.program = true) ∧ (s.lcd.regions[s.ses.tab[se].sel.lcdSel].running = some r) ∧
        (s.lcd.regions[s.ses.tab[se].sel.lcdSel].queued = none)) ∧
    (∃ (s : State) (se : Fin 64) (e : RegionEntry) (r : PanelUpd) (q : PanelUpd), (admitted regLcd se s = true) ∧
        (s.lcd.regions[s.ses.tab[se].sel.lcdSel].entry = some e) ∧ (e.program = true) ∧ (s.lcd.regions[s.ses.tab[se].sel.lcdSel].running = some r) ∧
        (s.lcd.regions[s.ses.tab[se].sel.lcdSel].queued = some q)) ∧
    (∃ (s : State), s.lcd.frozen ≠ none ∨ s.mod.st = ModState.off ∨ s.tb.now < s.lcd.frameAt) ∧
    (∃ (s : State) (n : Fin 16) (r : PanelUpd) (se : Fin 64), (s.lcd.frozen = none) ∧ (s.mod.st ≠ ModState.off) ∧ (s.lcd.frameAt ≤ s.tb.now) ∧
        (s.lcd.pendLayout = false) ∧ (∀ (m : Fin 16), m ≠ n → s.lcd.regions[m].running = none) ∧ (s.lcd.regions[n].running = some r) ∧
        (r.written = true) ∧ (r.asker = some se)) ∧
    (∃ (s : State), (settings s).panelLow = false ∨ s.tb.now < s.lcd.lastActivity + (settings s).panelTimeout * 1000000000) ∧
    (∃ (s : State), ((settings s).panelLow = true) ∧ (s.lcd.lastActivity + (settings s).panelTimeout * 1000000000 ≤ s.tb.now)) :=
  ⟨⟨{ ses := { tab := ((Vector.replicate 64 {}).set 0 { st := .open_, classes := 16383#14 }) } }, 0, by decide +kernel⟩,
   ⟨{ ses := { tab := ((Vector.replicate 64 {}).set 0 { st := .open_, classes := 16383#14 }) }, lcd := { regions := ((Vector.replicate 16 {}).set 0 { entry := (some { num := 0, first := 0, count := 0, program := true, iconMask := 0#32, text := (List.replicate 0 0) }) }) } },
        0, { num := 0, first := 0, count := 0, program := true, iconMask := 0#32, text := (List.replicate 0 0) }, by decide +kernel⟩,
   ⟨{ ses := { tab := ((Vector.replicate 64 {}).set 0 { st := .open_, classes := 16383#14 }) }, lcd := { regions := ((Vector.replicate 16 {}).set 0 { entry := (some { num := 0, first := 0, count := 0, program := true, iconMask := 0#32, text := (List.replicate 0 0) }), running := (some { text := (List.replicate 0 0), icons := 0#32, asker := none, written := false }) }) } },
        0, { num := 0, first := 0, count := 0, program := true, iconMask := 0#32, text := (List.replicate 0 0) },
        { text := (List.replicate 0 0), icons := 0#32, asker := none, written := false }, by decide +kernel⟩,
   ⟨{ ses := { tab := ((Vector.replicate 64 {}).set 0 { st := .open_, classes := 16383#14, sel := { lcdSel := 1 } }) }, lcd := { regions := ((Vector.replicate 16 {}).set 1 { entry := (some { num := 0, first := 0, count := 0, program := true, iconMask := 0#32, text := (List.replicate 0 0) }), running := (some { text := (List.replicate 0 0), icons := 0#32, asker := none, written := false }), queued := (some { text := (List.replicate 0 0), icons := 0#32, asker := none, written := false }) }) } },
        0, { num := 0, first := 0, count := 0, program := true, iconMask := 0#32, text := (List.replicate 0 0) },
        { text := (List.replicate 0 0), icons := 0#32, asker := none, written := false },
        { text := (List.replicate 0 0), icons := 0#32, asker := none, written := false }, by decide +kernel⟩,
   ⟨{ lcd := { frameAt := 1 } }, by decide +kernel⟩,
   ⟨{ lcd := { regions := ((Vector.replicate 16 {}).set 0 { running := (some { text := (List.replicate 0 0), icons := 0#32, asker := (some 0), written := true }) }) } },
        0, { text := (List.replicate 0 0), icons := 0#32, asker := (some 0), written := true }, 0, by decide +kernel⟩,
   ⟨{}, by decide +kernel⟩,
   ⟨{ img := { run := (some { settings := { panelLow := true } }) } }, by decide +kernel⟩⟩

theorem test_met_PowerIsSequencedAndSupervised_1 :
    (∃ (s : State), s.pwr.warn = false ∨ s.mod.st = ModState.off ∨ s.pwr.goodSince = none ∨ ∃ (g : ℕ), s.pwr.goodSince = some g ∧
        s.tb.now < g + 1000000) ∧
    (∃ (s : State) (g : ℕ), (s.pwr.warn = true) ∧ (s.mod.st ≠ ModState.off) ∧ (s.pwr.goodSince = some g) ∧ (g + 1000000 ≤ s.tb.now)) ∧
    (∃ (s : State) (b : Bool), (if b = true then s.pwr.bLost else s.pwr.aLost) = true ∨ s.mod.st = ModState.off ∨
        (if b = true then s.pwr.bSince else s.pwr.aSince) = none ∨ ∃ (g : ℕ), (if b = true then s.pwr.bSince else s.pwr.aSince) = some g ∧
        s.tb.now < g + 10000000) ∧
    (∃ (s : State) (b : Bool), (if b = true then s.pwr.bLost else s.pwr.aLost) = false ∨ s.mod.st = ModState.off ∨
        (if b = true then s.pwr.bSince else s.pwr.aSince) = none ∨ ∃ (g : ℕ), (if b = true then s.pwr.bSince else s.pwr.aSince) = some g ∧
        s.tb.now < g + 10000000) ∧
    (∃ (s : State) (b : Bool) (g : ℕ), (s.mod.st ≠ ModState.off) ∧ ((if b = true then s.pwr.bSince else s.pwr.aSince) = some g) ∧
        (g + 10000000 ≤ s.tb.now) ∧ ((if b = true then s.pwr.bLost else s.pwr.aLost) = false)) ∧
    (∃ (s : State) (b : Bool) (g : ℕ), (s.mod.st ≠ ModState.off) ∧ ((if b = true then s.pwr.bSince else s.pwr.aSince) = some g) ∧
        (g + 10000000 ≤ s.tb.now) ∧ ((if b = true then s.pwr.bLost else s.pwr.aLost) = true)) ∧
    (∃ (s : State) (a : ℕ) (b : ℕ), s.mod.st ≠ ModState.off ∨ s.pwr.railNext ≠ none ∨ s.pwr.railTries ≠ 0 ∧ s.pwr.railTries < 3 ∨ max a b ≤ 1920) ∧
    (∃ (s : State) (a : ℕ) (b : ℕ), (s.mod.st = ModState.off) ∧ (s.pwr.railNext = none) ∧ (s.pwr.railTries = 0 ∨ 3 ≤ s.pwr.railTries) ∧
        (1920 < max a b)) ∧
    (∃ (s : State) (rail : Fin 7), s.mod.st ≠ ModState.off ∨ s.pwr.railNext ≠ some rail) ∧
    (∃ (s : State) (rail : Fin 7), (s.mod.st = ModState.off) ∧ (s.pwr.railNext = some rail) ∧ (rail ≠ 6)) ∧
    (∃ (s : State) (rail : Fin 7), (s.mod.st = ModState.off) ∧ (s.pwr.railNext = some rail) ∧ (rail = 6)) ∧
    (∃ (s : State) (rail : Fin 7), s.mod.st ≠ ModState.off ∨ s.pwr.railNext ≠ some rail ∨ s.tb.now < s.pwr.railSince + railTime rail) ∧
    (∃ (s : State) (rail : Fin 7), (s.mod.st = ModState.off) ∧ (s.pwr.railNext = some rail) ∧ (s.pwr.railSince + railTime rail ≤ s.tb.now)) ∧
    (∃ (s : State), s.mod.st ≠ ModState.off ∨ s.pwr.railNext ≠ none ∨ s.pwr.railTries = 0 ∨ 3 ≤ s.pwr.railTries ∨
        s.tb.now < s.pwr.railSince + 1000000000) ∧
    (∃ (s : State), (s.mod.st = ModState.off) ∧ (s.pwr.railNext = none) ∧ (0 < s.pwr.railTries) ∧ (s.pwr.railTries < 3) ∧
        (s.pwr.railSince + 1000000000 ≤ s.tb.now)) ∧
    (∃ (s : State), s.mod.st = ModState.off ∨ s.mod.st = ModState.failed ∧ (s.lsk.stopped = false ∨ s.mod.enteredAt ≠ s.tb.now ∨
        s.mod.railHit = true)) ∧
    (∃ (s : State), s.mod.st = ModState.boot ∨ s.mod.st = ModState.stopped) ∧
    (∃ (s : State), (s.mod.st = ModState.failed) ∧ (s.lsk.stopped = true) ∧ (s.mod.enteredAt = s.tb.now) ∧ (s.mod.railHit = false)) ∧
    (∃ (s : State), (s.mod.st ≠ ModState.off) ∧ (s.mod.st ≠ ModState.failed) ∧ (s.mod.st ≠ ModState.boot) ∧ (s.mod.st ≠ ModState.stopped)) ∧
    (∃ (s : State), s.mod.st = ModState.off ∨ s.pwr.low = true) ∧
    (∃ (s : State), (s.mod.st ≠ ModState.off) ∧ (s.mod.st ≠ ModState.stopped) ∧ (s.pwr.low = false)) ∧
    (∃ (s : State), s.mod.st ≠ ModState.off ∨ s.pwr.railNext ≠ none) ∧
    (∃ (s : State), s.mod.st ≠ ModState.stopped ∨ s.pwr.low = false ∨ s.pwr.recoveredAt = none) ∧
    (∃ (s : State) (t0 : ℕ), (s.mod.st = ModState.stopped) ∧ (s.pwr.low = true) ∧ (s.pwr.recoveredAt = some t0) ∧ (s.tb.now < t0 + 100000000)) :=
  ⟨⟨{}, by decide +kernel⟩,
   ⟨{ tb := { now := 1525878 }, pwr := { warn := true, goodSince := (some 0) } }, 0, by decide +kernel⟩,
   ⟨{}, false, by decide +kernel⟩,
   ⟨{}, false, by decide +kernel⟩,
   ⟨{ tb := { now := 15258789 }, pwr := { bSince := (some 0) } }, true, 0, by decide +kernel⟩,
   ⟨{ tb := { now := 12207031 }, pwr := { bLost := true, bSince := (some 0) } }, true, 0, by decide +kernel⟩,
   ⟨{}, 1000000, 1000000, by decide +kernel⟩,
   ⟨{ mod := { st := .off } }, 5000, 5000, by decide +kernel⟩,
   ⟨{}, 0, by decide +kernel⟩,
   ⟨{ pwr := { railNext := (some 0) }, mod := { st := .off } }, 0, by decide +kernel⟩,
   ⟨{ pwr := { railNext := (some 6) }, mod := { st := .off } }, 6, by decide +kernel⟩,
   ⟨{}, 0, by decide +kernel⟩,
   ⟨{ tb := { now := 390625000 }, pwr := { railNext := (some 0) }, mod := { st := .off } }, 0, by decide +kernel⟩,
   ⟨{}, by decide +kernel⟩,
   ⟨{ tb := { now := 1000000000 }, pwr := { railTries := 1 }, mod := { st := .off } }, by decide +kernel⟩,
   ⟨{ mod := { st := .off } }, by decide +kernel⟩,
   ⟨{}, by decide +kernel⟩,
   ⟨{ lsk := { stopped := true }, mod := { st := .failed } }, by decide +kernel⟩,
   ⟨{ mod := { st := .active } }, by decide +kernel⟩,
   ⟨{ pwr := { low := true } }, by decide +kernel⟩,
   ⟨{}, by decide +kernel⟩,
   ⟨{}, by decide +kernel⟩,
   ⟨{}, by decide +kernel⟩,
   ⟨{ pwr := { low := true, recoveredAt := (some 0) }, mod := { st := .stopped } }, 0, by decide +kernel⟩⟩

theorem test_met_PowerIsSequencedAndSupervised_2 :
    ∃ (s : State) (t0 : ℕ), (s.mod.st = ModState.stopped) ∧ (s.pwr.low = true) ∧ (s.pwr.recoveredAt = some t0) ∧ (t0 + 100000000 ≤ s.tb.now) ∧
        (1920 < max s.pwr.inA s.pwr.inB) :=
  ⟨{ tb := { now := 100000000 }, pwr := { inA := 2000, low := true, recoveredAt := (some 0) }, mod := { st := .stopped } }, 0, by decide +kernel⟩

theorem test_met_MarginsHoldupAndTelemetryAreTracked :
    (∃ (s : State) (se : Fin 64), (admitted regPwr se s = true) ∧ (s.pwr.testing ≠ none)) ∧
    (∃ (s : State) (se : Fin 64), (admitted regPwr se s = true) ∧ (s.pwr.testing = none) ∧ (inRun s = false ∨ s.pwr.warn = true ∨
        s.pwr.recharging = true ∨ s.pwr.bus < 4000)) ∧
    (∃ (s : State) (se : Fin 64), (admitted regPwr se s = true) ∧ (s.pwr.testing = none) ∧ (inRun s = true) ∧ (s.pwr.warn = false) ∧
        (s.pwr.recharging = false) ∧ (4000 ≤ s.pwr.bus)) ∧
    (∃ (s : State), s.pwr.testing = none ∨ s.tb.now < s.pwr.testSince + 2000000) ∧
    (∃ (s : State) (a : Option (Fin 64)), (s.pwr.testing = some a) ∧ (s.pwr.testSince + 2000000 ≤ s.tb.now)) ∧
    (∃ (s : State), s.mod.st = ModState.off ∨ s.tb.now < s.tel.ctlAt) ∧
    (∃ (s : State), (s.mod.st ≠ ModState.off) ∧ (s.tel.ctlAt ≤ s.tb.now)) ∧
    (∃ (s : State), s.tel.marginLow = false ∨ s.tb.now < s.tel.lowSince + 1000000000) ∧
    (∃ (s : State), (s.tel.marginLow = true) ∧ (s.tel.lowSince + 1000000000 ≤ s.tb.now)) ∧
    (∃ (s : State), s.mod.st = ModState.off) :=
  ⟨⟨{ ses := { tab := ((Vector.replicate 64 {}).set 0 { st := .open_, classes := 16383#14 }) }, pwr := { testing := (some none) } }, 0,
        by decide +kernel⟩,
   ⟨{ ses := { tab := ((Vector.replicate 64 {}).set 0 { st := .open_, classes := 16383#14 }) } }, 0, by decide +kernel⟩,
   ⟨{ ses := { tab := ((Vector.replicate 64 {}).set 0 { st := .open_, classes := 16383#14 }) }, pwr := { bus := 7812 }, mod := { st := .standby } },
        0, by decide +kernel⟩,
   ⟨{}, by decide +kernel⟩,
   ⟨{ tb := { now := 3814697 }, pwr := { testing := (some none) } }, none, by decide +kernel⟩,
   ⟨{ tel := { ctlAt := 2 } }, by decide +kernel⟩,
   ⟨{}, by decide +kernel⟩,
   ⟨{}, by decide +kernel⟩,
   ⟨{ tb := { now := 1953125000 }, tel := { marginLow := true } }, by decide +kernel⟩,
   ⟨{ mod := { st := .off } }, by decide +kernel⟩⟩

theorem test_met_StateCommandsRestartAndStop :
    (∃ (s : State) (se : Fin 64) (c : Instr) (code : ℕ), (admitted regMod se s = true) ∧ (c = Instr.restartWarm se ∧ code = 1 ∨
        c = Instr.restartCold se ∧ code = 2 ∨ c = Instr.stop se ∧ code = 3) ∧ (s.ses.tab[se].sel.modArg.getLsbD 1 = true) ∧
        (standbyThere s = false)) ∧
    (∃ (s : State) (se : Fin 64) (c : Instr) (code : ℕ), (admitted regMod se s = true) ∧ (c = Instr.restartWarm se ∧ code = 1 ∨
        c = Instr.restartCold se ∧ code = 2 ∨ c = Instr.stop se ∧ code = 3) ∧ (s.ses.tab[se].sel.modArg.getLsbD 1 = true) ∧ (standbyThere s = true) ∧
        (saddleOpen s = true)) ∧
    (∃ (s : State) (se : Fin 64) (c : Instr) (code : ℕ), (admitted regMod se s = true) ∧ (c = Instr.restartWarm se ∧ code = 1 ∨
        c = Instr.restartCold se ∧ code = 2 ∨ c = Instr.stop se ∧ code = 3) ∧ (s.ses.tab[se].sel.modArg.getLsbD 1 = false) ∧
        (cmdValid code s = false ∨ holds s = true ∧ standbyThere s = false ∧ s.ses.tab[se].sel.modArg.getLsbD 0 = false)) ∧
    (∃ (s : State) (se : Fin 64) (c : Instr) (code : ℕ), (admitted regMod se s = true) ∧ (c = Instr.restartWarm se ∧ code = 1 ∨
        c = Instr.restartCold se ∧ code = 2 ∨ c = Instr.stop se ∧ code = 3) ∧ (s.ses.tab[se].sel.modArg.getLsbD 1 = false) ∧
        (cmdValid code s = true) ∧ (standbyThere s = true) ∧ (code ≠ 3) ∧ (swapRuns s = true ∨ s.mod.after ≠ none)) ∧
    (∃ (s : State) (se : Fin 64) (c : Instr) (code : ℕ), (admitted regMod se s = true) ∧ (c = Instr.restartWarm se ∧ code = 1 ∨
        c = Instr.restartCold se ∧ code = 2 ∨ c = Instr.stop se ∧ code = 3) ∧ (s.ses.tab[se].sel.modArg.getLsbD 1 = false) ∧
        (cmdValid code s = true) ∧ (standbyThere s = true) ∧ (code ≠ 3) ∧ (swapRuns s = false) ∧ (s.mod.after = none) ∧ (swapUnmet s ≠ none)) ∧
    (∃ (s : State) (se : Fin 64) (c : Instr) (code : ℕ), (admitted regMod se s = true) ∧ (c = Instr.restartWarm se ∧ code = 1 ∨
        c = Instr.restartCold se ∧ code = 2 ∨ c = Instr.stop se ∧ code = 3) ∧ (s.ses.tab[se].sel.modArg.getLsbD 1 = false) ∧
        (cmdValid code s = true) ∧ (standbyThere s = true) ∧ (code ≠ 3) ∧ (swapRuns s = false) ∧ (s.mod.after = none) ∧ (swapUnmet s = none)) ∧
    (∃ (s : State) (se : Fin 64) (c : Instr) (code : ℕ), (admitted regMod se s = true) ∧ (c = Instr.restartWarm se ∧ code = 1 ∨
        c = Instr.restartCold se ∧ code = 2 ∨ c = Instr.stop se ∧ code = 3) ∧ (s.ses.tab[se].sel.modArg.getLsbD 1 = false) ∧
        (cmdValid code s = true) ∧ (standbyThere s = false) ∧ (holds s = false ∨ s.ses.tab[se].sel.modArg.getLsbD 0 = true) ∧ (code ≠ 3)) ∧
    (∃ (s : State) (se : Fin 64) (c : Instr) (code : ℕ), (admitted regMod se s = true) ∧ (c = Instr.restartWarm se ∧ code = 1 ∨
        c = Instr.restartCold se ∧ code = 2 ∨ c = Instr.stop se ∧ code = 3) ∧ (s.ses.tab[se].sel.modArg.getLsbD 1 = false) ∧
        (cmdValid code s = true) ∧ (standbyThere s = true ∨ holds s = false ∨ s.ses.tab[se].sel.modArg.getLsbD 0 = true) ∧ (code = 3)) :=
  ⟨⟨(withSel { modArg := 2 } outside), 0, .stop 0, 3, by decide +kernel⟩,
   ⟨(withSel { modArg := 2 } holder), 0, .stop 0, 3, by decide +kernel⟩,
   ⟨alone, 0, .restartWarm 0, 1, by decide +kernel⟩,
   ⟨{ holder with lease := { holder := true, leaseEnd := 1000000, swapPhase := some .successor } }, 0, .restartWarm 0, 1, by decide +kernel⟩,
   ⟨{ holder with mir := {} }, 0, .restartWarm 0, 1, by decide +kernel⟩,
   ⟨holder, 0, .restartCold 0, 2, by decide +kernel⟩,
   ⟨outside, 0, .restartCold 0, 2, by decide +kernel⟩,
   ⟨outside, 0, .stop 0, 3, by decide +kernel⟩⟩

theorem test_met_StartupLeadsToRun :
    (∃ (s : State), s.mod.st ≠ ModState.boot) ∧
    (∃ (s : State) (a : Bool) (b : Bool), (s.mod.st = ModState.boot) ∧ (copyOk s.mod.fwSelected a s = false) ∧
        (copyOk (!s.mod.fwSelected) b s = false)) ∧
    (∃ (s : State) (a : Bool) (b : Bool), (s.mod.st = ModState.boot) ∧ (copyOk s.mod.fwSelected a s = true ∨ copyOk (!s.mod.fwSelected) b s = true)) ∧
    (∃ (s : State), s.mod.st ≠ ModState.config ∨ s.tb.now < s.mod.enteredAt + 10000000 ∨ s.mod.fetching = true ∨ s.img.run ≠ none ∧
        s.mod.warmStart = false) ∧
    (∃ (s : State) (p : Option PartnerInfo), (s.mod.st = ModState.config) ∧ (s.mod.enteredAt + 10000000 ≤ s.tb.now) ∧ (s.mod.fetching = false) ∧
        (s.img.run = none) ∧ ((s.tsk.rt.any fun (r : TaskRt) => r.st != TState.absent) = false) ∧ (p = none ∨ ∃ (q : PartnerInfo), p = some q ∧
        infoInRun q = false) ∧ (s.img.loadedHere = false)) ∧
    (∃ (s : State) (p : Option PartnerInfo) (q : PartnerInfo), (s.mod.st = ModState.config) ∧ (s.mod.enteredAt + 10000000 ≤ s.tb.now) ∧
        (s.mod.fetching = false) ∧ (s.img.run = none) ∧ ((s.tsk.rt.any fun (r : TaskRt) => r.st != TState.absent) = false) ∧ (p = some q) ∧
        (infoInRun q = true) ∧ (sameKeys q.keys (adoptKeys q.keys (closeEnrolment 2 s)) = true) ∧
        (ownVerifies q.runId (adoptKeys q.keys (closeEnrolment 2 s)) = false)) ∧
    (∃ (s : State), s.mod.st ≠ ModState.config ∨ s.mod.fetching = false) ∧
    (∃ (s : State), (s.mod.st = ModState.config) ∧ (s.mod.fetching = true)) ∧
    (∃ (s : State), s.mod.st ≠ ModState.config ∨ imageConfigured s = false ∨ ∃ (n : Fin 24), s.io.isl[n].st = IslState.boot ∨
        s.io.isl[n].st = IslState.off) ∧
    (∃ (s : State), (s.mod.st = ModState.config) ∧ (imageConfigured s = true) ∧ (∀ (n : Fin 24), s.io.isl[n].st ≠ IslState.boot ∧
        s.io.isl[n].st ≠ IslState.off)) ∧
    (∃ (s : State), s.mod.st ≠ ModState.join ∨ s.mod.joinBegan ≠ none) ∧
    (∃ (s : State), (s.mod.st = ModState.join) ∧ (s.mod.joinBegan = none) ∧ (s.pair.slot = false)) ∧
    (∃ (s : State), (s.mod.st = ModState.join) ∧ (s.mod.joinBegan = none) ∧ (s.pair.slot = true) ∧ (s.pair.contact = true) ∧
        (s.mod.joinWait = none)) ∧
    (∃ (s : State) (q : PartnerInfo), (s.mod.st = ModState.join) ∧ (s.mod.joinBegan = none) ∧ (infoInRun q = true) ∧ (sameKeys q.keys s = false)) ∧
    (∃ (s : State) (q : PartnerInfo), (s.mod.st = ModState.join) ∧ (s.mod.joinBegan = none) ∧ (infoInRun q = true) ∧ (sameKeys q.keys s = true) ∧
        (rangesOverlap q s = false)) ∧
    (∃ (s : State) (q : PartnerInfo), (s.mod.st = ModState.join) ∧ (s.mod.joinBegan = none) ∧ (infoInRun q = true) ∧ (sameKeys q.keys s = true) ∧
        (rangesOverlap q s = true)) ∧
    (∃ (s : State), s.mod.st ≠ ModState.join ∨ s.mod.joinWait = none ∨ s.mod.joinBegan ≠ none ∨ partnerInRun s = true ∨ ∃ (t : ℕ),
        s.mod.joinWait = some t ∧ s.tb.now < t + 30000000000) ∧
    (∃ (s : State) (t : ℕ), (s.mod.st = ModState.join) ∧ (s.mod.joinWait = some t) ∧ (s.mod.joinBegan = none) ∧ (partnerInRun s = false) ∧
        (t + 30000000000 ≤ s.tb.now)) ∧
    (∃ (s : State), s.mod.st ≠ ModState.join ∨ s.mod.joinBegan = none ∨ s.mod.joinAt ≠ none) ∧
    (∃ (s : State), (s.mod.st = ModState.join) ∧ (s.mod.joinBegan ≠ none) ∧ (s.mod.joinAt = none) ∧ (s.mir.inbox = [])) ∧
    (∃ (s : State), s.mod.joinAt = none ∨ s.mod.joinBegan = none ∨ s.mod.st ≠ ModState.join ∨ ∃ (j : ℕ), s.mod.joinAt = some j ∧ s.tb.now < j) ∧
    (∃ (s : State) (j : ℕ) (t0 : ℕ), (s.mod.st = ModState.join) ∧ (s.mod.joinAt = some j) ∧ (s.mod.joinBegan = some t0) ∧ (j ≤ s.tb.now)) ∧
    (∃ (s : State), s.mod.idleFetch = false ∨ inRun s = false) ∧
    (∃ (s : State), (s.mod.idleFetch = true) ∧ (inRun s = true)) :=
  ⟨⟨{ mod := { st := .off } }, by decide +kernel⟩,
   ⟨{}, false, false, by decide +kernel⟩,
   ⟨{}, true, false, by decide +kernel⟩,
   ⟨{}, by decide +kernel⟩,
   ⟨{ tb := { now := 15258789 }, mod := { st := .config } }, none, by decide +kernel⟩,
   ⟨{ tb := { now := 10000000 }, mod := { st := .config } },
        (some { ident := 0#64, modState := 5, keys := [.empty, .empty, .empty, .empty, .empty, .empty, .empty, .empty], runId := 0#256, idleId := 0#256, idleState := 0#4, pairMin := 0#4, pairMax := 15#4, timeBase := 0, ptpOfs := (0), origin := 0, cycles := [], epoch := 0#32, leaseEnd := 0 }),
        { ident := 0#64, modState := 5, keys := [.empty, .empty, .empty, .empty, .empty, .empty, .empty, .empty], runId := 0#256, idleId := 0#256, idleState := 0#4, pairMin := 0#4, pairMax := 15#4, timeBase := 0, ptpOfs := (0), origin := 0, cycles := [], epoch := 0#32, leaseEnd := 0 },
        by decide +kernel⟩,
   ⟨{}, by decide +kernel⟩,
   ⟨{ mod := { st := .config, fetching := true } }, by decide +kernel⟩,
   ⟨{}, by decide +kernel⟩,
   ⟨{ tsk := { rt := ((Vector.replicate 128 {}).set 0 { st := .waiting }) }, img := { run := (some {}) }, io := { isl := (((((((((((((((((((((((((Vector.replicate 24 {}).set 0 { st := .in_ }).set 1 { st := .in_ }).set 2 { st := .in_ }).set 3 { st := .in_ }).set 4 { st := .in_ }).set 5 { st := .in_ }).set 6 { st := .in_ }).set 7 { st := .in_ }).set 8 { st := .in_ }).set 9 { st := .in_ }).set 10 { st := .in_ }).set 11 { st := .in_ }).set 12 { st := .in_ }).set 13 { st := .in_ }).set 14 { st := .in_ }).set 15 { st := .in_ }).set 16 { st := .in_ }).set 17 { st := .in_ }).set 18 { st := .in_ }).set 19 { st := .in_ }).set 20 { st := .in_ }).set 21 { st := .in_ }).set 22 { st := .in_ }).set 23 { st := .in_ }) }, mod := { st := .config } },
        by decide +kernel⟩,
   ⟨{}, by decide +kernel⟩,
   ⟨{ mod := { st := .join } }, by decide +kernel⟩,
   ⟨{ pair := { contact := true, slot := true }, mod := { st := .join } }, by decide +kernel⟩,
   ⟨{ mod := { st := .join } },
        { ident := 13270072648379275850#64, modState := 6, keys := [.empty, (KeySlot.revoked 115792089237316195423570985008687907853269984665640564039457584007913129639935#256)], runId := 115792089237316195423570985008687907853269984665640564039457584007913129639935#256, idleId := 115792089237316195423570985008687907853269984665640564039457584007913129639935#256, idleState := 4#4, pairMin := 5#4, pairMax := 0#4, timeBase := 8, ptpOfs := (0), origin := 15, cycles := [(0, (73841238#32, 9228#32))], epoch := 4294967295#32, leaseEnd := 16 },
        by decide +kernel⟩,
   ⟨{ mod := { st := .join } },
        { ident := 0#64, modState := 5, keys := [.empty, .empty, .empty, .empty, .empty, .empty, .empty, .empty], runId := 5#256, idleId := 0#256, idleState := 0#4, pairMin := 3#4, pairMax := 15#4, timeBase := 0, ptpOfs := (0), origin := 0, cycles := [], epoch := 0#32, leaseEnd := 0 },
        by decide +kernel⟩,
   ⟨{ mod := { st := .join } },
        { ident := 0#64, modState := 5, keys := [.empty, .empty, .empty, .empty, .empty, .empty, .empty, .empty], runId := 0#256, idleId := 0#256, idleState := 0#4, pairMin := 0#4, pairMax := 15#4, timeBase := 0, ptpOfs := (0), origin := 0, cycles := [], epoch := 0#32, leaseEnd := 0 },
        by decide +kernel⟩,
   ⟨{}, by decide +kernel⟩,
   ⟨{ tb := { now := 31250000000 }, mod := { st := .join, joinWait := (some 0) } }, 0, by decide +kernel⟩,
   ⟨{}, by decide +kernel⟩,
   ⟨{ mod := { st := .join, joinBegan := (some 0) } }, by decide +kernel⟩,
   ⟨{}, by decide +kernel⟩,
   ⟨{ mod := { st := .join, joinAt := (some 0), joinBegan := (some 0) } }, 0, 0, by decide +kernel⟩,
   ⟨{}, by decide +kernel⟩,
   ⟨{ mod := { st := .unchecked, idleFetch := true } }, by decide +kernel⟩⟩

theorem test_met_TheLastSlotTellsThatTheRecorderIsFull :
    (∃ (s : State) (e : Ev) (rest : List Ev), (s.evr.ready = true) ∧ (s.evr.closed = false) ∧ (s.evr.clearing = none) ∧ (s.evr.writing = none) ∧
        (s.evr.afterClear = none) ∧ (s.evr.queue = e :: rest) ∧ (neverLimited e.code = true ∨
        tokenNs s.evr.rates[codeClass e.code] ≤ (bucketNow e.code s).level ∧ (bucketNow e.code s).suppressed = 0) ∧ (s.evr.slots.length = 65535)) ∧
    (∃ (s : State) (e : Ev) (rest : List Ev), (s.evr.ready = true) ∧ (s.evr.closed = false) ∧ (s.evr.clearing = none) ∧ (s.evr.writing = none) ∧
        (s.evr.afterClear = none) ∧ (s.evr.queue = e :: rest) ∧ (neverLimited e.code = true ∨
        tokenNs s.evr.rates[codeClass e.code] ≤ (bucketNow e.code s).level ∧ (bucketNow e.code s).suppressed = 0) ∧ (65536 ≤ s.evr.slots.length)) ∧
    (∃ (s : State) (e : Ev) (rest : List Ev), (s.evr.ready = true) ∧ (s.evr.closed = false) ∧ (s.evr.clearing = none) ∧ (s.evr.writing = none) ∧
        (s.evr.afterClear = none) ∧ (s.evr.queue = e :: rest) ∧ (neverLimited e.code = false) ∧
        ((bucketNow e.code s).level < tokenNs s.evr.rates[codeClass e.code])) ∧
    (∃ (s : State), 256 ≤ s.evr.queue.length) :=
  ⟨⟨recorder 65535, ev0, [], rfl, rfl, rfl, rfl, rfl, rfl, .inl rfl, List.length_replicate⟩,
   ⟨recorder 65536, ev0, [], rfl, rfl, rfl, rfl, rfl, rfl, .inl rfl, Nat.le_of_eq List.length_replicate.symm⟩,
   ⟨{ evr := { queue := [{ code := 0#16, sev := 0#2, unchecked := false, holder := false, src := 0#8, opTime := 0#48, cycles := 0#32, data := 0#112, at_ := 0 }], ready := true, buckets := [{ code := 0#16, level := 0, at_ := 0, suppressed := 0, first := 0#48 }] } },
        { code := 0#16, sev := 0#2, unchecked := false, holder := false, src := 0#8, opTime := 0#48, cycles := 0#32, data := 0#112, at_ := 0 }, [],
        by decide +kernel⟩,
   ⟨{ evr := { queue := [{ code := 0#16, sev := 0#2, unchecked := false, holder := false, src := 0#8, opTime := 0#48, cycles := 0#32, data := 0#112, at_ := 0 }, { code := 0#16, sev := 0#2, unchecked := false, holder := false, src := 0#8, opTime := 0#48, cycles := 0#32, data := 0#112, at_ := 0 }, { code := 1#16, sev := 0#2, unchecked := false, holder := false, src := 0#8, opTime := 0#48, cycles := 0#32, data := 0#112, at_ := 0 }, { code := 1#16, sev := 0#2, unchecked := false, holder := false, src := 0#8, opTime := 0#48, cycles := 0#32, data := 0#112, at_ := 0 }, { code := 1#16, sev := 0#2, unchecked := false, holder := false, src := 0#8, opTime := 0#48, cycles := 0#32, data := 0#112, at_ := 0 }, { code := 1#16, sev := 0#2, unchecked := false, holder := false, src := 0#8, opTime := 0#48, cycles := 0#32, data := 0#112, at_ := 0 }, { code := 1#16, sev := 0#2, unchecked := false, holder := false, src := 0#8, opTime := 0#48, cycles := 0#32, data := 0#112, at_ := 0 }, { code := 1#16, sev := 0#2, unchecked := false, holder := false, src := 0#8, opTime := 0#48, cycles := 0#32, data := 0#112, at_ := 0 }, { code := 1#16, sev := 0#2, unchecked := false, holder := false, src := 0#8, opTime := 0#48, cycles := 0#32, data := 0#112, at_ := 0 }, { code := 1#16, sev := 0#2, unchecked := false, holder := false, src := 0#8, opTime := 0#48, cycles := 0#32, data := 0#112, at_ := 0 }, { code := 1#16, sev := 0#2, unchecked := false, holder := false, src := 0#8, opTime := 0#48, cycles := 0#32, data := 0#112, at_ := 0 }, { code := 1#16, sev := 0#2, unchecked := false, holder := false, src := 0#8, opTime := 0#48, cycles := 0#32, data := 0#112, at_ := 0 }, { code := 1#16, sev := 0#2, unchecked := false, holder := false, src := 0#8, opTime := 0#48, cycles := 0#32, data := 0#112, at_ := 0 }, { code := 1#16, sev := 0#2, unchecked := false, holder := false, src := 0#8, opTime := 0#48, cycles := 0#32, data := 0#112, at_ := 0 }, { code := 1#16, sev := 0#2, unchecked := false, holder := false, src := 0#8, opTime := 0#48, cycles := 0#32, data := 0#112, at_ := 0 }, { code := 1#16, sev := 0#2, unchecked := false, holder := false, src := 0#8, opTime := 0#48, cycles := 0#32, data := 0#112, at_ := 0 }, { code := 1#16, sev := 0#2, unchecked := false, holder := false, src := 0#8, opTime := 0#48, cycles := 0#32, data := 0#112, at_ := 0 }, { code := 1#16, sev := 0#2, unchecked := false, holder := false, src := 0#8, opTime := 0#48, cycles := 0#32, data := 0#112, at_ := 0 }, { code := 1#16, sev := 0#2, unchecked := false, holder := false, src := 0#8, opTime := 0#48, cycles := 0#32, data := 0#112, at_ := 0 }, { code := 1#16, sev := 0#2, unchecked := false, holder := false, src := 0#8, opTime := 0#48, cycles := 0#32, data := 0#112, at_ := 0 }, { code := 1#16, sev := 0#2, unchecked := false, holder := false, src := 0#8, opTime := 0#48, cycles := 0#32, data := 0#112, at_ := 0 }, { code := 1#16, sev := 0#2, unchecked := false, holder := false, src := 0#8, opTime := 0#48, cycles := 0#32, data := 0#112, at_ := 0 }, { code := 1#16, sev := 0#2, unchecked := false, holder := false, src := 0#8, opTime := 0#48, cycles := 0#32, data := 0#112, at_ := 0 }, { code := 1#16, sev := 0#2, unchecked := false, holder := false, src := 0#8, opTime := 0#48, cycles := 0#32, data := 0#112, at_ := 0 }, { code := 1#16, sev := 0#2, unchecked := false, holder := false, src := 0#8, opTime := 0#48, cycles := 0#32, data := 0#112, at_ := 0 }, { code := 1#16, sev := 0#2, unchecked := false, holder := false, src := 0#8, opTime := 0#48, cycles := 0#32, data := 0#112, at_ := 0 }, { code := 1#16, sev := 0#2, unchecked := false, holder := false, src := 0#8, opTime := 0#48, cycles := 0#32, data := 0#112, at_ := 0 }, { code := 1#16, sev := 0#2, unchecked := false, holder := false, src := 0#8, opTime := 0#48, cycles := 0#32, data := 0#112, at_ := 0 }, { code := 1#16, sev := 0#2, unchecked := false, holder := false, src := 0#8, opTime := 0#48, cycles := 0#32, data := 0#112, at_ := 0 }, { code := 1#16, sev := 0#2, unchecked := false, holder := false, src := 0#8, opTime := 0#48, cycles := 0#32, data := 0#112, at_ := 0 }, { code := 1#16, sev := 0#2, unchecked := false, holder := false, src := 0#8, opTime := 0#48, cycles := 0#32, data := 0#112, at_ := 0 }, { code := 1#16, sev := 0#2, unchecked := false, holder := false, src := 0#8, opTime := 0#48, cycles := 0#32, data := 0#112, at_ := 0 }, { code := 1#16, sev := 0#2, unchecked := false, holder := false, src := 0#8, opTime := 0#48, cycles := 0#32, data := 0#112, at_ := 0 }, { code := 1#16, sev := 0#2, unchecked := false, holder := false, src := 0#8, opTime := 0#48, cycles := 0#32, data := 0#112, at_ := 0 }, { code := 1#16, sev := 0#2, unchecked := false, holder := false, src := 0#8, opTime := 0#48, cycles := 0#32, data := 0#112, at_ := 0 }, { code := 1#16, sev := 0#2, unchecked := false, holder := false, src := 0#8, opTime := 0#48, cycles := 0#32, data := 0#112, at_ := 0 }, { code := 1#16, sev := 0#2, unchecked := false, holder := false, src := 0#8, opTime := 0#48, cycles := 0#32, data := 0#112, at_ := 0 }, { code := 1#16, sev := 0#2, unchecked := false, holder := false, src := 0#8, opTime := 0#48, cycles := 0#32, data := 0#112, at_ := 0 }, { code := 1#16, sev := 0#2, unchecked := false, holder := false, src := 0#8, opTime := 0#48, cycles := 0#32, data := 0#112, at_ := 0 }, { code := 1#16, sev := 0#2, unchecked := false, holder := false, src := 0#8, opTime := 0#48, cycles := 0#32, data := 0#112, at_ := 0 }, { code := 1#16, sev := 0#2, unchecked := false, holder := false, src := 0#8, opTime := 0#48, cycles := 0#32, data := 0#112, at_ := 0 }, { code := 1#16, sev := 0#2, unchecked := false, holder := false, src := 0#8, opTime := 0#48, cycles := 0#32, data := 0#112, at_ := 0 }, { code := 1#16, sev := 0#2, unchecked := false, holder := false, src := 0#8, opTime := 0#48, cycles := 0#32, data := 0#112, at_ := 0 }, { code := 1#16, sev := 0#2, unchecked := false, holder := false, src := 0#8, opTime := 0#48, cycles := 0#32, data := 0#112, at_ := 0 }, { code := 1#16, sev := 0#2, unchecked := false, holder := false, src := 0#8, opTime := 0#48, cycles := 0#32, data := 0#112, at_ := 0 }, { code := 1#16, sev := 0#2, unchecked := false, holder := false, src := 0#8, opTime := 0#48, cycles := 0#32, data := 0#112, at_ := 0 }, { code := 1#16, sev := 0#2, unchecked := false, holder := false, src := 0#8, opTime := 0#48, cycles := 0#32, data := 0#112, at_ := 0 }, { code := 1#16, sev := 0#2, unchecked := false, holder := false, src := 0#8, opTime := 0#48, cycles := 0#32, data := 0#112, at_ := 0 }, { code := 1#16, sev := 0#2, unchecked := false, holder := false, src := 0#8, opTime := 0#48, cycles := 0#32, data := 0#112, at_ := 0 }, { code := 1#16, sev := 0#2, unchecked := false, holder := false, src := 0#8, opTime := 0#48, cycles := 0#32, data := 0#112, at_ := 0 }, { code := 1#16, sev := 0#2, unchecked := false, holder := false, src := 0#8, opTime := 0#48, cycles := 0#32, data := 0#112, at_ := 0 }, { code := 1#16, sev := 0#2, unchecked := false, holder := false, src := 0#8, opTime := 0#48, cycles := 0#32, data := 0#112, at_ := 0 }, { code := 1#16, sev := 0#2, unchecked := false, holder := false, src := 0#8, opTime := 0#48, cycles := 0#32, data := 0#112, at_ := 0 }, { code := 1#16, sev := 0#2, unchecked := false, holder := false, src := 0#8, opTime := 0#48, cycles := 0#32, data := 0#112, at_ := 0 }, { code := 1#16, sev := 0#2, unchecked := false, holder := false, src := 0#8, opTime := 0#48, cycles := 0#32, data := 0#112, at_ := 0 }, { code := 1#16, sev := 0#2, unchecked := false, holder := false, src := 0#8, opTime := 0#48, cycles := 0#32, data := 0#112, at_ := 0 }, { code := 1#16, sev := 0#2, unchecked := false, holder := false, src := 0#8, opTime := 0#48, cycles := 0#32, data := 0#112, at_ := 0 }, { code := 1#16, sev := 0#2, unchecked := false, holder := false, src := 0#8, opTime := 0#48, cycles := 0#32, data := 0#112, at_ := 0 }, { code := 1#16, sev := 0#2, unchecked := false, holder := false, src := 0#8, opTime := 0#48, cycles := 0#32, data := 0#112, at_ := 0 }, { code := 1#16, sev := 0#2, unchecked := false, holder := false, src := 0#8, opTime := 0#48, cycles := 0#32, data := 0#112, at_ := 0 }, { code := 1#16, sev := 0#2, unchecked := false, holder := false, src := 0#8, opTime := 0#48, cycles := 0#32, data := 0#112, at_ := 0 }, { code := 1#16, sev := 0#2, unchecked := false, holder := false, src := 0#8, opTime := 0#48, cycles := 0#32, data := 0#112, at_ := 0 }, { code := 1#16, sev := 0#2, unchecked := false, holder := false, src := 0#8, opTime := 0#48, cycles := 0#32, data := 0#112, at_ := 0 }, { code := 1#16, sev := 0#2, unchecked := false, holder := false, src := 0#8, opTime := 0#48, cycles := 0#32, data := 0#112, at_ := 0 }, { code := 1#16, sev := 0#2, unchecked := false, holder := false, src := 0#8, opTime := 0#48, cycles := 0#32, data := 0#112, at_ := 0 }, { code := 1#16, sev := 0#2, unchecked := false, holder := false, src := 0#8, opTime := 0#48, cycles := 0#32, data := 0#112, at_ := 0 }, { code := 1#16, sev := 0#2, unchecked := false, holder := false, src := 0#8, opTime := 0#48, cycles := 0#32, data := 0#112, at_ := 0 }, { code := 1#16, sev := 0#2, unchecked := false, holder := false, src := 0#8, opTime := 0#48, cycles := 0#32, data := 0#112, at_ := 0 }, { code := 1#16, sev := 0#2, unchecked := false, holder := false, src := 0#8, opTime := 0#48, cycles := 0#32, data := 0#112, at_ := 0 }, { code := 1#16, sev := 0#2, unchecked := false, holder := false, src := 0#8, opTime := 0#48, cycles := 0#32, data := 0#112, at_ := 0 }, { code := 1#16, sev := 0#2, unchecked := false, holder := false, src := 0#8, opTime := 0#48, cycles := 0#32, data := 0#112, at_ := 0 }, { code := 1#16, sev := 0#2, unchecked := false, holder := false, src := 0#8, opTime := 0#48, cycles := 0#32, data := 0#112, at_ := 0 }, { code := 1#16, sev := 0#2, unchecked := false, holder := false, src := 0#8, opTime := 0#48, cycles := 0#32, data := 0#112, at_ := 0 }, { code := 1#16, sev := 0#2, unchecked := false, holder := false, src := 0#8, opTime := 0#48, cycles := 0#32, data := 0#112, at_ := 0 }, { code := 1#16, sev := 0#2, unchecked := false, holder := false, src := 0#8, opTime := 0#48, cycles := 0#32, data := 0#112, at_ := 0 }, { code := 1#16, sev := 0#2, unchecked := false, holder := false, src := 0#8, opTime := 0#48, cycles := 0#32, data := 0#112, at_ := 0 }, { code := 1#16, sev := 0#2, unchecked := false, holder := false, src := 0#8, opTime := 0#48, cycles := 0#32, data := 0#112, at_ := 0 }, { code := 1#16, sev := 0#2, unchecked := false, holder := false, src := 0#8, opTime := 0#48, cycles := 0#32, data := 0#112, at_ := 0 }, { code := 1#16, sev := 0#2, unchecked := false, holder := false, src := 0#8, opTime := 0#48, cycles := 0#32, data := 0#112, at_ := 0 }, { code := 1#16, sev := 0#2, unchecked := false, holder := false, src := 0#8, opTime := 0#48, cycles := 0#32, data := 0#112, at_ := 0 }, { code := 1#16, sev := 0#2, unchecked := false, holder := false, src := 0#8, opTime := 0#48, cycles := 0#32, data := 0#112, at_ := 0 }, { code := 1#16, sev := 0#2, unchecked := false, holder := false, src := 0#8, opTime := 0#48, cycles := 0#32, data := 0#112, at_ := 0 }, { code := 1#16, sev := 0#2, unchecked := false, holder := false, src := 0#8, opTime := 0#48, cycles := 0#32, data := 0#112, at_ := 0 }, { code := 1#16, sev := 0#2, unchecked := false, holder := false, src := 0#8, opTime := 0#48, cycles := 0#32, data := 0#112, at_ := 0 }, { code := 1#16, sev := 0#2, unchecked := false, holder := false, src := 0#8, opTime := 0#48, cycles := 0#32, data := 0#112, at_ := 0 }, { code := 1#16, sev := 0#2, unchecked := false, holder := false, src := 0#8, opTime := 0#48, cycles := 0#32, data := 0#112, at_ := 0 }, { code := 1#16, sev := 0#2, unchecked := false, holder := false, src := 0#8, opTime := 0#48, cycles := 0#32, data := 0#112, at_ := 0 }, { code := 1#16, sev := 0#2, unchecked := false, holder := false, src := 0#8, opTime := 0#48, cycles := 0#32, data := 0#112, at_ := 0 }, { code := 1#16, sev := 0#2, unchecked := false, holder := false, src := 0#8, opTime := 0#48, cycles := 0#32, data := 0#112, at_ := 0 }, { code := 1#16, sev := 0#2, unchecked := false, holder := false, src := 0#8, opTime := 0#48, cycles := 0#32, data := 0#112, at_ := 0 }, { code := 1#16, sev := 0#2, unchecked := false, holder := false, src := 0#8, opTime := 0#48, cycles := 0#32, data := 0#112, at_ := 0 }, { code := 1#16, sev := 0#2, unchecked := false, holder := false, src := 0#8, opTime := 0#48, cycles := 0#32, data := 0#112, at_ := 0 }, { code := 1#16, sev := 0#2, unchecked := false, holder := false, src := 0#8, opTime := 0#48, cycles := 0#32, data := 0#112, at_ := 0 }, { code := 1#16, sev := 0#2, unchecked := false, holder := false, src := 0#8, opTime := 0#48, cycles := 0#32, data := 0#112, at_ := 0 }, { code := 1#16, sev := 0#2, unchecked := false, holder := false, src := 0#8, opTime := 0#48, cycles := 0#32, data := 0#112, at_ := 0 }, { code := 1#16, sev := 0#2, unchecked := false, holder := false, src := 0#8, opTime := 0#48, cycles := 0#32, data := 0#112, at_ := 0 }, { code := 1#16, sev := 0#2, unchecked := false, holder := false, src := 0#8, opTime := 0#48, cycles := 0#32, data := 0#112, at_ := 0 }, { code := 1#16, sev := 0#2, unchecked := false, holder := false, src := 0#8, opTime := 0#48, cycles := 0#32, data := 0#112, at_ := 0 }, { code := 1#16, sev := 0#2, unchecked := false, holder := false, src := 0#8, opTime := 0#48, cycles := 0#32, data := 0#112, at_ := 0 }, { code := 1#16, sev := 0#2, unchecked := false, holder := false, src := 0#8, opTime := 0#48, cycles := 0#32, data := 0#112, at_ := 0 }, { code := 1#16, sev := 0#2, unchecked := false, holder := false, src := 0#8, opTime := 0#48, cycles := 0#32, data := 0#112, at_ := 0 }, { code := 1#16, sev := 0#2, unchecked := false, holder := false, src := 0#8, opTime := 0#48, cycles := 0#32, data := 0#112, at_ := 0 }, { code := 1#16, sev := 0#2, unchecked := false, holder := false, src := 0#8, opTime := 0#48, cycles := 0#32, data := 0#112, at_ := 0 }, { code := 1#16, sev := 0#2, unchecked := false, holder := false, src := 0#8, opTime := 0#48, cycles := 0#32, data := 0#112, at_ := 0 }, { code := 1#16, sev := 0#2, unchecked := false, holder := false, src := 0#8, opTime := 0#48, cycles := 0#32, data := 0#112, at_ := 0 }, { code := 1#16, sev := 0#2, unchecked := false, holder := false, src := 0#8, opTime := 0#48, cycles := 0#32, data := 0#112, at_ := 0 }, { code := 1#16, sev := 0#2, unchecked := false, holder := false, src := 0#8, opTime := 0#48, cycles := 0#32, data := 0#112, at_ := 0 }, { code := 1#16, sev := 0#2, unchecked := false, holder := false, src := 0#8, opTime := 0#48, cycles := 0#32, data := 0#112, at_ := 0 }, { code := 1#16, sev := 0#2, unchecked := false, holder := false, src := 0#8, opTime := 0#48, cycles := 0#32, data := 0#112, at_ := 0 }, { code := 1#16, sev := 0#2, unchecked := false, holder := false, src := 0#8, opTime := 0#48, cycles := 0#32, data := 0#112, at_ := 0 }, { code := 1#16, sev := 0#2, unchecked := false, holder := false, src := 0#8, opTime := 0#48, cycles := 0#32, data := 0#112, at_ := 0 }, { code := 1#16, sev := 0#2, unchecked := false, holder := false, src := 0#8, opTime := 0#48, cycles := 0#32, data := 0#112, at_ := 0 }, { code := 1#16, sev := 0#2, unchecked := false, holder := false, src := 0#8, opTime := 0#48, cycles := 0#32, data := 0#112, at_ := 0 }, { code := 1#16, sev := 0#2, unchecked := false, holder := false, src := 0#8, opTime := 0#48, cycles := 0#32, data := 0#112, at_ := 0 }, { code := 1#16, sev := 0#2, unchecked := false, holder := false, src := 0#8, opTime := 0#48, cycles := 0#32, data := 0#112, at_ := 0 }, { code := 1#16, sev := 0#2, unchecked := false, holder := false, src := 0#8, opTime := 0#48, cycles := 0#32, data := 0#112, at_ := 0 }, { code := 1#16, sev := 0#2, unchecked := false, holder := false, src := 0#8, opTime := 0#48, cycles := 0#32, data := 0#112, at_ := 0 }, { code := 1#16, sev := 0#2, unchecked := false, holder := false, src := 0#8, opTime := 0#48, cycles := 0#32, data := 0#112, at_ := 0 }, { code := 1#16, sev := 0#2, unchecked := false, holder := false, src := 0#8, opTime := 0#48, cycles := 0#32, data := 0#112, at_ := 0 }, { code := 1#16, sev := 0#2, unchecked := false, holder := false, src := 0#8, opTime := 0#48, cycles := 0#32, data := 0#112, at_ := 0 }, { code := 1#16, sev := 0#2, unchecked := false, holder := false, src := 0#8, opTime := 0#48, cycles := 0#32, data := 0#112, at_ := 0 }, { code := 1#16, sev := 0#2, unchecked := false, holder := false, src := 0#8, opTime := 0#48, cycles := 0#32, data := 0#112, at_ := 0 }, { code := 1#16, sev := 0#2, unchecked := false, holder := false, src := 0#8, opTime := 0#48, cycles := 0#32, data := 0#112, at_ := 0 }, { code := 1#16, sev := 0#2, unchecked := false, holder := false, src := 0#8, opTime := 0#48, cycles := 0#32, data := 0#112, at_ := 0 }, { code := 1#16, sev := 0#2, unchecked := false, holder := false, src := 0#8, opTime := 0#48, cycles := 0#32, data := 0#112, at_ := 0 }, { code := 1#16, sev := 0#2, unchecked := false, holder := false, src := 0#8, opTime := 0#48, cycles := 0#32, data := 0#112, at_ := 0 }, { code := 1#16, sev := 0#2, unchecked := false, holder := false, src := 0#8, opTime := 0#48, cycles := 0#32, data := 0#112, at_ := 0 }, { code := 1#16, sev := 0#2, unchecked := false, holder := false, src := 0#8, opTime := 0#48, cycles := 0#32, data := 0#112, at_ := 0 }, { code := 1#16, sev := 0#2, unchecked := false, holder := false, src := 0#8, opTime := 0#48, cycles := 0#32, data := 0#112, at_ := 0 }, { code := 1#16, sev := 0#2, unchecked := false, holder := false, src := 0#8, opTime := 0#48, cycles := 0#32, data := 0#112, at_ := 0 }, { code := 1#16, sev := 0#2, unchecked := false, holder := false, src := 0#8, opTime := 0#48, cycles := 0#32, data := 0#112, at_ := 0 }, { code := 1#16, sev := 0#2, unchecked := false, holder := false, src := 0#8, opTime := 0#48, cycles := 0#32, data := 0#112, at_ := 0 }, { code := 1#16, sev := 0#2, unchecked := false, holder := false, src := 0#8, opTime := 0#48, cycles := 0#32, data := 0#112, at_ := 0 }, { code := 1#16, sev := 0#2, unchecked := false, holder := false, src := 0#8, opTime := 0#48, cycles := 0#32, data := 0#112, at_ := 0 }, { code := 1#16, sev := 0#2, unchecked := false, holder := false, src := 0#8, opTime := 0#48, cycles := 0#32, data := 0#112, at_ := 0 }, { code := 1#16, sev := 0#2, unchecked := false, holder := false, src := 0#8, opTime := 0#48, cycles := 0#32, data := 0#112, at_ := 0 }, { code := 1#16, sev := 0#2, unchecked := false, holder := false, src := 0#8, opTime := 0#48, cycles := 0#32, data := 0#112, at_ := 0 }, { code := 1#16, sev := 0#2, unchecked := false, holder := false, src := 0#8, opTime := 0#48, cycles := 0#32, data := 0#112, at_ := 0 }, { code := 1#16, sev := 0#2, unchecked := false, holder := false, src := 0#8, opTime := 0#48, cycles := 0#32, data := 0#112, at_ := 0 }, { code := 1#16, sev := 0#2, unchecked := false, holder := false, src := 0#8, opTime := 0#48, cycles := 0#32, data := 0#112, at_ := 0 }, { code := 1#16, sev := 0#2, unchecked := false, holder := false, src := 0#8, opTime := 0#48, cycles := 0#32, data := 0#112, at_ := 0 }, { code := 1#16, sev := 0#2, unchecked := false, holder := false, src := 0#8, opTime := 0#48, cycles := 0#32, data := 0#112, at_ := 0 }, { code := 1#16, sev := 0#2, unchecked := false, holder := false, src := 0#8, opTime := 0#48, cycles := 0#32, data := 0#112, at_ := 0 }, { code := 1#16, sev := 0#2, unchecked := false, holder := false, src := 0#8, opTime := 0#48, cycles := 0#32, data := 0#112, at_ := 0 }, { code := 1#16, sev := 0#2, unchecked := false, holder := false, src := 0#8, opTime := 0#48, cycles := 0#32, data := 0#112, at_ := 0 }, { code := 1#16, sev := 0#2, unchecked := false, holder := false, src := 0#8, opTime := 0#48, cycles := 0#32, data := 0#112, at_ := 0 }, { code := 1#16, sev := 0#2, unchecked := false, holder := false, src := 0#8, opTime := 0#48, cycles := 0#32, data := 0#112, at_ := 0 }, { code := 1#16, sev := 0#2, unchecked := false, holder := false, src := 0#8, opTime := 0#48, cycles := 0#32, data := 0#112, at_ := 0 }, { code := 1#16, sev := 0#2, unchecked := false, holder := false, src := 0#8, opTime := 0#48, cycles := 0#32, data := 0#112, at_ := 0 }, { code := 1#16, sev := 0#2, unchecked := false, holder := false, src := 0#8, opTime := 0#48, cycles := 0#32, data := 0#112, at_ := 0 }, { code := 1#16, sev := 0#2, unchecked := false, holder := false, src := 0#8, opTime := 0#48, cycles := 0#32, data := 0#112, at_ := 0 }, { code := 1#16, sev := 0#2, unchecked := false, holder := false, src := 0#8, opTime := 0#48, cycles := 0#32, data := 0#112, at_ := 0 }, { code := 1#16, sev := 0#2, unchecked := false, holder := false, src := 0#8, opTime := 0#48, cycles := 0#32, data := 0#112, at_ := 0 }, { code := 1#16, sev := 0#2, unchecked := false, holder := false, src := 0#8, opTime := 0#48, cycles := 0#32, data := 0#112, at_ := 0 }, { code := 1#16, sev := 0#2, unchecked := false, holder := false, src := 0#8, opTime := 0#48, cycles := 0#32, data := 0#112, at_ := 0 }, { code := 1#16, sev := 0#2, unchecked := false, holder := false, src := 0#8, opTime := 0#48, cycles := 0#32, data := 0#112, at_ := 0 }, { code := 1#16, sev := 0#2, unchecked := false, holder := false, src := 0#8, opTime := 0#48, cycles := 0#32, data := 0#112, at_ := 0 }, { code := 1#16, sev := 0#2, unchecked := false, holder := false, src := 0#8, opTime := 0#48, cycles := 0#32, data := 0#112, at_ := 0 }, { code := 1#16, sev := 0#2, unchecked := false, holder := false, src := 0#8, opTime := 0#48, cycles := 0#32, data := 0#112, at_ := 0 }, { code := 1#16, sev := 0#2, unchecked := false, holder := false, src := 0#8, opTime := 0#48, cycles := 0#32, data := 0#112, at_ := 0 }, { code := 1#16, sev := 0#2, unchecked := false, holder := false, src := 0#8, opTime := 0#48, cycles := 0#32, data := 0#112, at_ := 0 }, { code := 1#16, sev := 0#2, unchecked := false, holder := false, src := 0#8, opTime := 0#48, cycles := 0#32, data := 0#112, at_ := 0 }, { code := 1#16, sev := 0#2, unchecked := false, holder := false, src := 0#8, opTime := 0#48, cycles := 0#32, data := 0#112, at_ := 0 }, { code := 1#16, sev := 0#2, unchecked := false, holder := false, src := 0#8, opTime := 0#48, cycles := 0#32, data := 0#112, at_ := 0 }, { code := 1#16, sev := 0#2, unchecked := false, holder := false, src := 0#8, opTime := 0#48, cycles := 0#32, data := 0#112, at_ := 0 }, { code := 1#16, sev := 0#2, unchecked := false, holder := false, src := 0#8, opTime := 0#48, cycles := 0#32, data := 0#112, at_ := 0 }, { code := 1#16, sev := 0#2, unchecked := false, holder := false, src := 0#8, opTime := 0#48, cycles := 0#32, data := 0#112, at_ := 0 }, { code := 1#16, sev := 0#2, unchecked := false, holder := false, src := 0#8, opTime := 0#48, cycles := 0#32, data := 0#112, at_ := 0 }, { code := 1#16, sev := 0#2, unchecked := false, holder := false, src := 0#8, opTime := 0#48, cycles := 0#32, data := 0#112, at_ := 0 }, { code := 1#16, sev := 0#2, unchecked := false, holder := false, src := 0#8, opTime := 0#48, cycles := 0#32, data := 0#112, at_ := 0 }, { code := 1#16, sev := 0#2, unchecked := false, holder := false, src := 0#8, opTime := 0#48, cycles := 0#32, data := 0#112, at_ := 0 }, { code := 1#16, sev := 0#2, unchecked := false, holder := false, src := 0#8, opTime := 0#48, cycles := 0#32, data := 0#112, at_ := 0 }, { code := 1#16, sev := 0#2, unchecked := false, holder := false, src := 0#8, opTime := 0#48, cycles := 0#32, data := 0#112, at_ := 0 }, { code := 1#16, sev := 0#2, unchecked := false, holder := false, src := 0#8, opTime := 0#48, cycles := 0#32, data := 0#112, at_ := 0 }, { code := 1#16, sev := 0#2, unchecked := false, holder := false, src := 0#8, opTime := 0#48, cycles := 0#32, data := 0#112, at_ := 0 }, { code := 1#16, sev := 0#2, unchecked := false, holder := false, src := 0#8, opTime := 0#48, cycles := 0#32, data := 0#112, at_ := 0 }, { code := 1#16, sev := 0#2, unchecked := false, holder := false, src := 0#8, opTime := 0#48, cycles := 0#32, data := 0#112, at_ := 0 }, { code := 1#16, sev := 0#2, unchecked := false, holder := false, src := 0#8, opTime := 0#48, cycles := 0#32, data := 0#112, at_ := 0 }, { code := 1#16, sev := 0#2, unchecked := false, holder := false, src := 0#8, opTime := 0#48, cycles := 0#32, data := 0#112, at_ := 0 }, { code := 1#16, sev := 0#2, unchecked := false, holder := false, src := 0#8, opTime := 0#48, cycles := 0#32, data := 0#112, at_ := 0 }, { code := 1#16, sev := 0#2, unchecked := false, holder := false, src := 0#8, opTime := 0#48, cycles := 0#32, data := 0#112, at_ := 0 }, { code := 1#16, sev := 0#2, unchecked := false, holder := false, src := 0#8, opTime := 0#48, cycles := 0#32, data := 0#112, at_ := 0 }, { code := 1#16, sev := 0#2, unchecked := false, holder := false, src := 0#8, opTime := 0#48, cycles := 0#32, data := 0#112, at_ := 0 }, { code := 1#16, sev := 0#2, unchecked := false, holder := false, src := 0#8, opTime := 0#48, cycles := 0#32, data := 0#112, at_ := 0 }, { code := 1#16, sev := 0#2, unchecked := false, holder := false, src := 0#8, opTime := 0#48, cycles := 0#32, data := 0#112, at_ := 0 }, { code := 1#16, sev := 0#2, unchecked := false, holder := false, src := 0#8, opTime := 0#48, cycles := 0#32, data := 0#112, at_ := 0 }, { code := 1#16, sev := 0#2, unchecked := false, holder := false, src := 0#8, opTime := 0#48, cycles := 0#32, data := 0#112, at_ := 0 }, { code := 1#16, sev := 0#2, unchecked := false, holder := false, src := 0#8, opTime := 0#48, cycles := 0#32, data := 0#112, at_ := 0 }, { code := 1#16, sev := 0#2, unchecked := false, holder := false, src := 0#8, opTime := 0#48, cycles := 0#32, data := 0#112, at_ := 0 }, { code := 1#16, sev := 0#2, unchecked := false, holder := false, src := 0#8, opTime := 0#48, cycles := 0#32, data := 0#112, at_ := 0 }, { code := 1#16, sev := 0#2, unchecked := false, holder := false, src := 0#8, opTime := 0#48, cycles := 0#32, data := 0#112, at_ := 0 }, { code := 1#16, sev := 0#2, unchecked := false, holder := false, src := 0#8, opTime := 0#48, cycles := 0#32, data := 0#112, at_ := 0 }, { code := 1#16, sev := 0#2, unchecked := false, holder := false, src := 0#8, opTime := 0#48, cycles := 0#32, data := 0#112, at_ := 0 }, { code := 1#16, sev := 0#2, unchecked := false, holder := false, src := 0#8, opTime := 0#48, cycles := 0#32, data := 0#112, at_ := 0 }, { code := 1#16, sev := 0#2, unchecked := false, holder := false, src := 0#8, opTime := 0#48, cycles := 0#32, data := 0#112, at_ := 0 }, { code := 1#16, sev := 0#2, unchecked := false, holder := false, src := 0#8, opTime := 0#48, cycles := 0#32, data := 0#112, at_ := 0 }, { code := 1#16, sev := 0#2, unchecked := false, holder := false, src := 0#8, opTime := 0#48, cycles := 0#32, data := 0#112, at_ := 0 }, { code := 1#16, sev := 0#2, unchecked := false, holder := false, src := 0#8, opTime := 0#48, cycles := 0#32, data := 0#112, at_ := 0 }, { code := 1#16, sev := 0#2, unchecked := false, holder := false, src := 0#8, opTime := 0#48, cycles := 0#32, data := 0#112, at_ := 0 }, { code := 1#16, sev := 0#2, unchecked := false, holder := false, src := 0#8, opTime := 0#48, cycles := 0#32, data := 0#112, at_ := 0 }, { code := 1#16, sev := 0#2, unchecked := false, holder := false, src := 0#8, opTime := 0#48, cycles := 0#32, data := 0#112, at_ := 0 }, { code := 1#16, sev := 0#2, unchecked := false, holder := false, src := 0#8, opTime := 0#48, cycles := 0#32, data := 0#112, at_ := 0 }, { code := 1#16, sev := 0#2, unchecked := false, holder := false, src := 0#8, opTime := 0#48, cycles := 0#32, data := 0#112, at_ := 0 }, { code := 1#16, sev := 0#2, unchecked := false, holder := false, src := 0#8, opTime := 0#48, cycles := 0#32, data := 0#112, at_ := 0 }, { code := 1#16, sev := 0#2, unchecked := false, holder := false, src := 0#8, opTime := 0#48, cycles := 0#32, data := 0#112, at_ := 0 }, { code := 1#16, sev := 0#2, unchecked := false, holder := false, src := 0#8, opTime := 0#48, cycles := 0#32, data := 0#112, at_ := 0 }, { code := 1#16, sev := 0#2, unchecked := false, holder := false, src := 0#8, opTime := 0#48, cycles := 0#32, data := 0#112, at_ := 0 }, { code := 1#16, sev := 0#2, unchecked := false, holder := false, src := 0#8, opTime := 0#48, cycles := 0#32, data := 0#112, at_ := 0 }, { code := 1#16, sev := 0#2, unchecked := false, holder := false, src := 0#8, opTime := 0#48, cycles := 0#32, data := 0#112, at_ := 0 }, { code := 1#16, sev := 0#2, unchecked := false, holder := false, src := 0#8, opTime := 0#48, cycles := 0#32, data := 0#112, at_ := 0 }, { code := 1#16, sev := 0#2, unchecked := false, holder := false, src := 0#8, opTime := 0#48, cycles := 0#32, data := 0#112, at_ := 0 }, { code := 1#16, sev := 0#2, unchecked := false, holder := false, src := 0#8, opTime := 0#48, cycles := 0#32, data := 0#112, at_ := 0 }, { code := 1#16, sev := 0#2, unchecked := false, holder := false, src := 0#8, opTime := 0#48, cycles := 0#32, data := 0#112, at_ := 0 }, { code := 1#16, sev := 0#2, unchecked := false, holder := false, src := 0#8, opTime := 0#48, cycles := 0#32, data := 0#112, at_ := 0 }, { code := 1#16, sev := 0#2, unchecked := false, holder := false, src := 0#8, opTime := 0#48, cycles := 0#32, data := 0#112, at_ := 0 }, { code := 1#16, sev := 0#2, unchecked := false, holder := false, src := 0#8, opTime := 0#48, cycles := 0#32, data := 0#112, at_ := 0 }, { code := 1#16, sev := 0#2, unchecked := false, holder := false, src := 0#8, opTime := 0#48, cycles := 0#32, data := 0#112, at_ := 0 }, { code := 1#16, sev := 0#2, unchecked := false, holder := false, src := 0#8, opTime := 0#48, cycles := 0#32, data := 0#112, at_ := 0 }, { code := 1#16, sev := 0#2, unchecked := false, holder := false, src := 0#8, opTime := 0#48, cycles := 0#32, data := 0#112, at_ := 0 }, { code := 1#16, sev := 0#2, unchecked := false, holder := false, src := 0#8, opTime := 0#48, cycles := 0#32, data := 0#112, at_ := 0 }, { code := 1#16, sev := 0#2, unchecked := false, holder := false, src := 0#8, opTime := 0#48, cycles := 0#32, data := 0#112, at_ := 0 }, { code := 1#16, sev := 0#2, unchecked := false, holder := false, src := 0#8, opTime := 0#48, cycles := 0#32, data := 0#112, at_ := 0 }, { code := 1#16, sev := 0#2, unchecked := false, holder := false, src := 0#8, opTime := 0#48, cycles := 0#32, data := 0#112, at_ := 0 }, { code := 1#16, sev := 0#2, unchecked := false, holder := false, src := 0#8, opTime := 0#48, cycles := 0#32, data := 0#112, at_ := 0 }, { code := 1#16, sev := 0#2, unchecked := false, holder := false, src := 0#8, opTime := 0#48, cycles := 0#32, data := 0#112, at_ := 0 }, { code := 1#16, sev := 0#2, unchecked := false, holder := false, src := 0#8, opTime := 0#48, cycles := 0#32, data := 0#112, at_ := 0 }, { code := 1#16, sev := 0#2, unchecked := false, holder := false, src := 0#8, opTime := 0#48, cycles := 0#32, data := 0#112, at_ := 0 }, { code := 1#16, sev := 0#2, unchecked := false, holder := false, src := 0#8, opTime := 0#48, cycles := 0#32, data := 0#112, at_ := 0 }, { code := 1#16, sev := 0#2, unchecked := false, holder := false, src := 0#8, opTime := 0#48, cycles := 0#32, data := 0#112, at_ := 0 }, { code := 1#16, sev := 0#2, unchecked := false, holder := false, src := 0#8, opTime := 0#48, cycles := 0#32, data := 0#112, at_ := 0 }, { code := 1#16, sev := 0#2, unchecked := false, holder := false, src := 0#8, opTime := 0#48, cycles := 0#32, data := 0#112, at_ := 0 }, { code := 1#16, sev := 0#2, unchecked := false, holder := false, src := 0#8, opTime := 0#48, cycles := 0#32, data := 0#112, at_ := 0 }, { code := 1#16, sev := 0#2, unchecked := false, holder := false, src := 0#8, opTime := 0#48, cycles := 0#32, data := 0#112, at_ := 0 }, { code := 1#16, sev := 0#2, unchecked := false, holder := false, src := 0#8, opTime := 0#48, cycles := 0#32, data := 0#112, at_ := 0 }, { code := 1#16, sev := 0#2, unchecked := false, holder := false, src := 0#8, opTime := 0#48, cycles := 0#32, data := 0#112, at_ := 0 }, { code := 1#16, sev := 0#2, unchecked := false, holder := false, src := 0#8, opTime := 0#48, cycles := 0#32, data := 0#112, at_ := 0 }, { code := 1#16, sev := 0#2, unchecked := false, holder := false, src := 0#8, opTime := 0#48, cycles := 0#32, data := 0#112, at_ := 0 }, { code := 1#16, sev := 0#2, unchecked := false, holder := false, src := 0#8, opTime := 0#48, cycles := 0#32, data := 0#112, at_ := 0 }, { code := 1#16, sev := 0#2, unchecked := false, holder := false, src := 0#8, opTime := 0#48, cycles := 0#32, data := 0#112, at_ := 0 }, { code := 1#16, sev := 0#2, unchecked := false, holder := false, src := 0#8, opTime := 0#48, cycles := 0#32, data := 0#112, at_ := 0 }, { code := 1#16, sev := 0#2, unchecked := false, holder := false, src := 0#8, opTime := 0#48, cycles := 0#32, data := 0#112, at_ := 0 }, { code := 1#16, sev := 0#2, unchecked := false, holder := false, src := 0#8, opTime := 0#48, cycles := 0#32, data := 0#112, at_ := 0 }, { code := 1#16, sev := 0#2, unchecked := false, holder := false, src := 0#8, opTime := 0#48, cycles := 0#32, data := 0#112, at_ := 0 }, { code := 1#16, sev := 0#2, unchecked := false, holder := false, src := 0#8, opTime := 0#48, cycles := 0#32, data := 0#112, at_ := 0 }, { code := 1#16, sev := 0#2, unchecked := false, holder := false, src := 0#8, opTime := 0#48, cycles := 0#32, data := 0#112, at_ := 0 }, { code := 1#16, sev := 0#2, unchecked := false, holder := false, src := 0#8, opTime := 0#48, cycles := 0#32, data := 0#112, at_ := 0 }, { code := 1#16, sev := 0#2, unchecked := false, holder := false, src := 0#8, opTime := 0#48, cycles := 0#32, data := 0#112, at_ := 0 }, { code := 1#16, sev := 0#2, unchecked := false, holder := false, src := 0#8, opTime := 0#48, cycles := 0#32, data := 0#112, at_ := 0 }, { code := 1#16, sev := 0#2, unchecked := false, holder := false, src := 0#8, opTime := 0#48, cycles := 0#32, data := 0#112, at_ := 0 }, { code := 1#16, sev := 0#2, unchecked := false, holder := false, src := 0#8, opTime := 0#48, cycles := 0#32, data := 0#112, at_ := 0 }, { code := 1#16, sev := 0#2, unchecked := false, holder := false, src := 0#8, opTime := 0#48, cycles := 0#32, data := 0#112, at_ := 0 }, { code := 1#16, sev := 0#2, unchecked := false, holder := false, src := 0#8, opTime := 0#48, cycles := 0#32, data := 0#112, at_ := 0 }, { code := 1#16, sev := 0#2, unchecked := false, holder := false, src := 0#8, opTime := 0#48, cycles := 0#32, data := 0#112, at_ := 0 }, { code := 1#16, sev := 0#2, unchecked := false, holder := false, src := 0#8, opTime := 0#48, cycles := 0#32, data := 0#112, at_ := 0 }, { code := 1#16, sev := 0#2, unchecked := false, holder := false, src := 0#8, opTime := 0#48, cycles := 0#32, data := 0#112, at_ := 0 }, { code := 1#16, sev := 0#2, unchecked := false, holder := false, src := 0#8, opTime := 0#48, cycles := 0#32, data := 0#112, at_ := 0 }] } },
        by decide +kernel⟩⟩

theorem test_met_SixteenMissingAcknowledgementsSetNoack :
    ∃ (s : State) (p : Fin 4) (b : Fin 32) (err : CanErr), (activeBuffer s.can[p] = some b) ∧ (err ≠ CanErr.ack) ∧ (err ≠ CanErr.arbitration) :=
  ⟨{ can := ((Vector.replicate 4 {}).set 0 { tx := ((Vector.replicate 32 {}).set 1 { st := .active }) }) }, 0, 1, .stuff, by decide +kernel⟩

theorem test_met_SelectsBelongToTheirSession :
    ∃ (s : State) (se : Fin 64) (other : Fin 64) (off : ℕ), (sesOpen s se = true) ∧ (other ≠ se) ∧ (off = 1120 ∨ off = 1160 ∨ off = 2048 ∨
        off = 6144 ∨ off = 6148 ∨ off = 7168 ∨ off = 7172 ∨ off = 8192 ∨ off = 8228 ∨ off = 9272 ∨ off = 11280 ∨ off = 11336 ∨ off = 12300 ∨
        off = 14336) :=
  ⟨{ ses := { tab := ((Vector.replicate 64 {}).set 0 { st := .open_ }) } }, 0, 63, 1120, by decide +kernel⟩

end Sys2Proof.Tests
end

/-!
R7 (and R486): the select registers and cursors are the session's own. A write to one changes the writing session's entry of the
session table in its selects, and what that entry shows to the others (R412) stays.
-/

namespace Sys2Proof.Machine

/-! ### What a change of one session's entry leaves of the registers that the others read

Every block but SES reads the session table only at the entry of the session that reads. -/

@[simp] theorem modRegs_onSess (se : Fin 64) (f : Sess → Sess) (s : State) (x : Sess) : modRegs (onSess se f s) x = modRegs s x := rfl
@[simp] theorem imgRegs_onSess (se : Fin 64) (f : Sess → Sess) (s : State) (x : Sess) : imgRegs (onSess se f s) x = imgRegs s x := rfl
@[simp] theorem tskRegs_onSess (se : Fin 64) (f : Sess → Sess) (s : State) (x : Sess) : tskRegs (onSess se f s) x = tskRegs s x := rfl
@[simp] theorem tbRegs_onSess (se : Fin 64) (f : Sess → Sess) (s : State) : tbRegs (onSess se f s) = tbRegs s := rfl
@[simp] theorem lskRegs_onSess (se : Fin 64) (f : Sess → Sess) (s : State) (x : Sess) : lskRegs (onSess se f s) x = lskRegs s x := rfl
@[simp] theorem pairRegs_onSess (se : Fin 64) (f : Sess → Sess) (s : State) (x : Sess) : pairRegs (onSess se f s) x = pairRegs s x := rfl
@[simp] theorem lnkRegs_onSess (se : Fin 64) (f : Sess → Sess) (s : State) (x : Sess) : lnkRegs (onSess se f s) x = lnkRegs s x := rfl
@[simp] theorem chRegs_onSess (se : Fin 64) (f : Sess → Sess) (s : State) (x : Sess) : chRegs (onSess se f s) x = chRegs s x := rfl
@[simp] theorem canRegs_onSess (se : Fin 64) (f : Sess → Sess) (s : State) (x : Sess) : canRegs (onSess se f s) x = canRegs s x := rfl
@[simp] theorem pwrRegs_onSess (se : Fin 64) (f : Sess → Sess) (s : State) (x : Sess) : pwrRegs (onSess se f s) x = pwrRegs s x := rfl
@[simp] theorem evrRegs_onSess (se : Fin 64) (f : Sess → Sess) (s : State) (x : Sess) : evrRegs (onSess se f s) x = evrRegs s x := rfl
@[simp] theorem lcdRegs_onSess (se : Fin 64) (f : Sess → Sess) (s : State) (x : Sess) : lcdRegs (onSess se f s) x = lcdRegs s x := rfl
@[simp] theorem statRegs_onSess (se : Fin 64) (f : Sess → Sess) (s : State) : statRegs (onSess se f s) = statRegs s := rfl
@[simp] theorem frcRegs_onSess (se : Fin 64) (f : Sess → Sess) (s : State) (x : Sess) : frcRegs (onSess se f s) x = frcRegs s x := rfl

/-- What the SES block shows of a session to whichever session selects it (R412). -/
structure ShowsSame (x y : Sess) : Prop where
  st : x.st = y.st
  role : x.role = y.role
  port : x.port = y.port
  ip : x.ip = y.ip
  maint : holdsMaint x = holdsMaint y

theorem onSess_tab_other {se other : Fin 64} (f : Sess → Sess) (s : State) (h : other ≠ se) :
    (onSess se f s).ses.tab[other] = s.ses.tab[other] :=
  upd_other _ _ _ _ h

theorem onSess_showsSame {f : Sess → Sess} (hf : ∀ x, ShowsSame (f x) x) (se : Fin 64) (s : State) (k : Fin 64) :
    ShowsSame (onSess se f s).ses.tab[k] s.ses.tab[k] := by
  by_cases hk : k = se
  · subst hk
    simpa [onSess] using hf s.ses.tab[k]
  · rw [onSess_tab_other f s hk]
    exact ⟨rfl, rfl, rfl, rfl, rfl⟩

/-- SES shows entries of the whole table, but of each only its state, its role, its port, its address and its maintenance colour. -/
theorem sesRegs_onSess {f : Sess → Sess} (hf : ∀ x, ShowsSame (f x) x) (se : Fin 64) (s : State) (other : Fin 64) (x : Sess) :
    sesRegs (onSess se f s) other x = sesRegs s other x := by
  have hs := onSess_showsSame hf se s
  unfold sesRegs
  simp only [(hs _).st, (hs _).role, (hs _).port, (hs _).ip, (hs _).maint]
  rfl

/-- A change of one session's entry that keeps what SES shows of it leaves every register of every other session as it reads. -/
theorem regNow_onSess_other {f : Sess → Sess} (hf : ∀ x, ShowsSame (f x) x) {se other : Fin 64} (h : other ≠ se) (s : State) (a : Nat) :
    regNow (onSess se f s) other a = regNow s other a := by
  unfold regNow regBlock
  simp only [onSess_tab_other f s h, sesRegs_onSess hf]
  simp

theorem regRead_onSess_other {f : Sess → Sess} (hf : ∀ x, ShowsSame (f x) x) {se other : Fin 64} (h : other ≠ se) (s : State) (a : Nat) :
    regRead (onSess se f s) other a = regRead s other a := by
  unfold regRead
  rw [onSess_tab_other f s h, regNow_onSess_other hf h]

/-! ### A write to a register of the session's own -/

/-- Every register that takes commands has a class (R490). -/
theorem commandOf_of_writeClass_none {off : Nat} (h : writeClass off = none) (v : W32) (s : State) : commandOf off v s = none := by
  unfold commandOf
  split <;> simp [writeClass] at h ⊢

/-- What a write of a select does to the entry of the writing session: the message and the write are noted, and the select is put. -/
def ownSelect (now off : Nat) (v : W32) (x : Sess) : Sess :=
  { x with lastMsg := now, fenceWrites := x.fenceWrites + 1, sel := putSelect off v x.sel }

theorem ownSelect_showsSame (now off : Nat) (v : W32) (x : Sess) : ShowsSame (ownSelect now off v x) x := ⟨rfl, rfl, rfl, rfl, rfl⟩

/-- A write to the offset goes to the session's selects and staging (R486): no register with a class of commands lies there, and none of
the drop masks, MAPSYNC and VIOLCLR. -/
structure TakesSelect (off : Nat) : Prop where
  noClass : writeClass off = none
  notRdDrop : off ≠ 0x240C
  notWrDrop : off ≠ 0x2410
  notMapsync : off ≠ 0x2414
  notViolClr : off ≠ 0x2424

theorem putOwn_select {off : Nat} (h : TakesSelect off) (v : W32) (se : Fin 64) (s : State) :
    putOwn off v se s = onSess se (fun x => { x with sel := putSelect off v x.sel }) s := by
  obtain ⟨-, h1, h2, h3, h4⟩ := h
  unfold putOwn
  split
  · exact absurd rfl h1
  · exact absurd rfl h2
  · exact absurd rfl h3
  · exact absurd rfl h4
  · rfl

theorem putRegister_select {off : Nat} (h : TakesSelect off) (v : W32) (se : Fin 64) (s : State) :
    putRegister off v se s = onSess se (fun x => { x with sel := putSelect off v x.sel }) s := by
  have hdiag : off ≠ 0x1C44 := by rintro rfl; cases h.noClass
  unfold putRegister
  rw [commandOf_of_writeClass_none h.noClass]
  exact (if_neg hdiag).trans (putOwn_select h v se s)

/-- In an open session such a write is never refused, and it changes the session's own entry only. -/
theorem registerWrite_select {off : Nat} (h : TakesSelect off) (v : W32) {se : Fin 64} {s : State} (ho : sesOpen s se = true) :
    registerWrite off v se s = onSess se (ownSelect s.tb.now off v) s := by
  have hr : regRefused off se (heard se s) = none := by unfold regRefused; rw [h.noClass]
  calc registerWrite off v se s = putRegister off v se (asked se s) := by
        unfold registerWrite; rw [ho]; simp only [hr]; rfl
    _ = onSess se (fun x => { x with sel := putSelect off v x.sel }) (asked se s) := putRegister_select h v se _
    _ = onSess se (ownSelect s.tb.now off v) s := by
        rw [asked_eq]; unfold onSess; simp only [upd_upd]; rfl

theorem exec_registerWrite (se : Fin 64) (off : Nat) (v : W32) (s : State) :
    exec (.registerWrite se off v) s = .next (registerWrite off v se s) := rfl

/-- Settles O60: the write of a select is a change of the writing session's entry that SES shows to no other session. -/
theorem selectsBelongToTheirSession : Obligations.SelectsBelongToTheirSession := by
  intro s se other off v ho hne hoff
  have hsel : TakesSelect off := by
    rcases hoff with rfl | rfl | rfl | rfl | rfl | rfl | rfl | rfl | rfl | rfl | rfl | rfl | rfl | rfl <;>
      exact ⟨rfl, by decide, by decide, by decide, by decide⟩
  refine ⟨_, exec_registerWrite .., ?_⟩
  rw [registerWrite_select hsel v ho]
  refine ⟨onSess_tab_other _ s hne, regRead_onSess_other (ownSelect_showsSame _ _ _) hne s, ?_⟩
  simp [onSess, ownSelect]

end Sys2Proof.Machine

/-!
R155, R156, R194, R198, R199: commissioning mode and RECHECK. Sessions' commands act on LSK alone, but for the answer
and the record. The quiet instant and the time limit end with the held releases, and a release leaves alone how the col compares: the
halts, the suspension of comparison, and the search for its end.
-/

namespace Sys2Proof.Machine

/-! ### How the col compares, and that releases leave it alone -/

/-- How the col compares: the halts of lanes, whether comparison is suspended, and the search for the instant that ends this. -/
def comparison (s : State) : HaltState × Bool × Option SwitchReq := (s.lsk.halt, s.lsk.unchecked, s.lsk.recheck)

theorem comparison_of_lsk {s t : State} (h : t.lsk = s.lsk) : comparison t = comparison s := by unfold comparison; rw [h]

/-- An operation whose parts leave the col out keeps how it compares. -/
theorem Keeps.comparison {p : Parts} {s t : State} (h : Keeps p s t) (hp : p.lsk = false) : comparison t = comparison s :=
  comparison_of_lsk (h.only.lsk hp)

theorem comparison_overAll {α : Type} (xs : List α) (f : α → State → State) (hf : ∀ x t, comparison (f x t) = comparison t) (s : State) :
    comparison (overAll xs f s) = comparison s := by
  unfold overAll
  induction xs generalizing s with
  | nil => rfl
  | cons x rest ih => exact (ih (f x s)).trans (hf x s)

@[simp] theorem comparison_emit (o : Out) (s : State) : comparison (emit o s) = comparison s := rfl
@[simp] theorem comparison_withMem (s : State) (m : List Host.Cell) : comparison (withMem s m) = comparison s := rfl
theorem comparison_raiseToCeiling (s : State) : comparison (raiseToCeiling s) = comparison s := rfl
theorem comparison_withTsk (s : State) (x : Tsk) : comparison { s with tsk := x } = comparison s := rfl
theorem comparison_onTaskStats (t : Fin 128) (f : TaskStats → TaskStats) (s : State) : comparison (onTaskStats t f s) = comparison s := rfl
@[simp] theorem comparison_onTask (t : Fin 128) (f : TaskRt → TaskRt) (s : State) : comparison (onTask t f s) = comparison s := rfl
@[simp] theorem comparison_onCycle (t : Fin 128) (f : Cycle → Cycle) (s : State) : comparison (onCycle t f s) = comparison s := rfl
@[simp] theorem comparison_onLane (l : Lane) (f : LaneState → LaneState) (s : State) : comparison (onLane l f s) = comparison s := by
  cases l <;> rfl

@[simp] theorem comparison_countUnchecked (unchecked : Bool) (n : Nat) (s : State) :
    comparison (countUnchecked unchecked n s) = comparison s := by
  unfold countUnchecked; split <;> rfl

@[simp] theorem comparison_saddle (m : Saddle) (s : State) : comparison (saddle m s) = comparison s := by
  unfold saddle
  split
  · exact comparison_countUnchecked _ _ _
  · rfl

@[simp] theorem comparison_answerOpt (a : Option Origin) (g : ResReg) (v : W32) (s : State) :
    comparison (answerOpt a g v s) = comparison s := by
  match a with
  | none => rfl
  | some (.here _) => rfl
  | some (.relayed _ _) => exact comparison_saddle _ _

@[simp] theorem comparison_stationDone (l : Fin 24) (p : Fin 32) (s : State) : comparison (stationDone l p s) = comparison s := by
  unfold stationDone
  dsimp only
  split
  · rw [comparison_answerOpt]
    exact comparison_answerOpt _ _ _ _
  · exact comparison_answerOpt _ _ _ _

@[simp] theorem comparison_comeIn (l : Fin 24) (p : Fin 32) (s : State) : comparison (comeIn l p s) = comparison s := by
  unfold comeIn
  extract_lets k outMs s1 s2 s3
  have h2 : s2.lsk = s.lsk := logEv_lsk ..
  have h3 : s3.lsk = s.lsk := by
    unfold s3
    split
    · exact h2
    · exact (triggerReason_lsk ..).trans h2
  exact (comparison_stationDone l p s3).trans (comparison_of_lsk h3)

@[simp] theorem comparison_applyVerdict (v : StnVerdict) (s : State) : comparison (applyVerdict v s) = comparison s := by
  unfold applyVerdict
  dsimp only
  split
  · split
    · exact (keeps_goOut ..).comparison rfl
    · rfl
  · split
    · rfl
    · exact comparison_comeIn ..

@[simp] theorem comparison_inboundWord (stream : Fin 72) (w : Inbound) (s : State) :
    comparison (inboundWord stream w s) = comparison s := by
  unfold inboundWord
  split
  · exact comparison_overAll _ _ (fun l t => (comparison_emit ..).trans (comparison_onLane l _ t)) s
  · rfl

@[simp] theorem comparison_injectKept (t : Fin 128) (s : State) : comparison (injectKept t s) = comparison s :=
  comparison_overAll _ _ (fun _ => comparison_overAll _ _ (fun _ _ => comparison_inboundWord ..)) s

@[simp] theorem comparison_inject (t : Fin 128) (c : Cycle) (s : State) : comparison (inject t c s) = comparison s := by
  unfold inject
  extract_lets reload s1
  have h1 : comparison s1 = comparison s := comparison_overAll _ _ (fun j st => by split <;> simp) s
  split
  · exact (comparison_injectKept t s1).trans h1
  · exact h1

@[simp] theorem comparison_deliver (t : Fin 128) (s : State) : comparison (deliver t s) = comparison s := by
  unfold deliver
  split
  · simp
  · rfl

@[simp] theorem comparison_reportHealth (s : State) : comparison (reportHealth s) = comparison s := by
  have h := (comparison_saddle (.health (healthReport s)) _).trans
    ((keeps_recordHealth false s.mir.health (healthReport s) s).comparison rfl)
  exact h

/-- Latching and restarting the statistics leaves of the col all but its counters. -/
@[simp] theorem comparison_boundary (at_ : Nat) (s : State) : comparison (boundary at_ s) = comparison s := by
  unfold boundary
  extract_lets b run s1 tsk s2
  have h2 : comparison s2 = comparison s := rfl
  split
  · rfl
  · split
    · exact (comparison_reportHealth s2).trans h2
    · exact h2

@[simp] theorem comparison_makeRelease (t : TaskEntry) (g : Trig) (notice : Option Notice) (held : Bool) (s0 : State) :
    comparison (makeRelease t g notice held s0) = comparison s0 := by
  unfold makeRelease
  extract_lets s r now standby late rec_ own snap due cyc jitter s1 s2 s3
  have h1 : comparison s1 = comparison s0 := calc
    comparison s1 = comparison (onTask t.num (releasedRt t cyc now) s) :=
      ((keeps_countLate ..).comparison rfl).trans ((keeps_countRelease ..).comparison rfl)
    _ = comparison s := comparison_onTask ..
    _ = comparison s0 := comparison_boundary ..
  have h2 : comparison s2 = comparison s0 := by unfold s2; split <;> simp [h1]
  have h3 : comparison s3 = comparison s0 := by unfold s3; split <;> simp [h2]
  split <;> simp [h3]

@[simp] theorem comparison_applyNotice (n : Notice) (s : State) : comparison (applyNotice n s) = comparison s := by
  unfold applyNotice
  extract_lets s1 pick s2 wait tsk stat s3
  have h1 : comparison s1 = comparison s := comparison_overAll n.verdicts _ comparison_applyVerdict s
  clear_value s1
  exact (comparison_deliver n.task s3).trans h1

@[simp] theorem comparison_applyPartnerReadings (t : Fin 128) (rs : List (BitVec 16 × W128)) (s : State) :
    comparison (applyPartnerReadings t rs s) = comparison s :=
  comparison_deliver _ _

@[simp] theorem comparison_takeEarly (t : TaskEntry) (s : State) : comparison (takeEarly t s) = comparison s := by
  unfold takeEarly
  dsimp only
  split
  · rfl
  · split
    · split <;> simp
    · split
      · split
        · split <;> simp
        · rfl
      · rfl

@[simp] theorem comparison_skipRelease (t : TaskEntry) (s : State) : comparison (skipRelease t s) = comparison s := by
  unfold skipRelease
  extract_lets nominal s0 s1 s2 tsk stat s3
  calc comparison (overrun t nominal (raiseToCeiling s3)) = comparison (raiseToCeiling s3) := (keeps_overrun ..).comparison rfl
    _ = comparison s3 := comparison_raiseToCeiling s3
    _ = comparison s2 := comparison_withTsk s2 _
    _ = comparison s1 := comparison_onTaskStats ..
    _ = comparison s0 := comparison_onTask ..
    _ = comparison s := comparison_boundary nominal s

@[simp] theorem comparison_releaseHeld (t : TaskEntry) (until_ : Nat) (change : Bool) (s : State) :
    comparison (releaseHeld t until_ change s).1 = comparison s := by
  unfold releaseHeld
  split
  · rfl
  · dsimp only
    split <;> simp

theorem comparison_releaseAllHeld (until_ : Nat) (change : Bool) (s : State) :
    comparison (releaseAllHeld until_ change s).1 = comparison s := by
  unfold releaseAllHeld
  generalize enabledTasks s = ts
  generalize 0 = n
  induction ts generalizing s n with
  | nil => rfl
  | cons t rest ih => exact (ih _ _).trans (comparison_releaseHeld t until_ change s)

@[simp] theorem comparison_releaseHolds (s : State) : comparison (releaseHolds s) = comparison s := comparison_releaseAllHeld _ _ s

@[simp] theorem releaseHolds_mod (s : State) : (releaseHolds s).mod = s.mod := (keeps_releaseHolds s).only.mod rfl

/-- A fold over pairs whose every step keeps the first component of its start keeps it. -/
theorem foldl_fst_of_fixed {α β σ : Type} {f : σ × β → α → σ × β} {s : σ} {xs : List α} (h : ∀ x ∈ xs, ∀ n, (f (s, n) x).1 = s) (n : β) :
    (xs.foldl f (s, n)).1 = s := by
  induction xs generalizing n with
  | nil => rfl
  | cons x rest ih =>
    have hx : f (s, n) x = (s, (f (s, n) x).2) := Prod.ext (h x (by simp) n) rfl
    rw [List.foldl_cons, hx]
    exact ih (fun y hy => h y (by simp [hy])) _

/-- With no release due, none is made. -/
theorem releaseHolds_of_none_due {s : State} (h : ∀ t ∈ enabledTasks s, releaseDue t s.tb.now s = false) : releaseHolds s = s :=
  foldl_fst_of_fixed (fun t ht _ => by simp [releaseHeld, h t ht]) 0

/-! ### Commissioning mode (R194, R199) and the request for a RECHECK (R155, R198) -/

@[simp] theorem setRes_lskResult (se : Fin 64) (v : W32) (s : State) : (setRes se .lsk v s).ses.tab[se].res.lsk = v := by
  simp [setRes, onSess, Results.put]

/-- A command to LSK_CMD that passes the checks is carried out here, on the state with its message and its write noted. -/
theorem completes_lskCommand {c : Instr} {v : W32} {se : Fin 64} {op : Req → State → State} {s : State} {p : State → Prop}
    (h : admitted regLsk se s = true) (hc : exec c s = .next (sessionCmd regLsk v se op s)) (hp : p (op (reqOf se (asked se s)) (asked se s))) :
    Completes c s p :=
  ⟨_, hc, by rwa [sessionCmd_admitted h]⟩

/-- `u` is the state `b` but for what an answered command writes beside its effect: the session table and the recorder. -/
def AnsweredOn (b u : State) : Prop := ∃ ses evr, u = { b with ses := ses, evr := evr }

theorem AnsweredOn.after_setRes {b u : State} (h : AnsweredOn b u) (se : Fin 64) (g : ResReg) (v : W32) :
    AnsweredOn b (setRes se g v u) := by
  obtain ⟨ses, evr, rfl⟩ := h
  exact ⟨_, _, rfl⟩

theorem AnsweredOn.after_logSes {b u : State} (h : AnsweredOn b u) (code : Nat) (det : Bool) (se : Fin 64) (fields : List (Nat × Nat)) :
    AnsweredOn b (logSes code det se fields u) := by
  obtain ⟨ses, evr, rfl⟩ := h
  unfold logSes enqueueEv
  split <;> exact ⟨_, _, rfl⟩

theorem answeredOn_asked (se : Fin 64) (s : State) : AnsweredOn s (asked se s) := ⟨_, _, rfl⟩

/-- The state with commissioning mode on or off. -/
def withCommission (on : Bool) (s : State) : State := { s with lsk := { s.lsk with commission := on } }

theorem withCommission_self {on : Bool} {s : State} (h : s.lsk.commission = on) : withCommission on s = s := by
  unfold withCommission; rw [← h]

theorem commissionOn_answered (se : Fin 64) (s : State) :
    AnsweredOn (withCommission true s) (commissionOn (reqOf se (asked se s)) (asked se s)) := by
  refine AnsweredOn.after_setRes ?_ se .lsk 6
  split
  · next hc => rw [withCommission_self (s := s) hc]; exact answeredOn_asked se s
  · exact AnsweredOn.after_logSes ⟨_, _, rfl⟩ ..

/-- COMMISSION_OFF at a module that is UNCHECKED and holds the lease changes nothing (R199). -/
theorem commissionOff_refused {q : Req} {s : State} (hu : s.lsk.unchecked = true) (hh : holds s = true) :
    commissionOff q s = answer q.asker .lsk 4 s :=
  if_pos (by rw [hu, hh]; rfl)

/-- Otherwise it ends the mode, and a claim of a module that is UNCHECKED. -/
theorem commissionOff_answered {se : Fin 64} {s : State} (h : s.lsk.unchecked = false ∨ holds s = false) :
    ∃ lease u, commissionOff (reqOf se (asked se s)) (asked se s) = setRes se .lsk 6 u ∧
      AnsweredOn { withCommission false s with lease := lease } u := by
  have hc : ((asked se s).lsk.unchecked && holds (asked se s)) ≠ true := by
    change (s.lsk.unchecked && holds s) ≠ true
    rcases h with h | h <;> simp [h]
  by_cases hs : s.lsk.commission = true
  · refine ⟨if s.lsk.unchecked then { s.lease with claim := none } else s.lease, _, if_neg hc, ?_⟩
    rw [if_pos (show (asked se s).lsk.commission = true from hs)]
    exact AnsweredOn.after_logSes ⟨_, _, rfl⟩ ..
  · refine ⟨s.lease, _, if_neg hc, ?_⟩
    rw [if_neg (show ¬ (asked se s).lsk.commission = true from hs),
      show { withCommission false s with lease := s.lease } = s from withCommission_self (Bool.eq_false_iff.mpr hs)]
    exact answeredOn_asked se s

/-- The search for an instant does not look at the session table. -/
theorem nextCandidate_asked (start : Nat) (se : Fin 64) (s : State) : nextCandidate start (asked se s) = nextCandidate start s := by
  have key : ∀ k t limit, candidateFrom (asked se s) k t limit = candidateFrom s k t limit := by
    intro k
    induction k with
    | zero => exact fun _ _ => rfl
    | succ k ih =>
      intro t limit
      have hn : nextNominal (asked se s) t = nextNominal s t := rfl
      have hq : ∀ r, quietAt (asked se s) r = quietAt s r := fun _ => rfl
      simp only [candidateFrom, hn, hq, ih]
  exact key ..

/-- A new request notes its asker and its beginning, and takes the first candidate if there is one (R155). -/
theorem openHold_eq_setHold_recheck (asker : Origin) (tag : W32) (s : State) :
    ∃ q, openHold .recheck (some asker) tag s = setHold .recheck (some q) s ∧ q.asker = some asker ∧ q.start = s.tb.now ∧
      ∀ r, nextCandidate s.tb.now s = some r → q.phase = .candidate ∧ q.r = r := by
  have hstart : (newHold (some asker) tag s).start = s.tb.now := rfl
  unfold openHold seek
  rw [hstart]
  split
  · next r hr =>
    refine ⟨_, rfl, rfl, rfl, fun r' hr' => ⟨rfl, ?_⟩⟩
    exact Option.some.inj (hr.symm.trans hr')
  · next hn => exact ⟨_, rfl, rfl, rfl, fun r hr => absurd (hn.symm.trans hr) (by simp)⟩

theorem recheckCmd_running {q : Req} {s : State} (h : s.lsk.recheck ≠ none) : recheckCmd q s = answer q.asker .lsk 2 s :=
  if_pos (Option.isSome_iff_ne_none.mpr h)

/-- RECHECK is valid in RUN while UNCHECKED with no lane halted (R198). -/
theorem recheckCmd_refused {q : Req} {s : State} (hn : s.lsk.recheck = none)
    (h : haltedLane s.lsk.halt ≠ none ∨ s.lsk.unchecked = false ∨ inRun s = false) : recheckCmd q s = answer q.asker .lsk 4 s := by
  have hc : ((haltedLane s.lsk.halt).isSome || !s.lsk.unchecked || !inRun s) = true := by
    simpa [Option.isSome_iff_ne_none, or_assoc] using h
  unfold recheckCmd
  rw [hn]
  exact if_pos hc

theorem recheckCmd_accepted {q : Req} {s : State} (hn : s.lsk.recheck = none) (hh : haltedLane s.lsk.halt = none)
    (hu : s.lsk.unchecked = true) (hr : inRun s = true) : recheckCmd q s = answer q.asker .lsk 1 (openHold .recheck (some q.asker) 0 s) := by
  simp [recheckCmd, hn, hh, hu, hr]

/-! ### The quiet instant and the end of the search (R156, R198) -/

@[simp] theorem answerOpt_lskResult (se : Fin 64) (v : W32) (s : State) :
    (answerOpt (some (.here se)) .lsk v s).ses.tab[se].res.lsk = v :=
  setRes_lskResult se v s

@[simp] theorem laneOf_answerOpt (l : Lane) (a : Option Origin) (g : ResReg) (v : W32) (s : State) :
    laneOf (answerOpt a g v s) l = laneOf s l := by
  cases l
  · exact answerOpt_laneA ..
  · exact answerOpt_laneB ..

@[simp] theorem enterState_st (st : ModState) (cause se : Nat) (s : State) : (enterState st cause se s).mod.st = st := by
  unfold enterState
  dsimp only
  split
  · rfl
  · rw [(keeps_showModule _).only.mod rfl, logEv_mod]

/-- While comparison goes on, the role that a module shows is not UNCHECKED (R463). -/
theorem showRole_st_ne_unchecked {s : State} (h : s.lsk.unchecked = false) : (showRole s).mod.st ≠ .unchecked := by
  have hw : (if holds s then ModState.active else .standby) ≠ .unchecked := by split <;> decide
  simp only [showRole, h, Bool.false_eq_true, if_false]
  generalize (if holds s then ModState.active else .standby) = want at hw ⊢
  split
  · next hr => rintro hs; simp [inRun, hs] at hr
  · split
    · next he => rwa [eq_of_beq he]
    · rwa [enterState_st]

/-- Whether releases are due depends on the running image, the time and the tasks' nominal instants. -/
theorem none_due_of_same {s t : State} (himg : t.img = s.img) (hnow : t.tb.now = s.tb.now)
    (hnext : ∀ k : Fin 128, t.tsk.rt[k].next = s.tsk.rt[k].next) (h : ∀ e ∈ enabledTasks s, releaseDue e s.tb.now s = false) :
    ∀ e ∈ enabledTasks t, releaseDue e t.tb.now t = false := by
  unfold enabledTasks releaseDue at *
  simpa only [himg, hnow, hnext] using h

/-- `t` is `s` back in step: both lanes run and are compared, nothing is searched for, persistent words are to be reloaded, and a lane that
had been resumed is empty. -/
structure BackInStep (s t : State) : Prop where
  compares : comparison t = (.none, false, none)
  role : t.mod.st ≠ .unchecked
  rt : t.tsk.rt = updAll s.tsk.rt (fun _ r => { r with reload := true })
  now : t.tb.now = s.tb.now
  img : t.img = s.img
  lane : ∀ l, s.lsk.halt = .resumed l → laneOf t l = emptyLane (laneOf s l)

theorem BackInStep.none_due {s t : State} (h : BackInStep s t) (hdue : ∀ e ∈ enabledTasks s, releaseDue e s.tb.now s = false) :
    ∀ e ∈ enabledTasks t, releaseDue e t.tb.now t = false :=
  none_due_of_same h.img h.now (fun k => by rw [h.rt, updAll_get]) hdue

theorem Keeps.img_eq {p : Parts} {s t : State} (h : Keeps p s t) (hi : p.img = false) (hk : p.keys = false) : t.img = s.img := by
  obtain ⟨hkeys, hrevoked⟩ := h.only.keys hk
  rw [h.only.img hi, hkeys, hrevoked]

theorem Keeps.laneOf_eq {p : Parts} {s t : State} (h : Keeps p s t) (ha : p.laneA = false) (hb : p.laneB = false) (l : Lane) :
    laneOf t l = laneOf s l := by
  cases l
  · exact h.only.laneA ha
  · exact h.only.laneB hb

/-- With one lane resumed, that lane alone is emptied. -/
theorem overAll_emptyLane_of_resumed {s : State} {l : Lane} (h : s.lsk.halt = .resumed l) :
    overAll (lanes.filter (fun x => idles s.lsk.halt x)) (fun x t => onLane x emptyLane t) s = onLane l emptyLane s := by
  rw [h]
  cases l <;> rfl

/-- At the quiet instant the module is brought back in step; then the held releases are made and the asker is told. -/
theorem recheckGo_backInStep (q : SwitchReq) (s : State) :
    ∃ t, recheckGo q s = answerOpt q.asker .lsk 6 (releaseHolds t) ∧ BackInStep s t := by
  unfold recheckGo
  extract_lets s1 lsk tsk s2 s3
  have h1 : Keeps { laneA := true, laneB := true } s s1 :=
    keeps_overAll _ _ s (fun l t ht => Keeps.via (keeps_onLane l emptyLane t) rfl ht) (Keeps.refl _ s)
  have hlane : ∀ l, s.lsk.halt = .resumed l → laneOf s1 l = emptyLane (laneOf s l) := by
    intro l hl
    rw [show s1 = onLane l emptyLane s from overAll_emptyLane_of_resumed hl]
    cases l <;> rfl
  clear_value s1
  have h3 : Keeps { ses := true, evr := true, lcd := true, mod := true } s2 s3 :=
    Keeps.via (keeps_showRole _) rfl (Keeps.mono (keeps_logEv ..) rfl)
  refine ⟨s3, rfl, ?_⟩
  exact {
    compares := h3.comparison rfl
    role := showRole_st_ne_unchecked (congrArg Lsk.unchecked (logEv_lsk ..))
    rt := by
      rw [h3.only.tsk rfl, ← h1.only.tsk rfl]
    now := (congrArg Tb.now (h3.only.tb rfl)).trans (congrArg Tb.now (h1.only.tb rfl))
    img := (h3.img_eq rfl rfl).trans (h1.img_eq rfl rfl)
    lane := fun l hl => by
      rw [h3.laneOf_eq rfl rfl l, ← hlane l hl]
      cases l <;> simp only [laneOf, s2] }

theorem atInstant_recheck_none {go ended : SwitchReq → State → State} {s : State} (h : s.lsk.recheck = none) :
    atInstant .recheck go ended s = s := by
  simp [atInstant, holdOf, h]

theorem atInstant_recheck_early {go ended : SwitchReq → State → State} {s : State} {q : SwitchReq} (h : s.lsk.recheck = some q)
    (hp : q.phase = .candidate) (ht : s.tb.now < q.r) : atInstant .recheck go ended s = s := by
  simp [atInstant, holdOf, h, hp, ht]

/-- At its candidate a RECHECK asks its own module only, and goes on when that is READY (R156, R198). -/
theorem atInstant_recheck_ready {go ended : SwitchReq → State → State} {s : State} {q : SwitchReq} (h : s.lsk.recheck = some q)
    (hp : q.phase = .candidate) (ht : q.r ≤ s.tb.now) (hr : ready q.r s = true) :
    atInstant .recheck go ended s =
      go { q with phase := .verdicts, ownReady := true } (setHold .recheck (some { q with phase := .verdicts, ownReady := true }) s) := by
  have ht' : terraceReady .recheck s = true := rfl
  simp [atInstant, holdOf, h, hp, Nat.not_lt.mpr ht, hr, ht', decidesAlone, judgeVerdicts]

theorem searchLate_recheck_none {ended : SwitchReq → State → State} {s : State} (h : s.lsk.recheck = none) :
    searchLate .recheck ended s = s := by
  simp [searchLate, holdOf, h]

theorem searchLate_recheck_early {ended : SwitchReq → State → State} {s : State} {q : SwitchReq} (h : s.lsk.recheck = some q)
    (ht : s.tb.now < q.start + searchTime) : searchLate .recheck ended s = s := by
  simp [searchLate, holdOf, h, Nat.not_le.mpr ht]

theorem searchLate_recheck_late {ended : SwitchReq → State → State} {s : State} {q : SwitchReq} (h : s.lsk.recheck = some q)
    (hp : q.phase = .searching ∨ q.phase = .candidate) (ht : q.start + searchTime ≤ s.tb.now) :
    searchLate .recheck ended s = releaseHolds (ended q s) := by
  simp [searchLate, holdOf, h, hp, ht, leads]

/-- The end of a search without an instant leaves comparison suspended as it was. -/
theorem comparison_recheckEnded (q : SwitchReq) (s : State) : comparison (recheckEnded q s) = (s.lsk.halt, s.lsk.unchecked, none) :=
  (comparison_answerOpt ..).trans (comparison_of_lsk (logEv_lsk ..))

theorem none_due_recheckEnded (q : SwitchReq) {s : State} (h : ∀ e ∈ enabledTasks s, releaseDue e s.tb.now s = false) :
    ∀ e ∈ enabledTasks (recheckEnded q s), releaseDue e (recheckEnded q s).tb.now (recheckEnded q s) = false :=
  none_due_of_same (by simp [recheckEnded]) (by simp [recheckEnded]) (fun k => by simp [recheckEnded]) h

/-! ### The statement, clause by clause -/

section
variable {s : State} {se : Fin 64} (ha : admitted regLsk se s = true)
include ha

theorem completes_commissionOn : Completes (.commissionOn se) s (fun u => u.lsk.commission = true ∧ u.ses.tab[se].res.lsk = 6 ∧
    u = { s with lsk := { s.lsk with commission := true }, ses := u.ses, evr := u.evr }) := by
  obtain ⟨ses, evr, hu⟩ := commissionOn_answered se s
  refine completes_lskCommand ha rfl ⟨?_, setRes_lskResult .., ?_⟩
  all_goals rw [hu]; rfl

theorem completes_commissionOff_refused (hu : s.lsk.unchecked = true) (hh : holds s = true) :
    Completes (.commissionOff se) s (fun u => u = setRes se .lsk 4 (asked se s)) :=
  completes_lskCommand ha rfl (commissionOff_refused (s := asked se s) hu hh)

theorem completes_commissionOff (h : s.lsk.unchecked = false ∨ holds s = false) :
    Completes (.commissionOff se) s (fun u => u.lsk.commission = false ∧ u.ses.tab[se].res.lsk = 6 ∧
      u = { s with lsk := { s.lsk with commission := false }, ses := u.ses, evr := u.evr, lease := u.lease }) := by
  obtain ⟨lease, u, he, ses, evr, rfl⟩ := commissionOff_answered (se := se) h
  refine completes_lskCommand ha rfl ?_
  rw [he]
  exact ⟨rfl, setRes_lskResult .., rfl⟩

theorem completes_recheck_running (h : s.lsk.recheck ≠ none) :
    Completes (.recheck se) s (fun u => u = setRes se .lsk 2 (asked se s)) :=
  completes_lskCommand ha rfl (recheckCmd_running (s := asked se s) h)

theorem completes_recheck_refused (hn : s.lsk.recheck = none)
    (h : haltedLane s.lsk.halt ≠ none ∨ s.lsk.unchecked = false ∨ inRun s = false) :
    Completes (.recheck se) s (fun u => u = setRes se .lsk 4 (asked se s)) :=
  completes_lskCommand ha rfl (recheckCmd_refused (s := asked se s) hn h)

theorem completes_recheck (hn : s.lsk.recheck = none) (hh : haltedLane s.lsk.halt = none) (hu : s.lsk.unchecked = true)
    (hr : inRun s = true) :
    Completes (.recheck se) s (fun u => u.ses.tab[se].res.lsk = 1 ∧
      (∃ q, u.lsk = { s.lsk with recheck := some q } ∧ q.asker = some (.here se) ∧ q.start = s.tb.now ∧
        (∀ r, nextCandidate s.tb.now s = some r → q.phase = .candidate ∧ q.r = r)) ∧
      u = { s with lsk := u.lsk, ses := u.ses }) := by
  obtain ⟨q, hq, hasker, hstart, hcand⟩ := openHold_eq_setHold_recheck (.here se) 0 (asked se s)
  refine completes_lskCommand ha rfl ?_
  rw [recheckCmd_accepted (s := asked se s) hn hh hu hr, asked_asker, hq]
  refine ⟨setRes_lskResult .., ⟨q, rfl, hasker, hstart, fun r hr => hcand r ?_⟩, rfl⟩
  exact (nextCandidate_asked ..).trans hr

end

section
variable {s : State} {q : SwitchReq} (hq : s.lsk.recheck = some q)
include hq

theorem completes_recheckInstant (hp : q.phase = .candidate) (ht : q.r ≤ s.tb.now) (hr : ready q.r s = true) :
    Completes .recheckInstant s (fun u =>
      u.lsk.halt = .none ∧ u.lsk.unchecked = false ∧ u.lsk.recheck = none ∧ u.mod.st ≠ .unchecked ∧
      ((∀ t ∈ enabledTasks s, releaseDue t s.tb.now s = false) → (∀ t : Fin 128, u.tsk.rt[t].reload = true) ∧
        (∀ l, s.lsk.halt = .resumed l → laneOf u l = emptyLane (laneOf s l)) ∧
        (∀ se, q.asker = some (.here se) → u.ses.tab[se].res.lsk = 6))) := by
  refine ⟨_, rfl, ?_⟩
  rw [atInstant_recheck_ready hq hp ht hr]
  obtain ⟨t, hgo, hback⟩ := recheckGo_backInStep { q with phase := .verdicts, ownReady := true }
    (setHold .recheck (some { q with phase := .verdicts, ownReady := true }) s)
  rw [hgo]
  have hc : comparison (answerOpt q.asker .lsk 6 (releaseHolds t)) = (.none, false, none) := by simp [hback.compares]
  simp only [comparison, Prod.mk.injEq] at hc
  obtain ⟨hhalt, hunchecked, hrecheck⟩ := hc
  refine ⟨hhalt, hunchecked, hrecheck, ?_, fun hdue => ?_⟩
  · rw [answerOpt_mod, releaseHolds_mod]
    exact hback.role
  · rw [releaseHolds_of_none_due (hback.none_due hdue)]
    refine ⟨fun k => ?_, fun l hl => ?_, fun se hse => ?_⟩
    · rw [answerOpt_tsk, hback.rt, updAll_get]
    · rw [laneOf_answerOpt]
      exact hback.lane l hl
    · dsimp only
      rw [hse, answerOpt_lskResult]

theorem completes_recheckTimeout (hp : q.phase = .searching ∨ q.phase = .candidate) (ht : q.start + 2000000000 ≤ s.tb.now) :
    Completes .recheckTimeout s (fun u => u.lsk.recheck = none ∧ u.lsk.unchecked = s.lsk.unchecked ∧
      ((∀ t ∈ enabledTasks s, releaseDue t s.tb.now s = false) → ∀ se, q.asker = some (.here se) → u.ses.tab[se].res.lsk = 5)) := by
  refine ⟨_, rfl, ?_⟩
  rw [searchLate_recheck_late hq hp ht]
  have hc : comparison (releaseHolds (recheckEnded q s)) = (s.lsk.halt, s.lsk.unchecked, none) := by
    rw [comparison_releaseHolds, comparison_recheckEnded]
  simp only [comparison, Prod.mk.injEq] at hc
  obtain ⟨-, hunchecked, hrecheck⟩ := hc
  refine ⟨hrecheck, hunchecked, fun hdue se hse => ?_⟩
  rw [releaseHolds_of_none_due (none_due_recheckEnded q hdue)]
  unfold recheckEnded
  rw [hse, answerOpt_lskResult]

end

/-- Settles O30: sessions' commands by the command register's lemma; at the quiet instant and at the time limit, what is set holds after the
held releases too, since a release leaves alone how the col compares and what role the module shows. -/
theorem commissioningAndRecheck : Obligations.CommissioningAndRecheck := by
  unfold Obligations.CommissioningAndRecheck
  refine ⟨fun s se ha => ⟨completes_commissionOn ha, completes_commissionOff_refused ha, completes_commissionOff ha,
    completes_recheck_running ha, completes_recheck_refused ha, completes_recheck ha⟩, fun s q hq hp => ⟨fun ht => ?_, completes_recheckInstant hq hp⟩,
    fun s hn => ⟨?_, ?_⟩, fun s q hq hp => ⟨fun ht => ?_, completes_recheckTimeout hq hp⟩⟩
  · exact ⟨_, rfl, atInstant_recheck_early hq hp ht⟩
  · exact ⟨_, rfl, atInstant_recheck_none hn⟩
  · exact ⟨_, rfl, searchLate_recheck_none hn⟩
  · exact ⟨_, rfl, searchLate_recheck_early hq ht⟩

end Sys2Proof.Machine

/-!
R377: NOACK. The end of an attempt to send, acknowledged or not, first brings the row of acknowledgement errors up to date, then sets or
clears NOACK with its record, then judges the error state. The judgement leaves both alone and adds at most a record behind those that stand.
-/

namespace Sys2Proof.Machine

/-! ### Records join the queue at its end (R436) -/

theorem queue_grows_logEv (code : Nat) (det : Bool) (fields : List (Nat × Nat)) (s : State) :
    s.evr.queue <+: (logEv code det fields s).evr.queue := by
  unfold logEv enqueueEv
  split
  · exact ⟨[_], rfl⟩
  · rfl

/-- The first record that `u` holds behind those of `s` has this code and these data. -/
def RecordsNext (s u : State) (code : BitVec 16) (data : BitVec 112) : Prop :=
  ∃ v : Ev, u.evr.queue[s.evr.queue.length]? = some v ∧ v.code = code ∧ v.data = data

theorem recordsNext_logEv (code : Nat) (det : Bool) (fields : List (Nat × Nat)) {s : State} (h : s.evr.queue.length < 256) :
    RecordsNext s (logEv code det fields s) (BitVec.ofNat 16 code) (recData fields) :=
  ⟨eventOf code (severity code det (recData fields)) 0 (recData fields) s, by simp [logEv, enqueueEv, h], rfl, rfl⟩

/-- A record stays where it is while others join the queue. -/
theorem RecordsNext.mono {s u w : State} {code : BitVec 16} {data : BitVec 112} (h : RecordsNext s u code data)
    (hq : u.evr.queue <+: w.evr.queue) : RecordsNext s w code data := by
  obtain ⟨v, hv, hcode, hdata⟩ := h
  obtain ⟨added, hadded⟩ := hq
  obtain ⟨hlt, -⟩ := List.getElem?_eq_some_iff.mp hv
  exact ⟨v, by rw [← hadded, List.getElem?_append_left hlt, hv], hcode, hdata⟩

/-! ### Setting and clearing NOACK, and judging the error state -/

theorem onCan_port (p : Fin 4) (f : Can → Can) (s : State) : (onCan p f s).can[p] = f s.can[p] := upd_same ..

theorem setNoAck_ackErrs (p : Fin 4) (on : Bool) (s : State) : (setNoAck p on s).can[p].ackErrs = s.can[p].ackErrs := by
  unfold setNoAck
  split
  · rfl
  · simp only [logEv_can, onCan_port]

theorem setNoAck_noAck (p : Fin 4) (on : Bool) (s : State) : (setNoAck p on s).can[p].noAck = on := by
  unfold setNoAck
  split
  next h => exact beq_iff_eq.mp h
  next => simp only [logEv_can, onCan_port]

/-- A change of NOACK is recorded. -/
theorem recordsNext_setNoAck {p : Fin 4} {on : Bool} {s : State} (h : s.can[p].noAck = !on) (hq : s.evr.queue.length < 256) :
    RecordsNext s (setNoAck p on s) 0x5004 (recData [(1, p.val), (1, bitNat on)]) := by
  have hne : (s.can[p].noAck == on) = false := by rw [h]; cases on <;> rfl
  rw [setNoAck, hne]
  exact recordsNext_logEv 0x5004 on _ (s := onCan p (fun k => { k with noAck := on }) s) hq

/-- What the judgement of the error state can do: nothing, or a record from a state with the row, NOACK and the recorder as they were. -/
theorem judgeCan_cases (p : Fin 4) (s : State) : judgeCan p s = s ∨
    ∃ code det fields t, judgeCan p s = logEv code det fields t ∧ t.evr = s.evr ∧
      t.can[p].ackErrs = s.can[p].ackErrs ∧ t.can[p].noAck = s.can[p].noAck := by
  unfold judgeCan
  dsimp only
  split
  · exact .inl rfl
  split
  · exact .inr ⟨_, _, _, _, rfl, rfl, by rw [onCan_port], by rw [onCan_port]⟩
  split
  · exact .inl rfl
  · refine .inr ⟨_, _, _, _, rfl, ?_⟩
    split <;> exact ⟨rfl, by rw [onCan_port], by rw [onCan_port]⟩

theorem judgeCan_ackErrs (p : Fin 4) (s : State) : (judgeCan p s).can[p].ackErrs = s.can[p].ackErrs := by
  obtain h | ⟨code, det, fields, t, h, -, herrs, -⟩ := judgeCan_cases p s
  · rw [h]
  · rw [h, logEv_can, herrs]

theorem judgeCan_noAck (p : Fin 4) (s : State) : (judgeCan p s).can[p].noAck = s.can[p].noAck := by
  obtain h | ⟨code, det, fields, t, h, -, -, hno⟩ := judgeCan_cases p s
  · rw [h]
  · rw [h, logEv_can, hno]

theorem queue_grows_judgeCan (p : Fin 4) (s : State) : s.evr.queue <+: (judgeCan p s).evr.queue := by
  obtain h | ⟨code, det, fields, t, h, hevr, -, -⟩ := judgeCan_cases p s
  · rw [h]
  · rw [h, ← hevr]
    exact queue_grows_logEv code det fields t

/-- The record of a change of NOACK stands through the judgement, for whatever state `s` the change began with the records of. -/
theorem recordsNext_judge_setNoAck {p : Fin 4} {on : Bool} {s t : State} (hevr : t.evr = s.evr) (h : t.can[p].noAck = !on)
    (hq : s.evr.queue.length < 256) : RecordsNext s (judgeCan p (setNoAck p on t)) 0x5004 (recData [(1, p.val), (1, bitNat on)]) := by
  have hrec := (recordsNext_setNoAck h (hevr ▸ hq)).mono (queue_grows_judgeCan p _)
  rwa [RecordsNext, hevr] at hrec

/-! ### The end of an attempt to send -/

section
variable {s : State} {p : Fin 4} {b : Fin 32} (hb : activeBuffer s.can[p] = some b)
include hb

/-- An error of the port's own transmission: the row grows or ends, and from the sixteenth acknowledgement error on NOACK is set. -/
theorem canTxError_active {err : CanErr} (d q : Bool) (herr : err ≠ .arbitration) :
    ∃ t, canTxError p err d q s = judgeCan p (if 16 ≤ t.can[p].ackErrs then setNoAck p true t else t) ∧ t.evr = s.evr ∧
      t.can[p].noAck = s.can[p].noAck ∧ t.can[p].ackErrs = if err == .ack then s.can[p].ackErrs + 1 else 0 := by
  have hne : (err == .arbitration) = false := beq_eq_false_iff_ne.mpr herr
  unfold canTxError
  simp only [hb, hne, txErrorCounts, Bool.false_eq_true, reduceIte]
  exact ⟨_, rfl, rfl, by rw [emit, onCan_port], by rw [emit, onCan_port]⟩

/-- An acknowledged transmission of the port ends the row and clears NOACK. -/
theorem canTxComplete_active :
    ∃ t, (canTxComplete p s).can = (judgeCan p (setNoAck p false t)).can ∧
      (canTxComplete p s).evr = (judgeCan p (setNoAck p false t)).evr ∧ t.evr = s.evr ∧
      t.can[p].noAck = s.can[p].noAck ∧ t.can[p].ackErrs = 0 := by
  unfold canTxComplete
  simp only [hb]
  split
  · exact ⟨_, saddle_can .., saddle_evr .., rfl, by rw [onCan_port], by rw [onCan_port]⟩
  · exact ⟨_, rfl, rfl, rfl, by rw [onCan_port], by rw [onCan_port]⟩

theorem completes_canTxError_ack (d q : Bool) : Completes (.canTxError p .ack d q) s (fun u =>
    u.can[p].ackErrs = s.can[p].ackErrs + 1 ∧ u.can[p].noAck = (s.can[p].noAck || decide (16 ≤ s.can[p].ackErrs + 1)) ∧
    (s.can[p].noAck = false → 16 ≤ s.can[p].ackErrs + 1 → s.evr.queue.length < 256 →
      RecordsNext s u 0x5004 (recData [(1, p.val), (1, 1)]))) := by
  obtain ⟨t, hstep, hevr, hno, herrs⟩ := canTxError_active hb (err := .ack) d q (by decide)
  rw [show (CanErr.ack == CanErr.ack) = true from rfl, if_pos rfl] at herrs
  refine ⟨_, rfl, ?_⟩
  beta_reduce
  rw [hstep, ← herrs, ← hno]
  by_cases h16 : 16 ≤ t.can[p].ackErrs
  · rw [decide_eq_true h16, Bool.or_true, if_pos h16, judgeCan_ackErrs, judgeCan_noAck, setNoAck_ackErrs, setNoAck_noAck]
    exact ⟨rfl, rfl, fun hclear _ => recordsNext_judge_setNoAck hevr hclear⟩
  · rw [decide_eq_false h16, Bool.or_false, if_neg h16, judgeCan_ackErrs, judgeCan_noAck]
    exact ⟨rfl, rfl, fun _ h => absurd h h16⟩

theorem completes_canTxError_other {err : CanErr} (d q : Bool) (hack : err ≠ .ack) (harb : err ≠ .arbitration) :
    Completes (.canTxError p err d q) s (fun u => u.can[p].ackErrs = 0 ∧ u.can[p].noAck = s.can[p].noAck) := by
  obtain ⟨t, hstep, -, hno, herrs⟩ := canTxError_active hb d q harb
  rw [beq_eq_false_iff_ne.mpr hack, if_neg Bool.false_ne_true] at herrs
  refine ⟨_, rfl, ?_⟩
  beta_reduce
  rw [hstep, herrs, if_neg (by decide), judgeCan_ackErrs, judgeCan_noAck]
  exact ⟨herrs, hno⟩

theorem completes_canTxComplete_noAck : Completes (.canTxComplete p) s (fun u => u.can[p].ackErrs = 0 ∧ u.can[p].noAck = false ∧
    (s.can[p].noAck = true → s.evr.queue.length < 256 → RecordsNext s u 0x5004 (recData [(1, p.val), (1, 0)]))) := by
  obtain ⟨t, hcan, hrec, hevr, hno, herrs⟩ := canTxComplete_active hb
  refine ⟨_, rfl, ?_⟩
  beta_reduce
  rw [RecordsNext, hcan, hrec, judgeCan_ackErrs, judgeCan_noAck, setNoAck_ackErrs, setNoAck_noAck]
  exact ⟨herrs, rfl, fun hset => recordsNext_judge_setNoAck hevr (hno.trans hset)⟩

end

/-- Settles O59: the row and NOACK are brought up to date before the judgement of the error state, which keeps them and leaves the record
where it stands. -/
theorem sixteenMissingAcknowledgementsSetNoack : Obligations.SixteenMissingAcknowledgementsSetNoack := by
  unfold Obligations.SixteenMissingAcknowledgementsSetNoack
  refine ⟨fun s p b d q hb => completes_canTxError_ack hb d q, fun s p b err d q hb hack harb => ?_,
    fun s p b hb => completes_canTxComplete_noAck hb⟩
  obtain ⟨u, hu, herrs, hno⟩ := completes_canTxError_other hb d q hack harb
  exact ⟨u, hu, herrs, fun _ => hno⟩

end Sys2Proof.Machine

/-!
R443: the last slot. RECORD_WRITE hands an event that is to be written to `beginRecord`, which goes by the number of slots taken: at 65 535 it
writes 0xF003, from 65 536 on it counts the event as lost. A suppressed event does not come that far, nor does one that finds the queue full.
-/

namespace Sys2Proof.Machine

theorem satSucc_eq_min (bound n : Nat) : satSucc bound n = min (n + 1) bound := by
  unfold satSucc
  split <;> omega

/-! ### EVR_STATUS.FULL (R448) -/

/-- The third of five flags in the low bits is bit 2. -/
theorem regFields_flags_bit2 : ∀ b4 b3 b2 b1 b0 : Bool,
    (regFields [(4, bitNat b4), (3, bitNat b3), (2, bitNat b2), (1, bitNat b1), (0, bitNat b0)]).getLsbD 2 = b2 := by decide

theorem regRead_evrStatus_full (s : State) (se : Fin 64) :
    (regRead s se 0x2C00).getLsbD 2 = decide (65536 ≤ s.evr.slots.length) :=
  regFields_flags_bit2 s.evr.closed s.evr.clearing.isSome (decide (65536 ≤ s.evr.slots.length)) s.evr.openRec s.evr.ready

/-! ### The start of a record, by the slots taken (R443) -/

theorem beginRecord_lastSlot (e : Ev) {s : State} (h : s.evr.slots.length = 65535) :
    ∃ v : Ev, v.code = 0xF003 ∧
      beginRecord e s = { s with evr := { s.evr with slots := s.evr.slots ++ [evWord v true], writing := some { v with at_ := e.at_ } } } := by
  refine ⟨eventOf 0xF003 1 0 (recData [(2, e.code.toNat)]) s, rfl, ?_⟩
  simp only [beginRecord, h, reduceIte, Nat.reduceLeDiff]

theorem beginRecord_noSlot (e : Ev) {s : State} (h : 65536 ≤ s.evr.slots.length) :
    beginRecord e s = { s with evr := { s.evr with lost := satSucc max32 s.evr.lost } } :=
  if_pos h

/-! ### What RECORD_WRITE does with the event in front (R435, R441) -/

theorem popEv_queue {s : State} {e : Ev} {rest : List Ev} (hq : s.evr.queue = e :: rest) : (popEv s).evr.queue = rest := by
  rw [popEv, hq, List.drop_one, List.tail_cons]

/-- The event would be written now: it is never limited, or it finds a token and no suppressed records that a summary tells first (R441). -/
def WouldBeWritten (e : Ev) (s : State) : Prop :=
  neverLimited e.code = true ∨
    (tokenNs s.evr.rates[codeClass e.code] ≤ (bucketNow e.code s).level ∧ (bucketNow e.code s).suppressed = 0)

section
variable {s : State} (hready : s.evr.ready = true) (hclosed : s.evr.closed = false) (hclearing : s.evr.clearing = none)
  (hwriting : s.evr.writing = none)
include hready hclosed hclearing hwriting

/-- The condition on which RECORD_WRITE does nothing is not met. -/
theorem recorder_takes : (!s.evr.ready || recorderShut s || s.evr.clearing.isSome || s.evr.writing.isSome) = false := by
  rw [recorderShut, hready, hclosed, hclearing, hwriting]
  rfl

variable {e : Ev} {rest : List Ev} (hafter : s.evr.afterClear = none) (hq : s.evr.queue = e :: rest)
include hafter hq

/-- An event that would be written leaves the queue and is begun, with slots and EVR_LOST as they were. -/
theorem recordWrite_begins (h : WouldBeWritten e s) :
    ∃ t, recordWrite s = beginRecord e t ∧ t.evr.queue = rest ∧ t.evr.slots = s.evr.slots ∧ t.evr.lost = s.evr.lost := by
  simp only [recordWrite, recorder_takes hready hclosed hclearing hwriting, hafter, hq, Bool.false_eq_true, reduceIte]
  by_cases hfree : neverLimited e.code = true
  · rw [if_pos hfree]
    exact ⟨_, rfl, popEv_queue hq, rfl, rfl⟩
  · obtain ⟨htoken, hsupp⟩ := h.resolve_left hfree
    rw [if_neg hfree, if_neg (Nat.not_lt.mpr htoken), hsupp, if_neg (Nat.lt_irrefl 0)]
    exact ⟨_, rfl, popEv_queue hq, rfl, rfl⟩

/-- An event without a token leaves the queue and is counted for its code, not in EVR_LOST. -/
theorem recordWrite_suppresses (hlim : neverLimited e.code = false)
    (h : (bucketNow e.code s).level < tokenNs s.evr.rates[codeClass e.code]) :
    (recordWrite s).evr.queue = rest ∧ (recordWrite s).evr.slots = s.evr.slots ∧ (recordWrite s).evr.lost = s.evr.lost := by
  simp only [recordWrite, recorder_takes hready hclosed hclearing hwriting, hafter, hq, hlim, if_pos h, Bool.false_eq_true, reduceIte]
  exact ⟨popEv_queue hq, rfl, rfl⟩

/-! ### The statement, clause by clause -/

theorem completes_recordWrite_lastSlot (h : WouldBeWritten e s) (hn : s.evr.slots.length = 65535) :
    Completes (.recordWrite .clean) s (fun u => u.evr.queue = rest ∧ u.evr.lost = s.evr.lost ∧
      (∃ v : Ev, u.evr.slots = s.evr.slots ++ [evWord v true] ∧ v.code = 0xF003) ∧ ∀ se, (regRead u se 0x2C00).getLsbD 2 = true) := by
  obtain ⟨t, hstep, hqueue, hslots, hlost⟩ := recordWrite_begins hready hclosed hclearing hwriting hafter hq h
  obtain ⟨v, hcode, hbegin⟩ := beginRecord_lastSlot e (s := t) (by rw [hslots, hn])
  refine ⟨recordWrite s, rfl, ?_⟩
  rw [hstep, hbegin]
  refine ⟨hqueue, hlost, ⟨v, by rw [hslots], hcode⟩, fun se => ?_⟩
  rw [regRead_evrStatus_full, decide_eq_true_iff, List.length_append, hslots, hn]
  rfl

theorem completes_recordWrite_noSlot (h : WouldBeWritten e s) (hn : 65536 ≤ s.evr.slots.length) :
    Completes (.recordWrite .clean) s (fun u => u.evr.queue = rest ∧ u.evr.slots = s.evr.slots ∧
      u.evr.lost = min (s.evr.lost + 1) 0xFFFFFFFF ∧ ∀ se, (regRead u se 0x2C00).getLsbD 2 = true) := by
  obtain ⟨t, hstep, hqueue, hslots, hlost⟩ := recordWrite_begins hready hclosed hclearing hwriting hafter hq h
  refine ⟨recordWrite s, rfl, ?_⟩
  rw [hstep, beginRecord_noSlot e (hslots ▸ hn)]
  refine ⟨hqueue, hslots, ?_, fun se => ?_⟩
  · rw [satSucc_eq_min, hlost]
    rfl
  · rw [regRead_evrStatus_full, decide_eq_true_iff, hslots]
    exact hn

end

/-- An event that finds the queue full is counted as such: the queue and EVR_LOST stay. -/
theorem logEv_of_queue_full (code : Nat) (det : Bool) (fields : List (Nat × Nat)) {s : State} (h : 256 ≤ s.evr.queue.length) :
    (logEv code det fields s).evr.queue = s.evr.queue ∧ (logEv code det fields s).evr.lost = s.evr.lost := by
  unfold logEv enqueueEv
  rw [if_neg (Nat.not_lt.mpr h)]
  exact ⟨rfl, rfl⟩

/-- Settles O58: an event to be written is begun from a state with the slots and EVR_LOST as they were, and the number of slots decides; a
suppressed event, and one that finds the queue full, are counted elsewhere. -/
theorem theLastSlotTellsThatTheRecorderIsFull : Obligations.TheLastSlotTellsThatTheRecorderIsFull := by
  unfold Obligations.TheLastSlotTellsThatTheRecorderIsFull
  refine ⟨fun s e rest hready hclosed hclearing hwriting hafter hq h => ⟨?_, ?_⟩,
    fun s e rest hready hclosed hclearing hwriting hafter hq hlim h => ⟨recordWrite s, rfl, ?_⟩,
    fun s code det fields h => logEv_of_queue_full code det fields h⟩
  · exact completes_recordWrite_lastSlot hready hclosed hclearing hwriting hafter hq h
  · exact completes_recordWrite_noSlot hready hclosed hclearing hwriting hafter hq h
  · exact recordWrite_suppresses hready hclosed hclearing hwriting hafter hq hlim h

end Sys2Proof.Machine
